-- ==== Sys2Proof/Word.lean ====
section
/-! DEFINITION. The words the manual counts in (R2, R3, R5): registers of 32 bits, bytes, and
the index types of the indexed units. -/

namespace Sys2Proof

/-- A register word (R5). -/
abbrev Word := BitVec 32
/-- A byte of the byte-addressed space (R5). -/
abbrev Byte := BitVec 8

/-- Port number, P0 to P31. -/
abbrev PortId := Fin 32
/-- Bank number, B0 to B3. -/
abbrev BankId := Fin 4
/-- Shared high-side group, GRP0 to GRP7. -/
abbrev GroupId := Fin 8
/-- Fan controller, F0 to F7. -/
abbrev FanId := Fin 8
/-- Law slot, L0 to L127. -/
abbrev SlotId := Fin 128
/-- Section, 0 to 127. -/
abbrev SectId := Fin 128
/-- Lock group, LG0 to LG15. -/
abbrev LgId := Fin 16
/-- Host session, 0 to 3. -/
abbrev SessId := Fin 4
/-- Sequencer, S0 to S3. -/
abbrev SeqId := Fin 4
/-- CAN controller, CAN0 to CAN3. -/
abbrev CanId := Fin 4
/-- DMA channel, 0 to 7. -/
abbrev ChId := Fin 8
/-- GNSS tracking channel, 0 to 31. -/
abbrev GnsCh := Fin 32
/-- Cross-device flag, XF0 to XF63. -/
abbrev FlagId := Fin 64
/-- Event counter, MON0 to MON31. -/
abbrev MonId := Fin 32
/-- CAN transport context, 0 to 7 (R273). -/
abbrev CtxId := Fin 8
/-- Entry of Q10 (R19). -/
abbrev EntryId := Fin 256
/-- Entry of the aperture table (R334). -/
abbrev EntId := Fin 256

end Sys2Proof
end

