-- ==== Sys2Proof/Terms.lean ====
section
/-! DEFINITION. The names of the manual that commands carry and states hold: status codes (R11), performance
modes (R29), session roles, command sources (R16, R285) and the measurements an event brings with it. -/

namespace Sys2Proof

/-- The Ralar status codes of R11. -/
inductive Status where
  | ok | busy | denied | authFail | badAddr | interlock | limit | queueFull | superseded | stale | faulted
  | notReady | replay | recipeLocked | gone
deriving DecidableEq, Repr, Inhabited

/-- The code of a status in a response (R11). -/
def Status.code : Status → Nat
  | .ok => 0x00 | .busy => 0x01 | .denied => 0x02 | .authFail => 0x03 | .badAddr => 0x04 | .interlock => 0x05
  | .limit => 0x06 | .queueFull => 0x07 | .superseded => 0x08 | .stale => 0x09 | .faulted => 0x0A
  | .notReady => 0x0B | .replay => 0x0C | .recipeLocked => 0x0D | .gone => 0x0E

/-- The performance modes (R29), encoded in SYS_MODE as 0, 1, 2. -/
inductive Mode where
  | simmer | boil | sear
deriving DecidableEq, Repr, Inhabited

/-- The encoding of a mode in SYS_MODE. -/
def Mode.code : Mode → Nat
  | .simmer => 0 | .boil => 1 | .sear => 2

/-- The mode of an encoding; 0b11 is reserved. -/
def Mode.ofCode : Nat → Option Mode
  | 0 => some .simmer | 1 => some .boil | 2 => some .sear | _ => none

/-- The roles of a host session (R285). -/
inductive Role where
  | operator | service | owner
deriving DecidableEq, Repr, Inhabited

/-- Where a discrete command comes from (R16, R21, R285, R481). -/
inductive Src where
  /-- A host session; the number names the command of the session that waits for the status, 0 for a command of its
  own (R331). -/
  | host (k : SessId) (ref : Nat)
  | seq (q : SeqId) (a : Nat)               -- entry action a of the Step of sequencer q
  | ofSection (i : SectId)                    -- section control of this device
  | lockGroup (g : LgId)                    -- a lock group of this device
  /-- A TIMED_CMD of the manager: its origin (a lock group, or a section) and number, the port, the Q10 entry (0xFF =
  none) and the instant of its execution (0 = not executed), for its CMD_DONE (R240). -/
  | hier (lock : Bool) (id port slot at_ : Nat)
  | fan (f : FanId)                         -- the fan controller that owns the port
  | orphan                                  -- an orphan action (R246)
  | safeOutput (n : SlotId)                 -- the OFF of a slot's safe output (R156)
  | forced                                  -- an interlock forced value (R20, R77)
deriving DecidableEq, Repr, Inhabited

/-- One reading of a port cell's converters and sensors (R37): currents in 1/256 A, voltages in 1/64 V, the
junction temperature as STAT.TJ encodes it. -/
structure Sense where
  iMean : Int
  iPeak : Nat
  vbank : Nat
  vpin : Nat
  tj : Nat
deriving DecidableEq, Repr, Inhabited

/-- What a tracking channel latches at a measurement epoch (R187, R188). -/
structure GnsMeas where
  chan : GnsCh
  codeLock : Bool
  carrierLock : Bool
  slip : Bool
  cn0 : Nat
  /-- Pseudorange in 2^-16 m, carrier phase in 2^-16 cycle, Doppler in 2^-8 Hz. -/
  range : Int
  phase : Int
  doppler : Int
deriving DecidableEq, Repr, Inhabited

/-- A navigation word as the bit logic delivers it (R189). -/
structure NavWord where
  /-- D1 to D30 as received, D1 in bit 29, and D29*, D30* of the word before. -/
  word : BitVec 30
  d29 : Bool
  d30 : Bool
  number : Nat
  subframe : Nat
  /-- Instant of its first bit edge, 2^-32 s. -/
  instant : Nat
  /-- It completes a new issue of ephemeris; it changes an almanac page. -/
  ephemeris : Bool
  almanac : Bool
  /-- The leap-second count, and the 10-bit week, that it completes. -/
  leap : Option Nat
  week : Option Nat
deriving DecidableEq, Repr, Inhabited

/-- A position solution of the runtime (R192): angles in 10^-7 degree, lengths in mm, speeds in mm/s. -/
structure Fix where
  /-- Epoch instant, 2^-32 s. -/
  instant : Nat
  /-- The channels at hand and the elevation of their SVs in degrees. -/
  svs : List (GnsCh × Nat)
  lat : Int
  lon : Int
  hgt : Int
  vn : Int
  ve : Int
  vu : Int
  speed : Nat
  hdg : Nat
  pdop : Nat
  hacc : Nat
  vacc : Nat
deriving DecidableEq, Repr, Inhabited

/-- A frame of the external receiver (R198): latitude and longitude in 10^-7 degree, or course in 0.01 degree with speed
in mm/s. -/
inductive ExtFrame where
  | position (lat lon : Int)
  | course (hdg speed : Nat)
deriving DecidableEq, Repr, Inhabited

/-- The two Recipe slots (R289). -/
inductive RcpSlot where
  | a | b
deriving DecidableEq, Repr, Inhabited

/-- The other slot. -/
def RcpSlot.other : RcpSlot → RcpSlot
  | .a => .b | .b => .a

/-- The encoding of a slot in registers and events. -/
def RcpSlot.code : RcpSlot → Nat
  | .a => 0 | .b => 1

/-- A CAN frame (R254). -/
structure CanFrame where
  xtd  : Bool := false
  rtr  : Bool := false
  fdf  : Bool := false
  brs  : Bool := false
  esi  : Bool := false
  id   : Nat
  dlc  : Nat
  data : List Byte := []
deriving DecidableEq, Repr, Inhabited

/-- A kind of bus error (CANn_ECNT, CANn_ECNT2); `pxe` is a protocol exception (R254). -/
inductive CanErr where
  | bit | stuff | form | ack | crc | pxe
deriving DecidableEq, Repr, Inhabited

/-- What ISO 11898-1 adds to the error counters for a detected error (R267): nothing, 8 to TEC, 1 to REC, 8 to REC. -/
inductive CanRise where
  | none | tec8 | rec1 | rec8
deriving DecidableEq, Repr, Inhabited

/-- How an attempt ends (R260). -/
inductive TxEnd where
  | sent | lost | error
deriving DecidableEq, Repr, Inhabited

/-- What a frame of the ISO 11783 transport protocols means (R273): lengths in bytes, packets by number. -/
inductive TpFrame where
  | bam (pgn len : Nat)
  | rts (pgn len most : Nat)
  | etpRts (pgn len : Nat)
  | dpo (pgn base : Nat)
  | packet (etp : Bool) (seq : Nat) (data : List Byte)
  | abort (pgn reason : Nat)
deriving DecidableEq, Repr, Inhabited

/-- What happens at the address claim of a controller (R272). -/
inductive ClaimEv where
  | claim                       -- the runtime claims its next address
  | claimed                     -- its claim has stood
  | request                     -- Request for Address Claimed
  | contend (addr : Nat) (name : Nat)   -- another NAME claims an address
  | taskController (connected : Bool)   -- the claim of a Task Controller stands and its object pool is active, or not
deriving DecidableEq, Repr, Inhabited

/-- A host as the link knows it (R326, R327): an IPv4 address and UDP port, or a host number on CAN0. -/
inductive Peer where
  | eth (ip port : Nat)
  | can (h : Fin 4)
deriving DecidableEq, Repr, Inhabited

/-- The bits of PRTn_FAULT (W1C field). -/
inductive FaultBit where
  | scg | scb | open | oc | ot | range | sensOpen | sensShort | share | bank
deriving DecidableEq, Repr, Inhabited

/-- The place of a fault bit in PRTn_FAULT. -/
def FaultBit.pos : FaultBit → Nat
  | .scg => 0 | .scb => 1 | .open => 2 | .oc => 3 | .ot => 4 | .range => 5 | .sensOpen => 6 | .sensShort => 7
  | .share => 8 | .bank => 9

/-- The two Clapper links: false = up-link, true = down-link. -/
abbrev Side := Bool

end Sys2Proof
end

