-- ==== Sys2Proof/Syntax.lean ====
section
/-! DEFINITION. The commands of the block: one constructor for each row of the table of steps, with the operands that
the row's rules name. A measured quantity is an operand of the command that brings it. -/

namespace Sys2Proof

/-- A command: what a host, another device, a pin or the passing of a moment does to the block. -/
inductive Instr where
  /-- REGISTER_WRITE (R7). -/
  | registerWrite (a : Nat) (v : Word) (k : SessId)
  /-- INTERLOCK_INPUT_CHANGE (R22). -/
  | interlockInputChange
  /-- TIMED_COMMAND_EXECUTE (R19). -/
  | timedCommandExecute (i : EntryId)
  /-- HWM_RST (R28). -/
  | hwmRst (q : Fin 16) (k : SessId)
  /-- OVF_CLR (R28). -/
  | ovfClr (q : Fin 16) (k : SessId)
  /-- MODE_REQUEST (R32). -/
  | modeRequest (v : Word) (k : SessId)
  /-- PIPELINE_B_UP (R34). -/
  | pipelineBUp
  /-- MODE_SWITCH_EDGE (R34). -/
  | modeSwitchEdge
  /-- PORT_CMD_ON (R72). -/
  | portCmdOn (p : PortId) (dur : Nat) (src : Src)
  /-- PORT_CMD_OFF (R72). -/
  | portCmdOff (p : PortId) (src : Src)
  /-- PORT_PWM_PER_WRITE (R48). -/
  | portPwmPerWrite (p : PortId) (v : Word) (k : SessId)
  /-- PORT_PWM_PH_WRITE (R49). -/
  | portPwmPhWrite (p : PortId) (v : Word) (k : SessId)
  /-- PORT_FAULT_CLEAR (R61). -/
  | portFaultClear (p : PortId) (v : Word) (k : SessId)
  /-- CARRIER_INSTANT (R47). -/
  | carrierInstant (p : PortId)
  /-- REGULATOR_UPDATE (R42). -/
  | regulatorUpdate (p : PortId) (m : Sense)
  /-- INPUT_UPDATE (R43). -/
  | inputUpdate (p : PortId) (mean : Int) (instant : Nat)
  /-- TACH_EDGE (R45). -/
  | tachEdge (p : PortId) (instant : Nat)
  /-- TACH_STALE (R45). -/
  | tachStale (p : PortId)
  /-- DIGITAL_OUTPUT_DUR_END (R41). -/
  | digitalOutputDurEnd (p : PortId)
  /-- SHORT_DETECT (R57). -/
  | shortDetect (p : PortId) (toSupply : Bool) (i : Int)
  /-- OVERCURRENT_DETECT (R57). -/
  | overcurrentDetect (p : PortId) (i : Int)
  /-- TIME_OVER_LIMIT (R58). -/
  | timeOverLimit (p : PortId) (i : Int)
  /-- OVERTEMP_DETECT (R57). -/
  | overtempDetect (p : PortId) (tj : Nat)
  /-- OPEN_LOAD_DETECT (R57). -/
  | openLoadDetect (p : PortId) (i : Int)
  /-- SHARE_IMBALANCE (R55). -/
  | shareImbalance (p : PortId) (i : Int)
  /-- INPUT_FAULT_DETECT (R57). -/
  | inputFaultDetect (p : PortId) (b : FaultBit)
  /-- INPUT_FAULT_END (R483). -/
  | inputFaultEnd (p : PortId) (b : FaultBit)
  /-- BURDEN_RECONNECT (R483). -/
  | burdenReconnect (p : PortId)
  /-- BANK_OVERLOAD (R60). -/
  | bankOverload (b : BankId) (load : Int)
  /-- BANK_TRIP (R60). -/
  | bankTrip (b : BankId) (load : Int)
  /-- BANK_OVERLOAD_END (R60). -/
  | bankOverloadEnd (b : BankId) (load : Int)
  /-- PORT_RETRY (R59). -/
  | portRetry (p : PortId)
  /-- RETRY_COUNT_RESET (R59). -/
  | retryCountReset (p : PortId)
  /-- END_OF_STROKE (R79). -/
  | endOfStroke (p : PortId) (delay vbank : Nat)
  /-- HIT_END (R66). -/
  | hitEnd (p : PortId)
  /-- BRIDGE_END (R66). -/
  | bridgeEnd (p : PortId)
  /-- HOLD_END (R71). -/
  | holdEnd (p : PortId)
  /-- END_OF_TRAVEL (R80). -/
  | endOfTravel (p : PortId) (delay vbank : Nat)
  /-- RELEASE_END (R66). -/
  | releaseEnd (p : PortId) (i : Int)
  /-- RELEASE_TIMEOUT (R69). -/
  | releaseTimeout (p : PortId) (i : Int)
  /-- DEFERRED_HIT_START (R90). -/
  | deferredHitStart (g : GroupId)
  /-- HIT_DEFERRED_TIMEOUT (R91). -/
  | hitDeferredTimeout (g : GroupId)
  /-- COIL_MODEL_UPDATE (R93). -/
  | coilModelUpdate (p : PortId) (irmsSq : Nat) (housing : Int)
  /-- WINDING_RESISTANCE_WINDOW (R94). -/
  | windingResistanceWindow (p : PortId) (v i least : Nat) (steady : Bool)
  /-- DELAY_TABLE_SAVE (R85). -/
  | delayTableSave
  /-- SOL_DSEL_WRITE (R98). -/
  | solDselWrite (v : Word) (k : SessId)
  /-- SOL_DCLR (R98). -/
  | solDclr (v : Word) (k : SessId)
  /-- FAN_EVALUATION (R102). -/
  | fanEvaluation (f : FanId)
  /-- FAN_KICK_TIMEOUT (R109). -/
  | fanKickTimeout (f : FanId) (mean : Int)
  /-- FAN_PAUSE_END (R102). -/
  | fanPauseEnd (f : FanId)
  /-- FAN_STALL (R110). -/
  | fanStall (f : FanId)
  /-- TACH_JUDGEMENT (R111). -/
  | tachJudgement (f : FanId) (mean : Int)
  /-- FAN_TACH_RESTORED (R112). -/
  | fanTachRestored (f : FanId)
  /-- FAN_TEMP_FAULT (R107). -/
  | fanTempFault (f : FanId)
  /-- ENABLE (R114). -/
  | enable (f : FanId) (k : SessId)
  /-- DISABLE (R103). -/
  | disable (f : FanId) (k : SessId)
  /-- TEST (R114). -/
  | test (f : FanId) (k : SessId)
  /-- RESTART (R114). -/
  | restart (f : FanId) (k : SessId)
  /-- FAN_MDUTY_WRITE (R107). -/
  | fanMdutyWrite (f : FanId) (v : Word) (k : SessId)
  /-- FAN_HTEMP_WRITE (R107). -/
  | fanHtempWrite (f : FanId) (v : Word) (k : SessId)
  /-- AGEING_SAMPLE (R115). -/
  | ageingSample (f : FanId) (vbank freq : Nat) (steady : Bool)
  /-- FAN_AGE_SAVE (R116). -/
  | fanAgeSave
  /-- FAN_AGECLR (R116). -/
  | fanAgeclr (f : FanId) (v : Word) (k : SessId)
  /-- THERM_TRIP (R117). -/
  | thermTrip (low sfault : Bool) (sensor : Int)
  /-- SLOT_TRIGGER (R159). -/
  | slotTrigger (n : SlotId) (instant latency : Nat) (clean : Bool) (xs : List (Nat × Int))
  /-- FOLLOWING_ERROR (R155). -/
  | followingError (n : SlotId)
  /-- FEEDBACK_LOST (R146). -/
  | feedbackLost (n : SlotId)
  /-- SETPOINT_LOST (R145). -/
  | setpointLost (n : SlotId)
  /-- SWAP (R136). -/
  | swap (n : SlotId) (k : SessId)
  /-- CLRFLT (R157). -/
  | clrflt (n : SlotId) (k : SessId)
  /-- RSTATS (R142). -/
  | rstats (n : SlotId) (k : SessId)
  /-- SLOT_MODE_REQUEST (R149). -/
  | slotModeRequest (n : SlotId) (v : Word) (k : SessId)
  /-- SLOT_SP_WRITE (R144). -/
  | slotSpWrite (n : SlotId) (v : Word) (k : SessId)
  /-- SLOT_MANOUT_WRITE (R151). -/
  | slotManoutWrite (n : SlotId) (v : Word) (k : SessId)
  /-- SLOT_BANK_WORD_WRITE (R135). -/
  | slotBankWordWrite (n : SlotId) (b : Bool) (i : Fin 48) (v : Word) (k : SessId)
  /-- TAKE_START (R160). -/
  | takeStart (k : SessId)
  /-- TAKE_ABORT (R162). -/
  | takeAbort (k : SessId)
  /-- RATEM_UPDATE (R165). -/
  | ratemUpdate (milliC : Int) (ok : Bool)
  /-- OFFSET_MEASUREMENT (R166). -/
  | offsetMeasurement (bias : Int) (ok : Bool)
  /-- JUDGEMENT (R170). -/
  | judgement (mean : Int) (ok : Bool)
  /-- JUDGEMENT_AFRESH (R170). -/
  | judgementAfresh (mean : Int) (ok : Bool)
  /-- TIME_STEP (R171). -/
  | timeStep
  /-- TIME_LOCKED (R168). -/
  | timeLocked
  /-- LOCK_LOST (R170). -/
  | lockLost
  /-- TIME_HOLDOVER (R175). -/
  | timeHoldover
  /-- TIME_HOLDOVER_EXPIRED (R175). -/
  | timeHoldoverExpired
  /-- GNSS_SOLUTION_TIMEOUT (R168). -/
  | gnssSolutionTimeout
  /-- RTC_LOAD (R169). -/
  | rtcLoad (secs : Nat)
  /-- RTC_SAVE (R169). -/
  | rtcSave
  /-- TP_PULSE (R177). -/
  | tpPulse
  /-- TMB_FRAC_READ (R180). -/
  | tmbFracRead (k : SessId)
  /-- TMB_RATEL_READ (R180). -/
  | tmbRatelRead (k : SessId)
  /-- SET (R174). -/
  | set (k : SessId)
  /-- RESTEER (R167). -/
  | resteer (ok : Bool) (k : SessId)
  /-- OSCILLATOR_MODEL_SAVE (R176). -/
  | oscillatorModelSave
  /-- GNSS_RESTART (R190). -/
  | gnssRestart (above : List Nat) (k : SessId)
  /-- GNSS_COLD (R190). -/
  | gnssCold (k : SessId)
  /-- GNSS_RATE_WRITE (R193). -/
  | gnssRateWrite (v : Word) (k : SessId)
  /-- CHANNEL_ASSIGN (R185). -/
  | channelAssign (c : GnsCh) (prn : Nat)
  /-- SEARCH_END (R185). -/
  | searchEnd (c : GnsCh) (found : Bool)
  /-- PULLIN_END (R185). -/
  | pullinEnd (c : GnsCh) (locked : Bool)
  /-- BIT_SYNC (R185). -/
  | bitSync (c : GnsCh)
  /-- PREAMBLE_CONFIRMED (R185). -/
  | preambleConfirmed (c : GnsCh) (inverted : Bool)
  /-- REACQ_ENTRY (R185). -/
  | reacqEntry (c : GnsCh)
  /-- REACQ_END (R185). -/
  | reacqEnd (c : GnsCh) (found : Bool)
  /-- GNSS_CHANNEL_FAULT (R182). -/
  | gnssChannelFault (c : GnsCh)
  /-- GNSS_ANT_FAULT (R184). -/
  | gnssAntFault (short : Bool) (i v : Nat)
  /-- ANT_BIAS_RETRY (R184). -/
  | antBiasRetry (i v : Nat)
  /-- DUTY_WINDOW (R186). -/
  | dutyWindow (opens : Bool)
  /-- MEASUREMENT_EPOCH (R187). -/
  | measurementEpoch (ms : List GnsMeas)
  /-- NAV_WORD (R189). -/
  | navWord (c : GnsCh) (w : NavWord)
  /-- PVT_SOLUTION (R192). -/
  | pvtSolution (v : Fix)
  /-- GNSS_FIX_LOST (R192). -/
  | gnssFixLost
  /-- SECTION_EVALUATION (R209). -/
  | sectionEvaluation (clean : Bool)
  /-- SECT_REFUSE_PAUSE_END (R213). -/
  | sectRefusePauseEnd (i : SectId)
  /-- ENGAGE (R216). -/
  | engage (k : SessId)
  /-- ENGAGE_EXT (R216). -/
  | engageExt (k : SessId)
  /-- DISENGAGE (R215). -/
  | disengage (k : SessId)
  /-- SET_ON (R215). -/
  | setOn (k : SessId)
  /-- SET_OFF (R215). -/
  | setOff (k : SessId)
  /-- BCHECK (R203). -/
  | bcheck (k : SessId)
  /-- SECTION_CLRFLT (R218). -/
  | sectionClrflt (k : SessId)
  /-- BOUNDARY_WRITE (R203). -/
  | boundaryWrite (a : Nat) (v : Word) (k : SessId)
  /-- EXT_POSITION_FRAME (R198). -/
  | extPositionFrame (f : ExtFrame) (name : Nat)
  /-- SECT_POS_LOST (R217). -/
  | sectPosLost
  /-- SPEED_DISAGREE (R200). -/
  | speedDisagree
  /-- SPEED_DISAGREE_END (R200). -/
  | speedDisagreeEnd
  /-- TC_SETPOINT (R223). -/
  | tcSetpoint (d : Nat) (v : Word)
  /-- TC_LOST (R223). -/
  | tcLost
  /-- STRAP_CHANGE (R225). -/
  | strapChange (addr : Nat)
  /-- BMARK (R233). -/
  | bmark (edge : Nat)
  /-- BEACON (R233). -/
  | beacon (hop cum ms sec q : Nat) (ok : Bool) (n : Nat) (ann : Option (Nat × Nat × Nat)) (crc : Nat)
  /-- BEACON_SEND (R233). -/
  | beaconSend
  /-- EREQ (R231). -/
  | ereq
  /-- ECHO_REQUEST (R231). -/
  | echoRequest (edge : Nat)
  /-- ERSP (R231). -/
  | ersp (tat crc edge : Nat)
  /-- ECHO_FAIL (R231). -/
  | echoFail
  /-- LINK_DOWN (R230). -/
  | linkDown (down : Side)
  /-- LINK_UP (R230). -/
  | linkUp (down : Side)
  /-- FLAG (R238). -/
  | flag (from_ : Side) (orig idx : Nat) (val : Bool) (crc : Nat)
  /-- FLAG_SEND (R237). -/
  | flagSend (k : FlagId)
  /-- XFLAG_FAILED (R238). -/
  | xflagFailed (k : FlagId)
  /-- HOPFAIL (R238). -/
  | hopfail (from_ : Side) (rep : Nat) (down : Bool) (crc : Nat)
  /-- DATA (R229). -/
  | data (from_ : Side) (dst : Nat) (som eom : Bool) (payload : List Byte) (crc : Nat)
  /-- CAN3_SEGMENT (R241). -/
  | can3Segment (sender : Nat) (data : List Byte)
  /-- HEARTBEAT_SEND (R243). -/
  | heartbeatSend
  /-- HEARTBEAT (R226). -/
  | heartbeat (sender : Nat) (b : List Byte)
  /-- TIMED_CMD (R243). -/
  | timedCmd (sender : Nat) (b : List Byte)
  /-- CMD_DONE (R240). -/
  | cmdDone (sender : Nat) (b : List Byte)
  /-- RESERVE (R242). -/
  | reserve (sender : Nat) (b : List Byte)
  /-- LG_DESC (R251). -/
  | lgDesc (sender : Nat) (b : List Byte)
  /-- LG_STOP (R240). -/
  | lgStop (sender : Nat) (b : List Byte)
  /-- DELAY_TAB (R208). -/
  | delayTab (sender : Nat) (b : List Byte)
  /-- RELEASE (R247). -/
  | release (sender : Nat) (b : List Byte)
  /-- WORKER_LOST (R244). -/
  | workerLost (a : Fin 64)
  /-- MANAGER_LOST (R245). -/
  | managerLost
  /-- WORKER_RELEASE (R247). -/
  | workerRelease (a : Fin 64)
  /-- HIE_RELEASE (R247). -/
  | hieRelease (a : Fin 64) (k : SessId)
  /-- ORPHAN_RAMP_STEP (R246). -/
  | orphanRampStep
  /-- LG_START (R251). -/
  | lgStart (g : LgId) (src : Src)
  /-- LG_STOP_CMD (R251). -/
  | lgStopCmd (g : LgId) (src : Src)
  /-- LG_STARTED (R251). -/
  | lgStarted (g : LgId)
  /-- LG_STOPPED (R251). -/
  | lgStopped (g : LgId)
  /-- LG_MEMBER_PLACE (R251). -/
  | lgMemberPlace (g : LgId) (m : Fin 32)
  /-- LG_MEMBER_JOINED (R251). -/
  | lgMemberJoined (g : LgId) (m : Fin 32)
  /-- CAN_INTEGRATED (R253). -/
  | canIntegrated (c : CanId)
  /-- ENQUEUE (R258). -/
  | enqueue (c : CanId) (k : SessId)
  /-- ABORT (R261). -/
  | abort (c : CanId) (h : Nat) (k : SessId)
  /-- ABORT_ALL (R261). -/
  | abortAll (c : CanId) (k : SessId)
  /-- ABORT_ENQ (R261). -/
  | abortEnq (c : CanId) (k : SessId)
  /-- TX_ATTEMPT (R259). -/
  | txAttempt (c : CanId)
  /-- TX_ATTEMPT_END (R260). -/
  | txAttemptEnd (c : CanId) (r : TxEnd) (tdcv : Option Nat)
  /-- CAN_FRAME_RX (R264). -/
  | canFrameRx (c : CanId) (x : CanFrame) (sof : Nat)
  /-- CAN_ERROR (R267). -/
  | canError (c : CanId) (e : CanErr) (r : CanRise)
  /-- CAN_BUS_OFF_RECOVERED (R269). -/
  | canBusOffRecovered (c : CanId)
  /-- RECOVER (R269). -/
  | recover (c : CanId) (k : SessId)
  /-- CLRCNT (R418). -/
  | clrcnt (c : CanId) (k : SessId)
  /-- OPMODE_WRITE (R263). -/
  | opmodeWrite (c : CanId) (m : Nat) (busy : Bool) (k : SessId)
  /-- CAN_EWL_WRITE (R268). -/
  | canEwlWrite (c : CanId) (v : Word) (k : SessId)
  /-- CAN_MSGREL (R273). -/
  | canMsgrel (c : CanId) (v : Word) (k : SessId)
  /-- ISO_ADDR_CLAIM (R272). -/
  | isoAddrClaim (c : CanId) (ev : ClaimEv)
  /-- ISO_TP_PACKET (R273). -/
  | isoTpPacket (c : CanId) (src dst : Nat) (f : TpFrame)
  /-- ISO_TP_TIMEOUT (R273). -/
  | isoTpTimeout (c : CanId) (i : CtxId)
  /-- CAN_WAKE (R274). -/
  | canWake (high : Bool)
  /-- WRITE (R291). -/
  | write (x : RcpSlot) (k : SessId)
  /-- RECIPE_WRITTEN (R291). -/
  | recipeWritten (bad : Option (Nat × Nat))
  /-- DISCARD (R292). -/
  | discard (k : SessId)
  /-- RECIPE_RESTART (R292). -/
  | recipeRestart (k : SessId)
  /-- RELOAD (R294). -/
  | reload (k : SessId)
  /-- RELOAD_COMMIT (R295). -/
  | reloadCommit
  /-- RELOAD_DONE (R295). -/
  | reloadDone
  /-- RELOAD_ABORTED (R295). -/
  | reloadAborted
  /-- HELLO (R313). -/
  | hello (p : Peer) (body : List Byte)
  /-- FINISH (R312). -/
  | finish (k : SessId) (frame : List Byte)
  /-- HANDSHAKE_TIMEOUT (R312). -/
  | handshakeTimeout (k : SessId)
  /-- READ (R330). -/
  | read (k : SessId) (fence : Bool) (tag addr count : Nat)
  /-- HOST_WRITE (R330). -/
  | hostWrite (k : SessId) (fence : Bool) (tag addr : Nat) (ws : List Word)
  /-- PING (R329). -/
  | ping (k : SessId) (fence : Bool) (tag addr : Nat)
  /-- CLOSE (R315). -/
  | close (k : SessId)
  /-- SESSION_LIFETIME_END (R315). -/
  | sessionLifetimeEnd (k : SessId)
  /-- SESSION_IDLE_END (R315). -/
  | sessionIdleEnd (k : SessId)
  /-- FUSE (R316). -/
  | fuse (i : Fin 4) (k : SessId)
  /-- REVOKE (R316). -/
  | revoke (i : Fin 4) (k : SessId)
  /-- HKEY_INSTALL (R317). -/
  | hkeyInstall (k : SessId)
  /-- ROTATE (R318). -/
  | rotate (k : SessId)
  /-- EPOCH_ROTATION_DUE (R318). -/
  | epochRotationDue
  /-- KEY_ROTATE (R318). -/
  | keyRotate (sender : Nat) (b : List Byte)
  /-- EPOCH_ACTIVATION (R318). -/
  | epochActivation
  /-- KEY_STALE (R318). -/
  | keyStale
  /-- COUNTER_FLOOR_WRITE (R319). -/
  | counterFloorWrite
  /-- ATTEST (R322). -/
  | attest (k : SessId)
  /-- DBG_CHALLENGE (R320). -/
  | dbgChallenge (k : SessId)
  /-- DBG_UNLOCK (R320). -/
  | dbgUnlock (k : SessId)
  /-- DBG_LOCK (R320). -/
  | dbgLock (k : SessId)
  /-- DEBUG_DURATION_END (R320). -/
  | debugDurationEnd
  /-- CHALLENGE_EXPIRY (R320). -/
  | challengeExpiry
  /-- TAMPER_ACK (R321). -/
  | tamperAck (k : SessId)
  /-- RT_WRITE (R305). -/
  | rtWrite (i : Fin 2) (k : SessId)
  /-- SEC_CLOSE (R315). -/
  | secClose (k : SessId)
  /-- TAMPER_DETECTED (R321). -/
  | tamperDetected (short : Bool)
  /-- ROLLBACK_FLOOR_RAISE (R305). -/
  | rollbackFloorRaise
  /-- ETHERNET_FRAME_RX (R324). -/
  | ethernetFrameRx (b : List Byte)
  /-- HOST_LINK_DOWN (R326). -/
  | hostLinkDown (up : Bool)
  /-- SAVE (R325). -/
  | save (k : SessId)
  /-- CAN0_SEGMENT (R328). -/
  | can0Segment (h : Fin 4) (data : List Byte)
  /-- GRANT (R339). -/
  | grant (k : SessId)
  /-- FREE (R339). -/
  | free (i : EntId) (k : SessId)
  /-- FREEALL (R339). -/
  | freeall (k : SessId)
  /-- CLAIM (R345). -/
  | claim (n : ChId) (k : SessId)
  /-- DMA_RELEASE (R345). -/
  | dmaRelease (n : ChId) (k : SessId)
  /-- DMA_START (R345). -/
  | dmaStart (n : ChId) (k : SessId)
  /-- DMA_ABORT (R345). -/
  | dmaAbort (n : ChId) (k : SessId)
  /-- RESUME (R350). -/
  | resume (n : ChId) (k : SessId)
  /-- RDPTR_WRITE (R344). -/
  | rdptrWrite (n : ChId) (v : Word) (k : SessId)
  /-- DMA_BURST (R343). -/
  | dmaBurst
  /-- DESCRIPTOR_DONE (R346). -/
  | descriptorDone (n : ChId)
  /-- DMA_FAULT (R347). -/
  | dmaFault (n : ChId) (k : Nat) (ecc : Option Nat)
  /-- FAULT_RECORD_QUEUED (R348). -/
  | faultRecordQueued (n : ChId)
  /-- SEQ_EVALUATION (R356). -/
  | seqEvaluation (q : SeqId)
  /-- SEQ_START (R362). -/
  | seqStart (q : SeqId) (k : SessId)
  /-- SEQ_STOP (R362). -/
  | seqStop (q : SeqId) (k : SessId)
  /-- SEQ_PAUSE (R362). -/
  | seqPause (q : SeqId) (k : SessId)
  /-- SEQ_RESUME (R362). -/
  | seqResume (q : SeqId) (k : SessId)
  /-- SEQ_HCMD_WRITE (R363). -/
  | seqHcmdWrite (q : SeqId) (v : Word) (k : SessId)
  /-- RECORD_COMMIT (R382). -/
  | recordCommit
  /-- LOST_EVENTS (R381). -/
  | lostEvents
  /-- RECORDER_START (R384). -/
  | recorderStart (torn : Bool)
  /-- REC_WINDOW_READ (R388). -/
  | recWindowRead (w : Fin 16) (k : SessId)
  /-- REC_WINSEQ_READ (R389). -/
  | recWinseqRead (k : SessId)
  /-- PERIOD_BOUNDARY (R396). -/
  | periodBoundary (sec step beacon : Bool)
  /-- MON_COUNTER_SAT (R393). -/
  | monCounterSat (n : MonId)
  /-- LATCH (R398). -/
  | latch (k : SessId)
  /-- MON_PCFG_WRITE (R398). -/
  | monPcfgWrite (second : Bool) (v : Word) (k : SessId)
  /-- MON_LIVEL_READ (R399). -/
  | monLivelRead (n : MonId) (k : SessId)
  /-- CAL_USER_SET (R403). -/
  | calUserSet (i : Fin 33) (c : Fin 8) (v : Word) (k : SessId)
  /-- CAL_USER_STORE (R404). -/
  | calUserStore
  /-- CAL_CLR (R404). -/
  | calClr (v : Word) (k : SessId)
  /-- PLL_LOSS (R411). -/
  | pllLoss
  /-- TCXO_COUNT (R411). -/
  | tcxoCount (n : Nat)
  /-- AON_EDGE_MISSING (R411). -/
  | aonEdgeMissing
  /-- XCLR (R418). -/
  | xclr (k : SessId)
  /-- SNAPSHOT_FALLBACK (R415). -/
  | snapshotFallback (p : Fin 13)
  /-- DOMAIN_RESET (R424). -/
  | domainReset (d : Fin 12)
  /-- SUPPLY_WARNING (R436). -/
  | supplyWarning (mv : Nat)
  /-- ORDERLY_POWER_DOWN (R429). -/
  | orderlyPowerDown
  /-- SUPPLY_WARNING_END (R437). -/
  | supplyWarningEnd (least : Nat)
  /-- DEFERRED_ON_RELEASE (R437). -/
  | deferredOnRelease
  /-- BROWNOUT (R432). -/
  | brownout
  /-- LOCKSTEP_MISMATCH (R14). -/
  | lockstepMismatch (pair : Nat)
  /-- WATCHDOG (R432). -/
  | watchdog (pair : Nat)
  /-- DOMAIN_POWER_FAIL (R431). -/
  | domainPowerFail (d : Fin 12) (mv : Nat)
  /-- START (R434). -/
  | start (addr : Nat) (rom : Bool) (page : Nat) (housing : Int) (down : Nat) (above : List Nat)
  /-- BANK_SUPPLY_FAULT (R441). -/
  | bankSupplyFault (b : BankId) (above : Bool) (mv : Nat)
  /-- BANK_SUPPLY_OK (R442). -/
  | bankSupplyOk (b : BankId) (c : Fin 3) (mv : Nat)
  /-- STANDBY (R445). -/
  | standby (k : SessId)
  /-- SLEEP (R445). -/
  | sleep (k : SessId)
  /-- WAKE_PIN (R446). -/
  | wakePin (high : Bool)
  /-- RTC_ALARM (R446). -/
  | rtcAlarm (high : Bool)
  /-- LOGIC_WAKE (R446). -/
  | logicWake
  /-- PWR_RTCL_READ (R435). -/
  | pwrRtclRead (k : SessId)
  /-- PWR_CFG_WRITE (R443). -/
  | pwrCfgWrite (v : Word) (k : SessId)
  /-- GNSS_POSITION_SAVE (R190). -/
  | gnssPositionSave
  /-- OPS_S_SAVE (R376). -/
  | opsSSave
  /-- DELAY_TAB_PERIODIC_SEND (R208). -/
  | delayTabPeriodicSend
  /-- GNSS_ANT_FAULT_ENDED (R184). -/
  | gnssAntFaultEnded (i v : Nat)
  /-- D0_SUPPLY_LOST (R484). -/
  | d0SupplyLost
  /-- SLOT_ERASED (R292). -/
  | slotErased
  /-- WAKE_DETECTOR_RESUME (R443). -/
  | wakeDetectorResume
deriving DecidableEq, Repr, Inhabited

end Sys2Proof
end

