-- ==== Sys2Proof/Decode.lean ====
section
/-! DEFINITION. Commands spelt by bits: the table of steps gives no row any bits. -/

namespace Sys2Proof

/-- The command that a word spells by the table's bits. No row of the table has bits, so no word spells one. -/
def decodeTableWord (nbits w : Nat) : Option Instr :=
  match nbits, w with
  | _, _ => none

end Sys2Proof
end

