-- ==== Sys2Proof/Config.lean ====
section
/-! DEFINITION. What the manual leaves to an external standard, to physics or to nobody: constants without a body,
so that no proof can see their values. Each is named in a row of notes/assumptions. -/

namespace Sys2Proof.Config

/-- A number the manual gives no value for; the argument is the state's counter of free values. -/
opaque freeNat : Nat → Nat
/-- A word the manual gives no value for. -/
opaque freeWord : Nat → BitVec 32
/-- The satellites whose predicted elevation is above the mask, where no command names them. -/
opaque svsAbove : Nat → List Nat
/-- Which neighbour a reported number takes where the manual states no rounding: true = the upper one.
Arguments: the register's place in the log, the numerator and the denominator of the exact value. -/
opaque roundUp : Nat → Int → Nat → Bool

/-- The natural logarithm (R43); no numeric format is stated for it. -/
opaque ln : Rat → Rat
/-- The temperature in m°C of a PT1000 resistance in mΩ (R38, R43); the manual gives no equation for the probe. -/
opaque pt1000 : Rat → Rat
/-- The duty that the port regulator sets: target, mean current, KP, KI, update (R42). The manual gives the gains and
the rate, and no equation. -/
opaque regulatorDuty : Int → Int → BitVec 32 → BitVec 32 → Nat → Nat

/-- RATEM of the oscillator model (R176): the means of the bins, the ageing slope, the temperature in m°C and the
time learnt in 100 ms. The manual says that it interpolates and adds an ageing term, and gives no equation. -/
opaque oscRate : List (Option Rat) → Rat → Int → Nat → Int
/-- The ageing slope after one more rate learnt in LOCKED (R176): the slope, the rate, the time learnt. -/
opaque oscSlope : Rat → Int → Nat → Rat
/-- The runtime's estimate of the time error in ns (R175): quality code, seconds in HOLDOVER or EXPIRED, last d. -/
opaque timeError : Nat → Nat → Rat → Nat

/-- The frequency of a chirp at sample k of N, from its start and stop frequencies in Hz (R160): a real power that the
manual gives no format for. -/
opaque chirpHz : Nat → Nat → Nat → Nat → Rat
/-- The sine of an angle in turns (R160, R198, R201). -/
opaque sinTurns : Rat → Rat
/-- The circle constant, for the turn of a path at constant turn rate (R198). -/
opaque pi : Rat
/-- Millimetres per 10^-7 degree northward and eastward at an origin latitude in 10^-7 degree: the WGS 84 meridian and
prime-vertical radii of R197. -/
opaque earth : Int → Rat × Rat
/-- The output of a GNSS tracking law (R133): the manual names DLL and PLL/FLL laws and gives no equation. -/
opaque trackingLaw : Nat → Int → Int → Nat → Int

/-- SHA-256 of a byte string (FIPS 180-4); the manual names the standard and gives no body. -/
opaque sha256 : List (BitVec 8) → List (BitVec 8)
/-- ECDSA P-256 verification: public key, digest, signature. -/
opaque ecdsaVerify : List (BitVec 8) → List (BitVec 8) → List (BitVec 8) → Bool
/-- ECDSA P-256 signature under the device key: digest. -/
opaque deviceSign : List (BitVec 8) → List (BitVec 8)
/-- HKDF (RFC 5869): input key, salt, info, length. -/
opaque hkdf : List (BitVec 8) → List (BitVec 8) → List (BitVec 8) → Nat → List (BitVec 8)
/-- ECDH on P-256: private scalar, public point. -/
opaque ecdh : List (BitVec 8) → List (BitVec 8) → List (BitVec 8)
/-- The public point of a private scalar. -/
opaque ecPublic : List (BitVec 8) → List (BitVec 8)
/-- Bytes of the random source: number of the draw, length. -/
opaque random : Nat → Nat → List (BitVec 8)

/-- AES-256-GCM opening: key, nonce, additional data, ciphertext, tag; none = the tag does not verify. -/
opaque gcmOpen : List (BitVec 8) → List (BitVec 8) → List (BitVec 8) → List (BitVec 8) → List (BitVec 8) →
  Option (List (BitVec 8))
/-- AES-256-GCM sealing: key, nonce, additional data, plaintext, tag length; the ciphertext and the tag. -/
opaque gcmSeal : List (BitVec 8) → List (BitVec 8) → List (BitVec 8) → List (BitVec 8) → Nat → List (BitVec 8)
/-- The public key of this device, X and Y (R303): a physical unclonable function gives it. -/
opaque devicePublic : List (BitVec 8)
/-- DCERT of this device (R303). -/
opaque deviceCert : List (BitVec 8)
/-- The MAC address that Draveel assigned (R325), octet 0 first. -/
opaque mac : List (BitVec 8)
/-- Whether a runtime image verifies, and its version (R305): the manual gives no layout of an image. -/
opaque runtimeImage : List (BitVec 8) → Option Nat
/-- The version of the security ROM (R322). -/
opaque romVersion : Nat
/-- The code of a hierarchy message (R240) that a HIER frame of this header and body carries: the manual lays out bodies
without it. -/
opaque hierCode : List (BitVec 8) → List (BitVec 8) → Nat
/-- The code of a kind of bus error in event payloads (R275). -/
opaque canErrCode : Nat → Nat
/-- RLIM and AGE of the runtime's own CAN frames for which no chapter gives them (R262): controller, then RLIM or AGE. -/
opaque canLimit : Nat → Bool → Nat
/-- What the runtime's aperture entries hold (R336): entry, then window page, target page, pages, rights. -/
opaque runtimeEntry : Nat → Nat → Nat

/-- The body of an AUTH_FAIL or REPLAY answer (R311): status, CTR of the failing frame. The manual gives no layout. -/
opaque authAnswer : Nat → Nat → List (BitVec 8)
/-- The context byte of a host-link event that concerns no context. -/
opaque noContext : Nat
/-- SYS_ID.ORDER and SREV. -/
opaque order : Nat
opaque siliconRev : Nat

end Sys2Proof.Config
end

