-- ==== Sys2Proof/Machine/Bits.lean ====
section
/-! DEFINITION. Bit fields, signed readings, little-endian bytes (R3), the three CRCs the manual defines
(R227, R372), and the updates of one element of an indexed group. -/

namespace Sys2Proof.Machine

open Sys2Proof

/-- The field of `n` bits whose least bit is `lo`. -/
def bits (w : Word) (lo n : Nat) : Nat := (w.toNat / 2 ^ lo) % 2 ^ n

/-- One bit of a word. -/
def bit (w : Word) (i : Nat) : Bool := w.getLsbD i

/-- The field of `n` bits at `lo` read as two's complement. -/
def sbits (w : Word) (lo n : Nat) : Int :=
  let v := bits w lo n
  if v < 2 ^ (n - 1) then (v : Int) else (v : Int) - (2 ^ n : Nat)

/-- A natural number's field of `n` bits at `lo`, placed for a register word. -/
def put (v lo n : Nat) : Nat := (v % 2 ^ n) * 2 ^ lo

/-- A flag placed at bit `lo`. -/
def flagAt (b : Bool) (lo : Nat) : Nat := if b then 2 ^ lo else 0

/-- A register word from a sum of placed fields. -/
def word (v : Nat) : Word := BitVec.ofNat 32 v

/-- An integer in the two's complement of `n` bits. -/
def twos (n : Nat) (v : Int) : Nat := (v % (2 ^ n : Nat)).toNat

/-- A value limited to a least and a greatest value. -/
def clampInt (lo hi v : Int) : Int := max lo (min hi v)

/-- Saturation at a greatest value. -/
def satNat (hi v : Nat) : Nat := min hi v

/-- The `n` little-endian bytes of `v` (R3). -/
def le : Nat → Nat → List Byte
  | 0, _ => []
  | n + 1, v => BitVec.ofNat 8 v :: le n (v / 256)

/-- The number whose little-endian bytes are given (R3). -/
def ofLe : List Byte → Nat
  | [] => 0
  | b :: bs => b.toNat + 256 * ofLe bs

/-- The `n` little-endian bytes of an integer in two's complement. -/
def leInt (n : Nat) (v : Int) : List Byte := le n (twos (8 * n) v)

/-- `n` zero bytes. -/
def zeros (n : Nat) : List Byte := List.replicate n 0

/-- A list of bytes padded with zeros, or cut, to `n` bytes. -/
def fit (n : Nat) (bs : List Byte) : List Byte := (bs ++ zeros n).take n

/-- The four little-endian bytes of a register word. -/
def wordBytes (w : Word) : List Byte := le 4 w.toNat

/-- The words that a byte list holds, four bytes to a word, a last partial word filled with zeros. -/
def wordsOf : Nat → List Byte → List Word
  | 0, _ => []
  | n + 1, bs => word (ofLe (bs.take 4)) :: wordsOf n (bs.drop 4)

/-- One step of a CRC that shifts right: `poly` is the reflected polynomial. -/
def crcStepR (poly : Nat) : Nat → Nat → Nat
  | 0, c => c
  | n + 1, c => crcStepR poly n (if c % 2 = 1 then Nat.xor (c / 2) poly else c / 2)

/-- A reflected CRC over bytes. -/
def crcR (poly init fin : Nat) (bs : List Byte) : Nat :=
  Nat.xor fin (bs.foldl (fun c b => crcStepR poly 8 (Nat.xor c b.toNat)) init)

/-- One step of a CRC of width `w` that shifts left. -/
def crcStepL (w poly : Nat) : Nat → Nat → Nat
  | 0, c => c
  | n + 1, c =>
    let d := (2 * c) % 2 ^ w
    crcStepL w poly n (if c / 2 ^ (w - 1) = 1 then Nat.xor d poly else d)

/-- A CRC of width `w`, most significant bit first. -/
def crcL (w poly init : Nat) (bs : List Byte) : Nat :=
  bs.foldl (fun c b => crcStepL w poly 8 (Nat.xor c (b.toNat * 2 ^ (w - 8)))) init

/-- CRC-32C (Castagnoli) as R372 gives it. -/
def crc32c (bs : List Byte) : Nat := crcR 0x82F63B78 0xFFFFFFFF 0xFFFFFFFF bs

/-- One element of an indexed group replaced by a function of it. -/
def upd {α : Type} {n : Nat} (v : Vector α n) (i : Fin n) (f : α → α) : Vector α n := v.set i.val (f v[i]) i.isLt

/-- Every element of an indexed group replaced by a function of its index and itself. -/
def updAll {α : Type} {n : Nat} (v : Vector α n) (f : Fin n → α → α) : Vector α n :=
  Vector.ofFn fun i => f i v[i]

/-- The indices of a group of `n`, in ascending order. -/
def idx (n : Nat) : List (Fin n) := List.finRange n

/-- The first status in order of the checks that do not hold; OK if all hold (R18, R32). -/
def firstFail : List (Bool × Status) → Status
  | [] => .ok
  | (good, st) :: rest => if good then firstFail rest else st

/-- An association list read by its key. -/
def assoc {α : Type} (k : Nat) (l : List (Nat × α)) : Option α := (l.find? (fun e => e.1 == k)).map Prod.snd

/-- An association list with the entry of one key set. -/
def assocSet {α : Type} (k : Nat) (v : α) (l : List (Nat × α)) : List (Nat × α) :=
  (k, v) :: l.filter (fun e => e.1 != k)

end Sys2Proof.Machine
end

