-- ==== Sys2Proof/Machine/CanState.lean ====
section
/-! DEFINITION. The state of the CAN controllers (chapter CAN FD Controllers). -/

namespace Sys2Proof.Machine

open Sys2Proof

/-- CANn_STAT.STATE (R253, R267). -/
inductive CanSt where
  | off | integrating | active | passive | busOff
deriving DecidableEq, Repr, Inhabited

/-- CANn_STAT.STATE. -/
def CanSt.code : CanSt → Nat
  | .off => 0 | .integrating => 1 | .active => 2 | .passive => 3 | .busOff => 4

/-- The staged or queued frame's owner: none = the runtime. -/
abbrev CanOwner := Option SessId

/-- An entry of a transmit queue (R257). -/
structure TxEntry where
  frame  : CanFrame
  rlim   : Nat
  age    : Nat
  owner  : CanOwner
  handle : Nat
  /-- Fabric tick of the enqueue (R259). -/
  tick   : Nat
  /-- Attempts made, and the start-of-frame instant of the last one. -/
  tries  : Nat := 0
  sof    : Option Nat := none
  /-- Aborted while in an attempt (R261). -/
  abort  : Bool := false
deriving DecidableEq, Repr, Inhabited

/-- A session's staging registers (R258). -/
structure Stage where
  id      : Word := 0
  ctl     : Word := 0
  d       : Vector Word 16 := Vector.replicate 16 0
  lasth   : Nat := 0
  doneh   : Nat := 0
  sent    : Nat := 0
  notSent : Nat := 0
deriving DecidableEq, Repr, Inhabited

/-- A receive buffer (R265). -/
structure RxBuf where
  id  : Word := 0
  ctl : Word := 0
  tsf : Word := 0
  tss : Word := 0
  d   : List Byte := []
deriving DecidableEq, Repr, Inhabited

/-- The kind of a reassembly (R273). -/
inductive TpKind where
  | bam | rts | etp
deriving DecidableEq, Repr, Inhabited

/-- The store's kind byte. -/
def TpKind.code : TpKind → Nat
  | .bam => 1 | .rts => 2 | .etp => 3

/-- A reassembly context (R273). -/
structure TpCtx where
  busy    : Bool := false
  done    : Bool := false
  kind    : TpKind := .bam
  src     : Nat := 0
  dst     : Nat := 0
  pgn     : Nat := 0
  len     : Nat := 0
  /-- The sender's greatest number of packets per CTS. -/
  most    : Nat := 255
  /-- The next packet, from 1, and the last packet the CTS in force asks for. -/
  next    : Nat := 1
  upto    : Nat := 0
  /-- Packet offset announced for ETP data (DPO). -/
  base    : Nat := 0
  bytes   : List Byte := []
deriving DecidableEq, Repr, Inhabited

/-- One controller. -/
structure Can where
  st      : CanSt := .off
  tec     : Nat := 0
  rec_    : Nat := 0
  /-- CANn_CTRL.OPMODE and CANn_STAT.OPMODE: true = RESTRICTED. -/
  opReq   : Bool := false
  op      : Bool := false
  warn    : Bool := false
  recPend : Bool := false
  /-- The recovery was started by RECOVER. -/
  byHost  : Bool := false
  /-- Fabric tick of the entry into bus-off. -/
  offAt   : Nat := 0
  /-- The transmit queue, head first, and whether its head is in an attempt. -/
  queue   : List TxEntry := []
  inTx    : Bool := false
  nextH   : Nat := 1
  stages  : Vector Stage 4 := Vector.replicate 4 {}
  nd      : BitVec 64 := 0
  ovw     : BitVec 64 := 0
  bufs    : Vector RxBuf 64 := Vector.replicate 64 {}
  ewlt    : Nat := 96
  ewlr    : Nat := 96
  eBit    : Nat := 0
  eStuff  : Nat := 0
  eForm   : Nat := 0
  eAck    : Nat := 0
  eCrc    : Nat := 0
  ePxe    : Nat := 0
  eOff    : Nat := 0
  eNo     : Nat := 0
  /-- The kind of the last error. -/
  lastErr : Option CanErr := none
  /-- TDCV, measured since the Recipe was applied (R256). -/
  tdcv    : Option Nat := none
  /-- The claimed ISO 11783 address, and Cannot Claim sent (R272). -/
  addr    : Option Nat := none
  cannot  : Bool := false
  /-- The address the runtime is claiming, and those other nodes are known to hold (R272). -/
  claim   : Option Nat := none
  others  : List Nat := []
  tp      : Vector TpCtx 8 := Vector.replicate 8 {}
  /-- BAMs that found no context (R273). -/
  bamLost : Nat := 0
  /-- Segments of the runtime that wait for one of its entries, with RLIM and AGE (R241, R327). -/
  segOut  : List (CanFrame × Nat × Nat) := []
deriving DecidableEq, Repr, Inhabited

end Sys2Proof.Machine
end

