-- ==== Sys2Proof/Machine/Cells.lean ====
section
/-! DEFINITION. Sparse storage in one canonical form: addresses strictly rising, no entry equal to what an unlisted
address reads as. The SRAM windows (R35, R334) and the boundary vertices (R203) are held so. -/

namespace Sys2Proof.Machine

open Sys2Proof

/-- The value at an address; an unlisted one reads as `z`. -/
def cellGet {α : Type} (z : α) : List (Nat × α) → Nat → α
  | [], _ => z
  | (k, c) :: m, a => if a = k then c else cellGet z m a

/-- The value of an address set; setting `z` removes the entry. -/
def cellSet {α : Type} [DecidableEq α] (z : α) : List (Nat × α) → Nat → α → List (Nat × α)
  | [], a, b => if b = z then [] else [(a, b)]
  | (k, c) :: m, a, b =>
    if a < k then (if b = z then (k, c) :: m else (a, b) :: (k, c) :: m)
    else if a = k then (if b = z then m else (a, b) :: m)
    else (k, c) :: cellSet z m a b

/-- The entries lie above `lo`, rise strictly, and none equals `z`. -/
def cellsFrom {α : Type} [DecidableEq α] (z : α) : Option Nat → List (Nat × α) → Bool
  | _, [] => true
  | lo, (k, c) :: m => (match lo with | some l => decide (l < k) | none => true) && decide (c ≠ z) && cellsFrom z (some k) m

/-- The canonical form. -/
def cellsWf {α : Type} [DecidableEq α] (z : α) (m : List (Nat × α)) : Bool := cellsFrom z none m

/-- The SRAM windows: byte by byte, keyed by window address. -/
abbrev Memory := List Host.Cell

/-- What a byte that nothing has written reads as. The manual gives no contents after power-on. DESIGN CHOICE
(notes/assumptions): zero. -/
def blankByte : Byte := 0

def Memory.read (m : Memory) (a : Nat) : Byte := cellGet blankByte m a
def Memory.write (m : Memory) (a : Nat) (b : Byte) : Memory := cellSet blankByte m a b
/-- The memory is in its canonical form. -/
def Memory.wf (m : Memory) : Bool := cellsWf blankByte m

/-- `n` bytes read from `a` upward. -/
def Memory.readN (m : Memory) (a : Nat) : Nat → List Byte
  | 0 => []
  | n + 1 => m.read a :: m.readN (a + 1) n

/-- Bytes written from `a` upward. -/
def Memory.writeN (m : Memory) (a : Nat) : List Byte → Memory
  | [] => m
  | b :: bs => (m.write a b).writeN (a + 1) bs

end Sys2Proof.Machine
end

