-- ==== Sys2Proof/Machine/EngState.lean ====
section
/-! DEFINITION. The state of the control engine (chapter Control Engine). Engine values (EV) are kept as the integers
their 32 bits stand for (R124). -/

namespace Sys2Proof.Machine

open Sys2Proof

/-- The modes of R148. -/
inductive SlotMode where
  | off | manual | auto | standby | fault
deriving DecidableEq, Repr, Inhabited

/-- CENn_STAT.MODE. -/
def SlotMode.code : SlotMode → Nat
  | .off => 0 | .manual => 1 | .auto => 2 | .standby => 3 | .fault => 4

/-- The mode of a REQ encoding; the others are reserved. -/
def SlotMode.ofReq : Nat → Option SlotMode
  | 0 => some .off | 1 => some .manual | 2 => some .auto | 3 => some .standby | _ => none

/-- CENn_STAT.FCAUSE. -/
inductive FCause where
  | none | following | residue | feedback
deriving DecidableEq, Repr, Inhabited

/-- CENn_STAT.FCAUSE. -/
def FCause.code : FCause → Nat
  | .none => 0 | .following => 1 | .residue => 2 | .feedback => 3

/-- The saturation state (R128): high, low, or both. -/
structure Sat where
  high : Bool := false
  low  : Bool := false
deriving DecidableEq, Repr, Inhabited

/-- CENn_STAT.SAT. -/
def Sat.code (x : Sat) : Nat := flagAt x.high 0 + flagAt x.low 1

/-- One law slot. -/
structure Slot where
  mode     : SlotMode := .off
  /-- CENn_MODE.REQ. -/
  req      : SlotMode := .off
  /-- The pending mode request and its source (R149). -/
  modePend : Option (SlotMode × Src) := none
  fcause   : FCause := .none
  /-- Bank in use: false = A. -/
  bankB    : Bool := false
  swpend   : Bool := false
  /-- The banks of R134. -/
  wordsA   : Vector Word 48 := Vector.replicate 48 0
  wordsB   : Vector Word 48 := Vector.replicate 48 0
  /-- CENn_SP and CENn_MANOUT. -/
  sp       : Word := 0
  manout   : Word := 0
  /-- The set-point action of a sequencer (R144). -/
  stepSp   : Word := 0
  ramp     : Bool := false
  /-- Samples for which the derivative is still suppressed at first use (R154). -/
  first    : Nat := 0
  track    : Bool := false
  sat      : Sat := {}
  sphold   : Bool := false
  fbLost   : Bool := false
  resrun   : Nat := 0
  resmm    : Bool := false
  ovr      : Bool := false
  late     : Bool := false
  spv      : Int := 0
  fb       : Int := 0
  out      : Int := 0
  aux      : Int := 0
  lmax     : Nat := 0
  lmin     : Nat := 0xFFFF
  /-- The running mean latency in fabric ticks (R142). -/
  lmean    : Rat := 0
  ovrcnt   : Nat := 0
  rescnt   : Nat := 0
  /-- The integrator contribution i (R127). -/
  integ    : Int := 0
  /-- The derivative filter df, 32 fraction bits (R127). -/
  df       : Int := 0
  /-- v of the previous sample; none where the next sample takes its own (R127). -/
  vprev    : Option Int := none
  /-- States of the BQ4 sections (R129). -/
  z1       : Vector Int 4 := Vector.replicate 4 0
  z2       : Vector Int 4 := Vector.replicate 4 0
  /-- States of an SS4 slot (R130). -/
  x        : Vector Int 4 := Vector.replicate 4 0
  /-- The transfer offset of R138 and R152. -/
  offset   : Int := 0
  /-- The value last applied to the sink since the Recipe was applied, by this slot or a member of its set. -/
  applied  : Option Int := none
  /-- Only the slot's own safe output has been applied (R154). -/
  firstUse : Bool := true
  /-- The tick from which the following-error timer runs (R155). -/
  feSince  : Option Nat := none
  /-- Ticks of the last trigger, of the last evaluated sample, and of its presentation. -/
  lastTrig : Option Nat := none
  lastEval : Option Nat := none
  presentAt : Nat := 0
  /-- The slot runs on pipeline B (R34, R122). -/
  onB      : Bool := false
deriving DecidableEq, Repr, Inhabited

/-- CEN_TKSTAT.STATE. -/
inductive TakeStatus where
  | idle | running | done | early
deriving DecidableEq, Repr, Inhabited

/-- CEN_TKSTAT.STATE. -/
def TakeStatus.code : TakeStatus → Nat
  | .idle => 0 | .running => 1 | .done => 2 | .early => 3

/-- The Take (R160 to R162). -/
structure Take where
  cfg    : Word := 0
  amp    : Word := 0
  frq    : Word := 0
  len    : Nat := 0
  status : TakeStatus := .idle
  reason : Nat := 0
  count  : Nat := 0
  slot   : SlotId := 0
  /-- Samples since the start. -/
  k      : Nat := 0
  /-- The phase of the chirp in turns. -/
  turns  : Rat := 0
  lfsr   : Nat := 0x7FFF
  /-- Overrun, and sample withheld, since the previous capture. -/
  sawOvr : Bool := false
  sawRes : Bool := false
deriving DecidableEq, Repr, Inhabited

/-- The engine. -/
structure EngState where
  slots : Vector Slot 128 := Vector.replicate 128 {}
  take  : Take := {}
  /-- Q12: captures of 32 bytes (R161). -/
  q12   : List (List Byte) := []
deriving DecidableEq, Repr, Inhabited

end Sys2Proof.Machine
end

