-- ==== Sys2Proof/Machine/FanState.lean ====
section
/-! DEFINITION. The state of the fan controllers and of THERM_TRIP_N (chapter Fan, Pump and Blower Control). -/

namespace Sys2Proof.Machine

open Sys2Proof

/-- The states of a fan controller (R102). -/
inductive FanStatus where
  | off | stopped | kick | pause | run | held | blocked | motorOpen | test
deriving DecidableEq, Repr, Inhabited

/-- FANn_STAT.STATE. -/
def FanStatus.code : FanStatus → Nat
  | .off => 0 | .stopped => 1 | .kick => 2 | .pause => 3 | .run => 4 | .held => 5 | .blocked => 6
  | .motorOpen => 7 | .test => 8

/-- The ageing data of a controller (R115, R116). -/
structure FanAge where
  /-- Samples taken. -/
  count    : Nat := 0
  /-- Sum of the samples of the baseline. -/
  sum      : Rat := 0
  /-- The baseline, once it exists. -/
  baseline : Option Rat := none
  /-- The running mean M. -/
  mean     : Rat := 0
  /-- FAN_AGED has been recorded and INDEX has not fallen below AGELIM − 50 since. -/
  noted    : Bool := false
deriving DecidableEq, Repr, Inhabited

/-- The ageing data as saved, with what they belong to (R116). -/
structure FanSaved where
  age   : FanAge := {}
  drv   : Nat := 0
  tach  : Nat := 0
  reff  : Nat := 0
deriving DecidableEq, Repr, Inhabited

/-- One fan controller. -/
structure Fan where
  status  : FanStatus := .off
  attempt : Nat := 0
  /-- The step index k of R104. -/
  step    : Nat := 0
  /-- The next evaluation selects k afresh (R104). -/
  afresh  : Bool := true
  /-- The duty in force, 1/65,536. -/
  duty    : Nat := 0
  /-- The target after R105 (FANn_MEAS.TARGET). -/
  target  : Nat := 0
  /-- The temperature in use, in 2^-16 m°C. -/
  temp    : Int := 0
  tempf   : Bool := false
  tacho   : Bool := false
  moto    : Bool := false
  blk     : Bool := false
  man     : Bool := false
  mduty   : Nat := 0
  /-- FANn_HTEMP. -/
  htemp   : Word := 0
  /-- Fabric tick of its last write since the Recipe was applied. -/
  htempAt : Option Nat := none
  testRes : Nat := 0
  testMs  : Nat := 0
  /-- Fabric tick at which KICK or TEST began. -/
  kickAt  : Nat := 0
  age     : FanAge := {}
deriving DecidableEq, Repr, Inhabited

/-- The fan controllers and the comparator of THERM_TRIP_N. -/
structure FanState where
  fans   : Vector Fan 8 := Vector.replicate 8 {}
  saved  : Vector FanSaved 8 := Vector.replicate 8 {}
  savedHash : List Byte := []
  everSaved : Bool := false
  /-- FAN_TT.TRIP: THERM_TRIP_N is low. -/
  trip   : Bool := false
  /-- FAN_TT.SFAULT. -/
  sfault : Bool := false
  /-- FAN_TT.TT, the strap levels. -/
  tt     : Nat := 0
  /-- The primary sensor's reading, 0.125 °C. -/
  sensor : Int := 0
deriving DecidableEq, Repr, Inhabited

end Sys2Proof.Machine
end

