-- ==== Sys2Proof/Machine/TmbState.lean ====
section
/-! DEFINITION. The state of the time base, of TP and of the GNSS receiver (chapter Time Base and GNSS). -/

namespace Sys2Proof.Machine

open Sys2Proof

/-- The qualities of R168. -/
inductive Qual where
  | none | rtc | host | acq | locked | holdover | expired
deriving DecidableEq, Repr, Inhabited

/-- TMB_STAT.QUAL. -/
def Qual.code : Qual → Nat
  | .none => 0 | .rtc => 1 | .host => 2 | .acq => 3 | .locked => 4 | .holdover => 5 | .expired => 6

/-- The quality of an encoding. -/
def Qual.ofCode : Nat → Qual
  | 1 => .rtc | 2 => .host | 3 => .acq | 4 => .locked | 5 => .holdover | 6 => .expired | _ => .none

/-- A pending step (R171, R173, R174). Offsets and changes of T are in seconds. -/
inductive StepPend where
  /-- A judgement's d_j; `afresh` after 10 s at 2 µs or more. -/
  | judged (dj : Rat) (afresh : Bool)
  /-- A host setting of the session: the seconds written. -/
  | host (k : SessId) (ref secs : Nat)
  /-- The manager's announced change of T, at this device's own second. -/
  | manager (change : Rat)
deriving DecidableEq, Repr, Inhabited

/-- One channel of the receiver (R185). -/
inductive ChanStatus where
  | idle | search | pullin | track | bitsync | nav | reacq
deriving DecidableEq, Repr, Inhabited

/-- GNS_CHc.STATE. -/
def ChanStatus.code : ChanStatus → Nat
  | .idle => 0 | .search => 1 | .pullin => 2 | .track => 3 | .bitsync => 4 | .nav => 5 | .reacq => 6

structure Chan where
  st     : ChanStatus := .idle
  prn    : Nat := 0
  /-- 0 = unresolved, 1 = normal, 2 = inverted. -/
  pol    : Nat := 0
  /-- C/N0 in 0.01 dB-Hz. -/
  cn0    : Nat := 0
  /-- Fabric ticks of the slot faults of the last 10 minutes, newest first (R182). -/
  faults : List Nat := []
  /-- It stays IDLE until the next GNSS start (R182). -/
  barred : Bool := false
deriving DecidableEq, Repr, Inhabited

/-- The antenna bias as GNS_STAT.ANT shows it (R184). -/
inductive AntStatus where
  | off | normal | open | short
deriving DecidableEq, Repr, Inhabited

/-- GNS_STAT.ANT. -/
def AntStatus.code : AntStatus → Nat
  | .off => 0 | .normal => 1 | .open => 2 | .short => 3

/-- A solution's values as the PVT registers show them (R192). -/
structure Pvt where
  seq   : Nat := 0
  pdop  : Nat := 0
  epoch : Nat := 0
  secs  : Word := 0
  lat   : Int := 0
  lon   : Int := 0
  hgt   : Int := 0
  vn    : Int := 0
  ve    : Int := 0
  vu    : Int := 0
  speed : Nat := 0
  hdg   : Nat := 0xFFFF
  hacc  : Nat := 0xFFFF
  vacc  : Nat := 0xFFFF
deriving DecidableEq, Repr, Inhabited

/-- The receiver. -/
structure GnsState where
  chans    : Vector Chan 32 := Vector.replicate 32 {}
  /-- Q11: entries of 32 bytes (R187 to R189). -/
  q11      : List (List Byte) := []
  /-- Entries at the head of Q11 that the runtime has taken while a channel drains the queue (R344). -/
  q11Taken : Nat := 0
  /-- GNS_CTRL.RATE. -/
  rateReq  : Nat := 4
  /-- The PVT rate in force, in its encoding (R193). -/
  rateF    : Nat := 0
  fix      : Nat := 0
  nsv      : Nat := 0
  /-- Kind of the last start: 0 cold, 1 warm, 2 hot (R190). -/
  kind     : Nat := 0
  /-- A start has been made, and its fabric tick. -/
  startAt  : Option Nat := none
  firstFix : Bool := false
  /-- GNSS_FIX_LOST stands since the last fix. -/
  lost     : Bool := false
  ttff     : Nat := 0
  ant      : AntStatus := .off
  vbias    : Nat := 0
  ibias    : Nat := 0
  navLost  : Nat := 0
  /-- The duty-cycle window is closed: front end and correlators stand (R186). -/
  asleep   : Bool := false
  pvt      : Pvt := {}
  /-- Valid ephemerides: PRN and the second of T of their decoding (R190). -/
  eph      : List (Nat × Nat) := []
  /-- The second of T of the almanac, if one is stored. -/
  alm      : Option Nat := none
  /-- The last position: second of T, latitude, longitude, height. -/
  pos      : Option (Nat × Int × Int × Int) := none
  /-- The last 3D fix: second of T and height (R192). -/
  fix3     : Option (Nat × Int) := none
  /-- Module flash: saved ephemerides, almanac and position (R190). -/
  savedEph : List (Nat × Nat) := []
  savedAlm : Option Nat := none
  savedPos : Option (Nat × Int × Int × Int) := none
  /-- The full GPS week resolved under R191. -/
  week     : Nat := 0
  utcValid : Bool := false
  leap     : Nat := 0
deriving DecidableEq, Repr, Inhabited

/-- A bin of the oscillator model: the mean of `n` rates (R176). -/
structure OscBin where
  n    : Nat := 0
  mean : Rat := 0
deriving DecidableEq, Repr, Inhabited

/-- The oscillator model (R176). -/
structure OscModel where
  /-- 1 K bins from −40 °C to +105 °C. -/
  bins  : Vector OscBin 145 := Vector.replicate 145 {}
  /-- The ageing slope. -/
  slope : Rat := 0
  /-- Time learnt in LOCKED, in 100 ms. -/
  learnt : Nat := 0
deriving DecidableEq, Repr, Inhabited

/-- The time base. -/
structure TmbState where
  /-- T in units of 2^-72 s (R164). -/
  t       : Nat := 0
  qual    : Qual := .none
  ratem   : Int := 0
  ofs     : Int := 0
  rate    : Int := 0
  range   : Bool := false
  resflt  : Bool := false
  /-- Consecutive residue failures (R167). -/
  resRun  : Nat := 0
  resCnt  : Nat := 0
  steps   : Nat := 0
  /-- The last measured d, in seconds. -/
  d       : Rat := 0
  pending : Option StepPend := none
  /-- Fabric tick at which HOLDOVER began (TMB_HOLD). -/
  holdAt  : Option Nat := none
  /-- OFS in ACQ and LOCKED: ticks and value of each interval, newest first, 100 s of them (R175). -/
  ofsLog  : List (Nat × Int) := []
  /-- Fabric tick from which OFS holds its present value in ACQ or LOCKED. -/
  ofsAt   : Nat := 0
  /-- Latches of R180. -/
  secl    : Word := 0
  sech    : Word := 0
  rateh   : Word := 0
  /-- TMB_DLY, TMB_SETL, TMB_SETH. -/
  dly     : Word := 0
  setl    : Word := 0
  seth    : Word := 0
  /-- The RTC of the always-on domain: valid, and its seconds (R169). -/
  rtcValid : Bool := false
  rtc     : Nat := 0
  /-- TP: pulses are being emitted (R178), the seconds of the last pulse, its fabric tick and its end. -/
  tpOn    : Bool := false
  tpSec   : Nat := 0
  tpAt    : Option Nat := none
  tpEnd   : Nat := 0
  model   : OscModel := {}
  savedModel : OscModel := {}
  /-- TCXO temperature, m°C. -/
  tcxo    : Int := 0
deriving DecidableEq, Repr, Inhabited

end Sys2Proof.Machine
end

