-- ==== Sys2Proof/Machine/HieState.lean ====
section
/-! DEFINITION. The state of the hierarchy: Clapper links, flags, partners, Q10, Q13, Q14 and lock groups (chapter
Hierarchy, Clapper and Lock Groups). -/

namespace Sys2Proof.Machine

open Sys2Proof

/-- A Clapper frame after its delimiter (R227); CRCs apart. -/
inductive Frame where
  | bmark
  | beacon (hop cumdly ms sec mqual : Nat) (dlyok : Bool) (stepcnt : Nat) (ann : Option (Nat × Nat × Nat))
  | ereq
  | ersp (tat : Nat)
  | flag (orig idx : Nat) (val : Bool)
  | hopfail (rep : Nat) (down : Bool)
  | data (dst : Nat) (som eom : Bool) (payload : List Byte)
deriving DecidableEq, Repr, Inhabited

/-- One Clapper link. -/
structure Link where
  /-- Down under R230. -/
  down   : Bool := false
  /-- Failed under R232. -/
  failed : Bool := false
deriving DecidableEq, Repr, Inhabited

/-- A cross-device flag on this device (R237, R238). -/
structure XFlag where
  val     : Bool := false
  failed  : Bool := false
  /-- A HOPFAIL between this device and the origin, and no valid frame since. -/
  hopfail : Bool := false
  /-- No valid frame for 3 ms. -/
  silent  : Bool := false
deriving DecidableEq, Repr, Inhabited

/-- A worker as the manager sees it (R244, R247). -/
structure Worker where
  qual    : Qual := .none
  orphan  : Bool := false
  lost    : Bool := false
  rel     : Bool := false
  /-- Fabric tick of its last valid heartbeat. -/
  heard   : Option Nat := none
  lostAt  : Nat := 0
  /-- Its down-link hop delay, 0.25 ns; none = not measured. -/
  delay   : Option Nat := none
  /-- Its faulted ports (heartbeat bytes 8 to 11). -/
  faults  : Nat := 0
  /-- Its up-link is up, and its DNDLYOK (heartbeat byte 1). -/
  upOk    : Bool := false
  dnOk    : Bool := false
deriving DecidableEq, Repr, Inhabited

/-- What holds a Q10 entry (R212, R242, R251). -/
inductive Holder where
  | free
  | ofSection (s : SectId)
  | member (g : LgId) (m : Fin 32)
  | manager
deriving DecidableEq, Repr, Inhabited

/-- A timed command in Q10 (R19): instant in 2^-32 s. -/
structure Timed where
  port : PortId
  on   : Bool
  dur  : Nat
  src  : Src
  at_  : Nat
deriving DecidableEq, Repr, Inhabited

/-- One entry of Q10. -/
structure Q10Slot where
  holder : Holder := .free
  cmd    : Option Timed := none
deriving DecidableEq, Repr, Inhabited

/-- A hierarchy message (R240): code, destination ADDR, body. -/
structure Msg where
  code   : Nat
  dst    : Nat
  body   : List Byte
  /-- The sender's ADDR, for a message received. -/
  sender : Nat := 0
deriving DecidableEq, Repr, Inhabited

/-- The states of R251. -/
inductive LgStatus where
  | stopped | starting | running | stopping
deriving DecidableEq, Repr, Inhabited

/-- HIE_LGn_STAT.STATE. -/
def LgStatus.code : LgStatus → Nat
  | .stopped => 0 | .starting => 1 | .running => 2 | .stopping => 3

/-- A lock group on the manager (R251). Boundaries are instants in 2^-32 s. -/
structure Lg where
  st     : LgStatus := .stopped
  startB : Nat := 0
  stopB  : Nat := 0
  /-- A START held until the stop boundary, with the instant of its acceptance. -/
  held   : Option Nat := none
  wait   : BitVec 32 := 0
  ref    : BitVec 32 := 0
deriving DecidableEq, Repr, Inhabited

/-- A member that runs on this device: its grid instants and the last instant placed (R251). -/
structure Running where
  group  : LgId
  idx    : Fin 32
  port   : PortId
  /-- False = command, true = carrier. -/
  carrier : Bool
  /-- DUR, or DUTY. -/
  value  : Nat
  /-- Offset in 2^-32 s. -/
  offset : Nat
  per    : Nat
  phase  : Nat
  startB : Nat
  stopB  : Option Nat
  oneshot : Bool
  slot   : Option Nat
  /-- The instant last placed. -/
  last   : Option Nat
deriving DecidableEq, Repr, Inhabited

/-- A lock-group descriptor that a worker holds (R240, R251). -/
abbrev Held := List Running

/-- The orphan action at a port (R246, R481). -/
structure Orphaned where
  /-- It has passed its checks and acts. -/
  acts : Bool := false
  /-- The duty of a RAMP. -/
  duty : Nat := 0
deriving DecidableEq, Repr, Inhabited

/-- A partial frame of a sender (R241). -/
structure Partial where
  bytes : List Byte
  seq   : Nat
  tick  : Nat
deriving DecidableEq, Repr, Inhabited

/-- The hierarchy. -/
structure HieState where
  strapChg : Bool := false
  orphan   : Bool := false
  /-- REL on a worker. -/
  rel      : Bool := false
  mqual    : Qual := .none
  stepCnt  : Nat := 0
  up       : Link := {}
  dn       : Link := {}
  /-- Valid samples rt − TAT in 0.25 ns, newest first, at most 16 (R231). -/
  samples  : List Int := []
  /-- Discarded samples in a row. -/
  rejRun   : Nat := 0
  /-- Consecutive failed echoes (R232). -/
  echoRun  : Nat := 0
  /-- An EREQ is out: its edge, 0.25 ns. -/
  ereqAt   : Option Nat := none
  dlyOk    : Bool := false
  tat      : Nat := 0
  cumdly   : Nat := 0
  /-- T at the edge of a mark whose body has not come, 0.25 ns. -/
  mark     : Option Nat := none
  /-- Fabric tick of the mark of the last valid beacon. -/
  validAt  : Option Nat := none
  /-- Consecutive valid beacons, and whether the source counts as valid (R234). -/
  beaconRun : Nat := 0
  srcOk    : Bool := false
  /-- d in seconds at each valid beacon since the last measurement, newest first (R166). -/
  ds       : List Rat := []
  /-- d at the first beacons after the source became valid, at most 100 (R170). -/
  firstDs  : List Rat := []
  /-- This worker has applied the announced step whose STEPCNT it has not yet seen (R235). -/
  stepApplied : Bool := false
  crcErr   : Nat := 0
  echoFail : Nat := 0
  echoRej  : Nat := 0
  bmiss    : Nat := 0
  /-- Excursions already recorded as CHAIN_MISMATCH: of HOP, of HID by ADDR, of ADDR (R226, R233). -/
  hopExc   : Bool := false
  hidExc   : List Nat := []
  addrExc  : List Nat := []
  /-- Partners whose heartbeats carry this HID. -/
  partners : List Nat := []
  flags    : Vector XFlag 64 := Vector.replicate 64 {}
  workers  : Vector Worker 64 := Vector.replicate 64 {}
  /-- Orphan actions by port. -/
  orph     : Vector Orphaned 32 := Vector.replicate 32 {}
  orphAt   : Nat := 0
  q10      : Vector Q10Slot 256 := Vector.replicate 256 {}
  /-- Q13, received messages, and Q14, messages to send; head first. -/
  q13      : List Msg := []
  q14      : List Msg := []
  /-- RESERVEs that the manager has sent and that are not answered, oldest first: the worker, and the section for which
  an entry is asked, or none where one is freed. -/
  resPend  : List (Nat × Option SectId) := []
  lgs      : Vector Lg 16 := Vector.replicate 16 {}
  /-- Members that run on this device. -/
  runs     : List Running := []
  /-- Reassembly by sender, of CAN3 and of the Clapper. -/
  asm      : List (Nat × Partial) := []
  clpAsm   : List (Nat × List Byte) := []
  /-- What this device has put on its links, newest first. -/
  sent     : List (Side × Frame) := []
deriving DecidableEq, Repr, Inhabited

end Sys2Proof.Machine
end

