-- ==== Sys2Proof/Machine/HostState.lean ====
section
/-! DEFINITION. The state of the host link, the aperture unit and the DMA engine (chapter Host Link, Apertures and
DMA). -/

namespace Sys2Proof.Machine

open Sys2Proof

/-- The operations of a Ralar command (R329); `bad` = a body that completes with LIMIT. -/
inductive HostOp where
  | read | write | ping | bad
deriving DecidableEq, Repr, Inhabited

/-- A command in flight (R329, R331). -/
structure HostCmd where
  op    : HostOp
  /-- The OP byte received. -/
  code  : Nat
  fence : Bool
  tag   : Nat
  addr  : Nat
  count : Nat
  /-- WRITE: the words to write. -/
  words : List Word := []
  /-- Words done, and the words read. -/
  done  : Nat := 0
  got   : List Word := []
  /-- The word that waits for its operation to end (R331). -/
  wait  : Option Nat := none
deriving DecidableEq, Repr, Inhabited

/-- An entry of Q4 to Q7: a response body or a notification (R333). -/
structure Outb where
  notif : Bool
  bytes : List Byte
deriving DecidableEq, Repr, Inhabited

/-- A CAN0 reassembly of a host number (R328). -/
structure SegAsm where
  bytes : List Byte
  seq   : Nat
  tick  : Nat
deriving DecidableEq, Repr, Inhabited

/-- What the link sends: a payload to a peer, or an Ethernet frame of its own (ARP, ICMP). -/
inductive LinkOut where
  | ralar (to_ : Peer) (bytes : List Byte)
  | ether (bytes : List Byte)
deriving DecidableEq, Repr, Inhabited

/-- The network settings kept in D1 flash (R325). -/
structure NetCfg where
  cfg : Word := 0xB7B8
  ip  : Word := 0
  gw  : Word := 0
  net : Word := 0x10
deriving DecidableEq, Repr, Inhabited

structure HostState where
  /-- HLK_CFG, HLK_IP, HLK_GW, HLK_NET as the registers hold them; the settings saved; the settings in force. -/
  regs    : NetCfg := {}
  saved   : NetCfg := {}
  act     : NetCfg := {}
  link    : Bool := false
  linkAt  : Nat := 0
  rxok    : Nat := 0
  disc    : Nat := 0
  canseg  : Nat := 0
  /-- The ARP cache: IPv4 address, hardware address, tick of the entry (R324). -/
  arp     : List (Nat × Nat × Nat) := []
  /-- ICMP echoes answered in the second in progress. -/
  echoAt  : Nat := 0
  echoes  : Nat := 0
  asm     : Vector (Option SegAsm) 4 := Vector.replicate 4 none
  /-- Q0 to Q3: accepted commands that have not started; and started ones that are not complete. -/
  q       : Vector (List HostCmd) 4 := Vector.replicate 4 []
  run     : Vector (List HostCmd) 4 := Vector.replicate 4 []
  /-- Q4 to Q7, and a notification of the session lost since the last one (R333). -/
  out     : Vector (List Outb) 4 := Vector.replicate 4 []
  loss    : Vector Bool 4 := Vector.replicate 4 false
  /-- The number of the last host word (R331). -/
  nextRef : Nat := 0
  /-- What the device has sent, newest first. -/
  sent    : List LinkOut := []
deriving DecidableEq, Repr, Inhabited

/-- An aperture entry (R334): its number, its context, and what it maps. -/
structure ApuEntry where
  ctx   : Nat
  r     : Bool
  w     : Bool
  sys   : Bool
  pages : Nat
  win   : Nat
  tgt   : Nat
deriving DecidableEq, Repr, Inhabited

/-- A request set (R339). -/
structure ReqSet where
  ctl : Word := 0
  win : Word := 0
  tgt : Word := 0
  res : Nat := 0
deriving DecidableEq, Repr, Inhabited

structure ApuState where
  ents : Vector (Option ApuEntry) 256 := Vector.replicate 256 none
  reqs : Vector ReqSet 4 := Vector.replicate 4 {}
deriving DecidableEq, Repr, Inhabited

/-- DMA_CHn_STAT.STATE; FREE is IDLE without an owner. -/
inductive DmaSt where
  | idle | run | fault
deriving DecidableEq, Repr, Inhabited

/-- The causes of R348. -/
inductive DmaCause where
  | translation | rights | ecc | session | descriptor
deriving DecidableEq, Repr, Inhabited

/-- Byte 2 of the record of R348. -/
def DmaCause.code : DmaCause → Nat
  | .translation => 1 | .rights => 2 | .ecc => 3 | .session => 4 | .descriptor => 5

/-- A descriptor as fetched (R341). -/
structure Desc where
  ctrl : Word := 0
  len  : Nat := 0
  src  : Nat := 0
  dst  : Nat := 0
  next : Nat := 0
deriving DecidableEq, Repr, Inhabited

/-- A channel of the engine. -/
structure DmaCh where
  st     : DmaSt := .idle
  owner  : Option SessId := none
  cause  : Option DmaCause := none
  recQ   : Bool := false
  /-- A record held for lack of room in Q15 (R348). -/
  held   : Option (List Byte) := none
  descA  : Word := 0
  cur    : Nat := 0
  desc   : Desc := {}
  prog   : Nat := 0
  faddr  : Nat := 0
  rdptr  : Nat := 0
  wrptr  : Nat := 0
  descs  : Nat := 0
  faults : Nat := 0
  /-- Bursts done in the current descriptor. -/
  burst  : Nat := 0
  /-- The entry that ends a DRAIN of Q12 has been committed (R344). -/
  fin    : Bool := false
deriving DecidableEq, Repr, Inhabited

structure DmaState where
  ch     : Vector DmaCh 8 := Vector.replicate 8 {}
  /-- Q15, head first. -/
  q15    : List (List Byte) := []
  eccCor : Nat := 0
  /-- SRAM words that hold an uncorrectable ECC error (R347). -/
  bad    : List Nat := []
  /-- The channels served last, real-time and bulk (R343). -/
  lastRt : Nat := 7
  lastBk : Nat := 7
deriving DecidableEq, Repr, Inhabited

end Sys2Proof.Machine
end

