-- ==== Sys2Proof/Machine/MonState.lean ====
section
/-! DEFINITION. The state of the event counters, gauges and calibration (chapter Event Counters and Calibration). -/

namespace Sys2Proof.Machine

open Sys2Proof

/-- One counter (R392, R393): 48 bits and SAT. -/
structure Counter where
  cnt : Nat := 0
  sat : Bool := false
deriving DecidableEq, Repr, Inhabited

/-- One gauge (R394): least, greatest, sum and number of samples; the least and greatest values start as the
registers' reset values. -/
structure Gauge where
  least : Int := 0x7FFFFFFF
  great : Int := -0x80000000
  sum   : Int := 0
  ns    : Nat := 0
deriving DecidableEq, Repr, Inhabited

structure MonState where
  counters : Vector Counter 32 := Vector.replicate 32 {}
  gauges   : Vector Gauge 16 := Vector.replicate 16 {}
  /-- The snapshot bank (R396, R397). -/
  snCount  : Vector Counter 32 := Vector.replicate 32 {}
  snGauge  : Vector Gauge 16 := Vector.replicate 16 {}
  snSeq    : Nat := 0
  /-- CAUSE: [0] seconds, [1] Step entry, [2] beacon, [3] host. -/
  snCause  : Nat := 0
  snAt     : Nat := 0
  pcfg     : Word := 0
  pcfg2    : Word := 0
  /-- MONn_LIVEH as latched (R399). -/
  liveH    : Vector Word 32 := Vector.replicate 32 0
  /-- The level of a counted boolean source in the tick before (SRC 0xF0, 0xF2). -/
  level    : Vector Bool 32 := Vector.replicate 32 false
  /-- Ticks of DRIVE not yet counted as a microsecond, by port (SRC 0xA0 + n). -/
  driveTicks : Vector Nat 32 := Vector.replicate 32 0
  /-- A period runs: the Recipe has been applied since the last reset (R399). -/
  running  : Bool := false
  /-- A Step with MARK = 1 has been entered and no boundary taken for it yet (R366, R395). -/
  stepDue  : Bool := false
deriving DecidableEq, Repr, Inhabited

/-- One calibration channel: factory Gf (2^-30) and Of (FS × 2^-31), user pair as CALn_c_U (R400, R401, R403). -/
structure CalChan where
  gf : Nat := 2 ^ 30
  of : Int := 0
  u  : Word := 0
deriving DecidableEq, Repr, Inhabited

structure CalState where
  /-- Ports 0 to 31, then the module channel as channel 0 of index 32. -/
  chans  : Vector (Vector CalChan 8) 33 := Vector.replicate 33 (Vector.replicate 8 {})
  /-- The user values in module flash: index, channel, value (R404). -/
  stored : List (Nat × Nat × Word) := []
  /-- Accepted user values not yet stored (R404). -/
  dirty  : List (Nat × Nat × Word) := []
  factOk : Bool := false
  fver   : Nat := 0
  /-- CAL_CMD.ALLP, ALLC, PORT, MOD and CHAN as written. -/
  cmd    : Word := 0
deriving DecidableEq, Repr, Inhabited

end Sys2Proof.Machine
end

