-- ==== Sys2Proof/Machine/PortState.lean ====
section
/-! DEFINITION. The state of the port cells and of their banks (chapter Port Cells). Register fields that the Recipe
sets (RS) are read from the Recipe in force and are not kept here. -/

namespace Sys2Proof.Machine

open Sys2Proof

/-- PRTn_STAT.STATE. -/
inductive PortStatus where
  | passive | off | drive | latched | retry | input
deriving DecidableEq, Repr, Inhabited

/-- The encoding of STATE. -/
def PortStatus.code : PortStatus → Nat
  | .passive => 0 | .off => 1 | .drive => 2 | .latched => 3 | .retry => 4 | .input => 5

/-- A forced value of the interlock matrix at a port (R20, R286). -/
inductive Forced where
  | off | on | duty (d : Nat)
deriving DecidableEq, Repr, Inhabited

/-- The carrier period in progress (R47, R49): its first instant in 2^-32 s, its length and its duty. -/
structure Period where
  start : Nat := 0
  per   : Nat := 0
  duty  : Nat := 0
deriving DecidableEq, Repr, Inhabited

/-- One port cell. -/
structure Port where
  /-- PRTn_STAT.STATE. -/
  status    : PortStatus := .passive
  /-- Junction temperature as STAT.TJ shows it. -/
  tj        : Nat := 0
  /-- PRTn_STAT.ENABLED of a motor port (R40). -/
  enabled   : Bool := false
  /-- True from the acceptance of an ON until the next carrier instant (R40): the switches wait for it. -/
  awaitCarrier : Bool := false
  /-- PRTn_FAULT[9:0]. -/
  fault     : BitVec 10 := 0
  /-- Conditions present now, in the places of the fault bits (R61, R483). -/
  present   : BitVec 10 := 0
  /-- RETRY_CNT (R59). -/
  retryCnt  : Nat := 0
  /-- PRTn_PWM_PER. -/
  per       : Word := 0
  /-- PRTn_PWM_PH. -/
  ph        : Word := 0
  /-- The carrier period in progress. -/
  period    : Period := {}
  /-- The latest value presented by the drive owner: a duty, or a current target in 1/256 A (R40, R50). -/
  ownerVal  : Int := 0
  /-- The KICK or TEST target of the fan controller that owns the port, in 1/256 A (R42). -/
  kick      : Option Nat := none
  /-- The duty the regulator has set for the next period (R42). -/
  regDuty   : Nat := 0
  /-- PRTn_DUTY.DUTY, the duty in force. -/
  duty      : Nat := 0
  /-- The interlock forced value that acts on the port, if any (R20, R287). -/
  forced    : Option Forced := none
  /-- The commanded state of a digital output (R41). -/
  outOn     : Bool := false
  /-- The fabric tick at which a running DUR timer of a digital output ends (R41). -/
  durEnd    : Option Nat := none
  /-- Mean current of the last converter interval, 1/256 A (R37). -/
  iNow      : Int := 0
  /-- The same before calibration, which protection reads through the factory page alone (R400). -/
  iRaw      : Int := 0
  /-- PRTn_IMEAS.IPK. -/
  iPeak     : Nat := 0
  /-- PRTn_VMEAS.VBANK. -/
  vbank     : Nat := 0
  /-- PRTn_VMEAS.VPIN. -/
  vpin      : Nat := 0
  /-- PRTn_INVAL. -/
  inval     : Word := 0
  /-- Time-base instant of the last sample of INVAL, in 2^-32 s (R43). -/
  invalAt   : Nat := 0
  /-- PRTn_FREQ.STALE. -/
  stale     : Bool := true
  /-- Instants of the last rising edges, newest first, in 2^-32 s (R45). -/
  edges     : List Nat := []
  /-- The time-over count of R58, in tenths. -/
  timeOver  : Nat := 0
  /-- True while the 10 s of R59 in DRIVE count towards RETRY_CNT. -/
  retryWatch : Bool := false
  /-- The burden of a current loop is disconnected (R57, R483). -/
  burdenOff : Bool := false
  /-- The burden is back and INVAL at 30 mA or less is awaited (R483). -/
  burdenBack : Bool := false
  /-- The port source counts as lost: its bank is being reloaded or held (R296, R441). -/
  srcLost   : Bool := false
deriving DecidableEq, Repr, Inhabited

/-- One port bank. -/
structure Bank where
  /-- The bank load of R60, in 1/256 A. -/
  load      : Int := 0
  /-- An excursion above 32 A stands (R60). -/
  excursion : Bool := false
  /-- The trip has happened in this excursion (R60). -/
  tripped   : Bool := false
  /-- The bank is held in reset by a supply or power-good fault (R441). -/
  held      : Bool := false
deriving DecidableEq, Repr, Inhabited

end Sys2Proof.Machine
end

