-- ==== Sys2Proof/Machine/PwrState.lean ====
section
/-! DEFINITION. The state of supplies, domains, reset and start-up (chapters Power, Domains and Start-up; Clocks and
Domain Crossings). -/

namespace Sys2Proof.Machine

open Sys2Proof

/-- Where the device stands between a reset and the next: unpowered or in reset, running (also when its start has
stopped at a row of R434), or in a low-power state (R443). -/
inductive PwrPhase where
  | off | run | standby | sleep
deriving DecidableEq, Repr, Inhabited

/-- The reset kinds of R432. -/
inductive ResetKind where
  | powerOn | brownout | wake | commanded | lockstep | pllLoss | watchdog | domain
deriving DecidableEq, Repr, Inhabited

/-- SYS_RSTAT.KIND. -/
def ResetKind.code : ResetKind → Nat
  | .powerOn => 1 | .brownout => 2 | .wake => 3 | .commanded => 4 | .lockstep => 5 | .pllLoss => 6 | .watchdog => 7 | .domain => 8

/-- What holds a bank in reset: the fabric tick at which its undervoltage (0), its overvoltage (1) and its loss of power-good
(2) began, for those that stand (R431, R440, R441). -/
structure BankFault where
  since : Vector (Option Nat) 3 := Vector.replicate 3 none
deriving DecidableEq, Repr, Inhabited

/-- A cause begins, or ends. -/
def BankFault.put (x : BankFault) (c : Fin 3) (t : Option Nat) : BankFault := { since := upd x.since c fun _ => t }

/-- No cause stands. -/
def BankFault.clear (x : BankFault) : Bool := x.since == Vector.replicate 3 none

structure PwrState where
  phase   : PwrPhase := .off
  warning : Bool := false
  /-- Fabric tick at which the warning in force began, and the least VLOGIC in it, mV (R439). -/
  warnAt  : Nat := 0
  minV    : Nat := 0
  /-- PWR_STAT.ORDERLY. -/
  orderly : Bool := false
  /-- Deferred ONs of the last warning are being released (R437); ONs issued late and dropped since it ended. -/
  releasing : Bool := false
  issued  : Nat := 0
  dropped : Nat := 0
  /-- PWR_DIP: least VLOGIC and duration of the last warning; its duration in µs. -/
  dipMin  : Nat := 0
  dipMs   : Nat := 0
  dipUs   : Nat := 0
  dipOrd  : Bool := false
  /-- PWR_LATE and PWR_DROP. -/
  late    : BitVec 32 := 0
  drop    : BitVec 32 := 0
  bankf   : Vector BankFault 4 := Vector.replicate 4 {}
  /-- PWR_CFG, and its value in D1 flash. -/
  cfg     : Word := 0
  cfgSaved : Word := 0
  /-- PWR_ALARM, kept in D0. -/
  alarm   : Word := 0
  /-- PWR_VOLT: KEEP and VLOGIC in mV. -/
  vkeep   : Nat := 0
  vlogic  : Nat := 0
  /-- PWR_RTCH as latched (R435). -/
  rtcHigh : Word := 0
  /-- SYS_RSTAT: kind of the last reset, of the one before, wake source, detail. -/
  kind    : Nat := 0
  prev    : Nat := 0
  wsrc    : Nat := 0
  detail  : Nat := 0
  /-- What D0 has latched for the next start (R432), with its wake source and detail. -/
  latched : Option (ResetKind × Nat × Nat) := none
  /-- D0 has been without supply since the last start (R484). -/
  d0Lost  : Bool := true
  /-- A wake source that acted while VLOGIC was below 8.0 V (R446). -/
  wakePend : Option Nat := none
  /-- CAN0_CFG.WAKE as it stood on entry to SLEEP (R274). -/
  canWake : Bool := false
  /-- Domains whose value sources are marked invalid (R424), bit k = Dk. -/
  invalid : BitVec 12 := 0
  /-- In SLEEP, the CAN0 wake detector is stopped (R443). -/
  detectorOff : Bool := false
  /-- SYS_RCNT. -/
  brown   : Nat := 0
  lock    : Nat := 0
  wdog    : Nat := 0
  dom     : Nat := 0
  /-- The runtime runs (R434 row 4). -/
  runtime : Bool := false
  /-- The comparator of THERM_TRIP_N is active (R117). -/
  comparator : Bool := false
  /-- PILOT toggles (R248). -/
  pilot   : Bool := false
  /-- The row at which a start stopped; 0 = it did not (R434). -/
  stoppedAt : Nat := 0
  /-- CLK_STAT and CLK_TCXO. -/
  tcxoOk  : Bool := true
  aonOk   : Bool := true
  tcxo    : Nat := 0
  /-- The count before was inside the range of R411; counts have been made. -/
  lastIn  : Bool := true
  /-- CLK_XCNTp: SNAP, OVR and CSAT by path. -/
  snap    : Vector Nat 13 := Vector.replicate 13 0
  ovr     : Vector Nat 13 := Vector.replicate 13 0
  csat    : Vector Nat 13 := Vector.replicate 13 0
deriving DecidableEq, Repr, Inhabited

end Sys2Proof.Machine
end

