-- ==== Sys2Proof/Machine/RcpState.lean ====
section
/-! DEFINITION. The state of the Recipe unit (chapter The Recipe): the Recipe in force as the records its sections
hold (R280, R282), the two slots of module flash, the operation in progress and the partial reload. -/

namespace Sys2Proof.Machine

open Sys2Proof

/-- A record of a section (R280). -/
structure Rec where
  sec   : Nat
  typ   : Nat
  idx   : Nat
  words : List Word
deriving DecidableEq, Repr, Inhabited

/-- The fields of a Recipe's HEADER that the part uses (R277), with its digest D (R281). -/
structure RcpHead where
  rver    : Nat := 0
  rid     : Word := 0
  allowed : Nat := 0
  dflt    : Nat := 0
  minrt   : Nat := 0
  parent  : List Byte := []
  mapBanks : Nat := 0
  mapSeqs : Nat := 0
  mapSlots : Nat := 0
  digest  : List Byte := []
deriving DecidableEq, Repr, Inhabited

/-- RCP_Sx_STAT.STATE. -/
inductive SlotStatus where
  | empty | valid | invalid | writing | inForce
deriving DecidableEq, Repr, Inhabited

/-- The encoding of RCP_Sx_STAT.STATE. -/
def SlotStatus.code : SlotStatus → Nat
  | .empty => 0 | .valid => 1 | .invalid => 2 | .writing => 3 | .inForce => 4

/-- A Recipe slot of module flash: its bytes, and what its registers show. -/
structure SlotState where
  bytes  : List Byte := []
  status : SlotStatus := .empty
  errc   : Nat := 0
  sect   : Nat := 0
  rver   : Nat := 0
  rid    : Word := 0
  digest : List Byte := []
deriving DecidableEq, Repr, Inhabited

/-- RCP_STAT.OP. -/
inductive RcpOp where
  | none | write | discard | reload
deriving DecidableEq, Repr, Inhabited

/-- RCP_STAT.OP. -/
def RcpOp.code : RcpOp → Nat
  | .none => 0 | .write => 1 | .discard => 2 | .reload => 3

/-- RCP_RLD.PHASE. -/
inductive RldPhase where
  | idle | wait | apply
deriving DecidableEq, Repr, Inhabited

/-- RCP_RLD.PHASE. -/
def RldPhase.code : RldPhase → Nat
  | .idle => 0 | .wait => 1 | .apply => 2

/-- The Recipe unit. -/
structure RcpState where
  /-- RCP_STAT.APPLIED. -/
  applied  : Bool := false
  /-- RCP_STAT.INFORCE. -/
  inForce  : RcpSlot := .a
  /-- Some slot has been chosen as the slot in force since the last reset. -/
  chosen   : Bool := false
  /-- The header of the Recipe in force. -/
  head     : RcpHead := {}
  /-- The records in force: what the RS registers show. -/
  recs     : List Rec := []
  slots    : Vector SlotState 2 := Vector.replicate 2 {}
  op       : RcpOp := .none
  /-- Target of the WRITE or DISCARD in progress. -/
  target   : RcpSlot := .a
  /-- The image being programmed by WRITE. -/
  image    : List Byte := []
  /-- RCP_STAT.ERRC and SECT. -/
  errc     : Nat := 0
  sect     : Nat := 0
  waddr    : Word := 0
  wlen     : Nat := 0
  /-- RCP_CTRL.WAITLIM. -/
  waitlim  : Nat := 0x258
  phase    : RldPhase := .idle
  /-- The Recipe a reload takes its units from. -/
  newHead  : RcpHead := {}
  newRecs  : List Rec := []
  rldBanks : Nat := 0
  rldSlots : List Nat := []
  rldSeqs  : Nat := 0
  /-- Commit instant of the reload, in fabric ticks. -/
  commitAt : Nat := 0
  /-- The session that waits for a WRITE or DISCARD to complete. -/
  waiter   : Option Src := none
deriving DecidableEq, Repr, Inhabited

end Sys2Proof.Machine
end

