-- ==== Sys2Proof/Machine/RecState.lean ====
section
/-! DEFINITION. The state of the event recorder (chapter Event Recorder) and of its queue Q8. -/

namespace Sys2Proof.Machine

open Sys2Proof

/-- Where an event comes from: SRC[9:8] of a record (R372). -/
inductive Origin where
  | fabric | runtime | security
deriving DecidableEq, Repr, Inhabited

/-- SRC[9:8]. -/
def Origin.code : Origin → Nat
  | .fabric => 0 | .runtime => 1 | .security => 2

/-- An event as a block presents it to Q8 (R379). -/
structure Ev where
  code    : Nat
  origin  : Origin := .fabric
  session : Option SessId := none
  payload : List Byte := []
deriving DecidableEq, Repr, Inhabited

/-- An entry of Q8 (R380). -/
structure Q8Entry where
  code    : Nat
  k       : Bool := false
  sev     : Nat := 0
  src     : Nat := 0
  supp    : Nat := 0
  suppSat : Bool := false
  payload : List Byte := []
deriving DecidableEq, Repr, Inhabited

/-- The token bucket of a code (R379, R381). An unlisted bucket is full and holds no count. Missing tokens are in
units of 1/(256 × 120,000,000) of a token, so that the refill is RATE units per fabric tick. -/
structure Bucket where
  missing   : Nat := 0
  upTo      : Nat := 0
  sup       : Nat := 0
  lost      : Nat := 0
  lostCode  : Nat := 0
  lostFirst : Nat := 0
  lostLast  : Nat := 0
  lostK     : Bool := false
deriving DecidableEq, Repr, Inhabited

/-- A committed record of the Reel or the Keep: its 64 bytes (R372). -/
structure RecSlot where
  pos   : Nat
  bytes : List Byte
deriving DecidableEq, Repr, Inhabited

/-- The event recorder. -/
structure RecState where
  /-- Q8, head first. -/
  q8       : List Q8Entry := []
  /-- Buckets that are not full or hold a count, by number. -/
  buckets  : List (Nat × Bucket) := []
  /-- The Reel: committed slots, newest first (R370). -/
  reel     : List RecSlot := []
  /-- The Keep: committed slots in order (R371). -/
  keep     : List RecSlot := []
  /-- SEQ of the next record (R375). -/
  nextSeq  : Nat := 0
  /-- Reel position of the next record (R370). -/
  nextPos  : Nat := 0
  /-- Some record has been committed. -/
  any      : Bool := false
  /-- CHAIN head H, 32 bytes (R378). -/
  chain    : List Byte := List.replicate 32 0
  /-- REC_STAT.READY. -/
  ready    : Bool := false
  keepFull : Bool := false
  /-- OPS_S (R376). -/
  ops      : Nat := 0
  /-- Fabric ticks of the operating second in progress (R376). -/
  opsTicks : Nat := 0
  /-- OPS_S as saved in D1 flash. -/
  opsSaved : Nat := 0
  /-- CYCLE (R376), saved in D1 flash. -/
  cycle    : Nat := 0
  /-- REC_CNT.LOST. -/
  lostCnt  : Nat := 0
  /-- REC_CNT.SUPPR. -/
  supprCnt : Nat := 0
  /-- REC_CUR. -/
  cur      : Word := 0
  /-- REC_CURCFG. -/
  area     : Bool := false
  auto     : Bool := false
  kidx     : Nat := 0
deriving DecidableEq, Repr, Inhabited

end Sys2Proof.Machine
end

