-- ==== Sys2Proof/Machine/SctState.lean ====
section
/-! DEFINITION. The state of section control and look-ahead (chapter Section Control and Look-ahead). -/

namespace Sys2Proof.Machine

open Sys2Proof

/-- The modes of R215. -/
inductive SectMode where
  | off | on | auto | ext
deriving DecidableEq, Repr, Inhabited

/-- SCTs_STAT.MODE. -/
def SectMode.code : SectMode → Nat
  | .off => 0 | .on => 1 | .auto => 2 | .ext => 3

/-- A planned command (R209 to R211): instants in 2^-32 s, delay in 100 µs. -/
structure Plan where
  on     : Bool
  at_    : Nat
  serves : Nat
  delay  : Nat
  late   : Bool := false
  frozen : Bool := false
deriving DecidableEq, Repr, Inhabited

/-- The manager's copy of a band of a worker port's delay table (R208). -/
structure DelayCopy where
  learned : Bool := false
  mean    : Rat := 0
  spread  : Rat := 0
  count   : Nat := 0
deriving DecidableEq, Repr, Inhabited

/-- One section. -/
structure Sect where
  mode   : SectMode := .off
  want   : Bool := false
  /-- e: the state of the last executed command. -/
  cmd    : Bool := false
  tserv  : Nat := 0
  plan   : Option Plan := none
  /-- The command that executes next is a frozen plan handed to Q10 or to a worker; its delay in 100 µs. -/
  usedOn  : Nat := 0
  usedOff : Nat := 0
  /-- Changes of APPLY: fabric tick and state, newest command first (R219). -/
  applyEv : List (Nat × Bool) := []
  /-- APPLY at the previous evaluation. -/
  applied : Bool := false
  /-- The cells of its points at the previous evaluation (R205). -/
  cells  : List Nat := []
  refd   : Bool := false
  late   : Bool := false
  /-- The 100 ms of R213 run. -/
  paused : Bool := false
  dson   : Nat := 0
  dsoff  : Nat := 0
  don    : Nat := 0
  doff   : Nat := 0
  err    : Nat := 0
  demand : Int := 0
  /-- The reserved Q10 entry on the device of the section port (R212). -/
  slot   : Option Nat := none
  /-- The Task Controller's setpoint not yet evaluated (R223). -/
  setpt  : Option Nat := none
  /-- DELAY_UNLEARNED has been recorded and a default is still in use. -/
  onDefault : Bool := false
  /-- Copies for a port on a worker: its band, and tables by band. -/
  band   : Nat := 0
  copyOn  : Vector DelayCopy 10 := Vector.replicate 10 {}
  copyOff : Vector DelayCopy 10 := Vector.replicate 10 {}
deriving DecidableEq, Repr, Inhabited

/-- A position solution in the local plane, mm (R197, R198). -/
structure Solution where
  x     : Rat
  y     : Rat
  /-- mm/s. -/
  speed : Nat
  /-- 0.01 degree. -/
  hdg   : Option Nat
  /-- Fabric tick of its instant, and of its arrival. -/
  tick  : Nat
  seen  : Nat
  /-- cm. -/
  hacc  : Nat
  /-- 1 = 2D, 2 = 3D; 3 for the external receiver. -/
  fix   : Nat
deriving DecidableEq, Repr, Inhabited

/-- An ENGAGE that waits for workers to answer RESERVE (R212, R216). -/
structure Engaging where
  src   : Src
  mode  : SectMode
  sects : List SectId
  /-- The answers still awaited, and whether one was refused. -/
  left  : Nat
  full  : Bool := false
deriving DecidableEq, Repr, Inhabited

/-- The unit. -/
structure SctState where
  sects   : Vector Sect 128 := Vector.replicate 128 {}
  orgLat  : Word := 0
  orgLon  : Word := 0
  ovl     : Word := 0
  sel     : Vector Word 4 := Vector.replicate 4 0
  rates   : Vector Word 8 := Vector.replicate 8 0
  polys   : Vector Word 64 := Vector.replicate 64 0
  /-- Vertex words: 2k holds x and 2k + 1 holds y of vertex k; unlisted ones are zero. -/
  verts   : List (Nat × Word) := []
  fault   : Bool := false
  bvalid  : Bool := false
  /-- SCT_BSTAT. -/
  bres    : Nat := 0
  bpoly   : Nat := 0
  berr    : Nat := 0
  bvtx    : Nat := 0
  posOk   : Bool := false
  spdOk   : Bool := false
  spdFb   : Bool := false
  susp    : Bool := false
  suspAt  : Nat := 0
  tcOk    : Bool := false
  /-- The object pool is activated and the Task Controller's claim stands (R222). -/
  tcActive : Bool := false
  tcAt    : Nat := 0
  unl     : Bool := false
  resRun  : Nat := 0
  resCnt  : Nat := 0
  cntLate : Nat := 0
  cntRef  : Nat := 0
  posX    : Int := 0
  posY    : Int := 0
  speed   : Nat := 0
  hdg     : Nat := 0xFFFF
  age     : Nat := 0
  hacc    : Nat := 0xFF
  /-- Solutions of the last seconds, newest first. -/
  sols    : List Solution := []
  /-- Halves of an external solution: value and arrival tick. -/
  extPos  : Option (Int × Int × Nat) := none
  extCog  : Option (Nat × Nat × Nat) := none
  /-- Fabric ticks of the edges of SPDPORT since the latest solution's instant. -/
  edges   : List Nat := []
  permit  : Bool := false
  disagree : Bool := false
  /-- A valid heading has come since the source became valid (R200). -/
  headed  : Option Nat := none
  mapExc  : Bool := false
  engaging : Option Engaging := none
deriving DecidableEq, Repr, Inhabited

end Sys2Proof.Machine
end

