-- ==== Sys2Proof/Machine/SecState.lean ====
section
/-! DEFINITION. The state of the security core (chapter Security and Trust). -/

namespace Sys2Proof.Machine

open Sys2Proof

/-- SEC_SESSs_STAT.STATE. -/
inductive SessSt where
  | free | handshake | opened | claim
deriving DecidableEq, Repr, Inhabited

/-- SEC_SESSs_STAT.STATE. -/
def SessSt.code : SessSt → Nat
  | .free => 0 | .handshake => 1 | .opened => 2 | .claim => 3

/-- A handshake that awaits its FINISH (R312). -/
structure Handshake where
  /-- Fabric tick of its HELLO, and the address it came from. -/
  at_     : Nat := 0
  th      : List Byte := []
  /-- The device signature of HELLO_ACK. -/
  sig     : List Byte := []
  hostKey : List Byte := []
  claim   : Bool := false
  notBefore : Nat := 0
deriving DecidableEq, Repr, Inhabited

/-- One session number (R312, R315). -/
structure Session where
  st       : SessSt := .free
  role     : Role := .operator
  /-- The effective rights of R307, bit by bit. -/
  rights   : BitVec 12 := 0
  kslot    : Nat := 0
  peer     : Peer := .eth 0 0
  serial   : Nat := 0
  /-- LIFETIME in minutes, IDLE in seconds, NOTAFTER in seconds of T. -/
  lifetime : Nat := 0
  idle     : Nat := 0
  notAfter : Nat := 0
  /-- Fabric ticks of the opening and of the last accepted frame. -/
  openAt   : Nat := 0
  lastAt   : Nat := 0
  /-- H of R310 and the counters accepted; none = no frame accepted. -/
  h        : Option Nat := none
  seen     : List Nat := []
  /-- The next CTR from the device. -/
  tx       : Nat := 1
  accepted : Nat := 0
  keyTo    : List Byte := []
  keyFrom  : List Byte := []
  saltTo   : List Byte := []
  saltFrom : List Byte := []
  /-- SEC_KEYINk of this session. -/
  keyin    : Vector Word 9 := Vector.replicate 9 0
  /-- Failures of R311 in the second in progress: its start in ticks, their number, the last CTR, answers sent. -/
  failAt   : Nat := 0
  fails    : Nat := 0
  failCtr  : Nat := 0
  failAns  : Nat := 0
  hs       : Handshake := {}
deriving DecidableEq, Repr, Inhabited

/-- A session that is open, a claim session among them. -/
def Session.isOpen (x : Session) : Bool := x.st == .opened || x.st == .claim

/-- The states of an owner key slot (R304). -/
inductive KeySt where
  | empty | enabled | revoked
deriving DecidableEq, Repr, Inhabited

/-- SEC_KEYS. -/
def KeySt.code : KeySt → Nat
  | .empty => 0 | .enabled => 1 | .revoked => 2

/-- An owner key slot (R304). -/
structure KeySlot where
  st   : KeySt := .empty
  hash : List Byte := []
deriving DecidableEq, Repr, Inhabited

/-- SEC_DBG.STATE (R320). -/
inductive DbgSt where
  | locked | challenge | unlocked
deriving DecidableEq, Repr, Inhabited

/-- SEC_DBG.STATE. -/
def DbgSt.code : DbgSt → Nat
  | .locked => 0 | .challenge => 1 | .unlocked => 2

/-- The receive window of a sender in an epoch (R310, R319). -/
structure Window where
  sender : Nat
  epoch  : Nat
  h      : Nat
  seen   : List Nat
deriving DecidableEq, Repr, Inhabited

/-- A runtime image of module flash (R305): its version, its bytes, and whether it verifies. -/
structure RtImage where
  version : Nat := 0
  bytes   : List Byte := []
  ok      : Bool := false
deriving DecidableEq, Repr, Inhabited

structure SecState where
  sessions : Vector Session 4 := Vector.replicate 4 {}
  slots    : Vector KeySlot 4 := Vector.replicate 4 {}
  /-- The time floor of R313. -/
  floor    : Nat := 0
  /-- The hierarchy root (R317), none while not installed. -/
  root     : Option (List Byte) := none
  epoch    : Nat := 0
  /-- The epoch accepted beside it, until the second named (R318). -/
  oldEpoch : Option (Nat × Nat) := none
  /-- An announced rotation: the new epoch and its second S (R318). -/
  rotation : Option (Nat × Nat) := none
  /-- Announcements of it still to send, by the manager. -/
  announce : Nat := 0
  /-- OPS_S at the last rotation. -/
  rotOps   : Nat := 0
  /-- The next CTR of the hierarchy, and the floor stored in D1 flash (R319). -/
  hctr     : Nat := 0
  hfloor   : Nat := 0
  windows  : List Window := []
  /-- Since when hierarchy frames verify under no epoch, with the sender and epoch byte of the last one; KEY_STALE
  recorded (R318). -/
  staleAt  : Option (Nat × Nat × Nat) := none
  staleRec : Bool := false
  arg0     : Word := 0
  arg1     : Word := 0
  dbg      : DbgSt := .locked
  challenge : List Byte := []
  dbgAt    : Nat := 0
  scope    : Nat := 0
  duration : Nat := 0
  /-- TAMPER, AONLOST and TCOUNT, held in D0 (R321). -/
  tamper   : Bool := false
  aonLost  : Bool := false
  tcount   : Nat := 0
  /-- A root has been installed since the detection. -/
  rerooted : Bool := false
  /-- A detection whose effects wait for the security core. -/
  tampPend : Option Nat := none
  afail    : Nat := 0
  rpl      : Nat := 0
  malf     : Nat := 0
  /-- The two runtime images (R305); those that the factory stored verify. -/
  images   : Vector RtImage 2 := Vector.replicate 2 { ok := true }
  running  : Fin 2 := 0
  /-- Fabric tick at which the running image started, and the rollback floor (R305). -/
  rtAt     : Nat := 0
  rbFloor  : Nat := 0
  /-- Debug unlocks and sessions opened since manufacture (R322), in D1 flash. -/
  unlocks  : Nat := 0
  opens    : Nat := 0
deriving DecidableEq, Repr, Inhabited

end Sys2Proof.Machine
end

