-- ==== Sys2Proof/Machine/SeqState.lean ====
section
/-! DEFINITION. The state of the sequencers (chapter Step Sequencers and Machine Cycles). -/

namespace Sys2Proof.Machine

open Sys2Proof

/-- SEQs_STAT.STATE (R355). -/
inductive SeqSt where
  | stopped | running | paused | held
deriving DecidableEq, Repr, Inhabited

/-- SEQs_STAT.STATE. -/
def SeqSt.code : SeqSt → Nat
  | .stopped => 0 | .running => 1 | .paused => 2 | .held => 3

/-- The requests of SEQs_CMD (R362). -/
inductive SeqOp where
  | start | stop | pause | resume
deriving DecidableEq, Repr, Inhabited

/-- SEQs_STAT.REQ. -/
def SeqOp.code : SeqOp → Nat
  | .start => 1 | .stop => 2 | .pause => 3 | .resume => 4

/-- A timer (R361). -/
structure Tm where
  run : Bool := false
  ms  : Nat := 0
deriving DecidableEq, Repr, Inhabited

/-- One sequencer. -/
structure Seq where
  st      : SeqSt := .stopped
  /-- The state before a hold, and the mark for one (R365). -/
  before  : SeqSt := .stopped
  mark    : Bool := false
  req     : Option (SeqOp × Src) := none
  /-- The start of R364 waits for the first evaluation. -/
  auto    : Bool := false
  step    : Nat := 0
  prev    : Nat := 0xFF
  taken   : Nat := 0xFF
  time    : Nat := 0
  /-- Step time of the previous Step at its exit. -/
  exitMs  : Nat := 0
  tms     : Vector Tm 4 := Vector.replicate 4 {}
  flags   : BitVec 8 := 0
  hpend   : BitVec 16 := 0
  /-- Status of action a, 0xF = not presented. -/
  astat   : Vector Nat 8 := Vector.replicate 8 0xF
  trans   : Nat := 0
  refused : Nat := 0
  /-- Fabric tick of the last PAUSE that took effect. -/
  pausedAt : Nat := 0
deriving DecidableEq, Repr, Inhabited

structure SeqState where
  seqs : Vector Seq 4 := Vector.replicate 4 {}
  /-- Q9, head first (R366). -/
  q9   : List (List Byte) := []
deriving DecidableEq, Repr, Inhabited

end Sys2Proof.Machine
end

