-- ==== Sys2Proof/Machine/SolState.lean ====
section
/-! DEFINITION. The state of the solenoid drive (chapter Solenoid and Valve Drive): profile phases, commands,
delay measurements and tables, coil models and shared groups. -/

namespace Sys2Proof.Machine

open Sys2Proof

/-- The profile phases of R66. -/
inductive Phase where
  | idle | hit | bridge | hold | release
deriving DecidableEq, Repr, Inhabited

/-- SOL_PSTATn.PHASE. -/
def Phase.code : Phase → Nat
  | .idle => 0 | .hit => 1 | .bridge => 2 | .hold => 3 | .release => 4

/-- What a pending command waits for: SOL_PSTATn.PEND. -/
inductive PendKind where
  | budget | supply | offAtHitEnd
deriving DecidableEq, Repr, Inhabited

/-- SOL_PSTATn.PEND. -/
def PendKind.code : PendKind → Nat
  | .budget => 1 | .supply => 2 | .offAtHitEnd => 3

/-- The pending command of a solenoid port (R74). -/
structure Pend where
  kind      : PendKind
  src       : Src
  /-- DUR in ms; 0 = no hold end. -/
  dur       : Nat := 0
  /-- A hold end carried over from a forced interval (R77), in fabric ticks. -/
  keepEnd   : Option (Option Nat) := none
  /-- The waiting start instant of R91, in fabric ticks. -/
  since     : Nat := 0
  /-- A forced ON waits with it, without the limit of R91 (R77). -/
  forced    : Bool := false
  /-- Place in the order in which deferrals began (R437). -/
  ticket    : Nat := 0
deriving DecidableEq, Repr, Inhabited

/-- The state last commanded to a solenoid port (R77). -/
inductive LastCmd where
  | off
  | on (holdEnd : Option Nat)
deriving DecidableEq, Repr, Inhabited

/-- The result codes of R82, with 0 = none yet. -/
inductive MeasRes where
  | none | accepted | notSeen | supply | interrupted | outlier | shared
deriving DecidableEq, Repr, Inhabited

/-- SOL_MOPENn.RES. -/
def MeasRes.code : MeasRes → Nat
  | .none => 0 | .accepted => 1 | .notSeen => 2 | .supply => 3 | .interrupted => 4 | .outlier => 5 | .shared => 6

/-- SOL_MOPENn and SOL_MCLOSEn. -/
structure MeasReg where
  res   : MeasRes := .none
  band  : Nat := 0
  delay : Nat := 0
deriving DecidableEq, Repr, Inhabited

/-- The conditions under which a delay is being measured (R82). -/
structure MeasCtx where
  /-- Band of the copper node at the start of the phase (R81). -/
  band    : Nat := 0
  /-- VBANK at the start of the phase. -/
  vbank   : Nat := 0
  /-- Opening: the HIT began with 20 mA or more. -/
  residual : Bool := false
  /-- The supply warning was in force at some time in the interval. -/
  warned  : Bool := false
  /-- Another member of the group started a HIT in the interval. -/
  shared  : Bool := false
  /-- The measurement has been given its result. -/
  done    : Bool := true
deriving DecidableEq, Repr, Inhabited

/-- The delay table of one band and direction (R83, R84). -/
structure DelayTab where
  count  : Nat := 0
  mean   : Rat := 0
  spread : Rat := 0
  /-- The accepted values while fewer than eight, newest first. -/
  first  : List Nat := []
  /-- The run of OUTLIERs: true = above the mean. -/
  runUp  : Bool := false
  run    : List Nat := []
deriving DecidableEq, Repr, Inhabited

/-- One solenoid port, or the group head of function 0x03. -/
structure SolPort where
  phase      : Phase := .idle
  /-- Fabric tick at which the phase began. -/
  since      : Nat := 0
  /-- Fabric tick at which the running or last HIT began (R67). -/
  hitStart   : Nat := 0
  /-- The hold end planned, in fabric ticks; none = no hold end (R71). -/
  holdEnd    : Option Nat := none
  /-- The source of the active command (R74). -/
  active     : Option Src := none
  pend       : Option Pend := none
  last       : LastCmd := .off
  /-- The current has reached IHIT in this HIT (R66, R79). -/
  reached    : Bool := false
  /-- The end of stroke of this HIT is confirmed (R79). -/
  stroke     : Bool := false
  /-- The hold current in force, 1/32 A (R66, R95). -/
  holdCur    : Nat := 0
  tcu        : Rat := 0
  th         : Rat := 0
  hot        : Bool := false
  hitref     : Bool := false
  openCtx    : MeasCtx := {}
  closeCtx   : MeasCtx := {}
  mopen      : MeasReg := {}
  mclose     : MeasReg := {}
  /-- Tables of open delays by band. -/
  tabOpen    : Vector DelayTab 10 := Vector.replicate 10 {}
  /-- Tables of close delays by band. -/
  tabClose   : Vector DelayTab 10 := Vector.replicate 10 {}
  /-- Something that spoils the 10 ms resistance window has happened in it (R94). -/
  windowDirty : Bool := true
  /-- Group head: the head switch is on (R88). -/
  headOn     : Bool := false
deriving DecidableEq, Repr, Inhabited

/-- One shared high-side group (R87 to R91). -/
structure Group where
  /-- SOL_GRPg_CNT.DEFERRED. -/
  deferred : Nat := 0
  /-- SOL_GRPg_CNT.TIMEOUTS. -/
  timeouts : Nat := 0
deriving DecidableEq, Repr, Inhabited

/-- The delay tables of one port as the runtime saved them to module flash (R85). -/
structure SavedDelays where
  func     : Nat := 0
  template : Nat := 0
  rref     : Nat := 0
  tabOpen  : Vector DelayTab 10 := Vector.replicate 10 {}
  tabClose : Vector DelayTab 10 := Vector.replicate 10 {}
deriving DecidableEq, Repr, Inhabited

/-- The solenoid drive as a whole. -/
structure SolState where
  ports    : Vector SolPort 32 := Vector.replicate 32 {}
  groups   : Vector Group 8 := Vector.replicate 8 {}
  /-- SOL_DSEL. -/
  selPort  : PortId := 0
  selBand  : Nat := 0
  /-- SOL_DOPEN, SOL_DCLOSE, SOL_DSPREAD as latched (R98). -/
  dopen    : Word := 0
  dclose   : Word := 0
  dspread  : Word := 0
  /-- SOL_DCLR.ALLB. -/
  allBands : Bool := false
  /-- The next ticket of the waiting order (R90, R437). -/
  ticket   : Nat := 0
  /-- Module flash: the saved delay tables, the Recipe hash they belong to, and whether any were saved (R85). -/
  saved    : Vector SavedDelays 32 := Vector.replicate 32 {}
  savedHash : List Byte := []
  everSaved : Bool := false
deriving DecidableEq, Repr, Inhabited

end Sys2Proof.Machine
end

