-- ==== Sys2Proof/Machine/State.lean ====
section
/-! DEFINITION. The state of the block. -/

namespace Sys2Proof.Machine

open Sys2Proof

/-- HWM and OVF of a queue (SYS_QSTATn); FILL is the length of the queue itself. -/
structure QStat where
  hwm : Nat := 0
  ovf : Nat := 0
deriving DecidableEq, Repr, Inhabited

/-- The status given to a command of a source (R11). -/
structure Answer where
  src    : Src
  status : Status
deriving DecidableEq, Repr, Inhabited

structure SysState where
  request   : Mode := .boil
  current   : Mode := .boil
  switching : Bool := false
  /-- Fabric tick and session of the mode change accepted last (R34). -/
  reqAt     : Nat := 0
  reqBy     : Option SessId := none
  /-- Pipeline B is up (R34). -/
  pipeB     : Bool := false
  qstat     : Vector QStat 16 := Vector.replicate 16 {}
  /-- Fabric ticks since reset. -/
  ticks     : Nat := 0
  /-- Module housing temperature, m°C. -/
  housing   : Int := 0
  /-- ADDR of this device (R225). -/
  addr      : Nat := 0
  /-- The interlock rules that are active, ascending (R286). -/
  active    : List Nat := []
  /-- The number of free values drawn. -/
  draws     : Nat := 0
  answers   : List Answer := []
  /-- The number of the host command being carried out, 0 for a command of its own. -/
  cur       : Nat := 0
  /-- The word a register read with an effect of its own returned last. -/
  readData  : Word := 0
deriving DecidableEq, Repr, Inhabited

/-- Why the machine stops with a fault: never. The manual gives every access and every command a status or an effect, so
no reason to stop exists, and no constructor does. -/
inductive Fault where
deriving DecidableEq, Repr

/-- Why a command is refused by the model. -/
inductive Refusal where
  /-- Raised by an arm of exec whose command has no meaning yet. Safe. -/
  | notModelled (mnemonic : String)
deriving DecidableEq, Repr

structure State where
  sys   : SysState := {}
  ports : Vector Port 32 := Vector.replicate 32 {}
  banks : Vector Bank 4 := Vector.replicate 4 {}
  sol   : SolState := {}
  log   : RecState := {}
  rcp   : RcpState := {}
  sec   : SecState := {}
  pwr   : PwrState := {}
  tmb   : TmbState := {}
  gns   : GnsState := {}
  hie   : HieState := {}
  mon   : MonState := {}
  cal   : CalState := {}
  fan   : FanState := {}
  eng   : EngState := {}
  sct   : SctState := {}
  can   : Vector Can 4 := Vector.replicate 4 {}
  hl    : HostState := {}
  apu   : ApuState := {}
  dma   : DmaState := {}
  seq   : SeqState := {}
  /-- The SRAM windows (R334). -/
  mem   : Memory := []
  /-- Commands that wait, first in, first out. -/
  pending : List Instr := []
deriving DecidableEq, Repr, Inhabited

/-- The machine right after the reset of a module without supply before: no command waits, and every field has the value
that its declaration gives it. -/
def State.reset : State := {}

/-- The outcome of a command. -/
abbrev Out := Host.Outcome State Fault Refusal

end Sys2Proof.Machine
end

