-- ==== Sys2Proof/Machine/Ops.lean ====
section
/-! DEFINITION. The operations every family uses: reading the Recipe in force, the time base, queues' marks, presenting
an event to Q8 (R379 to R381), and giving a command its status (R11). -/

namespace Sys2Proof.Machine

open Sys2Proof

/-! ### One part of the state replaced by a function of it -/

def State.onSys (s : State) (f : SysState → SysState) : State := { s with sys := f s.sys }
def State.onSol (s : State) (f : SolState → SolState) : State := { s with sol := f s.sol }
def State.onLog (s : State) (f : RecState → RecState) : State := { s with log := f s.log }
def State.onRcp (s : State) (f : RcpState → RcpState) : State := { s with rcp := f s.rcp }
def State.onSec (s : State) (f : SecState → SecState) : State := { s with sec := f s.sec }
def State.onPwr (s : State) (f : PwrState → PwrState) : State := { s with pwr := f s.pwr }
def State.onTmb (s : State) (f : TmbState → TmbState) : State := { s with tmb := f s.tmb }
def State.onMon (s : State) (f : MonState → MonState) : State := { s with mon := f s.mon }
def State.onFan (s : State) (f : FanState → FanState) : State := { s with fan := f s.fan }
def State.onEng (s : State) (f : EngState → EngState) : State := { s with eng := f s.eng }
def State.onSct (s : State) (f : SctState → SctState) : State := { s with sct := f s.sct }
def State.onGns (s : State) (f : GnsState → GnsState) : State := { s with gns := f s.gns }
def State.onHie (s : State) (f : HieState → HieState) : State := { s with hie := f s.hie }
def State.onHl (s : State) (f : HostState → HostState) : State := { s with hl := f s.hl }
def State.onApu (s : State) (f : ApuState → ApuState) : State := { s with apu := f s.apu }
def State.onDma (s : State) (f : DmaState → DmaState) : State := { s with dma := f s.dma }
def State.onSeq (s : State) (f : SeqState → SeqState) : State := { s with seq := f s.seq }
def State.setSeq (s : State) (q : SeqId) (f : Seq → Seq) : State := s.onSeq fun x => { x with seqs := upd x.seqs q f }
def State.setCan (s : State) (c : CanId) (f : Can → Can) : State := { s with can := upd s.can c f }
def State.setSess (s : State) (k : SessId) (f : Session → Session) : State :=
  { s with sec := { s.sec with sessions := upd s.sec.sessions k f } }
def State.onCal (s : State) (f : CalState → CalState) : State := { s with cal := f s.cal }

/-! ### Time -/

/-- Fabric ticks in one millisecond (R4: one tick is 1/120 MHz). -/
def ticksPerMs : Nat := 120000

/-- Time-base time in units of 2^-32 s: 48 bits of seconds and 32 of fraction (R4). -/
def State.now (s : State) : Nat := s.tmb.t / 2 ^ 40

/-- The fabric tick now. -/
def State.tick (s : State) : Nat := s.sys.ticks

/-- A duration in fabric ticks as whole microseconds. -/
def ticksUs (t : Nat) : Nat := t / 120

/-- Fraction and low seconds of an instant, as event payloads carry it. -/
def stampOf (t : Nat) : List Byte := le 4 t ++ le 4 (t / 2 ^ 32)

/-- Fraction and low seconds of now. -/
def State.stamp (s : State) : List Byte := stampOf s.now

/-! ### The Recipe in force (R280, R282) -/

/-- The words of a record of a list of records, if there is one. -/
def findRec (rs : List Rec) (sec typ i : Nat) : Option (List Word) :=
  (rs.find? fun r => r.sec == sec && r.typ == typ && r.idx == i).map Rec.words

/-- Word `k` of a record in force; a record that is absent reads as zero (R282). -/
def State.rw (s : State) (sec typ i k : Nat) : Word :=
  ((findRec s.rcp.recs sec typ i).getD []).getD k 0

/-- A record is present in the Recipe in force. -/
def State.hasRec (s : State) (sec typ i : Nat) : Bool := (findRec s.rcp.recs sec typ i).isSome

/-- The section IDs of R279. -/
abbrev secPORTMAP : Nat := 1
abbrev secROUTE : Nat := 2
abbrev secINTERLOCK : Nat := 3
abbrev secLIMITS : Nat := 4
abbrev secPROFILES : Nat := 5
abbrev secFANS : Nat := 6
abbrev secLAWS : Nat := 7
abbrev secSEQ : Nat := 8
abbrev secSECTION : Nat := 9
abbrev secLOCKGRP : Nat := 10
abbrev secHIER : Nat := 11
abbrev secCAN : Nat := 12
abbrev secRECORDER : Nat := 13
abbrev secMONITOR : Nat := 14

/-! ### Queue marks (R26, R28) -/

/-- The mark of a queue after an enqueue that leaves `fill` entries: HWM is the highest FILL. -/
def State.noteFill (s : State) (q : Fin 16) (fill : Nat) : State :=
  { s with sys := { s.sys with qstat := upd s.sys.qstat q fun m => { m with hwm := max m.hwm fill } } }

/-- An item found the queue full: OVF increments and saturates at 255 (R26). -/
def State.noteOvf (s : State) (q : Fin 16) : State :=
  { s with sys := { s.sys with qstat := upd s.sys.qstat q fun m => { m with ovf := satNat 255 (m.ovf + 1) } } }

/-! ### Free values -/

/-- The state after one more free value has been drawn. -/
def State.draw (s : State) : State := { s with sys := { s.sys with draws := s.sys.draws + 1 } }

/-- The next free number. -/
def State.free (s : State) : Nat := Config.freeNat s.sys.draws

/-- An exact number as a register shows it in whole units, where the manual states no rounding: one of its two
whole neighbours. -/
def shown (tag : Nat) (x : Rat) : Int :=
  if x.den = 1 then x.num else if Config.roundUp tag x.num x.den then x.floor + 1 else x.floor

/-! ### Frequencies (R45) -/

/-- FREQ in 1/256 Hz of `n` edges between two instants, a half unit rounded up (R45). -/
def freqOf (n dt : Nat) : Nat := if dt = 0 then 0 else (2 * (n - 1) * 256 * 2 ^ 32 + dt) / (2 * dt)

/-- An edge lies in the 10 ms before `t` (R45). -/
def inWindow (t e : Nat) : Bool := decide ((t - e) * 100 ≤ 2 ^ 32)

/-- FREQ from the rising edges, newest first: those of the last 10 ms, or the last two (R45). -/
def freqFrom (now : Nat) (edges : List Nat) : Nat :=
  match edges with
  | t :: u :: _ =>
    let win := edges.filter (inWindow now)
    if 2 ≤ win.length then freqOf win.length (t - win.getLastD t) else freqOf 2 (t - u)
  | _ => 0

/-- The instants that FREQ can still need: those of the last 10 ms, and the last two. -/
def keepEdges (edges : List Nat) : List Nat :=
  match edges with
  | t :: u :: rest => t :: u :: rest.filter (inWindow t)
  | es => es

/-- FREQ of a port now; 0 while STALE (R45). -/
def State.freq (s : State) (p : PortId) : Nat := if s.ports[p].stale then 0 else freqFrom s.now s.ports[p].edges

/-! ### Counters (R392, R393) -/

/-- MONn_CFG of counter `n`. -/
def State.monCfg (s : State) (n : MonId) : Word := s.rw secMONITOR 1 n.val 0

/-- A counter with `n` more counts; at 2^48 − 1 it holds (R393). -/
def Counter.add (c : Counter) (n : Nat) : Counter := { c with cnt := satNat (2 ^ 48 - 1) (c.cnt + n) }

/-- Every counter whose source is `src` adds `n`, once the first period has begun (R392, R399). -/
def State.count (s : State) (src n : Nat) : State :=
  if s.mon.running then
    s.onMon fun m => { m with counters := updAll m.counters fun i c => if bits (s.monCfg i) 24 8 = src ∧ src ≠ 0 then c.add n else c }
  else s

/-! ### Events -/

/-- The bucket of a code (R379). -/
def bucketOf (code : Nat) : Nat :=
  let h := code / 256
  let l := code % 256
  if h = 0x0D ∧ 0x80 ≤ l then 960 + (l - 0x80) / 2 else 64 * (h - 1) + l

/-- The codes a chapter marks permanent (R371). -/
def permanentCodes : List Nat :=
  [0x0305, 0x0306, 0x0307, 0x0308, 0x030A, 0x030C, 0x030D, 0x0E05, 0x0F02, 0x0F03, 0x0F04]

/-- REC_BKTk as the Recipe sets it. -/
def State.bkt (s : State) (k : Nat) : Word := s.rw secRECORDER 1 k 0

/-- A record of this code carries K (R371). -/
def State.codeK (s : State) (code : Nat) : Bool := permanentCodes.contains code || bit (s.bkt (bucketOf code)) 7

/-- One token, in the units of `Bucket.missing`. -/
def tokenUnit : Nat := 256 * 120000000

/-- A bucket, with its refill brought up to the tick (R379). -/
def State.bucketNow (s : State) (k : Nat) : Bucket :=
  let b := (assoc k s.log.buckets).getD {}
  { b with missing := b.missing - bits (s.bkt k) 8 16 * (s.tick - b.upTo), upTo := s.tick }

/-- A bucket written back. -/
def State.setBucket (s : State) (k : Nat) (b : Bucket) : State :=
  { s with log := { s.log with buckets := assocSet k b s.log.buckets } }

/-- The events that bypass the buckets beside those with K (R379). -/
def bypassCodes : List Nat := [0x0E01, 0x0E02, 0x0E03]

/-- ADDR of the recording device in SRC[15:10], its origin and session (R372). -/
def srcField (addr : Nat) (e : Ev) : Nat :=
  put addr 10 6 + put e.origin.code 8 2 + put (match e.session with | some k => k.val | none => 0xF) 0 4

/-- The hierarchy address of this device (HIE_CFG is word 0 of the HIER record 0x01). -/
def State.devAddr (s : State) : Nat := s.sys.addr

/-- A Q8 entry of an event (R380). -/
def State.entryOf (s : State) (e : Ev) (k : Bool) (sup : Nat) : Q8Entry :=
  { code := e.code, k := k, sev := bits (s.bkt (bucketOf e.code)) 0 3, src := srcField s.devAddr e,
    supp := satNat 65535 sup, suppSat := decide (65535 < sup), payload := fit 24 e.payload }

/-- An entry put at the end of Q8. -/
def State.pushQ8 (s : State) (q : Q8Entry) : State :=
  let s := { s with log := { s.log with q8 := s.log.q8 ++ [q] } }
  s.noteFill 8 s.log.q8.length

/-- An admitted event that finds no entry is lost (R381). -/
def State.loseEvent (s : State) (e : Ev) (k : Bool) (b : Bucket) : State :=
  let b' := { b with lost := satNat 65535 (b.lost + 1), lostK := b.lostK || k, lostLast := s.now,
                     lostCode := if b.lost = 0 then e.code else b.lostCode,
                     lostFirst := if b.lost = 0 then s.now else b.lostFirst }
  let s := ((s.setBucket (bucketOf e.code) b').noteOvf 8).count 0x09 1
  { s with log := { s.log with lostCnt := satNat 65535 (s.log.lostCnt + 1) } }

/-- An event of a bucket that holds no token is suppressed (R379). -/
def State.suppress (s : State) (k : Nat) (b : Bucket) : State :=
  let s := (s.setBucket k { b with sup := b.sup + 1 }).count 0x08 1
  { s with log := { s.log with supprCnt := satNat 65535 (s.log.supprCnt + 1) } }

/-- The entries of Q8 below which an event is queued: 64 with K, 60 without (R380). -/
def q8Limit (k : Bool) : Nat := if k then 64 else 60

/-- One event presented to Q8: tested against its bucket, then queued, suppressed or lost (R379 to R381). -/
def State.emit (s : State) (e : Ev) : State :=
  let n := bucketOf e.code
  let k := s.codeK e.code
  let b := s.bucketNow n
  if k || bypassCodes.contains e.code then
    if s.log.q8.length < q8Limit k then s.pushQ8 (s.entryOf e k 0) else s.loseEvent e k b
  else
    let burst := bits (s.bkt n) 24 8
    if burst ≠ 0 ∧ burst * tokenUnit < b.missing + tokenUnit then s.suppress n b
    else
      let b := if burst = 0 then b else { b with missing := b.missing + tokenUnit }
      if s.log.q8.length < q8Limit false then
        (s.setBucket n { b with sup := 0 }).pushQ8 (s.entryOf e false b.sup)
      else s.loseEvent e false b

/-- The order in which events of one fabric cycle are queued: ascending code, then what the payload names first
(R380). -/
def evBefore (a b : Ev) : Bool :=
  if a.code = b.code then decide ((a.payload.headD 0).toNat ≤ (b.payload.headD 0).toNat) else decide (a.code < b.code)

/-- An event put in its place in an ordered list. -/
def evInsert (e : Ev) : List Ev → List Ev
  | [] => [e]
  | x :: xs => if evBefore x e then x :: evInsert e xs else e :: x :: xs

/-- Events in the order of R380. -/
def evSort : List Ev → List Ev
  | [] => []
  | x :: xs => evInsert x (evSort xs)

/-- The events of one fabric cycle presented together (R380). -/
def State.emitAll (s : State) (es : List Ev) : State := (evSort es).foldl State.emit s

/-- A Recipe event (R300). -/
def State.rcpEv (s : State) (code : Nat) (slot : RcpSlot) (a b : Nat) : Ev :=
  { code := code, origin := .runtime,
    payload := le 1 slot.code ++ le 1 s.rcp.inForce.code ++ zeros 2 ++ le 4 a ++ le 4 b ++ s.stamp ++ zeros 4 }

/-! ### Commands -/

/-- A hierarchy message queued into Q14, and whether it found an entry (R26, R240). -/
def State.send (s : State) (code dst : Nat) (body : List Byte) : State × Bool :=
  if s.hie.q14.length < 64 then
    let s := s.onHie fun h => { h with q14 := h.q14 ++ [{ code := code, dst := dst, body := body, sender := s.sys.addr }] }
    (s.noteFill 14 s.hie.q14.length, true)
  else (s.noteOvf 14, false)

/-- CMD_DONE to the manager (R240). -/
def State.cmdDone (s : State) (port slot : Nat) (st : Status) (at_ : Nat) : State :=
  (s.send 0x82 0 (le 1 s.sys.addr ++ le 1 port ++ le 1 slot ++ le 1 st.code ++ stampOf at_)).1

/-- A host session as the source of the command being carried out. -/
def State.me (s : State) (k : SessId) : Src := .host k s.sys.cur

/-- A command of a source is given its status (R11); one refused with INTERLOCK is counted (R392, SRC 0x06), and one
of the manager is answered with CMD_DONE (R243). -/
def State.answer (s : State) (src : Src) (st : Status) : State :=
  let s := if st = .interlock then s.count 0x06 1 else s
  let s := match src with
    | .hier _ _ port slot at_ => s.cmdDone port slot st at_
    | _ => s
  { s with sys := { s.sys with answers := ⟨src, st⟩ :: s.sys.answers } }

/-- The role of a session that is open. -/
def State.role (s : State) (k : SessId) : Option Role :=
  if s.sec.sessions[k].isOpen then some s.sec.sessions[k].role else none

/-- The session has SERVICE or OWNER rights (R6, R7). -/
def State.privileged (s : State) (k : SessId) : Bool :=
  s.role k = some .service || s.role k = some .owner

/-- The slot is in FAULT (R107, R145). -/
def State.slotFaulted (s : State) (n : SlotId) : Bool := s.eng.slots[n].mode == .fault

/-- The output a slot presents, an EV (R283). -/
def State.slotOut (s : State) (n : SlotId) : Int := s.eng.slots[n].out

/-- The rights of R307, by their bit. -/
abbrev rightREAD : Nat := 0
abbrev rightCOMMAND : Nat := 1
abbrev rightPARAM : Nat := 2
abbrev rightCANTX : Nat := 3
abbrev rightDMA : Nat := 4
abbrev rightRECORD : Nat := 5
abbrev rightSERVICE : Nat := 6
abbrev rightRECIPE : Nat := 7
abbrev rightTAKE : Nat := 8
abbrev rightDEBUG : Nat := 9
abbrev rightKEYS : Nat := 10
abbrev rightATTEST : Nat := 11

/-- The session is open and holds the right (R307). -/
def State.hasRight (s : State) (k : SessId) (r : Nat) : Bool :=
  s.sec.sessions[k].isOpen && s.sec.sessions[k].rights.getLsbD r

/-- STANDBY or SLEEP: every command completes with NOT_READY (R445). -/
def State.lowPower (s : State) : Bool := s.pwr.phase == .standby || s.pwr.phase == .sleep

/-- The start has stopped at row 4, since no runtime image verifies: the host link serves RT_WRITE alone (R305, R434). -/
def State.rtOnly (s : State) : Bool := s.pwr.phase == .run && s.pwr.stoppedAt == 4

/-- The host link serves (R305, R434). -/
def State.linked (s : State) : Bool := s.pwr.runtime || s.rtOnly

/-- What the rights answer to a session (R307, R311): a session that is not open has no key, and a right that is missing is
DENIED. -/
def State.gateRight (s : State) (k : SessId) (r : Nat) : Status :=
  if !s.sec.sessions[k].isOpen then .authFail else if s.hasRight k r then .ok else .denied

/-- What the aperture and the rights answer to a write of a session (R308, R311, R337), while the device serves it. -/
def State.gate (s : State) (k : SessId) (r : Nat) : Status := if s.lowPower || s.rtOnly then .notReady else s.gateRight k r

/-- The gate of RT_WRITE and of its arguments, which a device without a runtime serves too (R305). -/
def State.gateRt (s : State) (k : SessId) : Status := if s.lowPower then .notReady else s.gateRight k rightKEYS

/-- A write of an RWS field (R7, R308): the right, and the SERVICE or OWNER role. -/
def State.gateRws (s : State) (k : SessId) (r : Nat) : Status :=
  match s.gate k r with
  | .ok => if s.privileged k then .ok else .denied
  | st => st

/-- A write that passes its gate goes on; one that does not completes with the gate's status. -/
def State.gated (s : State) (k : SessId) (st : Status) (go : State → State × Status) : State :=
  match st with
  | .ok => let r := go s; r.1.answer (s.me k) r.2
  | _ => s.answer (s.me k) st

end Sys2Proof.Machine
end

