-- ==== Sys2Proof/Machine/MonOps.lean ====
section
/-! DEFINITION. Shared operations of gauges and calibration: taking a sample (R394), the effective gain and offset of a
channel (R400, R405), and rounding with ties away from zero. -/

namespace Sys2Proof.Machine

open Sys2Proof

/-- The nearest integer, ties away from zero. -/
def roundAway (x : Rat) : Int := if x < 0 then -((-x + 1 / 2).floor) else (x + 1 / 2).floor

/-- MON_Gg_CFG. -/
def State.gaugeCfg (s : State) (g : Nat) : Word := s.rw secMONITOR 2 g 0

/-- A gauge with one more sample; at 0xFFFF_FFFF samples sampling stops for the period (R394). -/
def Gauge.add (x : Gauge) (v : Int) : Gauge :=
  if x.ns = 0xFFFFFFFF then x
  else { least := min x.least v, great := max x.great v, sum := x.sum + v, ns := x.ns + 1 }

/-- The mean of a gauge's period: ties away from zero, 0 without a sample (R394). -/
def Gauge.mean (x : Gauge) : Int := if x.ns = 0 then 0 else roundAway ((x.sum : Rat) / (x.ns : Nat))

/-- A value source presents an update: gauges that watch it with SMODE = 0 take a sample (R394). -/
def State.present (s : State) (src : Nat) (v : Int) : State :=
  if s.mon.running then
    s.onMon fun m => { m with gauges := updAll m.gauges fun g x => if bit (s.gaugeCfg g.val) 31 && !bit (s.gaugeCfg g.val) 30 && (bits (s.gaugeCfg g.val) 0 11 == src) then x.add v else x }
  else s

/-- gu of a channel (R403). -/
def CalChan.gu (c : CalChan) : Int := sbits c.u 16 16
/-- ou of a channel (R403). -/
def CalChan.ou (c : CalChan) : Int := sbits c.u 0 16

/-- The effective gain Ge (R400). -/
def CalChan.ge (c : CalChan) : Rat := (c.gf : Nat) / (2 ^ 30 : Nat) * (1 + (c.gu : Rat) / (2 ^ 20 : Nat))

/-- The effective offset Oe as a part of full scale (R400). -/
def CalChan.oe (c : CalChan) : Rat :=
  (c.of : Rat) / (2 ^ 31 : Nat) * (1 + (c.gu : Rat) / (2 ^ 20 : Nat)) + (c.ou : Rat) / (2 ^ 22 : Nat)

/-- A converted value under the effective calibration; `fs` is the channel's full scale in the value's unit (R400). -/
def CalChan.apply (c : CalChan) (fs : Nat) (x : Int) : Rat := (x : Rat) * c.ge + (fs : Nat) * c.oe

/-- A converted value under the factory calibration alone, as protection uses it (R400). -/
def CalChan.factory (c : CalChan) (fs : Nat) (x : Int) : Rat :=
  (x : Rat) * ((c.gf : Nat) / (2 ^ 30 : Nat)) + (fs : Nat) * ((c.of : Rat) / (2 ^ 31 : Nat))

/-- Channel `c` of port `p`. -/
def State.chan (s : State) (p : PortId) (c : Fin 8) : CalChan :=
  (s.cal.chans[p.val]'(by omega))[c]

end Sys2Proof.Machine
end

