-- ==== Sys2Proof/Machine/PortOps.lean ====
section
/-! DEFINITION. The shared operations on a port cell: its Recipe fields, its group, its limits, the interlock matrix at
the port, R18's four checks, what the port drives, and the port events (chapter Port Cells; R18, R20, R284 to R287). -/

namespace Sys2Proof.Machine

open Sys2Proof

/-! ### Recipe fields of a port -/

/-- Word `k` of the PORTMAP image of port `p` (R282). -/
def State.portCfg (s : State) (p : PortId) (k : Nat) : Word := s.rw secPORTMAP 1 p.val k

def State.func (s : State) (p : PortId) : Nat := bits (s.portCfg p 0) 0 5
def State.cmode (s : State) (p : PortId) : Bool := bit (s.portCfg p 0) 8
def State.grpNo (s : State) (p : PortId) : GroupId := Fin.ofNat 8 (bits (s.portCfg p 0) 12 3)
def State.grpMem (s : State) (p : PortId) : Bool := bit (s.portCfg p 0) 15
def State.parPos (s : State) (p : PortId) : Nat := bits (s.portCfg p 0) 18 2
def State.parSize (s : State) (p : PortId) : Nat := bits (s.portCfg p 0) 20 2
def State.filt (s : State) (p : PortId) : Nat := bits (s.portCfg p 0) 24 4
def State.ilim (s : State) (p : PortId) : Nat := bits (s.portCfg p 1) 24 8
def State.retries (s : State) (p : PortId) : Nat := bits (s.portCfg p 1) 12 4
def State.openOn (s : State) (p : PortId) : Bool := bit (s.portCfg p 1) 7
def State.openOff (s : State) (p : PortId) : Bool := bit (s.portCfg p 1) 6
def State.template (s : State) (p : PortId) : Nat := bits (s.portCfg p 6) 24 6
def State.rref (s : State) (p : PortId) : Nat := bits (s.portCfg p 6) 0 16

/-- The bank of a port (R36). -/
def bankOf (p : PortId) : BankId := ⟨p.val / 8, by omega⟩

/-- The ports of a bank. -/
def bankPorts (b : BankId) : List PortId := (idx 32).filter fun p => decide (p.val / 8 = b.val)

/-- A drive function (R38). -/
def isDriveFunc (f : Nat) : Bool := f = 0x01 || f = 0x02 || f = 0x03 || f = 0x04 || f = 0x0C || f = 0x0D
/-- A solenoid function (R65). -/
def isSolFunc (f : Nat) : Bool := f = 0x01 || f = 0x02
/-- A digital output function (R41). -/
def isOutFunc (f : Nat) : Bool := f = 0x0C || f = 0x0D
/-- A function that accepts ON and OFF (R38). -/
def takesCmd (f : Nat) : Bool := isSolFunc f || f = 0x04 || isOutFunc f

/-- The lead of a port's paralleled group; the port itself when it is not paralleled (R52). -/
def State.lead (s : State) (p : PortId) : PortId :=
  if s.parSize p = 0 then p else Fin.ofNat 32 (p.val - s.parPos p)

/-- The members of the paralleled group of a port, the lead first (R52). -/
def State.members (s : State) (p : PortId) : List PortId :=
  (idx 32).filter fun q => decide (s.lead q = s.lead p)

/-- The port is a member of a paralleled group other than its lead (R53). -/
def State.isFollower (s : State) (p : PortId) : Bool := decide (s.lead p ≠ p)

/-- The drive owner's kind and index (R285). -/
def State.ownerKind (s : State) (p : PortId) : Nat := bits (s.rw secROUTE 2 p.val 0) 28 4
def State.ownerIdx (s : State) (p : PortId) : Nat := bits (s.rw secROUTE 2 p.val 0) 20 7
def State.admitMask (s : State) (p : PortId) : Word := s.rw secROUTE 2 p.val 0

/-! ### Limits of a port (R282, LIMITS 0x01) -/

def State.pwmMax (s : State) (p : PortId) : Nat := bits (s.rw secLIMITS 1 p.val 0) 16 16
def State.pwmMin (s : State) (p : PortId) : Nat := bits (s.rw secLIMITS 1 p.val 0) 0 16
def State.dutyMax (s : State) (p : PortId) : Nat :=
  let m := bits (s.rw secLIMITS 1 p.val 1) 16 16
  if m = 0 then 0xFFFF else m
def State.dutyMin (s : State) (p : PortId) : Nat := bits (s.rw secLIMITS 1 p.val 1) 0 16
def State.durMax (s : State) (p : PortId) : Nat := bits (s.rw secLIMITS 1 p.val 2) 16 16
def State.targetMax (s : State) (p : PortId) : Nat := bits (s.rw secLIMITS 1 p.val 2) 0 16

/-- The peak current of a mode in 1/256 A (R29). -/
def modePeak : Mode → Nat
  | .simmer => 20 * 256 | .boil => 20 * 256 | .sear => 25 * 256

/-- The port regulator rate of a mode in kHz (R29). -/
def modeRegKHz : Mode → Nat
  | .simmer => 50 | .boil => 100 | .sear => 200

/-- The highest port PWM frequency of a mode in Hz (R29). -/
def modePwmHz : Mode → Nat
  | .simmer => 20000 | .boil => 25000 | .sear => 40000

/-- The least PER of a mode (R48). -/
def modeMinPer : Mode → Nat
  | .simmer => 214749 | .boil => 171799 | .sear => 107375

/-- The greatest PER (R48). -/
def maxPer : Nat := 42949672

/-- The overcurrent threshold in force at a port, 1/256 A (R57): the lower of PROT.ILIM and the mode's peak. -/
def State.ocThreshold (s : State) (p : PortId) : Nat :=
  if s.ilim p = 0 then modePeak s.sys.current else min (s.ilim p * 32) (modePeak s.sys.current)

/-- A drive owner's value clamped to the LIMITS section (R20): a duty, or a current target with CMODE = 1. Without a
maximum the target stays below the threshold of R57, which a paralleled group has once per member (R53, R54). -/
def State.clampOwner (s : State) (p : PortId) (v : Int) : Int :=
  if s.cmode p then
    let top := if s.targetMax p = 0 then s.ocThreshold p * (s.members p).length - 1 else s.targetMax p
    clampInt 0 top v
  else clampInt (s.dutyMin p) (s.dutyMax p) v

/-! ### The interlock matrix at a port (R286, R287) -/

/-- Word `w` of RULE record `k`. -/
def State.rule (s : State) (k w : Nat) : Word := s.rw secINTERLOCK 1 k w

/-- The rule is used and acts on port `p`. -/
def State.ruleOn (s : State) (k : Nat) (p : PortId) : Bool :=
  bit (s.rule k 0) 31 && bits (s.rule k 0) 16 5 == p.val

/-- The active rules that act on a port, by number. -/
def State.rulesAt (s : State) (p : PortId) : List Nat :=
  s.sys.active.filter fun k => s.ruleOn k p

def State.ruleAct (s : State) (k : Nat) : Nat := bits (s.rule k 0) 26 2
def State.ruleDuty (s : State) (k : Nat) : Nat := bits (s.rule k 0) 0 16

/-- The least of the forced duties of a list of rules. -/
def State.leastDuty (s : State) : List Nat → Option Nat
  | [] => none
  | k :: ks => some (match s.leastDuty ks with | some d => min (s.ruleDuty k) d | none => s.ruleDuty k)

/-- The forced value of the rules at a port: OFF over a duty over ON, the least of several duties (R287). -/
def State.ruleForced (s : State) (p : PortId) : Option Forced :=
  let ks := s.rulesAt p
  if ks.any (fun k => s.ruleAct k == 1) then some .off
  else match s.leastDuty (ks.filter fun k => s.ruleAct k == 3) with
    | some d => some (.duty d)
    | none => if ks.any (fun k => s.ruleAct k == 2) then some .on else none

/-- HIE_ORPHn.ACT, RAMPV and RAMPR (R246). -/
def State.orphAct (s : State) (p : PortId) : Nat := bits (s.rw secHIER 3 p.val 0) 30 2
def State.rampV (s : State) (p : PortId) : Nat := bits (s.rw secHIER 3 p.val 0) 8 8 * 257
def State.rampR (s : State) (p : PortId) : Nat := bits (s.rw secHIER 3 p.val 0) 0 8 * 257

/-- The forced value of an orphan action that acts (R246, R481). -/
def State.orphForced (s : State) (p : PortId) : Option Forced :=
  let o := s.hie.orph[p]
  if !o.acts then none
  else match s.orphAct p with
    | 1 => some .off
    | 2 => some .on
    | 3 => some (.duty o.duty)
    | _ => none

/-- The forced value at a port; a rule's wins over an orphan action's (R481). -/
def State.forcedAt (s : State) (p : PortId) : Option Forced :=
  match s.ruleForced p with
  | some f => some f
  | none => s.orphForced p

/-- Discrete commands to the port are refused while its orphan action is OFF, ON or RAMP (R246). -/
def State.orphaned (s : State) (p : PortId) : Bool :=
  s.hie.orphan && s.orphAct p != 0 && isDriveFunc (s.func p)

/-- An active rule forbids ON at the port (ACT 0b00, 0b01, 0b11). -/
def State.forbidsOn (s : State) (p : PortId) : Bool := (s.rulesAt p).any fun k => s.ruleAct k != 2

/-- An active rule forbids OFF at the port (ACT 0b10). -/
def State.forbidsOff (s : State) (p : PortId) : Bool := (s.rulesAt p).any fun k => s.ruleAct k == 2

/-! ### R18 -/

/-- Check 1: the source is admitted at the port by the ROUTE section (R16, R285, R481). -/
def State.admits (s : State) (p : PortId) : Src → Bool
  | .host k _ => match s.role k with
    | some .operator => bit (s.admitMask p) 0
    | some .service => bit (s.admitMask p) 1
    | some .owner => bit (s.admitMask p) 2
    | none => false
  | .seq q _ => bit (s.admitMask p) (3 + q.val)
  | .ofSection _ => bit (s.admitMask p) 7
  | .lockGroup _ => bit (s.admitMask p) 8
  | .hier lock _ _ _ _ => bit (s.admitMask p) 9 && bit (s.admitMask p) (if lock then 8 else 7)
  | .fan f => s.ownerKind p == 2 && s.ownerIdx p == f.val
  | .orphan | .safeOutput _ | .forced => true

/-- The head port of the shared group of a member (R87). -/
def State.headOf (s : State) (g : GroupId) : PortId :=
  Fin.ofNat 32 (8 * (g.val / 2) + bits (s.rw secPORTMAP 3 g.val 0) 0 3)

/-- The members of a shared group, in ascending order (R87). -/
def State.groupMembers (s : State) (g : GroupId) : List PortId :=
  ((idx 8).filter fun k => bit (s.rw secPORTMAP 3 g.val 0) (8 + k.val)).map fun k =>
    Fin.ofNat 32 (8 * (g.val / 2) + k.val)

/-- The port is a member of a shared group. -/
def State.inGroup (s : State) (p : PortId) : Bool := s.func p == 0x02 && s.grpMem p

/-- The port is in a fault state (R59). -/
def State.faulted (s : State) (p : PortId) : Bool :=
  let st := s.ports[p].status
  st == .retry || st == .latched

/-- The head of a member's group is held off by a forced value (R77). -/
def State.headForcedOff (s : State) (p : PortId) : Bool :=
  s.inGroup p && s.ports[s.headOf (s.grpNo p)].forced == some .off

/-- Check 2 for ON: no active rule forbids it, and the head of a member is not forced off (R77). -/
def State.passes2On (s : State) (p : PortId) : Bool := !s.forbidsOn p && !s.headForcedOff p

/-- Check 4: the port is not faulted (R59), nor the head of its group (R92), it is not passive (R296), and no orphan
action stands at it (R246). -/
def State.check4 (s : State) (p : PortId) (on : Bool) : Status :=
  if s.faulted p then .faulted
  else if on && s.inGroup p && s.faulted (s.headOf (s.grpNo p)) then .faulted
  else if s.ports[p].status == .passive || s.orphaned p then .notReady
  else .ok

/-- Check 3 for ON: DUR within LIMITS, zero on a motor port (R40), and no excursion of the bank (R60). -/
def State.passes3On (s : State) (p : PortId) (dur : Nat) : Bool :=
  (s.durMax p == 0 || decide (dur ≤ s.durMax p)) && !(s.func p == 0x04 && dur != 0)
    && !(isDriveFunc (s.func p) && s.banks[bankOf p].excursion)

/-- R18's checks 1 to 3 and the fault part of check 4 for an ON; the rules of the function follow. -/
def State.checkOn (s : State) (src : Src) (p : PortId) (dur : Nat) : Status :=
  if !s.admits p src then .recipeLocked
  else if !s.passes2On p then .interlock
  else if !s.passes3On p dur then .limit
  else s.check4 p true

/-- R18's checks for an OFF. -/
def State.checkOff (s : State) (src : Src) (p : PortId) : Status :=
  if !s.admits p src then .recipeLocked
  else if s.forbidsOff p then .interlock
  else s.check4 p false

/-- Checks 2 and 4 alone, as at an execution instant (R19, R75, R481). -/
def State.recheckOn (s : State) (p : PortId) : Status :=
  if !s.passes2On p then .interlock else s.check4 p true

/-- Checks 2 and 4 alone for an OFF. -/
def State.recheckOff (s : State) (p : PortId) : Status :=
  if s.forbidsOff p then .interlock else s.check4 p false

/-- What the register level refuses before R18: a follower of a paralleled group (R53), then an operation the
function does not accept (R39). -/
def State.cmdGate (s : State) (p : PortId) : Status :=
  if s.isFollower p then .recipeLocked else if takesCmd (s.func p) then .ok else .limit

/-! ### Port state -/

def State.setPort (s : State) (p : PortId) (f : Port → Port) : State := { s with ports := upd s.ports p f }
def State.setPorts (s : State) (ps : List PortId) (f : Port → Port) : State :=
  { s with ports := updAll s.ports fun q x => if ps.contains q then f x else x }
def State.setBank (s : State) (b : BankId) (f : Bank → Bank) : State := { s with banks := upd s.banks b f }
def State.setSol (s : State) (p : PortId) (f : SolPort → SolPort) : State :=
  { s with sol := { s.sol with ports := upd s.sol.ports p f } }
/-- Every solenoid port replaced by a function of its number and itself. -/
def State.mapSols (s : State) (f : PortId → SolPort → SolPort) : State :=
  { s with sol := { s.sol with ports := updAll s.sol.ports f } }

/-- The effective on-phase of a duty in a period (R47): whole ticks, none below 250 ns, continuous when the off-phase
is below 250 ns. Times in fabric ticks; a period of PER units holds PER × 120e6 / 2^32 ticks. -/
def onTicks (per duty : Nat) : Nat × Nat :=
  let whole := per * 120000000 / 2 ^ 32
  let on := (2 * duty * per * 120000000 + 65536 * 2 ^ 32) / (2 * 65536 * 2 ^ 32)
  if on < 30 then (0, whole) else if whole < on + 30 then (whole, whole) else (on, whole)

/-- The value a motor port follows: the forced duty, the kick target, or the owner's value (R20, R42). -/
def Port.motorValue (x : Port) : Int :=
  match x.forced with
  | some (.duty d) => d
  | _ => match x.kick with | some i => i | none => x.ownerVal

/-- The port's switches drive its load (R283 calls this STATE = DRIVE): a digital output that is on, a motor port that
is enabled or forced and whose value is above zero, a solenoid port with a profile running, a head that is on. -/
def State.drives (s : State) (p : PortId) : Bool :=
  let x := s.ports[p]
  let f := s.func p
  if isSolFunc f then s.sol.ports[p].phase != .idle
  else if f = 0x03 then
    match x.forced with
    | some .off => false
    | some .on => true
    | _ => s.sol.ports[p].headOn
  else if f = 0x04 then
    match x.forced with
    | some .off => false
    | some .on => decide (0 < x.motorValue)
    | _ => x.enabled && !x.awaitCarrier && decide (0 < x.motorValue)
  else if isOutFunc f then
    match x.forced with
    | some .off => false
    | some _ => true
    | none => x.outOn
  else false

/-- OFF and DRIVE follow what the port drives; the other states stand. -/
def State.settle (s : State) (p : PortId) : State :=
  let d := s.drives (s.lead p)
  s.setPorts (s.members p) fun x =>
    if x.status = .off ∨ x.status = .drive then { x with status := if d then .drive else .off } else x

/-- PRTn_INVAL: for a digital output bit 0 is the output state (port function table). -/
def State.invalOf (s : State) (p : PortId) : Word :=
  if isOutFunc (s.func p) then (if s.ports[p].status = .drive then 1 else 0) else s.ports[p].inval

/-- The low 10 fault bits with one set. -/
def setBit (v : BitVec 10) (b : FaultBit) : BitVec 10 := v ||| (BitVec.ofNat 10 (2 ^ b.pos))
/-- A fault bit read. -/
def hasBit (v : BitVec 10) (b : FaultBit) : Bool := v.getLsbD b.pos
/-- The low 10 fault bits with one cleared. -/
def clearBit (v : BitVec 10) (b : FaultBit) : BitVec 10 := v &&& ~~~(BitVec.ofNat 10 (2 ^ b.pos))

/-- The conditions present at a port (R61, R483): OT until the junction is below 140 °C, BANK while the excursion
stands, the input conditions and OPEN as detected. -/
def State.presentAt (s : State) (p : PortId) : BitVec 10 :=
  let x := s.ports[p]
  let v := if x.tj < 140 + 64 then clearBit x.present .ot else x.present
  if s.banks[bankOf p].excursion && isDriveFunc (s.func p) then setBit v .bank else clearBit v .bank

/-- The payload of a port event (R62). -/
def State.portPayload (s : State) (p : PortId) (first : Nat) (before : PortStatus) (fault : Nat) (v : Int) :
    List Byte :=
  let x := s.ports[p]
  le 1 first ++ le 1 before.code ++ le 2 fault ++ leInt 4 v ++ le 2 x.vpin ++ le 1 x.tj ++ le 1 x.retryCnt
    ++ s.stamp ++ zeros 4

/-- The measured value of a port event that no condition raises: INVAL of an input port, else the current (R62). -/
def State.eventValue (s : State) (p : PortId) : Int := if isDriveFunc (s.func p) then s.ports[p].iNow else sbits s.ports[p].inval 0 32

/-- A port event (R62). `before` is STATE before the event. -/
def State.portEv (s : State) (code : Nat) (p : PortId) (before : PortStatus) (v : Int) : Ev :=
  { code := code, payload := s.portPayload p p.val before (s.ports[p].fault.toNat + s.ports[p].retryCnt * 4096) v }

/-- An edge of the pulse speed port is counted for section control (R198). -/
def State.countEdge (s : State) (p : PortId) : State :=
  let cfg := s.rw secSECTION 1 0 0
  if bits cfg 28 2 = 0 ∨ bits cfg 22 5 ≠ p.val then s else s.onSct fun c => { c with edges := s.tick :: c.edges }

end Sys2Proof.Machine
end

