-- ==== Sys2Proof/Machine/SolOps.lean ====
section
/-! DEFINITION. The shared operations of the solenoid drive: templates, delay measurements and tables (R81 to R84),
phase transitions (R66), the group budget (R89, R90), ON and OFF by phase (R71 to R75), forced values (R77), and the
end of a profile (R78). -/

namespace Sys2Proof.Machine

open Sys2Proof

/-! ### Template fields (SOL_PFm) -/

def State.pf (s : State) (p : PortId) (k : Nat) : Word := s.rw secPROFILES 1 (s.template p) k
def State.ihit (s : State) (p : PortId) : Nat := bits (s.pf p 0) 24 8
def State.ihold (s : State) (p : PortId) : Nat := bits (s.pf p 0) 16 8
def State.iholdMin (s : State) (p : PortId) : Nat := bits (s.pf p 0) 8 8
def State.fchop (s : State) (p : PortId) : Nat := bits (s.pf p 0) 0 8
def State.tbr (s : State) (p : PortId) : Nat := bits (s.pf p 1) 0 16
def State.rtmo (s : State) (p : PortId) : Nat := bits (s.pf p 2) 16 16
def State.rdet (s : State) (p : PortId) : Bool := bit (s.pf p 3) 1
def State.motion (s : State) (p : PortId) : Bool := bit (s.pf p 3) 0

/-- The current of a port, or of its paralleled group (R53), in 1/256 A. -/
def State.current (s : State) (p : PortId) : Int := ((s.members p).map fun q => s.ports[q].iNow).foldl (· + ·) 0

/-- Its magnitude. -/
def State.iMag (s : State) (p : PortId) : Nat := (s.current p).natAbs

/-- 20 mA or more flow. -/
def State.above20mA (s : State) (p : PortId) : Bool := decide (20 * 256 ≤ 1000 * s.iMag p)

/-- The hold current a HOLD takes: reduced while the coil is hot (R66, R95). -/
def State.holdTarget (s : State) (p : PortId) : Nat :=
  if s.sol.ports[p].hot then s.iholdMin p else s.ihold p

/-- The temperature band of R81. -/
def bandOf (t : Rat) : Fin 10 :=
  let b := ((t + 40) / 20).floor
  if b < 0 then 0 else if 9 < b then 9 else Fin.ofNat 10 b.toNat

/-- A temperature as SOL_PSTATn shows it: °C + 64, saturating at 0 and 255. -/
def shownTemp (t : Rat) : Nat := (clampInt 0 255 (shown 93 (t + 64))).toNat

/-! ### Events (R97) -/

/-- The group number an event names, 0xFF if none. -/
def State.evGroup (s : State) (p : PortId) : Nat :=
  if s.inGroup p || s.func p = 0x03 then (s.grpNo p).val else 0xFF

/-- A solenoid event (R97). -/
def State.solEv (s : State) (code : Nat) (p : PortId) (third : Nat) (a b : Int) : Ev :=
  { code := code,
    payload := le 1 p.val ++ le 1 s.sol.ports[p].phase.code ++ le 1 (s.template p) ++ le 1 third ++ leInt 4 a
      ++ leInt 4 b ++ s.stamp ++ zeros 4 }

/-- A solenoid event recorded. -/
def State.solEmit (s : State) (code : Nat) (p : PortId) (a b : Int) : State :=
  s.emit (s.solEv code p (s.evGroup p) a b)

/-! ### Delay tables (R83, R84) -/

def ratAbs (x : Rat) : Rat := if x < 0 then -x else x

/-- The arithmetic mean of a list. -/
def meanOf (xs : List Nat) : Rat := if xs.isEmpty then 0 else ((xs.foldl (· + ·) 0 : Nat) : Rat) / (xs.length : Nat)

/-- The mean absolute deviation of a list from `m`. -/
def madOf (xs : List Nat) (m : Rat) : Rat :=
  if xs.isEmpty then 0 else (xs.foldl (fun a x => a + ratAbs ((x : Nat) - m)) 0) / (xs.length : Nat)

/-- A band's table with one more accepted value (R83). -/
def DelayTab.accept (t : DelayTab) (x : Nat) : DelayTab :=
  if t.count < 8 then
    let f := x :: t.first
    { t with count := t.count + 1, first := f, mean := meanOf f, spread := madOf f (meanOf f), run := [] }
  else
    { t with count := satNat 127 (t.count + 1), first := [], mean := t.mean + ((x : Nat) - t.mean) / 8,
             spread := t.spread + (ratAbs ((x : Nat) - t.mean) - t.spread) / 8, run := [] }

/-- The value is an OUTLIER of a learned band (R82). -/
def DelayTab.isOutlier (t : DelayTab) (x : Nat) : Bool :=
  decide (8 ≤ t.count) && decide (t.mean / 4 < ratAbs ((x : Nat) - t.mean))

/-- A band's table after an OUTLIER: the run grows, or the fourth restarts the table (R84). -/
def DelayTab.outlier (t : DelayTab) (x : Nat) : DelayTab :=
  let up := decide (t.mean < (x : Nat))
  let run := if t.runUp = up then x :: t.run else [x]
  if 4 ≤ run.length then
    { count := 4, first := run, mean := meanOf run, spread := madOf run (meanOf run), runUp := up, run := [] }
  else { t with runUp := up, run := run }

/-- A band is LEARNED once its count reaches 8 (R83). -/
def DelayTab.learned (t : DelayTab) : Bool := decide (8 ≤ t.count)

/-! ### Measurements (R82) -/

/-- VBANK changed by more than 5 % from the start of the phase. -/
def State.supplyMoved (s : State) (p : PortId) (c : MeasCtx) : Bool :=
  decide (c.vbank < 20 * (if c.vbank ≤ s.ports[p].vbank then s.ports[p].vbank - c.vbank
    else c.vbank - s.ports[p].vbank))

/-- The result code of a measurement, the first rejection that applies (R82). -/
def State.measRes (s : State) (p : PortId) (c : MeasCtx) (t : DelayTab) (cut : Bool) : Option Nat → MeasRes
  | seen =>
    if cut || c.residual then .interrupted
    else match seen with
      | none => .notSeen
      | some x =>
        if s.supplyMoved p c || c.warned || s.pwr.warning then .supply
        else if c.shared then .shared
        else if t.isOutlier x then .outlier
        else .accepted

/-- The DELAY a register shows: 0 without a detection reported NOT_SEEN; the manual states none for an interrupted
measurement whose detection was not made, so that one is a free value. -/
def State.measDelay (s : State) (r : MeasRes) : Option Nat → Nat
  | some x => x % 2 ^ 24
  | none => if r = .interrupted then s.free % 2 ^ 24 else 0

/-- An opening measurement is given its result (R82 to R84). `seen` is the delay in µs, `cut` an interruption. -/
def State.finishOpen (s : State) (p : PortId) (seen : Option Nat) (cut : Bool) : State :=
  let x := s.sol.ports[p]
  let c := x.openCtx
  if c.done then s
  else
    let b := Fin.ofNat 10 c.band
    let t := x.tabOpen[b]
    let r := s.measRes p c t cut seen
    let t' := match r, seen with
      | .accepted, some v => t.accept v
      | .outlier, some v => t.outlier v
      | _, _ => t
    let moved := r = .outlier && t'.run.isEmpty
    let unseen := r = .notSeen && s.motion p
    let dur := ticksUs (s.tick - x.since)
    let ev := if moved then [s.solEv 0x0607 p c.band (shown 83 t.mean) (shown 83 t'.mean)] else []
    let ev := if unseen then ev ++ [s.solEv 0x0605 p (s.evGroup p) dur 0] else ev
    let s' := s.setSol p fun x =>
      { x with openCtx := { c with done := true }, mopen := ⟨r, c.band, s.measDelay r seen⟩,
               tabOpen := upd x.tabOpen b fun _ => t' }
    let s' := if r = .accepted then s'.count (0x80 + p.val) 1 else s'
    s'.draw.emitAll ev

/-- A release measurement is given its result (R82 to R84). -/
def State.finishClose (s : State) (p : PortId) (seen : Option Nat) (cut : Bool) : State :=
  let x := s.sol.ports[p]
  let c := x.closeCtx
  if c.done then s
  else
    let b := Fin.ofNat 10 c.band
    let t := x.tabClose[b]
    let r := s.measRes p c t cut seen
    let t' := match r, seen with
      | .accepted, some v => t.accept v
      | .outlier, some v => t.outlier v
      | _, _ => t
    let moved := r = .outlier && t'.run.isEmpty
    let unseen := r = .notSeen && s.rdet p
    let dur := ticksUs (s.tick - x.since)
    let ev := if moved then [s.solEv 0x0607 p (128 + c.band) (shown 83 t.mean) (shown 83 t'.mean)] else []
    let ev := if unseen then ev ++ [s.solEv 0x0605 p (s.evGroup p) dur 1] else ev
    let s' := s.setSol p fun x =>
      { x with closeCtx := { c with done := true }, mclose := ⟨r, c.band, s.measDelay r seen⟩,
               tabClose := upd x.tabClose b fun _ => t' }
    s'.draw.emitAll ev

/-! ### Groups (R87 to R90) -/

def State.onGroup (s : State) (g : GroupId) (f : Group → Group) : State :=
  s.onSol fun x => { x with groups := upd x.groups g f }

/-- The planned current of a member, 1/256 A (R89). -/
def State.planned (s : State) (p : PortId) : Nat :=
  match s.sol.ports[p].phase with
  | .idle => 0
  | .hit | .bridge => s.ihit p * 32
  | .hold => s.sol.ports[p].holdCur * 8
  | .release => s.iMag p

/-- The planned group current (R89). -/
def State.groupPlanned (s : State) (g : GroupId) : Nat :=
  ((s.groupMembers g).map fun q => s.planned q).foldl (· + ·) 0

/-- IBUD in 1/256 A. -/
def State.ibud (s : State) (g : GroupId) : Nat := bits (s.rw secPORTMAP 3 g.val 0) 24 8 * 32

/-- The member's HIT fits the budget (R89). -/
def State.fits (s : State) (g : GroupId) (p : PortId) : Bool :=
  decide (s.groupPlanned g + s.ihit p * 32 ≤ s.ibud g)

/-- The member's ON waits for the budget. -/
def State.waits (s : State) (p : PortId) : Bool :=
  match s.sol.ports[p].pend with | some d => d.kind == .budget | none => false

/-- The waiting start instant of a member. -/
def State.waitSince (s : State) (p : PortId) : Nat :=
  match s.sol.ports[p].pend with | some d => d.since | none => 0

/-- The first member of the group's queue: least waiting start, then least port number (R90). -/
def State.queueHead (s : State) (g : GroupId) : Option PortId :=
  ((s.groupMembers g).filter s.waits).foldl
    (fun a p => match a with
      | none => some p
      | some q => if s.waitSince p < s.waitSince q then some p else some q) none

/-- The other members of a port's shared group. -/
def State.mates (s : State) (p : PortId) : List PortId :=
  if s.inGroup p then (s.groupMembers (s.grpNo p)).filter (· ≠ p) else []

/-- A phase change of a port spoils the resistance windows of its group mates (R94). -/
def State.dirtyMates (s : State) (p : PortId) : State :=
  let mates := s.mates p
  s.mapSols fun q x => if mates.contains q then { x with windowDirty := true } else x

/-- The head follows its members: on while any is not in IDLE (R88). -/
def State.headFollows (s : State) (p : PortId) : State :=
  if s.inGroup p then
    let g := s.grpNo p
    let h := s.headOf g
    let on := (s.groupMembers g).any fun q => s.sol.ports[q].phase != .idle
    (s.setSol h fun x => { x with headOn := on }).settle h
  else s

/-- A port takes a phase (R66). -/
def State.enterPhase (s : State) (p : PortId) (ph : Phase) (tick : Nat) : State :=
  let s := (s.setSol p fun x => { x with phase := ph, since := tick, windowDirty := ph != .hold }).dirtyMates p
  (s.settle p).headFollows p

/-! ### Transitions (R66, R67) -/

/-- A HIT starts one fabric tick on (R67). `src` is the command it belongs to, if any. -/
def State.startHit (s : State) (p : PortId) (src : Option Src) (dur : Nat) (keep : Option (Option Nat)) : State :=
  let start := s.tick + 1
  let he := match keep with
    | some e => e
    | none => if dur = 0 then none else some (start + dur * ticksPerMs)
  let s := s.finishClose p none true
  let mates := s.mates p
  let s := s.mapSols fun q x =>
    if mates.contains q then
      { x with openCtx := { x.openCtx with shared := true }, closeCtx := { x.closeCtx with shared := true } }
    else x
  let ctx : MeasCtx :=
    { band := (bandOf s.sol.ports[p].tcu).val, vbank := s.ports[p].vbank, residual := s.above20mA p,
      warned := s.pwr.warning, shared := false, done := false }
  let s := s.setSol p fun x =>
    { x with hitStart := start, holdEnd := he, active := src, pend := none, reached := false, stroke := false,
             openCtx := ctx,
             last := match src with
               | none => x.last
               | some .forced => x.last
               | some _ => .on he }
  (s.count (0x40 + p.val) 1).enterPhase p .hit start

/-- RELEASE begins (R66). -/
def State.toRelease (s : State) (p : PortId) : State :=
  let ctx : MeasCtx :=
    { band := (bandOf s.sol.ports[p].tcu).val, vbank := s.ports[p].vbank, residual := false,
      warned := s.pwr.warning, shared := false, done := !s.rdet p }
  (s.setSol p fun x => { x with closeCtx := ctx, holdEnd := none }).enterPhase p .release s.tick

/-- HOLD begins with the hold current in force (R66). -/
def State.toHold (s : State) (p : PortId) : State :=
  (s.setSol p fun x => { x with holdCur := s.holdTarget p }).enterPhase p .hold s.tick

/-- IDLE begins; a release measurement still open was not made (R80). -/
def State.toIdle (s : State) (p : PortId) : State :=
  ((s.finishClose p none false).setSol p fun x => { x with holdEnd := none }).enterPhase p .idle s.tick

/-- A command of the port is completed; a sequencer has seen its presentation status already (R360), and forced
values carry no command. -/
def State.complete (s : State) (src : Option Src) (st : Status) : State :=
  match src with
  | none | some .forced | some (.seq _ _) => s
  | some x => s.answer x st

/-- The pending command completes with a status and is gone (R74). -/
def State.dropPend (s : State) (p : PortId) (st : Status) : State :=
  match s.sol.ports[p].pend with
  | none => s
  | some d => (s.setSol p fun x => { x with pend := none }).complete (some d.src) st

/-- The active command completes with a status (R74). -/
def State.endActive (s : State) (p : PortId) (st : Status) : State :=
  (s.setSol p fun x => { x with active := none }).complete s.sol.ports[p].active st

/-- The profile ends at once with fast decay and the commands complete with `st` (R78, R59, R77, R92). -/
def State.endProfile (s : State) (p : PortId) (st : Status) : State :=
  let s := (s.finishOpen p none true).finishClose p none true
  let s := (s.endActive p st).dropPend p st
  (s.setSol p fun x => { x with holdEnd := none }).enterPhase p .idle s.tick

/-- The hold end has passed. -/
def SolPort.holdPassed (x : SolPort) (tick : Nat) : Bool :=
  match x.holdEnd with | some e => decide (e ≤ tick) | none => false

/-- The later of two hold ends; none is later than any (R71). -/
def laterEnd : Option Nat → Option Nat → Option Nat
  | some a, some b => some (max a b)
  | _, _ => none

/-- The hold end an ON asks for, counted from the tick. -/
def askedEnd (tick dur : Nat) : Option Nat := if dur = 0 then none else some (tick + dur * ticksPerMs)

/-! ### ON and OFF (R71 to R75) -/

/-- A fresh HIT is called for: refused, deferred to the supply, made to wait for the budget, or started (R73). The
status is that of the presentation; `true` when the command has completed with it. -/
def State.freshHit (s : State) (p : PortId) (src : Src) (dur : Nat) (keep : Option (Option Nat)) :
    State × Status × Bool :=
  let x := s.sol.ports[p]
  let frc := src == .forced
  if x.hitref && !frc then (s, .notReady, true)
  else
    let s := if x.hitref then s.solEmit 0x0603 p (shown 93 (x.tcu * 1000)) (shown 93 (x.th * 1000)) else s
    let since := match x.pend with
      | some d => if d.kind = .offAtHitEnd then s.tick else d.since
      | none => s.tick
    let s := s.dropPend p .superseded
    let last : LastCmd := if frc then x.last else .on (match keep with | some e => e | none => askedEnd s.tick dur)
    let wait (s : State) (k : PendKind) : State :=
      let s := s.setSol p fun x =>
        { x with last := last, pend := some { kind := k, src := src, dur := dur, keepEnd := keep, since := since,
                                              forced := frc, ticket := s.sol.ticket } }
      s.onSol fun x => { x with ticket := x.ticket + 1 }
    let g := s.grpNo p
    if s.pwr.warning then (wait s .supply, .ok, false)
    else if s.inGroup p && (!s.fits g p || (s.queueHead g).isSome) then
      let s := (wait s .budget).count (0xE0 + g.val) 1
      (s.onGroup g fun y => { y with deferred := satNat 65535 (y.deferred + 1) }, .ok, false)
    else (s.startHit p (some src) dur keep, .ok, false)

/-- An ON that has passed R18 acts by the phase in force (R72). -/
def State.solOn (s : State) (p : PortId) (src : Src) (dur : Nat) (keep : Option (Option Nat)) :
    State × Status × Bool :=
  let x := s.sol.ports[p]
  let asked := match keep with | some e => e | none => askedEnd s.tick dur
  let frc := src == .forced
  match x.phase with
  | .idle => s.freshHit p src dur keep
  | .hit | .bridge | .hold =>
    let s := if frc then s else s.dropPend p .superseded
    let he := if keep.isSome then asked else laterEnd x.holdEnd asked
    (s.setSol p fun x => { x with holdEnd := he, last := if frc then x.last else .on he }, .ok, true)
  | .release =>
    if s.iholdMin p * 8 < s.iMag p then
      let s := (s.finishClose p none true).dropPend p .superseded
      let s := s.setSol p fun x => { x with holdEnd := asked, last := if frc then x.last else .on asked }
      (s.toHold p, .ok, true)
    else s.freshHit p src dur keep

/-- An OFF that has passed R18 acts by the phase in force (R72). -/
def State.solOff (s : State) (p : PortId) (src : Src) : State × Status × Bool :=
  let x := s.sol.ports[p]
  let s := s.dropPend p .superseded
  let s := s.setSol p fun x => { x with last := if src == .forced then x.last else .off }
  match x.phase with
  | .idle | .release => (s, .ok, true)
  | .hit => (s.setSol p fun x => { x with pend := some { kind := .offAtHitEnd, src := src } }, .ok, false)
  | .bridge | .hold => (s.toRelease p, .ok, true)

/-! ### Forced values (R77) -/

/-- A forced OFF begins RELEASE from HIT, BRIDGE or HOLD; the commands complete with INTERLOCK (R77). -/
def State.solForceOff (s : State) (p : PortId) : State :=
  let ph := s.sol.ports[p].phase
  let s := s.finishOpen p none true
  let s := (s.endActive p .interlock).dropPend p .interlock
  if ph = .hit || ph = .bridge || ph = .hold then s.toRelease p else s

/-- A forced ON acts as an ON with DUR = 0; an ON that waits already goes on waiting without the limit of R91
(R20, R77). -/
def State.solForceOn (s : State) (p : PortId) : State :=
  match s.sol.ports[p].pend with
  | some d =>
    if d.kind = .offAtHitEnd then (s.solOn p .forced 0 none).1
    else s.setSol p fun x => { x with pend := some { d with forced := true } }
  | none => (s.solOn p .forced 0 none).1

/-- When the rule releases, the port takes the state last commanded to it (R20, R77). -/
def State.solForceRelease (s : State) (p : PortId) : State :=
  let s := match s.sol.ports[p].pend with
    | some d =>
      s.setSol p fun x => { x with pend := if d.src == Src.forced then none else some { d with forced := false } }
    | none => s
  let x := s.sol.ports[p]
  let ahead := match x.last with
    | .off => false
    | .on none => true
    | .on (some e) => decide (s.tick < e)
  match x.pend, x.last with
  | some _, _ => s
  | none, .on e => if ahead then (s.solOn p .forced 0 (some e)).1 else (s.solOff p .forced).1
  | none, .off => (s.solOff p .forced).1

/-- A forced OFF of a group head ends every member's profile; their commands complete with INTERLOCK (R77). -/
def State.headForceOff (s : State) (h : PortId) : State :=
  let s := (s.groupMembers (s.grpNo h)).foldl (fun s q => s.endProfile q .interlock) s
  (s.setSol h fun x => { x with headOn := false }).settle h

/-- The head follows its members again (R77, R88). -/
def State.headRelease (s : State) (h : PortId) : State :=
  let on := (s.groupMembers (s.grpNo h)).any fun q => s.sol.ports[q].phase != .idle
  (s.setSol h fun x => { x with headOn := on }).settle h

end Sys2Proof.Machine
end

