-- ==== Sys2Proof/Machine/Ports.lean ====
section
/-! DEFINITION. The meanings of the port commands and events (chapter Port Cells): commands R39 to R41, carriers R47 to
R51, regulation R42, inputs R43 to R45, protection R55 to R62 and R483. -/

namespace Sys2Proof.Machine

open Sys2Proof

/-! ### Discrete commands (R39 to R41, R72) -/

/-- An ON that has passed R18 acts under the rules of the port's function; the status and whether it completes now. -/
def State.actOn (s : State) (p : PortId) (src : Src) (dur : Nat) : State × Status × Bool :=
  let f := s.func p
  if isSolFunc f then s.solOn p src dur none
  else if f = 0x04 then
    ((s.setPorts (s.members p) fun x =>
      { x with enabled := true, awaitCarrier := x.awaitCarrier || !x.enabled }).settle p, .ok, true)
  else
    let e := if dur = 0 then none else some (s.tick + 1 + dur * ticksPerMs)
    ((s.setPorts (s.members p) fun x => { x with outOn := true, durEnd := e }).settle p, .ok, true)

/-- An OFF that has passed R18 acts under the rules of the port's function. -/
def State.actOff (s : State) (p : PortId) (src : Src) : State × Status × Bool :=
  let f := s.func p
  if isSolFunc f then s.solOff p src
  else if f = 0x04 then
    ((s.setPorts (s.members p) fun x => { x with enabled := false, awaitCarrier := false }).settle p, .ok, true)
  else ((s.setPorts (s.members p) fun x => { x with outOn := false, durEnd := none }).settle p, .ok, true)

/-- An ON presented at the command input of a port (R18, R39, R53). -/
def State.presentOn (s : State) (p : PortId) (src : Src) (dur : Nat) : State × Status × Bool :=
  match s.cmdGate p with
  | .ok => match s.checkOn src p dur with
    | .ok => s.actOn p src dur
    | st => (s, st, true)
  | st => (s, st, true)

/-- An OFF presented at the command input of a port. -/
def State.presentOff (s : State) (p : PortId) (src : Src) : State × Status × Bool :=
  match s.cmdGate p with
  | .ok => match s.checkOff src p with
    | .ok => s.actOff p src
    | st => (s, st, true)
  | st => (s, st, true)

/-- The right of a host session that a command register needs (R337); other sources need none. -/
def State.srcGate (s : State) : Src → Status
  | .host k _ => s.gate k rightCOMMAND
  | _ => .ok

/-- A presented command gives its status to its source when it completes now. -/
def State.presented (r : State × Status × Bool) (src : Src) : State :=
  if r.2.2 then r.1.answer src r.2.1 else r.1

/-- PORT_CMD_ON: an ON written to PRTn_CMD passes R18 and acts on the port under its function's rules (R72). -/
def execPortCmdOn (p : PortId) (dur : Nat) (src : Src) (s : State) : Out :=
  .next (match s.srcGate src with
    | .ok => State.presented (s.presentOn p src dur) src
    | st => s.answer src st)

/-- PORT_CMD_OFF: an OFF written to PRTn_CMD. -/
def execPortCmdOff (p : PortId) (src : Src) (s : State) : Out :=
  .next (match s.srcGate src with
    | .ok => State.presented (s.presentOff p src) src
    | st => s.answer src st)

/-- DIGITAL_OUTPUT_DUR_END: a running DUR timer turns the output off (R41). -/
def execDigitalOutputDurEnd (p : PortId) (s : State) : Out :=
  .next (if s.ports[p].durEnd.isSome then
      (s.setPorts (s.members p) fun x => { x with outOn := false, durEnd := none }).settle p
    else s)

/-! ### Carrier (R47 to R51) -/

/-- The slower of the mode in force and the requested one, while a mode change is in progress (R33). -/
def State.lowerMode (s : State) : Mode :=
  if s.sys.switching && decide (s.sys.request.code < s.sys.current.code) then s.sys.request else s.sys.current

/-- PER meets the bounds of R48 in a mode, and the PWM limits of the port. -/
def State.perOk (s : State) (p : PortId) (m : Mode) (v : Nat) : Bool :=
  decide (modeMinPer m ≤ v) && decide (v ≤ maxPer)
    && (s.pwmMax p == 0 || decide (2 ^ 32 ≤ v * (s.pwmMax p * 10)))
    && decide (v * (s.pwmMin p * 10) ≤ 2 ^ 32)

/-- A write of PRTn_PWM_PER (R33, R48, R51, R53, R68). -/
def State.writePer (s : State) (p : PortId) (v : Word) : State × Status :=
  if s.isFollower p then (s, if v = s.ports[p].per then .ok else .recipeLocked)
  else if s.ownerKind p = 3 || isSolFunc (s.func p) || s.func p = 0x03 then (s, .recipeLocked)
  else if !s.perOk p s.sys.current v.toNat then (s, .limit)
  else if s.sys.switching && !s.perOk p s.lowerMode v.toNat && decide (v.toNat < s.ports[p].per.toNat) then
    (s, .busy)
  else (s.setPort p fun x => { x with per := v }, .ok)

/-- A write of PRTn_PWM_PH (R49, R51, R53, R68). -/
def State.writePh (s : State) (p : PortId) (v : Word) : State × Status :=
  if s.isFollower p then (s, if v = s.ports[p].ph then .ok else .recipeLocked)
  else if s.ownerKind p = 3 || s.func p = 0x03 then (s, .recipeLocked)
  else (s.setPort p fun x => { x with ph := v }, .ok)

/-- PORT_PWM_PER_WRITE: bounded by R48, R51 and R68; the new grid applies after the period in progress (R49). -/
def execPortPwmPerWrite (p : PortId) (v : Word) (k : SessId) (s : State) : Out :=
  .next (s.gated k (s.gate k rightPARAM) fun s => s.writePer p v)

/-- PORT_PWM_PH_WRITE: moves the carrier grid without shortening the period in progress (R49). -/
def execPortPwmPhWrite (p : PortId) (v : Word) (k : SessId) (s : State) : Out :=
  .next (s.gated k (s.gate k rightPARAM) fun s => s.writePh p v)

/-- The regulator runs at the port (R42). -/
def State.regulates (s : State) (p : PortId) : Bool :=
  let x := s.ports[p]
  let y := s.sol.ports[p]
  if isSolFunc (s.func p) then
    (y.phase == .hit && y.reached) || y.phase == .bridge || y.phase == .hold
  else s.func p == 0x04 && x.enabled && (s.cmode p || x.kick.isSome)

/-- The duty that a new period of a port takes (R20, R42, R50). -/
def State.nextDuty (s : State) (p : PortId) : Nat :=
  let x := s.ports[p]
  match x.forced with
  | some .off => 0
  | some (.duty d) => d
  | _ => if s.regulates p then x.regDuty else if s.func p = 0x04 then (clampInt 0 65535 x.ownerVal).toNat else x.duty

/-- The carrier period of a port; the excitation period of a capacitive probe (R44). -/
def State.carrierPer (s : State) (p : PortId) : Nat :=
  if s.func p = 0x0A then
    let f := bits (s.portCfg p 3) 16 16
    if f = 0 then 0 else 2 ^ 32 / (10 * f)
  else s.ports[p].per.toNat

/-- CARRIER_INSTANT: a new period begins with its on-phase and the latest owner duty applies (R47, R50). A port that is
passive, faulted or has no carrier begins none; a follower has its lead's carrier (R53). -/
def execCarrierInstant (p : PortId) (s : State) : Out :=
  .next (
    if s.isFollower p || s.carrierPer p = 0 || s.faulted p || s.ports[p].status = .passive then s
    else
      let s := s.setPorts (s.members p) fun x => { x with awaitCarrier := false }
      let d := s.nextDuty p
      (s.setPorts (s.members p) fun x =>
        { x with period := ⟨s.now, s.carrierPer p, d⟩, duty := d }).settle p)

/-! ### Regulation and sensing (R37, R42, R57, R58) -/

/-- The current target of the regulator, 1/256 A (R42, R66). -/
def State.regTarget (s : State) (p : PortId) : Int :=
  let x := s.ports[p]
  let y := s.sol.ports[p]
  if isSolFunc (s.func p) then
    match y.phase with
    | .hit => (s.ihit p * 32 : Nat)
    | .hold => (y.holdCur * 8 : Nat)
    | .bridge =>
      let whole := s.tbr p * 1200
      let gone := min whole (s.tick - y.since)
      let from' := s.ihit p * 32
      let to' := s.holdTarget p * 8
      if whole = 0 then (to' : Nat) else (from' : Int) - ((from' : Int) - to') * gone / whole
    | _ => 0
  else match x.kick with | some i => i | none => x.ownerVal

/-- The off-edge of the period in progress has passed (R42). -/
def Port.offEdgePassed (x : Port) (now : Nat) : Bool :=
  decide (x.period.start * 65536 + x.period.duty * x.period.per ≤ now * 65536)

/-- The current of a paralleled group under the factory calibration (R53, R58, R400). -/
def State.factoryCurrent (s : State) (p : PortId) : Rat :=
  (s.members p).foldl (fun a q => a + (s.chan q 0).factory (32 * 256) s.ports[q].iRaw) 0

/-- The time-over count after one regulator interval, in tenths: up by 1 per microsecond above 4.5 A, down by 0.1
below 4.0 A, the thresholds scaled by the size of the group (R58). -/
def State.nextTimeOver (s : State) (p : PortId) : Nat :=
  let i := ratAbs (s.factoryCurrent p)
  let k := (s.members p).length
  let us := 1000 / modeRegKHz s.sys.current
  let n := s.ports[p].timeOver
  if ((k * 1152 : Nat) : Rat) < i then min 200000 (n + 10 * us) else if i < ((k * 1024 : Nat) : Rat) then n - us else n

/-- The readings of a cell enter its registers under the effective calibration (R37, R400). -/
def State.senseCell (s : State) (p : PortId) (m : Sense) : State :=
  let i := shown 400 ((s.chan p 0).apply (32 * 256) m.iMean)
  let pk := (shown 400 ((s.chan p 0).apply (32 * 256) m.iPeak)).toNat
  let vp := (shown 400 ((s.chan p 1).apply (64 * 64) m.vpin)).toNat
  let vb := (shown 400 ((s.chan p 2).apply (64 * 64) m.vbank)).toNat
  let conducts := decide (20 * 256 ≤ 1000 * i.natAbs)
  let openGone := if s.ports[p].status = .drive then conducts else decide (m.vpin ≤ 3 * 64)
  s.setPort p fun x =>
    { x with iNow := i, iRaw := m.iMean, iPeak := pk, vpin := vp, vbank := vb, tj := m.tj % 256, srcLost := x.srcLost && x.status == .passive,
             present := if openGone then clearBit x.present .open else x.present }

/-- The time-over count of the lead of a group after one regulator interval (R53, R58). -/
def State.countOver (s : State) (p : PortId) : State :=
  if s.isFollower p then s else s.setPort p fun x => { x with timeOver := s.nextTimeOver p }

/-- One reading of a cell taken. -/
def State.sense (s : State) (p : PortId) (m : Sense) : State := (s.senseCell p m).countOver p

/-- REGULATOR_UPDATE: the cell's readings are taken, and where the regulator runs it moves the off-edge of the period in
progress or sets the next period's duty (R42). The manual gives gains and no equation: the duty is a free value. -/
def execRegulatorUpdate (p : PortId) (m : Sense) (s : State) : Out :=
  .next (
    let s := s.sense p m
    let s := if isSolFunc (s.func p) && s.sol.ports[p].phase == .hit && decide (s.ihit p * 32 ≤ s.iMag p) then
        s.setSol p fun y => { y with reached := true }
      else s
    let s := if s.sol.ports[p].phase == .hold && s.sol.ports[p].holdCur != s.holdTarget p then
        s.setSol p fun y => { y with holdCur := s.holdTarget p, windowDirty := true }
      else s
    if s.regulates p then
      let d := min 65535
        (Config.regulatorDuty (s.regTarget p) (s.current p) (s.portCfg p 9) (s.portCfg p 10) s.sys.draws)
      let s := s.draw
      (s.setPorts (s.members p) fun x =>
        if x.offEdgePassed s.now then { x with regDuty := d }
        else { x with regDuty := d, duty := d, period := { x.period with duty := d } })
    else s)

/-! ### Inputs (R43, R45) -/

/-- The points of the NTC table of a port: resistance in mΩ and temperature in m°C (R282, PORTMAP 0x02). -/
def State.ntcTable (s : State) (p : PortId) : List (Int × Int) :=
  (idx 16).map fun i =>
    (((s.rw secPORTMAP 2 p.val (2 * i.val)).toNat * 100 : Nat), sbits (s.rw secPORTMAP 2 p.val (2 * i.val + 1)) 0 32)

/-- The two table points between which a resistance lies, or the two end points beside it (R43). -/
def ntcSegment (r : Rat) : List (Int × Int) → Option ((Int × Int) × (Int × Int))
  | a :: b :: rest => if rest.isEmpty then some (a, b) else if (b.1 : Rat) ≤ r then some (a, b) else ntcSegment r (b :: rest)
  | _ => none

/-- The temperature of an NTC resistance: linear in the natural logarithm of the resistance (R43). -/
def ntcTemp (tab : List (Int × Int)) (r : Rat) : Rat :=
  match ntcSegment r tab with
  | some (a, b) =>
    a.2 + ((b.2 : Rat) - a.2) * ((Config.ln r - Config.ln a.1) / (Config.ln b.1 - Config.ln a.1))
  | none => 0

/-- A resistance beyond the table ends by more than 5 %, where R43 states no temperature. -/
def ntcBeyond (tab : List (Int × Int)) (r : Rat) : Bool :=
  match tab.head?, tab.getLast? with
  | some a, some z => decide ((a.1 : Rat) * 21 / 20 < r) || decide (r < (z.1 : Rat) * 19 / 20)
  | _, _ => true

/-- INVAL of an input port from the mean of its converter samples, in µV, nA, mΩ or µA by function (R38, R43). -/
def State.inputValue (s : State) (p : PortId) (mean : Int) : Int :=
  let f := s.func p
  if f = 0x06 then shown 43 ((s.chan p 3).apply 12000000 mean)
  else if f = 0x07 then shown 43 ((s.chan p 4).apply 30000000 mean)
  else if f = 0x08 then shown 43 (Config.pt1000 ((s.chan p 5).apply 5000000 mean))
  else if f = 0x09 then
    let r := (s.chan p 6).apply 200000000 mean
    if ntcBeyond (s.ntcTable p) r then (s.free : Int) else shown 43 (ntcTemp (s.ntcTable p) r)
  else if f = 0x0A then shown 43 ((s.chan p 0).apply 32000000 mean)
  else if mean = 0 then 0 else 1

/-- The functions whose INVAL an update recomputes: the measured ones and the digital input (R38, R43). -/
def isUpdateFunc (f : Nat) : Bool := f = 0x06 || f = 0x07 || f = 0x08 || f = 0x09 || f = 0x0A || f = 0x0B

/-- INPUT_UPDATE: INVAL of an input port is recomputed, calibrated and presented to the fabric with its instant (R43).
For a digital input the operand is its debounced level. -/
def execInputUpdate (p : PortId) (mean : Int) (instant : Nat) (s : State) : Out :=
  .next (
    if isUpdateFunc (s.func p) && s.ports[p].status != .passive then
      let v := s.inputValue p mean
      let rise := s.func p = 0x0B && s.ports[p].inval = 0 && v ≠ 0
      let s := s.setPort p fun x =>
        { x with inval := BitVec.ofInt 32 v, invalAt := instant, srcLost := false,
                 burdenBack := x.burdenBack && !(decide (v ≤ 30000000)),
                 present := if x.burdenBack && decide (v ≤ 30000000) then clearBit x.present .sensShort
                   else x.present }
      let s := s.draw.present p.val v
      if rise then s.count (0x20 + p.val) 1 else s
    else s)

/-- TACH_EDGE: a rising edge increments the edge count and is timestamped at the instant at which the input crossed the
threshold (R45). -/
def execTachEdge (p : PortId) (instant : Nat) (s : State) : Out :=
  .next (
    if s.func p = 0x05 && s.ports[p].status != .passive then
      let s := s.setPort p fun x =>
        let es := keepEdges (instant :: x.edges)
        { x with inval := x.inval + 1, edges := es, stale := decide (es.length < 2), srcLost := false }
      (((s.countEdge p).count (0x20 + p.val) 1).present p.val (sbits s.ports[p].inval 0 32)).present (0x20 + p.val) (s.freq p)
    else s)

/-- TACH_STALE: no edge for TMO; FREQ reads 0 and STALE 1 (R45). -/
def execTachStale (p : PortId) (s : State) : Out :=
  .next (if s.func p = 0x05 then
      (s.setPort p fun x => { x with stale := true, srcLost := x.srcLost && x.status == .passive }).present (0x20 + p.val) 0
    else s)

/-! ### Protection (R55 to R60) -/

/-- The commands and the profile of a port end with FAULTED (R59, R78); the drive owner's value is ignored. -/
def State.faultStop (s : State) (p : PortId) : State :=
  let s := if isSolFunc (s.func p) then s.endProfile p .faulted else s
  let s := if s.func p = 0x03 then
      let s := (s.groupMembers (s.grpNo p)).foldl (fun s q => s.endProfile q .faulted) s
      s.setSol p fun x => { x with headOn := false }
    else s
  s.setPorts (s.members p) fun x => { x with outOn := false, durEnd := none, duty := 0 }

/-- A port enters FAULT_RETRY, or FAULT_LATCHED when no retry is left (R59). `latch` holds it at once (R60). -/
def State.faultEnter (s : State) (p : PortId) (latch : Bool) : State :=
  let l := s.lead p
  let retry := !latch && s.retries l != 0 && decide (s.ports[l].retryCnt < s.retries l)
  let fresh := !s.faulted l
  let s := s.faultStop l
  let s := s.setPorts (s.members l) fun x =>
    { x with status := if retry then .retry else .latched, retryWatch := false,
             enabled := if retry then x.enabled else false, awaitCarrier := false }
  if fresh then s.count (0x60 + l.val) 1 else s

/-- A FAULT condition is detected in a port: the bit is set in the member that detected it and in the lead (R55, R57),
the group stops and enters its fault state (R59), and the event is recorded (R62). A port that is passive conducts
nothing and detects none. -/
def State.faultAt (s : State) (p : PortId) (b : FaultBit) (code : Nat) (v : Int) : State :=
  if s.ports[p].status = .passive || !isDriveFunc (s.func p) then s
  else
    let before := s.ports[p].status
    let l := s.lead p
    let s := s.setPort p fun x => { x with fault := setBit x.fault b }
    let s := s.setPort l fun x => { x with fault := setBit x.fault b }
    let s := if b = .ot then s.setPort p fun x => { x with present := setBit x.present .ot } else s
    let s := s.faultEnter l (s.ports[l].status == .latched)
    s.emit (s.portEv code p before v)

/-- SHORT_DETECT: a short to ground or to supply switches both switches off (R57). -/
def execShortDetect (p : PortId) (toSupply : Bool) (i : Int) (s : State) : Out :=
  .next (if toSupply then s.faultAt p .scb 0x0502 i else s.faultAt p .scg 0x0501 i)

/-- OVERCURRENT_DETECT: a current above the threshold in force (R57). -/
def execOvercurrentDetect (p : PortId) (i : Int) (s : State) : Out :=
  .next (s.faultAt p .oc 0x0504 i)

/-- TIME_OVER_LIMIT: the time-over count has reached 20,000; the port faults with OC (R58). -/
def execTimeOverLimit (p : PortId) (i : Int) (s : State) : Out :=
  .next ((s.setPort (s.lead p) fun x => { x with timeOver := 200000 }).faultAt p .oc 0x0504 i)

/-- OVERTEMP_DETECT: a half-bridge junction above 160 °C; `tj` is its reading as STAT.TJ encodes it (R57). -/
def execOvertempDetect (p : PortId) (tj : Nat) (s : State) : Out :=
  .next (
    let s := s.setPort p fun x => { x with tj := tj % 256 }
    s.faultAt p .ot 0x0505 s.ports[p].iNow)

/-- SHARE_IMBALANCE: a member has exceeded its share for more than 10 ms; the whole group faults (R55). -/
def execShareImbalance (p : PortId) (i : Int) (s : State) : Out :=
  .next (if s.parSize (s.lead p) = 0 then s else s.faultAt p .share 0x0509 i)

/-- OPEN_LOAD_DETECT: an open load seen for 5 ms sets OPEN and is recorded; the drive does not change (R57). On-state
detection needs OPEN_ON and a port that drives, off-state detection OPEN_OFF and a port that is off. -/
def execOpenLoadDetect (p : PortId) (i : Int) (s : State) : Out :=
  .next (
    let st := s.ports[p].status
    if isDriveFunc (s.func p) && ((st == .drive && s.openOn p) || (st == .off && s.openOff p)) then
      let s := s.setPort p fun x => { x with fault := setBit x.fault .open, present := setBit x.present .open }
      s.emit (s.portEv 0x0503 p st i)
    else s)

/-- The input conditions that a function detects (input function table). -/
def detects (f : Nat) (b : FaultBit) : Bool :=
  match b with
  | .range => f = 0x06 || f = 0x07
  | .sensOpen => f = 0x07 || f = 0x08 || f = 0x09
  | .sensShort => f = 0x07 || f = 0x08 || f = 0x09 || f = 0x0A
  | _ => false

/-- The event of an input condition (R62). -/
def inputCode : FaultBit → Nat
  | .range => 0x0506 | .sensOpen => 0x0507 | _ => 0x0508

/-- INPUT_FAULT_DETECT: an input condition held for its filter time sets its bit and is recorded; SENS_SHORT of a current
loop also disconnects the burden (R57, R483). -/
def execInputFaultDetect (p : PortId) (b : FaultBit) (s : State) : Out :=
  .next (
    if detects (s.func p) b && s.ports[p].status != .passive then
      let st := s.ports[p].status
      let cut := s.func p = 0x07 && b = .sensShort
      let s := s.setPort p fun x =>
        { x with fault := setBit x.fault b, present := setBit x.present b,
                 burdenOff := x.burdenOff || cut, burdenBack := x.burdenBack && !cut }
      s.emit (s.portEv (inputCode b) p st (sbits s.ports[p].inval 0 32))
    else s)

/-- INPUT_FAULT_END: an input condition ends once its test has failed throughout 10 ms; SENS_SHORT of a current loop ends
with its burden instead (R483). -/
def execInputFaultEnd (p : PortId) (b : FaultBit) (s : State) : Out :=
  .next (if detects (s.func p) b && !(s.func p = 0x07 && b = .sensShort) then
      s.setPort p fun x => { x with present := clearBit x.present b }
    else s)

/-- BURDEN_RECONNECT: the burden of a current loop is reconnected 1 s after SENS_SHORT disconnected it (R483). -/
def execBurdenReconnect (p : PortId) (s : State) : Out :=
  .next (if s.ports[p].burdenOff then
      s.setPort p fun x => { x with burdenOff := false, burdenBack := true }
    else s)

/-! ### Bank load (R60) -/

/-- A BANK_OVERLOAD event: port number 0x80 + bank, no pin behind it (R62). -/
def State.bankEv (s : State) (b : BankId) (load : Int) : Ev :=
  { code := 0x050A,
    payload := le 1 (0x80 + b.val) ++ zeros 3 ++ leInt 4 load ++ zeros 4 ++ s.stamp ++ zeros 4 }

/-- BANK_OVERLOAD: the bank load rises above 32 A; an excursion begins and is recorded (R60). -/
def execBankOverload (b : BankId) (load : Int) (s : State) : Out :=
  .next (
    let fresh := !s.banks[b].excursion
    let s := s.setBank b fun x =>
      { x with load := load, excursion := true, tripped := x.tripped && !fresh }
    if fresh then s.emit (s.bankEv b load) else s)

/-- The drive ports of a bank that are not passive. -/
def State.drivePorts (s : State) (b : BankId) : List PortId :=
  (bankPorts b).filter fun p => isDriveFunc (s.func p) && s.ports[p].status != .passive

/-- BANK_TRIP: at 36 A during an excursion every drive port of the bank latches with BANK set, once per excursion
(R60). -/
def execBankTrip (b : BankId) (load : Int) (s : State) : Out :=
  .next (
    if s.banks[b].excursion && !s.banks[b].tripped then
      let s := s.setBank b fun x => { x with load := load, tripped := true }
      let s := (s.drivePorts b).foldl (fun s p =>
        (s.setPort p fun x => { x with fault := setBit x.fault .bank }).faultEnter p true) s
      s.emit (s.bankEv b load)
    else s)

/-- BANK_OVERLOAD_END: the load falls below 30 A; the excursion ends and the trip is armed again (R60). -/
def execBankOverloadEnd (b : BankId) (load : Int) (s : State) : Out :=
  .next (s.setBank b fun x => { x with load := load, excursion := false, tripped := false })

/-! ### Retry and clearing (R59, R61) -/

/-- The fault bits that hold a latched port: SCG, SCB, OC, OT, SHARE and BANK (R61). -/
def holdBits : BitVec 10 := 0b1100011011

/-- PORT_RETRY: after the retry wait the port counts the retry, clears the bits whose conditions are gone and takes OFF
(R59). -/
def execPortRetry (p : PortId) (s : State) : Out :=
  .next (
    if s.ports[p].status = .retry && !s.isFollower p then
      let before := s.ports[p].status
      let here := s.members p
      let s := { s with ports := updAll s.ports fun q x =>
        if here.contains q then { x with fault := x.fault &&& s.presentAt q } else x }
      let s := s.setPorts here fun x =>
        { x with status := .off, retryCnt := x.retryCnt + 1, retryWatch := true, awaitCarrier := x.enabled }
      let s := s.settle p
      s.emit (s.portEv 0x050C p before s.ports[p].iNow)
    else s)

/-- RETRY_COUNT_RESET: after 10 s in DRIVE without a new fault RETRY_CNT returns to 0 (R59). -/
def execRetryCountReset (p : PortId) (s : State) : Out :=
  .next (if s.ports[p].retryWatch && !s.faulted p then
      s.setPorts (s.members p) fun x => { x with retryCnt := 0, retryWatch := false }
    else s)

/-- A latched group takes OFF once the bits that hold it are all clear in every member; a motor port returns
disabled (R61). -/
def State.unlatch (s : State) (p : PortId) : State :=
  let here := s.members p
  if here.all fun q => s.ports[q].status == .latched && (s.ports[q].fault &&& holdBits) == 0 then
    (s.setPorts here fun x => { x with status := .off, enabled := false, awaitCarrier := false }).settle (s.lead p)
  else s

/-- A W1C write of PRTn_FAULT (R61). -/
def State.writeFault (s : State) (p : PortId) (v : Word) : State × Status :=
  let m : BitVec 10 := BitVec.ofNat 10 v.toNat
  if m &&& s.presentAt p ≠ 0 then (s, .faulted)
  else if m &&& s.ports[p].fault = 0 then (s, .ok)
  else
    let before := s.ports[p].status
    let s := s.setPort p fun x => { x with fault := x.fault &&& ~~~m, retryCnt := 0 }
    let s := s.unlatch p
    (s.emit (s.portEv 0x050B p before (s.eventValue p)), .ok)

/-- PORT_FAULT_CLEAR: clears the bits whose conditions are gone, or completes with FAULTED (R61). -/
def execPortFaultClear (p : PortId) (v : Word) (k : SessId) (s : State) : Out :=
  .next (s.gated k (s.gate k rightPARAM) fun s => s.writeFault p v)

end Sys2Proof.Machine
end

