-- ==== Sys2Proof/Machine/HieOps.lean ====
section
/-! DEFINITION. What the time base, section control and the hierarchy share: roles and the chain (R225, R226), the
entries of Q10 (R19, R242), and the completion of timed commands (R213, R243). -/

namespace Sys2Proof.Machine

open Sys2Proof

/-! ### Role and chain -/

/-- HIE_CFG and HID. -/
def State.hieCfg (s : State) : Word := s.rw secHIER 1 0 0
def State.hid (s : State) : Word := s.rw secHIER 1 0 1
def State.isWorker (s : State) : Bool := bit s.hieCfg 31
def State.autoRel (s : State) : Bool := bit s.hieCfg 30
def State.htrans (s : State) : Bool := bit s.hieCfg 29
def State.raddr (s : State) : Nat := bits s.hieCfg 16 6
def State.nwork (s : State) : Nat := bits s.hieCfg 8 6

/-- The ADDR at a chain position from 1; 0xFF = none. -/
def State.chainAt (s : State) (pos : Nat) : Nat := bits (s.rw secHIER 2 0 ((pos - 1) / 4)) (8 * ((pos - 1) % 4)) 8

/-- The chain position of an ADDR; the manager's is 0. -/
def State.chainPos (s : State) (a : Nat) : Option Nat :=
  if a = 0 then some 0 else ((List.range s.nwork).map (· + 1)).find? fun j => s.chainAt j == a

/-- HOP: the hop count of this device, 0 on the manager. -/
def State.hop (s : State) : Nat := if s.isWorker then (s.chainPos s.sys.addr).getD 0 else 0

/-- The links in use (R226): no up-link on the manager, no down-link on the last worker. -/
def State.linkUsed (s : State) (down : Side) : Bool := if down then decide (s.hop < s.nwork) else s.isWorker

/-- One of the two links. -/
def State.link (s : State) (down : Side) : Link := if down then s.hie.dn else s.hie.up
def State.setLink (s : State) (down : Side) (f : Link → Link) : State :=
  s.onHie fun h => if down then { h with dn := f h.dn } else { h with up := f h.up }

/-- A hierarchy event (R252). `addr` is the ADDR concerned. -/
def State.hieEv (s : State) (code addr b2 b3 : Nat) (a b : Int) : Ev :=
  { code := code, payload := le 1 addr ++ le 1 s.hop ++ le 1 b2 ++ le 1 b3 ++ leInt 4 a ++ leInt 4 b ++ s.stamp ++ zeros 4 }

/-- An event of this device. -/
def State.hieEmit (s : State) (code b2 b3 : Nat) (a b : Int) : State := s.emit (s.hieEv code s.sys.addr b2 b3 a b)

/-! ### Q10 (R19, R242) -/


def State.setEntry (s : State) (i : EntryId) (f : Q10Slot → Q10Slot) : State :=
  s.onHie fun h => { h with q10 := upd h.q10 i f }

/-- The entries of Q10 that hold a command. -/
def State.q10Fill (s : State) : Nat := (s.hie.q10.toList.filter fun e => e.cmd.isSome).length

/-- The lowest entry below `lim` that is neither reserved nor in use (R242, R243). -/
def State.freeEntry (s : State) (lim : Nat) : Option EntryId :=
  (idx 256).find? fun i => decide (i.val < lim) && s.hie.q10[i].holder == .free && s.hie.q10[i].cmd.isNone

/-- A timed command put into an entry. -/
def State.putEntry (s : State) (i : EntryId) (c : Timed) : State :=
  let s := s.setEntry i fun e => { e with cmd := some c }
  s.noteFill 10 s.q10Fill

/-- The entries a section or the lock groups hold on this device. -/
def State.held (s : State) (h : Holder) : List EntryId := (idx 256).filter fun i => s.hie.q10[i].holder == h

/-- An entry reserved for a holder: the lowest free one from 0 to 254 (R212, R242, R251). -/
def State.reserve (s : State) (h : Holder) : State × Option EntryId :=
  match s.freeEntry 255 with
  | some i => (s.setEntry i fun e => { e with holder := h }, some i)
  | none => (s.noteOvf 10, none)

/-! ### Sections, as the completion of their commands needs them -/

def State.sctCfg (s : State) : Word := s.rw secSECTION 1 0 0
def State.nsect (s : State) : Nat := bits s.sctCfg 0 8
def State.sctDev (s : State) (i : SectId) : Nat := bits (s.rw secSECTION 2 i.val 0) 24 6
def State.sctPort (s : State) (i : SectId) : PortId := Fin.ofNat 32 (bits (s.rw secSECTION 2 i.val 0) 16 5)
/-- The port is on this device, the manager. -/
def State.sctHere (s : State) (i : SectId) : Bool := s.sctDev i == 0

def State.setSect (s : State) (i : SectId) (f : Sect → Sect) : State :=
  s.onSct fun x => { x with sects := upd x.sects i f }

/-- A section event (R224); `none` names the whole unit. -/
def State.sctEv (s : State) (code : Nat) (i : Option SectId) (a b : Int) : Ev :=
  let head := match i with
    | some i => le 1 i.val ++ le 1 s.sct.sects[i].mode.code ++ le 1 (s.sctDev i) ++ le 1 (s.sctPort i).val
    | none => le 1 0xFF ++ zeros 3
  { code := code, payload := head ++ leInt 4 a ++ leInt 4 b ++ s.stamp ++ zeros 4 }

def State.sctEmit (s : State) (code : Nat) (i : Option SectId) (a b : Int) : State := s.emit (s.sctEv code i a b)

/-- The command of a section has executed at fabric tick `tick` (R209, R219). -/
def State.sectDone (s : State) (i : SectId) (on : Bool) (tick : Nat) : State :=
  s.setSect i fun x =>
    let used := match x.plan with
      | some p => if p.on == on then p.delay else if on then x.usedOn else x.usedOff
      | none => if on then x.usedOn else x.usedOff
    { x with cmd := on, refd := false, tserv := (x.plan.map Plan.serves).getD x.tserv,
             plan := if x.mode = .auto ∨ x.mode = .ext then none else x.plan,
             applyEv := ((tick + used * 12000, on) :: x.applyEv).take 4 }

/-- The command of a section was refused at its instant (R213). -/
def State.sectRefused (s : State) (i : SectId) (on : Bool) (st : Status) : State :=
  let s := s.setSect i fun x => { x with refd := true, paused := true, plan := none }
  let s := s.onSct fun x => { x with cntRef := satNat 65535 (x.cntRef + 1) }
  s.sctEmit 0x0C07 (some i) st.code (if on then 1 else 2)

/-- A timed command of Q10 completes: `ran` says that it was accepted at its port, `stale` that a step removed it
(R19, R172, R213, R214). -/
def State.timedDone (s : State) (c : Timed) (st : Status) (ran stale : Bool) : State :=
  match c.src with
  | .ofSection i =>
    if ran then (s.sectDone i c.on s.tick).answer c.src st
    else if stale then (s.setSect i fun x => { x with plan := none }).answer c.src st
    else (s.sectRefused i c.on st).answer c.src st
  | _ => s.answer c.src st

/-- Every command of Q10 completes with STALE and is removed (R172). -/
def State.staleAll (s : State) : State :=
  (idx 256).foldl (fun s i => match s.hie.q10[i].cmd with
    | some c => (s.setEntry i fun e => { e with cmd := none }).timedDone c .stale false true
    | none => s) s

/-! ### Delay tables sent to the manager (R208, R240) -/

/-- The port of a worker serves section control: its ADMIT names it (R195, R285). -/
def State.servesSection (s : State) (p : PortId) : Bool :=
  s.isWorker && bit (s.admitMask p) 7 && bit (s.admitMask p) 9

/-- DELAY_TAB of one band and direction (R240). -/
def State.sendDelay (s : State) (p : PortId) (b : Fin 10) (close : Bool) : State :=
  let x := s.sol.ports[p]
  let t := if close then x.tabClose[b] else x.tabOpen[b]
  let us (r : Rat) (n : Nat) : Nat := satNat (2 ^ n - 1) (shown 240 r).toNat
  (s.send 0x87 0 (le 1 s.sys.addr ++ le 1 p.val ++ le 1 (put (bandOf x.tcu).val 0 4 + put b.val 4 4)
    ++ le 1 (flagAt close 0 + flagAt t.learned 1) ++ le 4 (us t.mean 32) ++ le 2 (us t.spread 16)
    ++ le 1 t.count ++ zeros 1)).1

/-- The tables of the given bands that a port sends. -/
def State.sendBands (s : State) (p : PortId) (bs : List (Fin 10)) : State :=
  bs.foldl (fun s b => (s.sendDelay p b false).sendDelay p b true) s

/-- The complete tables of every section port (R208). -/
def State.sendTables (s : State) : State :=
  (idx 32).foldl (fun s p => if s.servesSection p then s.sendBands p (idx 10) else s) s

/-- The mean of a table moved by 100 µs or more, or its band became LEARNED or ceased to be. -/
def tableMoved (a b : DelayTab) : Bool :=
  decide (100 ≤ ratAbs (a.mean - b.mean)) || (a.learned != b.learned)

/-- What a worker sends after an update of a port: bands whose mean moved, and the present band when it changed
(R208). -/
def State.delayNews (old s : State) (p : PortId) : State :=
  if s.servesSection p then
    let a := old.sol.ports[p]
    let b := s.sol.ports[p]
    let moved := (idx 10).filter fun k =>
      tableMoved a.tabOpen[k] b.tabOpen[k] || tableMoved a.tabClose[k] b.tabClose[k]
        || (decide (bandOf b.tcu = k) && decide (bandOf a.tcu ≠ k))
    s.sendBands p moved
  else s

end Sys2Proof.Machine
end

