-- ==== Sys2Proof/Machine/CanOps.lean ====
section
/-! DEFINITION. The operations of the CAN controllers: events, notifications, the transmit queue and the error state
(R253 to R270), and the notifications of R333. -/

namespace Sys2Proof.Machine

open Sys2Proof

/-! ### Notifications (R26, R333) -/

/-- Commands of a session in flight (R331). -/
def State.inFlight (s : State) (k : SessId) : Nat := s.hl.q[k].length + s.hl.run[k].length

/-- A notification of one of the four kinds to a session; without a free unreserved entry it is discarded, counted in
OVF, and the next one carries the loss flag (R26, R333). -/
def State.notify (s : State) (k : SessId) (kind : Nat) (content : List Byte) : State :=
  if !s.sec.sessions[k].isOpen then s
  else
    let qn : Fin 16 := Fin.ofNat 16 (4 + k.val)
    if s.hl.out[k].length + s.inFlight k < 64 then
      let e : Outb := { notif := true, bytes := le 1 0xC0 ++ le 1 kind ++ le 1 (flagAt s.hl.loss[k] 0) ++ zeros 1 ++ fit 28 content }
      let s := s.onHl fun h => { h with out := upd h.out k fun l => l ++ [e], loss := upd h.loss k fun _ => false }
      s.noteFill qn s.hl.out[k].length
    else (s.noteOvf qn).onHl fun h => { h with loss := upd h.loss k fun _ => true }

/-! ### Configuration and events -/

/-- Word `j` of the CAN record of a controller (R282), and fields of CANn_CFG. -/
def State.canWord (s : State) (c : CanId) (j : Nat) : Word := s.rw secCAN 1 c.val j
def State.canCfg (s : State) (c : CanId) : Word := s.canWord c 0
def State.canFden (s : State) (c : CanId) : Bool := bit (s.canCfg c) 30
def State.canIso (s : State) (c : CanId) : Bool := bit (s.canCfg c) 29
/-- CAN0 carries the Ralar host link (R327). -/
def State.ralar (s : State) : Bool := bit (s.canCfg 0) 24
/-- The device is in a hierarchy: a worker, or a manager with workers. -/
def State.inHier (s : State) : Bool := s.isWorker || decide (0 < s.nwork)

/-- A CAN event (R275). -/
def State.canEv (s : State) (c : CanId) (code : Nat) (before : CanSt) (a b : Nat) : Ev :=
  { code := code,
    payload := le 1 c.val ++ le 1 before.code ++ le 1 s.can[c].st.code ++ le 1 (satNat 255 s.can[c].rec_) ++ le 2 s.can[c].tec
      ++ zeros 2 ++ le 4 a ++ le 4 b ++ s.stamp }

/-- An event without a change of state. -/
def State.canEmit (s : State) (c : CanId) (code a b : Nat) : State := s.emit (s.canEv c code s.can[c].st a b)

/-! ### Frames -/

/-- The data length of a code (R254). -/
def dlcLen (fdf : Bool) (dlc : Nat) : Nat :=
  if dlc ≤ 8 then dlc
  else if !fdf then 8
  else [12, 16, 20, 24, 32, 48, 64].getD (dlc - 9) 64

/-- The least code whose length holds `n` bytes. -/
def dlcFor (n : Nat) : Nat := ((List.range 16).find? fun d => decide (n ≤ dlcLen true d)).getD 15

/-- CANn_TXSs_ID of a frame. -/
def canIdWord (f : CanFrame) : Nat := flagAt f.xtd 31 + flagAt f.rtr 30 + put f.id 0 29

/-- The frame that staging registers spell (R258). -/
def Stage.frame (g : Stage) : CanFrame :=
  let xtd := bit g.id 31
  let fdf := bit g.ctl 10
  let dlc := bits g.ctl 0 4
  let rtr := bit g.id 30
  { xtd := xtd, rtr := rtr, fdf := fdf, brs := bit g.ctl 9, id := bits g.id 0 (if xtd then 29 else 11), dlc := dlc,
    data := if rtr then [] else (g.d.toList.flatMap wordBytes).take (dlcLen fdf dlc) }

/-- A frame of the runtime on the Ralar and hierarchy buses: FD with BRS, base format (R241, R327). -/
def fdFrame (id : Nat) (bytes : List Byte) : CanFrame :=
  let d := dlcFor bytes.length
  { fdf := true, brs := true, id := id, dlc := d, data := fit (dlcLen true d) bytes }

/-! ### The transmit queue (R257 to R262) -/

/-- The results of R262. -/
inductive TxRes where
  | sent | aborted | retry | stale | noAddr
deriving DecidableEq, Repr, Inhabited

/-- The result byte of R262. -/
def TxRes.code : TxRes → Nat
  | .sent => 0 | .aborted => 1 | .retry => 2 | .stale => 3 | .noAddr => 4

/-- The completion record of R262, its first 28 bytes. -/
def State.txRecord (s : State) (c : CanId) (e : TxEntry) (r : TxRes) : List Byte :=
  le 1 c.val ++ le 1 r.code ++ le 2 e.handle ++ le 4 (canIdWord e.frame)
    ++ (match e.sof with | some t => stampOf t | none => zeros 8) ++ le 1 e.tries ++ le 1 (satNat 255 s.can[c].tec) ++ zeros 10

/-- An entry that has left the queue completes (R260, R262). -/
def State.txDone (s : State) (c : CanId) (e : TxEntry) (r : TxRes) : State :=
  let s := if r = .sent then s.count (0x10 + c.val) 1 else s
  let s := if r = .retry then s.canEmit c 0x0B01 e.handle (canIdWord e.frame) else s
  match e.owner with
  | none => s
  | some k =>
    let s := s.setCan c fun x => { x with stages := upd x.stages k fun g =>
      { g with doneh := e.handle, sent := if r = .sent then (g.sent + 1) % 65536 else g.sent,
               notSent := if r = .sent then g.notSent else (g.notSent + 1) % 65536 } }
    s.notify k 1 (s.txRecord c e r)

/-- The queue of a controller set. -/
def State.setQueue (s : State) (c : CanId) (q : List TxEntry) : State := s.setCan c fun x => { x with queue := q }

/-- Why the entry at the head of the queue completes before an attempt (R259, R271). -/
def State.headEnds (s : State) (c : CanId) (e : TxEntry) : Option TxRes :=
  if e.age ≠ 0 ∧ e.tick + e.age * ticksPerMs ≤ s.tick then some .stale
  else if e.owner.isSome ∧ s.canIso c ∧ s.can[c].addr.isNone then some .noAddr
  else none

/-- Entries at the head that complete before an attempt are taken off one after another. -/
def State.clearHead (s : State) (c : CanId) : List TxEntry → State
  | [] => s.setQueue c []
  | e :: q => match s.headEnds c e with
    | some r => ((s.setQueue c q).txDone c e r).clearHead c q
    | none => s.setQueue c (e :: q)

/-- The handle after a handle (R257). -/
def nextHandle (h : Nat) : Nat := if h = 65535 then 1 else h + 1

/-- A frame put at the end of the queue, with the handle it takes. -/
def State.txPush (s : State) (c : CanId) (f : CanFrame) (rlim age : Nat) (owner : CanOwner) : State × Nat :=
  let h := s.can[c].nextH
  let e : TxEntry := { frame := f, rlim := rlim, age := age, owner := owner, handle := h, tick := s.tick }
  (s.setCan c fun x => { x with queue := x.queue ++ [e], nextH := nextHandle h }, h)

/-- Entries the runtime holds. -/
def State.rtFill (s : State) (c : CanId) : Nat := (s.can[c].queue.filter fun e => e.owner.isNone).length

/-- A frame of the runtime queued into one of its four entries (R257). -/
def State.rtSend (s : State) (c : CanId) (f : CanFrame) (rlim age : Nat) : State × Bool :=
  if s.can[c].st ≠ .off ∧ s.rtFill c < 4 then ((s.txPush c f rlim age none).1, true) else (s, false)

/-- A Ralar frame cut into segments of up to 63 bytes; `n` is the sequence number of the next one (R241, R328). -/
def segments (id : Nat) : Nat → List Byte → Nat → List CanFrame
  | 0, _, _ => []
  | m + 1, bytes, n =>
    let last := decide (bytes.length ≤ 63)
    let head := flagAt (n == 0) 7 + flagAt last 6 + n % 64
    fdFrame id (le 1 head ++ bytes.take 63) :: (if last then [] else segments id m (bytes.drop 63) (n + 1))

/-- A Ralar frame handed to the runtime for a controller: its segments wait for entries (R241, R327). -/
def State.segSend (s : State) (c : CanId) (id : Nat) (bytes : List Byte) (rlim age : Nat) : State :=
  s.setCan c fun x => { x with segOut := x.segOut ++ (segments id (bytes.length + 1) bytes 0).map fun f => (f, rlim, age) }

/-- Waiting segments take the runtime's entries as those free, at most `n` of them. -/
def State.pumpSegs (c : CanId) : Nat → State → State
  | 0, s => s
  | n + 1, s => match s.can[c].segOut with
    | [] => s
    | (f, rlim, age) :: rest => match s.rtSend c f rlim age with
      | (t, true) => (t.setCan c fun x => { x with segOut := rest }).pumpSegs c n
      | (_, false) => s

/-- The host's entries are at most 28 (R257, R258). -/
def State.hostFill (s : State) (c : CanId) : Nat := (s.can[c].queue.filter fun e => e.owner.isSome).length

/-- The checks of R258 but the last. -/
def State.enqChecks (s : State) (c : CanId) (k : SessId) : Status :=
  let g := s.can[c].stages[k]
  let f := g.frame
  let rlim := bits g.ctl 11 5
  let roleBit := match s.sec.sessions[k].role with | .operator => 20 | .service => 21 | .owner => 22
  let formed := !(f.fdf && !s.canFden c) && !(f.brs && !f.fdf) && !(f.rtr && f.fdf) && !(decide (8 < f.dlc) && !f.fdf)
    && !(decide (16 ≤ rlim) && decide (rlim ≤ 30)) && !(s.canIso c && !f.xtd)
    && !(c == 3 && s.inHier && !f.xtd && decide (0x080 ≤ f.id) && decide (f.id ≤ 0x0FE))
  firstFail [(bit (s.canCfg c) roleBit, .denied), (formed, .limit),
    (s.can[c].st != .off && (!s.canIso c || s.can[c].addr.isSome), .notReady)]

/-- The entry that an ENQUEUE of the staged frame makes (R257, R258). -/
def State.stagedEntry (s : State) (c : CanId) (k : SessId) : TxEntry :=
  let g := s.can[c].stages[k]
  { frame := g.frame, rlim := bits g.ctl 11 5, age := bits g.ctl 16 16, owner := some k, handle := s.can[c].nextH, tick := s.tick }

/-- The staged frame copied into the queue. -/
def State.enqNow (s : State) (c : CanId) (k : SessId) : State :=
  let g := s.can[c].stages[k]
  let r := s.txPush c g.frame (bits g.ctl 11 5) (bits g.ctl 16 16) (some k)
  r.1.setCan c fun x => { x with stages := upd x.stages k fun g => { g with lasth := r.2 } }

/-- The head is in an attempt. -/
def State.inAttempt (s : State) (c : CanId) (e : TxEntry) : Bool :=
  s.can[c].inTx && (match s.can[c].queue with | h :: _ => h.handle == e.handle | [] => false)

/-- One entry aborted: at once, or when its attempt has ended (R261). -/
def State.abortEntry (s : State) (c : CanId) (e : TxEntry) : State :=
  if s.inAttempt c e then
    s.setCan c fun x => { x with queue := x.queue.map fun y => if y.handle = e.handle then { y with abort := true } else y }
  else (s.setQueue c (s.can[c].queue.filter fun y => y.handle != e.handle)).txDone c e .aborted

/-- Every entry of a session aborted (R261). -/
def State.abortAll (s : State) (c : CanId) (k : SessId) : State :=
  (s.can[c].queue.filter fun e => e.owner == some k).foldl (fun (s : State) (e : TxEntry) => s.abortEntry c e) s

/-! ### Error state (R267 to R269) -/

/-- The warning thresholds of CAN3 (R268): sessions with rights to CAN3 are those that hold CANTX. -/
def State.judgeWarn (s : State) (c : CanId) : State :=
  let x := s.can[c]
  let reached := decide (x.ewlt ≤ x.tec) || decide (x.ewlr ≤ x.rec_)
  if c ≠ 3 ∨ reached = x.warn then s
  else
    let s := s.setCan c fun x => { x with warn := reached }
    let s := if reached then s.canEmit c 0x0B06 x.ewlt x.ewlr else s.canEmit c 0x0B07 0 0
    let body := le 1 c.val ++ le 1 (flagAt reached 0) ++ le 1 (satNat 255 x.rec_) ++ zeros 1 ++ le 2 x.tec ++ zeros 2
      ++ le 1 x.ewlt ++ le 1 x.ewlr ++ zeros 2 ++ s.stamp ++ zeros 8
    (idx 4).foldl (fun (s : State) (k : SessId) => if s.hasRight k rightCANTX then s.notify k 4 body else s) s

/-- The error state that counters give (R267). -/
def canStateOf (tec rec_ : Nat) : CanSt := if 255 < tec then .busOff else if 128 ≤ tec ∨ 128 ≤ rec_ then .passive else .active

/-- The attempt that a bus-off cuts short does not count towards RLIM (R260, R261, R269). -/
def State.freeze (s : State) (c : CanId) : State :=
  match s.can[c].inTx, s.can[c].queue with
  | true, e :: q =>
    let s := s.setCan c fun x => { x with inTx := false }
    if e.abort then (s.setQueue c q).txDone c e .aborted
    else s.setQueue c ({ e with tries := e.tries - 1 } :: q)
  | _, _ => s

/-- The state follows the counters, and each change is recorded (R267, R269). -/
def State.judgeState (s : State) (c : CanId) : State :=
  let old := s.can[c].st
  let new := canStateOf s.can[c].tec s.can[c].rec_
  if (old ≠ .active ∧ old ≠ .passive) ∨ new = old then s.judgeWarn c
  else
    let s := s.setCan c fun x => { x with st := new }
    let s := match new with
      | .active => s.emit (s.canEv c 0x0B03 old 0 0)
      | .passive => s.emit (s.canEv c 0x0B02 old (match s.can[c].lastErr with
          | some .bit => Config.canErrCode 0 | some .stuff => Config.canErrCode 1 | some .form => Config.canErrCode 2
          | some .ack => Config.canErrCode 3 | some .crc => Config.canErrCode 4 | _ => 0) 0)
      | _ =>
        let s := (s.freeze c).count (0x1C + c.val) 1
        let s := s.setCan c fun x => { x with eOff := satNat 255 (x.eOff + 1), offAt := s.tick, recPend := bit (s.canCfg c) 28, byHost := false }
        s.emit (s.canEv c 0x0B04 old s.can[c].queue.length (match s.can[c].queue with | e :: _ => e.handle | [] => 0))
    s.judgeWarn c

/-- A requested operating mode takes effect at the end of a frame (R263). -/
def State.frameEnd (s : State) (c : CanId) : State := s.setCan c fun x => { x with op := x.opReq }

end Sys2Proof.Machine
end

