-- ==== Sys2Proof/Machine/TimeBase.lean ====
section
/-! DEFINITION. The meanings of the time-base rows (R164 to R180): the rate, judgement, slew and step, holdover, the RTC,
TP and the latched reads. -/

namespace Sys2Proof.Machine

open Sys2Proof

/-! ### Configuration, source and events -/

/-- TMB_CFG, TMB_TPCFG, GNS_CFG and GNS_AGES (R282, HIER 0x05). -/
def State.tmbCfg (s : State) : Word := s.rw secHIER 5 0 0
def State.tpCfg (s : State) : Word := s.rw secHIER 5 0 1
def State.gnsCfg (s : State) : Word := s.rw secHIER 5 0 3
def State.gnsAges (s : State) : Word := s.rw secHIER 5 0 4
def State.gnssOn (s : State) : Bool := bit s.gnsCfg 31
def State.tconst (s : State) : Nat := bits s.tmbCfg 0 8
def State.holdLim (s : State) : Nat := bits s.tmbCfg 16 16

/-- TMB_STAT.SRC: 0 = none, 1 = GNSS, 2 = Clapper (R23, R168). -/
def State.timeSrc (s : State) : Nat := if s.isWorker then 2 else if s.gnssOn then 1 else 0

/-- The lock threshold in 0.25 ns (R168). -/
def State.lockThr (s : State) : Nat := if s.isWorker then (20 + 6 * s.hop) * 4 else 400

/-- A time in seconds as an event shows it, 0.25 ns. -/
def quarterNs (d : Rat) : Int := shown 194 (d * 4000000000)

/-- A time-base event (R194). -/
def State.timeEv (s : State) (code : Nat) (before : Qual) (b3 : Nat) (a b : Int) : Ev :=
  { code := code, payload := le 1 s.timeSrc ++ le 1 before.code ++ le 1 s.tmb.qual.code ++ le 1 b3 ++ leInt 4 a
      ++ leInt 4 b ++ s.stamp ++ zeros 4 }

def State.timeEmit (s : State) (code : Nat) (before : Qual) (b3 : Nat) (a b : Int) : State :=
  s.emit (s.timeEv code before b3 a b)

/-! ### Quality, TP and the record of OFS -/

/-- The quality is one in which the source steers (R166). -/
def Qual.tracks (q : Qual) : Bool := q == .acq || q == .locked

/-- 100 s in fabric ticks. -/
def hundredS : Nat := 100 * 120000000

/-- The intervals of a record cut to 100 s. -/
def cutLog : Nat → List (Nat × Int) → List (Nat × Int)
  | _, [] => []
  | left, (n, v) :: xs => if left = 0 then [] else (min n left, v) :: cutLog (left - min n left) xs

/-- The interval that ends now is put into the record of OFS (R175). -/
def State.creditOfs (s : State) : State :=
  s.onTmb fun x =>
    { x with ofsLog := if x.qual.tracks then cutLog hundredS ((s.tick - x.ofsAt, x.ofs) :: x.ofsLog) else x.ofsLog,
             ofsAt := s.tick }

/-- The mean OFS of the last 100 s in ACQ or LOCKED; 0 if fewer have passed (R175). -/
def meanOfs (l : List (Nat × Int)) : Int :=
  let n := (l.map Prod.fst).foldl (· + ·) 0
  if n < hundredS then 0
  else shown 175 (((l.map fun e => (e.1 : Int) * e.2).foldl (· + ·) 0 : Int) / ((n : Nat) : Rat))

/-- TP may emit in the quality in force (R178). -/
def State.tpAllowed (s : State) : Bool :=
  bit s.tpCfg 31 && match s.tmb.qual with
    | .none => false
    | .rtc | .host => bit s.tmbCfg 14
    | .acq | .locked | .holdover => true
    | .expired => bit s.tmbCfg 15

/-- Emission that ends for a reason other than a pending step is recorded (R178). -/
def State.tpSettle (s : State) (before : Qual) : State :=
  if s.tmb.tpOn && !s.tpAllowed then
    (s.onTmb fun x => { x with tpOn := false }).timeEmit 0x0906 before s.tmb.qual.code (sbits (word s.tmb.tpSec) 0 32) 0
  else s

/-- The quality becomes `q`. -/
def State.setQual (s : State) (q : Qual) : State :=
  let s := s.creditOfs
  s.onTmb fun x => { x with qual := q }

/-! ### The rate (R164 to R167) -/

/-- The greatest |RATE| and |OFS|. -/
def rateMax : Int := 219902325
def ofsMax : Int := 1099511

/-- The increment of T at each fabric tick, in 2^-72 s (R164). -/
def tickInc (rate : Int) : Nat := (shown 164 (((2 ^ 32 * (2 ^ 40 + rate) : Int) : Rat) / 120000000)).toNat

/-- T advanced by one fabric tick. -/
def State.advanceT (s : State) : State :=
  s.onTmb fun x => { x with t := (x.t + tickInc x.rate) % 2 ^ 120 }

/-- RATEM + OFS becomes RATE, clamped; an excursion beyond the bound is recorded once (R165). -/
def State.newRate (s : State) : State :=
  let sum := s.tmb.ratem + s.tmb.ofs
  let out := decide (rateMax < sum) || decide (sum < -rateMax)
  let enters := out && !s.tmb.range
  let s := s.onTmb fun x => { x with rate := clampInt (-rateMax) rateMax sum, range := out, resRun := 0 }
  if enters then s.timeEmit 0x090A s.tmb.qual 0 (sbits (word (twos 32 sum)) 0 32) (twos 40 sum / 2 ^ 32 : Nat) else s

/-- The source is lost in ACQ or LOCKED: the time base enters HOLDOVER (R175). With RESFLT, OFS stands (R167). -/
def State.loseSource (s : State) : State :=
  if s.tmb.qual.tracks then
    let before := s.tmb.qual
    let s := s.setQual .holdover
    let s := s.onTmb fun x => { x with holdAt := some s.tick, ofs := if x.resflt then x.ofs else meanOfs x.ofsLog }
    let s := if s.tmb.resflt then s else s.newRate
    (s.timeEmit 0x0902 before 0 (quarterNs s.tmb.d) s.tmb.ofs).tpSettle before
  else s

/-- One computation of RATE; `ok` = its residue agrees (R167). -/
def State.computeRate (s : State) (ok : Bool) : State :=
  if s.tmb.resflt then s
  else if ok then s.newRate
  else
    let s := s.onTmb fun x => { x with resRun := x.resRun + 1, resCnt := satNat 65535 (x.resCnt + 1) }
    let s := (s.count 0x0E 1).timeEmit 0x0908 s.tmb.qual s.tmb.resRun s.tmb.resCnt 0
    if 3 ≤ s.tmb.resRun then
      let s := s.onTmb fun x => { x with resflt := true }
      (s.timeEmit 0x0909 s.tmb.qual 3 s.tmb.resCnt (sbits (word (twos 32 s.tmb.rate)) 0 32)).loseSource
    else s

/-- OFS takes a value and RATE follows. -/
def State.setOfs (s : State) (v : Int) (ok : Bool) : State :=
  if s.tmb.resflt then s
  else (s.creditOfs.onTmb fun x => { x with ofs := v }).computeRate ok

/-- OFS so that d decays with TCONST, within the clamp (R165, R166). -/
def State.steer (s : State) (d : Rat) (ok : Bool) : State :=
  s.setOfs (clampInt (-ofsMax) ofsMax (shown 166 (-(d / (s.tconst : Nat)) * 2 ^ 40))) ok

/-- The bins of the model as its prediction reads them. -/
def OscModel.means (m : OscModel) : List (Option Rat) := m.bins.toList.map fun b => if b.n = 0 then none else some b.mean

/-- The bin of a TCXO temperature (R176). -/
def oscBin (milliC : Int) : Fin 145 := Fin.ofNat 145 (clampInt 0 144 ((milliC + 40000) / 1000)).toNat

/-- The model with the rate in force learnt at a temperature (R176). -/
def OscModel.learn (m : OscModel) (milliC rate : Int) : OscModel :=
  { bins := upd m.bins (oscBin milliC) fun b => { n := b.n + 1, mean := (b.mean * (b.n : Nat) + rate) / ((b.n + 1 : Nat) : Rat) },
    slope := Config.oscSlope m.slope rate m.learnt, learnt := m.learnt + 1 }

/-- TRAINED: 24 h learnt and the bins within ±2 K filled (R176). -/
def OscModel.trained (m : OscModel) (milliC : Int) : Bool :=
  decide (864000 ≤ m.learnt) &&
    (idx 145).all fun i => decide (2 < ((i.val : Int) - ((oscBin milliC).val : Int)).natAbs) || decide (0 < m.bins[i].n)

def State.trained (s : State) : Bool := s.tmb.model.trained s.tmb.tcxo

/-- RATEM_UPDATE: every 100 ms the model learns while LOCKED and predicts RATEM at the TCXO temperature; RATE follows
(R165, R167, R176). `ok` = the residue agrees. -/
def execRatemUpdate (milliC : Int) (ok : Bool) (s : State) : Out :=
  .next (
    let s := s.onTmb fun x =>
      { x with tcxo := milliC, model := if x.qual = .locked then x.model.learn milliC x.rate else x.model }
    if s.tmb.resflt then s
    else
      let m := s.tmb.model
      (s.onTmb fun x => { x with ratem := Config.oscRate m.means m.slope milliC m.learnt }).computeRate ok)

/-- ANTDLY in seconds. -/
def State.antDly (s : State) : Rat := (bits s.tmb.dly 0 16 : Nat) / 4000000000

/-- The mean of a list of offsets. -/
def meanRat (xs : List Rat) : Rat := if xs.isEmpty then 0 else xs.foldl (· + ·) 0 / (xs.length : Nat)

/-- d of a measurement: for GNSS the clock bias in 2^-72 s minus ANTDLY; for the Clapper the mean over beacons (R166). -/
def State.dOf (s : State) (bias : Int) (ds : List Rat) : Rat :=
  if s.isWorker then meanRat ds else (bias : Rat) / 2 ^ 72 - s.antDly

/-- OFFSET_MEASUREMENT: d is measured and OFS steered in ACQ and LOCKED (R166). `bias` is the receiver clock bias of
the solution in 2^-72 s; on a worker the beacons of the interval give d. -/
def execOffsetMeasurement (bias : Int) (ok : Bool) (s : State) : Out :=
  .next (
    if s.timeSrc = 0 || (s.isWorker && s.hie.ds.isEmpty) then s
    else
      let d := s.dOf bias s.hie.ds
      let s := (s.onHie fun h => { h with ds := [] }).onTmb fun x => { x with d := d }
      if s.tmb.qual.tracks && s.tmb.pending.isNone then s.steer d ok else s)

/-! ### Judgement (R170 to R174) -/

/-- A pending host setting that something replaces completes with SUPERSEDED (R174). -/
def State.dropSetting (s : State) : State :=
  match s.tmb.pending with
  | some (.host k ref _) => (s.onTmb fun x => { x with pending := none }).answer (.host k ref) .superseded
  | _ => s

/-- A judgement acts: a slew below 2 µs, else a pending step (R170, R171). -/
def State.judge (s : State) (dj : Rat) (afresh ok : Bool) : State :=
  let before := s.tmb.qual
  let s := (s.dropSetting.setQual .acq).onTmb fun x => { x with d := dj, holdAt := none }
  if ratAbs dj < 2 / 1000000 then
    let s := (s.onTmb fun x => { x with pending := none }).steer dj ok
    s.timeEmit 0x0904 before 0 (quarterNs dj) 0
  else s.onTmb fun x => { x with pending := some (.judged dj afresh) }

/-- JUDGEMENT: a judgement set exists; `mean` is the mean clock bias of its three solutions in 2^-72 s, and on a worker
the first beacons since the source became valid give d_j (R170). -/
def execJudgement (mean : Int) (ok : Bool) (s : State) : Out :=
  .next (
    if s.timeSrc = 0 || s.tmb.resflt || s.tmb.qual.tracks || (s.isWorker && (!s.hie.srcOk || s.hie.firstDs.isEmpty)) then s
    else s.judge (s.dOf mean s.hie.firstDs) false ok)

/-- JUDGEMENT_AFRESH: |d| has stayed at 2 µs or more for 10 s in ACQ or LOCKED (R170). -/
def execJudgementAfresh (mean : Int) (ok : Bool) (s : State) : Out :=
  .next (
    if s.timeSrc = 0 || s.tmb.resflt || !s.tmb.qual.tracks then s
    else s.judge (s.dOf mean (if s.hie.ds.isEmpty then [s.tmb.d] else s.hie.ds)) true ok)

/-- Instants that mark running intervals move with a step, so that durations do not change (R172). -/
def moveInstant (change : Int) (i : Nat) : Nat := ((i : Int) + change).toNat

/-- T takes a value: the grids pass the step, and a step of more than 1 s clears Q10 (R172). -/
def State.stepTo (s : State) (t : Nat) : State :=
  let change := (t : Int) - (s.tmb.t : Int)
  let fine := change / 2 ^ 40
  let s := { s with ports := updAll s.ports fun _ x =>
    { x with period := { x.period with start := moveInstant fine x.period.start },
             edges := x.edges.map (moveInstant fine), invalAt := moveInstant fine x.invalAt } }
  let s := s.onTmb fun x => { x with t := t % 2 ^ 120 }
  if 2 ^ 72 < change.natAbs then s.staleAll else s

/-- Seconds of T now. -/
def State.secs (s : State) : Nat := s.tmb.t / 2 ^ 72

/-- The count of steps, and the manager's STEPCNT (R171, R235). -/
def State.countStep (s : State) : State :=
  let s := s.onTmb fun x => { x with steps := satNat 65535 (x.steps + 1), pending := none, d := 0 }
  if s.isWorker then s else s.onHie fun h => { h with stepCnt := (h.stepCnt + 1) % 16 }

/-- TIME_STEP as a record: the step in ns as a signed 64-bit number (R194). -/
def State.stepRecord (s : State) (before : Qual) (cause : Nat) (change : Rat) : State :=
  let ns := twos 64 (shown 194 (change * 1000000000))
  s.timeEmit 0x0903 before cause (sbits (word ns) 0 32) (sbits (word (ns / 2 ^ 32)) 0 32)

/-- TIME_STEP: at the whole second S the pending step or setting is applied (R171 to R174). -/
def execTimeStep (s : State) : Out :=
  .next (
    let sec := s.secs
    let before := s.tmb.qual
    match s.tmb.pending with
    | none => s
    | some (.judged dj afresh) =>
      let t := ((sec * 2 ^ 72 : Nat) : Int) - shown 171 (dj * 2 ^ 72)
      let s := (s.stepTo (t % 2 ^ 120).toNat).countStep
      (s.stepRecord before (if afresh then 2 else 0) (-dj)).setOfs 0 true
    | some (.manager c) =>
      let t := ((sec * 2 ^ 72 : Nat) : Int) + shown 171 (c * 2 ^ 72)
      let s := (s.stepTo (t % 2 ^ 120).toNat).countStep.onHie fun h => { h with stepApplied := true }
      (s.stepRecord before 1 c).setOfs 0 true
    | some (.host k ref secs) =>
      let s := ((s.stepTo (secs * 2 ^ 72)).countStep.setQual .host).onTmb fun x => { x with holdAt := none }
      let s := s.setOfs 0 true
      let s := s.emit { code := 0x0E02, session := some k, payload := le 6 sec ++ zeros 2 ++ le 6 secs ++ zeros 2
                          ++ le 1 k.val ++ le 1 before.code ++ le 1 s.tmb.qual.code ++ zeros 5 }
      (s.tpSettle before).answer (.host k ref) .ok)

/-- TIME_LOCKED: |d| has stayed below the lock threshold for 10 s in ACQ with no step pending (R168, R208). -/
def execTimeLocked (s : State) : Out :=
  .next (
    if s.tmb.qual = .acq && s.tmb.pending.isNone then
      let s := (s.setQual .locked).timeEmit 0x0901 .acq s.hop (quarterNs s.tmb.d) s.lockThr
      if s.isWorker then s.sendTables else s
    else s)

/-- LOCK_LOST: |d| at or above twice the lock threshold for 10 s returns LOCKED to ACQ (R170). -/
def execLockLost (s : State) : Out :=
  .next (if s.tmb.qual = .locked then s.setQual .acq else s)

/-! ### Holdover (R175, R176) -/

/-- TIME_HOLDOVER: the source is lost in ACQ or LOCKED (R175). -/
def execTimeHoldover (s : State) : Out := .next s.loseSource

/-- GNSS_SOLUTION_TIMEOUT: 3 s without a time solution lose the GNSS source (R168). -/
def execGnssSolutionTimeout (s : State) : Out := .next (if s.timeSrc = 1 then s.loseSource else s)

/-- Seconds in HOLDOVER or EXPIRED (TMB_HOLD). -/
def State.holdSecs (s : State) : Nat :=
  match s.tmb.holdAt with
  | some a => if s.tmb.qual = .holdover ∨ s.tmb.qual = .expired then (s.tick - a) / 120000000 else 0
  | none => 0

/-- TMB_ERR (R175). -/
def State.timeErr (s : State) : Nat := satNat (2 ^ 32 - 1) (Config.timeError s.tmb.qual.code s.holdSecs s.tmb.d)

/-- TIME_HOLDOVER_EXPIRED: HOLDLIM passes in HOLDOVER (R175, R178). -/
def execTimeHoldoverExpired (s : State) : Out :=
  .next (
    if s.tmb.qual = .holdover then
      let s := s.setQual .expired
      (s.timeEmit 0x0905 .holdover 0 s.holdLim (sbits (word s.timeErr) 0 32)).tpSettle .holdover
    else s)

/-- OSCILLATOR_MODEL_SAVE: the model is saved to module flash (R176). -/
def execOscillatorModelSave (s : State) : Out := .next (s.onTmb fun x => { x with savedModel := x.model })

/-! ### The RTC (R169) -/

/-- RTC_LOAD: at the RTC second edge after a reset with a valid RTC, T takes its seconds; no record, no count (R169). -/
def execRtcLoad (secs : Nat) (s : State) : Out :=
  .next (
    if s.tmb.qual = .none && s.tmb.rtcValid then
      ((s.stepTo (secs * 2 ^ 72)).setQual .rtc).onTmb fun x => { x with rtc := secs }
    else s)

/-- The seconds of T are written into the RTC in the qualities of R169. -/
def State.saveRtc (s : State) : State :=
  if s.tmb.qual = .host ∨ s.tmb.qual = .acq ∨ s.tmb.qual = .locked ∨ s.tmb.qual = .holdover then
    s.onTmb fun x => { x with rtc := s.secs, rtcValid := true }
  else s

/-- RTC_SAVE: every 60 s the runtime writes the seconds of T into the RTC (R169). -/
def execRtcSave (s : State) : Out := .next s.saveRtc

/-! ### TP (R177 to R179) -/

/-- WIDTH in fabric ticks. -/
def State.tpWidth (s : State) : Nat := bits s.tpCfg 0 9 * ticksPerMs

/-- The level of TP (R177). -/
def State.tpLevel (s : State) : Bool := (decide (s.tick < s.tmb.tpEnd)) != bit s.tpCfg 30

/-- The second whose pulse instant S − TPDLY lies nearest to now. -/
def State.pulseSec (s : State) : Nat :=
  (s.tmb.t + bits s.tmb.dly 16 16 * 2 ^ 72 / 4000000000 + 2 ^ 71) / 2 ^ 72

/-- TP_PULSE: at a pulse instant that QUAL allows, with no step pending and 0.5 s after the last pulse, TP emits a
pulse of WIDTH; the first after a stop or a Recipe is recorded (R177 to R179). -/
def execTpPulse (s : State) : Out :=
  .next (
    let early := match s.tmb.tpAt with
      | some a => decide (s.tick - a < 60000000)
      | none => false
    if !s.tpAllowed || s.tmb.pending.isSome || early || !s.rcp.applied then s
    else
      let first := !s.tmb.tpOn
      let sec := s.pulseSec
      let s := s.onTmb fun x => { x with tpOn := true, tpSec := sec, tpAt := some s.tick, tpEnd := s.tick + s.tpWidth }
      if first then s.timeEmit 0x0907 s.tmb.qual s.tmb.qual.code (sbits (word sec) 0 32) 0 else s)

/-! ### Reads and commands (R180, R174, R167) -/

/-- A read of TMB_FRAC (R180). -/
def State.readFrac (s : State) : State × Word :=
  (s.onTmb fun x => { x with secl := word s.secs, sech := word (put (s.secs / 2 ^ 32) 0 16 + put x.qual.code 29 3) },
   word s.now)

/-- A read of TMB_RATEL (R180). -/
def State.readRatel (s : State) : State × Word :=
  (s.onTmb fun x => { x with rateh := word (twos 40 x.rate / 2 ^ 32) }, word (twos 40 s.tmb.rate))

/-- A read with an effect gives its word. -/
def State.returns (r : State × Word) : State := r.1.onSys fun x => { x with readData := r.2 }

/-- TMB_FRAC_READ: the fraction of T is returned, and its seconds and QUAL are latched (R180). -/
def execTmbFracRead (k : SessId) (s : State) : Out :=
  .next (s.gated k (s.gate k rightREAD) fun s => (State.returns s.readFrac, .ok))

/-- TMB_RATEL_READ: the low word of RATE is returned and RATEH latched (R180). -/
def execTmbRatelRead (k : SessId) (s : State) : Out :=
  .next (s.gated k (s.gate k rightREAD) fun s => (State.returns s.readRatel, .ok))

/-- TMB_CMD.SET: the written seconds become the pending step; none when it is refused, since an accepted SET completes
later (R174). -/
def State.cmdSet (s : State) (k : SessId) : State × Option Status :=
  if s.tmb.qual = .acq ∨ s.tmb.qual = .locked ∨ s.tmb.qual = .holdover then (s, some .notReady)
  else
    let secs := s.tmb.setl.toNat + bits s.tmb.seth 0 16 * 2 ^ 32
    (s.dropSetting.onTmb fun x => { x with pending := some (.host k s.sys.cur secs) }, none)

/-- TMB_CMD.RESTEER ends a residue fault (R167). -/
def State.cmdResteer (s : State) (ok : Bool) : State × Status :=
  if s.tmb.resflt then ((s.onTmb fun x => { x with resflt := false, resRun := 0 }).computeRate ok, .ok) else (s, .ok)

/-- SET: TMB_CMD.SET from a SERVICE or OWNER session (R174). -/
def execSet (k : SessId) (s : State) : Out :=
  .next (match s.gateRws k rightSERVICE with
    | .ok => match s.cmdSet k with
      | (s, some st) => s.answer (s.me k) st
      | (s, none) => s
    | st => s.answer (s.me k) st)

/-- RESTEER: TMB_CMD.RESTEER from a SERVICE or OWNER session (R167). -/
def execResteer (ok : Bool) (k : SessId) (s : State) : Out :=
  .next (s.gated k (s.gateRws k rightSERVICE) fun s => s.cmdResteer ok)

end Sys2Proof.Machine
end

