-- ==== Sys2Proof/Machine/SctOps.lean ====
section
/-! DEFINITION. The local plane of section control and the solutions that enter it (R197, R198). -/

namespace Sys2Proof.Machine

open Sys2Proof

/-- POSSRC, SPDSRC, SPDPORT and the limits (SCT_CFG, SCT_LIMS, SCT_TIMES, SCT_EXT). -/
def State.sctWord (s : State) (k : Nat) : Word := s.rw secSECTION 1 0 k
def State.posSrc (s : State) : Nat := bits s.sctCfg 30 2
def State.spdSrc (s : State) : Nat := bits s.sctCfg 28 2
def State.spdPort (s : State) : PortId := Fin.ofNat 32 (bits s.sctCfg 22 5)

/-- A latitude and longitude in the local plane, mm (R197). -/
def State.plane (s : State) (lat lon : Int) : Rat × Rat :=
  let lat0 := sbits s.sct.orgLat 0 32
  let lon0 := sbits s.sct.orgLon 0 32
  let k := Config.earth lat0
  (k.2 * (lon - lon0), k.1 * (lat - lat0))

/-- The solutions of the last 3 s. -/
def recent (tick : Nat) (xs : List Solution) : List Solution := xs.filter fun x => decide (tick ≤ x.tick + 360000000)

/-- A solution enters section control (R198). -/
def State.pushSolution (s : State) (x : Solution) : State :=
  s.onSct fun c =>
    { c with sols := x :: recent s.tick c.sols, edges := c.edges.filter fun e => decide (x.tick < e),
             headed := match x.hdg with | some h => some h | none => c.headed }

/-- The fabric tick of a time-base instant that has passed. -/
def State.tickOf (s : State) (instant : Nat) : Nat := s.tick - (s.now - instant) * 120000000 / 2 ^ 32

end Sys2Proof.Machine
end

