-- ==== Sys2Proof/Machine/SctPlan.lean ====
section
/-! DEFINITION. What section control computes at an evaluation: the estimate (R198 to R200), the boom's points (R201),
allowed ground and coverage (R202 to R205), wanted state (R206), valve delays (R207), and where its commands go
(R196, R210 to R212). -/

namespace Sys2Proof.Machine

open Sys2Proof

/-! ### Settings -/

def State.nsectIds (s : State) : List SectId := (idx 128).filter fun i => decide (i.val < s.nsect)
def State.ppm (s : State) : Nat := (s.sctWord 4).toNat
def State.hzn (s : State) : Nat := bits (s.sctWord 2) 16 16
def State.hlead (s : State) : Nat := bits (s.sctWord 2) 8 8
def State.vmin (s : State) : Nat := bits (s.sctWord 1) 16 16
def State.lossHold (s : State) : Bool := bit s.sctCfg 16
def State.xoff (s : State) (i : SectId) : Int := sbits (s.rw secSECTION 2 i.val 1) 16 16
def State.yoff (s : State) (i : SectId) : Int := sbits (s.rw secSECTION 2 i.val 1) 0 16
def State.width (s : State) (i : SectId) : Nat := bits (s.rw secSECTION 2 i.val 2) 16 16
def State.hydOn (s : State) (i : SectId) : Nat := bits (s.rw secSECTION 2 i.val 2) 8 8
def State.hydOff (s : State) (i : SectId) : Nat := bits (s.rw secSECTION 2 i.val 2) 0 8
def State.defDelay (s : State) (i : SectId) (on : Bool) : Nat := bits (s.rw secSECTION 2 i.val 3) (if on then 16 else 0) 16
def State.prod (s : State) (i : SectId) : Fin 8 := Fin.ofNat 8 (bits (s.rw secSECTION 2 i.val 0) 8 3)
def State.prodSum (s : State) (i : SectId) : Bool := bit (s.rw secSECTION 2 i.val 0) 7

/-- ENG: a section is in AUTO or EXT. -/
def State.sctEng (s : State) : Bool := s.sct.sects.toList.any fun x => x.mode == .auto || x.mode == .ext

/-! ### Position and speed (R198 to R200) -/

/-- The latest solution is fresh and good enough (R199). -/
def State.solutionOk (s : State) (x : Solution) : Bool :=
  let age := bits (s.sctWord 1) 8 8 * 1200000
  if s.posSrc = 0 then
    (if bit s.sctCfg 19 then x.fix == 2 else x.fix == 1 || x.fix == 2)
      && decide (x.hacc ≤ bits (s.sctWord 1) 0 8 * 10) && decide (s.tick ≤ x.tick + age)
  else decide (s.tick ≤ x.seen + age)

/-- POSOK. -/
def State.positionOk (s : State) : Bool :=
  match s.sct.sols with
  | x :: _ => s.solutionOk x
  | [] => false

/-- The pulse speed, mm/s (R200). -/
def State.pulseSpeed (s : State) : Rat :=
  ((s.freq s.spdPort * 1000000 : Nat) : Rat) / ((256 * s.ppm : Nat) : Rat)

/-- The speed of the latest solution, mm/s. -/
def State.gnssSpeed (s : State) : Nat := match s.sct.sols with | x :: _ => x.speed | [] => 0

/-- SPDFB: the fallback is used. -/
def State.fallback (s : State) : Bool := s.spdSrc = 2 && (s.faulted s.spdPort || s.sct.disagree)

/-- Pulses give the speed and the distance. -/
def State.onPulses (s : State) : Bool := s.spdSrc != 0 && !s.fallback

/-- SPDOK (R200). -/
def State.speedOk (s : State) : Bool :=
  match s.spdSrc with
  | 0 => s.positionOk
  | 1 => !s.faulted s.spdPort
  | _ => s.positionOk || !s.faulted s.spdPort

/-- The speed in use, mm/s. -/
def State.speedNow (s : State) : Rat := if s.onPulses then s.pulseSpeed else (s.gnssSpeed : Nat)

/-- The heading in use, 0.01 degree. -/
def State.headingNow (s : State) : Option Nat :=
  if s.onPulses then s.sct.headed else match s.sct.sols with | x :: _ => x.hdg | [] => none

/-- The difference of two headings in turns, between −1/2 and 1/2. -/
def turnBetween (a b : Nat) : Rat :=
  let d := ((b : Int) - (a : Int)) % 36000
  ((if 18000 ≤ d then d - 36000 else d : Int) : Rat) / 36000

/-- The solution closest to 1 s before another. -/
def closest (tick : Nat) : List Solution → Option Solution
  | [] => none
  | x :: xs =>
    let far (y : Solution) : Nat := ((y.tick : Int) + 120000000 - (tick : Int)).natAbs
    match closest tick xs with
    | some y => if far y < far x then some y else some x
    | none => some x

/-- The turn rate in turns per second (R198). -/
def State.turnRate (s : State) : Rat :=
  match s.sct.sols with
  | x :: xs =>
    match closest x.tick xs with
    | some y => match x.hdg, y.hdg with
      | some a, some b =>
        let w := turnBetween b a / (((x.tick - y.tick : Nat) : Rat) / 120000000)
        if bit s.sctCfg 17 && decide (ratAbs w < 1 / 12) then w else 0
      | _, _ => 0
    | none => 0
  | [] => 0

/-- A place on a path: mm, and the heading in turns. -/
structure Pose where
  x : Rat
  y : Rat
  turn : Rat
deriving DecidableEq, Repr, Inhabited

def cosTurns (a : Rat) : Rat := Config.sinTurns (a + 1 / 4)

/-- The place after `t` seconds at `v` mm/s and `w` turns per second (R198). -/
def Pose.advance (p : Pose) (v w t : Rat) : Pose :=
  let q := p.turn + w * t
  if w = 0 then { x := p.x + v * t * Config.sinTurns p.turn, y := p.y + v * t * cosTurns p.turn, turn := q }
  else
    let r := v / (2 * Config.pi * w)
    { x := p.x + r * (cosTurns p.turn - cosTurns q), y := p.y + r * (Config.sinTurns q - Config.sinTurns p.turn), turn := q }

/-- The estimate at this instant (R198). -/
def State.estimate (s : State) : Option Pose :=
  match s.sct.sols with
  | [] => none
  | x :: _ =>
    let dt : Rat := ((s.tick - x.tick : Nat) : Rat) / 120000000
    let p : Pose := { x := x.x, y := x.y, turn := ((s.headingNow.getD 0 : Nat) : Rat) / 36000 }
    let dist : Rat := if s.onPulses then ((s.sct.edges.length * 1000000 : Nat) : Rat) / (s.ppm : Nat) else x.speed * dt
    some (p.advance (if dt = 0 then 0 else dist / dt) s.turnRate dt)

/-! ### Points, ground and map (R201 to R205) -/

/-- Point k of a section (R201). -/
def State.point (s : State) (i : SectId) (p : Pose) (k : Nat) : Rat × Rat :=
  let hx := Config.sinTurns p.turn
  let hy := cosTurns p.turn
  let lat : Rat := (s.yoff i : Rat) - (s.width i : Nat) / 2 + ((k : Nat) + 1 / 2) * ((s.width i : Nat) / 16)
  (p.x + s.xoff i * hx + lat * hy, p.y + s.xoff i * hy - lat * hx)

/-- The sixteen points of a section. -/
def State.points (s : State) (i : SectId) (p : Pose) : List (Rat × Rat) := (List.range 16).map (s.point i p)

/-- A vertex of the boundary table, mm. -/
def State.vertex (s : State) (k : Nat) : Int × Int :=
  (sbits (cellGet 0 s.sct.verts (2 * k)) 0 32, sbits (cellGet 0 s.sct.verts (2 * k + 1)) 0 32)

/-- KIND, FIRST and the number of vertices of a polygon. -/
def State.polyKind (s : State) (p : Fin 64) : Nat := bits s.sct.polys[p] 30 2
def State.polyFirst (s : State) (p : Fin 64) : Nat := bits s.sct.polys[p] 16 12
def State.polyCount (s : State) (p : Fin 64) : Nat := bits s.sct.polys[p] 0 12 + 1

/-- The edges of a polygon, closed from its last vertex to its first. -/
def State.polyEdges (s : State) (p : Fin 64) : List ((Int × Int) × (Int × Int)) :=
  let n := s.polyCount p
  (List.range n).map fun j => (s.vertex (s.polyFirst p + j), s.vertex (s.polyFirst p + (j + 1) % n))

/-- A point lies on an edge. -/
def onEdge (x y : Rat) (e : (Int × Int) × (Int × Int)) : Bool :=
  let (a, b) := e
  let cross := ((b.1 - a.1 : Int) : Rat) * (y - a.2) - ((b.2 - a.2 : Int) : Rat) * (x - a.1)
  decide (cross = 0) && decide ((min a.1 b.1 : Int) ≤ x) && decide (x ≤ (max a.1 b.1 : Int))
    && decide ((min a.2 b.2 : Int) ≤ y) && decide (y ≤ (max a.2 b.2 : Int))

/-- A ray from the point eastward crosses the edge. -/
def crosses (x y : Rat) (e : (Int × Int) × (Int × Int)) : Bool :=
  let (a, b) := e
  (decide (y < a.2) != decide (y < b.2))
    && decide (x < ((b.1 - a.1 : Int) : Rat) * (y - a.2) / ((b.2 - a.2 : Int) : Rat) + a.1)

/-- Inside by the even-odd rule; a point on an edge counts as inside (R202). -/
def State.insidePoly (s : State) (p : Fin 64) (q : Rat × Rat) : Bool :=
  let es := s.polyEdges p
  es.any (onEdge q.1 q.2) || (es.filter (crosses q.1 q.2)).length % 2 == 1

/-- The polygons of a kind. -/
def State.polysOf (s : State) (kind : Nat) : List (Fin 64) := (idx 64).filter fun p => s.polyKind p == kind

/-- Columns and rows of the map (R204); the reserved shape has none. -/
def State.mapShape (s : State) : Nat × Nat :=
  match bits s.sctCfg 14 2 with
  | 0 => (1024, 4096)
  | 1 => (2048, 2048)
  | 2 => (4096, 1024)
  | _ => (0, 0)

/-- CELL in mm, and the base of the map. -/
def State.cellMm (s : State) : Nat := bits (s.sctWord 3) 16 5 * 100
def State.mapBase (s : State) : Nat := 0x40000000 + bits (s.sctWord 3) 28 4 * 0x100000

/-- The cell number of a point; none outside the map. -/
def State.cellAt (s : State) (q : Rat × Rat) : Option Nat :=
  let i := (q.1 / (s.cellMm : Nat)).floor
  let j := (q.2 / (s.cellMm : Nat)).floor
  let shape := s.mapShape
  if s.cellMm ≠ 0 ∧ 0 ≤ i ∧ i < shape.1 ∧ 0 ≤ j ∧ j < shape.2 then some (j.toNat * shape.1 + i.toNat) else none

/-- The value of a cell. -/
def State.cellVal (s : State) (n : Nat) : Nat := (s.mem.read (s.mapBase + n / 4)).toNat / 4 ^ (n % 4) % 4

/-- A free cell becomes covered; no other value changes (R205). -/
def State.markCell (s : State) (n : Nat) : State :=
  if s.cellVal n = 0 then
    let a := s.mapBase + n / 4
    { s with mem := s.mem.write a (BitVec.ofNat 8 ((s.mem.read a).toNat + 4 ^ (n % 4))) }
  else s

/-- A point is allowed (R202). -/
def State.allowed (s : State) (q : Rat × Rat) : Bool :=
  let fields := s.polysOf 1
  let heads := s.polysOf 3
  (fields.isEmpty || fields.any fun p => s.insidePoly p q) && !((s.polysOf 2).any fun p => s.insidePoly p q)
    && (bit s.sct.ovl 16 || heads.isEmpty || heads.any fun p => s.insidePoly p q)
    && match s.cellAt q with
      | some n => decide (s.cellVal n < 2)
      | none => false

/-- A point lies in a covered cell. -/
def State.covered (s : State) (q : Rat × Rat) : Bool :=
  match s.cellAt q with
  | some n => s.cellVal n == 1
  | none => false

/-- The speed permit, from the speed at the evaluation (R206). -/
def State.permitNow (s : State) : Bool :=
  let v := s.speedNow
  if ((s.vmin : Nat) : Rat) ≤ v then true else if v < ((s.vmin * 8 : Nat) : Rat) / 10 then false else s.sct.permit

/-- The section is wanted on at a place (R206, R200). -/
def State.wantAt (s : State) (i : SectId) (permit : Bool) (p : Pose) : Bool :=
  let qs := s.points i p
  permit && s.headingNow.isSome && decide ((qs.filter fun q => !s.allowed q).length ≤ bits s.sct.ovl 0 5)
    && decide ((qs.filter fun q => s.allowed q && s.covered q).length ≤ bits s.sct.ovl 8 5)

/-! ### Delays (R207, R221) -/

/-- A band's table as R207 reads it: LEARNED, mean and spread in µs. -/
def State.bandTable (s : State) (i : SectId) (on : Bool) (b : Fin 10) : DelayCopy :=
  if s.sctHere i then
    let x := s.sol.ports[s.sctPort i]
    let t := if on then x.tabOpen[b] else x.tabClose[b]
    { learned := t.learned, mean := t.mean, spread := t.spread, count := t.count }
  else if on then s.sct.sects[i].copyOn[b] else s.sct.sects[i].copyOff[b]

/-- The present band of the section port. -/
def State.sectBand (s : State) (i : SectId) : Nat :=
  if s.sctHere i then (bandOf s.sol.ports[s.sctPort i].tcu).val else s.sct.sects[i].band

/-- The table used and its source: 0 = learned, 1 = borrowed, 2 = default (R207). -/
def State.usedTable (s : State) (i : SectId) (on : Bool) : Nat × DelayCopy :=
  let b : Int := (s.sectBand i : Nat)
  let near : List Int := [b - 1, b + 1, b - 2, b + 2]
  let get (j : Int) : Option DelayCopy :=
    if 0 ≤ j ∧ j < 10 then
      let t := s.bandTable i on (Fin.ofNat 10 j.toNat)
      if t.learned then some t else none
    else none
  match get b with
  | some t => (0, t)
  | none => match near.findSome? get with
    | some t => (1, t)
    | none => (2, {})

/-- A delay in µs rounded to the nearest 100 µs, ties up. -/
def round100 (us : Rat) : Nat := ((us + 50) / 100).floor.toNat

/-- The delay used, in 100 µs, with the flow delay (R207). -/
def State.delayUsed (s : State) (i : SectId) (on : Bool) : Nat :=
  let u := s.usedTable i on
  let base : Rat := if u.1 = 2 then ((s.defDelay i on * 10 : Nat) : Rat) else u.2.mean
  round100 (base + (((if on then s.hydOn i else s.hydOff i) * 1000 : Nat) : Rat))

/-- ERR of one direction, mm (R221). -/
def State.edgeErr (s : State) (i : SectId) (on : Bool) : Nat :=
  let u := s.usedTable i on
  if u.1 = 2 then 0xFFFF
  else satNat 0xFFFE (shown 221 (s.speedNow * (2 * u.2.spread + 100) / 1000000)).toNat

/-! ### Instants -/

/-- The 100 µs grid index of this instant. -/
def State.gridNow (s : State) : Nat := (s.now * 10000 + 2 ^ 31) / 2 ^ 32

/-- The instant of a grid index, 2^-32 s. -/
def gridInstant (n : Nat) : Nat := (n * 2 ^ 32 + 9999) / 10000

/-! ### Commands of sections (R196, R210 to R212) -/

/-- TIMED_CMD of a section to its worker (R240). -/
def State.sendTimed (s : State) (i : SectId) (on : Bool) (at_ : Nat) (slot : Nat) : State × Bool :=
  s.send 0x81 (s.sctDev i) (le 1 (s.sctDev i) ++ le 1 (s.sctPort i).val ++ le 1 (if on then 1 else 2) ++ le 1 1 ++ le 2 i.val
    ++ le 2 0 ++ stampOf at_ ++ le 1 slot ++ zeros 3)

/-- Checks 1 and 3 of R18 for a timed command as it is queued (R19). -/
def State.queueCheck (s : State) (src : Src) (p : PortId) (on : Bool) (dur : Nat) : Status :=
  match s.cmdGate p with
  | .ok => if !s.admits p src then .recipeLocked else if on && !s.passes3On p dur then .limit else .ok
  | st => st

/-- A section's command put into an entry of this device's Q10. -/
def State.placeHere (s : State) (i : SectId) (on : Bool) (at_ : Nat) (e : EntryId) : State :=
  match s.queueCheck (.ofSection i) (s.sctPort i) on 0 with
  | .ok => s.putEntry e { port := s.sctPort i, on := on, dur := 0, src := .ofSection i, at_ := at_ }
  | st => (s.sectRefused i on st).answer (.ofSection i) st

/-- The entry of this device that a section holds. -/
def State.sectEntry (s : State) (i : SectId) : Option EntryId := (s.held (.ofSection i)).head?

/-- The command waiting in a section's entry is withdrawn. -/
def State.emptyEntry (s : State) (i : SectId) : State :=
  match s.sectEntry i with
  | some e => s.setEntry e fun x => { x with cmd := none }
  | none => s

/-- A non-frozen plan is withdrawn (R211). -/
def State.withdraw (s : State) (i : SectId) : State :=
  match s.sct.sects[i].plan with
  | some p => if p.frozen then s else (s.emptyEntry i).setSect i fun x => { x with plan := none }
  | none => s

/-- The lead of R210 in 100 µs: 1 ms here, HLEAD on a worker. -/
def State.lead100 (s : State) (i : SectId) : Nat := if s.sctHere i then 10 else s.hlead * 10

/-- A plan takes effect in the section's entry; it is frozen, and sent to a worker, when its instant is near (R211). -/
def State.adopt (s : State) (i : SectId) (t : Nat) (p : Plan) : State :=
  let near := decide (p.at_ < gridInstant (t + s.lead100 i + (if s.sctHere i then 10 else 20)))
  let p := { p with frozen := near }
  let s := s.setSect i fun x =>
    { x with plan := some p, late := p.late, usedOn := if p.on then p.delay else x.usedOn,
             usedOff := if p.on then x.usedOff else p.delay }
  if s.sctHere i then
    match s.sectEntry i with
    | some e => s.placeHere i p.on p.at_ e
    | none => s
  else if near then (s.sendTimed i p.on p.at_ (s.sct.sects[i].slot.getD 0xFF)).1 else s

/-- A command placed at once: an ENGAGE's, a loss action, or an EXT setpoint (R210, R217, R223). -/
def State.placeSoon (s : State) (i : SectId) (on : Bool) (t : Nat) : State :=
  let at_ := gridInstant (t + s.lead100 i)
  (s.withdraw i).adopt i t { on := on, at_ := at_, serves := at_, delay := s.delayUsed i on }

/-- An entry that a section holds is free again; a frozen command in it stays (R212, R215). -/
def State.releaseEntry (s : State) (i : SectId) : State :=
  let s := match s.sectEntry i with
    | some e => s.setEntry e fun x => { x with holder := .free }
    | none => s
  let s := match s.sctHere i, s.sct.sects[i].slot with
    | false, some n =>
      let r := s.send 0x83 (s.sctDev i) (le 1 (s.sctDev i) ++ le 1 n ++ le 1 0 ++ zeros 1)
      if r.2 then r.1.onHie fun h => { h with resPend := h.resPend ++ [(s.sctDev i, none)] } else r.1
    | _, _ => s
  s.setSect i fun x => { x with slot := none }

/-- Sections leave AUTO or EXT: non-frozen plans are withdrawn and their entries released. -/
def State.leaveAuto (s : State) (i : SectId) (m : SectMode) : State :=
  let x := s.sct.sects[i]
  let s := if x.mode = .auto ∨ x.mode = .ext then (s.withdraw i).releaseEntry i else s
  s.setSect i fun x => { x with mode := m, setpt := none, paused := false }

/-- A manual or loss command without a reservation: the next grid instant at or after t + 1 ms (R215); false where no
entry of Q10 or Q14 is free. -/
def State.placeManual (s : State) (i : SectId) (on : Bool) : State × Bool :=
  let at_ := gridInstant (s.gridNow + s.lead100 i)
  let s := s.setSect i fun x =>
    { x with usedOn := if on then s.delayUsed i true else x.usedOn, usedOff := if on then x.usedOff else s.delayUsed i false }
  if s.sctHere i then
    match s.freeEntry 256 with
    | some e => (s.placeHere i on at_ e, true)
    | none => (s.noteOvf 10, false)
  else s.sendTimed i on at_ 0xFF

/-- Sections of a list enter OFF and are recorded with a cause (R215). -/
def State.sectsOff (s : State) (is : List SectId) (cause : Nat) : State :=
  if is.isEmpty then s
  else
    let s := is.foldl (fun (s : State) i => ((s.leaveAuto i .off).placeManual i false).1) s
    s.sctEmit 0x0C02 none is.length cause

end Sys2Proof.Machine
end

