-- ==== Sys2Proof/Machine/Apu.lean ====
section
/-! DEFINITION. The aperture unit (R334 to R339): what an access of a context meets, the entries of a session, and the
grants of a DMA channel. -/

namespace Sys2Proof.Machine

open Sys2Proof

/-! ### The table (R334, R335) -/


/-- Context numbers: sessions 0 to 3, channels 4 to 11, the runtime 12. -/
def ctxOfCh (n : ChId) : Nat := 4 + n.val
def ctxRuntime : Nat := 12

/-- The SRAM windows (R35). -/
def isSram (a : Nat) : Bool := decide (0x40000000 ≤ a) && decide (a < 0x41000000)

/-- An entry covers the page of an address. -/
def ApuEntry.covers (e : ApuEntry) (ctx a : Nat) : Bool :=
  e.ctx == ctx && decide (e.win ≤ a / 4096) && decide (a / 4096 < e.win + e.pages)

/-- The entry of a context that covers an address. -/
def State.apuEntry (s : State) (ctx a : Nat) : Option ApuEntry :=
  (s.apu.ents.toList.filterMap id).find? fun e => e.covers ctx a

/-- The pages whose writes R338 refuses: the coverage map while ENG = 1, the staged image during a WRITE. -/
def State.writeBlocked (s : State) (a : Nat) : Bool :=
  let base := 0x40000000 + bits (s.sctWord 3) 28 4 * 0x100000
  let p := a / 4096
  (s.sctEng && decide (base / 4096 ≤ p) && decide (p < base / 4096 + 256))
    || (s.rcp.op == .write && decide (0 < s.rcp.wlen) && decide (s.rcp.waddr.toNat / 4096 ≤ p)
        && decide (p ≤ (s.rcp.waddr.toNat + s.rcp.wlen - 1) / 4096))

/-- The target address of an access to SRAM, or why it fails (R335). -/
def State.translate (s : State) (ctx a : Nat) (write : Bool) : Except DmaCause Nat :=
  match s.apuEntry ctx a with
  | none => .error .translation
  | some e =>
    if (if write then e.w && !s.writeBlocked a else e.r) then .ok (e.tgt * 4096 + (a - e.win * 4096)) else .error .rights

/-! ### Entries of sessions (R336) -/

/-- First and last address of the register blocks but REC (R35). -/
def blocks : List (Nat × Nat) :=
  [(0x0, 0xFFF), (0x1000, 0x1FFF), (0x2000, 0x2FFF), (0x10000, 0x1FFFF), (0x20000, 0x2FFFF), (0x30000, 0x33FFF),
   (0x34000, 0x37FFF), (0x38000, 0x3BFFF), (0x100000, 0x11FFFF), (0x140000, 0x14FFFF), (0x150000, 0x15FFFF),
   (0x180000, 0x1BFFFF), (0x200000, 0x20FFFF), (0x210000, 0x21FFFF), (0x240000, 0x247FFF), (0x248000, 0x24FFFF),
   (0x280000, 0x28FFFF), (0x300000, 0x33FFFF), (0x340000, 0x37FFFF), (0x3C0000, 0x3DFFFF), (0x3E0000, 0x3EFFFF)]

/-- An identity entry over a range of addresses. -/
def idEntry (ctx : Nat) (r w : Bool) (x : Nat × Nat) : ApuEntry :=
  { ctx := ctx, r := r, w := w, sys := true, pages := (x.2 + 1 - x.1) / 4096, win := x.1 / 4096, tgt := x.1 / 4096 }

/-- The entries of a session under its rights; `dbg` says that debug is unlocked in a scope that observes (R336). -/
def sessionEntries (k : SessId) (rights : BitVec 12) (dbg : Bool) : List ApuEntry :=
  let has (b : Nat) : Bool := rights.getLsbD b
  let other := [rightCOMMAND, rightPARAM, rightCANTX, rightDMA, rightSERVICE, rightRECIPE, rightTAKE, rightDEBUG, rightKEYS].any has
  let all := blocks.map (idEntry k.val (has rightREAD) other)
    ++ [idEntry k.val (has rightRECORD) (has rightRECORD) (0x380000, 0x3BFFFF),
        idEntry k.val (has rightREAD) (has rightPARAM) (0x40000000, 0x40F7FFFF),
        idEntry k.val (has rightDEBUG && dbg) false (0x40F80000, 0x40FFFFFF)]
  all.filter fun e => e.r || e.w

/-- An entry put into the lowest free place of the table. -/
def State.addEntry (s : State) (e : ApuEntry) : State × Option EntId :=
  match (idx 256).find? fun i => s.apu.ents[i].isNone with
  | some i => (s.onApu fun x => { x with ents := upd x.ents i fun _ => some e }, some i)
  | none => (s, none)

/-- The entries of a context removed. -/
def State.dropEntries (s : State) (ctx : Nat) : State :=
  s.onApu fun x => { x with ents := updAll x.ents fun _ e => match e with
    | some y => if y.ctx = ctx then none else e
    | none => none }

/-- The entries the runtime holds (R336): 32, whose contents the manual leaves open. -/
def runtimeEntries : List ApuEntry :=
  (List.range 32).map fun j =>
    { ctx := ctxRuntime, r := Config.runtimeEntry j 3 % 2 == 1, w := Config.runtimeEntry j 4 % 2 == 1, sys := true,
      pages := 1 + Config.runtimeEntry j 2 % 4096, win := Config.runtimeEntry j 0 % 2 ^ 20, tgt := Config.runtimeEntry j 1 % 2 ^ 20 }

/-! ### Requests (R339) -/

def State.setReq (s : State) (k : SessId) (f : ReqSet → ReqSet) : State := s.onApu fun x => { x with reqs := upd x.reqs k f }

/-- A page range lies within the SRAM windows. -/
def inSram (page n : Nat) : Bool := decide (0x40000 ≤ page) && decide (page + n ≤ 0x41000)

/-- Every page of a range lies within entries of a session that hold the rights asked for. -/
def State.sessionHolds (s : State) (k : SessId) (page : Nat) (r w : Bool) : Nat → Bool
  | 0 => true
  | n + 1 => (match s.apuEntry k.val ((page + n) * 4096) with
      | some e => (!r || e.r) && (!w || e.w)
      | none => false) && s.sessionHolds k page r w n

/-- The channel of a request. -/
def ReqSet.chan (q : ReqSet) : Nat := bits q.ctl 28 4

/-- The entry that a request asks for. -/
def ReqSet.entry (q : ReqSet) : ApuEntry :=
  { ctx := 4 + q.chan, r := bit q.ctl 23, w := bit q.ctl 22, sys := false, pages := bits q.ctl 0 13, win := bits q.win 12 20, tgt := bits q.tgt 12 20 }

/-- Two entries of one context share a page of the window. -/
def ApuEntry.meets (a b : ApuEntry) : Bool := a.ctx == b.ctx && decide (a.win < b.win + b.pages) && decide (b.win < a.win + a.pages)

/-- The session owns a channel. -/
def State.ownsCh (s : State) (k : SessId) (n : Nat) : Bool :=
  decide (n < 6) && s.dma.ch[(Fin.ofNat 8 n : Fin 8)].owner == some k

/-- GRANT (R339). -/
def State.cmdGrant (s : State) (k : SessId) : State × Status :=
  let q := s.apu.reqs[k]
  let e := q.entry
  let overlaps := (s.apu.ents.toList.filterMap id).any fun x => x.meets e
  match firstFail [(s.ownsCh k q.chan, .denied),
      (decide (1 ≤ e.pages) && decide (e.pages ≤ 4096) && inSram e.win e.pages && inSram e.tgt e.pages, .limit),
      (s.sessionHolds k e.tgt e.r e.w e.pages, .denied), (!overlaps, .limit)] with
  | .ok => match s.addEntry e with
    | (s, some i) => (s.setReq k fun q => { q with res := i.val }, .ok)
    | (s, none) => (s, .queueFull)
  | st => (s, st)

/-- FREE (R339). -/
def State.cmdFree (s : State) (i : EntId) (k : SessId) : State × Status :=
  match s.apu.ents[i] with
  | some e =>
    if 4 ≤ e.ctx ∧ s.ownsCh k (e.ctx - 4) then (s.onApu fun x => { x with ents := upd x.ents i fun _ => none }, .ok) else (s, .denied)
  | none => (s, .denied)

/-- FREEALL (R339). -/
def State.cmdFreeall (s : State) (k : SessId) : State × Status :=
  let n := s.apu.reqs[k].chan
  if s.ownsCh k n then (s.dropEntries (4 + n), .ok) else (s, .denied)

/-- GRANT. -/
def execGrant (k : SessId) (s : State) : Out := .next (s.gated k (s.gate k rightDMA) fun s => s.cmdGrant k)

/-- FREE. -/
def execFree (i : EntId) (k : SessId) (s : State) : Out := .next (s.gated k (s.gate k rightDMA) fun s => s.cmdFree i k)

/-- FREEALL. -/
def execFreeall (k : SessId) (s : State) : Out := .next (s.gated k (s.gate k rightDMA) fun s => s.cmdFreeall k)

end Sys2Proof.Machine
end

