-- ==== Sys2Proof/Machine/Can.lean ====
section
/-! DEFINITION. The meanings of the commands of the CAN controllers (R253 to R274), but for received frames, which may
carry a host's command. -/

namespace Sys2Proof.Machine

open Sys2Proof

/-- CAN_INTEGRATED: after 11 recessive bits an enabled controller becomes error-active (R253). -/
def execCanIntegrated (c : CanId) (s : State) : Out :=
  .next (if s.can[c].st = .integrating then
      s.setCan c fun x => { x with st := canStateOf x.tec x.rec_ }
    else s)

/-! ### Enqueue and abort (R258, R261) -/

/-- ENQUEUE under the checks of R258. -/
def State.cmdEnqueue (s : State) (c : CanId) (k : SessId) : State × Status :=
  match s.enqChecks c k with
  | .ok => if s.hostFill c < 28 then (s.enqNow c k, .ok) else (s, .queueFull)
  | st => (s, st)

/-- ABORT of a handle (R261). -/
def State.cmdAbort (s : State) (c : CanId) (h : Nat) (k : SessId) : State × Status :=
  match s.can[c].queue.find? fun e => e.handle == h && e.owner == some k with
  | some e => (s.abortEntry c e, .ok)
  | none => (s, .badAddr)

/-- ABORT_ENQ: the entries it frees at once count as freed (R258, R261). -/
def State.cmdAbortEnq (s : State) (c : CanId) (k : SessId) : State × Status :=
  match s.enqChecks c k with
  | .ok =>
    let mine := (s.can[c].queue.filter fun e => e.owner == some k).length
    if s.hostFill c - mine < 28 then ((s.abortAll c k).enqNow c k, .ok) else (s, .queueFull)
  | st => (s, st)

/-- ENQUEUE (R258). -/
def execEnqueue (c : CanId) (k : SessId) (s : State) : Out :=
  .next (s.gated k (s.gate k rightCANTX) fun s => s.cmdEnqueue c k)

/-- ABORT (R261). -/
def execAbort (c : CanId) (h : Nat) (k : SessId) (s : State) : Out :=
  .next (s.gated k (s.gate k rightCANTX) fun s => s.cmdAbort c h k)

/-- ABORT_ALL (R261). -/
def execAbortAll (c : CanId) (k : SessId) (s : State) : Out :=
  .next (s.gated k (s.gate k rightCANTX) fun s => (s.abortAll c k, .ok))

/-- ABORT_ENQ (R261). -/
def execAbortEnq (c : CanId) (k : SessId) (s : State) : Out :=
  .next (s.gated k (s.gate k rightCANTX) fun s => s.cmdAbortEnq c k)

/-! ### Attempts (R259, R260, R271) -/

/-- The controller may start an attempt. -/
def State.maySend (s : State) (c : CanId) : Bool :=
  (s.can[c].st == .active || s.can[c].st == .passive) && !s.can[c].op && !s.can[c].inTx

/-- TX_ATTEMPT: the head is checked for its age, then its start-of-frame is sent now (R259, R271). -/
def execTxAttempt (c : CanId) (s : State) : Out :=
  .next (if s.maySend c then
      let s := s.clearHead c s.can[c].queue
      match s.can[c].queue with
      | [] => s
      | e :: q =>
        let f := if s.canIso c && e.owner.isSome then { e.frame with id := e.frame.id / 256 * 256 + (s.can[c].addr.getD 0) } else e.frame
        s.setCan c fun x => { x with inTx := true, queue := { e with frame := f, tries := e.tries + 1, sof := some s.now } :: q }
    else s)

/-- TX_ATTEMPT_END: completion, lost arbitration or error; `tdcv` is the delay a transmitted FD frame with BRS measured
(R256, R260). -/
def execTxAttemptEnd (c : CanId) (r : TxEnd) (tdcv : Option Nat) (s : State) : Out :=
  .next (match s.can[c].inTx, s.can[c].queue with
    | true, e :: q =>
      let s := s.setCan c fun x => { x with inTx := false, tdcv := if tdcv.isSome then tdcv else x.tdcv }
      let s := match r with
        | .sent => (((s.setQueue c q).setCan c fun x => { x with tec := x.tec - 1 }).txDone c e .sent).judgeState c
        | _ =>
          if e.abort then (s.setQueue c q).txDone c e .aborted
          else if e.rlim ≠ 31 ∧ e.rlim < e.tries then (s.setQueue c q).txDone c e .retry
          else s
      s.frameEnd c
    | _, _ => s)

/-! ### Errors and recovery (R263, R267 to R269) -/

/-- An error counted in CANn_ECNT or CANn_ECNT2. -/
def Can.tally (x : Can) (e : CanErr) : Can :=
  match e with
  | .bit => { x with eBit := satNat 255 (x.eBit + 1), lastErr := some e }
  | .stuff => { x with eStuff := satNat 255 (x.eStuff + 1), lastErr := some e }
  | .form => { x with eForm := satNat 255 (x.eForm + 1), lastErr := some e }
  | .ack => { x with eAck := satNat 255 (x.eAck + 1), lastErr := some e }
  | .crc => { x with eCrc := satNat 255 (x.eCrc + 1), lastErr := some e }
  | .pxe => { x with ePxe := satNat 255 (x.ePxe + 1) }

/-- CAN_ERROR: a detected error, with what ISO 11898-1 adds to the counters (R254, R263, R267). -/
def execCanError (c : CanId) (e : CanErr) (r : CanRise) (s : State) : Out :=
  .next (if s.can[c].st = .active ∨ s.can[c].st = .passive then
      let s := s.setCan c fun x => x.tally e
      if e = .pxe then s.setCan c fun x => { x with st := .integrating }
      else
        let s := s.count (0x18 + c.val) 1
        if s.can[c].op then (s.frameEnd c).setCan c fun x => { x with st := .integrating }
        else
          let s := s.setCan c fun x => match r with
            | .none => x
            | .tec8 => { x with tec := x.tec + 8 }
            | .rec1 => { x with rec_ := x.rec_ + 1 }
            | .rec8 => { x with rec_ := x.rec_ + 8 }
          let s := s.judgeState c
          if s.can[c].inTx then s else s.frameEnd c
    else s)

/-- CAN_BUS_OFF_RECOVERED: the recovery count has ended (R269). -/
def execCanBusOffRecovered (c : CanId) (s : State) : Out :=
  .next (if s.can[c].st = .busOff ∧ s.can[c].recPend then
      let dur := (s.tick - s.can[c].offAt) / ticksPerMs
      let by_ := if s.can[c].byHost then 2 else 1
      let s := s.setCan c fun x => { x with st := .active, tec := 0, rec_ := 0, recPend := false }
      (s.emit (s.canEv c 0x0B05 .busOff dur by_)).judgeWarn c
    else s)

/-- CANn_CTRL.RECOVER (R269). -/
def State.cmdRecover (s : State) (c : CanId) : State × Status :=
  if s.can[c].st ≠ .busOff then (s, .notReady)
  else if s.can[c].recPend then (s, .ok)
  else (s.setCan c fun x => { x with recPend := true, byHost := true }, .ok)

/-- CANn_CTRL.CLRCNT (R418). -/
def State.cmdClrcnt (s : State) (c : CanId) : State :=
  s.setCan c fun x => { x with eBit := 0, eStuff := 0, eForm := 0, eAck := 0, eCrc := 0, ePxe := 0, eOff := 0, eNo := 0 }

/-- CANn_CTRL.OPMODE; `busy` says that a frame is in progress on the bus (R263). -/
def State.cmdOpmode (s : State) (c : CanId) (m : Nat) (busy : Bool) : State × Status :=
  if 1 < m then (s, .limit)
  else if m = 1 ∧ c = 3 ∧ s.inHier then (s, .recipeLocked)
  else
    let s := s.setCan c fun x => { x with opReq := decide (m = 1) }
    (if busy || s.can[c].inTx then s else s.frameEnd c, .ok)

/-- RECOVER (R269). -/
def execRecover (c : CanId) (k : SessId) (s : State) : Out :=
  .next (s.gated k (s.gate k rightCOMMAND) fun s => s.cmdRecover c)

/-- CLRCNT (R418). -/
def execClrcnt (c : CanId) (k : SessId) (s : State) : Out :=
  .next (s.gated k (s.gate k rightCOMMAND) fun s => (s.cmdClrcnt c, .ok))

/-- OPMODE_WRITE (R263). -/
def execOpmodeWrite (c : CanId) (m : Nat) (busy : Bool) (k : SessId) (s : State) : Out :=
  .next (s.gated k (s.gate k rightCOMMAND) fun s => s.cmdOpmode c m busy)

/-- CAN_EWL_WRITE: the thresholds of CAN3; the register exists there only (R268). -/
def State.writeEwl (s : State) (c : CanId) (v : Word) : State × Status :=
  let t := bits v 0 8
  let r := bits v 8 8
  if t = 0 ∨ r = 0 then (s, .limit) else ((s.setCan c fun x => { x with ewlt := t, ewlr := r }).judgeWarn c, .ok)

/-- CAN_EWL_WRITE (R268). -/
def execCanEwlWrite (c : CanId) (v : Word) (k : SessId) (s : State) : Out :=
  .next (if c = 3 then s.gated k (s.gateRws k rightSERVICE) fun s => s.writeEwl c v else s.answer (s.me k) .badAddr)

/-! ### ISO 11783 (R271 to R273) -/

/-- The runtime's own ISO 11783 frame, extended and classic. -/
def State.isoSend (s : State) (c : CanId) (prio pf ps sa : Nat) (data : List Byte) : State :=
  (s.rtSend c { xtd := true, id := prio * 2 ^ 26 + pf * 2 ^ 16 + ps * 2 ^ 8 + sa, dlc := data.length, data := data }
    (Config.canLimit c.val false) (Config.canLimit c.val true)).1

/-- The NAME of a controller. -/
def State.canName (s : State) (c : CanId) : Nat := (s.canWord c 5).toNat + (s.canWord c 6).toNat * 2 ^ 32

/-- Address Claimed, or Cannot Claim from 254. -/
def State.sendClaim (s : State) (c : CanId) (a : Nat) : State := s.isoSend c 6 0xEE 0xFF a (le 8 (s.canName c))

/-- The next free address from AMIN to AMAX. -/
def State.freeAddr (s : State) (c : CanId) : Option Nat :=
  let w := s.canWord c 4
  ((List.range 254).filter fun a => decide (bits w 16 8 ≤ a) && decide (a ≤ bits w 8 8)).find? fun a => !s.can[c].others.contains a

/-- The address claimed or being claimed. -/
def Can.ownAddr (x : Can) : Option Nat := match x.addr with | some a => some a | none => x.claim

/-- The address that a claimer that may choose takes next (R272). -/
def State.nextAddr (s : State) (c : CanId) : Option Nat := if (s.canName c).testBit 63 then s.freeAddr c else none

/-- The claim of the next address, or the frame that none is held. -/
def State.claimNext (s : State) (c : CanId) (a name : Nat) : Option Nat → State
  | some b => (s.setCan c fun x => { x with claim := some b }).sendClaim c b
  | none => ((s.setCan c fun x => { x with cannot := true }).sendClaim c 254).canEmit c 0x0B0A a (name % 2 ^ 32)

/-- A NAME of higher priority has taken the address (R272). -/
def State.loseAddr (s : State) (c : CanId) (a name : Nat) : State :=
  let t := s.setCan c fun x => { x with addr := none, claim := none, others := a :: x.others }
  t.claimNext c a name (t.nextAddr c)

/-- The controller takes part in the bus. -/
def State.canLive (s : State) (c : CanId) : Bool := s.can[c].st == .active || s.can[c].st == .passive

/-- ISO_ADDR_CLAIM: the address claim of R272, and the connection of a Task Controller (R222). -/
def execIsoAddrClaim (c : CanId) (ev : ClaimEv) (s : State) : Out :=
  .next (if !s.canIso c || !s.canLive c then s else match ev with
    | .claim =>
      if s.can[c].ownAddr.isSome || s.can[c].cannot then s
      else
        let a := bits (s.canWord c 4) 24 8
        (s.setCan c fun x => { x with claim := some a }).sendClaim c a
    | .claimed => match s.can[c].claim with
      | some a => (s.setCan c fun x => { x with addr := some a, claim := none }).canEmit c 0x0B09 a 0
      | none => s
    | .request => match s.can[c].ownAddr with
      | some a => s.sendClaim c a
      | none => if s.can[c].cannot then s.sendClaim c 254 else s
    | .contend a name =>
      if s.can[c].ownAddr = some a then
        if name < s.canName c then s.loseAddr c a name else s.sendClaim c a
      else s.setCan c fun x => { x with others := a :: x.others.filter fun b => b != a }
    | .taskController on =>
      if bit s.sctCfg 15 && s.can[c].addr.isSome && !s.isWorker then
        s.onSct fun x => { x with tcActive := on, tcOk := on, tcAt := s.tick }
      else s)

/-! ### Transport protocols (R273) -/


def State.setTp (s : State) (c : CanId) (i : CtxId) (f : TpCtx → TpCtx) : State := s.setCan c fun x => { x with tp := upd x.tp i f }

/-- The packets of a message. -/
def TpCtx.packets (t : TpCtx) : Nat := (t.len + 6) / 7

/-- The connection-management PF of a kind. -/
def TpKind.pf : TpKind → Nat
  | .etp => 0xC8 | _ => 0xEC

/-- The next CTS of a connection: the lesser of the packets remaining, the sender's maximum, and 16 or 255. -/
def State.sendCts (s : State) (c : CanId) (i : CtxId) : State :=
  let t := s.can[c].tp[i]
  let n := min (t.packets + 1 - t.next) (min t.most (if t.kind = .etp then 255 else 16))
  let body := if t.kind = .etp then le 1 21 ++ le 1 n ++ le 3 t.next ++ le 3 t.pgn else le 1 17 ++ le 1 n ++ le 1 t.next ++ le 2 0xFFFF ++ le 3 t.pgn
  (s.setTp c i fun t => { t with upto := t.next + n - 1 }).isoSend c 7 t.kind.pf t.src (s.can[c].addr.getD 254) body

/-- Connection Abort sent to a peer, and recorded. -/
def State.sendAbort (s : State) (c : CanId) (kind : TpKind) (pgn peer reason : Nat) : State :=
  (s.isoSend c 7 kind.pf peer (s.can[c].addr.getD 254) (le 1 255 ++ le 1 reason ++ le 3 0xFFFFFF ++ le 3 pgn)).canEmit
    c 0x0B0B pgn (reason + 0x100 + put peer 16 8)

/-- A context that may take a message of a kind: the lowest free one; ETP is taken by contexts 0 and 1 only. -/
def State.freeCtx (s : State) (c : CanId) (kind : TpKind) (len : Nat) : Option CtxId :=
  (idx 8).find? fun i => !s.can[c].tp[i].busy && !s.can[c].tp[i].done &&
    (if kind = .etp then decide (i.val < 2) && decide (len ≤ 65535) else decide (len ≤ 1785))

/-- A message begins (R273). -/
def State.tpOpen (s : State) (c : CanId) (kind : TpKind) (src dst pgn len most : Nat) : State :=
  let again := (idx 8).find? fun i => s.can[c].tp[i].busy && s.can[c].tp[i].src == src && s.can[c].tp[i].pgn == pgn && s.can[c].tp[i].kind == kind
  match (match again with | some i => some i | none => s.freeCtx c kind len) with
  | some i =>
    let s := s.setTp c i fun _ => { busy := true, kind := kind, src := src, dst := dst, pgn := pgn, len := len, most := most }
    if kind = .bam then s.setTp c i fun t => { t with upto := t.packets } else s.sendCts c i
  | none => if kind = .bam then s.setCan c fun x => { x with bamLost := x.bamLost + 1 } else s.sendAbort c kind pgn src 1

/-- PGNs of runtime functions: address claim, request, and process data with TCEN. -/
def State.rtPgn (s : State) (pgn : Nat) : Bool := pgn == 0xEE00 || pgn == 0xEA00 || (pgn == 0xCB00 && bit s.sctCfg 15)

/-- The SRAM address of a context's slot in the store. -/
def State.tpSlot (s : State) (c : CanId) (i : CtxId) : Nat :=
  0x40000000 + bits (s.canCfg c) 0 12 * 4096 + (if i.val < 2 then i.val * 69632 else 139264 + (i.val - 2) * 4096)

/-- A message is complete: it is written into the store, or goes to the runtime (R273). -/
def State.tpDone (s : State) (c : CanId) (i : CtxId) : State :=
  let t := s.can[c].tp[i]
  let s := match t.kind with
    | .bam => s
    | .rts => s.isoSend c 7 0xEC t.src (s.can[c].addr.getD 254) (le 1 19 ++ le 2 t.len ++ le 1 t.packets ++ le 1 0xFF ++ le 3 t.pgn)
    | .etp => s.isoSend c 7 0xC8 t.src (s.can[c].addr.getD 254) (le 1 23 ++ le 4 t.len ++ le 3 t.pgn)
  if s.rtPgn t.pgn then s.setTp c i fun _ => {}
  else
    let head := le 3 t.pgn ++ le 1 t.src ++ le 1 (if t.kind = .bam then 0xFF else t.dst) ++ le 1 t.kind.code ++ zeros 2 ++ le 4 t.len
      ++ le 4 (s.now / 2 ^ 32)
    let s := { s with mem := s.mem.writeN (s.tpSlot c i) (head ++ t.bytes.take t.len) }
    s.setTp c i fun t => { t with busy := false, done := true }

/-- A data packet of a connection. -/
def State.tpPacket (s : State) (c : CanId) (i : CtxId) (seq : Nat) (data : List Byte) : State :=
  let t := s.can[c].tp[i]
  let n := if t.kind = .etp then t.base + seq else seq
  if 1 ≤ n ∧ n < t.next then s
  else if n ≠ t.next ∨ t.upto < n then
    let s := s.setTp c i fun _ => {}
    if t.kind = .bam then s else s.sendAbort c t.kind t.pgn t.src 7
  else
    let s := s.setTp c i fun t => { t with bytes := t.bytes ++ fit 7 data, next := t.next + 1 }
    if t.packets ≤ n then s.tpDone c i
    else if n = t.upto then s.sendCts c i else s

/-- The busy context of a sender that a test holds of. -/
def State.ctxOf (s : State) (c : CanId) (src : Nat) (p : TpCtx → Bool) : Option CtxId :=
  (idx 8).find? fun i => s.can[c].tp[i].busy && s.can[c].tp[i].src == src && p s.can[c].tp[i]

/-- ISO_TP_PACKET: a transport protocol frame from `src` to `dst` (R273). -/
def execIsoTpPacket (c : CanId) (src dst : Nat) (f : TpFrame) (s : State) : Out :=
  let mine := s.can[c].addr == some dst
  .next (if !s.canIso c || !s.canLive c then s else match f with
    | .bam pgn len => if dst = 255 then s.tpOpen c .bam src 255 pgn len 255 else s
    | .rts pgn len most => if mine then s.tpOpen c .rts src dst pgn len most else s
    | .etpRts pgn len => if mine then s.tpOpen c .etp src dst pgn len 255 else s
    | .dpo pgn base => match s.ctxOf c src fun t => t.kind == .etp && t.pgn == pgn with
      | some i => s.setTp c i fun t => { t with base := base }
      | none => s
    | .packet etp seq data =>
      match s.ctxOf c src fun t => (t.kind == .etp) == etp && (if dst = 255 then t.kind == .bam else t.kind != .bam && mine) with
      | some i => s.tpPacket c i seq data
      | none => s
    | .abort pgn reason => match s.ctxOf c src fun t => t.pgn == pgn && t.kind != .bam with
      | some i => (s.setTp c i fun _ => {}).canEmit c 0x0B0B pgn (reason % 256 + put src 16 8)
      | none => s)

/-- ISO_TP_TIMEOUT: a connection times out; RTS/CTS connections are aborted with reason 3 (R273). -/
def execIsoTpTimeout (c : CanId) (i : CtxId) (s : State) : Out :=
  .next (
    let t := s.can[c].tp[i]
    if !t.busy then s
    else
      let s := s.setTp c i fun _ => {}
      if t.kind = .bam then s else s.sendAbort c t.kind t.pgn t.src 3)

/-- Completed contexts are released (R273). -/
def State.writeMsgrel (s : State) (c : CanId) (v : Word) : State :=
  (idx 8).foldl (fun (s : State) (i : CtxId) => if bit v i.val && s.can[c].tp[i].done then s.setTp c i fun _ => {} else s) s

/-- CAN_MSGREL (R273). -/
def execCanMsgrel (c : CanId) (v : Word) (k : SessId) (s : State) : Out :=
  .next (s.gated k (s.gate k rightPARAM) fun s => (s.writeMsgrel c v, .ok))

end Sys2Proof.Machine
end

