-- ==== Sys2Proof/Machine/Forced.lean ====
section
/-! DEFINITION. Forced values as they take effect at a port (R20, R77, R246, R481), and timed commands at their execution
instant (R19). -/

namespace Sys2Proof.Machine

open Sys2Proof

/-- The forced value at a port changes on a solenoid port. -/
def State.forceSol (s : State) (p : PortId) : Option Forced → State
  | some .off => s.solForceOff p
  | some _ => s.solForceOn p
  | none => s.solForceRelease p

/-- The forced value at a group head changes. -/
def State.forceHead (s : State) (p : PortId) : Option Forced → State
  | some .off => s.headForceOff p
  | some _ => (s.setSol p fun x => { x with headOn := true }).settle p
  | none => s.headRelease p

/-- The forced value in force at a port is taken up (R20, R481). -/
def State.applyForced (s : State) (p : PortId) : State :=
  let new := s.forcedAt p
  if s.ports[p].forced = new then s
  else
    let s := s.setPorts (s.members p) fun x => { x with forced := new }
    let f := s.func p
    if isSolFunc f then (s.forceSol p new).settle p else if f = 0x03 then s.forceHead p new else s.settle p

/-- Every port takes up its forced value. -/
def State.applyAllForced (s : State) : State := (idx 32).foldl State.applyForced s

/-! ### Orphan actions (R245, R246, R481) -/

/-- An orphan action passes checks 2 and 4 at its port (R481). -/
def State.orphPasses (s : State) (p : PortId) : Bool :=
  let two := match s.orphAct p with
    | 1 => !s.forbidsOff p
    | 2 => s.passes2On p
    | _ => true
  two && !s.faulted p && s.ports[p].status != .passive

/-- The orphan actions that do not act yet are presented (R481). -/
def State.orphPresent (s : State) : State :=
  if !s.hie.orphan then s
  else
    let s := (idx 32).foldl (fun (s : State) (p : PortId) =>
      if s.orphaned p && !s.hie.orph[p].acts && s.orphPasses p then
        s.onHie fun h => { h with orph := upd h.orph p fun _ => { acts := true, duty := s.ports[p].duty } }
      else s) s
    s.applyAllForced

/-- The worker is released: what OFF and ON left stays, and RAMP ports take their owner's value (R247). -/
def State.orphRelease (s : State) : State :=
  let s := (idx 32).foldl (fun (s : State) (p : PortId) =>
    if s.hie.orph[p].acts && s.orphAct p != 3 then
      let on := s.orphAct p == 2
      let s := s.setSol p fun x => { x with last := if on then .on none else .off }
      s.setPorts (s.members p) fun x =>
        { x with enabled := if on then x.enabled else false, outOn := on, durEnd := none }
    else s) s
  (s.onHie fun h => { h with orphan := false, orph := Vector.replicate 32 {} }).applyAllForced

/-- ORPHAN_RAMP_STEP: every 10 ms a RAMP port's duty moves towards RAMPV (R246). -/
def execOrphanRampStep (s : State) : Out :=
  .next (
    if !s.hie.orphan then s
    else
      let s := (idx 32).foldl (fun (s : State) (p : PortId) =>
        if s.hie.orph[p].acts && s.orphAct p == 3 then
          let d := s.hie.orph[p].duty
          let v := s.rampV p
          let r := s.rampR p
          let d' := if d ≤ v then min v (d + r) else max v (d - r)
          s.onHie fun h => { h with orph := upd h.orph p fun o => { o with duty := d' } }
        else s) s
      s.applyAllForced)

/-! ### Timed commands (R19, R21, R213, R251) -/

/-- The source of a timed command once it has executed: CMD_DONE carries the instant (R240). -/
def Timed.ranSrc (c : Timed) : Src :=
  match c.src with
  | .hier l i p n _ => .hier l i p n c.at_
  | src => src

/-- A timed command acts at its port, checks 2 and 4 passed. -/
def State.timedRun (s : State) (c : Timed) : State :=
  let r := if c.on then s.actOn c.port c.ranSrc c.dur else s.actOff c.port c.ranSrc
  match r.2.1 with
  | .ok =>
    let s := r.1.count 0x04 1
    let s := match c.src with
      | .ofSection i => s.sectDone i c.on s.tick
      | .lockGroup g => s.count (0xC8 + g.val) 1
      | _ => s
    if r.2.2 then s.answer c.ranSrc .ok else s
  | st => (r.1.count 0x05 1).timedDone c st false false

/-- TIMED_COMMAND_EXECUTE: the command of a Q10 entry at its execution instant (R19). -/
def execTimedCommandExecute (i : EntryId) (s : State) : Out :=
  .next (
    match s.hie.q10[i].cmd with
    | none => s
    | some c =>
      let s := s.setEntry i fun e => { e with cmd := none }
      match (if c.on then s.recheckOn c.port else s.recheckOff c.port) with
      | .ok => s.timedRun c
      | st => (s.count 0x05 1).timedDone c st false false)

end Sys2Proof.Machine
end

