-- ==== Sys2Proof/Machine/Sections.lean ====
section
/-! DEFINITION. The meanings of the section-control rows (R195 to R224). -/

namespace Sys2Proof.Machine

open Sys2Proof

/-! ### The evaluation (R205, R209 to R211, R218 to R221) -/

/-- The first grid index from `n` on, within `fuel`, at which the wanted state differs from `e`; `t` is the index of the
evaluation and `p` the estimate there (R209). -/
def State.seekCross (s : State) (i : SectId) (e permit : Bool) (t : Nat) (p : Pose) (n : Nat) : Nat → Option Nat
  | 0 => none
  | f + 1 =>
    let q := p.advance s.speedNow s.turnRate (((n - t : Nat) : Rat) / 10000)
    if s.wantAt i permit q != e then some n else s.seekCross i e permit t p (n + 1) f

/-- The instant of a command as a grid index. -/
def gridIndex (at_ : Nat) : Nat := at_ * 10000 / 2 ^ 32

/-- The plan that R209 and R210 ask for, and its lateness in µs. -/
def State.newPlan (s : State) (i : SectId) (permit : Bool) (t : Nat) (p : Pose) : Option (Plan × Nat) :=
  let x := s.sct.sects[i]
  let n := max t (gridIndex x.tserv)
  match s.seekCross i x.cmd permit t p n (t + s.hzn * 10 + 1 - n) with
  | none => none
  | some tc =>
    let on := !x.cmd
    let d := s.delayUsed i on
    let least := t + s.lead100 i
    let late := decide (tc < least + d)
    some ({ on := on, at_ := gridInstant (if late then least else tc - d), serves := gridInstant tc, delay := d,
            late := late }, (least + d - tc) * 100)

/-- SECT_LATE (R210). -/
def State.noteLate (s : State) (i : SectId) (us : Nat) : State :=
  (s.onSct fun x => { x with cntLate := satNat 65535 (x.cntLate + 1) }).sctEmit 0x0C06 (some i) us (s.speedNow.floor)

/-- One section in AUTO that is not suspended: its plan is kept, replaced, withdrawn or frozen (R209, R211). -/
def State.evalAuto (s : State) (i : SectId) (permit : Bool) (t : Nat) (p : Pose) : State :=
  let x := s.sct.sects[i]
  let keepFrozen := match x.plan with | some q => q.frozen | none => false
  if keepFrozen || x.paused then s
  else match s.newPlan i permit t p with
    | none => s.withdraw i
    | some (q, us) =>
      let q := match x.plan with
        | some old => if old.on == q.on && gridIndex old.at_ == gridIndex q.at_ then old else q
        | none => q
      let s := if q.late && !(match x.plan with | some old => old.late | none => false) then s.noteLate i us else s
      s.adopt i t q

/-- One section in EXT: a setpoint that differs from e is placed at the earliest instant (R223). -/
def State.evalExt (s : State) (i : SectId) (t : Nat) : State :=
  let x := s.sct.sects[i]
  let s := s.setSect i fun y => { y with setpt := none }
  match x.setpt with
  | some 1 => if x.cmd then s else s.placeSoon i true t
  | some 0 => if x.cmd then s.placeSoon i false t else s
  | _ => s

/-- A section is applying: the newest change of APPLY that has come (R219). -/
def applying (tick : Nat) : List (Nat × Bool) → Bool
  | [] => false
  | (t, b) :: xs => if t ≤ tick then b else applying tick xs

def State.applies (s : State) (i : SectId) : Bool := applying s.tick s.sct.sects[i].applyEv

/-- Coverage of one section (R205). -/
def State.coverSect (s : State) (i : SectId) (p : Pose) : State :=
  let x := s.sct.sects[i]
  let now := s.applies i
  let here := (s.points i p).filterMap s.cellAt
  let marks := if now then (x.cells.filter fun c => !here.contains c) else if x.applied then x.cells ++ here else []
  let s := marks.foldl State.markCell s
  s.setSect i fun y => { y with applied := now, cells := if now then here else [] }

/-- The demand of one section alone, EV (R220). -/
def State.ownDemand (s : State) (i : SectId) : Int :=
  if s.applies i then
    let rate : Rat := sbits s.sct.rates[s.prod i] 0 32
    shown 220 (rate * ((s.width i : Nat) / 1000) * (s.speedNow / 1000) / 10000)
  else 0

/-- The demand presented under an index (R220). -/
def State.demandOf (s : State) (i : SectId) : Int :=
  if s.prodSum i then ((s.nsectIds.filter fun j => decide (s.prod j = s.prod i)).map s.ownDemand).foldl (· + ·) 0
  else s.ownDemand i

/-- The section is engaged. -/
def Sect.engaged (x : Sect) : Bool := x.mode == .auto || x.mode == .ext

/-- A default delay is in use (R207). -/
def State.unlearned (s : State) (i : SectId) : Bool :=
  decide ((s.usedTable i true).1 = 2) || decide ((s.usedTable i false).1 = 2)

/-- The registers of a section after the evaluation: WANT, sources, delays, ERR, demand. -/
def State.showSect (s : State) (i : SectId) (permit : Bool) (p : Option Pose) : State :=
  let want := match p with | some q => s.wantAt i permit q | none => false
  let err := match s.sct.sects[i].plan with
    | some q => s.edgeErr i q.on
    | none => max (s.edgeErr i true) (s.edgeErr i false)
  let dem := s.demandOf i
  s.setSect i fun x =>
    { x with want := want, dson := (s.usedTable i true).1, dsoff := (s.usedTable i false).1, don := s.delayUsed i true,
             doff := s.delayUsed i false, err := err, demand := dem }

/-- An engaged section falls back to a default because its tables were cleared (R207). -/
def State.fallDefault (s : State) : State :=
  let eng := s.nsectIds.filter fun i => s.sct.sects[i].engaged
  let fresh := eng.filter fun i => s.unlearned i && !s.sct.sects[i].onDefault
  let s := match fresh with
    | i :: _ => s.sctEmit 0x0C03 none fresh.length i.val
    | [] => s
  let s := eng.foldl (fun (s : State) (i : SectId) => s.setSect i fun x => { x with onDefault := s.unlearned i }) s
  s.onSct fun c => { c with unl := eng.any s.unlearned }

/-- MAP_EDGE, once per excursion (R204). -/
def State.mapEdge (s : State) (p : Pose) : State :=
  let outs := (s.nsectIds.filter fun i => s.sct.sects[i].mode == .auto).filterMap fun i =>
    ((s.points i p).find? fun q => (s.cellAt q).isNone).map fun q => (i, q)
  match outs with
  | [] => s.onSct fun c => { c with mapExc := false }
  | (i, q) :: _ =>
    if s.sct.mapExc then s
    else (s.onSct fun c => { c with mapExc := true }).sctEmit 0x0C0C (some i) q.1.floor q.2.floor

/-- The fault of the unit (R218). -/
def State.sctFault (s : State) : State :=
  let eng := s.nsectIds.filter fun i => s.sct.sects[i].engaged
  let s := (s.onSct fun c => { c with fault := true }).sctEmit 0x0C09 none s.sct.resCnt eng.length
  eng.foldl (fun (s : State) (i : SectId) =>
    if s.lossHold then s.leaveAuto i (if s.sct.sects[i].cmd then .on else .off)
    else ((s.leaveAuto i .off).placeManual i false).1) s

/-- A residue mismatch withholds the evaluation; the third in a row faults the unit (R218). -/
def State.sctResidue (s : State) : State :=
  let s := (s.onSct fun c => { c with resRun := min 3 (c.resRun + 1), resCnt := satNat 65535 (c.resCnt + 1) }).count 0x0E 1
  let s := s.sctEmit 0x0C08 none s.sct.resRun s.sct.resCnt
  if 3 ≤ s.sct.resRun then s.sctFault else s

/-- The position and speed as the registers show them after the evaluation. -/
def State.showPos (s : State) (p : Option Pose) (permit : Bool) : State :=
  let ok := s.positionOk
  let age := match s.sct.sols with | x :: _ => satNat 65535 ((s.tick - x.tick) / ticksPerMs) | [] => 65535
  let hacc := match s.sct.sols with | x :: _ => satNat 255 (x.hacc / 10) | [] => 255
  s.onSct fun c =>
    { c with posOk := ok, spdOk := s.speedOk, spdFb := s.fallback, permit := permit, age := age, hacc := hacc,
             headed := if ok || c.posOk then c.headed else none,
             posX := match p with | some q => shown 197 q.x | none => c.posX,
             posY := match p with | some q => shown 197 q.y | none => c.posY,
             speed := satNat 65535 s.speedNow.floor.toNat, hdg := s.headingNow.getD 0xFFFF }

/-- SUSP clears at the first evaluation with position and speed valid (R217). -/
def State.unsuspend (s : State) : State :=
  if s.sct.susp && s.positionOk && s.speedOk then
    let h := match s.sct.sols with | x :: _ => x.hacc | [] => 0
    (s.onSct fun c => { c with susp := false }).sctEmit 0x0C05 none ((s.tick - s.sct.suspAt) / ticksPerMs : Nat) h
  else s

/-- SECTION_EVALUATION: the evaluation at a whole millisecond (R209); `clean` = no residue mismatch (R218). -/
def execSectionEvaluation (clean : Bool) (s : State) : Out :=
  .next (
    if s.isWorker || !s.rcp.applied || s.sct.fault then s
    else if !clean then s.sctResidue
    else
      let s := s.onSct fun c => { c with resRun := 0 }
      let permit := s.permitNow
      let pose := s.estimate
      let s := (s.showPos pose permit).unsuspend
      let t := s.gridNow
      let s := match pose with
        | some p =>
          let s := s.mapEdge p
          let s := s.nsectIds.foldl (fun (s : State) (i : SectId) => s.coverSect i p) s
          s.nsectIds.foldl (fun (s : State) (i : SectId) => match s.sct.sects[i].mode with
            | .auto => if s.sct.susp then s else s.evalAuto i permit t p
            | _ => s) s
        | none => s
      let s := s.nsectIds.foldl (fun (s : State) (i : SectId) => if s.sct.sects[i].mode == .ext then s.evalExt i t else s) s
      (s.nsectIds.foldl (fun (s : State) (i : SectId) => s.showSect i permit pose) s).fallDefault)

/-- SECT_REFUSE_PAUSE_END: the 100 ms after a refusal end (R213). -/
def execSectRefusePauseEnd (i : SectId) (s : State) : Out := .next (s.setSect i fun x => { x with paused := false })

/-! ### Commands (R215, R216) -/

/-- The sections selected. -/
def State.selected (s : State) : List SectId :=
  (idx 128).filter fun i => bit s.sct.sel[(⟨i.val / 32, by omega⟩ : Fin 4)] (i.val % 32)

/-- The section port is in a fault state. -/
def State.sectFaulted (s : State) (i : SectId) : Bool :=
  if s.sctHere i then s.faulted (s.sctPort i)
  else (s.hie.workers[(Fin.ofNat 64 (s.sctDev i) : Fin 64)]).faults.testBit (s.sctPort i).val

/-- The worker that carries the section is LOCKED; this device needs no check. -/
def State.sectLocked (s : State) (i : SectId) : Bool :=
  s.sctHere i || (s.hie.workers[(Fin.ofNat 64 (s.sctDev i) : Fin 64)]).qual == .locked

/-- The commanded state of a port of this device (R216). -/
def State.commanded (s : State) (p : PortId) : Bool :=
  if isSolFunc (s.func p) then s.sol.ports[p].last != .off else s.ports[p].outOn

/-- Checks 1 to 5 of R216. -/
def State.engageCheck (s : State) (is : List SectId) (ext : Bool) : Status :=
  firstFail [
    (!is.isEmpty && is.all fun i => decide (i.val < s.nsect), .limit),
    (!s.sct.fault, .faulted),
    (!(is.any s.sectFaulted), .faulted),
    (if ext then s.sct.tcActive else s.positionOk && s.speedOk && (!bit s.sctCfg 18 || s.sct.bvalid), .notReady),
    (is.all s.sectLocked, .notReady)]

/-- The sections enter the mode (R216). -/
def State.engageNow (s : State) (is : List SectId) (m : SectMode) : State :=
  let s := is.foldl (fun (s : State) (i : SectId) =>
    if s.sct.sects[i].mode == m then s
    else
      let e := if s.sctHere i then s.commanded (s.sctPort i) else s.sct.sects[i].cmd
      (s.withdraw i).setSect i fun x =>
        { x with mode := m, cmd := e, tserv := s.now, plan := none, setpt := none, onDefault := false, paused := false }) s
  let s := s.onSct fun c => if m = .ext then { c with tcOk := true, tcAt := s.tick } else c
  (s.sctEmit 0x0C01 none is.length m.code).fallDefault

/-- Local entries for sections that hold none; none where Q10 has no room for all of them. -/
def State.reserveHere (s : State) : List SectId → Option State
  | [] => some s
  | i :: is =>
    if (s.sectEntry i).isSome then s.reserveHere is
    else match s.reserve (.ofSection i) with
      | (s, some e) => (s.setSect i fun x => { x with slot := some e.val }).reserveHere is
      | (_, none) => none

/-- RESERVE to a worker for a section (R242). -/
def State.askReserve (s : State) (i : SectId) : State × Bool :=
  let r := s.send 0x83 (s.sctDev i) (le 1 (s.sctDev i) ++ le 1 0xFF ++ le 1 1 ++ zeros 1)
  if r.2 then (r.1.onHie fun h => { h with resPend := h.resPend ++ [(s.sctDev i, some i)] }, true) else r

/-- RESERVEs for a list of sections; none where Q14 has no room. -/
def State.askAll (s : State) : List SectId → Option State
  | [] => some s
  | i :: is => match s.askReserve i with
    | (s, true) => s.askAll is
    | (_, false) => none

/-- ENGAGE or ENGAGE_EXT; the status when it completes at once (R216). -/
def State.cmdEngage (s : State) (src : Src) (ext : Bool) : State × Option Status :=
  let is := s.selected
  let m : SectMode := if ext then .ext else .auto
  match s.engageCheck is ext with
  | .ok =>
    if s.sct.engaging.isSome then (s, some .busy)
    else match s.reserveHere (is.filter s.sctHere) with
      | none => (s.noteOvf 10, some .queueFull)
      | some s' =>
        let far := is.filter fun i => !s.sctHere i && s.sct.sects[i].slot.isNone
        match s'.askAll far with
        | none => (s.noteOvf 14, some .queueFull)
        | some s' =>
          if far.isEmpty then (s'.engageNow is m, some .ok)
          else (s'.onSct fun c => { c with engaging := some { src := src, mode := m, sects := is, left := far.length } }, none)
  | st => (s, some st)

/-- A worker answers a RESERVE of an ENGAGE: the last answer ends it (R212, R216, R242). -/
def State.reserveAnswered (s : State) (i : SectId) (slot : Option Nat) : State :=
  let s := s.setSect i fun x => { x with slot := slot }
  match s.sct.engaging with
  | none => s
  | some g =>
    let g := { g with left := g.left - 1, full := g.full || slot.isNone }
    if 0 < g.left then s.onSct fun c => { c with engaging := some g }
    else
      let s := s.onSct fun c => { c with engaging := none }
      if g.full then
        let idle := g.sects.filter fun i => !s.sct.sects[i].engaged
        (idle.foldl State.releaseEntry s).answer g.src .queueFull
      else (s.engageNow g.sects g.mode).answer g.src .ok

/-- DISENGAGE: ON or OFF as last commanded, no command placed (R215). -/
def State.cmdDisengage (s : State) : State × Status :=
  let is := s.selected.filter fun i => s.sct.sects[i].engaged
  let s := is.foldl (fun (s : State) (i : SectId) => s.leaveAuto i (if s.sct.sects[i].cmd then .on else .off)) s
  (if is.isEmpty then s else s.sctEmit 0x0C02 none is.length 1, .ok)

/-- The sections selected that the Recipe gives. -/
def State.selectedUsed (s : State) : List SectId := s.selected.filter fun i => decide (i.val < s.nsect)

/-- Sections of a list leave AUTO and EXT for ON or OFF, each with its command; false where Q10 or Q14 has no room. -/
def State.setSections (s : State) (is : List SectId) (on : Bool) : State × Bool :=
  is.foldl (fun (r : State × Bool) i =>
    let q := ((r.1.leaveAuto i (if on then .on else .off)).placeManual i on)
    (q.1, r.2 && q.2)) (s, true)

/-- SET_ON or SET_OFF: all selected sections, or none where Q10 or Q14 has no room for all of them (R215). -/
def State.cmdSet2 (s : State) (on : Bool) : State × Status :=
  let left := s.selectedUsed.filter fun i => s.sct.sects[i].engaged
  let go := s.setSections s.selectedUsed on
  if go.2 then (if left.isEmpty then go.1 else go.1.sctEmit 0x0C02 none left.length 1, .ok) else (s.noteOvf 10, .queueFull)

/-- CLRFLT (R218). -/
def State.cmdSctClr (s : State) : State × Status := (s.onSct fun c => { c with fault := false, resRun := 0 }, .ok)

/-! ### BCHECK (R203) -/

/-- Twice the signed area of a triangle. -/
def orient (a b c : Int × Int) : Int := (b.1 - a.1) * (c.2 - a.2) - (b.2 - a.2) * (c.1 - a.1)

/-- A vertex lies on a segment. -/
def onSeg (a b c : Int × Int) : Bool :=
  decide (orient a b c = 0) && decide (min a.1 b.1 ≤ c.1) && decide (c.1 ≤ max a.1 b.1) && decide (min a.2 b.2 ≤ c.2)
    && decide (c.2 ≤ max a.2 b.2)

/-- Two edges have a point in common. -/
def meets (e f : (Int × Int) × (Int × Int)) : Bool :=
  let (a, b) := e
  let (c, d) := f
  let apart (x y : Int) : Bool := decide ((0 < x ∧ y < 0) ∨ (x < 0 ∧ 0 < y))
  (apart (orient a b c) (orient a b d) && apart (orient c d a) (orient c d b))
    || onSeg a b c || onSeg a b d || onSeg c d a || onSeg c d b

/-- Two adjacent edges, sharing the vertex `v`, meet elsewhere: the far end of one lies on the other. -/
def foldsBack (e f : (Int × Int) × (Int × Int)) : Bool := onSeg e.1 e.2 f.2 || onSeg f.1 f.2 e.1

/-- Edges j < k of a polygon of n edges intersect other than at a shared vertex. -/
def badPair (n j k : Nat) (e f : (Int × Int) × (Int × Int)) : Bool :=
  if k = j + 1 then foldsBack e f else if j = 0 ∧ k + 1 = n then foldsBack f e else meets e f

/-- The runs of the used polygons before one. -/
def State.runsBefore (s : State) (p : Fin 64) : List (Nat × Nat) :=
  ((idx 64).filter fun q => decide (q.val < p.val) && s.polyKind q != 0).map fun q => (s.polyFirst q, s.polyFirst q + s.polyCount q)

/-- The first error of a polygon, its code and its vertex (R203). -/
def State.polyError (s : State) (p : Fin 64) : Option (Nat × Nat) :=
  let n := s.polyCount p
  let a := s.polyFirst p
  let es := s.polyEdges p
  let shared := (List.range n).find? fun j => (s.runsBefore p).any fun r => decide (r.1 ≤ a + j) && decide (a + j < r.2)
  let same := (List.range n).find? fun j => match es[j]? with | some e => e.1 == e.2 | none => false
  let cut := (List.range n).find? fun j => (List.range n).any fun k =>
    decide (j < k) && match es[j]?, es[k]? with | some e, some f => badPair n j k e f | _, _ => false
  if n < 3 then some (1, a)
  else if 4096 < a + n then some (2, 4095)
  else match shared with
    | some j => some (2, a + j)
    | none => match same with
      | some j => some (3, a + j)
      | none => cut.map fun j => (4, a + j)

/-- The first error of the table in polygon order. -/
def State.tableError (s : State) : Option (Nat × Nat × Nat) :=
  let used := (idx 64).filter fun p => s.polyKind p != 0
  match used.findSome? fun p => (s.polyError p).map fun e => (p.val, e) with
  | some e => some e
  | none => if used.isEmpty && bit s.sctCfg 18 then some (0, 5, 0) else none

/-- BCHECK (R203). -/
def State.cmdBcheck (s : State) : State × Status :=
  if s.sctEng then (s, .notReady)
  else match s.tableError with
    | some (p, e, v) => (s.onSct fun c => { c with bvalid := false, bres := 2, bpoly := p, berr := e, bvtx := v }, .limit)
    | none => (s.onSct fun c => { c with bvalid := true, bres := 1, bpoly := 0, berr := 0, bvtx := 0 }, .ok)

/-- A section command of a session: on a worker it completes with RECIPE_LOCKED (R195). -/
def State.sctGated (s : State) (k : SessId) (go : State → State × Option Status) : State :=
  match s.gate k rightCOMMAND with
  | .ok =>
    if s.isWorker then s.answer (s.me k) .recipeLocked
    else match go s with
      | (s, some st) => s.answer (s.me k) st
      | (s, none) => s
  | st => s.answer (s.me k) st

/-- A command that completes at once. -/
def atOnce (r : State × Status) : State × Option Status := (r.1, some r.2)

/-- ENGAGE (R216). -/
def execEngage (k : SessId) (s : State) : Out := .next (s.sctGated k fun s => s.cmdEngage (s.me k) false)
/-- ENGAGE_EXT (R216). -/
def execEngageExt (k : SessId) (s : State) : Out := .next (s.sctGated k fun s => s.cmdEngage (s.me k) true)
/-- DISENGAGE (R215). -/
def execDisengage (k : SessId) (s : State) : Out := .next (s.sctGated k fun s => atOnce s.cmdDisengage)
/-- SET_ON (R215). -/
def execSetOn (k : SessId) (s : State) : Out := .next (s.sctGated k fun s => atOnce (s.cmdSet2 true))
/-- SET_OFF (R215). -/
def execSetOff (k : SessId) (s : State) : Out := .next (s.sctGated k fun s => atOnce (s.cmdSet2 false))
/-- BCHECK (R203). -/
def execBcheck (k : SessId) (s : State) : Out := .next (s.sctGated k fun s => atOnce s.cmdBcheck)
/-- SECTION_CLRFLT (R218). -/
def execSectionClrflt (k : SessId) (s : State) : Out := .next (s.sctGated k fun s => atOnce s.cmdSctClr)

/-! ### The boundary table (R203) -/

/-- What a word of the boundary registers sets: the origin, a polygon descriptor, a vertex. -/
def boundaryWord (a : Nat) (v : Word) : Option (SctState → SctState) :=
  if a = 0x00300020 then some fun c => { c with orgLat := v }
  else if a = 0x00300024 then some fun c => { c with orgLon := v }
  else if 0x00300800 ≤ a ∧ a < 0x00300900 ∧ a % 4 = 0 then
    some fun c => { c with polys := upd c.polys (Fin.ofNat 64 ((a - 0x00300800) / 4)) fun _ => v &&& 0xCFFF0FFF, bvalid := false }
  else if 0x00310000 ≤ a ∧ a < 0x00318000 ∧ a % 4 = 0 then
    some fun c => { c with verts := cellSet 0 c.verts ((a - 0x00310000) / 4) v, bvalid := false }
  else none

/-- A boundary register written: locked on a worker, and while the Section Controller runs. -/
def State.setBoundary (s : State) (f : SctState → SctState) : State × Status :=
  if s.isWorker then (s, .recipeLocked) else if s.sctEng then (s, .notReady) else (s.onSct f, .ok)

/-- A write of the origin, a descriptor or a vertex, by its register address; none where the address is another's. -/
def State.writeBoundary (s : State) (a : Nat) (v : Word) : Option (State × Status) := (boundaryWord a v).map s.setBoundary

/-- BOUNDARY_WRITE: a host write of a vertex, descriptor or origin (R203). -/
def execBoundaryWrite (a : Nat) (v : Word) (k : SessId) (s : State) : Out :=
  .next (match s.writeBoundary a v with
    | some r => s.gated k (s.gate k rightPARAM) fun _ => r
    | none => s.answer (s.me k) .badAddr)

/-! ### Position, speed and Task Controller (R198, R200, R217, R222, R223) -/

/-- The NAME of the external receiver (SECTION 0x03). -/
def State.extName (s : State) : Nat := (s.rw secSECTION 3 0 0).toNat + (s.rw secSECTION 3 0 1).toNat * 2 ^ 32

/-- A frame of the external receiver enters section control (R198). -/
def State.extFrame (s : State) (f : ExtFrame) : State :=
  let s := s.onSct fun c => match f with
    | .position lat lon => { c with extPos := some (lat, lon, s.tick) }
    | .course h v => { c with extCog := some (h, v, s.tick) }
  match s.sct.extPos, s.sct.extCog with
  | some (lat, lon, a), some (h, v, b) =>
    if a ≤ b + 6000000 ∧ b ≤ a + 6000000 then
      let xy := s.plane lat lon
      let s := s.onSct fun c => { c with extPos := none, extCog := none }
      s.pushSolution { x := xy.1, y := xy.2, speed := v, hdg := if h < 36000 then some h else none,
                       tick := a - bits (s.sctWord 5) 24 8 * ticksPerMs, seen := s.tick, hacc := 0xFFFF, fix := 3 }
    else s
  | _, _ => s

/-- EXT_POSITION_FRAME: a frame from the address that the receiver's NAME has claimed; `name` is the NAME that holds the
sending address (R198). -/
def execExtPositionFrame (f : ExtFrame) (name : Nat) (s : State) : Out :=
  .next (if !s.isWorker && s.rcp.applied && s.posSrc = 1 && name = s.extName then s.extFrame f else s)

/-- The loss action: without LOSSACT, each section last commanded on receives an OFF (R217, R223). -/
def State.lossAction (s : State) (is : List SectId) : State :=
  is.foldl (fun (s : State) (i : SectId) =>
    let s := s.withdraw i
    if !s.lossHold && s.sct.sects[i].cmd then s.placeSoon i false s.gridNow else s) s

/-- SECT_POS_LOST: validity has not returned within POSTMO while sections are in AUTO (R217). -/
def execSectPosLost (s : State) : Out :=
  .next (
    let is := s.nsectIds.filter fun i => s.sct.sects[i].mode == .auto
    if s.isWorker || is.isEmpty || s.sct.susp || (s.positionOk && s.speedOk) then s
    else
      let since := match s.sct.sols with | x :: _ => (s.tick - x.seen) / ticksPerMs | [] => 0
      let cause := if s.sct.sols.isEmpty then 1 else if !s.positionOk then
          (match s.sct.sols with
            | x :: _ => if x.seen + bits (s.sctWord 1) 8 8 * 1200000 < s.tick then 1 else 2
            | [] => 1) else 3
      let s := s.onSct fun c => { c with susp := true, suspAt := s.tick, posOk := s.positionOk, spdOk := s.speedOk }
      (s.sctEmit 0x0C04 none since cause).lossAction is)

/-- SPEED_DISAGREE: pulse and GNSS speed disagree for 2 s (R200). -/
def execSpeedDisagree (s : State) : Out :=
  .next (
    if s.isWorker || s.spdSrc != 2 || s.sct.disagree then s
    else (s.onSct fun c => { c with disagree := true }).sctEmit 0x0C0B none s.pulseSpeed.floor s.gnssSpeed)

/-- SPEED_DISAGREE_END: 10 s without the conditions (R200). -/
def execSpeedDisagreeEnd (s : State) : Out := .next (s.onSct fun c => { c with disagree := false })

/-- A setpoint of the Task Controller for the sections 16d to 16d + 15 (R222, R223). -/
def State.tcSetpoint (s : State) (d : Nat) (v : Word) : State :=
  let s := s.onSct fun c => { c with tcOk := c.tcActive, tcAt := s.tick }
  s.nsectIds.foldl (fun (s : State) (i : SectId) =>
    if i.val / 16 = d ∧ s.sct.sects[i].mode = .ext then
      s.setSect i fun x => { x with setpt := some (bits v (2 * (i.val % 16)) 2) } else s) s

/-- TC_SETPOINT: Setpoint Condensed Work State DDI 290 + d (R222, R223). -/
def execTcSetpoint (d : Nat) (v : Word) (s : State) : Out :=
  .next (if s.isWorker || !s.sct.tcActive || !s.rcp.applied then s else s.tcSetpoint d v)

/-- TC_LOST: no setpoint for TCTMO while a section is in EXT (R223). -/
def execTcLost (s : State) : Out :=
  .next (
    let is := s.nsectIds.filter fun i => s.sct.sects[i].mode == .ext
    if s.isWorker || is.isEmpty || !s.sct.tcOk then s
    else
      let s := (s.onSct fun c => { c with tcOk := false }).sctEmit 0x0C0A none ((s.tick - s.sct.tcAt) / ticksPerMs : Nat) is.length
      s.lossAction is)

/-- What the manager reports of a section (R223): the two bits of DDI 161 + d. -/
def State.actualState (s : State) (i : SectId) : Nat :=
  if s.nsect ≤ i.val then 3 else if s.applies i then 1 else if s.sct.sects[i].refd || s.sectFaulted i then 2 else 0

end Sys2Proof.Machine
end

