-- ==== Sys2Proof/Machine/Clapper.lean ====
section
/-! DEFINITION. The meanings of the Clapper rows (R225 to R239): marks and beacons, hop echoes, links, cross-device flags
and failed hops. -/

namespace Sys2Proof.Machine

open Sys2Proof

/-! ### Frames and their CRCs (R227) -/

/-- A field's bits, least significant first. -/
def fieldBits : Nat → Nat → List Bool
  | 0, _ => []
  | n + 1, v => (v % 2 == 1) :: fieldBits n (v / 2)

/-- The TYPE of a frame and its fields, bit by bit as they follow the delimiter. -/
def Frame.bits : Frame → List Bool
  | .bmark => fieldBits 4 1
  | .beacon hop cum ms sec q ok n ann =>
    fieldBits 4 2 ++ fieldBits 6 hop ++ fieldBits 24 cum ++ fieldBits 10 ms ++ fieldBits 48 sec ++ fieldBits 3 q ++ [ok]
      ++ fieldBits 4 n ++ [ann.isSome] ++ fieldBits 3 0
      ++ match ann with
        | some (at_, ss, ff) => fieldBits 16 at_ ++ fieldBits 48 ss ++ fieldBits 32 ff
        | none => []
  | .ereq => fieldBits 4 3
  | .ersp tat => fieldBits 4 4 ++ fieldBits 12 tat
  | .flag o i v => fieldBits 4 5 ++ fieldBits 6 o ++ fieldBits 6 i ++ [v] ++ fieldBits 1 0
  | .hopfail r d => fieldBits 4 6 ++ fieldBits 6 r ++ [d] ++ fieldBits 1 0
  | .data dst som eom bs =>
    fieldBits 4 7 ++ fieldBits 6 dst ++ fieldBits 5 (bs.length - 1) ++ [som, eom] ++ fieldBits 3 0
      ++ bs.flatMap fun b => fieldBits 8 b.toNat

/-- A CRC of width `w` over bits in the order sent (R227). -/
def crcBits (w poly init : Nat) (bs : List Bool) : Nat :=
  bs.foldl (fun c b =>
    let d := (2 * c) % 2 ^ w
    if (c / 2 ^ (w - 1) == 1) != b then Nat.xor d poly else d) init

/-- The CRC that a frame carries: CRC-16 in BEACON and DATA, CRC-8 in ERSP, FLAG and HOPFAIL, none otherwise. -/
def Frame.crc (f : Frame) : Nat :=
  match f with
  | .bmark | .ereq => 0
  | .beacon .. | .data .. => crcBits 16 0x1021 0xFFFF f.bits
  | .ersp _ | .flag .. | .hopfail .. => crcBits 8 0x07 0 f.bits

/-- A frame discarded for its CRC is counted (R227). -/
def State.badFrame (s : State) : State := s.onHie fun h => { h with crcErr := satNat 255 (h.crcErr + 1) }

/-- Frames that cross a failed hop (R229). -/
def Frame.crossesFailed : Frame → Bool
  | .flag .. | .data .. => false
  | _ => true

/-- A frame is put on a link in use (R229). -/
def State.transmit (s : State) (down : Side) (f : Frame) : State :=
  if s.linkUsed down && (f.crossesFailed || !(s.link down).failed) then s.onHie fun h => { h with sent := (down, f) :: h.sent }
  else s

/-- The down-link hop delay in 0.25 ns (R231). -/
def State.hopDelay (s : State) : Nat :=
  if s.hie.samples.isEmpty then 0
  else (shown 231 (((s.hie.samples.foldl (· + ·) 0 : Int) : Rat) / ((2 * s.hie.samples.length : Nat) : Rat))).toNat

/-! ### Sources and flags -/

/-- HIE_XFk: USED, FAILV and ORIG (R237). -/
def State.xfWord (s : State) (k : FlagId) : Word := s.rw secHIER 4 k.val 0
def State.xfUsed (s : State) (k : FlagId) : Bool := bit (s.xfWord k) 31
def State.xfFailv (s : State) (k : FlagId) : Bool := bit (s.xfWord k) 30
def State.xfOrig (s : State) (k : FlagId) : Nat := bits (s.xfWord k) 16 6
def State.setFlag (s : State) (k : FlagId) (f : XFlag → XFlag) : State := s.onHie fun h => { h with flags := upd h.flags k f }

/-- The side on which a chain member lies: true = beyond the down-link. -/
def State.sideOf (s : State) (a : Nat) : Side :=
  match s.chainPos a with
  | some j => decide (s.hop < j)
  | none => false

/-- A failure condition of R238 stands for the flag. -/
def State.flagFails (s : State) (k : FlagId) : Bool :=
  let l := s.link (s.sideOf (s.xfOrig k))
  l.down || l.failed || s.hie.flags[k].hopfail || s.hie.flags[k].silent

/-- The flag takes FAILV; recorded when it fails (R238). -/
def State.failFlag (s : State) (k : FlagId) (cond : Nat) : State :=
  if !s.xfUsed k || s.xfOrig k = s.sys.addr then s
  else
    let was := s.hie.flags[k].failed
    let s := s.setFlag k fun x => { x with val := s.xfFailv k, failed := true }
    if was then s else s.hieEmit 0x0A0D k.val cond (if s.xfFailv k then 1 else 0) (s.xfOrig k)

/-- Every flag from beyond a failed or lost link takes FAILV (R238). -/
def State.failSide (s : State) (down : Side) : State :=
  (idx 64).foldl (fun (s : State) (k : FlagId) =>
    if s.xfUsed k && s.xfOrig k != s.sys.addr && s.sideOf (s.xfOrig k) == down then s.failFlag k 1 else s) s

/-- The Clapper source of a worker is lost (R234). -/
def State.loseClapper (s : State) : State :=
  if !s.isWorker then s
  else (s.onHie fun h => { h with srcOk := false, beaconRun := 0, ds := [], firstDs := [] }).loseSource

/-! ### Workers lost (R244) -/

def State.setWorker (s : State) (a : Fin 64) (f : Worker → Worker) : State := s.onHie fun h => { h with workers := upd h.workers a f }

/-- The sections on a device. -/
def State.sectsOn (s : State) (a : Nat) : List SectId :=
  s.nsectIds.filter fun i => s.sctDev i == a && s.sct.sects[i].mode != .off

/-- LOCKGRP records (R250). -/
def State.lgCfg (s : State) (g : LgId) : Word := s.rw secLOCKGRP 1 g.val 0
def State.lgUsed (s : State) (g : LgId) : Bool := bit (s.lgCfg g) 31
def State.lgMems (s : State) (g : LgId) : List (Fin 32) :=
  (idx 32).filter fun m => decide (m.val ≤ bits (s.lgCfg g) 24 5) && bits (s.rw secLOCKGRP 2 (32 * g.val + m.val) 0) 19 2 != 0
def State.memA (s : State) (g : LgId) (m : Fin 32) : Word := s.rw secLOCKGRP 2 (32 * g.val + m.val) 0
def State.memB (s : State) (g : LgId) (m : Fin 32) : Word := s.rw secLOCKGRP 2 (32 * g.val + m.val) 1
def State.memDev (s : State) (g : LgId) (m : Fin 32) : Nat := bits (s.memA g m) 26 6
def State.setLg (s : State) (g : LgId) (f : Lg → Lg) : State := s.onHie fun h => { h with lgs := upd h.lgs g f }

/-- A group that is not STOPPED. -/
def Lg.live (x : Lg) : Bool := x.st != .stopped

/-- The members on a lost worker wait (R244, R251). -/
def State.membersWait (s : State) (a : Nat) : State :=
  (idx 16).foldl (fun (s : State) (g : LgId) =>
    if s.hie.lgs[g].live then
      (s.lgMems g).foldl (fun (s : State) (m : Fin 32) =>
        if s.memDev g m = a then s.setLg g fun x => { x with wait := x.wait ||| BitVec.ofNat 32 (2 ^ m.val) } else s) s
    else s) s

/-- The manager forgets the RESERVEs that a lost worker has not answered (R242). -/
def State.forgetReserves (s : State) (a : Nat) : State :=
  let mine := s.hie.resPend.filter fun r => r.1 == a
  let s := s.onHie fun h => { h with resPend := h.resPend.filter fun r => r.1 != a }
  mine.foldl (fun (s : State) (r : Nat × Option SectId) => match r.2 with | some i => s.reserveAnswered i none | none => s) s

/-- The manager declares WORKER_LOST for a worker (R244). `cause` 1 = heartbeat, 2 = hop; `rep` = the reporter. -/
def State.loseWorker (s : State) (a : Fin 64) (cause rep : Nat) : State :=
  if s.isWorker || a.val = 0 || (s.chainPos a.val).isNone || s.hie.workers[a].lost then s
  else
    let age := match s.hie.workers[a].heard with | some h => satNat 65535 ((s.tick - h) / ticksPerMs) | none => 65535
    let s := s.setWorker a fun w => { w with lost := true, lostAt := s.tick, rel := false }
    let s := s.emit (s.hieEv 0x0A03 a.val ((s.chainPos a.val).getD 0) cause age rep)
    let s := s.sectsOff (s.sectsOn a.val) 3
    let s := s.nsectIds.foldl (fun (s : State) (i : SectId) =>
      if s.sctDev i = a.val then s.setSect i fun x => { x with slot := none } else s) s
    (s.membersWait a.val).forgetReserves a.val

/-- Every worker beyond a chain position is lost by a failed hop (R244). -/
def State.loseBeyond (s : State) (pos rep : Nat) : State :=
  ((List.range s.nwork).map (· + 1)).foldl (fun (s : State) j =>
    if pos < j then s.loseWorker (Fin.ofNat 64 (s.chainAt j)) 2 rep else s) s

/-! ### Failed hops (R232) -/

/-- A hop fails at this end (R232). `cause` 1 = link down, 2 = echoes, 3 = HOPFAIL received. -/
def State.hopFails (s : State) (down : Side) (cause : Nat) : State :=
  if !s.linkUsed down || (s.link down).failed then s
  else
    let e := s.hieEv 0x0A05 s.sys.addr (if down then 1 else 0) cause s.hopDelay s.hie.echoRun
    let s := s.setLink down fun l => { l with failed := true }
    let s := if down then s.onHie fun h => { h with dlyOk := false, samples := [], rejRun := 0 } else s
    let s := (s.emit e).transmit (!down) (.hopfail s.sys.addr down)
    let s := if (s.link down).down then s else s.transmit down (.hopfail s.sys.addr down)
    let s := s.failSide down
    let s := if down then s else s.loseClapper
    if s.isWorker then s else s.loseBeyond s.hop s.sys.addr

/-- A hop is restored (R232). -/
def State.hopRestored (s : State) (down : Side) : State :=
  let l := s.link down
  if l.failed && !l.down && (!down || s.hie.dlyOk) then
    (s.setLink down fun l => { l with failed := false }).hieEmit 0x0A06 (if down then 1 else 0) 0 s.hopDelay 0
  else s

/-- LINK_DOWN: no transition for 2 µs (R230, R232). -/
def execLinkDown (down : Side) (s : State) : Out :=
  .next (
    if !s.linkUsed down then s
    else
      let s := (s.setLink down fun l => { l with down := true }).hopFails down 1
      let s := s.failSide down
      if down then s else s.loseClapper)

/-- LINK_UP: 1 ms of valid symbols (R230, R232). -/
def execLinkUp (down : Side) (s : State) : Out :=
  .next (if !s.linkUsed down then s else (s.setLink down fun l => { l with down := false }).hopRestored down)

/-- STRAP_CHANGE: the straps change while the device runs (R225). -/
def execStrapChange (addr : Nat) (s : State) : Out :=
  .next (
    if addr = s.sys.addr then s
    else (s.onHie fun h => { h with strapChg := true }).hieEmit 0x0A07 0 4 addr s.raddr)

/-! ### Hop delay (R231) -/

/-- EREQ: answered with an ERSP that carries TAT = 400 ns (R231). -/
def execEreq (s : State) : Out := .next (s.transmit false (.ersp 1600))

/-- ECHO_REQUEST: an EREQ on the used down-link, its edge stamped in 0.25 ns (R231). -/
def execEchoRequest (edge : Nat) (s : State) : Out :=
  .next (if s.linkUsed true then (s.onHie fun h => { h with ereqAt := some edge }).transmit true .ereq else s)

/-- An echo fails; two in a row fail the hop (R231, R232). -/
def State.echoFails (s : State) : State :=
  if !s.linkUsed true then s
  else
    let s := s.onHie fun h => { h with ereqAt := none, echoFail := satNat 255 (h.echoFail + 1), echoRun := h.echoRun + 1 }
    if 2 ≤ s.hie.echoRun then s.hopFails true 2 else s

/-- ECHO_FAIL: no ERSP within 3 µs (R231). -/
def execEchoFail (s : State) : Out := .next s.echoFails

/-- A valid sample: `x` = rt − TAT in 0.25 ns (R231). -/
def State.takeSample (s : State) (x : Int) : State :=
  let n := s.hie.samples.length
  let mean2 : Rat := ((s.hie.samples.foldl (· + ·) 0 : Int) : Rat) / (n : Nat)
  if s.hie.dlyOk && decide (80 < ratAbs ((x : Rat) - mean2)) then
    s.onHie fun h =>
      let drop := decide (3 ≤ h.rejRun + 1)
      { h with echoRej := satNat 255 (h.echoRej + 1), rejRun := if drop then 0 else h.rejRun + 1,
               dlyOk := !drop, samples := if drop then [] else h.samples }
  else
    let s := s.onHie fun h =>
      { h with samples := (x :: h.samples).take 16, rejRun := 0, dlyOk := h.dlyOk || decide (15 ≤ h.samples.length) }
    s.hopRestored true

/-- ERSP: a received answer yields a sample, or the echo fails (R231). `edge` is its reference edge in 0.25 ns. -/
def execErsp (tat crc edge : Nat) (s : State) : Out :=
  .next (
    match s.hie.ereqAt with
    | none => s
    | some e0 =>
      if crc ≠ (Frame.ersp tat).crc then s.badFrame.echoFails
      else
        let s := s.onHie fun h => { h with tat := tat }
        if 4000 < tat || e0 + 12000 < edge then s.echoFails
        else (s.onHie fun h => { h with ereqAt := none, echoRun := 0 }).takeSample ((edge : Int) - e0 - tat))

/-! ### Marks and beacons (R233 to R235) -/

/-- A mark that no valid beacon followed is counted. -/
def State.markMissed (s : State) : State :=
  match s.hie.mark with
  | some _ => s.onHie fun h => { h with mark := none, bmiss := satNat 255 (h.bmiss + 1) }
  | none => s

/-- BMARK: a worker stamps its edge in 0.25 ns and forwards it (R229, R233). -/
def execBmark (edge : Nat) (s : State) : Out :=
  .next (if s.linkUsed false then ((s.markMissed).onHie fun h => { h with mark := some edge }).transmit true .bmark else s)

/-- The step that a beacon announces, in seconds (R235). -/
def announced (ss ff : Nat) : Rat :=
  (if ss < 2 ^ 47 then (ss : Int) else (ss : Int) - 2 ^ 48 : Int) + ((ff : Nat) : Rat) / 2 ^ 32

/-- An announced step becomes pending on a worker (R173, R235). -/
def State.announce (s : State) : Option (Nat × Nat × Nat) → State
  | some (_, ss, ff) => s.dropSetting.onTmb fun x => { x with pending := some (.manager (announced ss ff)) }
  | none => s

/-- HOP differs from the position: recorded once per excursion (R233). -/
def State.hopMismatch (s : State) (hop : Nat) : State :=
  if s.hie.hopExc then s else (s.onHie fun h => { h with hopExc := true }).hieEmit 0x0A08 0 1 hop s.hop

/-- A valid beacon (R233, R234). -/
def State.beaconValid (s : State) (mark cum ms sec mqual stepcnt : Nat) (ann : Option (Nat × Nat × Nat)) : State :=
  let source : Rat := (sec : Nat) + (ms : Nat) / 1000 + ((cum : Nat) : Rat) / 4000000000
  let d := ((mark : Nat) : Rat) / 4000000000 - source
  let jumped := s.hie.validAt.isSome && decide (stepcnt ≠ s.hie.stepCnt) && !s.hie.stepApplied
  let s := s.onHie fun h =>
    { h with mark := none, validAt := some s.tick, cumdly := cum, mqual := Qual.ofCode mqual, stepCnt := stepcnt, hopExc := false,
             stepApplied := h.stepApplied && decide (stepcnt = h.stepCnt), beaconRun := h.beaconRun + 1, ds := d :: h.ds }
  let s := s.count 0x03 1
  let s := if jumped then s.loseClapper else s
  let s := s.onHie fun h =>
    if h.srcOk then { h with firstDs := if h.firstDs.length < 100 then d :: h.firstDs else h.firstDs }
    else if 10 ≤ h.beaconRun then { h with srcOk := true, firstDs := [] } else h
  s.announce ann

/-- The forwarded beacon (R229). -/
def State.forwardBeacon (s : State) (hop cum ms sec q : Nat) (ok : Bool) (n : Nat) (ann : Option (Nat × Nat × Nat)) : State :=
  s.transmit true (.beacon ((hop + 1) % 64) ((cum + 2560 + s.hopDelay) % 2 ^ 24) ms sec q (ok && s.hie.dlyOk) n ann)

/-- BEACON: a received body is paired with its mark, judged, and forwarded (R229, R233 to R235). `ann` = the step fields. -/
def execBeacon (hop cum ms sec q : Nat) (ok : Bool) (n : Nat) (ann : Option (Nat × Nat × Nat)) (crc : Nat) (s : State) : Out :=
  .next (
    if !s.linkUsed false then s
    else if crc ≠ (Frame.beacon hop cum ms sec q ok n ann).crc then s.badFrame.markMissed
    else
      let s := s.forwardBeacon hop cum ms sec q ok n ann
      if hop ≠ s.hop then ((s.markMissed).hopMismatch hop).loseClapper
      else if !ok then s.markMissed.loseClapper
      else match s.hie.mark with
        | some m => s.beaconValid m cum ms sec q n ann
        | none => s)

/-- The announcement of the manager's pending step: the second S, and the change of T at S (R235). -/
def State.announcement (s : State) : Option (Nat × Nat × Nat) :=
  let sAt := s.secs + 1
  let parts (c : Rat) : Nat × Nat × Nat := (sAt % 65536, twos 48 c.floor, ((c - c.floor) * 2 ^ 32).floor.toNat)
  match s.tmb.pending with
  | some (.judged dj _) => some (parts (-dj))
  | some (.host _ _ secs) => some (parts (((secs : Int) - (sAt : Int) : Int) : Rat))
  | _ => none

/-- BEACON_SEND: at every whole millisecond the manager sends a mark and its beacon body (R233, R235). -/
def execBeaconSend (s : State) : Out :=
  .next (
    if s.isWorker || !s.linkUsed true || !s.rcp.applied then s
    else
      let ms := (s.now * 1000 + 2 ^ 31) / 2 ^ 32
      ((s.count 0x03 1).transmit true .bmark).transmit true
        (.beacon 1 s.hopDelay (ms % 1000) (ms / 1000) s.tmb.qual.code s.hie.dlyOk s.hie.stepCnt s.announcement))

/-! ### Flags (R237, R238) -/

/-- A valid FLAG frame is taken (R238). -/
def State.takeFlag (s : State) (orig : Nat) (k : FlagId) (v : Bool) : State :=
  if !s.xfUsed k || s.xfOrig k ≠ orig || orig = s.sys.addr then s
  else
    let s := s.setFlag k fun x => { x with hopfail := false, silent := false }
    if s.flagFails k then s
    else
      let was := s.hie.flags[k].failed
      let s := s.setFlag k fun x => { x with val := v, failed := false }
      if was then s.hieEmit 0x0A0E k.val 0 (if v then 1 else 0) orig else s

/-- FLAG: forwarded cut-through, and taken when its CRC passes (R229, R238). `from_` = the link it came by. -/
def execFlag (from_ : Side) (orig idx : Nat) (val : Bool) (crc : Nat) (s : State) : Out :=
  .next (
    let f := Frame.flag orig idx val
    let s := s.transmit (!from_) f
    if crc ≠ f.crc then s.badFrame else s.takeFlag orig (Fin.ofNat 64 idx) val)

/-- XFLAG_FAILED: no valid frame of the flag for 3 ms (R238). -/
def execXflagFailed (k : FlagId) (s : State) : Out :=
  .next (if s.xfUsed k && s.xfOrig k != s.sys.addr then (s.setFlag k fun x => { x with silent := true }).failFlag k 3 else s)

/-- The chain position on the manager's side of the hop that a HOPFAIL names. -/
def State.hopNamed (s : State) (rep : Nat) (down : Bool) : Option Nat :=
  (s.chainPos rep).map fun j => if down then j else j - 1

/-- The flags whose origin lies beyond a failed hop take FAILV (R238). -/
def State.failBeyondHop (s : State) (a : Nat) : State :=
  (idx 64).foldl (fun (s : State) (k : FlagId) =>
    match s.chainPos (s.xfOrig k) with
    | some j =>
      if s.xfUsed k && s.xfOrig k != s.sys.addr && decide (j ≤ a) != decide (s.hop ≤ a) then
        (s.setFlag k fun x => { x with hopfail := true }).failFlag k 2
      else s
    | none => s) s

/-- HOPFAIL: forwarded; flags and workers beyond the hop fail, and a hop of this device counts as failed (R229, R232, R238,
R244). -/
def execHopfail (from_ : Side) (rep : Nat) (down : Bool) (crc : Nat) (s : State) : Out :=
  .next (
    let f := Frame.hopfail rep down
    let s := s.transmit (!from_) f
    if crc ≠ f.crc then s.badFrame
    else match s.hopNamed rep down with
      | none => s
      | some a =>
        let s := if a = s.hop then s.hopFails true 3 else if a + 1 = s.hop then s.hopFails false 3 else s
        let s := s.failBeyondHop a
        if s.isWorker then s else s.loseBeyond a rep)

/-- The worst B of R239 over the chain in 10 ns (CLP_FBOUND). -/
def State.fbound (s : State) : Nat :=
  let ws := (((List.range s.nwork).map (· + 1)).take (s.nwork - 1)).map fun j =>
    (s.hie.workers[(Fin.ofNat 64 (s.chainAt j) : Fin 64)].delay).getD 0
  let q := 11200 + ((s.hopDelay :: ws).map (· + 640)).foldl (· + ·) 0
  if s.isWorker || s.nwork = 0 then 0 else satNat 65535 (shown 239 (((q : Nat) : Rat) / 40)).toNat

end Sys2Proof.Machine
end

