-- ==== Sys2Proof/Machine/Dma.lean ====
section
/-! DEFINITION. The DMA engine (R340 to R351). -/

namespace Sys2Proof.Machine

open Sys2Proof

def State.setCh (s : State) (n : ChId) (f : DmaCh → DmaCh) : State := s.onDma fun x => { x with ch := upd x.ch n f }

/-- An event of R353. -/
def State.linkEv (code chan cause ctx sess a b : Nat) (s : State) : Ev :=
  { code := code, origin := .runtime,
    payload := le 1 chan ++ le 1 cause ++ le 1 ctx ++ le 1 sess ++ le 4 a ++ le 4 b ++ s.stamp ++ zeros 4 }

/-- The owner of a channel as events and records show it. -/
def ownerByte (o : Option SessId) : Nat := match o with | some k => k.val | none => 0xFF

/-- An event of a channel. -/
def State.dmaEmit (s : State) (code : Nat) (n : ChId) (cause a b : Nat) : State :=
  s.emit { State.linkEv code n.val cause (ctxOfCh n) (ownerByte s.dma.ch[n].owner) a b s with session := s.dma.ch[n].owner }

/-! ### Faults (R347, R348) -/

/-- A fault record queued into Q15, or held while it is full (R348). -/
def State.queueRecord (s : State) (n : ChId) (r : List Byte) : State :=
  if s.dma.q15.length < 64 then
    let s := s.onDma fun x => { x with q15 := x.q15 ++ [r] }
    (s.setCh n fun c => { c with recQ := true, held := none }).noteFill 15 s.dma.q15.length
  else s.setCh n fun c => { c with recQ := false, held := some r }

/-- An uncorrectable error at a word is recorded when it is read (R353); `who` 1 session, 2 DMA, 3 runtime. -/
def State.eccEmit (s : State) (a who chan ctx sess : Nat) : State := s.emit (State.linkEv 0x0404 chan 3 ctx sess a who s)

/-- A channel faults at a word (R347, R348). `side` is 1 on the write side, `desc` says that a descriptor was accessed,
`k` counts the words committed in the burst. -/
def State.dmaFault (s : State) (n : ChId) (cause : DmaCause) (side : Nat) (desc gone : Bool) (faddr k : Nat) : State :=
  let c := s.dma.ch[n]
  let r := le 1 1 ++ le 1 n.val ++ le 1 cause.code ++ le 1 (side + flagAt desc 1 + flagAt gone 2) ++ le 4 c.cur ++ le 4 c.prog
    ++ le 4 faddr ++ le 2 c.burst ++ le 2 k ++ s.stamp ++ le 1 (ownerByte c.owner) ++ zeros 3
  let s := s.setCh n fun c => { c with st := .fault, cause := some cause, faddr := faddr, faults := satNat 65535 (c.faults + 1) }
  let s := ((s.count 0x0C 1).queueRecord n r).dmaEmit 0x0401 n cause.code c.prog faddr
  if cause = .ecc then s.eccEmit faddr 2 n.val (ctxOfCh n) (ownerByte c.owner) else s

/-- FAULT_RECORD_QUEUED: a held record is queued when an entry is free (R348). -/
def execFaultRecordQueued (n : ChId) (s : State) : Out :=
  .next (match s.dma.ch[n].held with
    | some r => if s.dma.q15.length < 64 then s.queueRecord n r else s
    | none => s)

/-! ### Words through a context -/

/-- A word read through a channel's context. -/
def State.dmaRead (s : State) (n : ChId) (a : Nat) : Except DmaCause Word :=
  match s.translate (ctxOfCh n) a false with
  | .ok t => if s.dma.bad.contains (t / 4) then .error .ecc else .ok (word (ofLe (s.mem.readN t 4)))
  | .error e => .error e

/-- A whole word stored; its check bits are new (R350). -/
def State.storeWord (s : State) (t : Nat) (w : Word) : State :=
  { (s.onDma fun x => { x with bad := x.bad.filter fun b => b != t / 4 }) with mem := s.mem.writeN t (wordBytes w) }

/-- A word written through a channel's context. -/
def State.dmaWrite (s : State) (n : ChId) (a : Nat) (w : Word) : Except DmaCause State :=
  match s.translate (ctxOfCh n) a true with
  | .ok t => .ok (s.storeWord t w)
  | .error e => .error e

/-! ### Descriptors (R341) -/

/-- The words of a descriptor read in order, or the cause and the number of the first that fails. -/
def State.readDesc (s : State) (n : ChId) (a : Nat) : Nat → List Word → Except DmaCause (List Word)
  | 0, ws => .ok ws
  | m + 1, ws => match s.dmaRead n a with
    | .ok w => s.readDesc n (a + 4) m (ws ++ [w])
    | .error e => .error e

/-- The descriptor that its words spell. -/
def descOf (ws : List Word) : Desc :=
  { ctrl := ws.getD 0 0, len := (ws.getD 1 0).toNat, src := (ws.getD 2 0).toNat, dst := (ws.getD 3 0).toNat, next := (ws.getD 4 0).toNat }

/-- The operation of a descriptor: 1 COPY, 2 FILL, 3 DRAIN. -/
def Desc.op (d : Desc) : Nat := bits d.ctrl 24 4
def Desc.wrap (d : Desc) : Bool := bit d.ctrl 29
def Desc.drains (d : Desc) : Bool := d.op == 3

/-- A channel drains a queue. -/
def State.drainedBy (s : State) (q : Nat) (but : Option ChId) : Bool :=
  (idx 8).any fun m => some m != but && s.dma.ch[m].st == .run && s.dma.ch[m].desc.drains && s.dma.ch[m].desc.src == q

/-- What makes a descriptor faulty (R341). -/
def State.descBad (s : State) (n : ChId) (d : Desc) : Bool :=
  let overlap := decide (d.src < d.dst + d.len) && decide (d.dst < d.src + d.len)
  !(d.op == 1 || d.op == 2 || d.op == 3) || d.len % 4 != 0 || decide (d.len < 4) || decide (16777216 < d.len)
    || (d.drains && d.len % 32 != 0) || d.dst % 4 != 0 || d.next % 32 != 0 || (d.op == 1 && (d.src % 4 != 0 || overlap))
    || (d.wrap && !d.drains) || (d.drains && (!(d.src == 11 || d.src == 12) || s.drainedBy d.src (some n)))

/-- The descriptor at the current address is fetched: the channel runs, becomes idle at VALID = 0, or faults. The words
committed count from `prog`. -/
def State.fetchDesc (s : State) (n : ChId) (prog : Nat) : State :=
  let a := s.dma.ch[n].cur
  match s.readDesc n a 8 [] with
  | .error e => s.dmaFault n e 0 true false a 0
  | .ok ws =>
    let d := descOf ws
    if !bit d.ctrl 31 then s.setCh n fun c => { c with st := .idle, cause := none, faddr := 0, desc := d, prog := prog }
    else if s.descBad n d then s.dmaFault n .descriptor 0 true false a 0
    else s.setCh n fun c =>
      { c with st := .run, cause := none, faddr := 0, recQ := false, desc := d, prog := prog, burst := if prog = 0 then 0 else c.burst, fin := false }

/-- All words of the current descriptor are committed (R344). -/
def DmaCh.complete (c : DmaCh) : Bool := !c.desc.wrap && (c.fin || decide (c.desc.len ≤ 4 * c.prog))

/-! ### Bursts (R342 to R344) -/

/-- The queue a DRAIN empties, its entries in order. -/
def State.drainQueue (s : State) (q : Nat) : List (List Byte) :=
  if q = 11 then s.gns.q11.take s.gns.q11Taken else s.eng.q12

/-- The entry at the head of a drained queue leaves it. -/
def State.dropHead (s : State) (q : Nat) : State :=
  if q = 11 then s.onGns fun g => { g with q11 := g.q11.drop 1, q11Taken := g.q11Taken - 1 }
  else s.onEng fun e => { e with q12 := e.q12.drop 1 }

/-- The ring of a WRAP drain is full (R344). -/
def DmaCh.ringFull (c : DmaCh) : Bool := c.desc.wrap && (c.wrptr + 32) % c.desc.len == c.rdptr

/-- A channel has a burst ready. -/
def State.chReady (s : State) (n : ChId) : Bool :=
  let c := s.dma.ch[n]
  c.st == .run && !c.complete && (!c.desc.drains || (!(s.drainQueue c.desc.src).isEmpty && !c.ringFull))

/-- The class of a channel: a DRAIN is real-time (R340). -/
def DmaCh.realTime (c : DmaCh) : Bool := c.desc.drains

/-- The ready channel of a class next after the one served last (R343). -/
def State.nextCh (s : State) (rt : Bool) : Option ChId :=
  let last := if rt then s.dma.lastRt else s.dma.lastBk
  ((List.range 8).map fun j => (Fin.ofNat 8 (last + 1 + j) : Fin 8)).find? fun n =>
    s.chReady n && s.dma.ch[n].realTime == rt

/-- The destination of the next word. -/
def DmaCh.dest (c : DmaCh) : Nat :=
  if c.desc.wrap then c.desc.dst + (4 * c.prog) % c.desc.len else c.desc.dst + 4 * c.prog

/-- The next word of a channel: what is read, or why not. -/
def State.source (s : State) (n : ChId) : Except DmaCause Word :=
  let c := s.dma.ch[n]
  match c.desc.op with
  | 1 => s.dmaRead n (c.desc.src + 4 * c.prog)
  | 2 => .ok (word c.desc.src)
  | _ => .ok (word (ofLe ((((s.drainQueue c.desc.src).headD []).drop (4 * (c.prog % 8))).take 4)))

/-- A word has been committed; the last word of a queue entry takes the entry off its queue (R344). -/
def State.advance (s : State) (n : ChId) : State :=
  let c := s.dma.ch[n]
  let prog := c.prog + 1
  if c.desc.drains ∧ prog % 8 = 0 then
    let e := (s.drainQueue c.desc.src).headD []
    let ends := c.desc.src == 12 && ((e.getD 3 0).getLsbD 0 || (e.getD 3 0).getLsbD 1)
    (s.dropHead c.desc.src).setCh n fun c =>
      { c with prog := prog, fin := c.fin || ends, wrptr := if c.desc.wrap then (4 * prog) % c.desc.len else c.wrptr }
  else s.setCh n fun c => { c with prog := prog }

/-- At most `m` words of a burst, `k` of them already committed: the burst stops at a fault, at the end of the
descriptor, when a drained queue is empty or its ring full. -/
def State.burstWords (s : State) (n : ChId) : Nat → Nat → State
  | 0, _ => s
  | m + 1, k =>
    let c := s.dma.ch[n]
    if c.complete ∨ (c.desc.drains ∧ c.prog % 8 = 0 ∧ ((s.drainQueue c.desc.src).isEmpty ∨ c.ringFull)) then s
    else match s.source n with
      | .error e => s.dmaFault n e 0 false false (c.desc.src + 4 * c.prog) k
      | .ok w => match s.dmaWrite n c.dest w with
        | .error e => s.dmaFault n e 1 false false c.dest k
        | .ok s => (s.advance n).burstWords n m (k + 1)

/-- Words to the next 256-byte boundary of an address. -/
def toBoundary (a : Nat) : Nat := (256 - a % 256) / 4

/-- The words of the next burst: up to 256 bytes, to the next boundary of source or destination (R342). -/
def DmaCh.burstLen (c : DmaCh) : Nat :=
  let d := toBoundary c.dest
  if c.desc.op = 1 then min d (toBoundary (c.desc.src + 4 * c.prog)) else d

/-- DMA_BURST: the next ready burst, real-time before bulk, in rotation within a class (R342, R343, R347). -/
def execDmaBurst (s : State) : Out :=
  .next (
    let go (rt : Bool) (n : ChId) : State :=
      let s := s.onDma fun x => if rt then { x with lastRt := n.val } else { x with lastBk := n.val }
      let s := s.burstWords n s.dma.ch[n].burstLen 0
      if s.dma.ch[n].st = .run then s.setCh n fun c => { c with burst := c.burst + 1 } else s
    match s.nextCh true, s.nextCh false with
    | some n, _ => go true n
    | none, some n => go false n
    | none, none => s)

/-- DMA_FAULT: the word that channel `n` has reached after `k` more of its burst fails, and the channel stops there (R347).
`ecc` names an SRAM word found with an uncorrectable error; it stays so until it is written. -/
def execDmaFault (n : ChId) (k : Nat) (ecc : Option Nat) (s : State) : Out :=
  .next (
    let marked := match ecc with
      | some a => if isSram a then s.onDma fun x => { x with bad := a / 4 :: x.bad.filter fun b => b != a / 4 } else s
      | none => s
    if marked.dma.ch[n].st ≠ .run then marked
    else
      let t := marked.burstWords n (min (k + 1) marked.dma.ch[n].burstLen) 0
      if t.dma.ch[n].st = .fault then t else marked)

/-! ### Completion (R346) -/

/-- Words written back into the descriptor in order; the first that fails is a fault of the descriptor. -/
def State.writeBack (s : State) (n : ChId) : List (Nat × Word) → State × Bool
  | [] => (s, true)
  | (a, w) :: ws => match s.dmaWrite n a w with
    | .ok s => s.writeBack n ws
    | .error e => (s.dmaFault n e 1 true false s.dma.ch[n].cur 0, false)

/-- DESCRIPTOR_DONE: DONE, STATUS and the time are written back, VALID cleared, the owner notified, NEXT followed
(R346). -/
def execDescriptorDone (n : ChId) (s : State) : Out :=
  .next (
    let c := s.dma.ch[n]
    if c.st ≠ .run ∨ !c.complete then s
    else
      let frac := s.now % 2 ^ 32
      match s.writeBack n [(c.cur + 20, word c.prog), (c.cur + 24, word Status.ok.code), (c.cur + 28, word frac),
          (c.cur, c.desc.ctrl &&& 0x7FFFFFFF)] with
      | (s, false) => s
      | (s, true) =>
        let s := s.setCh n fun c => { c with descs := (c.descs + 1) % 65536, burst := 0 }
        let body := le 1 n.val ++ zeros 3 ++ le 4 c.cur ++ le 4 c.prog ++ le 1 Status.ok.code ++ zeros 3 ++ s.stamp ++ zeros 4
        let s := match c.owner with | some k => if bit c.desc.ctrl 30 then s.notify k 2 body else s | none => s
        if c.desc.next = 0 then s.setCh n fun c => { c with st := .idle }
        else (s.setCh n fun x => { x with cur := c.desc.next }).fetchDesc n 0)

/-! ### Commands (R345, R350) -/

/-- The session owns the channel. -/
def State.owns (s : State) (k : SessId) (n : ChId) : Bool := s.ownsCh k n.val

/-- CLAIM. -/
def State.cmdClaim (s : State) (n : ChId) (k : SessId) : State × Status :=
  if 6 ≤ n.val then (s, .denied)
  else if s.dma.ch[n].owner.isSome then (s, .busy) else (s.setCh n fun c => { c with owner := some k }, .ok)

/-- RELEASE. -/
def State.cmdDmaRelease (s : State) (n : ChId) (k : SessId) : State × Status :=
  match firstFail [(s.owns k n, .denied), (s.dma.ch[n].st == .idle, .notReady)] with
  | .ok => ((s.setCh n fun c => { c with owner := none }).dropEntries (ctxOfCh n), .ok)
  | st => (s, st)

/-- START. -/
def State.cmdDmaStart (s : State) (n : ChId) (k : SessId) : State × Status :=
  match firstFail [(s.owns k n, .denied), (s.dma.ch[n].st == .idle, .notReady), (s.dma.ch[n].descA.toNat % 32 == 0, .limit)] with
  | .ok =>
    let s := s.setCh n fun c => { c with cur := c.descA.toNat, rdptr := 0, wrptr := 0, burst := 0 }
    (s.fetchDesc n 0, .ok)
  | st => (s, st)

/-- ABORT: what is outstanding commits, and the channel is idle (R345). -/
def State.cmdDmaAbort (s : State) (n : ChId) (k : SessId) : State × Status :=
  if !s.owns k n then (s, .denied)
  else if s.dma.ch[n].st = .idle then (s, .ok)
  else
    let s := s.setCh n fun c => { c with st := .idle, cause := none, faddr := 0 }
    (s.dmaEmit 0x0403 n 0 s.dma.ch[n].prog s.dma.ch[n].cur, .ok)

/-- RESUME (R350). -/
def State.cmdResume (s : State) (n : ChId) (k : SessId) : State × Status :=
  match firstFail [(s.owns k n, .denied), (s.dma.ch[n].st == .fault && s.dma.ch[n].recQ, .notReady)] with
  | .ok =>
    let s := s.dmaEmit 0x0402 n 0 s.dma.ch[n].prog s.dma.ch[n].cur
    (s.fetchDesc n s.dma.ch[n].prog, .ok)
  | st => (s, st)

/-- RDPTR: a multiple of 32 below LEN (R344). -/
def State.writeRdptr (s : State) (n : ChId) (v : Word) : State × Status :=
  let o := bits v 0 24
  if 6 ≤ n.val then (s, .denied)
  else if o % 32 ≠ 0 ∨ (s.dma.ch[n].st = .run ∧ s.dma.ch[n].desc.len ≤ o) then (s, .limit)
  else (s.setCh n fun c => { c with rdptr := o }, .ok)

/-- CLAIM. -/
def execClaim (n : ChId) (k : SessId) (s : State) : Out := .next (s.gated k (s.gate k rightDMA) fun s => s.cmdClaim n k)

/-- DMA_RELEASE. -/
def execDmaRelease (n : ChId) (k : SessId) (s : State) : Out := .next (s.gated k (s.gate k rightDMA) fun s => s.cmdDmaRelease n k)

/-- DMA_START. -/
def execDmaStart (n : ChId) (k : SessId) (s : State) : Out := .next (s.gated k (s.gate k rightDMA) fun s => s.cmdDmaStart n k)

/-- DMA_ABORT. -/
def execDmaAbort (n : ChId) (k : SessId) (s : State) : Out := .next (s.gated k (s.gate k rightDMA) fun s => s.cmdDmaAbort n k)

/-- RESUME. -/
def execResume (n : ChId) (k : SessId) (s : State) : Out := .next (s.gated k (s.gate k rightDMA) fun s => s.cmdResume n k)

/-- RDPTR_WRITE. -/
def execRdptrWrite (n : ChId) (v : Word) (k : SessId) (s : State) : Out :=
  .next (s.gated k (s.gate k rightDMA) fun s => s.writeRdptr n v)

/-! ### The end of a session (R349) -/

/-- The channels of a session at its end. -/
def State.dropOwner (s : State) (k : SessId) : State :=
  (idx 8).foldl (fun (s : State) (n : ChId) =>
    if s.dma.ch[n].owner = some k then
      let st := s.dma.ch[n].st
      let s := (s.dropEntries (ctxOfCh n)).setCh n fun c => { c with owner := none }
      if st = .run then s.dmaFault n .session 1 false true s.dma.ch[n].dest 0 else s
    else s) s

end Sys2Proof.Machine
end

