-- ==== Sys2Proof/Machine/EngOps.lean ====
section
/-! DEFINITION. The arithmetic of the control engine: EV and CF32 (R124, R125), routes (R126), the laws (R127 to R132),
limits, loads (R123), bank checks (R136), and the sinks and cascades of a slot (R128, R147). -/

namespace Sys2Proof.Machine

open Sys2Proof

/-! ### Numbers -/

/-- The EV range (R124). -/
def evMax : Int := 0x7FFFFFFF
def evMin : Int := -0x80000000
/-- A result saturated to the EV range (R124). -/
def satEv (v : Int) : Int := clampInt evMin evMax v
/-- The EV that a register word stands for. -/
def ev (w : Word) : Int := sbits w 0 32
/-- The word of an EV. -/
def evWord (v : Int) : Word := BitVec.ofInt 32 v

/-- The value of a CF32 coefficient (R125). -/
def cf (w : Word) : Rat := (sbits w 5 27 : Rat) * ((2 ^ bits w 0 5 : Nat) : Rat) / (2 ^ 40 : Nat)

/-- A coefficient times an EV, rounded to the nearest EV with ties away from zero (R125). -/
def mulCf (w : Word) (v : Int) : Int := satEv (roundAway (cf w * v))

/-- A value moved towards a target by at most a step. -/
def towards (cur target step : Int) : Int :=
  if cur ≤ target then min target (cur + step) else max target (cur - step)

/-! ### Recipe fields of a slot -/

def State.slotW (s : State) (n : SlotId) (k : Nat) : Word := s.rw secLAWS 1 n.val k
def State.law (s : State) (n : SlotId) : Nat := bits (s.slotW n 0) 28 4
/-- The Recipe uses the slot (R121, R482). -/
def State.slotUsed (s : State) (n : SlotId) : Bool := s.law n != 0
def State.slotOrd (s : State) (n : SlotId) : Nat := bits (s.slotW n 0) 24 3
def State.slotInit (s : State) (n : SlotId) : Nat := bits (s.slotW n 0) 22 2
def State.safemode (s : State) (n : SlotId) : Nat := bits (s.slotW n 0) 20 2
def State.trig (s : State) (n : SlotId) : Nat := bits (s.slotW n 0) 16 3
def State.tidx (s : State) (n : SlotId) : Nat := bits (s.slotW n 0) 8 7
def State.pipe (s : State) (n : SlotId) : Bool := bit (s.slotW n 0) 27
def State.spsrc (s : State) (n : SlotId) : Nat := bits (s.slotW n 1) 29 3
def State.spidx (s : State) (n : SlotId) : Nat := bits (s.slotW n 1) 21 7
def State.ffen (s : State) (n : SlotId) : Bool := bit (s.slotW n 1) 20
def State.fbsrc (s : State) (n : SlotId) : Nat := bits (s.slotW n 1) 18 2
def State.fbidx (s : State) (n : SlotId) : Nat := bits (s.slotW n 1) 10 7
def State.hset (s : State) (n : SlotId) : Nat := bits (s.slotW n 1) 5 5
def State.tfe (s : State) (n : SlotId) : Nat := bits (s.slotW n 2) 16 16
def State.emax (s : State) (n : SlotId) : Int := ev (s.slotW n 3)
def State.safeout (s : State) (n : SlotId) : Int := ev (s.slotW n 4)
def State.horate (s : State) (n : SlotId) : Int := ev (s.slotW n 5)

/-- The laws by their encoding. -/
abbrev lawPID2 : Nat := 1
abbrev lawBQ4 : Nat := 2
abbrev lawSS4 : Nat := 3
abbrev lawLIM : Nat := 4
abbrev lawDEMOD : Nat := 5
abbrev lawDLL : Nat := 6
abbrev lawPLL : Nat := 7

/-- A tracking slot, whose registers the host may not write (R133). -/
def State.isTracking (s : State) (n : SlotId) : Bool := s.law n == lawDLL || s.law n == lawPLL

def State.setSlot (s : State) (n : SlotId) (f : Slot → Slot) : State :=
  s.onEng fun x => { x with slots := upd x.slots n f }

/-- The bank in use, and the other. -/
def Slot.inUse (x : Slot) : Vector Word 48 := if x.bankB then x.wordsB else x.wordsA
def Slot.other (x : Slot) : Vector Word 48 := if x.bankB then x.wordsA else x.wordsB

/-- The word that holds DTCAP for a law (R134). -/
def dtcapWord (law : Nat) : Fin 48 := if law = lawPID2 then 11 else 45
/-- The words that hold UMIN and UMAX for a law. -/
def uminWord (law : Nat) : Fin 48 := if law = lawPID2 then 7 else if law = lawBQ4 then 21 else 30
def umaxWord (law : Nat) : Fin 48 := if law = lawPID2 then 8 else if law = lawBQ4 then 22 else 31
/-- The law clamps its output between UMIN and UMAX. -/
def hasU (law : Nat) : Bool := law = lawPID2 || law = lawBQ4 || law = lawSS4

/-! ### Limits (R20, R135, R144; LIMITS 0x02) -/

def State.slotLim (s : State) (n : SlotId) (k : Nat) : Word := s.rw secLIMITS 2 n.val k
def State.hasSlotLim (s : State) (n : SlotId) : Bool := s.hasRec secLIMITS 2 n.val

/-- A set-point clamped to LIMITS (R144). -/
def State.clampSp (s : State) (n : SlotId) (v : Int) : Int :=
  if s.hasSlotLim n then clampInt (ev (s.slotLim n 0)) (ev (s.slotLim n 1)) v else v
/-- A set-point within LIMITS. -/
def State.spInLimits (s : State) (n : SlotId) (v : Int) : Bool := s.clampSp n v == v
/-- An output clamped to LIMITS (R20). -/
def State.clampOut (s : State) (n : SlotId) (v : Int) : Int :=
  if s.hasSlotLim n then clampInt (ev (s.slotLim n 2)) (ev (s.slotLim n 3)) v else v

/-- A bank word as the number its format stands for (R134): CF32, EV or a count. -/
def wordValue (law k : Nat) (w : Word) : Rat :=
  let isCf := (law = lawPID2 && decide (k ≤ 6)) || (law = lawBQ4 && decide (k ≤ 20))
    || (law = lawSS4 && decide (k ≤ 29)) || (law = lawDEMOD && k == 3)
  let isEv := (law = lawPID2 && decide (7 ≤ k ∧ k ≤ 10)) || (law = lawBQ4 && decide (k = 21 ∨ k = 22))
    || (law = lawSS4 && decide (k = 30 ∨ k = 31)) || (law = lawLIM && decide (k ≤ 3))
  if isCf then cf w else if isEv then ev w else (w.toNat : Nat)

/-- A bank word lies within the slot's pair of LIMITS for it, if the record has one (R135). -/
def State.wordInLimits (s : State) (n : SlotId) (k : Nat) (w : Word) : Bool :=
  let ws := (findRec s.rcp.recs secLIMITS 2 n.val).getD []
  if 4 + 2 * k + 1 < ws.length then
    let v := wordValue (s.law n) k w
    decide (wordValue (s.law n) k (ws.getD (4 + 2 * k) 0) ≤ v)
      && decide (v ≤ wordValue (s.law n) k (ws.getD (4 + 2 * k + 1) 0))
  else true

/-! ### Rates and loads (R29, R122, R123) -/

/-- The least TPER of a mode (R136). -/
def modeMinTper : Mode → Nat
  | .simmer => 214749 | .boil => 85900 | .sear => 42950

/-- The fastest law-slot rate of a mode, Hz (R29). -/
def modeSlotHz : Mode → Nat
  | .simmer => 20000 | .boil => 50000 | .sear => 100000

/-- The ENG clock of a mode, Hz (R29). -/
def modeEngHz : Mode → Nat
  | .simmer => 120000000 | .boil => 240000000 | .sear => 240000000

/-- ENG cycles of one evaluation (R122). -/
def lawCycles (law ord : Nat) : Nat :=
  if law = lawPID2 then 64 else if law = lawBQ4 then 16 + 32 * ord
  else if law = lawSS4 then (match ord with | 1 => 40 | 2 => 64 | 3 => 96 | _ => 136)
  else if law = lawLIM then 24 else if law = lawDEMOD then 32 else if law = 0 then 0 else 48

/-- The load of one slot on its pipeline in a mode, with a TPER (R122, R123). -/
def State.slotLoad (s : State) (m : Mode) (n : SlotId) (tper : Nat) : Rat :=
  let law := s.law n
  if law = 0 then 0
  else
    let rate : Rat := if s.trig n = 0 ∧ law ≠ lawDEMOD then
        (if tper = 0 then 0 else (2 ^ 32 : Nat) / (tper : Nat)) else (modeSlotHz m : Nat)
    let perSample : Rat := if law = lawDEMOD then 4 * 2000000 else 0
    (rate * (lawCycles law (s.slotOrd n) : Nat) + perSample) / (modeEngHz m : Nat)

/-- The TPER in force of a slot; 0 for a trigger other than rate. -/
def State.tper (s : State) (n : SlotId) : Nat := if s.trig n = 0 then (s.eng.slots[n].inUse[46]).toNat else 0

/-- The slot runs on pipeline B in a mode (R122). -/
def State.onPipeB (s : State) (m : Mode) (n : SlotId) : Bool := m == .sear && s.pipe n

/-- The load of a pipeline in a mode, with one slot's TPER replaced (R123). -/
def State.pipeLoad (s : State) (m : Mode) (b : Bool) (with' : Option (SlotId × Nat)) : Rat :=
  (idx 128).foldl (fun a n =>
    if s.onPipeB m n = b then
      a + s.slotLoad m n (match with' with | some (k, t) => if k = n then t else s.tper n | none => s.tper n)
    else a) 0

/-- The load of every pipeline is within 80 % (R123). -/
def State.loadOk (s : State) (m : Mode) (with' : Option (SlotId × Nat)) : Bool :=
  decide (s.pipeLoad m false with' ≤ 4 / 5) && decide (s.pipeLoad m true with' ≤ 4 / 5)

/-- The checks of R136 on a bank of a slot, but for the load. -/
def State.bankOk (s : State) (n : SlotId) (m : Mode) (w : Vector Word 48) : Bool :=
  let law := s.law n
  let rate := s.trig n == 0
  let t := w[46].toNat
  (!(hasU law) || decide (ev w[uminWord law] < ev w[umaxWord law]))
    && (law != lawLIM || (decide (ev w[0] < ev w[1]) && decide (0 ≤ ev w[2]) && decide (0 ≤ ev w[3])))
    && (law != lawPID2 || (decide (ev w[9] ≤ 0) && decide (0 ≤ ev w[10])))
    && (if rate then decide (modeMinTper m ≤ t) else t == 0 && w[47] == 0)
    && (law == lawDEMOD || decide (42950 ≤ w[dtcapWord law].toNat))

/-! ### Routes (R126, R283, R284) -/

/-- The LINK record of a sink. -/
def State.linkTo (s : State) (sink : Nat) : Option (List Word) :=
  (s.rcp.recs.find? fun r => r.sec == secROUTE && r.typ == 1 && bits (r.words.getD 0 0) 0 11 == sink).map Rec.words

/-- A value source as the number that enters a route (R126): registers raw, slot outputs and demands as EV. -/
def State.routeSource (s : State) (src : Nat) : Rat :=
  if src < 0x20 then (sbits (s.invalOf (Fin.ofNat 32 src)) 0 32 : Int)
  else if src < 0x40 then (s.freq (Fin.ofNat 32 (src - 0x20)) : Nat)
  else if 0x80 ≤ src ∧ src < 0x100 then (s.slotOut (Fin.ofNat 128 (src - 0x80)) : Rat) / 65536
  else if 0x100 ≤ src ∧ src < 0x180 then (s.sct.sects[(Fin.ofNat 128 (src - 0x100) : SectId)].demand : Rat) / 65536
  else if 0x240 ≤ src ∧ src < 0x260 then
    (sbits (word s.mon.counters[(Fin.ofNat 32 (src - 0x240) : MonId)].cnt) 0 32 : Int)
  else 0

/-- A value through the scale and offset of a LINK to a port, in the raw units of that sink (R126). -/
def routed (link : List Word) (v : Rat) : Int := roundAway (v * cf (link.getD 1 0) + (sbits (link.getD 2 0) 0 32 : Int))

/-- The value a LINK brings to a slot's input: source × SCALE is the number that the EV stands for, as in the worked
example of the chapter (SCALE 0.75/256 t/h per unit), and OFFSET is an EV (R126). None without a LINK. -/
def State.inputOf (s : State) (sink : Nat) : Option Int :=
  (s.linkTo sink).map fun l =>
    satEv (roundAway (s.routeSource (bits (l.getD 0 0) 16 11) * cf (l.getD 1 0) * 65536 + (ev (l.getD 2 0) : Rat)))

/-- The LINKs whose source is the output of a slot and whose sink is a port: the ports, with their LINK (R284). -/
def State.portSinks (s : State) (n : SlotId) : List (PortId × List Word) :=
  (s.rcp.recs.filter fun r => r.sec == secROUTE && r.typ == 1 && bits (r.words.getD 0 0) 16 11 == 0x80 + n.val
      && decide (bits (r.words.getD 0 0) 0 11 < 0x20)).map fun r =>
    (Fin.ofNat 32 (bits (r.words.getD 0 0) 0 11), r.words)

/-- The value a port receives from a slot's output, clamped to the range of the sink (R126). -/
def State.portValue (s : State) (p : PortId) (l : List Word) (o : Int) : Int :=
  let v := routed l ((o : Rat) / 65536)
  if s.cmode p then clampInt (-32 * 256) (32 * 256) v else clampInt 0 65535 v

/-! ### Sources of a slot (R144 to R146) -/

/-- A port source is lost (R145): an input condition, STALE for a pulse source, or a bank that is away (R296, R441). -/
def State.portLost (s : State) (p : PortId) (pulse : Bool) : Bool :=
  let v := s.presentAt p
  hasBit v .range || hasBit v .sensOpen || hasBit v .sensShort || (pulse && s.ports[p].stale) || s.ports[p].srcLost

/-- The set-point source is lost (R145). -/
def State.spLostNow (s : State) (n : SlotId) : Bool :=
  match s.spsrc n with
  | 2 => s.portLost (Fin.ofNat 32 (s.spidx n)) false
  | 3 => s.portLost (Fin.ofNat 32 (s.spidx n)) true
  | 4 => s.slotFaulted (Fin.ofNat 128 (s.spidx n))
  | _ => false

/-- The feedback source is lost (R146). A DEMOD or LIM slot has no feedback. -/
def State.fbLostNow (s : State) (n : SlotId) : Bool :=
  if s.law n = lawDEMOD || s.law n = lawLIM || s.isTracking n then false
  else match s.fbsrc n with
    | 0 => s.portLost (Fin.ofNat 32 (s.fbidx n)) false
    | 1 => s.portLost (Fin.ofNat 32 (s.fbidx n)) true
    | _ => s.slotFaulted (Fin.ofNat 128 (s.fbidx n))

/-- The set-point of a sample, from its source (R144). -/
def State.setpoint (s : State) (n : SlotId) : Int :=
  let x := s.eng.slots[n]
  match s.spsrc n with
  | 0 => ev x.sp
  | 1 => ev x.stepSp
  | _ => if s.spLostNow n then x.spv else s.clampSp n ((s.inputOf (0x80 + n.val)).getD x.spv)

/-- The feedback of a sample. -/
def State.feedback (s : State) (n : SlotId) : Int :=
  if s.fbLostNow n then s.eng.slots[n].fb else (s.inputOf (0x100 + n.val)).getD s.eng.slots[n].fb

/-- The feedforward input: f = r unless FFEN (R127). -/
def State.feedfwd (s : State) (n : SlotId) (r : Int) : Int :=
  if s.ffen n then (s.inputOf (0x180 + n.val)).getD 0 else r

/-- dt of a sample in seconds, capped at DTCAP: the time since the last evaluated sample; at first use, and before any
sample, TPER for a rate trigger and DTCAP otherwise (R140). A DEMOD slot has no DTCAP. -/
def State.sampleDt (s : State) (n : SlotId) : Rat :=
  let x := s.eng.slots[n]
  let cap : Rat := ((x.inUse[dtcapWord (s.law n)]).toNat : Nat) / (2 ^ 32 : Nat)
  let capped (d : Rat) : Rat := if s.law n = lawDEMOD then d else min cap d
  let fresh : Rat := if s.trig n = 0 then ((s.tper n : Nat) : Rat) / (2 ^ 32 : Nat) else cap
  match x.lastEval with
  | some t => capped (if x.firstUse && x.mode == .auto then fresh else ((s.tick - t : Nat) : Rat) / 120000000)
  | none => capped fresh

/-! ### The laws -/

/-- The terms of a PID2 sample (R127). -/
structure PidTerms where
  p  : Int
  d  : Int
  ff : Int
  df : Int
  v  : Int
deriving DecidableEq, Repr, Inhabited

/-- The terms of a PID2 sample with a bank; `quiet` suppresses the derivative (R127, R154). -/
def pidTerms (w : Vector Word 48) (x : Slot) (r y f : Int) (dt : Rat) (quiet : Bool) : PidTerms :=
  let p := mulCf w[0] (mulCf w[4] r - y)
  let ff := mulCf w[6] f
  let v := mulCf w[5] r - y
  let df0 := if x.vprev.isNone then 0 else x.df
  let vp := x.vprev.getD v
  let tf := cf w[3]
  let df := if dt = 0 || tf + dt = 0 then df0 else
    clampInt (-2 ^ 63) (2 ^ 63 - 1) (roundAway
      ((df0 : Rat) + (cf w[2] * ((v - vp) * 65536 : Int) / dt - df0) * dt / (tf + dt)))
  let d := if quiet then 0 else satEv (roundAway ((df : Rat) / 65536))
  { p := p, d := d, ff := ff, df := df, v := v }

/-- The saturation state holds an integrator step of this sign (R128). -/
def Sat.holds (q : Sat) (x : Int) : Bool := (q.high && decide (0 < x)) || (q.low && decide (x < 0)) || (q.high && q.low)

/-- The integrator after one sample (R127). -/
def pidIntegrate (w : Vector Word 48) (x : Slot) (e : Int) (dt : Rat) (hold : Bool) : Int :=
  let sign := (if 0 < sbits w[1] 5 27 then 1 else if sbits w[1] 5 27 < 0 then -1 else 0) * e
  let i := if hold || x.sat.holds sign then x.integ else x.integ + roundAway (cf w[1] * dt * e)
  clampInt (ev w[9]) (ev w[10]) i

/-- The cascade of BQ4 sections: new states and output (R129). -/
def biquads (w : Vector Word 48) (ord : Nat) : Nat → Vector Int 4 → Vector Int 4 → Int → Vector Int 4 × Vector Int 4 × Int
  | 0, z1, z2, x => (z1, z2, x)
  | k + 1, z1, z2, x =>
    let i := ord - (k + 1)
    if h : i < 4 then
      let at5 (j : Nat) : Word := w.toList.getD (1 + 5 * i + j) 0
      let o := satEv (mulCf (at5 0) x + z1[i])
      let a := satEv (mulCf (at5 1) x - mulCf (at5 3) o + z2[i])
      let b := satEv (mulCf (at5 2) x - mulCf (at5 4) o)
      biquads w ord k (z1.set i a) (z2.set i b) o
    else (z1, z2, x)

/-- The input a BQ4 slot passes on: e, y or r (R129). -/
def bqInput (w : Vector Word 48) (r y : Int) : Int :=
  match w[23].toNat with | 0 => r - y | 1 => y | _ => r

/-- Row `i` of A·x + B·[r, y], or of C·x + D·[r, y] (R130). -/
def ssRow (ord : Nat) (a : Nat → Word) (b0 b1 : Word) (x : Vector Int 4) (r y : Int) : Int :=
  ((idx 4).filter fun j => decide (j.val < ord)).foldl (fun acc j => acc + mulCf (a j.val) x[j])
    (mulCf b0 r + mulCf b1 y)

/-- An SS4 sample: the output from the state before the update, and the new state (R130). -/
def ssStep (w : Vector Word 48) (ord : Nat) (x : Vector Int 4) (r y : Int) : Vector Int 4 × Int :=
  let g (k : Nat) : Word := w.toList.getD k 0
  let u := ssRow ord (fun j => g (24 + j)) w[28] w[29] x r y
  let x' := updAll x fun i v =>
    if i.val < ord then satEv (ssRow ord (fun j => g (4 * i.val + j)) (g (16 + 2 * i.val)) (g (17 + 2 * i.val)) x r y)
    else v
  (x', u)

/-- A LIM sample: the output moves towards the clamped input within the rates; a rate of 0 sets no limit (R131). -/
def limStep (w : Vector Word 48) (u r : Int) (dt : Rat) : Int :=
  let target := clampInt (ev w[0]) (ev w[1]) r
  if u ≤ target then
    if ev w[2] = 0 then target else towards u target (roundAway (ev w[2] * dt))
  else if ev w[3] = 0 then target else towards u target (roundAway (ev w[3] * dt))

/-- The nearest integer square root. -/
def isqrt (n : Nat) : Nat := let r := Nat.sqrt n; if r * r + r < n then r + 1 else r

/-- The demodulated pair (I, Q) of the converter samples of one output: each sample has its position in the excitation
period in 2^-32 periods and its value (R132). -/
def demodulate (w : Vector Word 48) (xs : List (Nat × Int)) : Int × Int :=
  let sgn (t : Nat) : Int := if t % 2 ^ 32 < 2 ^ 31 then 1 else -1
  let th (e : Nat × Int) : Nat := e.1 + 2 ^ 32 - w[1].toNat
  let si := xs.foldl (fun a e => a + sgn (th e) * e.2) 0
  let sq := xs.foldl (fun a e => a + sgn (th e + 2 ^ 32 - 2 ^ 30) * e.2) 0
  let mean (t : Int) : Rat := if xs.isEmpty then 0 else (t : Rat) / (xs.length : Nat)
  (satEv (roundAway (cf w[3] * mean si)), satEv (roundAway (cf w[3] * mean sq)))

/-! ### Sinks and cascades (R128, R147, R153) -/

/-- What the port sinks of a slot report: both when one is forced, faulted or passive, else the clamps of R20. -/
def State.sinkSat (s : State) (n : SlotId) (o : Int) : Sat :=
  (s.portSinks n).foldl (fun a e =>
    let p := e.1
    if s.ports[p].forced.isSome || s.faulted p || s.ports[p].status == .passive then ⟨true, true⟩
    else
      let v := routed e.2 ((o : Rat) / 65536)
      let c := s.clampOwner p (s.portValue p e.2 o)
      ⟨a.high || decide (c < v), a.low || decide (v < c)⟩)
    ⟨decide (s.clampOut n o < o), decide (o < s.clampOut n o)⟩

/-- The inner slot of a cascade: one that takes its set-point from slot `n` (R147). -/
def State.innerOf (s : State) (n : SlotId) : Option SlotId :=
  (s.rcp.recs.find? fun r => r.sec == secLAWS && r.typ == 1 && bits (r.words.getD 0 0) 28 4 != 0
      && bits (r.words.getD 1 0) 29 3 == 4 && bits (r.words.getD 1 0) 21 7 == n.val).map fun r => Fin.ofNat 128 r.idx

/-- What an inner slot in AUTO makes of its outer slot's saturation (R147). -/
def State.cascadeSat (s : State) (n : SlotId) : Sat :=
  match s.innerOf n with
  | none => {}
  | some m =>
    let y := s.eng.slots[m]
    if y.mode != .auto || (!y.sat.high && !y.sat.low) then {}
    else if s.law m ≠ lawPID2 then ⟨true, true⟩
    else
      let kp := sbits y.inUse[0] 5 27
      let ki := sbits y.inUse[1] 5 27
      let dir := if kp ≠ 0 then kp else ki
      if 0 < dir then y.sat else if dir < 0 then ⟨y.sat.low, y.sat.high⟩ else ⟨true, true⟩

/-- Two saturation reports together. -/
def Sat.or (a b : Sat) : Sat := ⟨a.high || b.high, a.low || b.low⟩

/-- The members of a slot's hand-over set, itself included (R153). -/
def State.setOf (s : State) (n : SlotId) : List SlotId :=
  if s.hset n = 0 then [n] else (idx 128).filter fun m => decide (s.hset m = s.hset n) && s.slotUsed m

/-- Another member of the hand-over set drives the sink (R148). -/
def State.otherDrives (s : State) (n : SlotId) : Bool :=
  (s.setOf n).any fun m => decide (m ≠ n) && (s.eng.slots[m].mode == .auto || s.eng.slots[m].mode == .manual)

/-! ### Presentation and the safe output (R20, R141, R156) -/

/-- The output of a slot reaches its port sinks under R20 and R126. -/
def State.toSinks (s : State) (n : SlotId) (o : Int) : State :=
  (s.portSinks n).foldl (fun s e =>
    (s.setPort e.1 fun x => { x with ownerVal := s.clampOwner e.1 (s.portValue e.1 e.2 o) }).settle e.1) s

/-- A slot's output is presented: it reads in CENn_OUT, reaches the sinks, and becomes the value last applied for every
member of the hand-over set; a value that is not the safe output ends first use (R141, R154). -/
def State.applyOut (s : State) (n : SlotId) (o : Int) (safe : Bool) : State :=
  let o := s.clampOut n o
  let set := s.setOf n
  let s := s.setSlot n fun x => { x with out := o }
  let s := s.onEng fun z => { z with slots := updAll z.slots fun m x => if set.contains m then { x with applied := some o, firstUse := x.firstUse && safe && (m == n) } else x }
  (s.toSinks n o).present (0x80 + n.val) o

/-- The value that a slot's safe output applies (R156). -/
def State.safeValue (s : State) (n : SlotId) : Int :=
  if s.safemode n = 1 then s.eng.slots[n].applied.getD (s.safeout n) else s.safeout n

/-- The safe output: its value, and with SAFEMODE 0b10 an OFF to the port once some value has been applied (R156,
R481). -/
def State.applySafe (s : State) (n : SlotId) : State :=
  let any := s.eng.slots[n].applied.isSome
  let s' := s.applyOut n (s.safeValue n) true
  if s.safemode n = 2 && any then
    (s.portSinks n).foldl (fun s e => State.presented (s.presentOff e.1 (.safeOutput n)) (.safeOutput n)) s'
  else s'

/-! ### Events and Takes (R161 to R163) -/

/-- CENn_STAT of a slot. -/
def Slot.stat (x : Slot) : Nat :=
  put x.mode.code 29 3 + put x.fcause.code 26 3 + flagAt x.bankB 25 + flagAt x.swpend 24 + flagAt x.modePend.isSome 23
    + flagAt x.ramp 22 + flagAt (decide (0 < x.first)) 21 + flagAt x.track 20 + put x.sat.code 18 2
    + flagAt x.sphold 17 + flagAt x.feSince.isSome 16 + put x.resrun 0 2

/-- An engine event (R163). -/
def State.engEv (s : State) (code : Nat) (n : SlotId) (a b : Int) : Ev :=
  { code := code,
    payload := le 1 n.val ++ le 1 (s.eng.slots[n].stat / 2 ^ 24) ++ le 1 (s.law n) ++ zeros 1 ++ leInt 4 a ++ leInt 4 b
      ++ s.stamp ++ zeros 4 }

def State.setTake (s : State) (f : Take → Take) : State := s.onEng fun x => { x with take := f x.take }

/-- An entry put into Q12. -/
def State.pushQ12 (s : State) (b : List Byte) : State :=
  let s := s.onEng fun x => { x with q12 := x.q12 ++ [fit 32 b] }
  s.noteFill 12 s.eng.q12.length

/-- A Take ends early: the end entry with EARLY and the reason goes into the free entry kept for it (R162). -/
def State.takeEarly (s : State) (reason : Nat) : State :=
  let t := s.eng.take
  if t.status = .running then
    let s := s.pushQ12 (le 2 t.count ++ le 1 t.slot.val ++ le 1 (2 + 32 * reason))
    let s := s.setTake fun t => { t with status := .early, reason := reason }
    s.emit (s.engEv 0x080B t.slot t.count reason)
  else s

/-- A slot enters FAULT: the safe output, the cause, the event, and the end of a Take on it (R146, R155, R158, R162). -/
def State.slotFault (s : State) (n : SlotId) (c : FCause) (code : Nat) (a b : Int) : State :=
  let x := s.eng.slots[n]
  let s := match x.modePend with
    | some (_, src) => s.answer src .faulted
    | none => s
  let s := s.setSlot n fun x =>
    { x with mode := .fault, fcause := c, modePend := none, ramp := false, track := false, feSince := none,
             vprev := none, df := 0, first := 0 }
  let s := s.applySafe n
  let s := s.emit (s.engEv code n a b)
  if s.eng.take.slot = n then s.takeEarly 3 else s

end Sys2Proof.Machine
end

