-- ==== Sys2Proof/Machine/Engine.lean ====
section
/-! DEFINITION. The meanings of the control engine's commands and events: the trigger of a slot in the order of R159,
modes and hand-over (R148 to R154), banks (R135 to R138), supervision (R145, R146, R155 to R158), Takes (R160 to R162). -/

namespace Sys2Proof.Machine

open Sys2Proof

/-! ### Takes: injection and capture -/

def Take.sig (t : Take) : Nat := bits t.cfg 20 2
def Take.atOutput (t : Take) : Bool := bit t.cfg 22
def Take.dec (t : Take) : Nat := bits t.cfg 8 8
def Take.holdn (t : Take) : Nat := bits t.cfg 0 8
/-- N, the number of samples that the Take spans (R160). -/
def Take.span (t : Take) : Nat := (t.len + 1) * t.dec

/-- The injection v on the present sample of the Take (R160). -/
def Take.value (t : Take) : Int :=
  match t.sig with
  | 0 => 0
  | 1 => ev t.amp
  | 2 => satEv (roundAway ((ev t.amp : Rat) * Config.sinTurns t.turns))
  | _ => if t.lfsr / 2 ^ 14 % 2 = 1 then ev t.amp else -(ev t.amp)

/-- The 15-bit LFSR of x^15 + x^14 + 1, one step on (R160). -/
def lfsrNext (x : Nat) : Nat := (2 * x) % 2 ^ 15 + (x / 2 ^ 14 + x / 2 ^ 13) % 2

/-- The Take one sample on (R160). -/
def Take.advance (t : Take) (dt : Rat) : Take :=
  { t with k := t.k + 1,
           turns := t.turns + Config.chirpHz (bits t.frq 0 16) (bits t.frq 16 16) t.k t.span * dt,
           lfsr := if t.holdn ≠ 0 ∧ (t.k + 1) % t.holdn = 0 then lfsrNext t.lfsr else t.lfsr }

/-- The Take runs on this slot. -/
def State.takeOn (s : State) (n : SlotId) : Bool := s.eng.take.status == .running && s.eng.take.slot == n

/-- The injection into a slot's set-point, or into its output (R160). -/
def State.inject (s : State) (n : SlotId) (out : Bool) : Int :=
  if s.takeOn n && s.eng.take.atOutput == out then s.eng.take.value else 0

/-- The slot is in the mode that the Take requires (R160, R162). -/
def State.takeModeOk (s : State) (n : SlotId) : Bool :=
  let m := s.eng.slots[n].mode
  m == .auto || (s.eng.take.atOutput && m == .manual)

/-- A captured sample becomes a Q12 entry, or ends the Take (R161, R162); `dt` is that of the sample. -/
def State.capture (s : State) (n : SlotId) (instant latency : Nat) (dt : Rat) (r : Int) (withheld : Bool) : State :=
  let t := s.eng.take
  if !s.takeOn n then s
  else if !s.takeModeOk n then s.takeEarly 2
  else
    let x := s.eng.slots[n]
    if t.dec ≠ 0 ∧ t.k % t.dec = 0 then
      if 127 ≤ s.eng.q12.length then s.takeEarly 1
      else
        let last := t.count = t.len
        let flags := flagAt last 0 + flagAt t.sawOvr 2 + flagAt (withheld || t.sawRes) 3
          + flagAt (x.sat.high || x.sat.low) 4
        let b := le 2 t.count ++ le 1 n.val ++ le 1 flags ++ le 4 instant ++ leInt 4 r ++ leInt 4 x.fb ++ leInt 4 x.out
          ++ leInt 4 (r - x.fb) ++ leInt 4 t.value ++ le 2 latency ++ le 2 (instant / 2 ^ 32)
        let s := s.pushQ12 b
        let s := s.setTake fun t => { t.advance dt with count := t.count + 1, sawOvr := false, sawRes := false }
        if last then
          let s := s.setTake fun t => { t with status := .done, reason := 0 }
          s.emit (s.engEv 0x080B n s.eng.take.count 0)
        else s
    else s.setTake fun t => { t.advance dt with sawRes := t.sawRes || withheld }

/-! ### One sample -/

/-- An evaluated sample: the slot after it, its output, the output before the clamp, and events to record. -/
structure Eval where
  x    : Slot
  o    : Int
  uraw : Int
  evs  : List (Nat × Int × Int) := []
deriving DecidableEq, Repr, Inhabited

/-- The output before the clamp and the slot with its states after one sample of a law, the integrator of PID2 apart. -/
def State.lawSample (s : State) (n : SlotId) (x : Slot) (w : Vector Word 48) (r y : Int) (dt : Rat)
    (xs : List (Nat × Int)) : Slot × Int :=
  let law := s.law n
  if law = lawBQ4 then
    let g := mulCf w[0] (bqInput w r y)
    let q := biquads w (s.slotOrd n) (s.slotOrd n) x.z1 x.z2 g
    ({ x with z1 := q.1, z2 := q.2.1 }, q.2.2)
  else if law = lawSS4 then
    let q := ssStep w (s.slotOrd n) x.x r y
    ({ x with x := q.1 }, q.2)
  else if law = lawLIM then (x, limStep w (x.applied.getD x.out) r dt)
  else if law = lawDEMOD then
    let q := demodulate w xs
    let m := satEv (isqrt (q.1 * q.1 + q.2 * q.2).toNat)
    match w[2].toNat with
    | 0 => ({ x with aux := q.2 }, q.1)
    | 1 => ({ x with aux := q.1 }, q.2)
    | _ => ({ x with aux := q.2 }, m)
  else (x, Config.trackingLaw n.val r y s.sys.draws)

/-- The output of a law clamped to [UMIN, UMAX], for the laws that have them. -/
def clampU (law : Nat) (w : Vector Word 48) (u : Int) : Int :=
  if hasU law then clampInt (ev w[uminWord law]) (ev w[umaxWord law]) u else satEv u

/-- The hand-over rate of one sample (R140, R151). -/
def State.hoStep (s : State) (n : SlotId) (dt : Rat) : Int := roundAway (s.horate n * dt)

/-- A PID2 sample in AUTO (R127, R137, R150, R151, R154). `enter` is a hand-over, `old` the bank a swap leaves. -/
def State.pidAuto (s : State) (n : SlotId) (x : Slot) (r y f : Int) (dt : Rat) (inj : Int) (enter : Bool)
    (old : Option (Vector Word 48)) : Eval :=
  let w := x.inUse
  let first := if enter && x.firstUse then 2 else x.first
  let t := pidTerms w x r y f dt (decide (0 < first))
  let base := t.p + t.d + t.ff
  let x := { x with df := t.df, vprev := some t.v, first := first - 1 }
  let lim (i : Int) : Int := clampInt (ev w[9]) (ev w[10]) i
  let out (i : Int) : Int := base + i + inj
  if enter && x.firstUse then
    let i := lim (t.ff - base)
    { x := { x with integ := i, aux := i, ramp := false }, o := clampU lawPID2 w (out i), uraw := out i }
  else if enter then
    let last := x.applied.getD t.ff
    let i0 := last - base
    let i := lim i0
    let u := clampU lawPID2 w (out i)
    let smooth := i0 == i && decide (ev w[7] ≤ last) && decide (last ≤ ev w[8])
    { x := { x with integ := i, aux := i, ramp := !smooth && last != u }, o := if smooth then last + inj else last, uraw := out i,
      evs := if smooth then [] else [(0x0804, last, u)] }
  else
    let go (i : Int) (evs : List (Nat × Int × Int)) : Eval :=
      let u := clampU lawPID2 w (out i)
      let o := if x.ramp then towards (x.applied.getD u) u (s.hoStep n dt) else u
      { x := { x with integ := i, aux := i, ramp := x.ramp && o != u }, o := o, uraw := out i, evs := evs }
    match old with
    | some ow =>
      let ot := pidTerms ow { x with df := s.eng.slots[n].df, vprev := s.eng.slots[n].vprev } r y f dt
        (decide (0 < first))
      let oi := pidIntegrate ow x (r - y) dt false
      let uOld := clampU lawPID2 ow (ot.p + oi + ot.d + ot.ff + inj)
      let i0 := uOld - inj - base
      let i := lim i0
      go i (if i0 = i then [] else [(0x0803, i0, i)])
    | none => go (pidIntegrate w x (r - y) dt false) []

/-- A sample in AUTO of a law other than PID2 (R129 to R132, R138, R152). -/
def State.lawAuto (s : State) (n : SlotId) (x : Slot) (r y : Int) (dt : Rat) (inj : Int) (xs : List (Nat × Int))
    (enter : Bool) (old : Option (Vector Word 48)) : Eval :=
  let law := s.law n
  let w := x.inUse
  if law = lawBQ4 ∨ law = lawSS4 then
    let x := if enter && x.firstUse then
        { x with z1 := Vector.replicate 4 0, z2 := Vector.replicate 4 0, x := Vector.replicate 4 0, offset := 0 }
      else x
    let q := s.lawSample n x w r y dt xs
    let u := clampU law w (q.2 + inj)
    let off := if enter && x.firstUse then 0
      else if enter then x.applied.getD u - u
      else match old with
        | some ow => clampU law ow ((s.lawSample n x ow r y dt xs).2 + inj) + x.offset - u
        | none => towards x.offset 0 (s.hoStep n dt)
    let last := x.applied.getD u
    let outside := decide (last < ev w[uminWord law]) || decide (ev w[umaxWord law] < last)
    { x := { q.1 with offset := off, aux := off }, o := satEv (u + off), uraw := q.2 + inj,
      evs := if enter && !x.firstUse && outside then [(0x0804, last, u)] else [] }
  else
    let q := s.lawSample n x w r y dt xs
    let u := if law = lawLIM && enter then x.applied.getD x.out else q.2
    { x := q.1, o := satEv (u + inj), uraw := u + inj }

/-- A sample in MANUAL or STANDBY: the law is evaluated with its integrator held (R148). -/
def State.heldSample (s : State) (n : SlotId) (x : Slot) (r y f : Int) (dt : Rat) (xs : List (Nat × Int)) :
    Slot × Int :=
  if s.law n = lawPID2 then
    let w := x.inUse
    let t := pidTerms w x r y f dt (decide (0 < x.first))
    ({ x with df := t.df, vprev := some t.v, first := x.first - 1, aux := x.integ }, t.p + t.d + t.ff + x.integ)
  else s.lawSample n x x.inUse r y dt xs

/-- The value an outer slot presents while its inner slot is not in AUTO; none where the route's SCALE is zero (R147). -/
def State.trackValue (s : State) (_n m : SlotId) : Option Int :=
  match s.linkTo (0x80 + m.val) with
  | some l =>
    let c := cf (l.getD 1 0)
    if c = 0 then none
    else some (satEv (roundAway (((s.eng.slots[m].fb - ev (l.getD 2 0) : Int) : Rat) / c)))
  | none => none

/-- The saturation of a sample (R128, R147, R151). -/
def State.sampleSat (s : State) (n : SlotId) (e : Eval) (lawU : Int) : Sat :=
  let law := s.law n
  let w := e.x.inUse
  let own : Sat := if hasU law then
      ⟨decide (ev w[umaxWord law] < e.uraw) || decide (evMax < e.uraw),
       decide (e.uraw < ev w[uminWord law]) || decide (e.uraw < evMin)⟩
    else ⟨decide (evMax < e.uraw), decide (e.uraw < evMin)⟩
  let own := if e.x.ramp then ⟨decide (lawU < e.o), decide (e.o < lawU)⟩ else own
  (own.or (s.sinkSat n e.o)).or (s.cascadeSat n)

/-! ### Pending changes -/

/-- The records of the unit Ln (R293). -/
def unitRec (n : SlotId) (r : Rec) : Bool :=
  (r.sec == secLAWS && r.idx == n.val) || (r.sec == secLIMITS && r.typ == 2 && r.idx == n.val)
    || (r.sec == secROUTE && r.typ == 1
        && [0x80 + n.val, 0x100 + n.val, 0x180 + n.val].contains (bits (r.words.getD 0 0) 0 11))

/-- The banks a Recipe gives a slot: bank B is a copy of A where none is given (R135). -/
def State.bankFromRecipe (s : State) (n : SlotId) (b : Bool) : Vector Word 48 :=
  let t := if b && s.hasRec secLAWS 3 n.val then 3 else 2
  Vector.ofFn fun k => s.rw secLAWS t n.val k.val

/-- The mode of an INIT field. -/
def initMode (i : Nat) : SlotMode := match i with | 1 => .manual | 2 => .auto | _ => .off

/-- A slot as the application of a Recipe starts it (R127, R135, R149, R154). -/
def State.freshSlot (s : State) (n : SlotId) : Slot :=
  { mode := initMode (s.slotInit n), req := initMode (s.slotInit n), wordsA := s.bankFromRecipe n false,
    wordsB := s.bankFromRecipe n true, sp := s.slotW n 6, manout := s.slotW n 4,
    onB := s.onPipeB s.sys.current n }

/-- The slot takes the records of the new Recipe (R297); the bank that a swap leaves, if the law is unchanged. -/
def State.takeUnit (s : State) (n : SlotId) : State × Option (Vector Word 48) :=
  let old := s.law n
  let ow := s.eng.slots[n].inUse
  let recs := s.rcp.recs.filter (fun r => !unitRec n r) ++ s.rcp.newRecs.filter (unitRec n)
  let s := s.onRcp fun x => { x with recs := recs, rldSlots := x.rldSlots.filter (· ≠ n.val) }
  let s := match s.eng.slots[n].modePend with
    | some (_, src) => s.answer src .notReady
    | none => s
  let f := s.freshSlot n
  let s := if s.law n = old then
      s.setSlot n fun x =>
        { x with wordsA := f.wordsA, wordsB := f.wordsB, bankB := false, swpend := false, modePend := none, req := x.mode,
                 sp := f.sp, df := if x.mode = .off ∨ x.mode = .fault then 0 else x.df, vprev := none }
    else s.setSlot n fun _ => f
  let s := s.emit (s.rcpEv 0x0207 s.rcp.inForce.other 1 n.val)
  (s, if s.law n = old then some ow else none)

/-- The slot is one a reload still has to take its records, and its turn has come (R295). -/
def State.unitDue (s : State) (n : SlotId) : Bool :=
  s.rcp.phase == .apply && s.rcp.rldBanks == 0 && s.rcp.rldSlots.contains n.val

/-- The slot is evaluated at this trigger, its pending mode request included (R148, R149). -/
def State.willEvaluate (s : State) (n : SlotId) : Bool :=
  let x := s.eng.slots[n]
  x.mode != .fault && (match x.modePend with
    | some (m, _) => (if m == .auto && s.fbLostNow n then x.mode else m) != .off
    | none => x.mode != .off)

/-- The pending swap, which waits for an evaluated sample, or the pending unit of a slot is taken: the bank it leaves
(R136, R159 step 2). -/
def State.takeSwap (s : State) (n : SlotId) : State × Option (Vector Word 48) :=
  if s.unitDue n then s.takeUnit n
  else
    let x := s.eng.slots[n]
    if x.swpend && s.willEvaluate n then (s.setSlot n fun x => { x with bankB := !x.bankB, swpend := false }, some x.inUse)
    else (s, none)

/-- The pending mode request taken at this sample: true when the slot newly drives by hand-over (R149 to R153). -/
def State.takeMode (s : State) (n : SlotId) : State × Bool :=
  let x := s.eng.slots[n]
  match x.modePend with
  | none => (s, false)
  | some (m, src) =>
    let s := s.setSlot n fun x => { x with modePend := none }
    if m = .auto && s.fbLostNow n then (s.answer src .notReady, false)
    else
      let s := s.answer src .ok
      if m = x.mode then (s, false)
      else
        let s := s.setSlot n fun x =>
          { x with mode := m, ramp := false, track := false, feSince := none,
                   vprev := if x.mode = .off then none else x.vprev, df := if x.mode = .off then 0 else x.df }
        if m = .auto ∨ m = .manual then
          let set := s.setOf n
          (s.onEng fun z => { z with slots := updAll z.slots fun k y => if set.contains k && k != n && (y.mode == .auto || y.mode == .manual) then { y with mode := .standby, req := .standby, ramp := false } else y }, true)
        else if m = .off then (if s.otherDrives n then (s, false) else (s.applySafe n, false))
        else (s, false)

/-! ### The trigger (R159) -/

/-- Latency statistics of a presented sample (R142). -/
def State.noteLatency (s : State) (n : SlotId) (lat : Nat) : State :=
  s.setSlot n fun x =>
    { x with lmax := max x.lmax (satNat 65535 lat), lmin := min x.lmin (satNat 65535 lat),
             lmean := x.lmean + ((lat : Nat) - x.lmean) / 256, late := x.late || decide (384 < lat),
             presentAt := s.tick + lat }

/-- Following-error supervision of a sample (R155): the timer after it. -/
def State.feTimer (s : State) (n : SlotId) (e : Int) (enter : Bool) : Option Nat :=
  let x := s.eng.slots[n]
  if s.emax n = 0 || !decide (s.emax n < e.natAbs) then none
  else if enter then some s.tick
  else some (x.feSince.getD s.tick)

/-- The following-error timer has exceeded TFE. -/
def State.feExceeded (s : State) (n : SlotId) : Bool :=
  match s.eng.slots[n].feSince with
  | some t => decide (t + s.tfe n * 10 * ticksPerMs < s.tick)
  | none => false

/-- One evaluated sample in the mode in force: the state with the slot's new states, and the output to apply, if
any. -/
def State.evaluate (s : State) (n : SlotId) (xs : List (Nat × Int)) (enter : Bool) (old : Option (Vector Word 48)) :
    State × Option Int :=
  let x := s.eng.slots[n]
  let dt := s.sampleDt n
  let r0 := s.setpoint n
  let r := s.clampSp n (satEv (r0 + s.inject n false))
  let y := s.feedback n
  let f := s.feedfwd n r
  let x := { x with spv := r, fb := y, lastEval := some s.tick, onB := s.onPipeB s.sys.current n,
                    sphold := x.sphold && s.spLostNow n, fbLost := x.fbLost && s.fbLostNow n }
  let inj := s.inject n true
  match x.mode with
  | .auto =>
    let out := match s.innerOf n with
      | some m => s.eng.slots[m].mode != SlotMode.auto
      | none => false
    if out then
      let o := match s.innerOf n with
        | some m => (s.trackValue n m).getD x.out
        | none => x.out
      let q := s.heldSample n x r y f dt xs
      (s.setSlot n fun _ => { q.1 with track := true, ramp := false, feSince := s.feTimer n (r - y) enter }, some o)
    else
      let enter := enter || x.track || x.firstUse
      let x := { x with track := false, sat := x.sat.or (s.cascadeSat n) }
      let e := if s.law n = lawPID2 then s.pidAuto n x r y f dt inj enter old
        else s.lawAuto n x r y dt inj xs enter old
      let u := clampU (s.law n) e.x.inUse e.uraw
      let sat := s.sampleSat n e u
      let s' := s.setSlot n fun _ => { e.x with sat := sat, feSince := s.feTimer n (r - y) enter }
      (e.evs.foldl (fun (s : State) (v : Nat × Int × Int) => s.emit (s.engEv v.1 n v.2.1 v.2.2)) s', some e.o)
  | .manual =>
    let q := s.heldSample n x r y f dt xs
    let target := s.clampOut n (satEv (ev x.manout + inj))
    let start := x.applied.getD target
    let o := if enter then start else if x.ramp then towards start target (s.hoStep n dt) else target
    let e : Eval := { x := { q.1 with ramp := o != target }, o := o, uraw := o }
    (s.setSlot n fun _ => { e.x with sat := s.sampleSat n e target, feSince := none }, some o)
  | .standby =>
    let q := s.heldSample n x r y f dt xs
    (s.setSlot n fun _ => { q.1 with feSince := none, sat := {} }, none)
  | _ => (s, none)

/-- A slot whose feedback is reported lost (R146): in AUTO it faults, in MANUAL, STANDBY or OFF the loss is recorded. -/
def State.feedbackLost (s : State) (n : SlotId) : State :=
  let x := s.eng.slots[n]
  if x.fbLost || x.mode == .fault then s
  else
    let s := s.setSlot n fun x => { x with fbLost := true }
    if x.mode = .auto then s.slotFault n .feedback 0x0808 (s.fbidx n) x.fb
    else s.emit (s.engEv 0x0808 n (s.fbidx n) x.fb)

/-- The set-point in force is held while its source is lost; recorded once per excursion (R145). -/
def State.setpointLost (s : State) (n : SlotId) : State :=
  let x := s.eng.slots[n]
  if x.sphold then s
  else
    let s := s.setSlot n fun x => { x with sphold := true }
    s.emit (s.engEv 0x0809 n (s.spidx n) x.spv)

/-- The interval since the previous trigger is too short, or its output is still to be presented (R143). -/
def State.overruns (s : State) (n : SlotId) : Bool :=
  match s.eng.slots[n].lastTrig with
  | none => false
  | some t => decide ((s.tick - t) * modeSlotHz s.sys.current < 120000000) || decide (s.tick < s.eng.slots[n].presentAt)

/-- An overrun: the trigger is dropped and counted (R143). -/
def State.overrun (s : State) (n : SlotId) : State :=
  let gap := s.tick - (s.eng.slots[n].lastTrig.getD s.tick)
  let s := s.setSlot n fun x => { x with ovr := true, ovrcnt := satNat 65535 (x.ovrcnt + 1), lastTrig := some s.tick }
  let s := if s.takeOn n then s.setTake fun t => { t with sawOvr := true } else s
  (s.count 0x0D 1).emit (s.engEv 0x0801 n s.eng.slots[n].ovrcnt gap)

/-- A residue mismatch withholds the sample; `o` is the output withheld. The third in a row faults the slot (R158). -/
def State.residue (s : State) (n : SlotId) (o : Int) : State :=
  let s := s.setSlot n fun x =>
    { x with resrun := min 3 (x.resrun + 1), rescnt := satNat 65535 (x.rescnt + 1), resmm := true }
  let s := s.count 0x0E 1
  let x := s.eng.slots[n]
  let s := s.emit (s.engEv 0x0806 n x.resrun o)
  if 3 ≤ x.resrun then s.slotFault n .residue 0x0807 x.rescnt (x.applied.getD x.out) else s

/-- D4 powers off once no slot is left on pipeline B (R34). -/
def State.settlePipeB (s : State) : State :=
  if s.sys.pipeB && !s.sys.switching && s.sys.current != .sear && !(s.eng.slots.toList.any fun x => x.onB) then
    s.onSys fun x => { x with pipeB := false }
  else s

/-- An evaluation's output is presented, or a following error faults the slot (R145, R159). -/
def State.presentSample (s : State) (n : SlotId) (mode : SlotMode) (o : Option Int) : State :=
  if mode = .auto && s.feExceeded n then s.slotFault n .following 0x0805 (s.eng.slots[n].spv - s.eng.slots[n].fb) (s.emax n)
  else match o with
    | some o => s.applyOut n o false
    | none => s

/-- A bank swap that a trigger has taken is recorded (R128). -/
def State.noteSwap (s : State) (n : SlotId) (old : Option (Vector Word 48)) : State :=
  match old with
  | some _ => s.emit (s.engEv 0x0802 n (if s.eng.slots[n].bankB then 1 else 0) s.eng.slots[n].out)
  | none => s

/-- What follows an evaluation without a residue mismatch (R159). -/
def State.cleanSample (s : State) (n : SlotId) (instant latency : Nat) (dt : Rat) (mode : SlotMode) (old : Option (Vector Word 48)) (o : Option Int) : State :=
  let s := ((s.setSlot n fun x => { x with resrun := 0 }).presentSample n mode o).noteSwap n old
  (((s.noteLatency n latency).draw).capture n instant latency dt s.eng.slots[n].spv false).settlePipeB

/-- A trigger that is no overrun: the pending swap and mode, the evaluation, and what it brings (R159). -/
def State.sample (s : State) (n : SlotId) (instant latency : Nat) (clean : Bool) (xs : List (Nat × Int)) : State :=
  let s0 := s.setSlot n fun x => { x with lastTrig := some s.tick }
  let a := s0.takeSwap n
  let b := a.1.takeMode n
  let mode := b.1.eng.slots[n].mode
  if mode = .off ∨ mode = .fault then
    let s := b.1.setSlot n fun x => { x with sphold := x.sphold && b.1.spLostNow n, fbLost := x.fbLost && b.1.fbLostNow n }
    (if s0.takeOn n then s.takeEarly 2 else s).settlePipeB
  else
    let c := b.1.evaluate n xs b.2 a.2
    if clean then c.1.cleanSample n instant latency (b.1.sampleDt n) mode a.2 c.2
    else
      let s := s0.residue n (c.2.getD 0)
      s.capture n instant latency (b.1.sampleDt n) s.eng.slots[n].spv true

/-- A source of the setpoint that is lost is judged at the trigger. -/
def State.judgeSp (s : State) (n : SlotId) : State := if s.spLostNow n then s.setpointLost n else s

/-- SLOT_TRIGGER: overrun test, pending swap and mode, evaluation, residue check, supervision and presentation (R159).
`instant` is the sample instant in 2^-32 s, `latency` the fabric ticks to presentation, `clean` says that no residue
mismatch occurred, `xs` are the converter samples of a DEMOD output: position in 2^-32 periods and value. -/
def execSlotTrigger (n : SlotId) (instant latency : Nat) (clean : Bool) (xs : List (Nat × Int)) (s : State) : Out :=
  .next (
    if !s.slotUsed n || !s.rcp.applied then s
    else
      let s := s.judgeSp n
      let t := if s.fbLostNow n then s.feedbackLost n else s
      if s.fbLostNow n && s.eng.slots[n].mode == .auto && !s.eng.slots[n].fbLost then t
      else if t.overruns n then t.overrun n
      else t.sample n instant latency clean xs)

/-- FOLLOWING_ERROR: the following-error timer exceeds TFE (R155). -/
def execFollowingError (n : SlotId) (s : State) : Out :=
  .next (
    let x := s.eng.slots[n]
    if x.mode = .auto && x.feSince.isSome then
      s.slotFault n .following 0x0805 (x.spv - x.fb) (s.emax n)
    else s)

/-- FEEDBACK_LOST: a lost feedback source faults a slot in AUTO (R146). -/
def execFeedbackLost (n : SlotId) (s : State) : Out :=
  .next (if s.slotUsed n && s.fbLostNow n then s.feedbackLost n else s)

/-- SETPOINT_LOST: a lost set-point source holds the last value (R145). -/
def execSetpointLost (n : SlotId) (s : State) : Out :=
  .next (if s.slotUsed n && s.spLostNow n then s.setpointLost n else s)

/-! ### Host commands -/

/-- A write to a register of a slot: BAD_ADDR when unused (R121, R482), DENIED for a tracking slot (R133), the right,
then the write. -/
def State.slotCmd (s : State) (n : SlotId) (k : SessId) (right : Nat) (go : State → State × Status) : State :=
  if !s.slotUsed n then s.answer (s.me k) .badAddr
  else if s.isTracking n then s.answer (s.me k) .denied
  else s.gated k (s.gate k right) go

/-- SWAP (R136). While the mode switches, a sample rate above that of the lower mode completes with BUSY (R33). -/
def State.swap (s : State) (n : SlotId) : State × Status :=
  let x := s.eng.slots[n]
  if x.swpend then (s, .busy)
  else if !s.bankOk n s.sys.current x.other || !s.loadOk s.sys.current (some (n, x.other[46].toNat)) then (s, .limit)
  else if s.sys.switching && s.trig n == 0 && decide (x.other[46].toNat < modeMinTper s.lowerMode) then (s, .busy)
  else if x.mode = .off ∨ x.mode = .fault then
    let s := s.setSlot n fun x => { x with bankB := !x.bankB }
    (s.emit (s.engEv 0x0802 n (if s.eng.slots[n].bankB then 1 else 0) s.eng.slots[n].out), .ok)
  else (s.setSlot n fun x => { x with swpend := true }, .ok)

/-- CLRFLT (R157). -/
def State.clrflt (s : State) (n : SlotId) : State × Status :=
  let x := s.eng.slots[n]
  if x.mode ≠ .fault then (s, .ok)
  else
    let e := s.setpoint n - s.feedback n
    let lasts := (x.fcause = .feedback && s.fbLostNow n)
      || (x.fcause = .following && decide (s.emax n < e.natAbs))
    if lasts then (s, .faulted)
    else
      let o := x.applied.getD x.out
      let s := s.setSlot n fun x =>
        { x with mode := .manual, req := .manual, fcause := .none, manout := evWord o, resrun := 0,
                 fbLost := x.fbLost && s.fbLostNow n, ramp := false }
      (s.emit (s.engEv 0x080A n x.fcause.code o), .ok)

/-- RSTATS (R142). -/
def State.rstats (s : State) (n : SlotId) : State × Status :=
  (s.setSlot n fun x => { x with lmax := 0, lmin := 0xFFFF, lmean := 0, ovrcnt := 0, rescnt := 0 }, .ok)

/-- SWAP checks the bank not in use and sets SWPEND (R136). -/
def execSwap (n : SlotId) (k : SessId) (s : State) : Out := .next (s.slotCmd n k rightCOMMAND fun s => s.swap n)
/-- CLRFLT takes a faulted slot whose cause is gone into MANUAL (R157). -/
def execClrflt (n : SlotId) (k : SessId) (s : State) : Out := .next (s.slotCmd n k rightCOMMAND fun s => s.clrflt n)
/-- RSTATS restarts the latency statistics and the counters (R142). -/
def execRstats (n : SlotId) (k : SessId) (s : State) : Out := .next (s.slotCmd n k rightCOMMAND fun s => s.rstats n)

/-- A mode request presented to a slot; `none` when it waits for the trigger (R149). -/
def State.modeRequest (s : State) (n : SlotId) (m : SlotMode) (src : Src) : State × Option Status :=
  let x := s.eng.slots[n]
  if m = .fault ∨ (m = .standby ∧ s.hset n = 0) then (s, some .limit)
  else if x.mode = .fault then (s, some .faulted)
  else if m = .auto && s.fbLostNow n then (s, some .notReady)
  else
    let s := match x.modePend with
      | some (_, old) => s.answer old .superseded
      | none => s
    (s.setSlot n fun x => { x with modePend := some (m, src), req := m }, none)

/-- A write of CENn_MODE; reserved encodings complete with LIMIT (R7). -/
def State.writeMode (s : State) (n : SlotId) (v : Word) (k : SessId) : State :=
  if !s.slotUsed n then s.answer (s.me k) .badAddr
  else if s.isTracking n then s.answer (s.me k) .denied
  else match s.gate k rightCOMMAND with
    | .ok => match SlotMode.ofReq (bits v 0 3) with
      | none => s.answer (s.me k) .limit
      | some m => match s.modeRequest n m (s.me k) with
        | (s, some st) => s.answer (s.me k) st
        | (s, none) => s
    | st => s.answer (s.me k) st

/-- SLOT_MODE_REQUEST: a write of CENn_MODE.REQ sets MODEPEND for the slot's next trigger (R149). -/
def execSlotModeRequest (n : SlotId) (v : Word) (k : SessId) (s : State) : Out := .next (s.writeMode n v k)

/-- A write of CENn_SP (R144). -/
def State.writeSp (s : State) (n : SlotId) (v : Word) : State × Status :=
  if s.spsrc n ≠ 0 then (s, .recipeLocked)
  else if !s.spInLimits n (ev v) then (s, .limit)
  else (s.setSlot n fun x => { x with sp := v }, .ok)

/-- SLOT_SP_WRITE (R144). -/
def execSlotSpWrite (n : SlotId) (v : Word) (k : SessId) (s : State) : Out :=
  .next (s.slotCmd n k rightCOMMAND fun s => s.writeSp n v)

/-- A write of CENn_MANOUT: the manual output is reached by ramp (R151). -/
def State.writeManout (s : State) (n : SlotId) (v : Word) : State × Status :=
  if s.clampOut n (ev v) ≠ ev v then (s, .limit)
  else (s.setSlot n fun x => { x with manout := v, ramp := x.ramp || (x.mode == .manual && x.manout != v) }, .ok)

/-- SLOT_MANOUT_WRITE (R151). -/
def execSlotManoutWrite (n : SlotId) (v : Word) (k : SessId) (s : State) : Out :=
  .next (s.slotCmd n k rightCOMMAND fun s => s.writeManout n v)

/-- A write of word `i` of bank A or B (R135). -/
def State.writeBank (s : State) (n : SlotId) (b : Bool) (i : Fin 48) (v : Word) : State × Status :=
  let x := s.eng.slots[n]
  if b = x.bankB || x.swpend then (s, .notReady)
  else if !s.wordInLimits n i.val v then (s, .limit)
  else if b then (s.setSlot n fun x => { x with wordsB := x.wordsB.set i v }, .ok)
  else (s.setSlot n fun x => { x with wordsA := x.wordsA.set i v }, .ok)

/-- SLOT_BANK_WORD_WRITE (R135). -/
def execSlotBankWordWrite (n : SlotId) (b : Bool) (i : Fin 48) (v : Word) (k : SessId) (s : State) : Out :=
  .next (s.slotCmd n k rightPARAM fun s => s.writeBank n b i v)

/-! ### Takes (R160, R162) -/

/-- START of a Take (R160). -/
def State.takeStart (s : State) : State × Status :=
  let t := s.eng.take
  let n : SlotId := Fin.ofNat 128 (bits t.cfg 24 7)
  let m := s.eng.slots[n].mode
  let ready := if t.atOutput then m == .auto || m == .manual else m == .auto
  let f0 := bits t.frq 0 16
  let f1 := bits t.frq 16 16
  let rate := s.trig n == 0 && s.law n != lawDEMOD
  let chirpOk := rate && decide (1 ≤ f0) && decide (f1 ≤ 5000) && decide (4 * f1 * s.tper n ≤ 2 ^ 32) && decide (f0 < f1)
  if t.status = .running then (s, .busy)
  else if !s.slotUsed n then (s, .badAddr)
  else if !ready then (s, .notReady)
  else if t.sig = 2 && !chirpOk then (s, .limit)
  else
    (s.setTake fun t =>
      { t with status := .running, reason := 0, count := 0, slot := n, k := 0, turns := 0, lfsr := 0x7FFF, sawOvr := false,
               sawRes := false }, .ok)

/-- A write of CEN_TKCMD. -/
def State.takeCmd (s : State) (v : Word) : State × Status :=
  let s := if bit v 1 then s.takeEarly 4 else s
  if bit v 0 then s.takeStart else (s, .ok)

/-- TAKE_START (R160). -/
def execTakeStart (k : SessId) (s : State) : Out := .next (s.gated k (s.gateRws k rightTAKE) fun s => s.takeStart)
/-- TAKE_ABORT: the running Take ends early with reason ABORT (R162). -/
def execTakeAbort (k : SessId) (s : State) : Out :=
  .next (s.gated k (s.gateRws k rightTAKE) fun s => (s.takeEarly 4, .ok))

end Sys2Proof.Machine
end

