-- ==== Sys2Proof/Machine/Fabric.lean ====
section
/-! DEFINITION. The fabric sources of R283, the interlock matrix (R22, R286) and the flags that this device originates
(R237). -/

namespace Sys2Proof.Machine

open Sys2Proof

/-- The level of a port as a fabric source (R283). -/
def State.portLevel (s : State) (p : PortId) : Bool :=
  let f := s.func p
  if f = 0x0B ∨ isOutFunc f then bit (s.invalOf p) 0
  else s.ports[p].status == .drive

/-- A boolean source of R283; other numbers are 0. -/
def State.boolSrc (s : State) (n : Nat) : Bool :=
  if 0x040 ≤ n ∧ n < 0x060 then s.portLevel (Fin.ofNat 32 (n - 0x040))
  else if 0x060 ≤ n ∧ n < 0x080 then s.faulted (Fin.ofNat 32 (n - 0x060))
  else if 0x180 ≤ n ∧ n < 0x1C0 then s.hie.flags[(Fin.ofNat 64 (n - 0x180) : FlagId)].val
  else if 0x1C0 ≤ n ∧ n < 0x1C8 then s.fan.fans[(Fin.ofNat 8 (n - 0x1C0) : FanId)].status == .run
  else if 0x1C8 ≤ n ∧ n < 0x1CC then
    let st := s.can[(Fin.ofNat 4 (n - 0x1C8) : CanId)].st
    st == .passive || st == .busOff
  else if n = 0x1CC then s.fan.trip
  else if n = 0x1CD then s.pwr.warning
  else if n = 0x1CE then s.hie.orphan
  else if 0x1D0 ≤ n ∧ n < 0x1E0 then
    let st := s.hie.lgs[(Fin.ofNat 16 (n - 0x1D0) : LgId)].st
    st == .running || st == .stopping
  else if 0x1E0 ≤ n ∧ n < 0x200 then s.seq.seqs[(Fin.ofNat 4 ((n - 0x1E0) / 8) : SeqId)].flags.getLsbD ((n - 0x1E0) % 8)
  else if 0x201 ≤ n ∧ n < 0x23F then !s.isWorker && s.hie.workers[(Fin.ofNat 64 (n - 0x200) : Fin 64)].lost
  else if 0x300 ≤ n ∧ n < 0x400 then s.sys.active.contains (n - 0x300)
  else false

/-- A value source of R283 in its raw form; other numbers are 0. -/
def State.valSrc (s : State) (n : Nat) : Int :=
  if n < 0x020 then sbits (s.invalOf (Fin.ofNat 32 n)) 0 32
  else if n < 0x040 then (s.freq (Fin.ofNat 32 (n - 0x020)) : Nat)
  else if 0x080 ≤ n ∧ n < 0x100 then s.slotOut (Fin.ofNat 128 (n - 0x080))
  else if 0x100 ≤ n ∧ n < 0x180 then s.sct.sects[(Fin.ofNat 128 (n - 0x100) : SectId)].demand
  else if 0x240 ≤ n ∧ n < 0x260 then sbits (word s.mon.counters[(Fin.ofNat 32 (n - 0x240) : MonId)].cnt) 0 32
  else 0

/-! ### The interlock matrix (R286) -/

/-- A term of a rule: source is 1, value above or below the threshold, inverted by NEG; a reserved OP is false. -/
def State.ruleTerm (s : State) (a b : Word) : Bool :=
  let n := bits a 0 11
  let v := sbits b 0 32
  let t := match bits a 28 3 with
    | 0 => s.boolSrc n
    | 1 => decide (v < s.valSrc n)
    | 2 => decide (s.valSrc n < v)
    | _ => false
  t != bit a 31

/-- The terms of rule `k`, combined by ANY (R286); an unused rule is not active. -/
def State.ruleTrue (s : State) (k : Nat) : Bool :=
  let w := s.rule k 0
  let ts := (List.range (bits w 28 2 + 1)).map fun i => s.ruleTerm (s.rule k (2 * i + 1)) (s.rule k (2 * i + 2))
  bit w 31 && (if bit w 30 then ts.any id else ts.all id)

/-- The matrix evaluated once: terms that name a rule see its activity of the cycle before (R286). -/
def State.matrix (s : State) : State :=
  let act := (List.range 256).filter fun k => s.ruleTrue k
  s.onSys fun x => { x with active := act }

/-- The matrix, the values it forces, and the orphan actions that may now act (R20, R286, R481). -/
def State.interlock (s : State) : State := s.matrix.applyAllForced.orphPresent

/-- INTERLOCK_INPUT_CHANGE: the rules take the fabric's sources as they stand, and force or release their ports (R22,
R286). -/
def execInterlockInputChange (s : State) : Out := .next s.interlock

/-! ### Flags (R237) -/

/-- FLAG_SEND: a flag that this device originates takes its source, and a FLAG frame goes onto each used link (R237). -/
def execFlagSend (k : FlagId) (s : State) : Out :=
  .next (
    if s.xfUsed k && s.xfOrig k == s.sys.addr then
      let v := s.boolSrc (bits (s.xfWord k) 0 11)
      let s := s.setFlag k fun x => { x with val := v }
      let f := Frame.flag s.sys.addr k.val v
      (s.transmit false f).transmit true f
    else s)

end Sys2Proof.Machine
end

