-- ==== Sys2Proof/Machine/Fans.lean ====
section
/-! DEFINITION. The meanings of the fan controller commands and events, and of THERM_TRIP_N (chapter Fan, Pump and Blower
Control). -/

namespace Sys2Proof.Machine

open Sys2Proof

/-! ### Recipe fields -/

def State.fanW (s : State) (f : FanId) (k : Nat) : Word := s.rw secFANS 1 f.val k
/-- The Recipe uses the controller (R482). -/
def State.fanUsed (s : State) (f : FanId) : Bool := s.hasRec secFANS 1 f.val
def State.fanDrv (s : State) (f : FanId) : PortId := Fin.ofNat 32 (bits (s.fanW f 0) 24 5)
def State.fanTach (s : State) (f : FanId) : PortId := Fin.ofNat 32 (bits (s.fanW f 0) 16 5)
def State.fanTsrc (s : State) (f : FanId) : Nat := bits (s.fanW f 0) 14 2
def State.fanTidx (s : State) (f : FanId) : Nat := bits (s.fanW f 0) 0 7
def State.fanAutoen (s : State) (f : FanId) : Bool := bit (s.fanW f 0) 31
def State.fanKilim (s : State) (f : FanId) : Nat := bits (s.fanW f 1) 8 8 * 32
def State.fanDmin (s : State) (f : FanId) : Nat := bits (s.fanW f 2) 24 8 * 257
def State.fanSlew (s : State) (f : FanId) : Nat := bits (s.fanW f 2) 16 8 * 257
def State.fanFail (s : State) (f : FanId) : Nat := bits (s.fanW f 2) 8 8 * 257
def State.fanNpts (s : State) (f : FanId) : Nat := bits (s.fanW f 2) 0 4 + 1
/-- FMIN in 1/256 Hz. -/
def State.fanFmin (s : State) (f : FanId) : Nat := bits (s.fanW f 3) 16 16 * 256
/-- IMOT_MIN in 1/256 A. -/
def State.fanImot (s : State) (f : FanId) : Nat := bits (s.fanW f 3) 8 8 * 16
def State.fanReff (s : State) (f : FanId) : Nat := bits (s.fanW f 4) 16 16
def State.fanAgelim (s : State) (f : FanId) : Nat := bits (s.fanW f 4) 0 16
/-- A band put beside others that do not overlap; those it overlaps become one band with it, since no duty in force may
lie inside any band (R105). -/
def addBand (bands : List (Nat × Nat)) (b : Nat × Nat) : List (Nat × Nat) :=
  let meets (c : Nat × Nat) : Bool := decide (c.1 < b.2) && decide (b.1 < c.2)
  let m := (bands.filter meets).foldl (fun (a : Nat × Nat) c => (min a.1 c.1, max a.2 c.2)) b
  m :: bands.filter fun c => !meets c

/-- The used skip bands of a controller, as 16-bit duties (R105). -/
def State.fanSkips (s : State) (f : FanId) : List (Nat × Nat) :=
  (((idx 4).map fun j => (bits (s.fanW f (5 + j.val)) 0 8 * 257, bits (s.fanW f (5 + j.val)) 8 8 * 257)).filter
    fun b => decide (b.1 < b.2)).foldl addBand []
def State.fanTbl (s : State) (f : FanId) (i : Nat) : Word := s.rw secFANS 2 f.val i
/-- Duty of table point `i`, 16 bits (R100). -/
def State.fanD (s : State) (f : FanId) (i : Nat) : Nat := bits (s.fanTbl f i) 24 8 * 257
/-- Rising and falling thresholds in 2^-16 m°C. -/
def State.fanTr (s : State) (f : FanId) (i : Nat) : Int := sbits (s.fanTbl f i) 12 12 * 125 * 65536
def State.fanTf (s : State) (f : FanId) (i : Nat) : Int := sbits (s.fanTbl f i) 0 12 * 125 * 65536

def State.setFan (s : State) (f : FanId) (g : Fan → Fan) : State := s.onFan fun x => { x with fans := upd x.fans f g }

/-! ### Events (R120) -/

/-- FANn_STAT as a register word. -/
def Fan.stat (x : Fan) (aged : Bool) : Nat :=
  put x.status.code 28 4 + put (if x.status = .kick ∨ x.status = .pause then x.attempt else 0) 24 3 + put x.step 20 4
    + flagAt aged 7 + flagAt x.tempf 6 + flagAt x.tacho 5 + flagAt x.moto 4 + flagAt x.blk 3

/-- INDEX of a controller (R115): 0 until the baseline exists. -/
def FanAge.index (a : FanAge) : Nat :=
  match a.baseline with
  | some b => if b = 0 then 0 else satNat 65535 (shown 115 (1000 * a.mean / b)).toNat
  | none => 0

/-- FANn_STAT.AGED. -/
def State.fanAged (s : State) (f : FanId) : Bool := decide (s.fanAgelim f < s.fan.fans[f].age.index)

/-- The temperature in use in 0.125 °C. -/
def Fan.tempReg (x : Fan) : Int := shown 105 ((x.temp : Rat) / (125 * 65536 : Nat))

/-- The event payload of a fan (R120). `before` is STATE before the event. -/
def State.fanEv (s : State) (code : Nat) (f : FanId) (before : FanStatus) (i : Int) : Ev :=
  let x := s.fan.fans[f]
  { code := code,
    payload := le 1 f.val ++ le 1 before.code ++ le 1 x.attempt ++ le 1 (x.stat (s.fanAged f)) ++ leInt 4 i
      ++ le 4 (s.freq (s.fanTach f)) ++ le 2 x.duty ++ leInt 2 x.tempReg ++ s.stamp }

/-! ### Temperature and step (R104, R107) -/

/-- The temperature source is faulted (R107). -/
def State.fanSrcFaulted (s : State) (f : FanId) : Bool :=
  let x := s.fan.fans[f]
  match s.fanTsrc f with
  | 0 =>
    let p : PortId := Fin.ofNat 32 (s.fanTidx f)
    hasBit (s.presentAt p) .sensOpen || hasBit (s.presentAt p) .sensShort || s.ports[p].srcLost
  | 1 => s.slotFaulted (Fin.ofNat 128 (s.fanTidx f))
  | 2 => false
  | _ => match x.htempAt with
    | none => true
    | some t => decide (t + 10 * 120000000 ≤ s.tick)

/-- The temperature a valid source gives, in 2^-16 m°C. -/
def State.fanTemp (s : State) (f : FanId) : Int :=
  match s.fanTsrc f with
  | 0 => sbits (s.invalOf (Fin.ofNat 32 (s.fanTidx f))) 0 32 * 65536
  | 1 => s.slotOut (Fin.ofNat 128 (s.fanTidx f))
  | 2 => s.sys.housing * 65536
  | _ => sbits s.fan.fans[f].htemp 0 16 * 125 * 65536

/-- The greatest point from `i` down whose rising threshold the temperature has reached, else 0 (R104). -/
def State.stepAfresh (s : State) (f : FanId) (t : Int) : Nat → Nat
  | 0 => 0
  | i + 1 => if s.fanTr f (i + 1) ≤ t then i + 1 else s.stepAfresh f t i

/-- The upward loop of R104. -/
def State.stepUp (s : State) (f : FanId) (t : Int) : Nat → Nat → Nat
  | 0, k => k
  | n + 1, k => if k + 1 < s.fanNpts f ∧ s.fanTr f (k + 1) ≤ t then s.stepUp f t n (k + 1) else k

/-- The downward loop of R104. -/
def State.stepDown (s : State) (f : FanId) (t : Int) : Nat → Nat → Nat
  | 0, k => k
  | n + 1, k => if 0 < k ∧ t < s.fanTf f k then s.stepDown f t n (k - 1) else k

/-- FAN_TEMP_FAULT: a faulted source freezes the step and sets the target to FAILDUTY; recorded once per excursion
(R107). -/
def State.noteTempFault (s : State) (f : FanId) : State :=
  if s.fan.fans[f].tempf then s
  else
    let s := s.setFan f fun x => { x with tempf := true }
    s.emit (s.fanEv 0x0706 f s.fan.fans[f].status s.ports[s.fanDrv f].iNow)

/-- The temperature, the step index and the raw target of an evaluation (R104, R107). -/
def State.fanTarget (s : State) (f : FanId) : State × Nat :=
  if s.fanSrcFaulted f then
    let s := s.noteTempFault f
    let x := s.fan.fans[f]
    (s, if x.man then x.mduty * 257 else s.fanFail f)
  else
    let x := s.fan.fans[f]
    let t := s.fanTemp f
    let k := if x.afresh || x.tempf then s.stepAfresh f t (s.fanNpts f - 1)
      else s.stepDown f t 16 (s.stepUp f t 16 x.step)
    let s := s.setFan f fun x => { x with temp := t, step := k, tempf := false, afresh := false }
    (s, if x.man then x.mduty * 257 else s.fanD f k)

/-! ### Duty (R105, R106) -/

/-- A target inside a used band is replaced by the band's edge on the side of the duty in force (R105). -/
def edgeOf (bands : List (Nat × Nat)) (duty target : Nat) : Nat :=
  match bands.find? fun b => decide (b.1 < target ∧ target < b.2) with
  | some b => if duty ≤ b.1 then b.1 else b.2
  | none => target

/-- The target of a controller after R105, which does not apply in KICK and TEST. -/
def State.fanAim (s : State) (f : FanId) (raw : Nat) : Nat :=
  let x := s.fan.fans[f]
  if x.status == .kick || x.status == .test then raw else edgeOf (s.fanSkips f) x.duty raw

/-- The duty after an upward move of at most `r`: at a band's near edge it goes on from the far edge (R105). -/
def slewUp (bands : List (Nat × Nat)) (target : Nat) : Nat → Nat → Nat → Nat
  | 0, duty, _ => duty
  | n + 1, duty, r =>
    let next := min target (duty + r)
    match (bands.filter fun b => decide (duty ≤ b.1 ∧ b.1 < next)).foldl
        (fun (a : Option (Nat × Nat)) b => match a with
          | none => some b
          | some c => if b.1 < c.1 then some b else some c) none with
    | none => next
    | some b => slewUp bands target n b.2 (r - (b.1 - duty))

/-- The duty after a downward move of at most `r` (R105). -/
def slewDown (bands : List (Nat × Nat)) (target : Nat) : Nat → Nat → Nat → Nat
  | 0, duty, _ => duty
  | n + 1, duty, r =>
    let next := max target (duty - r)
    match (bands.filter fun b => decide (b.2 ≤ duty ∧ next < b.2)).foldl
        (fun (a : Option (Nat × Nat)) b => match a with
          | none => some b
          | some c => if c.2 < b.2 then some b else some c) none with
    | none => next
    | some b => slewDown bands target n b.1 (r - (duty - b.2))

/-- The duty in force after one evaluation in RUN (R105). -/
def slewStep (bands : List (Nat × Nat)) (slew duty target : Nat) : Nat :=
  if duty ≤ target then slewUp bands target 5 duty slew else slewDown bands target 5 duty slew

/-! ### States (R102, R108 to R114) -/

/-- The tach responds (R101). -/
def State.tachResponds (s : State) (f : FanId) : Bool :=
  let t := s.ports[s.fanTach f]
  !t.stale && decide (s.fanFmin f ≤ s.freq (s.fanTach f))

/-- The controller's value at its drive port: the regulator target in KICK and TEST, else the duty (R42, R100, R108). -/
def State.fanDrive (s : State) (f : FanId) : State :=
  let x := s.fan.fans[f]
  let p := s.fanDrv f
  let kicks := x.status = .kick || x.status = .test
  let v := s.clampOwner p x.duty
  (s.setPorts (s.members p) fun y =>
    { y with kick := if kicks then some (s.fanKilim f) else none, ownerVal := if kicks then y.ownerVal else v }).settle p

/-- The controller enters KICK with an attempt number (R108, R109). -/
def State.enterKick (s : State) (f : FanId) (attempt : Nat) : State :=
  ((s.setFan f fun x => { x with status := .kick, attempt := attempt, duty := 0xFFFF, kickAt := s.tick }).count
    (0xD8 + f.val) 1).fanDrive f

/-- The controller enters a state with duty 0. -/
def State.enterQuiet (s : State) (f : FanId) (st : FanStatus) : State :=
  let keep := st == .pause
  (s.setFan f fun x => { x with status := st, duty := 0, attempt := if keep then x.attempt else 0 }).fanDrive f

/-- KICK, or STOPPED when the target is 0 (R103, R104, R113). -/
def State.fanStart (s : State) (f : FanId) (target : Nat) : State :=
  if target = 0 then s.enterQuiet f .stopped else s.enterKick f 1

/-- RUN, the duty taking the target at once; during KICK the duty in force was full drive (R106). -/
def State.fanToRun (s : State) (f : FanId) (target : Nat) : State :=
  let t := edgeOf (s.fanSkips f) 0xFFFF target
  (s.setFan f fun x => { x with status := .run, attempt := 0, duty := t, target := t }).fanDrive f

/-- The controller issues OFF to its drive port, under R18 (R99, R114). -/
def State.fanIssueOff (s : State) (f : FanId) : State := (s.presentOff (s.fanDrv f) (.fan f)).1

/-- The hold condition of R113. -/
def State.fanHeld (s : State) (f : FanId) : Bool :=
  let p := s.ports[s.fanDrv f]
  p.status == .passive || p.status == .retry || p.status == .latched || !p.enabled || p.forced.isSome

/-- MOTOR_OPEN: OFF is issued and MOTOR_OPEN recorded with the window's current (R109, R111). -/
def State.fanMotorOpen (s : State) (f : FanId) (i : Int) : State :=
  let e := (s.setFan f fun x => { x with moto := true, duty := 0 }).fanEv 0x0703 f s.fan.fans[f].status i
  let s := (s.enterQuiet f .motorOpen).fanIssueOff f
  (s.setFan f fun x => { x with moto := true }).emit e

/-- A TEST ends with a result (R114). -/
def State.fanTestEnd (s : State) (f : FanId) (res ms : Nat) : State :=
  ((s.setFan f fun x => { x with testRes := res, testMs := ms }).enterQuiet f .off).fanIssueOff f

/-- FAN_EVALUATION: every 10 ms the controller evaluates its state, step index, target and slewed duty (R102 to R106,
R113). -/
def execFanEvaluation (f : FanId) (s : State) : Out :=
  .next (
    if !s.fanUsed f || !s.rcp.applied then s
    else
      let r := s.fanTarget f
      let s := r.1
      let raw := r.2
      let x := s.fan.fans[f]
      let bands := s.fanSkips f
      let target := s.fanAim f raw
      let s := s.setFan f fun x => { x with target := target }
      let stopped := x.status = .off || x.status = .blocked || x.status = .motorOpen
      if stopped then s
      else if s.fanHeld f then
        if x.status = .held then s
        else (s.setFan f fun x => { x with status := .held, attempt := 0 }).fanDrive f
      else match x.status with
        | .held => s.fanStart f target
        | .stopped => if target = 0 then s else s.enterKick f 1
        | .kick => if s.tachResponds f && !x.tacho then s.fanToRun f raw else s.fanDrive f
        | .test =>
          if s.tachResponds f && !x.tacho then s.fanTestEnd f 1 ((s.tick - x.kickAt) / ticksPerMs) else s.fanDrive f
        | .run =>
          let d := slewStep bands (s.fanSlew f) x.duty target
          if d = 0 ∧ target = 0 then s.enterQuiet f .stopped
          else (s.setFan f fun x => { x with duty := d }).fanDrive f
        | _ => s)

/-- FAN_KICK_TIMEOUT: a kick that reaches KMAX without response is judged on its mean current (R109, R114). -/
def execFanKickTimeout (f : FanId) (mean : Int) (s : State) : Out :=
  .next (
    let x := s.fan.fans[f]
    let load := decide ((s.fanImot f : Int) ≤ mean)
    match x.status with
    | .test => s.fanTestEnd f (if load then 2 else 3) 0
    | .kick =>
      if !load then s.fanMotorOpen f mean
      else if x.tacho then s.fanToRun f x.target
      else if x.attempt < 4 then s.enterQuiet f .pause
      else
        let e := (s.setFan f fun x => { x with blk := true, duty := 0 }).fanEv 0x0701 f .kick mean
        let s := (s.enterQuiet f .blocked).fanIssueOff f
        (s.setFan f fun x => { x with blk := true }).emit e
    | _ => s)

/-- FAN_PAUSE_END: the controller kicks again with the next ATTEMPT (R102, R109). -/
def execFanPauseEnd (f : FanId) (s : State) : Out :=
  .next (if s.fan.fans[f].status = .pause then s.enterKick f (s.fan.fans[f].attempt + 1) else s)

/-- FAN_STALL: in RUN with TACHO = 0, FREQ below FMIN at DMIN or more for 1 s enters KICK (R110). -/
def execFanStall (f : FanId) (s : State) : Out :=
  .next (
    let x := s.fan.fans[f]
    let t := s.ports[s.fanTach f]
    if x.status = .run && !x.tacho && !t.stale && decide (s.freq (s.fanTach f) < s.fanFmin f) && decide (s.fanDmin f ≤ x.duty) then
      let e := s.fanEv 0x0705 f .run (s.current (s.fanDrv f))
      (s.enterKick f 1).emit e
    else s)

/-- TACH_JUDGEMENT: at the end of a 100 ms STALE window the motor current decides between TACHO and MOTOR_OPEN (R111). -/
def execTachJudgement (f : FanId) (mean : Int) (s : State) : Out :=
  .next (
    let x := s.fan.fans[f]
    if x.status = .run && !x.tacho && s.ports[s.fanTach f].stale && decide (s.fanDmin f ≤ x.duty) then
      if (s.fanImot f : Int) ≤ mean then
        let s := s.setFan f fun x => { x with tacho := true }
        s.emit (s.fanEv 0x0702 f .run mean)
      else s.fanMotorOpen f mean
    else s)

/-- FAN_TACH_RESTORED: after STALE = 0 for 1 s TACHO clears, in any state (R112). -/
def execFanTachRestored (f : FanId) (s : State) : Out :=
  .next (
    let x := s.fan.fans[f]
    if x.tacho && !s.ports[s.fanTach f].stale then
      let s := s.setFan f fun x => { x with tacho := false }
      s.emit (s.fanEv 0x0704 f x.status (s.current (s.fanDrv f)))
    else s)

/-- FAN_TEMP_FAULT: a faulted temperature source sets the target to FAILDUTY and is recorded once per excursion
(R107). -/
def execFanTempFault (f : FanId) (s : State) : Out :=
  .next (if s.fanUsed f && s.fanSrcFaulted f then
      let s := s.noteTempFault f
      s.setFan f fun x => { x with target := s.fanAim f (if x.man then x.mduty * 257 else s.fanFail f) }
    else s)

/-! ### Commands (R114) -/

/-- A command of a session to a fan: BAD_ADDR for an unused controller (R482), the COMMAND right, then the command. -/
def State.fanCmd (s : State) (f : FanId) (k : SessId) (go : State → State × Status) : State :=
  if !s.fanUsed f then s.answer (s.me k) .badAddr else s.gated k (s.gate k rightCOMMAND) go

/-- The controller's ON at its drive port under R18; the state after it with the status. -/
def State.fanOn (s : State) (f : FanId) : State × Status :=
  let r := s.presentOn (s.fanDrv f) (.fan f) 0
  (r.1, r.2.1)

/-- ENABLE (R114). -/
def State.fanEnable (s : State) (f : FanId) : State × Status :=
  let x := s.fan.fans[f]
  if x.status = .off || (x.status = .held && !s.ports[s.fanDrv f].enabled) then
    match s.fanOn f with
    | (s, .ok) =>
      let s := s.setFan f fun x => { x with afresh := true }
      let r := s.fanTarget f
      (r.1.fanStart f (s.fanAim f r.2), .ok)
    | (s, st) => (s, st)
  else (s, .ok)

/-- DISABLE (R103). -/
def State.fanDisable (s : State) (f : FanId) : State × Status :=
  let r := s.presentOff (s.fanDrv f) (.fan f)
  if r.2.1 = .ok then
    ((r.1.setFan f fun x => { x with blk := false, moto := false, attempt := 0 }).enterQuiet f .off, .ok)
  else (r.1, r.2.1)

/-- TEST (R114). -/
def State.fanTest (s : State) (f : FanId) : State × Status :=
  if s.fan.fans[f].status = .off then
    match s.fanOn f with
    | (s, .ok) =>
      let s := s.setFan f fun x => { x with status := .test, duty := 0xFFFF, kickAt := s.tick, attempt := 0 }
      (s.fanDrive f, .ok)
    | (s, st) => (s, st)
  else (s, .notReady)

/-- RESTART (R114). -/
def State.fanRestart (s : State) (f : FanId) : State × Status :=
  let x := s.fan.fans[f]
  if x.status = .blocked || x.status = .motorOpen then
    match s.fanOn f with
    | (s, .ok) => ((s.setFan f fun x => { x with blk := false, moto := false }).enterKick f 1, .ok)
    | (s, st) => (s, st)
  else (s, .ok)

/-- ENABLE issues ON to the drive port and enters STOPPED or KICK (R114). -/
def execEnable (f : FanId) (k : SessId) (s : State) : Out := .next (s.fanCmd f k fun s => s.fanEnable f)
/-- DISABLE moves the controller to OFF, issues OFF and clears ATTEMPT, BLK and MOTO (R103). -/
def execDisable (f : FanId) (k : SessId) (s : State) : Out := .next (s.fanCmd f k fun s => s.fanDisable f)
/-- TEST kicks the motor for at most KMAX (R114). -/
def execTest (f : FanId) (k : SessId) (s : State) : Out := .next (s.fanCmd f k fun s => s.fanTest f)
/-- RESTART clears the flags, issues ON and kicks with ATTEMPT = 1 (R114). -/
def execRestart (f : FanId) (k : SessId) (s : State) : Out := .next (s.fanCmd f k fun s => s.fanRestart f)

/-- A write of FANn_MDUTY: a set-point command to the drive port under R18 (R107). A manual duty above the FDUTY of an
active rule is forbidden (R286), and with MAN = 1 DUTY must lie within LIMITS. -/
def State.writeMduty (s : State) (f : FanId) (v : Word) (k : SessId) : State × Status :=
  let p := s.fanDrv f
  let man := bit v 31
  let d := bits v 0 8 * 257
  let forbids := man && (s.rulesAt p).any fun r =>
    (s.ruleAct r == 3 && decide (s.ruleDuty r < d)) || (s.ruleAct r == 1 && decide (0 < d))
  let st := firstFail [(s.admits p (s.me k), .recipeLocked), (!forbids, .interlock),
    (!man || (decide (s.dutyMin p ≤ d) && decide (d ≤ s.dutyMax p)), .limit)]
  match st with
  | .ok => match s.check4 p false with
    | .ok => (s.setFan f fun x => { x with man := man, mduty := bits v 0 8 }, .ok)
    | st => (s, st)
  | st => (s, st)

/-- FAN_MDUTY_WRITE (R107). -/
def execFanMdutyWrite (f : FanId) (v : Word) (k : SessId) (s : State) : Out :=
  .next (s.fanCmd f k fun s => s.writeMduty f v k)

/-- A write of FANn_HTEMP supplies the host temperature and restarts its 10 s age limit (R107). -/
def State.writeHtemp (s : State) (f : FanId) (v : Word) : State × Status :=
  if s.fanUsed f then (s.setFan f fun x => { x with htemp := v &&& 0xFFFF, htempAt := some s.tick }, .ok)
  else (s, .badAddr)

/-- FAN_HTEMP_WRITE (R107). -/
def execFanHtempWrite (f : FanId) (v : Word) (k : SessId) (s : State) : Out :=
  .next (if s.fanUsed f then s.gated k (s.gate k rightPARAM) fun s => s.writeHtemp f v
    else s.answer (s.me k) .badAddr)

/-! ### Ageing (R115, R116) -/

/-- The in-band hours of the samples taken (R115). -/
def FanAge.hours (a : FanAge) : Nat := satNat 32767 (a.count / 3600)

/-- The ageing data with one more sample, and whether this sample sets the baseline (R115). -/
def FanAge.sample (a : FanAge) (n : Rat) : FanAge × Bool :=
  match a.baseline with
  | some _ => ({ a with count := a.count + 1, mean := a.mean + (n - a.mean) / 3600 }, false)
  | none =>
    let a := { a with count := a.count + 1, sum := a.sum + n }
    if a.count = 72000 then
      let b := a.sum / 72000
      ({ a with baseline := some b, mean := b }, true)
    else (a, false)

/-- AGEING_SAMPLE: once per second in RUN with TACHO = 0 (R115). `vbank` is the 1 s mean in 1/64 V, `freq` the mean in
1/256 Hz, `steady` says that FREQ stayed in band and the duty did not change throughout the second. -/
def execAgeingSample (f : FanId) (vbank freq : Nat) (steady : Bool) (s : State) : Out :=
  .next (
    let x := s.fan.fans[f]
    let r := s.fanReff f
    if x.status = .run && !x.tacho && steady && r != 0 && freq != 0
        && decide (95 * r * 256 ≤ 100 * freq) && decide (100 * freq ≤ 105 * r * 256) then
      let n : Rat := ((x.duty * vbank * r * 256 : Nat) : Rat) / (64 * freq : Nat)
      let a := x.age.sample n
      let i := a.1.index
      let past := decide (s.fanAgelim f < i)
      let noted := if past then true else if i + 50 < s.fanAgelim f then false else x.age.noted
      let s := s.setFan f fun x => { x with age := { a.1 with noted := noted } }
      s.emitAll ((if past && !x.age.noted then [s.fanEv 0x0707 f .run i] else [])
        ++ (if a.2 then [s.fanEv 0x0708 f .run i] else []))
    else s)

/-- The ageing data of all controllers saved with what they belong to (R116). -/
def State.saveAge (s : State) : State :=
  s.onFan fun x =>
    { x with saved := Vector.ofFn fun f => ⟨x.fans[f].age, (s.fanDrv f).val, (s.fanTach f).val, s.fanReff f⟩,
             savedHash := s.rcp.head.digest, everSaved := true }

/-- FAN_AGE_SAVE (R116). -/
def execFanAgeSave (s : State) : Out := .next s.saveAge

/-- The ageing data of a controller cleared and FAN_AGE_CLEARED recorded (R116). -/
def State.clearAge (s : State) (f : FanId) : State :=
  let s := s.setFan f fun x => { x with age := {} }
  s.emit (s.fanEv 0x070B f s.fan.fans[f].status (s.current (s.fanDrv f)))

/-- A write of FANn_AGECLR (R116). -/
def State.writeAgeclr (s : State) (f : FanId) (v : Word) : State × Status :=
  if s.fanUsed f then (if bit v 0 then (s.clearAge f, .ok) else (s, .ok)) else (s, .badAddr)

/-- FAN_AGECLR (R116). -/
def execFanAgeclr (f : FanId) (v : Word) (k : SessId) (s : State) : Out :=
  .next (if s.fanUsed f then s.gated k (s.gateRws k rightSERVICE) fun s => s.writeAgeclr f v
    else s.answer (s.me k) .badAddr)

/-! ### THERM_TRIP_N (R117, R119) -/

/-- The comparator's threshold in °C by strap levels (R117). -/
def tripThreshold (tt : Nat) : Nat :=
  match tt with | 0 => 125 | 1 => 115 | 2 => 105 | _ => 95

/-- THERM_TRIP or THERM_TRIP_CLEARED for a level (R119, R120). -/
def State.thermEv (s : State) (low : Bool) : Ev :=
  { code := if low then 0x0709 else 0x070A, origin := .runtime,
    payload := le 1 0xFF ++ zeros 3 ++ le 4 (tripThreshold s.fan.tt) ++ zeros 6 ++ leInt 2 s.fan.sensor ++ s.stamp }

/-- THERM_TRIP: the comparator pulls THERM_TRIP_N low or releases it and, once the runtime runs, the change is recorded
(R117, R119). While the comparator is not active the output stays released (R118). `sensor` is in 0.125 °C. -/
def execThermTrip (low sfault : Bool) (sensor : Int) (s : State) : Out :=
  .next (
    if s.pwr.comparator then
      let change := low != s.fan.trip
      let s := s.onFan fun x => { x with trip := low, sfault := sfault, sensor := sensor }
      if change && s.pwr.runtime then s.emit (s.thermEv low) else s
    else s)

end Sys2Proof.Machine
end

