-- ==== Sys2Proof/Machine/Gnss.lean ====
section
/-! DEFINITION. The meanings of the GNSS rows (R181 to R193). -/

namespace Sys2Proof.Machine

open Sys2Proof

def State.setChan (s : State) (c : GnsCh) (f : Chan → Chan) : State := s.onGns fun g => { g with chans := upd g.chans c f }

/-- The channel is in TRACK, BITSYNC or NAV. -/
def Chan.tracks (x : Chan) : Bool := x.st == .track || x.st == .bitsync || x.st == .nav

/-- NTRK. -/
def State.ntrk (s : State) : Nat := (s.gns.chans.toList.filter Chan.tracks).length

/-- EPHAGE, ALMAGE and POSAGE in seconds (GNS_AGES). -/
def State.ephAge (s : State) : Nat := bits s.gnsAges 16 8 * 600
def State.almAge (s : State) : Nat := bits s.gnsAges 24 8 * 86400
def State.posAge (s : State) : Nat := bits s.gnsAges 8 8 * 3600

/-- Something of second `at_` is no older than `lim` seconds. -/
def State.within (s : State) (at_ lim : Nat) : Bool := decide (s.secs ≤ at_ + lim)

/-- The ephemeris of a PRN no older than `lim` seconds. -/
def State.ephWithin (s : State) (prn lim : Nat) : Bool :=
  match assoc prn s.gns.eph with
  | some a => s.within a lim
  | none => false

/-- GNS_CHc.EPH: a valid ephemeris is held. -/
def State.ephValid (s : State) (prn : Nat) : Bool := s.ephWithin prn s.ephAge

/-! ### Starts (R190) -/

/-- The kind of a start: 2 = hot, 1 = warm, 0 = cold. `above` lists the PRNs predicted above ELEV. -/
def State.startKind (s : State) (above : List Nat) (cold : Bool) : Nat :=
  let pos := match s.gns.pos with
    | some (a, _) => s.within a s.posAge
    | none => false
  let alm := match s.gns.alm with
    | some a => s.within a s.almAge
    | none => false
  if cold || s.tmb.qual = .none then 0
  else if decide (4 ≤ (above.filter s.ephValid).length) && pos && s.trained then 2
  else if alm && pos then 1 else 0

/-- A GNSS start: every channel idle, the fix and TTFF anew (R190, R182). -/
def State.gnssStart (s : State) (above : List Nat) (cold : Bool) : State :=
  let s := if cold then s.onGns fun g => { g with eph := [], alm := none, pos := none, savedEph := [], savedAlm := none, savedPos := none } else s
  let kind := s.startKind above cold
  s.onGns fun g => { g with chans := Vector.replicate 32 {}, kind := kind, startAt := some s.tick, firstFix := false,
                            ttff := 0, lost := false, fix := 0, nsv := 0, asleep := false,
                            ant := if g.ant = .off then .normal else g.ant }

/-- GNS_CMD.RESTART and COLD; a receiver that is not enabled makes no start. -/
def State.cmdGns (s : State) (above : List Nat) (cold : Bool) : State × Status :=
  if s.gnssOn then (s.gnssStart above cold, .ok) else (s, .notReady)

/-- GNSS_RESTART (R190). -/
def execGnssRestart (above : List Nat) (k : SessId) (s : State) : Out :=
  .next (s.gated k (s.gateRws k rightSERVICE) fun s => s.cmdGns above false)

/-- GNSS_COLD (R190). -/
def execGnssCold (k : SessId) (s : State) : Out :=
  .next (s.gated k (s.gateRws k rightSERVICE) fun s => s.cmdGns [] true)

/-- A write of GNS_CTRL (R7, R193). -/
def State.writeGnsCtrl (s : State) (v : Word) : State × Status :=
  if 4 < bits v 0 3 then (s, .limit) else (s.onGns fun g => { g with rateReq := bits v 0 3 }, .ok)

/-- GNSS_RATE_WRITE (R193). -/
def execGnssRateWrite (v : Word) (k : SessId) (s : State) : Out :=
  .next (s.gated k (s.gate k rightPARAM) fun s => s.writeGnsCtrl v)

/-! ### Channels (R182, R185) -/

/-- A channel that is in one of the named states takes another. -/
def State.chanGoes (s : State) (c : GnsCh) (froms : List ChanStatus) (to_ : ChanStatus) : State :=
  if froms.contains s.gns.chans[c].st then s.setChan c fun x => { x with st := to_ } else s

/-- CHANNEL_ASSIGN: the runtime assigns a PRN to an idle channel, no sooner than 1 s after a slot fault (R182, R185). -/
def execChannelAssign (c : GnsCh) (prn : Nat) (s : State) : Out :=
  .next (
    let x := s.gns.chans[c]
    let rested := match x.faults with
      | a :: _ => decide (a + 120000000 ≤ s.tick)
      | [] => true
    if s.gnssOn && x.st = .idle && !x.barred && rested && decide (1 ≤ prn ∧ prn ≤ 32) then
      s.setChan c fun x => { x with st := .search, prn := prn, pol := 0, cn0 := 0 }
    else s)

/-- An idle channel has no PRN. -/
def State.chanIdle (s : State) (c : GnsCh) : State := s.setChan c fun x => { x with st := .idle, prn := 0, pol := 0, cn0 := 0 }

/-- SEARCH_END: a verified cell leads to PULLIN, a fruitless search to IDLE (R185). -/
def execSearchEnd (c : GnsCh) (found : Bool) (s : State) : Out :=
  .next (if s.gns.chans[c].st = .search then (if found then s.chanGoes c [.search] .pullin else s.chanIdle c) else s)

/-- PULLIN_END: lock for 100 ms leads to TRACK, 1 s without it back to SEARCH (R185). -/
def execPullinEnd (c : GnsCh) (locked : Bool) (s : State) : Out :=
  .next (s.chanGoes c [.pullin] (if locked then .track else .search))

/-- BIT_SYNC: bit edges lead from TRACK to BITSYNC (R185). -/
def execBitSync (c : GnsCh) (s : State) : Out := .next (s.chanGoes c [.track] .bitsync)

/-- PREAMBLE_CONFIRMED: a confirmed preamble leads from BITSYNC to NAV, and resolves the polarity (R185, R189). -/
def execPreambleConfirmed (c : GnsCh) (inverted : Bool) (s : State) : Out :=
  .next (
    let st := s.gns.chans[c].st
    if st = .bitsync ∨ st = .nav then s.setChan c fun x => { x with st := .nav, pol := if inverted then 2 else 1 } else s)

/-- REACQ_ENTRY: low C/N0 or lost PLL lock leads to REACQ (R185). -/
def execReacqEntry (c : GnsCh) (s : State) : Out := .next (s.chanGoes c [.track, .bitsync, .nav] .reacq)

/-- REACQ_END: a cell near the prediction leads to PULLIN, 5 s without one to IDLE (R185). -/
def execReacqEnd (c : GnsCh) (found : Bool) (s : State) : Out :=
  .next (if s.gns.chans[c].st = .reacq then (if found then s.chanGoes c [.reacq] .pullin else s.chanIdle c) else s)

/-- The code and carrier slots of a channel (R181). -/
def codeSlot (c : GnsCh) : SlotId := ⟨64 + 2 * c.val, by omega⟩
def carrierSlot (c : GnsCh) : SlotId := ⟨65 + 2 * c.val, by omega⟩

/-- A tracking slot is put in OFF and its fault cleared by the runtime (R182). -/
def State.slotRested (s : State) (n : SlotId) : State :=
  s.onEng fun e => { e with slots := upd e.slots n fun x =>
    { x with mode := .off, req := .off, modePend := none, fcause := .none, resrun := 0, resmm := false } }

/-- GNSS_CHANNEL_FAULT: a tracking slot is in FAULT; the channel becomes IDLE and is recorded, both slots are put in
OFF, and the third fault within 10 minutes bars the channel (R182). -/
def execGnssChannelFault (c : GnsCh) (s : State) : Out :=
  .next (
    let slot := if s.slotFaulted (codeSlot c) then some (codeSlot c)
      else if s.slotFaulted (carrierSlot c) then some (carrierSlot c) else none
    match slot with
    | none => s
    | some n =>
      if !s.gnssOn then s
      else
        let s := s.timeEmit 0x090E s.tmb.qual c.val s.gns.chans[c].prn n.val
        let fs := s.tick :: s.gns.chans[c].faults.filter fun a => decide (s.tick ≤ a + 600 * 120000000)
        let s := (s.chanIdle c).setChan c fun x => { x with faults := fs, barred := decide (3 ≤ fs.length) }
        (s.slotRested (codeSlot c)).slotRested (carrierSlot c))

/-! ### Antenna and duty (R184, R186) -/

/-- GNSS_ANT_FAULT: an open or shorted antenna is recorded and ends the GNSS source (R184, R168). Bias current in
0.1 mA, bias voltage in mV. -/
def execGnssAntFault (short : Bool) (i v : Nat) (s : State) : Out :=
  .next (
    if !s.gnssOn then s
    else
      let s := s.onGns fun g => { g with ant := if short then .short else .open, ibias := satNat 65535 i, vbias := satNat 65535 v }
      let s := s.timeEmit 0x090D s.tmb.qual (if short then 2 else 1) i 0
      if s.timeSrc = 1 then s.loseSource else s)

/-- The end of an antenna fault is recorded (R184). -/
def State.antEnds (s : State) (i v : Nat) : State :=
  (s.onGns fun g => { g with ant := .normal, ibias := satNat 65535 i, vbias := satNat 65535 v }).timeEmit 0x090D s.tmb.qual 3 i 0

/-- ANT_BIAS_RETRY: 10 s after a short the bias is applied again; above 80 mA the short stands (R184). -/
def execAntBiasRetry (i v : Nat) (s : State) : Out :=
  .next (
    if s.gns.ant = .short then
      if 800 < i then s.onGns fun g => { g with ibias := satNat 65535 i, vbias := satNat 65535 v } else s.antEnds i v
    else s)

/-- GNSS_ANT_FAULT_ENDED: an open antenna's bias current is normal again (R184). -/
def execGnssAntFaultEnded (i v : Nat) (s : State) : Out := .next (if s.gns.ant = .open then s.antEnds i v else s)

/-- GNS_STAT.DUTY (R186). -/
def State.dutyApplies (s : State) : Bool :=
  s.gnssOn && s.sys.current = .simmer && s.gns.firstFix
    && s.gns.chans.toList.all fun x => !x.tracks || (s.ephValid x.prn && (s.ephWithin x.prn (s.ephAge / 2)))

/-- DUTY_WINDOW: the window around a whole second opens or closes (R186). -/
def execDutyWindow (opens : Bool) (s : State) : Out :=
  .next (s.onGns fun g => { g with asleep := !opens && s.dutyApplies })

/-! ### Measurements and words (R187 to R191) -/

/-- The highest PVT rate of a mode, in the encoding of GNS_CTRL.RATE (R29). -/
def modePvt : Mode → Nat
  | .simmer => 0 | .boil => 3 | .sear => 4

/-- The PVT rate of an encoding, Hz. -/
def pvtHz : Nat → Nat
  | 0 => 1 | 1 => 2 | 2 => 5 | 3 => 10 | _ => 20

/-- The epoch number within the second of an instant. -/
def epochOf (instant rate : Nat) : Nat := ((instant % 2 ^ 32 * pvtHz rate + 2 ^ 31) / 2 ^ 32) % pvtHz rate

/-- A pseudorange of the channel is valid (R188). -/
def State.rangeValid (s : State) (x : Chan) : Bool :=
  x.st == .nav || ((x.st == .track || x.st == .bitsync) && (s.tmb.qual == .locked || s.tmb.qual == .holdover))

/-- A measurement entry of Q11 (R188). -/
def State.measEntry (s : State) (m : GnsMeas) (last : Bool) : List Byte :=
  let x := s.gns.chans[m.chan]
  le 1 1 ++ le 1 m.chan.val ++ le 1 x.prn
    ++ le 1 (flagAt m.codeLock 0 + flagAt m.carrierLock 1 + flagAt (x.st == .bitsync || x.st == .nav) 2
        + flagAt (s.rangeValid x) 3 + flagAt m.slip 4 + flagAt (x.pol != 0) 5 + flagAt last 6 + flagAt s.dutyApplies 7)
    ++ le 2 m.cn0 ++ le 2 (epochOf s.now s.gns.rateF) ++ leInt 8 m.range ++ leInt 8 m.phase ++ leInt 4 m.doppler ++ le 4 s.secs

/-- The entries of an epoch; the last carries its flag. -/
def State.epochEntries (s : State) : List GnsMeas → List (List Byte)
  | [] => []
  | [m] => [s.measEntry m true]
  | m :: ms => s.measEntry m false :: s.epochEntries ms

/-- Entries put at the end of Q11. -/
def State.pushQ11 (s : State) (es : List (List Byte)) : State :=
  let s := s.onGns fun g => { g with q11 := g.q11 ++ es }
  s.noteFill 11 s.gns.q11.length

/-- MEASUREMENT_EPOCH: the tracking channels latch, and their entries enter Q11 together when four entries stay free
(R187); the rate in force is the lesser of the request and the mode's (R193). A slip makes the polarity unresolved. -/
def execMeasurementEpoch (ms : List GnsMeas) (s : State) : Out :=
  .next (
    if !s.gnssOn then s
    else
      let s := s.onGns fun g => { g with rateF := min g.rateReq (modePvt s.sys.current) }
      let ms := ms.filter fun m => s.gns.chans[m.chan].tracks && !s.gns.asleep
      let s := ms.foldl (fun (s : State) (m : GnsMeas) => s.setChan m.chan fun x =>
        { x with cn0 := satNat 8191 m.cn0, pol := if m.slip then 0 else x.pol }) s
      if s.gns.q11.length + ms.length + 4 ≤ 64 then s.pushQ11 (s.epochEntries ms) else s.noteOvf 11)

/-- The exclusive-or of the named data bits of a word, d1 in place 29. -/
def xorBits (d : Nat) (ks : List Nat) : Bool := ks.foldl (fun b k => b != d.testBit (30 - k)) false

/-- The parity bits D25 to D30 of a word by the IS-GPS-200 equations, D25 the most significant. PRESUMED: the manual names
the equations of that standard. -/
def navParity (w : BitVec 30) (d29 d30 : Bool) : Nat :=
  let d := if d30 then Nat.xor w.toNat 0x3FFFFFC0 else w.toNat
  flagAt (d29 != xorBits d [1, 2, 3, 5, 6, 10, 11, 12, 13, 14, 17, 18, 20, 23]) 5
    + flagAt (d30 != xorBits d [2, 3, 4, 6, 7, 11, 12, 13, 14, 15, 18, 19, 21, 24]) 4
    + flagAt (d29 != xorBits d [1, 3, 4, 5, 7, 8, 12, 13, 14, 15, 16, 19, 20, 22]) 3
    + flagAt (d30 != xorBits d [2, 4, 5, 6, 8, 9, 13, 14, 15, 16, 17, 20, 21, 23]) 2
    + flagAt (d30 != xorBits d [1, 3, 5, 6, 7, 9, 10, 14, 15, 16, 17, 18, 21, 22, 24]) 1
    + flagAt (d29 != xorBits d [3, 5, 6, 8, 9, 10, 11, 13, 15, 19, 22, 23, 24]) 0

/-- The syndrome: the received D25 to D30 exclusive-or the parity (R189). -/
def navSyndrome (w : BitVec 30) (d29 d30 : Bool) : Nat := Nat.xor (w.toNat % 64) (navParity w d29 d30)

/-- A navigation-word entry of Q11 (R189). -/
def State.wordEntry (s : State) (c : GnsCh) (w : NavWord) : List Byte :=
  let x := s.gns.chans[c]
  let inv := x.pol == 2
  let d := if inv then ~~~w.word else w.word
  let syn := navSyndrome d (w.d29 != inv) (w.d30 != inv)
  le 1 2 ++ le 1 c.val ++ le 1 x.prn ++ le 1 (flagAt (syn == 0) 0 + flagAt inv 1 + flagAt (x.pol == 0) 2) ++ le 4 d.toNat
    ++ le 1 syn ++ le 1 w.number ++ le 1 w.subframe ++ zeros 1 ++ stampOf w.instant ++ zeros 12

/-- The week of a 10-bit week number (R191). -/
def State.fullWeek (s : State) (w : Nat) : Nat :=
  let base := bits s.gnsCfg 16 14
  base + (w + 1024 * 17 - base) % 1024

/-- What the runtime takes from a decoded word (R190, R191). -/
def State.learnWord (s : State) (c : GnsCh) (w : NavWord) : State :=
  s.onGns fun g =>
    let eph := if w.ephemeris then assocSet g.chans[c].prn s.secs g.eph else g.eph
    let alm := if w.almanac then some s.secs else g.alm
    { g with eph := eph, alm := alm, savedEph := if w.ephemeris then eph else g.savedEph,
             savedAlm := if w.almanac then alm else g.savedAlm,
             leap := w.leap.getD g.leap, utcValid := g.utcValid || w.leap.isSome,
             week := match w.week with | some n => s.fullWeek n | none => g.week }

/-- NAV_WORD: a word of a channel in NAV is queued into Q11 with its syndrome, or discarded and counted (R187, R189). -/
def execNavWord (c : GnsCh) (w : NavWord) (s : State) : Out :=
  .next (
    if !s.gnssOn || s.gns.chans[c].st != .nav then s
    else
      let s := if s.gns.q11.length < 64 then s.pushQ11 [s.wordEntry c w]
        else (s.noteOvf 11).onGns fun g => { g with navLost := satNat 255 (g.navLost + 1) }
      s.learnWord c w)

/-! ### The solution (R192) -/

/-- The SVs that enter the solution: above ELEV, C/N0 at least CN0MIN, a valid ephemeris and pseudorange. -/
def State.usable (s : State) (svs : List (GnsCh × Nat)) : List (GnsCh × Nat) :=
  svs.filter fun v =>
    let x := s.gns.chans[v.1]
    decide (bits s.gnsCfg 8 8 < v.2) && decide (bits s.gnsCfg 0 8 * 100 ≤ x.cn0) && s.ephValid x.prn && s.rangeValid x

/-- The height of a 2D fix: that of the last 3D fix within POSAGE; the manual states none otherwise. -/
def State.height2 (s : State) : Int :=
  match s.gns.fix3 with
  | some (a, h) => if s.within a s.posAge then h else sbits (Config.freeWord s.sys.draws) 0 32
  | none => sbits (Config.freeWord s.sys.draws) 0 32

/-- The PVT registers of a fix (R192). -/
def State.pvtOf (s : State) (v : Fix) (h : Int) : Pvt :=
  { seq := (s.gns.pvt.seq + 1) % 65536, pdop := satNat 255 v.pdop, epoch := epochOf v.instant s.gns.rateF,
    secs := word (v.instant / 2 ^ 32), lat := v.lat, lon := v.lon, hgt := h, vn := v.vn, ve := v.ve, vu := v.vu,
    speed := satNat 65535 v.speed, hdg := if v.speed < 300 then 0xFFFF else v.hdg, hacc := satNat 65535 v.hacc,
    vacc := satNat 65535 v.vacc }

/-- The first fix after a start, or after a loss, is recorded (R192). -/
def State.fixMade (s : State) (n : Nat) : State :=
  let first := !s.gns.firstFix
  let again := s.gns.lost
  let t := (s.tick - s.gns.startAt.getD s.tick) / ticksPerMs
  let s := s.onGns fun g => { g with firstFix := true, lost := false, ttff := if first then t else g.ttff }
  if first || again then s.timeEmit 0x090B s.tmb.qual s.gns.kind (sbits (word s.gns.ttff) 0 32) n else s

/-- PVT_SOLUTION: the runtime presents the solution of an epoch (R192); it feeds section control from an internal
source (R198). -/
def execPvtSolution (v : Fix) (s : State) : Out :=
  .next (
    if !s.gnssOn then s
    else
      let n := (s.usable v.svs).length
      if n < 3 then s.onGns fun g => { g with fix := 0, nsv := n, pvt := { g.pvt with hdg := 0xFFFF } }
      else
        let h := if 4 ≤ n then v.hgt else s.height2
        let p := s.pvtOf v h
        let s := if n < 4 then s.draw else s
        let at_ := v.instant / 2 ^ 32
        let s := s.onGns fun g =>
          { g with fix := if 4 ≤ n then 2 else 1, nsv := n, pvt := p, pos := some (at_, v.lat, v.lon, h),
                   fix3 := if 4 ≤ n then some (at_, v.hgt) else g.fix3 }
        let s := s.fixMade n
        let xy := s.plane v.lat v.lon
        if s.posSrc = 0 then
          s.pushSolution { x := xy.1, y := xy.2, speed := v.speed, hdg := if p.hdg = 0xFFFF then none else some p.hdg,
                           tick := s.tickOf v.instant, seen := s.tick, hacc := p.hacc, fix := s.gns.fix }
        else s)

/-- GNSS_FIX_LOST: 3 s pass without a fix (R192). -/
def execGnssFixLost (s : State) : Out :=
  .next (
    if !s.gnssOn || s.gns.lost then s
    else (s.onGns fun g => { g with lost := true, fix := 0, pvt := { g.pvt with hdg := 0xFFFF } }).timeEmit 0x090C s.tmb.qual 0 s.ntrk 0)

/-- GNSS_POSITION_SAVE: every 10 minutes the last position is saved to module flash (R190). -/
def execGnssPositionSave (s : State) : Out := .next (s.onGns fun g => { g with savedPos := g.pos })

end Sys2Proof.Machine
end

