-- ==== Sys2Proof/Machine/LockGroups.lean ====
section
/-! DEFINITION. The meanings of the lock-group rows (R250, R251). -/

namespace Sys2Proof.Machine

open Sys2Proof

/-! ### Grids -/

/-- P and the grid phase of a group in 2^-32 s (R250). -/
def State.lgPer (s : State) (g : LgId) : Nat := (s.rw secLOCKGRP 1 g.val 1).toNat + bits (s.lgCfg g) 0 8 * 2 ^ 32
def State.lgPh (s : State) (g : LgId) : Nat := (s.rw secLOCKGRP 1 g.val 2).toNat * 256
def State.lgOneshot (s : State) (g : LgId) : Bool := bit (s.lgCfg g) 30

/-- The first grid instant at or after `x`. -/
def gridFrom (per phase x : Nat) : Nat :=
  if per = 0 then x
  else
    let p := phase % per
    p + (x - p + per - 1) / per * per

/-- 10 ms in 2^-32 s, rounded up. -/
def tenMs : Nat := 42949673

/-- The first G_k of a group at least 10 ms after now. -/
def State.lgBoundary (s : State) (g : LgId) : Nat := gridFrom (s.lgPer g) (s.lgPh g) (s.now + tenMs)

/-! ### Members (R250, R251) -/

/-- A member's record as the device that runs it holds it. -/
def runOf (g : LgId) (m : Fin 32) (a b : Word) (per phase startB : Nat) (oneshot : Bool) : Running :=
  { group := g, idx := m, port := Fin.ofNat 32 (bits a 21 5), carrier := bits a 19 2 == 2, value := bits a 0 16,
    offset := b.toNat * 256, per := per, phase := phase, startB := startB, stopB := none, oneshot := oneshot, slot := none,
    last := none }

/-- The device's own Recipe admits the member (R250, R285). -/
def State.admitsMember (s : State) (r : Running) : Bool :=
  if r.carrier then s.func r.port == 0x04 && s.ownerKind r.port == 3 && s.ownerIdx r.port == r.group.val
  else (isSolFunc (s.func r.port) || isOutFunc (s.func r.port)) && bit (s.admitMask r.port) 8
    && (!s.isWorker || bit (s.admitMask r.port) 9)

/-- A carrier member sets the grid of its port (R51, R250). -/
def State.setGrid (s : State) (r : Running) : State :=
  s.setPorts (s.members r.port) fun x => { x with per := word r.per, ph := word ((r.phase + r.offset) % r.per) }

/-- The grid that a lock group gives a port: of the member that runs here, else of the manager's Recipe (R250). -/
def State.gridOf (s : State) (p : PortId) : Option (Nat × Nat) :=
  let mine (r : Running) : Bool := r.carrier && decide (r.port = s.lead p)
  let rs := s.hie.runs ++ (if s.isWorker then [] else ((idx 16).filter s.lgUsed).flatMap fun g =>
    ((s.lgMems g).filter fun m => s.memDev g m == s.sys.addr).map fun m =>
      runOf g m (s.memA g m) (s.memB g m) (s.lgPer g) (s.lgPh g) 0 (s.lgOneshot g))
  (rs.find? mine).map fun r => (r.per, (r.phase + r.offset) % r.per)

/-- A member joins those that run here, with a Q10 entry for a command member; or the status of its refusal (R251). -/
def State.joinHere (s : State) (r : Running) : State × Status :=
  if !s.admitsMember r then (s, .limit)
  else if r.carrier then ((s.setGrid r).onHie fun h => { h with runs := h.runs ++ [r] }, .ok)
  else match s.reserve (.member r.group r.idx) with
    | (s, some e) => (s.onHie fun h => { h with runs := h.runs ++ [{ r with slot := some e.val }] }, .ok)
    | (s, none) => (s, .queueFull)

/-- LG_MEMBER_REFUSED on the manager (R251). -/
def State.refuseMember (s : State) (g : LgId) (m : Fin 32) (st : Status) : State :=
  (s.setLg g fun x => { x with ref := x.ref ||| BitVec.ofNat 32 (2 ^ m.val) }).hieEmit 0x0A0B g.val st.code m.val
    (bits (s.memA g m) 21 5)

/-- The members of a group on this device start (R251). -/
def State.startHere (s : State) (g : LgId) (startB : Nat) : State :=
  ((s.lgMems g).filter fun m => s.memDev g m == s.sys.addr).foldl (fun (s : State) (m : Fin 32) =>
    let r := runOf g m (s.memA g m) (s.memB g m) (s.lgPer g) (s.lgPh g) startB (s.lgOneshot g)
    match s.joinHere r with
    | (s, .ok) => s
    | (s, st) => s.refuseMember g m st) s

/-- LG_STOP to a worker (R240). -/
def State.sendStop (s : State) (g : LgId) (a b : Nat) : State :=
  (s.send 0x85 a (le 1 a ++ le 1 g.val ++ zeros 2 ++ stampOf b)).1

/-- LG_DESC of some members to a worker (R240). The message has no field for ONESHOT: an LG_STOP one period on follows it,
so that each member has one instant (R250). -/
def State.sendDesc (s : State) (g : LgId) (a startB : Nat) (ms : List (Fin 32)) : State × Bool :=
  let r := s.send 0x84 a (le 1 a ++ le 1 g.val ++ le 1 ms.length ++ zeros 1 ++ le 4 (s.lgPer g) ++ le 1 (s.lgPer g / 2 ^ 32)
    ++ zeros 3 ++ le 4 (s.lgPh g / 256) ++ stampOf startB ++ ms.flatMap fun m => wordBytes (s.memA g m) ++ wordBytes (s.memB g m))
  if r.2 && s.lgOneshot g then (r.1.sendStop g a (startB + s.lgPer g), true) else r

/-- A worker is released and LOCKED. -/
def State.workerReady (s : State) (a : Nat) : Bool :=
  let w := s.hie.workers[(Fin.ofNat 64 a : Fin 64)]
  w.rel && !w.lost && w.qual == .locked

/-- The workers that carry members of a group. -/
def State.lgWorkers (s : State) (g : LgId) : List Nat :=
  ((List.range s.nwork).map fun j => s.chainAt (j + 1)).filter fun a => (s.lgMems g).any fun m => s.memDev g m == a

/-- The members on workers: sent where the worker is released and LOCKED, waiting elsewhere (R251). -/
def State.startFar (s : State) (g : LgId) (startB : Nat) : State :=
  (s.lgWorkers g).foldl (fun (s : State) (a : Nat) =>
    let ms := (s.lgMems g).filter fun m => s.memDev g m == a
    if s.workerReady a then (s.sendDesc g a startB ms).1
    else s.setLg g fun x => { x with wait := ms.foldl (fun w m => w ||| BitVec.ofNat 32 (2 ^ m.val)) x.wait }) s

/-- The group takes its start boundary (R251). -/
def State.lgBegin (s : State) (g : LgId) (startB : Nat) : State :=
  let s := s.setLg g fun _ => { st := .starting, startB := startB, stopB := 0, held := none, wait := 0, ref := 0 }
  (s.startHere g startB).startFar g startB

/-- START of a group (R251). -/
def State.cmdLgStart (s : State) (g : LgId) : State × Status :=
  match s.hie.lgs[g].st with
  | .stopped => (s.lgBegin g (s.lgBoundary g), .ok)
  | .starting | .running => (s, .ok)
  | .stopping => (s.setLg g fun x => { x with held := some s.now }, .ok)

/-- An entry of Q10 without the ON of a member of `g` whose instant lies at or after a stop boundary (R251). -/
def Q10Slot.dropFrom (e : Q10Slot) (g : LgId) (stopB : Nat) : Q10Slot :=
  match e.holder, e.cmd with
  | .member g' _, some c => if g' = g ∧ stopB ≤ c.at_ then { e with cmd := none } else e
  | _, _ => e

/-- No member instant at or after a boundary is made on this device: one that waits in Q10 is removed (R251). -/
def State.stopHere (s : State) (g : LgId) (stopB : Nat) : State :=
  let s := s.onHie fun h => { h with runs := h.runs.map fun r => if r.group = g then { r with stopB := some stopB } else r }
  s.onHie fun h => { h with q10 := updAll h.q10 fun _ e => e.dropFrom g stopB }

/-- STOP of a group (R251). -/
def State.cmdLgStop (s : State) (g : LgId) : State × Status :=
  match s.hie.lgs[g].st with
  | .starting | .running =>
    let b := s.lgBoundary g
    let s := (s.setLg g fun x => { x with st := .stopping, stopB := b }).stopHere g b
    ((s.lgWorkers g).foldl (fun (s : State) (a : Nat) => s.sendStop g a b) s, .ok)
  | .stopping => (s.setLg g fun x => { x with held := none }, .ok)
  | .stopped => (s, .ok)

/-- A lock-group command of a source: a group the Recipe does not define answers BAD_ADDR (R251, R482), and a worker's
registers RECIPE_LOCKED. -/
def State.lgGated (s : State) (g : LgId) (src : Src) (go : State → State × Status) : State :=
  let body (s : State) : State := if s.isWorker then s.answer src .recipeLocked else let r := go s; r.1.answer src r.2
  if !s.isWorker && !s.lgUsed g then s.answer src .badAddr
  else match s.srcGate src with
    | .ok => body s
    | st => s.answer src st

/-- LG_START (R251). -/
def execLgStart (g : LgId) (src : Src) (s : State) : Out := .next (s.lgGated g src fun s => s.cmdLgStart g)
/-- LG_STOP_CMD (R251). -/
def execLgStopCmd (g : LgId) (src : Src) (s : State) : Out := .next (s.lgGated g src fun s => s.cmdLgStop g)

/-! ### Boundaries and instants -/

/-- The carriers of a group on this device present their DUTY, or 0 (R250). -/
def State.presentCarriers (s : State) (g : LgId) (on : Bool) : State :=
  (s.hie.runs.filter fun r => decide (r.group = g) && r.carrier).foldl (fun (s : State) (r : Running) =>
    (s.setPort r.port fun x => { x with ownerVal := s.clampOwner r.port (if on then (r.value : Int) else 0) }).settle r.port) s

/-- LG_STARTED: at its start boundary the group enters RUNNING (R251); a worker's held carriers begin. -/
def execLgStarted (g : LgId) (s : State) : Out :=
  .next (
    if s.isWorker then s.presentCarriers g true
    else if s.hie.lgs[g].st = .starting then
      let n := (idx 32).filter fun m => s.hie.lgs[g].wait.getLsbD m.val
      let s := (s.setLg g fun x => { x with st := .running }).presentCarriers g true
      s.hieEmit 0x0A09 g.val 0 (sbits (word s.hie.lgs[g].startB) 0 32) n.length
    else s)

/-- The members of a group leave this device and their entries are free. -/
def State.endHere (s : State) (g : LgId) : State :=
  let s := s.presentCarriers g false
  s.onHie fun h =>
    { h with runs := h.runs.filter (fun r => decide (r.group ≠ g)),
             q10 := updAll h.q10 fun _ e => match e.holder with | .member g' _ => if g' = g then {} else e | _ => e }

/-- The last instant of a one-shot group: its start boundary and the greatest offset (R250). -/
def State.lastOneshot (s : State) (g : LgId) : Nat :=
  s.hie.lgs[g].startB + ((s.lgMems g).map fun m => (s.memB g m).toNat * 256).foldl max 0

/-- LG_STOPPED: at its stop boundary, or its last one-shot instant, the group enters STOPPED; a held START begins it again
(R250, R251). On a worker its descriptor ends. -/
def execLgStopped (g : LgId) (s : State) : Out :=
  .next (
    let x := s.hie.lgs[g]
    let oneshot := x.st = .running && s.lgOneshot g
    if s.isWorker then s.endHere g
    else if x.st = .stopping || oneshot then
      let b := if oneshot then s.lastOneshot g else x.stopB
      let s := (s.endHere g).setLg g fun x => { x with st := .stopped, stopB := b, wait := 0 }
      let s := s.hieEmit 0x0A0A g.val 0 (sbits (word b) 0 32) 0
      match x.held with
      | some a => s.lgBegin g (gridFrom (s.lgPer g) (s.lgPh g) (max b (a + tenMs)))
      | none => s
    else s)

/-- The next instant of a member: after the instant just executed and after now, before the stop boundary; one alone with
ONESHOT (R250, R251). -/
def Running.next (r : Running) (now : Nat) : Option Nat :=
  let first := r.startB + r.offset
  let after := match r.last with | some l => max (l + 1) (now + 1) | none => now + 1
  let n := if r.per = 0 ∨ after ≤ first then first else first + (after - first + r.per - 1) / r.per * r.per
  let ended := match r.stopB with | some b => decide (b ≤ n) | none => false
  if ended || (r.oneshot && (r.last.isSome || decide (n ≠ first))) then none else some n

/-- LG_MEMBER_PLACE: the next ON of a member enters its Q10 entry once the previous one has executed (R251). -/
def execLgMemberPlace (g : LgId) (m : Fin 32) (s : State) : Out :=
  .next (
    match s.hie.runs.find? fun r => decide (r.group = g) && decide (r.idx = m) && !r.carrier with
    | none => s
    | some r =>
      let e : EntryId := Fin.ofNat 256 (r.slot.getD 0)
      match (if r.slot.isSome && s.hie.q10[e].cmd.isNone then r.next s.now else none) with
      | none => s
      | some n =>
        let s := s.onHie fun h =>
          { h with runs := h.runs.map fun q => if q.group = g ∧ q.idx = m then { q with last := some n } else q }
        match s.queueCheck (.lockGroup g) r.port true r.value with
        | .ok => s.putEntry e { port := r.port, on := true, dur := r.value, src := .lockGroup g, at_ := n }
        | st => s.answer (.lockGroup g) st)

/-- LG_MEMBER_JOINED: a waiting member joins at the first G_k at least 10 ms after its worker is released and LOCKED
(R251). -/
def execLgMemberJoined (g : LgId) (m : Fin 32) (s : State) : Out :=
  .next (
    let x := s.hie.lgs[g]
    let a := s.memDev g m
    if s.isWorker || !(x.st = .starting || x.st = .running) || !x.wait.getLsbD m.val || !s.workerReady a then s
    else
      let b := max x.startB (s.lgBoundary g)
      match s.sendDesc g a b [m] with
      | (s, true) =>
        let s := s.setLg g fun x => { x with wait := x.wait &&& ~~~(BitVec.ofNat 32 (2 ^ m.val)) }
        s.hieEmit 0x0A0C g.val 0 m.val (sbits (word (b + (s.memB g m).toNat * 256)) 0 32)
      | (s, false) => s)

end Sys2Proof.Machine
end

