-- ==== Sys2Proof/Machine/HierMsg.lean ====
section
/-! DEFINITION. The meanings of the hierarchy messages and of the loss and release of partners (R226, R240 to R249). -/

namespace Sys2Proof.Machine

open Sys2Proof

/-- A byte, and a little-endian field, of a message body. -/
def byteAt (b : List Byte) (i : Nat) : Nat := (b.getD i 0).toNat
def fieldAt (b : List Byte) (i n : Nat) : Nat := ofLe (b.drop i |>.take n)

/-- A sender that is neither the manager nor in the chain: discarded, and recorded once per excursion (R226). -/
def State.known (s : State) (sender : Nat) : Bool := (s.chainPos sender).isSome

def State.unknownSender (s : State) (sender : Nat) : State :=
  if s.hie.addrExc.contains sender then s
  else (s.onHie fun h => { h with addrExc := sender :: h.addrExc }).hieEmit 0x0A08 0 3 sender 0

/-- A message of an accepted sender. -/
def State.fromKnown (s : State) (sender : Nat) (go : State → State) : State :=
  if s.known sender then go (s.onHie fun h => { h with addrExc := h.addrExc.filter fun a => a != sender }) else s.unknownSender sender

/-! ### Heartbeats (R226, R243) -/

/-- The ports in a fault state, bit n = port n. -/
def State.faultMask (s : State) : Nat := ((idx 32).map fun p => flagAt (s.faulted p) p.val).foldl (· + ·) 0

/-- The body of a HEARTBEAT (R240). -/
def State.heartbeat (s : State) : List Byte :=
  le 1 s.sys.addr
    ++ le 1 (s.tmb.qual.code + flagAt s.hie.orphan 3 + flagAt (s.hie.rel || !s.isWorker) 4
        + flagAt (s.linkUsed false && !s.hie.up.down) 5 + flagAt s.hie.dlyOk 6)
    ++ le 2 (if s.hie.samples.isEmpty then 0xFFFF else s.hopDelay) ++ wordBytes s.hid ++ le 4 s.faultMask ++ le 4 s.secs

/-- HEARTBEAT_SEND: at its slot each device queues its HEARTBEAT (R243). -/
def execHeartbeatSend (s : State) : Out := .next (if s.rcp.applied then (s.send 0x80 63 s.heartbeat).1 else s)

/-- A heartbeat with this HID (R226, R244). -/
def State.heard (s : State) (sender : Nat) (b : List Byte) : State :=
  let s := s.onHie fun h =>
    { h with hidExc := h.hidExc.filter (fun a => a != sender), partners := sender :: h.partners.filter fun a => a != sender }
  if s.isWorker || sender = 0 then s
  else
    let f := byteAt b 1
    let d := fieldAt b 2 2
    s.setWorker (Fin.ofNat 64 sender) fun w =>
      { w with qual := Qual.ofCode (f % 8), orphan := f.testBit 3, heard := some s.tick, upOk := f.testBit 5, dnOk := f.testBit 6,
               delay := if d = 0xFFFF then none else some d, faults := fieldAt b 8 4 }

/-- A HEARTBEAT received (R226). -/
def State.rxHeartbeat (s : State) (sender : Nat) (b : List Byte) : State :=
  s.fromKnown sender fun s =>
    if fieldAt b 4 4 = s.hid.toNat then s.heard sender b
    else if s.hie.hidExc.contains sender then s
    else (s.onHie fun h => { h with hidExc := sender :: h.hidExc, partners := h.partners.filter fun a => a != sender }).hieEmit
      0x0A08 0 2 (sbits (word (fieldAt b 4 4)) 0 32) (sbits s.hid 0 32)

/-- HEARTBEAT (R226). -/
def execHeartbeat (sender : Nat) (b : List Byte) (s : State) : Out := .next (s.rxHeartbeat sender b)

/-! ### Messages of the manager (R240, R242, R243) -/

/-- The instant whose fraction and low seconds are given, its seconds nearest to T (R243). -/
def State.rebuild (s : State) (frac low : Nat) : Nat :=
  let here := s.secs
  let base := (here / 2 ^ 32) * 2 ^ 32 + low
  let sec := if base + 2 ^ 31 < here then base + 2 ^ 32 else if here + 2 ^ 31 < base ∧ 2 ^ 32 ≤ base then base - 2 ^ 32 else base
  sec * 2 ^ 32 + frac

/-- 2 ms in 2^-32 s. -/
def twoMs : Nat := 8589935

/-- A command of the manager to this worker: answered with NOT_READY while it is not released (R243). -/
def State.forMe (s : State) (sender : Nat) (b : List Byte) (port : Nat) (go : State → State) : State :=
  if !s.isWorker then s
  else s.fromKnown sender fun s =>
    if byteAt b 0 ≠ s.sys.addr then s
    else if !s.hie.rel then s.cmdDone port 0xFF .notReady 0 else go s

/-- A TIMED_CMD put into an entry; a command that it replaces completes with SUPERSEDED. -/
def State.queueTimed (s : State) (e : EntryId) (c : Timed) : State :=
  match s.queueCheck c.src c.port c.on c.dur with
  | .ok =>
    let old := s.hie.q10[e].cmd
    let s := s.putEntry e c
    match old with
    | some o => s.answer o.src .superseded
    | none => s
  | st => s.answer c.src st

/-- A TIMED_CMD received (R243). -/
def State.rxTimed (s : State) (sender : Nat) (b : List Byte) : State :=
  s.forMe sender b (byteAt b 1) fun s =>
    let port : PortId := Fin.ofNat 32 (byteAt b 1)
    let on := byteAt b 2 == 1
    let at_ := s.rebuild (fieldAt b 8 4) (fieldAt b 12 4)
    let slot := byteAt b 16
    let src (n ran : Nat) : Src := .hier (byteAt b 3 == 2) (fieldAt b 4 2) port.val n ran
    let cmd (n : Nat) : Timed := { port := port, on := on, dur := fieldAt b 6 2, src := src n 0, at_ := at_ }
    if byteAt b 2 ≠ 1 ∧ byteAt b 2 ≠ 2 then s.answer (src 0xFF 0) .limit
    else if s.now < at_ then
      if slot ≠ 0xFF then
        let e : EntryId := Fin.ofNat 256 slot
        if s.hie.q10[e].holder == .manager then s.queueTimed e (cmd slot) else s.answer (src 0xFF 0) .badAddr
      else match s.freeEntry 256 with
        | some e => s.queueTimed e (cmd e.val)
        | none => (s.noteOvf 10).answer (src 0xFF 0) .queueFull
    else if s.now ≤ at_ + twoMs then
      let r := if on then s.presentOn port (src 0xFF s.now) (fieldAt b 6 2) else s.presentOff port (src 0xFF s.now)
      match r.2.1 with
      | .ok => State.presented r (src 0xFF s.now)
      | st => r.1.answer (src 0xFF 0) st
    else s.answer (src 0xFF 0) .stale

/-- TIMED_CMD (R243). -/
def execTimedCmd (sender : Nat) (b : List Byte) (s : State) : Out := .next (s.rxTimed sender b)

/-- A RESERVE received (R242). -/
def State.rxReserve (s : State) (sender : Nat) (b : List Byte) : State :=
  s.forMe sender b 0xFF fun s =>
    if byteAt b 2 = 1 then
      match s.reserve .manager with
      | (s, some e) => s.cmdDone 0xFF e.val .ok 0
      | (s, none) => s.cmdDone 0xFF 0xFF .queueFull 0
    else
      let e : EntryId := Fin.ofNat 256 (byteAt b 1)
      if s.hie.q10[e].holder == .manager then
        (s.setEntry e fun x => { x with holder := .free }).cmdDone 0xFF e.val .ok 0
      else s.cmdDone 0xFF (byteAt b 1) .badAddr 0

/-- RESERVE (R242). -/
def execReserve (sender : Nat) (b : List Byte) (s : State) : Out := .next (s.rxReserve sender b)

/-- The members of an LG_DESC, one pair of words each. -/
def descRuns (g : LgId) (b : List Byte) (per phase startB : Nat) : Nat → Nat → List Running
  | 0, _ => []
  | n + 1, j =>
    runOf g (Fin.ofNat 32 j) (word (fieldAt b (24 + 8 * j) 4)) (word (fieldAt b (28 + 8 * j) 4)) per phase startB false
      :: descRuns g b per phase startB n (j + 1)

/-- An LG_DESC received: each member is taken up or refused with CMD_DONE (R251). -/
def State.rxDesc (s : State) (sender : Nat) (b : List Byte) : State :=
  s.forMe sender b 0xFF fun s =>
    let g : LgId := Fin.ofNat 16 (byteAt b 1)
    let startB := s.rebuild (fieldAt b 16 4) (fieldAt b 20 4)
    (descRuns g b (fieldAt b 4 5) (fieldAt b 12 4 * 256) startB (byteAt b 2) 0).foldl (fun (s : State) (r : Running) =>
      match s.joinHere r with
      | (s, .ok) => s
      | (s, st) => s.cmdDone r.port.val 0xFF st 0) s

/-- LG_DESC (R251). -/
def execLgDesc (sender : Nat) (b : List Byte) (s : State) : Out := .next (s.rxDesc sender b)

/-- An LG_STOP received (R240). -/
def State.rxStop (s : State) (sender : Nat) (b : List Byte) : State :=
  if !s.isWorker then s
  else s.fromKnown sender fun s =>
    if byteAt b 0 ≠ s.sys.addr then s else s.stopHere (Fin.ofNat 16 (byteAt b 1)) (s.rebuild (fieldAt b 4 4) (fieldAt b 8 4))

/-- LG_STOP (R240, R251). -/
def execLgStop (sender : Nat) (b : List Byte) (s : State) : Out := .next (s.rxStop sender b)

/-! ### Messages of workers (R208, R240) -/

/-- The answer to a RESERVE, the first that stands open for the worker (R242). -/
def State.reserveDone (s : State) (sender slot : Nat) (ok : Bool) : State :=
  match s.hie.resPend.find? fun r => r.1 == sender with
  | none => s
  | some r =>
    let s := s.onHie fun h => { h with resPend := h.resPend.erase r }
    match r.2 with
    | some i => s.reserveAnswered i (if ok then some slot else none)
    | none => s

/-- A worker refuses a member of a lock group (R251). -/
def State.memberRefused (s : State) (sender port : Nat) (st : Status) : State :=
  (idx 16).foldl (fun (s : State) (g : LgId) =>
    if s.hie.lgs[g].live then
      (s.lgMems g).foldl (fun (s : State) (m : Fin 32) =>
        if s.memDev g m = sender ∧ bits (s.memA g m) 21 5 = port then s.refuseMember g m st else s) s
    else s) s

/-- A CMD_DONE received (R213, R240). -/
def State.rxDone (s : State) (sender : Nat) (b : List Byte) : State :=
  if s.isWorker then s
  else s.fromKnown sender fun s =>
    let port := byteAt b 1
    let st := byteAt b 3
    if port = 0xFF then s.reserveDone sender (byteAt b 2) (st == 0)
    else match s.nsectIds.find? fun i => s.sctDev i == sender && (s.sctPort i).val == port with
      | some i =>
        let on : Bool := match s.sct.sects[i].plan with | some p => p.on | none => s.sct.sects[i].mode == .on
        if st = 0 then s.sectDone i on (s.tickOf (s.rebuild (fieldAt b 4 4) (fieldAt b 8 4)))
        else if st = Status.stale.code then s.setSect i fun x => { x with plan := none }
        else if st = Status.superseded.code then s
        else
          let s := s.setSect i fun x => { x with refd := true, paused := true, plan := none }
          (s.onSct fun x => { x with cntRef := satNat 65535 (x.cntRef + 1) }).sctEmit 0x0C07 (some i) st (bif on then 1 else 2)
      | none => s.memberRefused sender port (if st = Status.queueFull.code then .queueFull else .limit)

/-- CMD_DONE (R240). -/
def execCmdDone (sender : Nat) (b : List Byte) (s : State) : Out := .next (s.rxDone sender b)

/-- A DELAY_TAB received (R208). -/
def State.rxDelay (s : State) (sender : Nat) (b : List Byte) : State :=
  if s.isWorker then s
  else s.fromKnown sender fun s =>
    match s.nsectIds.find? fun i => s.sctDev i == sender && (s.sctPort i).val == byteAt b 1 with
    | none => s
    | some i =>
      let k : Fin 10 := Fin.ofNat 10 (byteAt b 2 / 16)
      let e : DelayCopy := { learned := (byteAt b 3).testBit 1, mean := (fieldAt b 4 4 : Nat), spread := (fieldAt b 8 2 : Nat),
                             count := byteAt b 10 }
      s.setSect i fun x =>
        let x := { x with band := byteAt b 2 % 16 }
        if (byteAt b 3).testBit 0 then { x with copyOff := upd x.copyOff k fun _ => e }
        else { x with copyOn := upd x.copyOn k fun _ => e }

/-- DELAY_TAB (R208). -/
def execDelayTab (sender : Nat) (b : List Byte) (s : State) : Out := .next (s.rxDelay sender b)

/-- DELAY_TAB_PERIODIC_SEND: every 10 minutes a worker sends its tables (R208). -/
def execDelayTabPeriodicSend (s : State) : Out := .next s.sendTables

/-! ### Release and loss (R244 to R247) -/

/-- The worker gives up what its descriptors and the manager reserved (R242, R247). -/
def State.dropHeld (s : State) : State :=
  let s := (idx 16).foldl State.endHere s
  s.onHie fun h => { h with q10 := updAll h.q10 fun _ e => if e.holder == .manager then {} else e }

/-- A RELEASE received (R247). -/
def State.rxRelease (s : State) (sender : Nat) (b : List Byte) : State :=
  if !s.isWorker then s
  else s.fromKnown sender fun s =>
    if byteAt b 0 ≠ s.sys.addr ∨ byteAt b 1 ≠ 1 then s
    else
      let dur := if s.hie.orphan then (s.tick - s.hie.orphAt) / ticksPerMs else 0
      let s := (s.dropHeld.orphRelease).onHie fun h => { h with rel := true }
      s.hieEmit 0x0A02 0 0 dur 0

/-- RELEASE (R247). -/
def execRelease (sender : Nat) (b : List Byte) (s : State) : Out := .next (s.rxRelease sender b)

/-- WORKER_LOST: 30 ms without a valid heartbeat (R244). -/
def execWorkerLost (a : Fin 64) (s : State) : Out := .next (s.loseWorker a 1 0)

/-- MANAGER_LOST: 3.02 ms since the mark of the last valid beacon (R245). -/
def execManagerLost (s : State) : Out :=
  .next (
    match s.isWorker && !s.hie.orphan && s.rcp.applied, s.hie.validAt with
    | true, some a =>
      let s := (s.onHie fun h => { h with orphan := true, rel := false, orphAt := s.tick }).loseClapper
      let s := s.orphPresent
      let n := (idx 32).filter fun p => s.orphaned p
      s.hieEmit 0x0A01 0 1 (ticksUs (s.tick - a)) n.length
    | _, _ => s)

/-- The conditions of R247: a heartbeat within 30 ms that shows LOCKED, and every hop up to the worker measured and up. -/
def State.releasable (s : State) (a : Fin 64) : Bool :=
  let w := s.hie.workers[a]
  match s.chainPos a.val, w.heard with
  | some pos, some h =>
    let at_ (j : Nat) : Worker := s.hie.workers[(Fin.ofNat 64 (s.chainAt j) : Fin 64)]
    let hops := (List.range pos).all fun j =>
      (at_ (j + 1)).upOk && (if j = 0 then !s.hie.dn.failed && s.hie.dlyOk else (at_ j).dnOk)
    decide (0 < pos) && decide (s.tick ≤ h + 3600000) && w.qual == .locked && hops
  | _, _ => false

/-- The manager releases a worker (R247); false where Q14 has no room. -/
def State.release (s : State) (a : Fin 64) : State × Bool :=
  match s.send 0x86 a.val (le 1 a.val ++ le 1 1) with
  | (s, true) =>
    let w := s.hie.workers[a]
    let dur := if w.lost then (s.tick - w.lostAt) / ticksPerMs else 0
    let s := s.setWorker a fun w => { w with rel := true, lost := false }
    (s.emit (s.hieEv 0x0A04 a.val ((s.chainPos a.val).getD 0) 0 dur 0), true)
  | r => r

/-- WORKER_RELEASE: with AUTOREL the manager releases a worker at once (R247). -/
def execWorkerRelease (a : Fin 64) (s : State) : Out :=
  .next (if !s.isWorker && s.autoRel && !s.hie.workers[a].rel && s.releasable a then (s.release a).1 else s)

/-- HIE_CMD.RELEASE (R247). -/
def State.cmdRelease (s : State) (a : Fin 64) : State × Status :=
  if s.isWorker || !s.releasable a then (s, .notReady)
  else match s.release a with
    | (s, true) => (s, .ok)
    | (s, false) => (s, .queueFull)

/-- HIE_RELEASE (R247). -/
def execHieRelease (a : Fin 64) (k : SessId) (s : State) : Out :=
  .next (s.gated k (s.gate k rightCOMMAND) fun s => s.cmdRelease a)

end Sys2Proof.Machine
end

