-- ==== Sys2Proof/Machine/SecOps.lean ====
section
/-! DEFINITION. The operations of the security core: events (R323), frames and their protection (R309 to R311), the end
of a session (R315), and the hierarchy group key (R317 to R319). -/

namespace Sys2Proof.Machine

open Sys2Proof

/-! ### Events -/

/-- The ROLE byte of a certificate (R306). -/
def roleByte : Role → Nat
  | .operator => 1 | .service => 2 | .owner => 3

/-- A security event (R323). -/
def State.secEv (s : State) (code : Nat) (sess : Option SessId) (role kslot a b : Nat) : Ev :=
  { code := code, origin := .security, session := sess,
    payload := le 1 (ownerByte sess) ++ le 1 role ++ le 1 kslot ++ zeros 1 ++ le 4 a ++ le 4 b ++ s.stamp ++ zeros 4 }

/-- A security event of a session. -/
def State.sessEmit (s : State) (code : Nat) (k : SessId) (a b : Nat) : State :=
  let x := s.sec.sessions[k]
  s.emit (s.secEv code (some k) (roleByte x.role) x.kslot a b)

/-- A security event of no session. -/
def State.secEmit (s : State) (code a b : Nat) : State := s.emit (s.secEv code none 0 0 a b)

/-! ### Frames (R309) -/

/-- The kinds of R309. -/
abbrev kHELLO : Nat := 1
abbrev kHELLO_ACK : Nat := 2
abbrev kFINISH : Nat := 3
abbrev kDATA : Nat := 4
abbrev kCLOSE : Nat := 5
abbrev kREJECT : Nat := 6
abbrev kHIER : Nat := 7

/-- The 12-byte header. -/
def header (kind sess dir ctr len : Nat) : List Byte := le 1 1 ++ le 1 kind ++ le 1 sess ++ le 1 dir ++ le 6 ctr ++ le 2 len

/-- The nonce: the salt of the direction, CTR, two zero bytes. -/
def nonce (salt : List Byte) (ctr : Nat) : List Byte := salt ++ le 6 ctr ++ zeros 2

/-- The tag is 16 bytes on the 100BASE-T1 port and 8 bytes on CAN FD. -/
def peerTag : Peer → Nat
  | .eth _ _ => 16 | .can _ => 8

/-- A header and body sealed under a key: the whole frame. -/
def sealed (key salt head body : List Byte) (ctr tag : Nat) : List Byte := head ++ Config.gcmSeal key (nonce salt ctr) head body tag

/-- The IPv4 address in force (R325). -/
def State.ipAct (s : State) : Nat :=
  if s.hl.act.ip = 0 then 0xA9FE6400 + (s.sys.addr + 1) % 256 else s.hl.act.ip.toNat

/-- The prefix length in force, and whether a gateway is (R325). -/
def State.prefixAct (s : State) : Nat := if s.hl.act.ip = 0 then 16 else bits s.hl.act.net 0 6
def State.gateway (s : State) : Bool := s.hl.act.ip != 0 && s.hl.act.gw != 0

/-- A datagram to an address outside the prefix needs a gateway; nothing is sent while the link is down (R325, R326). -/
def State.reaches (s : State) (ip : Nat) : Bool :=
  s.hl.link && (s.gateway || ip / 2 ^ (32 - s.prefixAct) == s.ipAct / 2 ^ (32 - s.prefixAct))

/-- A payload put on the link towards a peer; CAN0 carries it in segments (R325 to R328). -/
def State.linkSend (s : State) (p : Peer) (bytes : List Byte) : State :=
  let s := match p with
    | .eth _ _ => s
    | .can h => s.segSend 0 (0x500 + 0x40 * h.val + s.sys.addr) bytes 15 100
  let out := match p with | .eth ip _ => s.reaches ip | .can _ => true
  if out then s.onHl fun h => { h with sent := .ralar p bytes :: h.sent } else s

/-- REJECT, in clear and without a tag (R309, R313). -/
def State.reject (s : State) (p : Peer) (st : Status) : State := s.linkSend p (header kREJECT 0xFF 1 0 1 ++ le 1 st.code)

/-! ### Freshness (R310) -/

/-- A counter is fresh: above H, or within its window of 64 on the 100BASE-T1 port. -/
def fresh (wide : Bool) (h : Option Nat) (seen : List Nat) (ctr : Nat) : Bool :=
  match h with
  | none => true
  | some h => decide (h < ctr) || (wide && decide (h < ctr + 64) && decide (ctr ≤ h) && !seen.contains ctr)

/-- H after a counter has been accepted. -/
def newH (h : Option Nat) (ctr : Nat) : Nat := match h with | none => ctr | some x => max x ctr

/-- The counters of the window that are kept. -/
def newSeen (h : Nat) (seen : List Nat) (ctr : Nat) : List Nat := (ctr :: seen).filter fun c => decide (h < c + 64)

/-! ### The end of a session (R315, R349) -/

/-- AUTH_FAILURES of the second that a session has counted (R311). -/
def State.flushFails (s : State) (k : SessId) : State :=
  let x := s.sec.sessions[k]
  if x.fails = 0 then s
  else (s.sessEmit 0x0304 k x.fails (x.failCtr % 2 ^ 32)).setSess k fun x => { x with fails := 0, failAns := 0 }

/-- A session ends: its keys are wiped, its entries removed, its number freed; its waiting commands and its responses are
discarded, its CAN entries aborted, its DMA channels stopped (R315, R349). -/
def State.endSession (s : State) (k : SessId) (cause : Nat) : State :=
  if !s.sec.sessions[k].isOpen then s
  else
    let s := (s.flushFails k).sessEmit 0x0302 k cause s.sec.sessions[k].accepted
    let s := s.setSess k fun _ => {}
    let s := s.onHl fun h =>
      { h with q := upd h.q k fun _ => [], run := upd h.run k fun _ => [], out := upd h.out k fun _ => [], loss := upd h.loss k fun _ => false }
    let s := (s.dropEntries k.val).dropOwner k
    (idx 4).foldl (fun (s : State) (c : CanId) => s.abortAll c k) s

/-- Every session ends. -/
def State.endAll (s : State) (cause : Nat) : State := (idx 4).foldl (fun (s : State) (k : SessId) => s.endSession k cause) s

/-- A handshake is dropped: its number is freed (R312). -/
def State.dropHandshake (s : State) (k : SessId) : State :=
  if s.sec.sessions[k].st = .handshake then s.setSess k fun _ => {} else s

/-! ### Frames of a session -/

/-- A frame sent under a session's keys; at 2^48 − 1 the counter is exhausted and the session ends (R310). -/
def State.sessSend (s : State) (k : SessId) (kind : Nat) (body : List Byte) : State :=
  let x := s.sec.sessions[k]
  let head := header kind k.val 1 x.tx body.length
  let s := s.linkSend x.peer (sealed x.keyFrom x.saltFrom head body x.tx (peerTag x.peer))
  if x.tx + 1 ≥ 2 ^ 48 - 1 then s.endSession k 4 else s.setSess k fun x => { x with tx := x.tx + 1 }

/-- A frame of a session fails checks 3 or 4 of R311: counted, and answered at most ten times a second. -/
def State.frameFails (s : State) (k : SessId) (ctr : Nat) (st : Status) : State :=
  let s := s.onSec fun x =>
    if st = .authFail then { x with afail := satNat 65535 (x.afail + 1) } else { x with rpl := satNat 255 (x.rpl + 1) }
  let s := s.setSess k fun x =>
    if x.fails = 0 then { x with failAt := s.tick, fails := 1, failCtr := ctr } else { x with fails := x.fails + 1, failCtr := ctr }
  if s.sec.sessions[k].failAns < 10 then
    ((s.count 0x0B 1).setSess k fun x => { x with failAns := x.failAns + 1 }).sessSend k kDATA (Config.authAnswer st.code ctr)
  else s

/-- A discarded frame (R311 checks 1 and 2). -/
def State.malformed (s : State) : State := s.onSec fun x => { x with malf := satNat 255 (x.malf + 1) }

/-! ### The hierarchy group key (R317 to R319) -/

/-- "Ralar GK" in ASCII. -/
def gkInfo : List Byte := [0x52, 0x61, 0x6C, 0x61, 0x72, 0x20, 0x47, 0x4B]
/-- "Ralar v1" in ASCII. -/
def v1Info : List Byte := [0x52, 0x61, 0x6C, 0x61, 0x72, 0x20, 0x76, 0x31]

/-- The group key of an epoch. -/
def State.groupKey (s : State) (root : List Byte) (e : Nat) : List Byte := Config.hkdf root (wordBytes s.hid) (gkInfo ++ le 4 e) 32

/-- The epoch nearest one's own whose low 8 bits are given, within ±127 (R318). -/
def resolveEpoch (own low : Nat) : Option Nat :=
  (List.range 128).findSome? fun d =>
    if (own + d) % 256 = low then some (own + d) else if d ≤ own ∧ (own - d) % 256 = low then some (own - d) else none

/-- The window of a sender and epoch. -/
def State.window (s : State) (sender e : Nat) : Option Window := s.sec.windows.find? fun w => w.sender == sender && w.epoch == e

/-- A counter accepted in a window. -/
def State.acceptHier (s : State) (sender e ctr : Nat) : State :=
  let old := s.window sender e
  let h := newH (old.map Window.h) ctr
  let w : Window := { sender := sender, epoch := e, h := h, seen := newSeen h ((old.map Window.seen).getD []) ctr }
  s.onSec fun x => { x with windows := w :: x.windows.filter fun y => !(y.sender == sender && y.epoch == e) }

/-- A frame of the hierarchy verifies under no epoch (R318). -/
def State.staleFrame (s : State) (sender low : Nat) : State :=
  s.onSec fun x => { x with staleAt := some (match x.staleAt with | some (t, _, _) => t | none => s.tick, sender, low) }

/-- The epoch a frame names is in use: the current one or a newer, or the old one until its end (R318). -/
def State.epochUse (s : State) (e : Nat) : Bool :=
  !decide (e < s.sec.epoch) || match s.sec.oldEpoch with
    | some (o, until_) => o == e && decide (s.now / 2 ^ 32 < until_)
    | none => false

/-- A frame under a newer epoch moves the node to it (R318). -/
def State.joinEpoch (s : State) (e : Nat) : State :=
  if s.sec.epoch < e then
    (s.onSec fun x =>
      { x with epoch := e, rotation := none,
               oldEpoch := match x.rotation with
                 | some (n, sec) => if n = e then some (x.epoch, sec + 2) else x.oldEpoch
                 | none => x.oldEpoch }).secEmit 0x0309 e 2
  else s

/-- A message enters Q13. -/
def State.pushQ13 (s : State) (m : Msg) : State :=
  if s.hie.q13.length < 64 then
    let s := s.onHie fun h => { h with q13 := h.q13 ++ [m] }
    s.noteFill 13 s.hie.q13.length
  else s.noteOvf 13

/-- A frame whose tag is right: a counter seen before is refused (R310, R319), a fresh one is taken. -/
def State.takeFrame (s : State) (head plain : List Byte) (sender e ctr : Nat) : State :=
  let s := s.onSec fun x => { x with staleAt := none, staleRec := false }
  let w := s.window sender e
  if !fresh true (w.map Window.h) ((w.map Window.seen).getD []) ctr then s.onSec fun x => { x with rpl := satNat 255 (x.rpl + 1) }
  else
    let s := (s.acceptHier sender e ctr).joinEpoch e
    s.pushQ13 { code := Config.hierCode head plain, dst := s.sys.addr, body := plain, sender := sender }

/-- A HIER frame received over CAN3 or the Clapper (R309, R318, R319): it reaches Q13, or is discarded. -/
def State.rxHier (s : State) (frame : List Byte) : State :=
  match s.sec.root with
  | none => s
  | some root =>
    let head := frame.take 12
    let at_ (i n : Nat) : Nat := ofLe ((frame.drop i).take n)
    let sender := at_ 2 1
    let ctr := at_ 4 6
    let len := at_ 10 2
    if frame.length < 20 + len ∨ at_ 0 1 ≠ 1 ∨ at_ 1 1 ≠ kHIER then s.malformed
    else match resolveEpoch s.sec.epoch (at_ 3 1) with
      | none => s.staleFrame sender (at_ 3 1)
      | some e =>
        match (if s.epochUse e then
            Config.gcmOpen (s.groupKey root e) (nonce (le 1 sender ++ zeros 3) ctr) head ((frame.drop 12).take len) ((frame.drop (12 + len)).take 8)
          else none) with
        | none => s.staleFrame sender (at_ 3 1)
        | some plain => s.takeFrame head plain sender e ctr

end Sys2Proof.Machine
end

