-- ==== Sys2Proof/Machine/Monitors.lean ====
section
/-! DEFINITION. The meanings of the counter, gauge and calibration commands (chapter Event Counters and Calibration). -/

namespace Sys2Proof.Machine

open Sys2Proof

/-- The event payload of monitors and calibration (R406). -/
def State.monPayload (s : State) (port chan sess : Nat) (a b : Nat) : List Byte :=
  le 1 port ++ le 1 chan ++ le 1 sess ++ zeros 1 ++ le 4 a ++ le 4 b ++ s.stamp ++ zeros 4

/-- A period boundary: everything is copied to the snapshot bank and restarts empty in one cycle (R396). -/
def State.closePeriod (s : State) (cause : Nat) : State :=
  s.onMon fun m =>
    { m with snCount := m.counters, snGauge := m.gauges, snSeq := (m.snSeq + 1) % 2 ^ 32, snCause := cause,
             snAt := s.now, stepDue := false, counters := Vector.replicate 32 {}, gauges := Vector.replicate 16 {} }

/-- The causes that MON_PCFG enables, of those that fall in one cycle: [0] seconds, [1] Step entry, [2] beacon
(R395). -/
def State.enabledCauses (s : State) (sec step beacon : Bool) : Nat :=
  flagAt (sec && bit s.mon.pcfg 31) 0 + flagAt (step && bit s.mon.pcfg 30) 1 + flagAt (beacon && bit s.mon.pcfg 29) 2

/-- PERIOD_BOUNDARY: at an enabled cause the period closes (R395, R396). A Step entry that has signalled its boundary
is one of the causes. -/
def execPeriodBoundary (sec step beacon : Bool) (s : State) : Out :=
  .next (
    let c := s.enabledCauses sec (step || s.mon.stepDue) beacon
    if s.mon.running && c != 0 then s.closePeriod c else s)

/-- MON_COUNTER_SAT: a counter that has reached 2^48 − 1 reads SAT and is recorded once per period (R393). -/
def execMonCounterSat (n : MonId) (s : State) : Out :=
  .next (
    let c := s.mon.counters[n]
    if c.cnt = 2 ^ 48 - 1 && !c.sat then
      (s.onMon fun m => { m with counters := upd m.counters n fun c => { c with sat := true } }).emit
        { code := 0x0F01, payload := s.monPayload 0xFF 0xFF 0xFF n.val s.mon.snSeq }
    else s)

/-- LATCH: a host period boundary (R395, R398). -/
def execLatch (k : SessId) (s : State) : Out :=
  .next (s.gated k (s.gate k rightPARAM) fun s => (s.closePeriod 8, .ok))

/-- A write of MON_PCFG: N = 0 is reserved while SECEN or BCNEN is 1 (R395, R398). -/
def State.writePcfg (s : State) (v : Word) : State × Status :=
  if (bit v 31 || bit v 29) && bits v 0 16 == 0 then (s, .limit)
  else (s.onMon fun m => { m with pcfg := v &&& 0xE300FFFF }, .ok)

/-- A write of MON_PCFG2. -/
def State.writePcfg2 (s : State) (v : Word) : State × Status :=
  (s.onMon fun m => { m with pcfg2 := v &&& 0x0000FFFF }, .ok)

/-- MON_PCFG_WRITE: the boundary causes change from the next boundary on; `second` names MON_PCFG2 (R398). -/
def execMonPcfgWrite (second : Bool) (v : Word) (k : SessId) (s : State) : Out :=
  .next (s.gated k (s.gate k rightPARAM) fun s => if second then s.writePcfg2 v else s.writePcfg v)

/-- A read of MONn_LIVEL: the low word, with the high word and SAT latched (R399). -/
def State.readLivel (s : State) (n : MonId) : State × Word :=
  let c := s.mon.counters[n]
  (s.onMon fun m => { m with liveH := upd m.liveH n fun _ => word (flagAt c.sat 31 + put (c.cnt / 2 ^ 32) 0 16) },
   word c.cnt)

/-- MON_LIVEL_READ (R399). -/
def execMonLivelRead (n : MonId) (k : SessId) (s : State) : Out :=
  .next (s.gated k (s.gate k rightREAD) fun s =>
    let r := s.readLivel n
    (r.1.onSys fun x => { x with readData := r.2 }, .ok))

/-! ### Calibration (R400 to R405) -/

/-- The greatest magnitude of gu and ou (R403). -/
def calLimit : Int := 20971

/-- A write of CALn_c_U (R403, R404). Channel 7 is reserved: its registers read zero, and a write is ignored. -/
def State.writeCalU (s : State) (i : Fin 33) (c : Fin 8) (v : Word) (k : SessId) : State × Status :=
  let gu := sbits v 16 16
  let ou := sbits v 0 16
  if i.val = 32 ∧ c ≠ 0 then (s, .badAddr)
  else if c.val = 7 then (s, .ok)
  else if calLimit < gu.natAbs ∨ calLimit < ou.natAbs then (s, .limit)
  else
    let old := s.cal.chans[i][c].u
    let port := if i.val = 32 then 0xFF else i.val
    let s' := s.onCal fun x =>
      { x with chans := upd x.chans i fun y => upd y c fun z => { z with u := v },
               dirty := (i.val, c.val, v) :: x.dirty.filter fun e => !(e.1 == i.val && e.2.1 == c.val) }
    (s'.emit { code := 0x0F02, origin := .runtime, session := some k,
               payload := s.monPayload port c.val k.val old.toNat v.toNat }, .ok)

/-- CAL_USER_SET: the user gain and offset are replaced together and CAL_USER_SET is recorded (R403, R404). -/
def execCalUserSet (i : Fin 33) (c : Fin 8) (v : Word) (k : SessId) (s : State) : Out :=
  .next (s.gated k (s.gateRws k rightSERVICE) fun s => s.writeCalU i c v k)

/-- CAL_USER_STORE: the runtime stores the accepted user values in module flash (R404). -/
def execCalUserStore (s : State) : Out :=
  .next (s.onCal fun x =>
    { x with stored := x.dirty ++ x.stored.filter (fun e => !(x.dirty.any fun d => d.1 == e.1 && d.2.1 == e.2.1)),
             dirty := [] })

/-- The channels that CAL_CMD names: index and channel (R404). -/
def calNamed (v : Word) : List (Nat × Nat) :=
  if bit v 17 then
    ((idx 32).map fun p => (idx 7).map fun c => (p.val, c.val)).flatten ++ [(32, 0)]
  else if bit v 7 then [(32, 0)]
  else if bit v 16 then (idx 7).map fun c => (bits v 8 5, c.val)
  else [(bits v 8 5, bits v 4 3)]

/-- A write of CAL_CMD (R404). -/
def State.writeCalCmd (s : State) (v : Word) (k : SessId) : State × Status :=
  if bits v 4 3 = 7 then (s, .limit)
  else
    let s := s.onCal fun x => { x with cmd := v &&& 0x00031FF0 }
    if bit v 0 then
      let ns := calNamed v
      let one := !bit v 17 && !bit v 7
      let port := if one then bits v 8 5 else 0xFF
      let chan := if bit v 17 then 0xFF else if bit v 7 then 0 else if bit v 16 then 0xFF else bits v 4 3
      let s' := s.onCal fun x =>
        { x with chans := updAll x.chans fun i y => updAll y fun c z =>
            if ns.contains (i.val, c.val) then { z with u := 0 } else z,
                 stored := x.stored.filter fun e => !ns.contains (e.1, e.2.1),
                 dirty := x.dirty.filter fun e => !ns.contains (e.1, e.2.1) }
      (s'.emit { code := 0x0F03, origin := .runtime, session := some k,
                 payload := s.monPayload port chan k.val ns.length 0 }, .ok)
    else (s, .ok)

/-- CAL_CLR (R404). -/
def execCalClr (v : Word) (k : SessId) (s : State) : Out :=
  .next (s.gated k (s.gateRws k rightSERVICE) fun s => s.writeCalCmd v k)

end Sys2Proof.Machine
end

