-- ==== Sys2Proof/Machine/Security.lean ====
section
/-! DEFINITION. The meanings of the security core's commands (R305, R312 to R322). -/

namespace Sys2Proof.Machine

open Sys2Proof

/-! ### Owner keys, claim, certificate (R304, R306, R313, R314) -/

/-- Some owner slot is not EMPTY. -/
def State.claimed (s : State) : Bool := s.sec.slots.toList.any fun x => x.st != .empty

/-- The device ID (R303). -/
def deviceId : List Byte := Config.sha256 Config.devicePublic

/-- The mask of a role (R307). -/
def roleMask : Role → BitVec 12
  | .operator => 0x83F | .service => 0xBFF | .owner => 0xFFF

/-- The fields of an HCERT (R306). -/
structure Cert where
  bytes : List Byte

def Cert.num (c : Cert) (i n : Nat) : Nat := ofLe ((c.bytes.drop i).take n)
def Cert.part (c : Cert) (i n : Nat) : List Byte := (c.bytes.drop i).take n
def Cert.role (c : Cert) : Option Role :=
  match c.num 6 1 with | 1 => some .operator | 2 => some .service | 3 => some .owner | _ => none

/-- Check 2 of R313: MAGIC, version, ROLE, the reserved fields, LIFETIME and IDLE. -/
def Cert.formed (c : Cert) : Bool :=
  c.part 0 4 == [0x4C, 0x58, 0x48, 0x43] && c.num 4 1 == 1 && c.role.isSome && c.num 7 1 == 0 && c.num 56 8 == 0
    && decide (c.num 48 4 < 2 ^ 12) && decide (1 ≤ c.num 52 2) && decide (c.num 52 2 ≤ 1440) && decide (10 ≤ c.num 54 2)
    && decide (c.num 54 2 ≤ 3600)

/-- The HCERT makes its HELLO a claim: KSLOT 0xFF, ROLE OWNER, the owner key its own host key, every slot EMPTY (R314). -/
def State.isClaim (s : State) (c : Cert) : Bool :=
  !s.claimed && c.num 5 1 == 0xFF && c.num 6 1 == 3 && c.part 64 64 == c.part 128 64

/-- A public key is the one an ENABLED slot holds. -/
def State.keyEnabled (s : State) (slot : Nat) (key : List Byte) : Bool :=
  decide (slot < 4) && s.sec.slots[(Fin.ofNat 4 slot : Fin 4)].st == .enabled
    && s.sec.slots[(Fin.ofNat 4 slot : Fin 4)].hash == Config.sha256 key

/-- The time is known. -/
def State.timed (s : State) : Bool := s.tmb.qual != .none

/-- The checks of R313 in order: status and order of the first that fails. -/
def State.helloChecks (s : State) (c : Cert) : Option (Status × Nat) :=
  let claim := s.isClaim c
  let checks : List (Bool × Status) :=
    [(s.sec.sessions.toList.any fun x => x.st == .free, .busy), (c.formed, .limit),
     (claim || s.keyEnabled (c.num 5 1) (c.part 128 64), .denied),
     (Config.ecdsaVerify (c.part 128 64) (Config.sha256 (c.part 0 192)) (c.part 192 64), .authFail),
     (c.num 32 16 == 0 || c.part 32 16 == deviceId.take 16, .denied),
     (claim || (decide (s.sec.floor ≤ c.num 24 8) && (!s.timed || (decide (c.num 16 8 ≤ s.secs) && decide (s.secs ≤ c.num 24 8)))), .denied)]
  (checks.zipIdx.find? fun x => !x.1.1).map fun x => (x.1.2, x.2 + 1)

/-! ### Sessions (R312 to R315) -/

/-- A HELLO that passes R313: HELLO_ACK is sent and the handshake holds the lowest free number (R312). -/
def State.ackHello (s : State) (p : Peer) (k : SessId) (body : List Byte) (c : Cert) : State :=
  let n := s.sys.draws
  let priv := Config.random n 32
  let dn := Config.random (n + 1) 16
  let flags := flagAt s.claimed 0 + flagAt (s.sec.dbg == .unlocked) 1 + flagAt s.sec.tamper 2
  let ack := Config.ecPublic priv ++ dn ++ le 1 k.val ++ le 1 flags ++ zeros 2 ++ Config.deviceCert
  let th := Config.sha256 (body ++ ack)
  let sig := Config.deviceSign th
  let okm := Config.hkdf (Config.ecdh priv (body.take 64)) ((body.drop 64).take 16 ++ dn) (v1Info ++ th) 72
  let x : Session :=
    { st := .handshake, role := c.role.getD .operator, rights := BitVec.ofNat 12 (c.num 48 4), kslot := c.num 5 1, peer := p,
      serial := c.num 8 8, lifetime := c.num 52 2, idle := c.num 54 2, notAfter := c.num 24 8,
      keyTo := okm.take 32, keyFrom := (okm.drop 32).take 32, saltTo := (okm.drop 64).take 4, saltFrom := (okm.drop 68).take 4,
      hs := { at_ := s.tick, th := th, sig := sig, hostKey := c.part 64 64, claim := s.isClaim c, notBefore := c.num 16 8 } }
  ((s.draw.draw.setSess k fun _ => x).linkSend p (header kHELLO_ACK 0xFF 1 0 (ack ++ sig).length ++ ack ++ sig))

/-- A HELLO received from a peer (R313). -/
def State.rxHello (s : State) (p : Peer) (body : List Byte) : State :=
  let c : Cert := { bytes := (body.drop 80).take 256 }
  if body.length ≠ 336 then s.malformed
  else match s.helloChecks c with
    | some (st, n) =>
      let s := if st = .authFail then s.count 0x0B 1 else s
      (s.reject p st).emit (s.secEv 0x0303 none (c.num 6 1) (c.num 5 1) st.code n)
    | none => match (idx 4).find? fun k => s.sec.sessions[k].st == .free with
      | some k => s.ackHello p k body c
      | none => s

/-- HELLO (R313). -/
def execHello (p : Peer) (body : List Byte) (s : State) : Out := .next (if s.linked then s.rxHello p body else s)

/-- A handshake fails: REJECT, the number is freed, and HANDSHAKE_FAILED recorded; R313's table has no order for the
check, so that value is free (R312). -/
def State.hsFails (s : State) (k : SessId) (st : Status) : State :=
  let x := s.sec.sessions[k]
  let e := s.secEv 0x0303 (some k) (roleByte x.role) x.kslot st.code (s.free % 2 ^ 32)
  (((s.draw.reject x.peer st).dropHandshake k)).emit e

/-- The rights of a session at its opening (R307, R314). -/
def rightsOf (x : Session) : BitVec 12 := if x.hs.claim then x.rights &&& 0xC00 else x.rights &&& roleMask x.role

/-- The session opens: an older one with its SERIAL and KSLOT ends, the entries are loaded, SESSION_OPENED is recorded
(R312 step 4, R315, R336). -/
def State.openSession (s : State) (k : SessId) : State :=
  let x := s.sec.sessions[k]
  let s := (idx 4).foldl (fun (s : State) (j : SessId) =>
    if j ≠ k ∧ s.sec.sessions[j].isOpen ∧ s.sec.sessions[j].serial = x.serial ∧ s.sec.sessions[j].kslot = x.kslot then s.endSession j 5 else s) s
  let rights := rightsOf x
  let s := s.setSess k fun x =>
    { x with st := if x.hs.claim then .claim else .opened, rights := rights, openAt := s.tick, lastAt := s.tick, h := some 0, seen := [0],
             accepted := 1, tx := 1, hs := {} }
  let s := s.onSec fun y => { y with floor := max y.floor x.hs.notBefore, opens := y.opens + 1 }
  let s := (sessionEntries k rights (s.sec.dbg == .unlocked)).foldl (fun (s : State) (e : ApuEntry) => (s.addEntry e).1) s
  (s.count 0x0A 1).sessEmit 0x0301 k (x.serial % 2 ^ 32) rights.toNat

/-- A FINISH for a handshake, its header and what follows it (R311, R312). -/
def State.rxFinish (s : State) (k : SessId) (head rest : List Byte) (len : Nat) : State :=
  let x := s.sec.sessions[k]
  let ctr := ofLe ((head.drop 4).take 6)
  match Config.gcmOpen x.keyTo (nonce x.saltTo ctr) head (rest.take len) (rest.drop len) with
  | none => ((s.count 0x0B 1).onSec fun y => { y with afail := satNat 65535 (y.afail + 1) }).hsFails k .authFail
  | some body =>
    if ctr = 0 ∧ Config.ecdsaVerify x.hs.hostKey (Config.sha256 (x.hs.th ++ x.hs.sig)) body then s.openSession k
    else (s.count 0x0B 1).hsFails k .authFail

/-- FINISH: the frame of a handshake (R312). -/
def execFinish (k : SessId) (frame : List Byte) (s : State) : Out :=
  let len := ofLe ((frame.drop 10).take 2)
  .next (if s.sec.sessions[k].st = .handshake ∧ frame.length = 12 + len + peerTag s.sec.sessions[k].peer
    then s.rxFinish k (frame.take 12) (frame.drop 12) len else s.malformed)

/-- HANDSHAKE_TIMEOUT: 2 s without FINISH (R312). -/
def execHandshakeTimeout (k : SessId) (s : State) : Out :=
  .next (if s.sec.sessions[k].st = .handshake then s.hsFails k .authFail else s)

/-- CLOSE from the host (R315). -/
def execClose (k : SessId) (s : State) : Out := .next (s.endSession k 1)

/-- SESSION_LIFETIME_END (R315). -/
def execSessionLifetimeEnd (k : SessId) (s : State) : Out := .next (s.endSession k 2)

/-- SESSION_IDLE_END (R315). -/
def execSessionIdleEnd (k : SessId) (s : State) : Out := .next (s.endSession k 3)

/-! ### SEC_CMD (R316 to R322) -/

/-- A bytes view of SEC_KEYINk. -/
def State.keyin (s : State) (k : SessId) (n : Nat) : List Byte := (s.sec.sessions[k].keyin.toList.take n).flatMap wordBytes

/-- SEC_KEYINk is cleared after each command. -/
def State.clearKeyin (s : State) (k : SessId) : State := s.setSess k fun x => { x with keyin := Vector.replicate 9 0 }

/-- A security command: a missing right is DENIED; the key inputs are cleared after it. -/
def State.secGated (s : State) (k : SessId) (g : Status) (go : State → State × Status) : State :=
  match g with
  | .ok => let t := go s; (t.1.clearKeyin k).answer (s.me k) t.2
  | .denied => (s.clearKeyin k).answer (s.me k) .denied
  | st => s.answer (s.me k) st

def State.setKeySlot (s : State) (i : Fin 4) (f : KeySlot → KeySlot) : State := s.onSec fun x => { x with slots := upd x.slots i f }

/-- Bytes of SRAM that a session may read; none where its aperture does not hold them all (R335). -/
def State.sessRead (s : State) (k : SessId) (a : Nat) : Nat → Option (List Byte)
  | 0 => some []
  | n + 1 => match s.translate k.val a false, s.sessRead k (a + 1) n with
    | .ok t, some bs => some (s.mem.read t :: bs)
    | _, _ => none

/-- The session may write every page of a range. -/
def State.mayWrite (s : State) (k : SessId) (a : Nat) : Nat → Bool
  | 0 => true
  | n + 1 => (match s.translate k.val (a + n) true with | .ok _ => isSram (a + n) | .error _ => false) && s.mayWrite k a n

/-- FUSE; a claim session ends after it, with a cause the table of R315 does not give (R314, R316). -/
def State.cmdFuse (s : State) (i : Fin 4) (k : SessId) : State × Status :=
  if s.sec.slots[i].st ≠ .empty then (s, .limit)
  else
    let h := s.keyin k 8
    let low := ofLe (h.take 4)
    let s := (s.setKeySlot i fun _ => { st := .enabled, hash := h }).sessEmit 0x0306 k i.val low
    if s.sec.sessions[k].st = .claim then
      let s := s.sessEmit 0x0305 k i.val low
      (s.draw.endSession k (s.free % 2 ^ 32), .ok)
    else (s, .ok)

/-- The owner slot a Recipe image is signed under (R281). -/
def recipeKslot (bytes : List Byte) : Nat :=
  let len := ofLe ((bytes.drop 8).take 4)
  ofLe ((bytes.drop (len - 160)).take 1)

def State.slotOf (s : State) (x : RcpSlot) : SlotState := s.rcp.slots[(Fin.ofNat 2 x.code : Fin 2)]
def State.setSlotOf (s : State) (x : RcpSlot) (f : SlotState → SlotState) : State :=
  s.onRcp fun r => { r with slots := upd r.slots (Fin.ofNat 2 x.code) f }

/-- REVOKE (R316). -/
def State.cmdRevoke (s : State) (i : Fin 4) (k : SessId) : State × Status :=
  let others := (idx 4).any fun j => j != i && s.sec.slots[j].st == .enabled
  match firstFail [(s.sec.slots[i].st == .enabled && others, .limit), (s.sec.sessions[k].kslot != i.val, .denied),
      (!(s.rcp.applied && recipeKslot (s.slotOf s.rcp.inForce).bytes == i.val), .recipeLocked)] with
  | .ok =>
    let mine := (idx 4).filter fun j => s.sec.sessions[j].isOpen && s.sec.sessions[j].kslot == i.val
    let s := s.setKeySlot i fun x => { x with st := .revoked }
    let s := mine.foldl (fun (s : State) (j : SessId) => s.endSession j 6) s
    let o := s.rcp.inForce.other
    let s := if (s.slotOf o).status == .valid && recipeKslot (s.slotOf o).bytes == i.val then
        s.setSlotOf o fun x => { x with status := .invalid, errc := 7, sect := 0, digest := [] }
      else s
    (s.sessEmit 0x0307 k i.val mine.length, .ok)
  | st => (s, st)

/-- HKEY_INSTALL (R317). -/
def State.cmdHkey (s : State) (k : SessId) : State × Status :=
  let e := (s.sec.sessions[k].keyin[8]).toNat
  let s := s.onSec fun x =>
    { x with root := some (s.keyin k 8), epoch := e, oldEpoch := none, rotation := none, rerooted := true, staleAt := none, staleRec := false }
  (s.sessEmit 0x0308 k e 0, .ok)

/-- A rotation is announced: the activation second lies beyond three announcements (R318). -/
def State.startRotation (s : State) : State :=
  match s.sec.rotation with
  | some _ => s
  | none => s.onSec fun x => { x with rotation := some (x.epoch + 1, s.secs + 4), announce := 3 }

/-- ROTATE, on the manager only (R318). -/
def State.cmdRotate (s : State) : State × Status := if s.isWorker then (s, .limit) else (s.startRotation, .ok)

/-- The attestation report but its signature (R322). -/
def State.report (s : State) (n : List Byte) : List Byte :=
  let slots := (idx 4).map fun i => put s.sec.slots[i].st.code (2 * i.val) 2
  let flags := flagAt (s.sec.dbg == .unlocked) 0 + flagAt s.sec.tamper 1 + flagAt s.sec.aonLost 2 + flagAt s.sec.root.isSome 3 + flagAt s.claimed 4
  [0x4C, 0x58, 0x41, 0x54] ++ le 2 1 ++ zeros 2 ++ fit 16 n ++ fit 32 deviceId
    ++ (if s.rcp.applied then fit 32 s.rcp.head.digest else zeros 32) ++ le 4 (if s.rcp.applied then s.rcp.head.rver else 0)
    ++ le 1 (if s.rcp.applied then s.rcp.inForce.code else 0xFF) ++ le 1 (slots.foldl (· + ·) 0) ++ le 1 flags
    ++ le 1 (if s.sec.dbg == .unlocked then s.sec.scope else 0) ++ le 4 s.sec.images[s.sec.running].version ++ le 4 s.sec.rbFloor
    ++ le 4 Config.romVersion ++ le 4 s.log.cycle ++ le 4 s.log.ops ++ s.stamp ++ le 1 s.tmb.qual.code ++ zeros 3
    ++ le 4 (if s.log.any then s.log.nextSeq + 2 ^ 32 - 1 else 0) ++ fit 32 s.log.chain ++ le 4 s.sec.tcount ++ le 4 s.sec.unlocks
    ++ le 4 s.sec.afail ++ le 4 s.sec.opens ++ le 4 s.sec.epoch ++ zeros 8

/-- ATTEST (R322). -/
def State.cmdAttest (s : State) (k : SessId) : State × Status :=
  let a := s.sec.arg1.toNat
  if a % 16 ≠ 0 ∨ !s.mayWrite k a 256 then (s, .badAddr)
  else
    let r := s.report (s.keyin k 4)
    ({ s with mem := s.mem.writeN a (r ++ fit 64 (Config.deviceSign (Config.sha256 r))) }, .ok)

/-- DBG_CHALLENGE (R320). -/
def State.cmdChallenge (s : State) : State × Status :=
  let ch := deviceId.take 16 ++ Config.random s.sys.draws 16
  (s.draw.onSec fun x => { x with challenge := ch, dbg := if x.dbg = .unlocked then .unlocked else .challenge }, .ok)

/-- DBG_UNLOCK (R320): the challenge serves this one command. -/
def State.cmdUnlock (s : State) (k : SessId) : State × Status :=
  match s.sessRead k s.sec.arg0.toNat 168 with
  | none => (s, .badAddr)
  | some r =>
    let num (i n : Nat) : Nat := ofLe ((r.drop i).take n)
    let key := (r.drop 40).take 64
    let st := firstFail [(!s.sec.challenge.isEmpty, .notReady), (s.keyEnabled (num 32 1) key, .denied),
      (r.take 32 == s.sec.challenge && Config.ecdsaVerify key (Config.sha256 (r.take 104)) (r.drop 104), .authFail),
      ((num 33 1 == 1 || num 33 1 == 2) && decide (1 ≤ num 36 4) && decide (num 36 4 ≤ 1440), .limit)]
    let s := s.onSec fun x => { x with challenge := [], dbg := if x.dbg = .challenge then .locked else x.dbg }
    match st with
    | .ok =>
      let s := s.onSec fun x => { x with dbg := .unlocked, scope := num 33 1, duration := num 36 4, dbgAt := s.tick, unlocks := x.unlocks + 1 }
      ((s.sessEmit 0x030A k (num 33 1) (num 36 4)).endAll 7, .ok)
    | st => (s, st)

/-- Debug returns to LOCKED; cause 1 = command, 2 = duration (R320). -/
def State.lockDebug (s : State) (cause : Nat) : State :=
  if s.sec.dbg = .unlocked then
    (s.onSec fun x => { x with dbg := if x.challenge.isEmpty then .locked else .challenge, scope := 0, duration := 0 }).secEmit 0x030B cause 0
  else s

/-- TAMPER_ACK (R321). -/
def State.cmdTamperAck (s : State) : State × Status :=
  if s.sec.tamper && !(s.sec.root.isSome && s.sec.rerooted) then (s, .notReady) else (s.onSec fun x => { x with tamper := false }, .ok)

/-- RT_WRITE: a staged image is written into the image that is not running (R305). -/
def State.cmdRtWrite (s : State) (i : Fin 2) (k : SessId) : State × Status :=
  if s.pwr.runtime = true ∧ i = s.sec.running then (s, .limit)
  else if s.sec.arg0.toNat % 16 ≠ 0 then (s, .badAddr)
  else match s.sessRead k s.sec.arg0.toNat s.sec.arg1.toNat with
    | none => (s, .badAddr)
    | some bytes =>
      let v := Config.runtimeImage bytes
      let s := s.onSec fun x => { x with images := upd x.images i fun _ => { version := v.getD 0, bytes := bytes, ok := v.isSome } }
      (s.sessEmit 0x030D k (v.getD 0) i.val, .ok)

/-- FUSE (R316). -/
def execFuse (i : Fin 4) (k : SessId) (s : State) : Out := .next (s.secGated k (s.gate k rightKEYS) fun s => s.cmdFuse i k)
/-- REVOKE (R316). -/
def execRevoke (i : Fin 4) (k : SessId) (s : State) : Out := .next (s.secGated k (s.gate k rightKEYS) fun s => s.cmdRevoke i k)
/-- HKEY_INSTALL (R317). -/
def execHkeyInstall (k : SessId) (s : State) : Out := .next (s.secGated k (s.gate k rightKEYS) fun s => s.cmdHkey k)
/-- ROTATE (R318). -/
def execRotate (k : SessId) (s : State) : Out := .next (s.secGated k (s.gate k rightKEYS) fun s => s.cmdRotate)
/-- ATTEST (R322). -/
def execAttest (k : SessId) (s : State) : Out := .next (s.secGated k (s.gate k rightATTEST) fun s => s.cmdAttest k)
/-- DBG_CHALLENGE (R320). -/
def execDbgChallenge (k : SessId) (s : State) : Out := .next (s.secGated k (s.gate k rightDEBUG) fun s => s.cmdChallenge)
/-- DBG_UNLOCK (R320). -/
def execDbgUnlock (k : SessId) (s : State) : Out := .next (s.secGated k (s.gate k rightDEBUG) fun s => s.cmdUnlock k)
/-- DBG_LOCK (R320). -/
def execDbgLock (k : SessId) (s : State) : Out := .next (s.secGated k (s.gate k rightDEBUG) fun s => (s.lockDebug 1, .ok))
/-- TAMPER_ACK (R321). -/
def execTamperAck (k : SessId) (s : State) : Out := .next (s.secGated k (s.gate k rightKEYS) fun s => s.cmdTamperAck)
/-- RT_WRITE (R305). -/
def execRtWrite (i : Fin 2) (k : SessId) (s : State) : Out := .next (s.secGated k (s.gateRt k) fun s => s.cmdRtWrite i k)

/-- SEC_CMD CLOSE needs no right of its own: the session that writes it ends with cause 1 (R315). -/
def State.cmdClose (s : State) (k : SessId) : State × Status :=
  if s.sec.sessions[k].isOpen then (s.endSession k 1, .ok) else (s, .authFail)

/-- SEC_CLOSE (R315). -/
def execSecClose (k : SessId) (s : State) : Out :=
  .next (let r := s.cmdClose k; r.1.answer (s.me k) r.2)

/-! ### Time-driven events of the security core -/

/-- EPOCH_ROTATION_DUE: the manager starts a rotation (R318). -/
def execEpochRotationDue (s : State) : Out := .next (if s.isWorker || s.sec.root.isNone then s else s.startRotation)

/-- A KEY_ROTATE received from the manager (R318). -/
def State.rxRotate (s : State) (sender : Nat) (b : List Byte) : State :=
  if sender ≠ 0 ∨ !s.isWorker then s
  else
    let sec := s.rebuild 0 (fieldAt b 8 4) / 2 ^ 32
    s.onSec fun x => { x with rotation := some (fieldAt b 4 4, sec) }

/-- KEY_ROTATE (R318). -/
def execKeyRotate (sender : Nat) (b : List Byte) (s : State) : Out := .next (s.fromKnown sender fun s => s.rxRotate sender b)

/-- EPOCH_ACTIVATION: T reaches S (R318). -/
def execEpochActivation (s : State) : Out :=
  .next (match s.sec.rotation with
    | some (e, sec) =>
      (s.onSec fun x => { x with oldEpoch := some (x.epoch, sec + 2), epoch := e, rotation := none, rotOps := s.log.ops }).secEmit 0x0309 e 1
    | none => s)

/-- KEY_STALE: frames have verified under no epoch for 3 s (R318). -/
def execKeyStale (s : State) : Out :=
  .next (match s.sec.staleAt, s.sec.staleRec with
    | some (_, sender, low), false => (s.onSec fun x => { x with staleRec := true }).secEmit 0x030E sender low
    | _, _ => s)

/-- COUNTER_FLOOR_WRITE: the counter comes within 2^23 of the stored floor (R319). -/
def execCounterFloorWrite (s : State) : Out :=
  .next (if s.sec.hfloor ≤ s.sec.hctr + 2 ^ 23 then s.onSec fun x => { x with hfloor := x.hfloor + 2 ^ 24 } else s)

/-- DEBUG_DURATION_END (R320). -/
def execDebugDurationEnd (s : State) : Out := .next (s.lockDebug 2)

/-- CHALLENGE_EXPIRY (R320). -/
def execChallengeExpiry (s : State) : Out :=
  .next (s.onSec fun x => { x with challenge := [], dbg := if x.dbg = .challenge then .locked else x.dbg })

/-- What the security core does on a latched detection (R321). -/
def State.tamperActs (s : State) (cause : Nat) : State :=
  let s := (s.endAll 8).onSec fun x => { x with root := none, oldEpoch := none, rotation := none, rerooted := false, tampPend := none }
  s.secEmit 0x030C s.sec.tcount cause

/-- TAMPER_DETECTED: an open (1) or short (2) of the mesh. D0 latches it in every power state, while it is supplied; the
security core acts at once while it runs, and otherwise at the next start (R321). -/
def execTamperDetected (short : Bool) (s : State) : Out :=
  let cause := if short then 2 else 1
  .next (
    if s.pwr.d0Lost && s.pwr.phase != .run then s
    else
      let s := s.onSec fun x => { x with tamper := true, tcount := x.tcount + 1 }
      if s.pwr.phase = .run then s.tamperActs cause else s.onSec fun x => { x with tampPend := some cause })

/-- ROLLBACK_FLOOR_RAISE: the image has run 10 minutes without a lockstep reset (R305). -/
def execRollbackFloorRaise (s : State) : Out :=
  .next (if s.pwr.runtime then s.onSec fun x => { x with rbFloor := max x.rbFloor x.images[x.running].version } else s)

end Sys2Proof.Machine
end

