-- ==== Sys2Proof/Machine/RcpCheck.lean ====
section
/-! DEFINITION. The verification of a Recipe (R276 to R282, R288): its header, directory, signature and records. -/

namespace Sys2Proof.Machine

open Sys2Proof

/-- A field of `n` bytes of an image. -/
def imgNum (b : List Byte) (i n : Nat) : Nat := ofLe ((b.drop i).take n)

/-! ### Header (R277) -/

/-- The fields of a HEADER that the part uses; D is the digest of everything before the SIGNATURE section (R281). -/
def parseHead (b : List Byte) : RcpHead :=
  { rver := imgNum b 12 4, rid := word (imgNum b 16 4), allowed := imgNum b 21 1 % 8, dflt := imgNum b 21 1 / 16 % 4,
    minrt := imgNum b 22 2, parent := (b.drop 32).take 32, mapBanks := imgNum b 736 1 % 16, mapSeqs := imgNum b 737 1 % 16,
    mapSlots := imgNum b 752 16, digest := Config.sha256 (b.take (imgNum b 8 4 - 160)) }

/-- Check 0x1: MAGIC and FORMAT. -/
def magicOk (b : List Byte) : Bool := imgNum b 0 4 == 0x4352584C && imgNum b 4 2 == 1

/-- Check 0x2: LENGTH. -/
def lengthOk (b : List Byte) : Bool :=
  let n := imgNum b 8 4
  n % 16 == 0 && decide (928 ≤ n) && decide (n ≤ 1048576) && decide (n ≤ b.length)

/-- Check 0x3: TARGET names the order code, and ALLOWED and DEFAULT meet SYS_MODE. -/
def targetOk (b : List Byte) : Bool :=
  let h := parseHead b
  (imgNum b 20 1 / 2 ^ (Config.order - 1)) % 2 == 1 && h.allowed != 0 && decide (h.dflt < 3) && (h.allowed / 2 ^ h.dflt) % 2 == 1

/-! ### Directory (R278, R279) -/

/-- An entry of the directory. -/
structure DirEnt where
  off   : Nat
  size  : Nat
  id    : Nat
  flags : Nat
  zero  : Nat
  hash  : List Byte
deriving DecidableEq, Repr, Inhabited

/-- The entry of section ID `k`, 1 to 14. -/
def dirEnt (b : List Byte) (k : Nat) : DirEnt :=
  let i := 64 + 48 * (k - 1)
  { off := imgNum b i 4, size := imgNum b (i + 4) 4, id := imgNum b (i + 8) 1, flags := imgNum b (i + 9) 1,
    zero := imgNum b (i + 10) 6, hash := (b.drop (i + 16)).take 32 }

def DirEnt.present (e : DirEnt) : Bool := e.flags % 2 == 1
/-- The flag [1]: hot-swappable. -/
def DirEnt.hot (e : DirEnt) : Bool := e.flags / 2 % 2 == 1

/-- The sections that R279 requires. -/
def requiredSec (k : Nat) : Bool := [secPORTMAP, secROUTE, secINTERLOCK, secLIMITS, secHIER].contains k

/-- One entry meets R276 and R278; `low` is where its body may begin. -/
def dirEntOk (e : DirEnt) (k low len : Nat) : Bool :=
  e.id == k && decide (e.flags < 4) && e.zero == 0
    && (if e.present then e.off % 16 == 0 && decide (low ≤ e.off) && decide (e.off + e.size ≤ len - 160)
      else !requiredSec k && e.flags == 0 && e.off == 0 && e.size == 0 && e.hash == zeros 32)

/-- Check 0x5: the first section whose entry fails; 0 where none does. -/
def dirFails (b : List Byte) (len : Nat) : Nat → Nat → Nat → Option Nat
  | 0, _, _ => none
  | n + 1, k, low =>
    let e := dirEnt b k
    if dirEntOk e k low len then dirFails b len n (k + 1) (if e.present then e.off + e.size else low) else some k

/-- The sections present, by ID. -/
def presentSecs (b : List Byte) : List (Nat × DirEnt) :=
  (((List.range 14).map (· + 1)).map fun k => (k, dirEnt b k)).filter fun e => e.2.present

/-- The body of a section. -/
def secBody (b : List Byte) (e : DirEnt) : List Byte := (b.drop e.off).take e.size

/-- Check 0x6: the first section whose HASH does not match its body. -/
def hashFails (b : List Byte) : Option Nat :=
  ((presentSecs b).find? fun e => Config.sha256 (secBody b e.2) != e.2.hash).map Prod.fst

/-! ### Signature (R281) -/

/-- The SIGNATURE section. -/
def signature (b : List Byte) : List Byte := (b.drop (imgNum b 8 4 - 160)).take 160

/-- Check 0x7: Q is the key of an enabled owner slot. -/
def State.signerOk (s : State) (b : List Byte) : Bool := s.keyEnabled (imgNum (signature b) 0 1) (((signature b).drop 4).take 64)

/-- Check 0x8: the signature verifies over D. -/
def signedOk (b : List Byte) : Bool :=
  Config.ecdsaVerify (((signature b).drop 4).take 64) (parseHead b).digest (((signature b).drop 68).take 64)

/-! ### Records (R280, R282) -/

/-- The record types: section, TYPE, INDEX bound, least and greatest WORDS (R282, R367, R391, R407). -/
def recTypes : List (Nat × Nat × Nat × Nat × Nat) :=
  [(1, 1, 32, 11, 11), (1, 2, 32, 32, 32), (1, 3, 8, 1, 1), (2, 1, 2048, 4, 4), (2, 2, 32, 1, 1), (3, 1, 256, 9, 9)]
  ++ [(4, 1, 32, 3, 3), (4, 2, 128, 4, 100), (4, 3, 8, 2, 2), (4, 4, 1, 1, 1), (5, 1, 64, 4, 4), (6, 1, 8, 9, 9), (6, 2, 8, 16, 16)]
  ++ [(7, 1, 128, 7, 7), (7, 2, 128, 48, 48), (7, 3, 128, 48, 48), (8, 1, 4, 1, 1), (8, 2, 1024, 1, 1), (8, 3, 2048, 2, 2), (8, 4, 2048, 5, 5)]
  ++ [(9, 1, 1, 17, 17), (9, 2, 128, 4, 4), (9, 3, 1, 2, 2), (9, 4, 65536, 1, 255), (10, 1, 16, 3, 3), (10, 2, 512, 2, 2)]
  ++ [(11, 1, 1, 2, 2), (11, 2, 1, 16, 16), (11, 3, 32, 1, 1), (11, 4, 64, 1, 1), (11, 5, 1, 5, 5), (12, 1, 4, 7, 7), (12, 2, 512, 3, 3)]
  ++ [(13, 1, 1024, 1, 1), (14, 1, 32, 1, 1), (14, 2, 16, 1, 1), (14, 3, 1, 1, 1), (14, 4, 1, 1, 1)]

/-- A record is of a known type, with its INDEX in range and its WORDS as the table gives. -/
def recKnown (r : Rec) : Bool :=
  recTypes.any fun t => t.1 == r.sec && t.2.1 == r.typ && decide (r.idx < t.2.2.1) && decide (t.2.2.2.1 ≤ r.words.length)
    && decide (r.words.length ≤ t.2.2.2.2) && (r.sec != secLIMITS || r.typ != 2 || r.words.length % 2 == 0)

/-- The records of a body; none where a record runs past its end. -/
def parseRecs (sec : Nat) : Nat → List Byte → Option (List Rec)
  | 0, _ => none
  | n + 1, b =>
    match b with
    | [] => some []
    | _ =>
      let w := imgNum b 1 1
      let rest := b.drop (4 + 4 * w)
      if w = 0 ∨ b.length < 4 + 4 * w then none
      else (parseRecs sec n rest).map fun rs =>
        { sec := sec, typ := imgNum b 0 1, idx := imgNum b 2 2, words := wordsOf w (b.drop 4) } :: rs

/-- Records of one type rise in INDEX (R280). -/
def recsRise : List Rec → Bool
  | [] => true
  | r :: rs => (rs.all fun q => q.typ != r.typ || decide (r.idx < q.idx)) && recsRise rs

/-- The records of a section, if its body meets R280 and R282 (check 0x9). -/
def secRecs (b : List Byte) (k : Nat) (e : DirEnt) : Option (List Rec) :=
  match parseRecs k (e.size + 1) (secBody b e) with
  | some rs => if rs.all recKnown && recsRise rs then some rs else none
  | none => none

/-- Check 0x9: every record, or the first section that fails. -/
def allRecs (b : List Byte) : List (Nat × DirEnt) → Except Nat (List Rec)
  | [] => .ok []
  | (k, e) :: es => match secRecs b k e with
    | none => .error k
    | some rs => match allRecs b es with
      | .ok qs => .ok (rs ++ qs)
      | .error x => .error x

/-! ### Fields (check 0xA) -/

/-- Reserved bits are zero: `m` holds the fields of the register. -/
def inMask (w : Word) (m : Nat) : Bool := w.toNat &&& m == w.toNat
/-- A field lies within its range. -/
def inRange (w : Word) (lo n a b : Nat) : Bool := decide (a ≤ bits w lo n) && decide (bits w lo n ≤ b)

/-- A source number of R283 that is not reserved. -/
def srcKnown (n : Nat) : Bool :=
  decide (n < 0x1CF) || (decide (0x1D0 ≤ n) && decide (n < 0x200)) || (decide (0x201 ≤ n) && decide (n < 0x23F))
    || (decide (0x240 ≤ n) && decide (n < 0x260)) || (decide (0x300 ≤ n) && decide (n < 0x400))

/-- A term of a rule or of a transition: NEG, OP and source; `ops` is the least reserved OP. -/
def termOk (w : Word) (ops : Nat) : Bool :=
  inMask w 0xF00007FF && decide (bits w 28 3 < ops) && (decide (2 < bits w 28 3) || srcKnown (bits w 0 11))

/-- The words of a PORTMAP 0x01 record; ranges that only a function uses are judged for that function. -/
def portFieldsOk (w : Nat → Word) : Bool :=
  let f := bits (w 0) 0 5
  inMask (w 0) 0x0F3CF11F && inRange (w 0) 24 4 0 12 && decide (f ≤ 0x0E) && inMask (w 1) 0xFF00FFC0 && inMask (w 3) 0xFFFF0000
    && inMask (w 6) 0x3F3FFFFF && inMask (w 7) 0xFFFFFF00
    && (f != 0x04 || (decide (modeMinPer .sear ≤ (w 4).toNat) && decide ((w 4).toNat ≤ maxPer)))
    && (!(f == 0x05 || f == 0x0B) || inRange (w 2) 24 8 10 160) && (f != 0x05 || inRange (w 2) 0 8 1 255)
    && (f != 0x0A || inRange (w 3) 16 16 100 10000)
    && (!isSolFunc f || (inRange (w 6) 0 16 1 65535 && inRange (w 7) 24 8 100 180 && inRange (w 7) 16 8 1 255
      && inRange (w 7) 8 8 1 255 && inRange (w 8) 16 16 1 65535 && inRange (w 8) 0 16 1 65535))

/-- The words of a PROFILES record. -/
def profileFieldsOk (w : Nat → Word) : Bool :=
  let ihit := bits (w 0) 24 8
  let ihold := bits (w 0) 16 8
  inMask (w 3) 0xFFFF0003
    && (ihit == 0 || (decide (ihit ≤ 200) && decide (bits (w 0) 8 8 ≤ ihold) && decide (ihold ≤ 4 * ihit) && inRange (w 0) 0 8 5 40
      && inRange (w 1) 16 16 1 65535 && inRange (w 2) 16 16 1 65535 && inRange (w 3) 24 8 1 255 && inRange (w 3) 16 8 1 255))

/-- The words of a FANS 0x01 record. -/
def fanFieldsOk (w : Nat → Word) : Bool :=
  inMask (w 0) 0x9F1FC07F && (bits (w 0) 14 2 != 0 || decide (bits (w 0) 0 7 < 32)) && inMask (w 1) 0xFFFFFF00
    && inRange (w 1) 24 8 10 200 && inRange (w 1) 16 8 1 255 && inMask (w 2) 0xFFFFFF0F && inRange (w 2) 16 8 1 255
    && inMask (w 3) 0xFFFFFF00 && inRange (w 3) 16 16 1 65535 && inRange (w 4) 0 16 1001 4000
    && (List.range 4).all fun j => inMask (w (5 + j)) 0xFFFF

/-- The words of a LAWS 0x01 record. -/
def lawFieldsOk (w : Nat → Word) : Bool :=
  let law := bits (w 0) 28 4
  let ord := bits (w 0) 24 3
  inMask (w 0) 0xFFF77F00 && decide (law ≤ 7) && (if law = 2 ∨ law = 3 then decide (1 ≤ ord) && decide (ord ≤ 4) else ord == 0)
    && decide (bits (w 0) 22 2 < 3) && decide (bits (w 0) 20 2 < 3) && decide (bits (w 0) 16 3 < 5) && inMask (w 1) 0xEFFDFFE0
    && decide (bits (w 1) 29 3 < 6) && decide (bits (w 1) 18 2 < 3) && inMask (w 2) 0xFFFF0000
    && (law == 0 || (inRange (w 2) 16 16 1 65535 && decide (0 < sbits (w 5) 0 32)))

/-- The words that a bank of a law lists (R134). -/
def bankWord (law k : Nat) : Bool :=
  k == 46 || k == 47 || (law == 1 && decide (k < 12)) || (law == 2 && (decide (k < 24) || k == 45)) || (law == 3 && (decide (k < 32) || k == 45))
    || (law == 4 && (decide (k < 4) || k == 45)) || (law == 5 && decide (k < 4)) || law == 6 || law == 7

/-- The words of a bank of a slot of this law. -/
def bankFieldsOk (law : Nat) (w : Nat → Word) : Bool :=
  ((List.range 48).all fun k => bankWord law k || w k == 0) && (law != 2 || decide ((w 23).toNat < 3))
    && (law != 5 || (inRange (w 0) 0 32 1 65535 && decide ((w 2).toNat < 3)))

/-- The words of a SECTION 0x01 record. -/
def sectFieldsOk (w : Nat → Word) : Bool :=
  inMask (w 0) 0xF7FFC0FF && decide (bits (w 0) 30 2 < 2) && decide (bits (w 0) 28 2 < 3) && decide (bits (w 0) 14 2 < 3)
    && decide (bits (w 0) 0 8 ≤ 128) && inRange (w 1) 16 16 300 5000 && inRange (w 1) 8 8 1 255 && inRange (w 1) 0 8 1 255
    && inRange (w 2) 16 16 100 2000 && inRange (w 2) 8 8 1 50 && inRange (w 2) 0 8 1 100 && inMask (w 3) 0xF01F0000
    && inRange (w 3) 16 5 1 20 && inMask (w 5) 0xFFFFB000 && inRange (w 5) 16 8 1 255 && inMask (w 8) 0x00011F1F
    && inRange (w 8) 8 5 0 16 && inRange (w 8) 0 5 0 16

/-- The words of a HIER 0x05 record. -/
def timeFieldsOk (w : Nat → Word) : Bool :=
  inMask (w 0) 0xFFFFC0FF && inRange (w 0) 16 16 1 65535 && inRange (w 0) 0 8 1 255 && inMask (w 1) 0xC00001FF
    && (!bit (w 1) 31 || inRange (w 1) 0 9 1 500) && inMask (w 3) 0xBFFFFFFF && inRange (w 3) 8 8 0 90 && inMask (w 4) 0xFFFFFF00
    && (!bit (w 3) 31 || (inRange (w 4) 24 8 1 255 && inRange (w 4) 16 8 1 255 && inRange (w 4) 8 8 1 255))

/-- A counter source of R392 that is not reserved. -/
def monSrcKnown (n : Nat) : Bool := decide (n < 0xE8) || (decide (0xF0 ≤ n) && decide (n ≤ 0xF2))

/-- The words of a MONITOR record. -/
def monFieldsOk (typ : Nat) (w : Word) : Bool :=
  match typ with
  | 1 => inMask w 0xFF0007FF && monSrcKnown (bits w 24 8) && (if 0xF0 ≤ bits w 24 8 then srcKnown (bits w 0 11) else bits w 0 11 == 0)
  | 2 => inMask w 0xC00007FF && srcKnown (bits w 0 11)
  | 3 => inMask w 0xE300FFFF && !((bit w 31 || bit w 29) && bits w 0 16 == 0)
  | _ => inMask w 0xFFFF

/-- The words of an INTERLOCK record. -/
def ruleFieldsOk (w : Nat → Word) : Bool :=
  inMask (w 0) 0xFC1FFFFF && (List.range (bits (w 0) 28 2 + 1)).all fun i => termOk (w (2 * i + 1)) 3

/-- The words of the records of PORTMAP to FANS. -/
def lowFieldsOk (r : Rec) (w : Nat → Word) : Bool :=
  match r.sec, r.typ with
  | 1, 1 => portFieldsOk w
  | 1, 3 => inMask (w 0) 0xFFFFFF07 && inRange (w 0) 24 8 1 200 && inRange (w 0) 16 8 1 255
  | 2, 1 => inMask (w 0) 0x07FF07FF && srcKnown (bits (w 0) 16 11) && (w 3) == 0 && (decide (bits (w 0) 0 11 < 0x20) || inRange (w 0) 0 11 0x80 0x1FF)
  | 2, 2 => inMask (w 0) 0xF7F003FF && inRange (w 0) 28 4 0 4
  | 3, 1 => ruleFieldsOk w
  | 4, 4 => inMask (w 0) 0xFFFF0000
  | 5, 1 => profileFieldsOk w
  | 6, 1 => fanFieldsOk w
  | _, _ => true

/-- The words of the records of SEQ to MONITOR. -/
def highFieldsOk (r : Rec) (w : Nat → Word) : Bool :=
  match r.sec, r.typ with
  | 7, 1 => lawFieldsOk w
  | 8, 1 => inMask (w 0) 0xC7FFC0FF && inRange (w 0) 23 4 0 8
  | 8, 2 => inMask (w 0) 0xFFFFFFF8 && inRange (w 0) 25 4 0 8 && inRange (w 0) 21 4 0 8
  | 8, 3 => inMask (w 0) 0xFFE001FF && inRange (w 0) 28 4 0 8
  | 8, 4 => inMask (w 0) 0xC00000FF && termOk (w 1) 8 && (!bit (w 0) 30 || termOk (w 3) 8)
  | 9, 1 => sectFieldsOk w
  | 9, 2 => inMask (w 0) 0x3F1F0780 && inRange (w 0) 24 6 0 62 && inRange (w 2) 16 16 100 30000
  | 10, 1 => inMask (w 0) 0xDF0000FF
  | 10, 2 => inMask (w 0) 0xFFF8FFFF && inRange (w 0) 19 2 0 2
  | 11, 1 => inMask (w 0) 0xE03F3F00 && inRange (w 0) 8 6 0 62
  | 11, 3 => inMask (w 0) 0xC000FFFF && (bits (w 0) 30 2 != 3 || inRange (w 0) 0 8 1 255)
  | 11, 4 => inMask (w 0) 0xC03F07FF && srcKnown (bits (w 0) 0 11)
  | 11, 5 => timeFieldsOk w
  | 12, 1 => inMask (w 0) 0xFF700FFF && inMask (w 1) 0xFFFFFFF0 && inMask (w 2) 0xFFFFC000 && inMask (w 3) 0x007F0000 && inMask (w 4) 0xFFFFFF00
    && inRange (w 4) 24 8 0 253
  | 12, 2 => inMask (w 0) 0xDFFFFFFF && inMask (w 1) 0xDFFFFFFF && inRange (w 1) 30 2 0 2 && inMask (w 2) 0xC000003F && inRange (w 2) 30 2 0 2
  | 13, 1 => inMask (w 0) 0xFFFFFF87 && inRange (w 0) 0 3 0 4
  | 14, t => monFieldsOk t (w 0)
  | _, _ => true

/-- No field of a record holds a reserved encoding or a value outside its range; `rs` are all records of the Recipe. -/
def recFieldsOk (rs : List Rec) (r : Rec) : Bool :=
  let w (k : Nat) : Word := r.words.getD k 0
  if r.sec = secLAWS ∧ (r.typ = 2 ∨ r.typ = 3) then
    bankFieldsOk (bits (((findRec rs secLAWS 1 r.idx).getD []).getD 0 0) 28 4) w
  else if r.sec ≤ 6 then lowFieldsOk r w else highFieldsOk r w

/-! ### Verification (R288) -/

/-- A Recipe that passes R288: header and records; else ERRC and section ID of the first failing check. -/
def State.verify (s : State) (b : List Byte) : Except (Nat × Nat) (RcpHead × List Rec) :=
  let len := imgNum b 8 4
  if !magicOk b then .error (1, 0)
  else if !lengthOk b then .error (2, 0)
  else if !targetOk b then .error (3, 0)
  else if s.sec.images[s.sec.running].version < (parseHead b).minrt then .error (4, 0)
  else match dirFails b len 14 1 768 with
    | some k => .error (5, k)
    | none => match hashFails b with
      | some k => .error (6, k)
      | none =>
        if !s.signerOk b then .error (7, 0)
        else if !signedOk b then .error (8, 0)
        else match allRecs b (presentSecs b) with
          | .error k => .error (9, k)
          | .ok rs => match rs.find? fun r => !recFieldsOk rs r with
            | some r => .error (10, r.sec)
            | none => .ok (parseHead b, rs)

end Sys2Proof.Machine
end

