-- ==== Sys2Proof/Machine/Sequencer.lean ====
section
/-! DEFINITION. The meanings of the sequencer commands (chapter Step Sequencers and Machine Cycles). -/

namespace Sys2Proof.Machine

open Sys2Proof

/-! ### Records (R367) -/

def State.seqCfg (s : State) (q : SeqId) : Word := s.rw secSEQ 1 q.val 0
def State.seqUsed (s : State) (q : SeqId) : Bool := bit (s.seqCfg q) 31
def State.seqAuto (s : State) (q : SeqId) : Bool := bit (s.seqCfg q) 30
def State.seqEntry (s : State) (q : SeqId) : Nat := bits (s.seqCfg q) 0 8
def State.seqStep (s : State) (q : SeqId) (k : Nat) : Word := s.rw secSEQ 2 (256 * q.val + k) 0
def State.seqAct (s : State) (q : SeqId) (a w : Nat) : Word := s.rw secSEQ 3 (512 * q.val + a) w
def State.seqTr (s : State) (q : SeqId) (t w : Nat) : Word := s.rw secSEQ 4 (512 * q.val + t) w

/-! ### Q9 and events (R366, R369) -/

/-- SEQs_ASTAT. -/
def Seq.astatWord (x : Seq) : Nat := ((idx 8).map fun a => put x.astat[a] (4 * a.val) 4).foldl (· + ·) 0

/-- SEQs_CNT. -/
def Seq.cntWord (x : Seq) : Nat := put x.trans 16 16 + put x.refused 0 16

/-- An entry into Q9 (R366). -/
def State.pushQ9 (s : State) (q : SeqId) (kind fifth st : Nat) : State :=
  let x := s.seq.seqs[q]
  let e := le 1 kind ++ le 1 q.val ++ le 1 x.step ++ le 1 x.prev ++ le 1 x.taken ++ le 1 fifth ++ le 1 st ++ le 1 x.flags.toNat
    ++ le 4 x.astatWord ++ le 4 x.exitMs ++ s.stamp ++ le 4 x.hpend.toNat ++ le 4 x.cntWord
  if s.seq.q9.length < 64 then
    let s := s.onSeq fun y => { y with q9 := y.q9 ++ [e] }
    s.noteFill 9 s.seq.q9.length
  else s.noteOvf 9

/-- A sequencer event (R369). -/
def State.seqEv (s : State) (code : Nat) (q : SeqId) (a b : Nat) : Ev :=
  let x := s.seq.seqs[q]
  { code := code, payload := le 1 q.val ++ le 1 x.step ++ le 1 x.prev ++ le 1 x.flags.toNat ++ le 4 a ++ le 4 b ++ s.stamp ++ zeros 4 }

/-! ### Entry actions (R359, R360) -/

/-- A port action (KIND 0x1). -/
def State.seqPort (s : State) (src : Src) (p : PortId) (op dur : Nat) : State × Status :=
  let r := if op = 1 then s.presentOn p src dur else if op = 2 then s.presentOff p src
    else (s, if op = 0 then .ok else .limit, false)
  (State.presented r src, r.2.1)

/-- A loop-mode action (KIND 0x2). -/
def State.seqMode (s : State) (src : Src) (n : SlotId) (req : Nat) : State × Status :=
  if !s.slotUsed n then (s, .badAddr)
  else match SlotMode.ofReq req with
    | none => (s, .limit)
    | some m => match s.modeRequest n m src with
      | (s, some st) => (s, st)
      | (s, none) => (s, .ok)

/-- A set-point action (KIND 0x3): only to a slot whose set-point is this sequencer's Step (R144, R360). -/
def State.seqSp (s : State) (q : SeqId) (n : SlotId) (v : Word) : State × Status :=
  if !s.slotUsed n then (s, .badAddr)
  else if s.spsrc n ≠ 1 ∨ s.spidx n ≠ q.val then (s, .recipeLocked)
  else if !s.spInLimits n (ev v) then (s, .limit)
  else (s.setSlot n fun x => { x with stepSp := v }, .ok)

/-- A lock-group action (KIND 0x4 and 0x5). -/
def State.seqLg (s : State) (g : LgId) (start : Bool) : State × Status :=
  if s.isWorker then (s, .recipeLocked)
  else if !s.lgUsed g then (s, .badAddr)
  else if start then s.cmdLgStart g else s.cmdLgStop g

/-- An action of the table presented; none for a KIND that is unused or reserved. -/
def State.seqAction (s : State) (q : SeqId) (i : Nat) (a b : Word) : State × Option Status :=
  let src := Src.seq q i
  let tgt := bits a 21 7
  let some' (r : State × Status) : State × Option Status := (r.1, some r.2)
  match bits a 28 4 with
  | 1 => some' (s.seqPort src (Fin.ofNat 32 tgt) (bits a 0 4) (bits b 0 16))
  | 2 => some' (s.seqMode src (Fin.ofNat 128 tgt) (bits a 0 3))
  | 3 => some' (s.seqSp q (Fin.ofNat 128 tgt) b)
  | 4 => some' (s.seqLg (Fin.ofNat 16 tgt) true)
  | 5 => some' (s.seqLg (Fin.ofNat 16 tgt) false)
  | 6 =>
    let m : BitVec 8 := BitVec.ofNat 8 (2 ^ bits a 0 3)
    some' (s.setSeq q fun x => { x with flags := if bit a 8 then x.flags ||| m else x.flags &&& ~~~m }, .ok)
  | 7 => some' (s.setSeq q fun x => { x with tms := upd x.tms (Fin.ofNat 4 (bits a 0 2)) fun t => if bit a 8 then { run := true, ms := 0 } else { t with run := false } }, .ok)
  | 8 => some' (s.emit (s.seqEv (0x0D80 + bits a 0 7) q s.seq.seqs[q].step b.toNat), .ok)
  | _ => (s, none)

/-- The status of an action is shown, and one other than OK is counted and recorded (R360). -/
def State.seqStatus (s : State) (q : SeqId) (i : Fin 8) (st : Status) : State :=
  let s := s.setSeq q fun x => { x with astat := upd x.astat i fun _ => st.code }
  if st = .ok then s
  else
    let s := (s.setSeq q fun x => { x with refused := satNat 65535 (x.refused + 1) }).count (0xC4 + q.val) 1
    (s.emit (s.seqEv 0x0D02 q i.val st.code)).pushQ9 q 2 i.val st.code

/-- The entry actions of the current Step, in list order (R359). -/
def State.seqActions (s : State) (q : SeqId) : State :=
  let w := s.seqStep q s.seq.seqs[q].step
  ((idx 8).filter fun i => decide (i.val < bits w 25 4)).foldl (fun (s : State) (i : Fin 8) =>
    let a := bits w 12 9 + i.val
    match s.seqAction q i.val (s.seqAct q a 0) (s.seqAct q a 1) with
    | (s, some st) => s.seqStatus q i st
    | (s, none) => s) s

/-! ### Steps and transitions (R356 to R358) -/

/-- A Step becomes current: its time restarts, SEQs_ASTAT reads 0xF throughout, and the entry is recorded and queued
(R356 step 4, R366). -/
def State.seqTo (s : State) (q : SeqId) (k taken : Nat) (es : List (State → Ev)) : State :=
  let s := s.setSeq q fun x =>
    { x with exitMs := x.time, prev := x.step, step := k, taken := taken, time := 0, astat := Vector.replicate 8 0xF }
  let s := s.count (0xC0 + q.val) 1
  let w := s.seqStep q k
  let es := if bit w 29 then (fun (s : State) => s.seqEv 0x0D01 q s.seq.seqs[q].exitMs taken) :: es else es
  let s := s.emitAll (es.map fun e => e s)
  let s := s.pushQ9 q 1 0 0
  if bit w 30 && bits s.mon.pcfg 24 2 == q.val && bit s.mon.pcfg 30 then s.onMon fun m => { m with stepDue := true } else s

/-- STATE changes (R366). -/
def State.seqState (s : State) (q : SeqId) (st : SeqSt) : State :=
  (s.setSeq q fun x => { x with st := st }).pushQ9 q 3 st.code 0

/-- START takes effect (R362, R364). -/
def State.seqStarts (s : State) (q : SeqId) : State :=
  let s := if s.seq.seqs[q].st = .running then s else s.seqState q .running
  (s.seqTo q (s.seqEntry q) 0xFF [fun s => s.seqEv 0x0D03 q (s.seqEntry q) 0]).seqActions q

/-- STOP takes effect (R362). -/
def State.seqStops (s : State) (q : SeqId) : State :=
  let left := s.seq.seqs[q].step
  let s := (s.setSeq q fun x => { x with hpend := 0 }).seqState q .stopped
  (s.seqTo q 0 0xFF [fun s => s.seqEv 0x0D04 q left 0]).seqActions q

/-- The pending request takes effect (R362); the result says whether a Step was entered. -/
def State.seqApply (s : State) (q : SeqId) (op : SeqOp) : State × Status × Bool :=
  let x := s.seq.seqs[q]
  let idle := x.step = 0
  match op with
  | .start =>
    if x.st = .stopped ∨ (x.st = .running ∧ idle) then
      if x.mark then (s, .busy, false) else (s.seqStarts q, .ok, true)
    else (s, .ok, false)
  | .stop => if x.st = .running ∨ x.st = .paused then (s.seqStops q, .ok, true) else (s, .ok, false)
  | .pause =>
    if x.st = .running then
      let s := (s.setSeq q fun x => { x with pausedAt := s.tick }).seqState q .paused
      (s.emit (s.seqEv 0x0D05 q x.step 0), .ok, false)
    else (s, .ok, false)
  | .resume =>
    if x.st = .paused then
      let s := s.seqState q .running
      (s.emit (s.seqEv 0x0D06 q x.step ((s.tick - x.pausedAt) / ticksPerMs)), .ok, false)
    else (s, .ok, false)

/-- A term of a transition (R357). -/
def State.seqTerm (s : State) (q : SeqId) (t v : Word) : Bool :=
  let x := s.seq.seqs[q]
  let n := bits t 0 11
  let r := match bits t 28 3 with
    | 0 => s.boolSrc n
    | 1 => decide (sbits v 0 32 < s.valSrc n)
    | 2 => decide (s.valSrc n < sbits v 0 32)
    | 3 => decide (v.toNat ≤ x.time)
    | 4 => decide (v.toNat ≤ x.tms[(Fin.ofNat 4 n : Fin 4)].ms)
    | 5 => x.hpend.getLsbD (n % 16)
    | 6 => x.astat[(Fin.ofNat 8 n : Fin 8)] == v.toNat
    | _ => true
  r != bit t 31

/-- A transition of the pool is true (R357). -/
def State.seqTrue (s : State) (q : SeqId) (t : Nat) : Bool :=
  let a := s.seqTr q t 0
  let one := s.seqTerm q (s.seqTr q t 1) (s.seqTr q t 2)
  if bit a 30 then
    let two := s.seqTerm q (s.seqTr q t 3) (s.seqTr q t 4)
    if bit a 31 then one || two else one && two
  else one

/-- The host command bits that the terms of a transition test (R358). -/
def State.seqTested (s : State) (q : SeqId) (t : Nat) : BitVec 16 :=
  let one (w : Word) : BitVec 16 := if bits w 28 3 = 5 then BitVec.ofNat 16 (2 ^ (bits w 0 11 % 16)) else 0
  one (s.seqTr q t 1) ||| (if bit (s.seqTr q t 0) 30 then one (s.seqTr q t 3) else 0)

/-- The transitions tested at an evaluation, in order: pool number and how SEQs_LAST names it (R356 step 3). -/
def State.seqTests (s : State) (q : SeqId) : List (Nat × Nat) :=
  let c := s.seqCfg q
  let w := s.seqStep q s.seq.seqs[q].step
  (if s.seq.seqs[q].step = 0 then [] else (List.range (bits c 23 4)).map fun i => (bits c 14 9 + i, 8 + i))
    ++ (List.range (bits w 21 4)).map fun i => (bits w 3 9 + i, i)

/-- The first transition that is true is taken (R356). -/
def State.seqTake (s : State) (q : SeqId) : State :=
  match (s.seqTests q).find? fun t => s.seqTrue q t.1 with
  | none => s
  | some t =>
    let s := (s.setSeq q fun x => { x with hpend := x.hpend &&& ~~~(s.seqTested q t.1), trans := (x.trans + 1) % 65536 }).count 0x0F 1
    (s.seqTo q (bits (s.seqTr q t.1 0) 0 8) t.2 []).seqActions q

/-- Step time and the running timers pass one evaluation instant (R361). -/
def Seq.pass (x : Seq) : Seq :=
  { x with time := satNat (2 ^ 32 - 1) (x.time + 1),
           tms := updAll x.tms fun _ t => if t.run then { t with ms := satNat (2 ^ 31 - 1) (t.ms + 1) } else t }

/-- A marked sequencer at Step idle is held (R365). -/
def State.seqHold (s : State) (q : SeqId) : State :=
  let x := s.seq.seqs[q]
  if x.mark && (x.st == .stopped || ((x.st == .running || x.st == .paused) && x.step == 0)) then
    (s.setSeq q fun x => { x with before := x.st }).seqState q .held
  else s

/-- Step 1 of R356: the start of R364 and the pending request; the result says whether a Step was entered. -/
def State.seqRequests (s : State) (q : SeqId) : State × Bool :=
  let auto := s.seq.seqs[q].auto
  let s := if auto then (s.setSeq q fun x => { x with auto := false }).seqStarts q else s
  match s.seq.seqs[q].req with
  | none => (s, auto)
  | some (op, src) =>
    let r := (s.setSeq q fun x => { x with req := none }).seqApply q op
    (r.1.answer src r.2.1, auto || r.2.2)

/-- SEQ_EVALUATION: at a whole millisecond a running sequencer's Step time and timers count the instant (R361), the pending
request is applied, and a running sequencer takes at most one transition (R356, R365). -/
def execSeqEvaluation (q : SeqId) (s : State) : Out :=
  .next (
    if !s.seqUsed q then s
    else
      let s := if s.seq.seqs[q].st = .running then s.setSeq q Seq.pass else s
      let (s, entered) := s.seqRequests q
      if entered then s.seqHold q
      else
        let s := s.seqHold q
        if s.seq.seqs[q].st = .running then s.seqTake q else s)

/-! ### Commands (R362, R363) -/

/-- A request of SEQs_CMD is accepted; it replaces one that has not taken effect (R362). -/
def State.seqRequest (s : State) (q : SeqId) (op : SeqOp) (k : SessId) : State × Option Status :=
  let x := s.seq.seqs[q]
  if (x.mark || x.st == .held) && (op == .start || op == .resume) then (s, some .busy)
  else
    let s := match x.req with
      | some (_, old) => s.answer old .superseded
      | none => s
    (s.setSeq q fun x => { x with req := some (op, s.me k) }, none)

/-- A command to a sequencer: one that the Recipe does not use answers BAD_ADDR (R482). -/
def State.seqCmd (s : State) (q : SeqId) (op : SeqOp) (k : SessId) : State :=
  if !s.seqUsed q then s.answer (s.me k) .badAddr
  else match s.gate k rightCOMMAND with
    | .ok => match s.seqRequest q op k with
      | (s, some st) => s.answer (s.me k) st
      | (s, none) => s
    | st => s.answer (s.me k) st

/-- SEQ_START (R362). -/
def execSeqStart (q : SeqId) (k : SessId) (s : State) : Out := .next (s.seqCmd q .start k)
/-- SEQ_STOP (R362). -/
def execSeqStop (q : SeqId) (k : SessId) (s : State) : Out := .next (s.seqCmd q .stop k)
/-- SEQ_PAUSE (R362). -/
def execSeqPause (q : SeqId) (k : SessId) (s : State) : Out := .next (s.seqCmd q .pause k)
/-- SEQ_RESUME (R362). -/
def execSeqResume (q : SeqId) (k : SessId) (s : State) : Out := .next (s.seqCmd q .resume k)

/-- A write of SEQs_HCMD: a bit both set and cleared is cleared (R363). -/
def State.writeHcmd (s : State) (q : SeqId) (v : Word) : State × Status :=
  let set : BitVec 16 := BitVec.ofNat 16 (bits v 0 16)
  let clr : BitVec 16 := BitVec.ofNat 16 (bits v 16 16)
  (s.setSeq q fun x => { x with hpend := (x.hpend ||| set) &&& ~~~clr }, .ok)

/-- SEQ_HCMD_WRITE (R363). -/
def execSeqHcmdWrite (q : SeqId) (v : Word) (k : SessId) (s : State) : Out :=
  .next (if !s.seqUsed q then s.answer (s.me k) .badAddr else s.gated k (s.gate k rightCOMMAND) fun s => s.writeHcmd q v)

/-! ### Reload and application (R364, R365) -/

/-- Flags and timers at 0, Step 0, and the start of R364 due where AUTOSTART is set. -/
def State.seqFresh (s : State) : State :=
  s.onSeq fun x => { x with seqs := updAll x.seqs fun q _ => { auto := s.seqUsed q && s.seqAuto q } }

/-- A held sequencer takes its new records and returns to the state it was in (R365). -/
def State.seqRelease (s : State) (q : SeqId) : State :=
  let s := s.setSeq q fun x =>
    { x with time := 0, tms := Vector.replicate 4 {}, hpend := 0, astat := Vector.replicate 8 0xF, mark := false }
  if s.seq.seqs[q].st = .held then s.seqState q s.seq.seqs[q].before else s

end Sys2Proof.Machine
end

