-- ==== Sys2Proof/Machine/Solenoid.lean ====
section
/-! DEFINITION. The meanings of the solenoid events and registers (chapter Solenoid and Valve Drive). -/

namespace Sys2Proof.Machine

open Sys2Proof

/-- A delay in half microseconds as whole microseconds, a half rounded up (R81). -/
def halfUsToUs (d : Nat) : Nat := (d + 1) / 2

/-- END_OF_STROKE: the current-slope dip confirms the end of stroke and the open delay is measured (R79, R81, R82).
Detection is valid only before the current first reaches IHIT. `delay` is in half microseconds from HIT start, `vbank`
is VBANK at confirmation. -/
def execEndOfStroke (p : PortId) (delay vbank : Nat) (s : State) : Out :=
  .next (
    let y := s.sol.ports[p]
    if y.phase = .hit && !y.reached && !y.stroke then
      let s := s.setPort p fun x => { x with vbank := vbank }
      let s := s.setSol p fun y => { y with stroke := true }
      s.delayNews (s.finishOpen p (some (halfUsToUs delay)) false) p
    else s)

/-- After HIT: RELEASE if an OFF is pending or the hold end has passed, else BRIDGE, which with TBR = 0 ends in the tick
it begins (R66, R71, R75). -/
def State.leaveHit (s : State) (p : PortId) : State :=
  let y := s.sol.ports[p]
  let on (s : State) : State :=
    if y.holdPassed s.tick then s.toRelease p
    else
      let s := s.enterPhase p .bridge s.tick
      if s.tbr p = 0 then s.toHold p else s
  match y.pend with
  | some d =>
    if d.kind = .offAtHitEnd then
      let st := if d.src == Src.forced then .ok else s.recheckOff p
      let s := s.dropPend p st
      if st = .ok then s.toRelease p else on s
    else on s
  | none => on s

/-- HIT_END: HITEXT after a confirmed end of stroke with MOTION = 1, or at THIT_MAX; an end of stroke that was not
confirmed is NOT_SEEN, and the active command completes with OK (R66, R74, R79). -/
def execHitEnd (p : PortId) (s : State) : Out :=
  .next (
    if s.sol.ports[p].phase = .hit then
      ((s.finishOpen p none false).endActive p .ok).leaveHit p
    else s)

/-- BRIDGE_END: BRIDGE gives way to HOLD (R66). -/
def execBridgeEnd (p : PortId) (s : State) : Out :=
  .next (if s.sol.ports[p].phase = .bridge then s.toHold p else s)

/-- HOLD_END: the hold end passes; HOLD and BRIDGE give way to RELEASE, and a HIT releases at its end (R71). -/
def execHoldEnd (p : PortId) (s : State) : Out :=
  .next (
    let y := s.sol.ports[p]
    if y.holdEnd.isNone then s
    else match y.phase with
      | .hold | .bridge => s.toRelease p
      | .hit => s.setSol p fun y => { y with holdEnd := some s.tick }
      | _ => s)

/-- END_OF_TRAVEL: the release excess confirms the end of travel and the close delay is measured (R80, R81, R82). -/
def execEndOfTravel (p : PortId) (delay vbank : Nat) (s : State) : Out :=
  .next (
    if s.sol.ports[p].phase = .release && s.rdet p then
      s.delayNews ((s.setPort p fun x => { x with vbank := vbank }).finishClose p (some (halfUsToUs delay)) false) p
    else s)

/-- RELEASE_END: the coil current falls below 20 mA; `i` is the current then (R66). -/
def execReleaseEnd (p : PortId) (i : Int) (s : State) : Out :=
  .next (
    if s.sol.ports[p].phase = .release then
      (s.setPort p fun x => { x with iNow := i }).toIdle p
    else s)

/-- RELEASE_TIMEOUT: at RTMO with 20 mA or more still flowing, both switches turn off, the phase becomes IDLE and
RELEASE_TIMEOUT is recorded (R69). -/
def execReleaseTimeout (p : PortId) (i : Int) (s : State) : Out :=
  .next (
    if s.sol.ports[p].phase = .release then
      let s := s.setPort p fun x => { x with iNow := i }
      let e := s.solEv 0x0606 p (s.evGroup p) i (s.rtmo p * 10 : Nat)
      (s.emit e).toIdle p
    else s)

/-- A waiting member is tested again and its HIT starts, or its command completes with the failing status (R75). -/
def State.startWaiting (s : State) (p : PortId) : State :=
  match s.sol.ports[p].pend with
  | none => s
  | some d =>
    let st := if d.src == Src.forced then .ok else s.recheckOn p
    if st = .ok then s.startHit p (some d.src) d.dur d.keepEnd
    else
      let s := s.dropPend p st
      if d.forced then (s.solOn p .forced 0 none).1 else s

/-- DEFERRED_HIT_START: the first member of a group's queue fits the budget, and its HIT starts (R90); not while the
supply warning is in force (R91). -/
def execDeferredHitStart (g : GroupId) (s : State) : Out :=
  .next (
    match s.queueHead g with
    | none => s
    | some p => if s.pwr.warning || !s.fits g p then s else s.startWaiting p)

/-- HIT_DEFERRED_TIMEOUT: the first member of the queue has waited HDMAX. If it fits in this very cycle its HIT starts;
otherwise its ON completes with STALE and the wait is recorded. A forced ON goes on waiting, and no time counts under
the supply warning (R77, R91). -/
def execHitDeferredTimeout (g : GroupId) (s : State) : Out :=
  .next (
    match s.queueHead g with
    | none => s
    | some p =>
      match s.sol.ports[p].pend with
      | none => s
      | some d =>
        if s.pwr.warning || d.src == Src.forced then s
        else if s.fits g p then s.startWaiting p
        else
          let e := s.solEv 0x0601 p (s.evGroup p) (ticksUs (s.tick - d.since)) (s.groupPlanned g)
          let s := if d.forced then
              (s.setSol p fun y => { y with pend := some { d with src := .forced } }).answer d.src .stale
            else s.dropPend p .stale
          (s.onGroup g fun x => { x with timeouts := satNat 65535 (x.timeouts + 1) }).emit e)

/-- The limits of the coil model act on T_cu (R95). -/
def State.judgeCoil (s : State) (p : PortId) : State :=
  let y := s.sol.ports[p]
  let cls : Rat := (bits (s.portCfg p 7) 24 8 : Nat)
  let hot := if cls ≤ y.tcu then true else if y.tcu < cls - 10 then false else y.hot
  let ref := if cls + 10 ≤ y.tcu then true else if y.tcu < cls then false else y.hitref
  let a := shown 93 (y.tcu * 1000)
  let b := shown 93 (y.th * 1000)
  let ev (c : Nat) : Ev := s.solEv c p (s.evGroup p) a b
  let evs := (if hot && !y.hot then [ev 0x0602] else []) ++ (if ref && !y.hitref then [ev 0x0603] else [])
    ++ (if !hot && y.hot then [ev 0x0604] else [])
  (s.setSol p fun y => { y with hot := hot, hitref := ref }).emitAll evs

/-- The ambient temperature of a coil, °C: the module housing, or the probe port while it reports neither SENS_OPEN nor
SENS_SHORT (R93). -/
def State.coilAmbient (s : State) (p : PortId) : Rat :=
  let q : PortId := Fin.ofNat 32 (bits (s.portCfg p 6) 16 5)
  let bad := hasBit (s.presentAt q) .sensOpen || hasBit (s.presentAt q) .sensShort
  if bit (s.portCfg p 6) 21 && !bad then (sbits s.ports[q].inval 0 32 : Rat) / 1000 else (s.sys.housing : Rat) / 1000

/-- COIL_MODEL_UPDATE: the two-node model advances by 1 ms and its limits are judged (R93, R95). `irmsSq` is the mean
square current of the last millisecond in (1/256 A)², `housing` the module housing temperature in m°C. -/
def execCoilModelUpdate (p : PortId) (irmsSq : Nat) (housing : Int) (s : State) : Out :=
  .next (
    let s := s.onSys fun x => { x with housing := housing }
    if isSolFunc (s.func p) && s.rcp.applied then
      let y := s.sol.ports[p]
      let rref : Rat := (s.rref p : Nat) / 100
      let rthCu : Rat := (bits (s.portCfg p 7) 16 8 : Nat) / 4
      let rthH : Rat := (bits (s.portCfg p 7) 8 8 : Nat) / 4
      let tauH : Rat := (bits (s.portCfg p 8) 16 16 : Nat) / 10
      let tauCu : Rat := (bits (s.portCfg p 8) 0 16 : Nat) / 100
      let r := rref * (1 + 393 / 100000 * (y.tcu - 20))
      let pw := ((irmsSq : Nat) : Rat) / 65536 * r
      let gch := 1 / rthCu
      let gha := 1 / rthH
      let ccu := tauCu / rthCu
      let ch := tauH / rthH
      let tcu := y.tcu + 1 / 1000 / ccu * (pw - gch * (y.tcu - y.th))
      let th := y.th + 1 / 1000 / ch * (gch * (tcu - y.th) - gha * (y.th - s.coilAmbient p))
      s.delayNews ((s.setSol p fun y => { y with tcu := tcu, th := th }).judgeCoil p) p
    else s)

/-- WINDING_RESISTANCE_WINDOW: a 10 ms window of HOLD ends; if it is valid, T_cu moves a quarter of the way towards T_meas
(R94). `v` and `i` are the window's mean coil voltage in 1/64 V and mean current in 1/256 A, `least` the least current
magnitude, `steady` says that VBANK stayed within 5 %. -/
def execWindingResistanceWindow (p : PortId) (v i least : Nat) (steady : Bool) (s : State) : Out :=
  .next (
    let y := s.sol.ports[p]
    if y.phase = .hold then
      let valid := !y.windowDirty && decide (100 * 256 ≤ 1000 * least) && steady && decide (0 < i)
      let s := s.setSol p fun y => { y with windowDirty := false }
      if valid then
        let rm : Rat := ((4 * v : Nat) : Rat) / (i : Nat)
        let tm := 20 + (rm / ((s.rref p : Nat) / 100) - 1) / (393 / 100000)
        s.delayNews ((s.setSol p fun y => { y with tcu := y.tcu + (tm - y.tcu) / 4 }).judgeCoil p) p
      else s
    else s)

/-- What the runtime saves of one port (R85). -/
def State.savedDelays (s : State) (p : PortId) : SavedDelays :=
  { func := s.func p, template := s.template p, rref := s.rref p, tabOpen := s.sol.ports[p].tabOpen,
    tabClose := s.sol.ports[p].tabClose }

/-- The delay tables of all ports saved to module flash, with the hash of the Recipe they belong to (R85). -/
def State.saveDelays (s : State) : State :=
  s.onSol fun x => { x with saved := Vector.ofFn s.savedDelays, savedHash := s.rcp.head.digest, everSaved := true }

/-- DELAY_TABLE_SAVE: every 10 minutes the runtime saves the delay tables of all ports (R85). -/
def execDelayTableSave (s : State) : Out := .next s.saveDelays

/-- A delay table as SOL_DOPEN and SOL_DCLOSE show it. -/
def DelayTab.reg (t : DelayTab) : Word :=
  word (flagAt t.learned 31 + put t.count 24 7 + put (shown 83 t.mean).toNat 0 24)

/-- A spread in whole microseconds, saturating (SOL_DSPREAD). -/
def DelayTab.spreadReg (t : DelayTab) : Nat := satNat 65535 (shown 83 t.spread).toNat

/-- A write of SOL_DSEL latches the selected tables as one set (R98). -/
def State.writeDsel (s : State) (v : Word) : State × Status :=
  let b := bits v 0 4
  if 10 ≤ b then (s, .limit)
  else
    let p : PortId := Fin.ofNat 32 (bits v 8 5)
    let o := s.sol.ports[p].tabOpen[(Fin.ofNat 10 b)]
    let c := s.sol.ports[p].tabClose[(Fin.ofNat 10 b)]
    (s.onSol fun x => { x with selPort := p, selBand := b, dopen := o.reg, dclose := c.reg, dspread := word (put o.spreadReg 16 16 + put c.spreadReg 0 16) }, .ok)

/-- SOL_DSEL_WRITE (R98). -/
def execSolDselWrite (v : Word) (k : SessId) (s : State) : Out :=
  .next (s.gated k (s.gate k rightPARAM) fun s => s.writeDsel v)

/-- Every table of a port cleared, or one band's, and DELAY_CLEARED recorded with its cause (R85, R98). -/
def State.clearDelays (s : State) (p : PortId) (bands : Nat) (cause : Nat) : State :=
  let clr (t : Vector DelayTab 10) : Vector DelayTab 10 :=
    updAll t fun b x => if (bands / 2 ^ b.val) % 2 = 1 then {} else x
  let e := s.solEv 0x0608 p (s.evGroup p) cause bands
  (s.setSol p fun y => { y with tabOpen := clr y.tabOpen, tabClose := clr y.tabClose }).emit e

/-- A write of SOL_DCLR (R98). -/
def State.writeDclr (s : State) (v : Word) : State × Status :=
  let s := s.onSol fun x => { x with allBands := bit v 16 }
  if bit v 0 then
    (s.delayNews (s.clearDelays s.sol.selPort (if bit v 16 then 1023 else 2 ^ s.sol.selBand) 3) s.sol.selPort, .ok)
  else (s, .ok)

/-- SOL_DCLR: a SERVICE or OWNER session clears the selected tables (R85, R98). -/
def execSolDclr (v : Word) (k : SessId) (s : State) : Out :=
  .next (s.gated k (s.gateRws k rightSERVICE) fun s => s.writeDclr v)

end Sys2Proof.Machine
end

