-- ==== Sys2Proof/Machine/Recipe.lean ====
section
/-! DEFINITION. Applying a Recipe, banks that go passive and return, RCP_CMD, and the partial reload (R63, R289 to R297,
R441, R442). -/

namespace Sys2Proof.Machine

open Sys2Proof

/-! ### A bank goes passive and returns (R63, R296, R422, R441, R442) -/

/-- The profile or the head of a port of a bank ends, and its commands complete with NOT_READY. -/
def State.portDown (s : State) (p : PortId) : State :=
  let s := if isSolFunc (s.func p) then s.endProfile p .notReady else s
  s.setSol p fun x => { x with headOn := false, last := .off }

/-- In one fabric cycle all ports of a bank become passive: their commands complete with NOT_READY, edges and counts not
yet handed over are discarded, and the bank's sources count as lost. Readings hold their last values. -/
def State.bankDown (s : State) (b : BankId) : State :=
  let ps := bankPorts b
  let s := ps.foldl State.portDown s
  let s := s.setPorts ps fun x =>
    { x with status := .passive, awaitCarrier := false, forced := none, outOn := false, durEnd := none, regDuty := 0, duty := 0,
             stale := true, edges := [], timeOver := 0, retryWatch := false, srcLost := true }
  let s := s.onHie fun h => { h with orph := updAll h.orph fun p x => if ps.contains p then {} else x }
  s.setBank b fun x => { x with load := 0, excursion := false, tripped := false }

/-- A port leaves the passive state with no fault bits set (R290, R296, R442). -/
def State.portUp (s : State) (p : PortId) : State :=
  let f := s.func p
  let st : PortStatus := if f = 0 then .passive else if isDriveFunc f then .off else .input
  s.setPort p fun x =>
    { x with status := st, fault := 0, present := 0, retryCnt := 0, awaitCarrier := x.enabled, burdenOff := false, burdenBack := false }

/-- The ports of a bank that is not held leave the passive state, and the matrix acts on them again. -/
def State.bankUp (s : State) (b : BankId) : State :=
  if s.banks[b].held then s
  else
    let s := (bankPorts b).foldl State.portUp s
    ((bankPorts b).foldl State.settle s).interlock

/-! ### Loading register images (R282, R290) -/

/-- PER of a port as the Recipe sets it: from FCHOP on a solenoid port, never above it (R68). -/
def State.recipePer (s : State) (p : PortId) : Word :=
  let d := 1000 * s.fchop p
  if isSolFunc (s.func p) && d != 0 then word ((2 ^ 32 + d - 1) / d) else s.portCfg p 4

/-- PWM_PER and PWM_PH of a port take their Recipe values, or those of the lock group that carries the port (R51, R250). -/
def State.loadCarrier (s : State) (p : PortId) : State :=
  s.setPort p fun x => match s.gridOf p with
    | some (per, ph) => { x with per := word per, ph := word ph }
    | none => { x with per := s.recipePer p, ph := s.portCfg p 5 }

/-- Every register image is loaded, RS fields and the start values of RW fields alike (R290 step 1). -/
def State.loadImages (s : State) (h : RcpHead) (rs : List Rec) : State :=
  let s := s.onRcp fun x => { x with head := h, recs := rs }
  let s := (idx 32).foldl State.loadCarrier s
  let s := s.onSct fun c =>
    { c with orgLat := s.sctWord 6, orgLon := s.sctWord 7, ovl := s.sctWord 8, rates := Vector.ofFn fun k => s.sctWord (9 + k.val) }
  let s := s.onTmb fun t => { t with dly := s.rw secHIER 5 0 2 }
  s.onMon fun m => { m with pcfg := s.rw secMONITOR 3 0 0, pcfg2 := s.rw secMONITOR 4 0 0 }

/-- The first cause of R225 that applies. -/
def State.roleCause (s : State) : Option Nat :=
  if s.sys.addr = 63 then some 3
  else if s.sys.addr ≠ s.raddr then some 1
  else if s.isWorker = decide (s.sys.addr = 0) then some 2
  else none

/-! ### Applying a Recipe (R290) -/

/-- The models of a port start at the module housing temperature (R96). -/
def State.coilStart (s : State) (p : PortId) : State :=
  let t : Rat := (s.sys.housing : Rat) / 1000
  s.setSol p fun x => { x with tcu := t, th := t, hot := false, hitref := false }

/-- The saved delay tables of a port belong to it as the Recipe sets it. -/
def State.delaysFit (s : State) (p : PortId) : Bool :=
  let d := s.sol.saved[p]
  d.func == s.func p && d.template == s.template p && d.rref == s.rref p

/-- The saved delay tables of a port are restored, or cleared with their cause (R85). -/
def State.restoreDelays (s : State) (p : PortId) : State :=
  let d := s.sol.saved[p]
  if !s.sol.everSaved || !(isSolFunc d.func || isSolFunc (s.func p)) then s
  else if !s.delaysFit p then s.clearDelays p 1023 1
  else if s.sol.savedHash ≠ s.rcp.head.digest then s.clearDelays p 1023 2
  else s.setSol p fun x => { x with tabOpen := d.tabOpen, tabClose := d.tabClose }

/-- Drive port, tach port or REFF of a controller differ from what its saved ageing data belong to. -/
def State.ageFits (s : State) (f : FanId) : Bool :=
  let d := s.fan.saved[f]
  d.drv == (s.fanDrv f).val && d.tach == (s.fanTach f).val && d.reff == s.fanReff f

/-- The saved ageing data of a controller are restored or cleared (R116). -/
def State.restoreAge (s : State) (f : FanId) : State :=
  if !s.fan.everSaved || !s.fanUsed f then s
  else if s.ageFits f && s.fan.savedHash = s.rcp.head.digest then s.setFan f fun x => { x with age := s.fan.saved[f].age }
  else s.clearAge f

/-- Controllers with AUTOEN start as if ENABLE had been accepted (R103). -/
def State.fanAuto (s : State) (f : FanId) : State :=
  if s.fanUsed f && s.fanAutoen f then (s.fanEnable f).1 else s

/-- Steps 3 to 6 of R290: the mode, the models and what was saved, the CAN controllers, the ports, slots, fans and
sequencers. `above` lists the PRNs predicted above ELEV, for the GNSS start of R190. -/
def State.applyRecipe (s : State) (above : List Nat) : State :=
  let m := (Mode.ofCode s.rcp.head.dflt).getD .boil
  let s := s.onSys fun x => { x with request := m, current := m, pipeB := m == .sear }
  let s := (idx 32).foldl State.coilStart s
  let s := (idx 32).foldl State.restoreDelays s
  let s := (idx 8).foldl State.restoreAge s
  let s := { s with can := updAll s.can fun c x => if bit (s.canCfg c) 31 then { x with st := .integrating } else x }
  let s := s.onRcp fun x => { x with applied := true }
  let s := s.onMon fun x => { x with running := true }
  let s := s.onEng fun z => { z with slots := updAll z.slots fun n x => if s.slotUsed n then s.freshSlot n else x }
  let s := (idx 4).foldl State.bankUp s
  let s := (idx 8).foldl State.fanAuto s
  let s := if s.gnssOn then s.gnssStart above false else s
  s.seqFresh

/-- RECIPE_APPLIED and the other events that name a Recipe: RVER and the low 32 bits of D. -/
def State.versionEv (s : State) (code : Nat) (slot : RcpSlot) (rver : Nat) (digest : List Byte) : Ev :=
  s.rcpEv code slot rver (ofLe (digest.take 4))

/-! ### Selection (R289) -/

/-- What selection makes of a slot: its header and records, or its ERRC and section ID. -/
def State.tryRecipe (s : State) (x : RcpSlot) : State × Option (RcpHead × List Rec) :=
  let y := s.slotOf x
  if y.status = .empty then (s, none)
  else match s.verify y.bytes with
    | .ok r => (s, some r)
    | .error e =>
      let s := s.setSlotOf x fun y => { y with status := .invalid, errc := e.1, sect := e.2, digest := [] }
      let s := s.onRcp fun r => { r with errc := e.1, sect := e.2 }
      (s.emit (s.rcpEv 0x0202 x e.1 e.2), none)

/-- A slot that a reset left WRITING fails R288 and is marked INVALID; what stands in it is open, and so are its ERRC and
section (R291). -/
def State.cutWrite (s : State) (x : RcpSlot) : State :=
  if (s.slotOf x).status = .writing then
    let e := 1 + s.free % 10
    let s := s.draw
    let k := if [5, 6, 9, 10].contains e then 1 + s.free % 14 else 0
    let s := s.draw.setSlotOf x fun y => { y with status := .invalid, bytes := [], errc := e, sect := k }
    s.emit (s.rcpEv 0x0202 x e k)
  else s

/-- The slot with the greater RVER first, slot A if both are equal; then the other (R289). -/
def State.selectRecipe (s : State) : State × Option (RcpSlot × RcpHead × List Rec) :=
  let s := (s.cutWrite .a).cutWrite .b
  let rv (x : RcpSlot) : Nat := imgNum (s.slotOf x).bytes 12 4
  let first : RcpSlot := if rv .a < rv .b then .b else .a
  match s.tryRecipe first with
  | (s, some r) => (s, some (first, r))
  | (s, none) => match s.tryRecipe first.other with
    | (s, some r) => (s, some (first.other, r))
    | (s, none) => (s.emit (s.rcpEv 0x0203 .a (s.slotOf .a).errc (s.slotOf .b).errc), none)

/-- The slot in force and the image of its Recipe (R289, R290 step 1). -/
def State.chooseRecipe (s : State) (x : RcpSlot) (h : RcpHead) (rs : List Rec) : State :=
  let s := s.onRcp fun r => { r with inForce := x, chosen := true }
  let s := s.setSlotOf x fun y => { y with status := .inForce, errc := 0, sect := 0, rver := h.rver, rid := h.rid, digest := h.digest }
  s.loadImages h rs

/-! ### Commands (R291, R292, R294) -/

/-- What every RCP_CMD meets first: the RECIPE right and the SERVICE or OWNER role (R291, R292, R337), and, but for
RESTART, no supply warning (R436). -/
def State.rcpGate (s : State) (k : SessId) (warned : Bool) : Status :=
  match s.gateRws k rightRECIPE with
  | .ok => if warned && s.pwr.warning then .notReady else .ok
  | st => st

/-- An image of the staging area, inside the session's aperture and SRAM. -/
def State.staged (s : State) (k : SessId) : Option (List Byte) :=
  let a := s.rcp.waddr.toNat
  if isSram a && isSram (a + s.rcp.wlen - 1) then s.sessRead k a s.rcp.wlen else none

/-- WRITE: none while the slot is being programmed (R291). -/
def State.cmdRcpWrite (s : State) (x : RcpSlot) (k : SessId) : State × Option Status :=
  if s.rcp.op ≠ .none then (s, some .busy)
  else if s.rcp.chosen && x = s.rcp.inForce then (s, some .recipeLocked)
  else match s.staged k with
    | none => (s, some .badAddr)
    | some b => match s.verify b with
      | .error e => (s.onRcp fun r => { r with errc := e.1, sect := e.2 }, some (if e.1 = 7 ∨ e.1 = 8 then .denied else .limit))
      | .ok _ =>
        let s := s.setSlotOf x fun _ => { status := .writing }
        (s.onRcp fun r => { r with op := .write, target := x, image := b, waiter := some (s.me k) }, none)

/-- DISCARD: none while the slot is being erased (R292). -/
def State.cmdDiscard (s : State) (k : SessId) : State × Option Status :=
  if s.rcp.op ≠ .none then (s, some .busy)
  else (s.onRcp fun r => { r with op := .discard, target := r.inForce.other, waiter := some (s.me k) }, none)

/-- Rates and currents in force meet the ceilings of a mode (R32 check 3, R123): law-slot triggers, PWM and regulator
rates, and the peak and the chopping of every template assigned to a port. -/
def State.ceilingsOk (s : State) (m : Mode) : Bool :=
  s.loadOk m none
    && ((idx 128).all fun n => !s.slotUsed n || s.trig n != 0 || decide (modeMinTper m ≤ s.tper n))
    && (idx 32).all fun p =>
      if s.func p = 0x04 then decide (modeMinPer m ≤ s.ports[p].per.toNat)
      else if isSolFunc (s.func p) then
        decide (s.ihit p * 32 ≤ modePeak m) && decide (s.fchop p * 1000 ≤ modePwmHz m) && decide (modeMinPer m ≤ s.ports[p].per.toNat)
      else true

/-- The records of the unit Bb (R293) among the records of a Recipe. -/
def bankRec (rs : List Rec) (b : Nat) (r : Rec) : Bool :=
  let drv : Nat := bits (((findRec rs secFANS 1 r.idx).getD []).getD 0 0) 24 5
  let sink : Nat := bits (r.words.getD 0 0) 0 11
  match r.sec, r.typ with
  | 1, 3 => r.idx / 2 == b
  | 1, _ => r.idx / 8 == b
  | 2, 1 => decide (sink < 0x20) && sink / 8 == b
  | 2, 2 => r.idx / 8 == b
  | 4, 1 => r.idx / 8 == b
  | 6, _ => drv / 8 == b
  | _, _ => false

/-- The records of the unit Ss (R293, R367). -/
def seqRec (q : Nat) (r : Rec) : Bool :=
  r.sec == secSEQ && (match r.typ with
    | 1 => r.idx == q
    | 2 => r.idx / 256 == q
    | _ => r.idx / 512 == q)

/-- The record lies in a unit of the change map of a Recipe. -/
def inMap (h : RcpHead) (rs : List Rec) (r : Rec) : Bool :=
  ((List.range 4).any fun b => (h.mapBanks / 2 ^ b) % 2 == 1 && bankRec rs b r)
    || ((List.range 4).any fun q => (h.mapSeqs / 2 ^ q) % 2 == 1 && seqRec q r)
    || ((idx 128).any fun n => (h.mapSlots / 2 ^ n.val) % 2 == 1 && unitRec n r)

/-- Check 5 of R294. -/
def onlyMapped (old new : List Byte) (h : RcpHead) (ro rn : List Rec) : Bool :=
  let a := ro.filter fun r => !inMap h ro r
  let b := rn.filter fun r => !inMap h rn r
  ((List.range 14).all fun i =>
    let x := dirEnt old (i + 1)
    let y := dirEnt new (i + 1)
    (x.hot && y.hot) || (x.present == y.present && x.hash == y.hash))
    && (a.all fun r => b.contains r) && b.all fun r => a.contains r

/-- The machine as the new Recipe would set it, for the ceilings of check 7 of R294. -/
def State.asReloaded (s : State) (h : RcpHead) (rs : List Rec) : State :=
  let s := s.onRcp fun x => { x with recs := rs }
  let s := ((idx 32).filter fun p => (h.mapBanks / 2 ^ (p.val / 8)) % 2 == 1).foldl State.loadCarrier s
  s.onEng fun z => { z with slots := updAll z.slots fun n x => if (h.mapSlots / 2 ^ n.val) % 2 = 1 then s.freshSlot n else x }

/-- RELOAD (R294): on success it waits for the marked sequencers. -/
def State.cmdReload (s : State) : State × Status :=
  let x := s.rcp.inForce.other
  let new := (s.slotOf x).bytes
  if s.rcp.op ≠ .none || s.sys.switching then (s, .busy)
  else if !s.rcp.applied || (s.slotOf x).status ≠ .valid then (s, .notReady)
  else match s.verify new with
    | .error e => (s.onRcp fun r => { r with errc := e.1, sect := e.2 }, .notReady)
    | .ok (h, rs) =>
      if h.parent ≠ s.rcp.head.digest || decide (h.rver ≤ s.rcp.head.rver) then (s, .limit)
      else if !onlyMapped (s.slotOf s.rcp.inForce).bytes new h s.rcp.recs rs then (s, .limit)
      else if s.gnssOn && decide (h.mapSlots / 2 ^ 64 ≠ 0) then (s, .limit)
      else if !(s.asReloaded h rs).ceilingsOk s.sys.current then (s, .limit)
      else
        let s := s.onRcp fun r =>
          { r with op := .reload, phase := .wait, newHead := h, newRecs := rs, rldBanks := h.mapBanks, rldSeqs := h.mapSeqs,
                   rldSlots := (List.range 128).filter fun n => (h.mapSlots / 2 ^ n) % 2 = 1 }
        let s := s.onSeq fun z => { z with seqs := updAll z.seqs fun q y => { y with mark := (h.mapSeqs / 2 ^ q.val) % 2 = 1 } }
        (s.emit (s.rcpEv 0x0205 x h.rver (h.mapBanks + h.mapSeqs * 256)), .ok)

/-- A command of RCP_CMD that passes its gate goes on, and is answered when it completes. -/
def State.rcpGated (s : State) (k : SessId) (warned : Bool) (go : State → State × Option Status) : State :=
  match s.rcpGate k warned with
  | .ok => match go s with
    | (s, some st) => s.answer (s.me k) st
    | (s, none) => s
  | st => s.answer (s.me k) st

/-- WRITE: a staged image is verified and programming of the target slot begins (R291). -/
def execWrite (x : RcpSlot) (k : SessId) (s : State) : Out := .next (s.rcpGated k true fun s => s.cmdRcpWrite x k)

/-- DISCARD (R292). -/
def execDiscard (k : SessId) (s : State) : Out := .next (s.rcpGated k true fun s => s.cmdDiscard k)

/-- RELOAD (R294). -/
def execReload (k : SessId) (s : State) : Out := .next (s.rcpGated k true fun s => atOnce s.cmdReload)

/-- The operation in progress ends, and the session that waits for it is answered. -/
def State.rcpDone (s : State) (st : Status) : State :=
  let w := s.rcp.waiter
  let s := s.onRcp fun r => { r with op := .none, image := [], waiter := none }
  match w with
  | some src => s.answer src st
  | none => s

/-- RECIPE_WRITTEN: programming and verification from flash end (R291). `bad` is the ERRC and section ID of a verification
that fails. -/
def execRecipeWritten (bad : Option (Nat × Nat)) (s : State) : Out :=
  .next (
    let x := s.rcp.target
    let h := parseHead s.rcp.image
    if s.rcp.op ≠ .write then s
    else match bad with
      | none =>
        let s := s.setSlotOf x fun _ => { bytes := s.rcp.image, status := .valid, rver := h.rver, rid := h.rid, digest := h.digest }
        (s.rcpDone .ok).emit (s.versionEv 0x0204 x h.rver h.digest)
      | some e =>
        let s := s.setSlotOf x fun _ => { bytes := s.rcp.image, status := .invalid, errc := e.1, sect := e.2, rver := h.rver, rid := h.rid }
        (s.onRcp fun r => { r with errc := e.1, sect := e.2 }).rcpDone .faulted)

/-- SLOT_ERASED: the slot that is not in force reads EMPTY and the DISCARD completes (R292). -/
def execSlotErased (s : State) : Out :=
  .next (if s.rcp.op ≠ .discard then s else (s.setSlotOf s.rcp.target fun _ => {}).rcpDone .ok)

/-! ### The partial reload (R295 to R297) -/

/-- A marked sequencer is at Step idle and held; one that the Recipe does not use is at rest already. -/
def State.seqsHeld (s : State) : Bool :=
  (idx 4).all fun q => !s.seq.seqs[q].mark || s.seq.seqs[q].st == .held || !s.seqUsed q

/-- The coil parameters of a port (R96). -/
def State.coilParams (s : State) (p : PortId) : Nat × Nat × Word :=
  (s.rref p, bits (s.portCfg p 7) 8 16, s.portCfg p 8)

/-- Models and delay tables of a port of a reloaded bank are kept or cleared; `old` is the machine before the load (R85,
R96). -/
def State.keepPort (old s : State) (p : PortId) : State :=
  let same := old.func p == s.func p && old.template p == s.template p && old.rref p == s.rref p
  let s := if old.coilParams p = s.coilParams p then s else s.coilStart p
  let s := if same || !isSolFunc (old.func p) then s else s.clearDelays p 1023 1
  old.delayNews s p

/-- A controller of a reloaded bank restarts as at Recipe application; its ageing data are kept or cleared (R103, R116,
R296). -/
def State.restartFan (old s : State) (f : FanId) : State :=
  let same := old.fanDrv f == s.fanDrv f && old.fanTach f == s.fanTach f && old.fanReff f == s.fanReff f
  let s := s.setFan f fun x => { age := x.age }
  let s := if same || !(old.fanUsed f || s.fanUsed f) then s else s.clearAge f
  s.fanAuto f

/-- PORT_FAULT_CLEARED with the reload as its cause: PRTn_FAULT[15] = 1 in its payload (R61, R62). -/
def State.reloadClearEv (s : State) (p : PortId) (before : PortStatus) : Ev :=
  { code := 0x050B, payload := s.portPayload p p.val before 0x8000 (s.eventValue p) }

/-- One bank of the map is reloaded (R296): passive, its records loaded, its faults cleared, its ports OFF. How long it is
passive is a free value of at most 2 ms. -/
def State.reloadBank (s : State) (b : BankId) : State :=
  let old := s
  let faulty := (bankPorts b).filter fun p => s.ports[p].fault != 0 || s.faulted p
  let fans := (idx 8).filter fun f => bankOf (s.fanDrv f) = b && s.fanUsed f
  let sects := s.nsectIds.filter fun i => s.sctHere i && bankOf (s.sctPort i) = b && s.sct.sects[i].mode != .off
  let s := (s.bankDown b).sectsOff sects 2
  let recs := s.rcp.recs.filter (fun r => !bankRec s.rcp.recs b.val r) ++ s.rcp.newRecs.filter fun r => bankRec s.rcp.newRecs b.val r
  let s := s.onRcp fun x => { x with recs := recs, rldBanks := x.rldBanks - 2 ^ b.val }
  let s := (bankPorts b).foldl State.loadCarrier s
  let s := (bankPorts b).foldl (fun s p => old.keepPort s p) s
  let s := s.setPorts (bankPorts b) fun x => { x with enabled := false, ownerVal := 0, kick := none, fault := 0, retryCnt := 0 }
  let s := s.emitAll (faulty.map fun p => s.reloadClearEv p old.ports[p].status)
  let s := s.bankUp b
  let us := s.free % 2001
  let s := ((idx 8).filter fun f => fans.contains f || (bankOf (s.fanDrv f) = b && s.fanUsed f)).foldl (fun s f => old.restartFan s f) s.draw
  s.emit (s.rcpEv 0x0206 s.rcp.inForce.other b.val us)

/-- The slots of the map that are in OFF or FAULT take their records at once (R295 step 5). -/
def State.reloadIdleSlots (s : State) : State :=
  (idx 128).foldl (fun (s : State) n =>
    if s.unitDue n && (s.eng.slots[n].mode == .off || s.eng.slots[n].mode == .fault) then (s.takeUnit n).1 else s) s

/-- RELOAD_COMMIT: all marked sequencers are held; the banks of the map are reloaded in ascending order, and each slot then
takes its records at its next trigger or at once (R295). -/
def execReloadCommit (s : State) : Out :=
  .next (
    if s.rcp.phase ≠ .wait || !s.seqsHeld then s
    else
      let s := s.onRcp fun x => { x with phase := .apply, commitAt := s.tick }
      let bs := (idx 4).filter fun b => (s.rcp.rldBanks / 2 ^ b.val) % 2 == 1
      (bs.foldl State.reloadBank s).reloadIdleSlots)

/-- A held sequencer takes its records and is released (R295 step 6, R365). -/
def State.reloadSeq (s : State) (q : SeqId) : State :=
  let recs := s.rcp.recs.filter (fun r => !seqRec q.val r) ++ s.rcp.newRecs.filter (seqRec q.val)
  let s := (s.onRcp fun x => { x with recs := recs, rldSeqs := x.rldSeqs - 2 ^ q.val }).seqRelease q
  s.emit (s.rcpEv 0x0207 s.rcp.inForce.other 2 q.val)

/-- RELOAD_DONE: after the last bank and slot the held sequencers take their records and are released, and the other slot
is in force (R295 steps 6 and 7). -/
def execReloadDone (s : State) : Out :=
  .next (
    if s.rcp.phase ≠ .apply || s.rcp.rldBanks ≠ 0 || !s.rcp.rldSlots.isEmpty then s
    else
      let s := ((idx 4).filter fun q => (s.rcp.rldSeqs / 2 ^ q.val) % 2 == 1).foldl State.reloadSeq s
      let x := s.rcp.inForce.other
      let s := (s.setSlotOf s.rcp.inForce fun y => { y with status := .valid }).setSlotOf x fun y => { y with status := .inForce }
      let s := s.onRcp fun r =>
        { r with inForce := x, head := r.newHead, recs := r.newRecs, newHead := {}, newRecs := [], op := .none, phase := .idle }
      s.emit (s.rcpEv 0x0208 x s.rcp.head.rver (ticksUs (s.tick - s.rcp.commitAt))))

/-- RELOAD_ABORTED: WAITLIM passes before all sequencers are held; the holds end and nothing has changed (R295). -/
def execReloadAborted (s : State) : Out :=
  .next (
    if s.rcp.phase ≠ .wait then s
    else
      let late := ((idx 4).filter fun q => s.seq.seqs[q].mark && s.seq.seqs[q].st != .held).foldl (fun a q => a + 2 ^ q.val) 0
      let e := s.rcpEv 0x0209 s.rcp.inForce.other late s.rcp.waitlim
      let s := (idx 4).foldl (fun (s : State) q =>
        let y := s.seq.seqs[q]
        if y.mark then
          let s := s.setSeq q fun x => { x with mark := false }
          if y.st = .held then s.seqState q y.before else s
        else s) s
      let s := s.onRcp fun r => { r with op := .none, phase := .idle, newHead := {}, newRecs := [], rldBanks := 0, rldSlots := [], rldSeqs := 0 }
      s.emit e)

end Sys2Proof.Machine
end

