-- ==== Sys2Proof/Machine/Recorder.lean ====
section
/-! DEFINITION. The meanings of the event recorder's commands (chapter Event Recorder). -/

namespace Sys2Proof.Machine

open Sys2Proof

/-! ### Records (R370 to R378) -/

/-- A field of `n` bytes at offset `i` of a record. -/
def RecSlot.num (r : RecSlot) (i n : Nat) : Nat := ofLe ((r.bytes.drop i).take n)
/-- SEQ of a record. -/
def RecSlot.seq (r : RecSlot) : Nat := r.num 0 4

/-- The positions of the Reel (R370). -/
def reelSize : Nat := 61440
/-- The slots of the Keep (R370). -/
def keepSize : Nat := 4096

/-- h, the SEQ of the head: the one before the next (R370). -/
def RecState.headSeq (x : RecState) : Nat := (x.nextSeq + 2 ^ 32 - 1) % 2 ^ 32

/-- WALL: 16 bits of fraction below the seconds of T (R372, R377). -/
def State.wall (s : State) : Nat := s.now / 2 ^ 16

/-- FLAGS of a record (R373). -/
def State.recFlags (s : State) (e : Q8Entry) (kept : Bool) : Nat :=
  put e.sev 0 3 + flagAt e.k 3 + put s.tmb.qual.code 5 3 + flagAt kept 8 + flagAt e.suppSat 9

/-- Bytes 0 to 51 of the record of an entry taken now (R372, R374). -/
def State.recBody (s : State) (e : Q8Entry) (kept : Bool) : List Byte :=
  le 4 s.log.nextSeq ++ le 2 e.code ++ le 2 (s.recFlags e kept) ++ le 4 s.log.ops ++ le 4 s.log.cycle ++ le 8 s.wall
    ++ le 2 e.src ++ le 2 e.supp ++ fit 24 e.payload

/-- CHAIN of the record before; zeros for SEQ 0 (R378). -/
def RecState.chainBefore (x : RecState) : List Byte := if x.nextSeq = 0 then zeros 8 else x.chain.take 8

/-- H of a record: SHA-256 over CHAIN of the record before and its bytes 0 to 51 (R378). -/
def chainOf (before body : List Byte) : List Byte := Config.sha256 (before ++ body)

/-- The 64 bytes of a record: body, CHAIN and CRC (R372, R378). -/
def recBytes (body h : List Byte) : List Byte :=
  let b := body ++ fit 8 h
  b ++ le 4 (crc32c b)

/-- A record with K is kept while the Keep has room (R371). -/
def State.keeps (s : State) (e : Q8Entry) : Bool := e.k && decide (s.log.keep.length < keepSize)

/-- A committed record enters the Reel, and the Keep where it is kept; the head moves (R370, R371, R382). -/
def State.putRecord (s : State) (bytes h : List Byte) (kept : Bool) : State :=
  s.onLog fun x =>
    let r : RecSlot := { pos := x.nextPos, bytes := bytes }
    { x with reel := (r :: x.reel).take reelSize,
             keep := if kept then x.keep ++ [{ r with pos := x.keep.length }] else x.keep,
             nextSeq := (x.nextSeq + 1) % 2 ^ 32, nextPos := (x.nextPos + 1) % reelSize, any := true, chain := h }

/-- An entry is stamped, chained and committed as a record (R382). -/
def State.record (s : State) (e : Q8Entry) : State :=
  let kept := s.keeps e
  let seq := s.log.nextSeq
  let body := s.recBody e kept
  let h := chainOf s.log.chainBefore body
  let s := (s.putRecord (recBytes body h) h kept).count 0x07 1
  if e.k && !kept && !s.log.keepFull then
    (s.onLog fun x => { x with keepFull := true }).emit { code := 0x0E04, payload := le 4 seq ++ zeros 20 }
  else s

/-- The head entry of Q8 leaves it and becomes a record (R382). -/
def State.commit (s : State) (e : Q8Entry) : State := (s.onLog fun x => { x with q8 := x.q8.drop 1 }).record e

/-- RECORD_COMMIT: the recorder takes the head of Q8, stamps and chains it, and commits it (R382). -/
def execRecordCommit (s : State) : Out :=
  .next (match s.log.q8 with
    | e :: _ => if s.log.ready then s.commit e else s
    | [] => s)

/-! ### Lost events (R381) -/

/-- The lowest bucket that holds a lost count. -/
def State.lostBucket (s : State) : Option (Nat × Bucket) :=
  (s.log.buckets.filter fun b => b.2.lost != 0).foldl (fun (a : Option (Nat × Bucket)) (b : Nat × Bucket) => match a with
    | some x => if b.1 < x.1 then some b else a
    | none => some b) none

/-- LOST_EVENTS: while FILL is 48 or less one LOST_EVENTS is queued for the lowest bucket that holds a lost count, and its
lost data is cleared (R381). -/
def execLostEvents (s : State) : Out :=
  .next (
    if 48 < s.log.q8.length then s
    else match s.lostBucket with
      | none => s
      | some (n, b) =>
        let ev : Ev := { code := 0x0E01, payload := le 2 b.lostCode ++ le 2 n ++ le 4 b.lost ++ stampOf b.lostFirst ++ stampOf b.lostLast }
        (s.setBucket n { b with lost := 0, lostCode := 0, lostFirst := 0, lostLast := 0, lostK := false }).pushQ8 (s.entryOf ev (b.lostK || s.codeK 0x0E01) 0))

/-! ### Start (R376, R384) -/

/-- OPS_S of the head. -/
def RecState.headOps (x : RecState) : Nat := match x.reel with | r :: _ => r.num 8 4 | [] => 0

/-- The Keep copy of the head is missing (R384). -/
def RecState.keepShort (x : RecState) : Bool :=
  match x.reel with
  | r :: _ => r.num 6 2 / 256 % 2 == 1 && (match x.keep.getLast? with | some k => decide (k.seq < r.seq) | none => true)
  | [] => false

/-- CHAIN of a record (R372). -/
def RecSlot.chain (r : RecSlot) : List Byte := (r.bytes.drop 52).take 8

/-- Records, newest first, each with CHAIN of the record before it; SEQ 0 has zeros (R378). -/
def chainSteps : List RecSlot → List (List Byte × RecSlot)
  | [] => []
  | [r] => if r.seq = 0 then [(zeros 8, r)] else []
  | r :: p :: rs => (p.chain, r) :: chainSteps (p :: rs)

/-- SEQ of the first record whose CHAIN fails, over the last 256 records (R384). -/
def RecState.chainBreak (x : RecState) : Option Nat :=
  (((chainSteps (x.reel.take 257)).take 256).reverse.find? fun p => p.2.chain != fit 8 (chainOf p.1 (p.2.bytes.take 52))).map fun p => p.2.seq

/-- The recorder recovers its head, Keep and chain; OPS_S resumes, and RECORDER_START and a CHAIN_BREAK are recorded ahead of
what Q8 holds (R376, R384). `torn` = the slot after the head fails its CRC. -/
def State.recover (s : State) (torn : Bool) : State :=
  let flash := decide (s.log.headOps < s.log.opsSaved)
  let ops := max s.log.opsSaved s.log.headOps
  let short := s.log.keepShort
  let broken := s.log.chainBreak
  let checked := min 256 s.log.reel.length
  let s := s.onLog fun x =>
    { x with ops := ops, opsTicks := 0, ready := true,
             keep := match (if short then x.reel.head? else none) with
               | some r => if x.keep.length < keepSize then x.keep ++ [{ r with pos := x.keep.length }] else x.keep
               | none => x.keep }
  let start : Ev := { code := 0x0E03, payload := le 4 ops ++ le 4 (flagAt torn 0 + flagAt short 1 + flagAt flash 2) ++ zeros 16 }
  let es := s.entryOf start (s.codeK 0x0E03) 0 :: (match broken with
    | some q => [s.entryOf { code := 0x0E05, payload := le 4 q ++ le 4 checked ++ zeros 16 } true 0]
    | none => [])
  es.foldl State.record s

/-- RECORDER_START: at each start the recorder recovers once (R384). -/
def execRecorderStart (torn : Bool) (s : State) : Out := .next (if s.log.ready then s else s.recover torn)

/-- The recorder empties Q8, at most `n` entries (R445). -/
def State.flushQ8 : Nat → State → State
  | 0, s => s
  | n + 1, s => match s.log.q8 with
    | e :: _ => State.flushQ8 n (s.commit e)
    | [] => s

/-- OPS_S_SAVE: OPS_S is saved to D1 flash (R376). -/
def State.saveOps (s : State) : State := s.onLog fun x => { x with opsSaved := x.ops }

/-- OPS_S_SAVE (R376). -/
def execOpsSSave (s : State) : Out := .next s.saveOps

/-! ### Reading (R387 to R389) -/

/-- A record of the Reel by its SEQ (R370). -/
def RecState.inReel (x : RecState) (q : Nat) : Option RecSlot :=
  if x.any ∧ (x.headSeq + 2 ^ 32 - q) % 2 ^ 32 < reelSize then x.reel.find? fun r => r.seq == q else none

/-- The record that the window shows, or the status of a word of it (R387, R388). -/
def RecState.window (x : RecState) : Except Status RecSlot :=
  if x.area then
    match x.keep[x.kidx]? with
    | some r => .ok r
    | none => .error .notReady
  else
    let q := x.cur.toNat
    let ahead := (q + 2 ^ 32 - x.headSeq) % 2 ^ 32
    if 1 ≤ ahead ∧ ahead ≤ 2 ^ 31 then .error .notReady
    else match x.inReel q with
      | some r => .ok r
      | none => match x.keep.find? fun r => r.seq == q with
        | some r => .ok r
        | none => .error .gone

/-- A read of REC_WINk (R388). -/
def State.readWin (s : State) (w : Fin 16) : Except Status Word :=
  match s.log.window with
  | .ok r => .ok (word (r.num (4 * w.val) 4))
  | .error st => .error st

/-- The cursor advances by one (R389). -/
def RecState.advance (x : RecState) : RecState :=
  if !x.auto then x else if x.area then { x with kidx := (x.kidx + 1) % keepSize } else { x with cur := x.cur + 1 }

/-- A read of REC_WINSEQ: word 0 again, and with AUTO the cursor advances (R389). -/
def State.readWinseq (s : State) : State × Except Status Word :=
  match s.readWin 0 with
  | .ok w => (s.onLog RecState.advance, .ok w)
  | .error st => (s, .error st)

/-- A read whose word fails, or returns a word. -/
def State.readResult (s : State) : Except Status Word → State × Status
  | .ok w => (State.returns (s, w), .ok)
  | .error st => (s, st)

/-- REC_WINDOW_READ (R388). -/
def execRecWindowRead (w : Fin 16) (k : SessId) (s : State) : Out :=
  .next (s.gated k (s.gate k rightRECORD) fun s => s.readResult (s.readWin w))

/-- REC_WINSEQ_READ (R389). -/
def execRecWinseqRead (k : SessId) (s : State) : Out :=
  .next (s.gated k (s.gate k rightRECORD) fun s => let r := s.readWinseq; r.1.readResult r.2)

/-- SEQ of the oldest record in the Reel (REC_OLDEST). -/
def RecState.oldest (x : RecState) : Nat := match x.reel.getLast? with | some r => r.seq | none => 0

end Sys2Proof.Machine
end

