-- ==== Sys2Proof/Machine/Start.lean ====
section
/-! DEFINITION. Resets, what they leave standing, and the start to PILOT (R305, R402, R432 to R434, R447). -/

namespace Sys2Proof.Machine

open Sys2Proof

/-! ### What outlives a reset -/

/-- The security core's fused and flash items, with the latches of D0 (R304, R305, R313, R317 to R322). -/
def SecState.kept (x : SecState) : SecState :=
  { slots := x.slots, floor := x.floor, root := x.root, epoch := x.epoch, oldEpoch := x.oldEpoch, rotation := x.rotation,
    rotOps := x.rotOps, hctr := x.hfloor, hfloor := x.hfloor, windows := x.windows, tamper := x.tamper, aonLost := x.aonLost,
    tcount := x.tcount, rerooted := x.rerooted, tampPend := x.tampPend, images := x.images, rbFloor := x.rbFloor,
    unlocks := x.unlocks, opens := x.opens }

/-- The Reel, the Keep, the chain head, and what D1 flash holds of OPS_S and CYCLE (R370, R371, R376, R378). -/
def RecState.kept (x : RecState) : RecState :=
  { reel := x.reel, keep := x.keep, nextSeq := x.nextSeq, nextPos := x.nextPos, any := x.any, chain := x.chain, keepFull := x.keepFull,
    opsSaved := x.opsSaved, cycle := x.cycle }

/-- A Recipe slot of module flash: one that was in force is VALID; one left WRITING is judged at the next start (R289,
R291). -/
def SlotState.kept (x : SlotState) : SlotState := if x.status = .inForce then { x with status := .valid } else x

/-- What D0 and D1 flash hold of the power block (R432, R443, R484). -/
def PwrState.kept (x : PwrState) : PwrState :=
  { cfg := x.cfgSaved, cfgSaved := x.cfgSaved, alarm := x.alarm, kind := x.kind, prev := x.prev, wsrc := x.wsrc, detail := x.detail,
    latched := x.latched, d0Lost := x.d0Lost, brown := x.brown, lock := x.lock, wdog := x.wdog, dom := x.dom, comparator := x.comparator }

/-- Calibration: the factory page, and the user values as stored (R401, R404). -/
def CalState.kept (x : CalState) : CalState :=
  { chans := updAll x.chans fun i y => updAll y fun c z =>
      { z with u := ((x.stored.find? fun e => e.1 == i.val && e.2.1 == c.val).map fun e => e.2.2).getD 0 },
    stored := x.stored, fver := x.fver }

/-- The machine with D1 to D11 off: what MRAM, flash, fuses and D0 keep, and everything else as at reset (R433, R447). What
the machine has sent, the statuses it has given, and the comparator of THERM_TRIP_N (R117) are no state of D1 to D11. -/
def State.powerOff (s : State) : State :=
  { pending := s.pending, sys := { draws := s.sys.draws, answers := s.sys.answers }, sol := { saved := s.sol.saved, savedHash := s.sol.savedHash, everSaved := s.sol.everSaved },
    log := s.log.kept, rcp := { slots := s.rcp.slots.map SlotState.kept }, sec := s.sec.kept, pwr := s.pwr.kept,
    tmb := { rtcValid := s.tmb.rtcValid, rtc := s.tmb.rtc, model := s.tmb.savedModel, savedModel := s.tmb.savedModel },
    gns := { eph := s.gns.savedEph, alm := s.gns.savedAlm, pos := s.gns.savedPos, savedEph := s.gns.savedEph, savedAlm := s.gns.savedAlm, savedPos := s.gns.savedPos },
    hie := { sent := s.hie.sent }, cal := s.cal.kept,
    fan := { saved := s.fan.saved, savedHash := s.fan.savedHash, everSaved := s.fan.everSaved, trip := s.fan.trip, sfault := s.fan.sfault, tt := s.fan.tt, sensor := s.fan.sensor },
    hl := { regs := s.hl.saved, saved := s.hl.saved, act := s.hl.saved, nextRef := s.hl.nextRef, sent := s.hl.sent } }

/-! ### Resets (R432) -/

/-- SYS_RCNT counts the kinds it names (SYS_RCNT). -/
def PwrState.tally (x : PwrState) : ResetKind → PwrState
  | .brownout => { x with brown := satNat 255 (x.brown + 1) }
  | .lockstep => { x with lock := satNat 255 (x.lock + 1) }
  | .watchdog => { x with wdog := satNat 255 (x.wdog + 1) }
  | .domain | .pllLoss => { x with dom := satNat 255 (x.dom + 1) }
  | .powerOn | .wake | .commanded => x

/-- A reset of the whole LX32: D0 latches its kind, the ports are passive and PILOT is low (R432, R433). -/
def State.chipReset (s : State) (kind : ResetKind) (detail : Nat) : State :=
  s.powerOff.onPwr fun x => { x.tally kind with latched := some (kind, 0, detail) }

/-- THERM_TRIP_N is released: the comparator is not active (R117, R118). -/
def State.tripOff (s : State) : State :=
  (s.onPwr fun x => { x with comparator := false }).onFan fun x => { x with trip := false, sfault := false }

/-- PLL_LOSS (R411, R432). -/
def execPllLoss (s : State) : Out := .next (if s.pwr.phase = .run then s.chipReset .pllLoss 0 else s)

/-- LOCKSTEP_MISMATCH of a core pair (R14, R432). -/
def execLockstepMismatch (pair : Nat) (s : State) : Out :=
  .next (if s.pwr.phase = .run then s.chipReset .lockstep (pair % 16) else s)

/-- WATCHDOG of a core pair (R432). -/
def execWatchdog (pair : Nat) (s : State) : Out := .next (if s.pwr.phase = .run then s.chipReset .watchdog (pair % 16) else s)

/-- BROWNOUT: VLOGIC falls below 6.0 V: the LX32 resets (R427, R432). In SLEEP the CAN0 wake detector stops (R443). -/
def execBrownout (s : State) : Out :=
  .next (match s.pwr.phase with
    | .run => (s.chipReset .brownout 0).tripOff
    | .sleep => s.onPwr fun x => { x with detectorOff := true }
    | .off => s.tripOff
    | .standby => s)

/-- RECIPE_RESTART: RCP_CMD RESTART completes with OK and then resets the LX32 (R292). -/
def State.cmdRestart (s : State) (k : SessId) : State :=
  match s.rcpGate k false with
  | .ok => (s.answer (s.me k) .ok).chipReset .commanded 0
  | st => s.answer (s.me k) st

/-- RECIPE_RESTART (R292). -/
def execRecipeRestart (k : SessId) (s : State) : Out := .next (s.cmdRestart k)

/-- D0_SUPPLY_LOST: D0 loses its state: the RTC, the reset-kind latch, SYS_RCNT, the tamper latch and count, the alarm and the
low-power state; the mesh is no longer supervised (R321, R484). -/
def execD0SupplyLost (s : State) : Out :=
  .next (
    let s := s.onTmb fun t => { t with rtcValid := false, rtc := 0 }
    let s := s.onSec fun x => { x with tamper := false, tcount := 0, tampPend := none, rerooted := false }
    s.onPwr fun x =>
      { x with phase := if x.phase = .run then .run else .off, latched := none, d0Lost := true, wakePend := none, detectorOff := false,
               alarm := 0, kind := 0, prev := 0, wsrc := 0, detail := 0, brown := 0, lock := 0, wdog := 0, dom := 0 })

/-! ### The start (R434) -/

/-- A power event (R448). -/
def State.pwrEv (s : State) (code b0 b1 b2 b3 a b : Nat) : Ev :=
  { code := code, payload := le 1 b0 ++ le 1 b1 ++ le 1 b2 ++ le 1 b3 ++ le 4 a ++ le 4 b ++ s.stamp ++ zeros 4 }

/-- Row 1: the reset kind, its wake source and detail are shown, CYCLE counts, and the straps are read (R376, R432, R225). -/
def State.startKindRow (s : State) (addr : Nat) (housing : Int) : State :=
  let l := match s.pwr.wakePend, s.pwr.latched with
    | some w, _ => (ResetKind.wake, w, 0)
    | none, some l => l
    | none, none => (ResetKind.brownout, 0, 0)
  let fresh := s.pwr.d0Lost
  let l := if fresh then (ResetKind.powerOn, 0, 0) else l
  let s := s.onPwr fun x =>
    { x with phase := .run, prev := if fresh then 0 else x.kind, kind := l.1.code, wsrc := l.2.1, detail := l.2.2, latched := none,
             wakePend := none, detectorOff := false, d0Lost := false, comparator := true, stoppedAt := 0 }
  let s := s.onLog fun x => { x with cycle := satNat 0xFFFFFF (x.cycle + 1) }
  let s := s.onSec fun x => { x with aonLost := x.aonLost || fresh, hctr := x.hfloor, hfloor := x.hfloor + 2 ^ 24 }
  s.onSys fun x => { x with addr := addr % 64, housing := housing }

/-- RESET_CAUSE, with the seconds in reset or low power (R433, R448). -/
def State.resetCause (s : State) (down : Nat) : State :=
  s.emit (s.pwrEv 0x0101 s.pwr.kind s.pwr.prev s.pwr.wsrc s.pwr.detail (if s.tmb.rtcValid then down else 0) s.log.cycle)

/-- A runtime image verifies and is not below the rollback floor (R305). -/
def State.imageGood (s : State) (i : Fin 2) : Bool := s.sec.images[i].ok && decide (s.sec.rbFloor ≤ s.sec.images[i].version)

/-- The image a start runs: the newer one if it is good, otherwise the other (R305). -/
def State.pickImage (s : State) : Option (Fin 2) :=
  let first : Fin 2 := if s.sec.images[(0 : Fin 2)].version < s.sec.images[(1 : Fin 2)].version then 1 else 0
  if s.imageGood first then some first else if s.imageGood (1 - first) then some (1 - first) else none

/-- Rows 3 and 4: a detection latched while the security core was off has its effects (R321); the newer runtime image that
verifies is started, and otherwise the other (R305). -/
def State.startCores (s : State) : State :=
  let s := match s.sec.tampPend with
    | some c => s.tamperActs c
    | none => s
  match s.pickImage with
  | some i => (s.onSec fun x => { x with running := i, rtAt := s.tick }).onPwr fun x => { x with runtime := true }
  | none => s

/-- A start stops at a row of R434. -/
def State.stopAt (s : State) (row : Nat) : State := s.onPwr fun x => { x with stoppedAt := row }

/-- Rows 6 to 8: the Recipe is selected and applied, and PILOT toggles (R225, R289, R290, R248). -/
def State.startRecipe (s : State) (above : List Nat) : State :=
  match s.selectRecipe with
  | (s, none) => s.stopAt 6
  | (s, some (x, h, rs)) =>
    let s := s.chooseRecipe x h rs
    match s.roleCause with
    | some c => (s.hieEmit 0x0A07 0 c s.sys.addr s.raddr).stopAt 7
    | none =>
      let s := s.applyRecipe above
      (s.emit (s.versionEv 0x0201 x h.rver h.digest)).onPwr fun y => { y with pilot := true }

/-- START: the start-up of R434, from row 1 to PILOT. `rom` says that the security ROM's row passes, `page` which check of the
factory page fails (0 = none), `down` gives the seconds in reset by the RTC, `above` the PRNs predicted above ELEV. -/
def execStart (addr : Nat) (rom : Bool) (page : Nat) (housing : Int) (down : Nat) (above : List Nat) (s : State) : Out :=
  .next (
    if s.pwr.phase = .run || (s.lowPower && s.pwr.wakePend.isNone) then s
    else
      let s := (s.startKindRow addr housing).resetCause down
      if !rom then s.stopAt 3
      else
        let s := s.startCores
        if !s.pwr.runtime then s.stopAt 4
        else
          let s := if s.pwr.kind = ResetKind.wake.code && s.pwr.wsrc = 3 then s.canEmit 0 0x0B0C 0 0 else s
          if page ≠ 0 then
            (s.emit { code := 0x0F04, origin := .runtime, payload := s.monPayload 0xFF 0xFF 0xFF page s.cal.fver }).stopAt 5
          else (s.onCal fun x => { x with factOk := true }).startRecipe above)

end Sys2Proof.Machine
end

