-- ==== Sys2Proof/Machine/Power.lean ====
section
/-! DEFINITION. The supply warning and what it defers, bank supplies, low-power states and wake sources (R424, R429, R431,
R436 to R446), and the clock supervision and crossing counters (R411, R415, R418). -/

namespace Sys2Proof.Machine

open Sys2Proof

/-! ### The supply warning (R427, R429, R436 to R439) -/

/-- An ON waits for the supply (R73 step 2). -/
def State.supplyWaits (s : State) (p : PortId) : Bool :=
  match s.sol.ports[p].pend with | some d => d.kind == .supply | none => false

/-- The place of a waiting ON in the order of deferral. -/
def State.ticketOf (s : State) (p : PortId) : Nat :=
  match s.sol.ports[p].pend with | some d => d.ticket | none => 0

/-- The deferred ON that is released next: the order of deferral, which is port order within one cycle (R437). -/
def State.supplyHead (s : State) : Option PortId :=
  ((idx 32).filter s.supplyWaits).foldl (fun (a : Option PortId) p => match a with
    | none => some p
    | some q => if s.ticketOf p < s.ticketOf q then some p else some q) none

/-- SUPPLY_DIP of the last warning, once the release has ended (R439). -/
def State.supplyDip (s : State) : State :=
  let e := s.pwrEv 0x0102 (satNat 255 s.pwr.issued) (satNat 255 s.pwr.dropped) 0 (flagAt s.pwr.dipOrd 0) s.pwr.dipUs s.pwr.dipMin
  (s.onPwr fun x => { x with releasing := false }).emit e

/-- SUPPLY_WARNING: the warning begins with VLOGIC at `mv`: fresh HITs are deferred and the recorder flushes; every delay being
measured sees it (R82, R436). A release in progress ends, and the rest wait again (R437). -/
def execSupplyWarning (mv : Nat) (s : State) : Out :=
  .next (
    if s.pwr.warning then s.onPwr fun x => { x with vlogic := mv, minV := min x.minV mv }
    else
      let s := if s.pwr.releasing then s.supplyDip else s
      let s := s.mapSols fun _ x => { x with openCtx := { x.openCtx with warned := true }, closeCtx := { x.closeCtx with warned := true } }
      (s.onPwr fun x => { x with warning := true, warnAt := s.tick, minV := mv, vlogic := mv, orderly := false }).interlock)

/-- The saves that other chapters tie to an orderly power-down (R429). -/
def State.orderlySaves (s : State) : State :=
  let s := s.saveDelays.saveAge
  let s := s.onTmb fun x => { x with savedModel := x.model }
  let s := s.onGns fun g => { g with savedPos := g.pos }
  s.saveRtc.saveOps

/-- ORDERLY_POWER_DOWN: once per warning, when it has lasted 10 ms (R429). -/
def execOrderlyPowerDown (s : State) : Out :=
  .next (if s.pwr.warning && !s.pwr.orderly then s.orderlySaves.onPwr fun x => { x with orderly := true } else s)

/-- SUPPLY_WARNING_END: the warning ends; `least` is the least VLOGIC in it. The release of the deferred ONs begins, and
SUPPLY_DIP is recorded at once where none waits (R437, R439). -/
def execSupplyWarningEnd (least : Nat) (s : State) : Out :=
  .next (
    if !s.pwr.warning then s
    else
      let us := ticksUs (s.tick - s.pwr.warnAt)
      let s := s.onPwr fun x =>
        { x with warning := false, minV := min x.minV least, dipMin := min x.minV least, dipUs := us, dipMs := satNat 65535 (us / 1000),
                 dipOrd := x.orderly, orderly := false, releasing := true, issued := 0, dropped := 0 }
      let s := s.interlock
      if s.supplyHead.isNone then s.supplyDip else s)

/-- PWR_LATEMAX in fabric ticks. -/
def State.lateMax (s : State) : Nat := bits (s.rw secLIMITS 4 0 0) 16 16 * ticksPerMs

/-- A deferred ON is too late: its lateness exceeds PWR_LATEMAX, or PWR_LATEMAX is 0; a forced ON never is (R437). -/
def State.tooLate (s : State) (d : Pend) : Bool :=
  d.src != Src.forced && !d.forced && (s.lateMax == 0 || decide (s.lateMax < s.tick - d.since))

/-- A deferred ON that is too late completes with STALE; a section ON counts as refused at its execution instant (R437, R438). -/
def State.dropLate (s : State) (p : PortId) (d : Pend) : State :=
  let s := s.dropPend p .stale
  let s := match d.src with
    | .ofSection i => s.sectRefused i true .stale
    | _ => s
  s.onPwr fun x => { x with drop := x.drop ||| BitVec.ofNat 32 (2 ^ p.val), dropped := x.dropped + 1 }

/-- A released ON goes on at R73 step 3: it waits for the budget of its group, or is tested again and starts (R75, R437). -/
def State.goOn (s : State) (p : PortId) (d : Pend) : State :=
  let s := s.onPwr fun x => { x with late := x.late ||| BitVec.ofNat 32 (2 ^ p.val), issued := x.issued + 1 }
  let g := s.grpNo p
  if s.inGroup p && (!s.fits g p || (s.queueHead g).isSome) then
    let s := (s.setSol p fun x => { x with pend := some { d with kind := .budget } }).count (0xE0 + g.val) 1
    s.onGroup g fun y => { y with deferred := satNat 65535 (y.deferred + 1) }
  else s.startWaiting p

/-- DEFERRED_ON_RELEASE: every 20 µs the next deferred ON is released, dropped as STALE or started (R437). -/
def execDeferredOnRelease (s : State) : Out :=
  .next (
    if s.pwr.warning || !s.pwr.releasing then s
    else
      let s := match s.supplyHead with
        | none => s
        | some p => match s.sol.ports[p].pend with
          | none => s
          | some d => if s.tooLate d then s.dropLate p d else s.goOn p d
      if s.supplyHead.isNone then s.supplyDip else s)

/-! ### Bank supplies and domains (R424, R431, R440 to R442) -/

/-- The bank domain goes into reset (R441). -/
def State.holdBank (s : State) (b : BankId) : State :=
  if s.banks[b].held then s else (s.bankDown b).setBank b fun x => { x with held := true }

/-- A fault of a bank's supply or power-good holds the bank in reset (R441); each cause stands for itself (R431, R440). -/
def State.bankFault (s : State) (b : BankId) (c : Fin 3) (mv : Nat) : State :=
  if s.pwr.bankf[b].since[c].isSome then s
  else
    let s := s.holdBank b
    let s := s.onPwr fun x => { x with bankf := upd x.bankf b fun y => y.put c (some s.tick) }
    (s.emit (s.pwrEv 0x0103 b.val (c.val + 1) 0 0 mv 0)).interlock

/-- BANK_SUPPLY_FAULT: undervoltage (1) or overvoltage (2) of VBb, at `mv` (R440, R441). -/
def execBankSupplyFault (b : BankId) (above : Bool) (mv : Nat) (s : State) : Out := .next (s.bankFault b (if above then 1 else 0) mv)

/-- BANK_SUPPLY_OK: undervoltage (0), overvoltage (1) or the loss of power-good (2) ends; `mv` is the least or greatest VBb in
it. When none stands, the bank leaves reset and its ports take OFF after the bank's first conversion (R442). -/
def execBankSupplyOk (b : BankId) (c : Fin 3) (mv : Nat) (s : State) : Out :=
  .next (match s.pwr.bankf[b].since[c] with
    | none => s
    | some since =>
      let s := s.onPwr fun x => { x with bankf := upd x.bankf b fun y => y.put c none }
      let s := s.setBank b fun x => { x with held := !s.pwr.bankf[b].clear }
      let s := if s.rcp.applied then s.bankUp b else s
      s.emit (s.pwrEv 0x0104 b.val (c.val + 1) 0 0 ((s.tick - since) / ticksPerMs) mv))

/-- DOMAIN_POWER_FAIL: a loss of power-good in D1 to D7 resets the LX32; one in D8 to D11 holds the bank, with VBb at `mv`
(R431, R432). -/
def execDomainPowerFail (d : Fin 12) (mv : Nat) (s : State) : Out :=
  .next (
    if d.val = 0 then s
    else if d.val < 8 then (if s.pwr.phase = .run then s.chipReset .domain d.val else s)
    else s.bankFault (Fin.ofNat 4 (d.val - 8)) 2 mv)

/-- DOMAIN_RESET: the crossings of a domain are discarded and its value sources hold their last values, marked invalid (R422,
R424). No command is in flight between two commands of this model. -/
def execDomainReset (d : Fin 12) (s : State) : Out :=
  .next (
    let s := s.onPwr fun x => { x with invalid := x.invalid ||| BitVec.ofNat 12 (2 ^ d.val) }
    if d.val < 8 then s
    else s.setPorts (bankPorts (Fin.ofNat 4 (d.val - 8))) fun x => { x with srcLost := true, stale := true, edges := [] })

/-! ### Low-power states (R443 to R446) -/

/-- No drive port drives or holds a command, no Recipe operation runs, and the warning is not in force (R444 check 2). -/
def State.quiet (s : State) : Bool :=
  ((idx 32).all fun p => !isDriveFunc (s.func p)
    || (s.ports[p].status != .drive && s.sol.ports[p].active.isNone && s.sol.ports[p].pend.isNone))
    && s.rcp.op == .none && !s.pwr.warning

/-- The entry into a low-power state (R445): OK, the saves, LOW_POWER_ENTRY, Q8 emptied, the sessions closed, and the power
off. -/
def State.enterLow (s : State) (sleep : Bool) (k : SessId) : State :=
  let s := s.answer (s.me k) .ok
  let s := (idx 4).foldl State.bankDown s
  let s := s.orderlySaves
  let s := s.emit { s.pwrEv 0x0106 (if sleep then 2 else 1) k.val 0 0 s.pwr.alarm.toNat s.pwr.cfg.toNat with session := some k }
  let s := State.flushQ8 (s.log.q8.length + 2) s
  let s := s.endAll 1
  let s := State.flushQ8 (s.log.q8.length + 2) s
  let wake := bit (s.canCfg 0) 25
  s.powerOff.tripOff.onPwr fun x =>
    { x with phase := if sleep then .sleep else .standby, canWake := sleep && wake }

/-- A write of PWR_CMD (R444). -/
def State.cmdLow (s : State) (sleep : Bool) (k : SessId) : State :=
  match s.gate k rightPARAM with
  | .ok =>
    if !bit s.pwr.cfg (if sleep then 30 else 31) then s.answer (s.me k) .limit
    else if !s.quiet then s.answer (s.me k) .notReady
    else s.enterLow sleep k
  | st => s.answer (s.me k) st

/-- STANDBY (R445). -/
def execStandby (k : SessId) (s : State) : Out := .next (s.cmdLow false k)

/-- SLEEP (R445). -/
def execSleep (k : SessId) (s : State) : Out := .next (s.cmdLow true k)

/-- A wake source acts in a low-power state: D0 latches kind WAKE, and the start begins when VLOGIC is at 8.0 V or more (R432,
R446). -/
def State.wake (s : State) (src : Nat) (high : Bool) : State :=
  if !s.lowPower then s
  else if high then s.onPwr fun x => { x with phase := .off, latched := some (.wake, x.wakePend.getD src, 0), wakePend := none }
  else s.onPwr fun x => { x with wakePend := some (x.wakePend.getD src) }

/-- WAKE_PIN: a level change in the direction of WAKEPOL has held for 10 ms (R446). `high` = VLOGIC is at 8.0 V or more. -/
def execWakePin (high : Bool) (s : State) : Out := .next (s.wake 1 high)

/-- RTC_ALARM: the RTC is valid and its low 32 bits reach PWR_ALARM (R446). -/
def execRtcAlarm (high : Bool) (s : State) : Out :=
  .next (
    if s.tmb.rtcValid && s.pwr.alarm != 0 && s.lowPower then
      let r := s.tmb.rtc / 2 ^ 32 * 2 ^ 32 + s.pwr.alarm.toNat
      (s.onTmb fun t => { t with rtc := (if r < t.rtc then r + 2 ^ 32 else r) % 2 ^ 48 }).wake 2 high
    else s)

/-- CAN_WAKE: the wake-up pattern on CAN0 in SLEEP, with CAN0_CFG.WAKE = 1 (R274, R443, R446). -/
def execCanWake (high : Bool) (s : State) : Out :=
  .next (if s.pwr.phase = .sleep && s.pwr.canWake && !s.pwr.detectorOff then s.wake 3 high else s)

/-- LOGIC_WAKE: VLOGIC rises through 8.0 V with LOGWAKE = 1 (R446). -/
def execLogicWake (s : State) : Out := .next (if bit s.pwr.cfg 29 then s.wake 4 true else s)

/-- WAKE_DETECTOR_RESUME (R443). -/
def execWakeDetectorResume (s : State) : Out :=
  .next (if s.pwr.phase = .sleep then s.onPwr fun x => { x with detectorOff := false } else s)

/-- A read of PWR_RTCL latches PWR_RTCH (R435). -/
def State.readRtcl (s : State) : State × Word :=
  (s.onPwr fun x => { x with rtcHigh := word (flagAt s.tmb.rtcValid 31 + put (s.tmb.rtc / 2 ^ 32) 0 16) }, word (s.tmb.rtc % 2 ^ 32))

/-- PWR_RTCL_READ (R435). -/
def execPwrRtclRead (k : SessId) (s : State) : Out :=
  .next (s.gated k (s.gate k rightREAD) fun s => (State.returns s.readRtcl, .ok))

/-- A write of PWR_CFG takes effect at once and is stored in D1 flash. -/
def State.writePwrCfg (s : State) (v : Word) : State × Status :=
  let w := v &&& 0xF0000000
  (s.onPwr fun x => { x with cfg := w, cfgSaved := w }, .ok)

/-- PWR_CFG_WRITE (R443). -/
def execPwrCfgWrite (v : Word) (k : SessId) (s : State) : Out :=
  .next (s.gated k (s.gateRws k rightSERVICE) fun s => s.writePwrCfg v)

/-! ### Clocks and crossings (R411, R415, R418) -/

/-- TCXO_COUNT: TCXO cycles in the last AON second; two counts on one side of the range move TCXOOK (R411). -/
def execTcxoCount (n : Nat) (s : State) : Out :=
  .next (
    let inside := decide (23976000 ≤ n) && decide (n ≤ 24024000)
    s.onPwr fun x => { x with tcxo := n % 2 ^ 25, lastIn := inside, aonOk := true, tcxoOk := if inside = x.lastIn then inside else x.tcxoOk })

/-- AON_EDGE_MISSING: no AON edge for 1 ms; the RTC is not valid (R411, R435). -/
def execAonEdgeMissing (s : State) : Out :=
  .next ((s.onPwr fun x => { x with aonOk := false }).onTmb fun t => { t with rtcValid := false })

/-- CLK_XCLR.CLR sets every crossing counter to zero (R418). -/
def State.clearCrossings (s : State) : State :=
  s.onPwr fun x => { x with snap := Vector.replicate 13 0, ovr := Vector.replicate 13 0, csat := Vector.replicate 13 0 }

/-- XCLR (R418). -/
def execXclr (k : SessId) (s : State) : Out := .next (s.gated k (s.gate k rightPARAM) fun s => (s.clearCrossings, .ok))

/-- SNAPSHOT_FALLBACK: after 16 disagreements a value crossing of path `p` takes a snapshot (R415). -/
def execSnapshotFallback (p : Fin 13) (s : State) : Out :=
  .next (s.onPwr fun x => { x with snap := upd x.snap p fun n => satNat 65535 (n + 1) })

end Sys2Proof.Machine
end

