-- ==== Sys2Proof/Machine/Modes.lean ====
section
/-! DEFINITION. Queue marks and performance modes (R26, R28, R31 to R34). -/

namespace Sys2Proof.Machine

open Sys2Proof

/-! ### Queue marks (R26, R28) -/

/-- FILL of queue Qn: the entries it holds. -/
def State.qFill (s : State) (q : Fin 16) : Nat :=
  let k : SessId := Fin.ofNat 4 q.val
  match q.val with
  | 0 | 1 | 2 | 3 => s.hl.q[k].length
  | 4 | 5 | 6 | 7 => s.hl.out[k].length
  | 8 => s.log.q8.length
  | 9 => s.seq.q9.length
  | 10 => s.q10Fill
  | 11 => s.gns.q11.length
  | 12 => s.eng.q12.length
  | 13 => s.hie.q13.length
  | 14 => s.hie.q14.length
  | _ => s.dma.q15.length

/-- HWM takes the current FILL. -/
def State.hwmRst (s : State) (q : Fin 16) : State :=
  s.onSys fun x => { x with qstat := upd x.qstat q fun m => { m with hwm := s.qFill q } }

/-- OVF returns to zero. -/
def State.ovfClr (s : State) (q : Fin 16) : State :=
  s.onSys fun x => { x with qstat := upd x.qstat q fun m => { m with ovf := 0 } }

/-- A write of SYS_QSTATn (R28). -/
def State.writeQstat (s : State) (q : Fin 16) (v : Word) : State × Status :=
  let s := if bit v 31 then s.hwmRst q else s
  (if bit v 30 then s.ovfClr q else s, .ok)

/-- HWM_RST (R28). -/
def execHwmRst (q : Fin 16) (k : SessId) (s : State) : Out := .next (s.gated k (s.gate k rightPARAM) fun s => (s.hwmRst q, .ok))

/-- OVF_CLR (R28). -/
def execOvfClr (q : Fin 16) (k : SessId) (s : State) : Out := .next (s.gated k (s.gate k rightPARAM) fun s => (s.ovfClr q, .ok))

/-! ### Modes (R31 to R34) -/

/-- The mode is set in ALLOWED. -/
def State.allowsMode (s : State) (m : Mode) : Bool := (s.rcp.head.allowed / 2 ^ m.code) % 2 == 1

/-- A write of SYS_MODE.REQUEST (R32, R436); the encoding 0b11 is reserved. -/
def State.writeReqMode (s : State) (v : Word) (k : SessId) : State × Status :=
  match Mode.ofCode (bits v 0 2) with
  | none => (s, .limit)
  | some m =>
    if m = s.sys.request then (s, .ok)
    else if s.pwr.warning then (s, .notReady)
    else if s.sys.switching then (s, .busy)
    else if !s.allowsMode m || !s.ceilingsOk m then (s, .limit)
    else (s.onSys fun x => { x with request := m, switching := true, reqAt := s.tick, reqBy := some k }, .ok)

/-- MODE_REQUEST (R32). -/
def execModeRequest (v : Word) (k : SessId) (s : State) : Out :=
  .next (s.gated k (s.gate k rightCOMMAND) fun s => s.writeReqMode v k)

/-- PIPELINE_B_UP: on the way into SEAR, D4 is powered and pipeline B is idle (R34 step 2). -/
def execPipelineBUp (s : State) : Out :=
  .next (if s.sys.switching && s.sys.request == .sear then s.onSys fun x => { x with pipeB := true } else s)

/-- MODE_SWITCH_EDGE: at a whole millisecond the dividers change, the ceilings of the new mode take effect, and MODE_CHANGE is
recorded (R34 steps 3 to 5). -/
def execModeSwitchEdge (s : State) : Out :=
  .next (
    if !s.sys.switching || (s.sys.request == .sear && !s.sys.pipeB) then s
    else
      let old := s.sys.current
      let s := (s.onSys fun x => { x with current := x.request, switching := false }).settlePipeB
      s.emit { s.pwrEv 0x0105 old.code s.sys.current.code (ownerByte s.sys.reqBy) 0 (ticksUs (s.tick - s.sys.reqAt)) 0 with session := s.sys.reqBy })

end Sys2Proof.Machine
end

