-- ==== Sys2Proof/Machine/RegBase.lean ====
section
/-! DEFINITION. What an address of the register space names, and the rules every access meets (R5 to R8, R308, R335, R337,
R482). -/

namespace Sys2Proof.Machine

open Sys2Proof

/-- A register as an access finds it. -/
structure Reg where
  /-- What a read returns (R6); 0 for WO fields. -/
  val    : Word := 0
  /-- The RS fields: a write that would change one completes with RECIPE_LOCKED (R7). -/
  rs     : Nat := 0
  /-- The unit is unused: a write completes with BAD_ADDR (R482). -/
  unused : Bool := false
  /-- A read with an effect of its own. -/
  rd     : Option (SessId → State → State × Except Status Word) := none
  /-- What a write does, its status included; a register without one ignores writes (R6). -/
  wr     : Option (SessId → Word → State → State) := none

/-- An RO register. -/
def Reg.ro (v : Nat) : Reg := { val := word v }
/-- An RS register whose fields are `m`. -/
def Reg.recipe (v : Word) (m : Nat) : Reg := { val := v &&& word m, rs := m }
/-- A register of a unit that the Recipe does not use. -/
def Reg.idle : Reg := { unused := true }
/-- The registers of a unit that is used, and those of one that is not. -/
def Reg.when (used : Bool) (r : Option Reg) : Option Reg := if used then r else r.map fun _ => Reg.idle

/-- The machine that a command leaves. -/
def stateOf (old : State) : Out → State
  | .next t => t
  | _ => old

/-- A write that is one of the table's commands. -/
def Reg.cmd (v : Word) (f : SessId → Word → State → Out) : Reg := { val := v, wr := some fun k w s => stateOf s (f k w s) }

/-- A write with a gate of its own and an immediate status. -/
def Reg.rw (v : Word) (gate : SessId → State → Status) (f : Word → State → State × Status) : Reg :=
  { val := v, wr := some fun k w s => s.gated k (gate k s) (f w) }

/-- The gate of an RW, W1C or WO field that no other rule names (R337). -/
def gParam (k : SessId) (s : State) : Status := s.gate k rightPARAM
/-- The gate of an RWS field. -/
def gService (k : SessId) (s : State) : Status := s.gateRws k rightSERVICE
/-- The gate of a command register. -/
def gCommand (k : SessId) (s : State) : Status := s.gate k rightCOMMAND

/-- A write with no effect of its own: a reserved operation answers LIMIT, no operation OK. -/
def noOp (gate : SessId → State → Status) (st : Status) (k : SessId) (s : State) : Out :=
  .next (s.gated k (gate k s) fun s => (s, st))

/-- What the aperture of a session answers to an access of an address (R308, R335, R445). -/
def State.aperture (s : State) (k : SessId) (a : Nat) (write : Bool) : Status :=
  if s.lowPower then .notReady
  else if !s.sec.sessions[k].isOpen then .authFail
  else match s.translate k.val a write with
    | .ok _ => .ok
    | .error _ => .denied

/-- The index of an address in an array of registers: base, stride, number; and the offset in its element. -/
def inArray (a base stride n : Nat) : Option (Nat × Nat) :=
  if base ≤ a ∧ (a - base) / stride < n then some ((a - base) / stride, (a - base) % stride) else none

/-- The two's complement of a value in `n` bits at `lo`. -/
def putInt (v : Int) (lo n : Nat) : Nat := twos n v * 2 ^ lo

end Sys2Proof.Machine
end

