-- ==== Sys2Proof/Machine/RegEng.lean ====
section
/-! DEFINITION. The registers of the CEN, SEQ, MON and CAL blocks. -/

namespace Sys2Proof.Machine

open Sys2Proof

/-! ### CEN -/

/-- A write of CENn_CMD. -/
def slotCmdReg (n : SlotId) (k : SessId) (v : Word) (s : State) : Out :=
  match bits v 0 4 with
  | 0 => .next (s.slotCmd n k rightCOMMAND fun s => (s, .ok))
  | 1 => execSwap n k s
  | 2 => execClrflt n k s
  | 3 => execRstats n k s
  | _ => .next (s.slotCmd n k rightCOMMAND fun s => (s, .limit))

/-- A write of CENn_FLAG clears the flags written with 1; it is open for a tracking slot too (R133). -/
def State.writeFlag (s : State) (n : SlotId) (v : Word) : State × Status :=
  (s.setSlot n fun x => { x with resmm := x.resmm && !bit v 2, ovr := x.ovr && !bit v 1, late := x.late && !bit v 0 }, .ok)

/-- The register of slot `n` at an offset. -/
def State.regSlotAt (s : State) (n : SlotId) (off : Nat) : Option Reg :=
  let x := s.eng.slots[n]
  match off with
  | 0x000 => some (.recipe (s.slotW n 0) 0xFFF77F00)
  | 0x004 => some (.recipe (s.slotW n 1) 0xEFFDFFE0)
  | 0x008 => some (.recipe (s.slotW n 2) 0xFFFF0000)
  | 0x00C | 0x010 | 0x014 => some (.recipe (s.slotW n (off / 4)) 0xFFFFFFFF)
  | 0x018 => some (.cmd (word x.req.code) fun k v => execSlotModeRequest n v k)
  | 0x01C => some (.cmd 0 (slotCmdReg n))
  | 0x020 => some (.cmd x.sp fun k v => execSlotSpWrite n v k)
  | 0x024 => some (.cmd x.manout fun k v => execSlotManoutWrite n v k)
  | 0x028 => some (.ro x.stat)
  | 0x02C => some (.rw (word (flagAt x.resmm 2 + flagAt x.ovr 1 + flagAt x.late 0)) gParam fun v s => s.writeFlag n v)
  | 0x030 => some (.ro (twos 32 x.spv))
  | 0x034 => some (.ro (twos 32 x.fb))
  | 0x038 => some (.ro (twos 32 x.out))
  | 0x03C => some (.ro (twos 32 x.aux))
  | 0x040 => some (.ro (s.tper n))
  | 0x044 => some (.ro (put (satNat 65535 x.lmax) 16 16 + put (satNat 65535 x.lmin) 0 16))
  | 0x048 => some (.ro (clampInt 0 65535 (shown 142 (x.lmean * 16))).toNat)
  | 0x04C => some (.ro (put x.ovrcnt 16 16 + put x.rescnt 0 16))
  | _ => match inArray off 0x100 4 48, inArray off 0x200 4 48 with
    | some (i, 0), _ => some (.cmd (x.wordsA[Fin.ofNat 48 i]) fun k v => execSlotBankWordWrite n false (Fin.ofNat 48 i) v k)
    | _, some (i, 0) => some (.cmd (x.wordsB[Fin.ofNat 48 i]) fun k v => execSlotBankWordWrite n true (Fin.ofNat 48 i) v k)
    | _, _ => none

/-- A register that the host cannot write: DENIED (R133). -/
def Reg.denied (r : Reg) : Reg := { r with rs := 0, wr := some fun k _ s => s.answer (s.me k) .denied }

/-- The register of a slot (R121, R133). -/
def State.regSlot (s : State) (n : SlotId) (off : Nat) : Option Reg :=
  Reg.when (s.slotUsed n) ((s.regSlotAt n off).map fun r => if s.isTracking n && off != 0x02C then r.denied else r)

/-- The gate of CEN_TKCFG to CEN_TKCMD (R160, R337). -/
def gTake (k : SessId) (s : State) : Status := s.gateRws k rightTAKE

/-- The registers common to the engine. -/
def State.regTake (s : State) (a : Nat) : Option Reg :=
  let t := s.eng.take
  match a with
  | 0x1A0000 =>
    let load (b : Bool) : Nat := satNat 65535 (shown 1220 (s.pipeLoad s.sys.current b none * 1000)).toNat
    some (.ro (put (load true) 16 16 + put (load false) 0 16))
  | 0x1A0100 => some (.rw t.cfg gTake fun v s =>
      if bits v 8 8 = 0 || bits v 0 8 = 0 then (s, .limit) else (s.setTake fun t => { t with cfg := v &&& 0x7F70FFFF }, .ok))
  | 0x1A0104 => some (.rw t.amp gTake fun v s => (s.setTake fun t => { t with amp := v }, .ok))
  | 0x1A0108 => some (.rw t.frq gTake fun v s => (s.setTake fun t => { t with frq := v }, .ok))
  | 0x1A010C => some (.rw (word t.len) gTake fun v s => (s.setTake fun t => { t with len := bits v 0 16 }, .ok))
  | 0x1A0110 => some (.rw 0 gTake fun v s => s.takeCmd v)
  | 0x1A0114 => some (.ro (put t.status.code 29 3 + put t.reason 21 3 + put t.count 0 17))
  | _ => none

/-- The CEN block. -/
def State.regCen (s : State) (a : Nat) : Option Reg :=
  match inArray a 0x180000 0x400 128 with
  | some (n, off) => s.regSlot (Fin.ofNat 128 n) off
  | none => s.regTake a

/-! ### SEQ -/

/-- A write of SEQs_CMD. -/
def seqCmdReg (q : SeqId) (k : SessId) (v : Word) (s : State) : Out :=
  match bits v 0 4 with
  | 0 => noOp gCommand .ok k s
  | 1 => execSeqStart q k s
  | 2 => execSeqStop q k s
  | 3 => execSeqPause q k s
  | 4 => execSeqResume q k s
  | _ => noOp gCommand .limit k s

/-- SEQs_STAT. -/
def Seq.stat (x : Seq) : Nat :=
  put x.st.code 30 2 + flagAt x.mark 29 + put (match x.req with | some (op, _) => op.code | none => 0) 26 3 + put x.step 8 8
    + x.flags.toNat

/-- The masks of the words of a transition. -/
def trMask (w : Nat) : Nat := match w with | 0 => 0xC00000FF | 1 => 0xF00007FF | 3 => 0xF00007FF | _ => 0xFFFFFFFF

/-- The register of sequencer `q` at an offset. -/
def State.regSeqAt (s : State) (q : SeqId) (off : Nat) : Option Reg :=
  let x := s.seq.seqs[q]
  match off with
  | 0x000 => some (.recipe (s.seqCfg q) 0xC7FFC0FF)
  | 0x004 => some (.cmd 0 (seqCmdReg q))
  | 0x008 => some (.ro x.stat)
  | 0x00C => some (.ro (satNat (2 ^ 32 - 1) x.time))
  | 0x010 => some (.cmd 0 fun k v => execSeqHcmdWrite q v k)
  | 0x014 => some (.ro x.hpend.toNat)
  | 0x018 => some (.ro x.astatWord)
  | 0x01C => some (.ro x.cntWord)
  | 0x030 => some (.ro (put x.prev 8 8 + put x.taken 0 8))
  | _ => match inArray off 0x020 4 4, inArray off 0x400 4 256, inArray off 0x1000 8 512, inArray off 0x4000 0x20 512 with
    | some (i, 0), _, _, _ =>
      some (.ro (flagAt x.tms[Fin.ofNat 4 i].run 31 + satNat (2 ^ 31 - 1) x.tms[Fin.ofNat 4 i].ms))
    | _, some (i, 0), _, _ => some (.recipe (s.seqStep q i) 0xFFFFFFF8)
    | _, _, some (i, 0), _ => some (.recipe (s.seqAct q i 0) 0xFFE001FF)
    | _, _, some (i, 4), _ => some (.recipe (s.seqAct q i 1) 0xFFFFFFFF)
    | _, _, _, some (i, o) =>
      if o % 4 = 0 ∧ o < 0x14 then some (.recipe (s.seqTr q i (o / 4)) (trMask (o / 4))) else none
    | _, _, _, _ => none

/-- The SEQ block. -/
def State.regSeq (s : State) (a : Nat) : Option Reg :=
  match inArray a 0x340000 0x8000 4 with
  | some (n, off) => Reg.when (s.seqUsed (Fin.ofNat 4 n)) (s.regSeqAt (Fin.ofNat 4 n) off)
  | none => none

/-! ### MON -/

/-- The words of a gauge: least, greatest, mean, count. -/
def Gauge.word (g : Gauge) (i : Nat) : Nat :=
  match i with
  | 0 => twos 32 g.least
  | 1 => twos 32 g.great
  | 2 => twos 32 g.mean
  | _ => satNat (2 ^ 32 - 1) g.ns

/-- The high word of a counter with SAT. -/
def Counter.high (c : Counter) : Nat := flagAt c.sat 31 + put (c.cnt / 2 ^ 32) 0 16

/-- A write of MON_CMD. -/
def monCmdReg (k : SessId) (v : Word) (s : State) : Out := if bit v 0 then execLatch k s else noOp gParam .ok k s

/-- The register of counter `n` at an offset. -/
def State.regCounter (s : State) (n : MonId) (off : Nat) : Option Reg :=
  match off with
  | 0x0 => some (.recipe (s.monCfg n) 0xFF0007FF)
  | 0x4 => some { val := word s.mon.counters[n].cnt, rd := some fun _ s => let r := s.readLivel n; (r.1, .ok r.2) }
  | 0x8 => some { val := s.mon.liveH[n] }
  | _ => none

/-- The register of gauge `g` at an offset. -/
def State.regGauge (s : State) (g : Fin 16) (off : Nat) : Option Reg :=
  match off with
  | 0x00 => some (.recipe (s.gaugeCfg g.val) 0xC00007FF)
  | 0x04 | 0x08 | 0x0C | 0x10 => some (.ro (s.mon.gauges[g].word (off / 4 - 1)))
  | _ => none

/-- The MON block. -/
def State.regMon (s : State) (a : Nat) : Option Reg :=
  match inArray a 0x3C0100 0x10 32, inArray a 0x3C0400 8 32, inArray a 0x3C0800 0x20 16, inArray a 0x3C0C00 0x10 16 with
  | some (n, off), _, _, _ => s.regCounter (Fin.ofNat 32 n) off
  | _, some (n, 0), _, _ => some { val := word s.mon.snCount[Fin.ofNat 32 n].cnt }
  | _, some (n, 4), _, _ => some (.ro s.mon.snCount[Fin.ofNat 32 n].high)
  | _, _, some (g, off), _ => s.regGauge (Fin.ofNat 16 g) off
  | _, _, _, some (g, off) => if off % 4 = 0 then some (.ro (s.mon.snGauge[Fin.ofNat 16 g].word (off / 4))) else none
  | _, _, _, _ =>
    match a with
    | 0x3C0000 => some (.cmd s.mon.pcfg fun k v => execMonPcfgWrite false v k)
    | 0x3C0004 => some (.cmd s.mon.pcfg2 fun k v => execMonPcfgWrite true v k)
    | 0x3C0008 => some (.cmd 0 monCmdReg)
    | 0x3C000C => some (.ro s.mon.snSeq)
    | 0x3C0010 => some (.ro (put s.mon.snCause 28 4))
    | 0x3C0014 => some { val := word s.mon.snAt }
    | 0x3C0018 => some { val := word (s.mon.snAt / 2 ^ 32) }
    | _ => none

/-! ### CAL -/

/-- The register of channel `c` of index `i` at an offset; channel 7 reads zero. -/
def State.regChan (s : State) (i : Fin 33) (c : Fin 8) (off : Nat) : Option Reg :=
  let x := s.cal.chans[i][c]
  let v (n : Nat) : Nat := if c.val = 7 then 0 else n
  match off with
  | 0x00 => some (.ro (v x.gf))
  | 0x04 => some (.ro (v (twos 32 x.of)))
  | 0x08 => some (.cmd (if c.val = 7 then 0 else x.u) fun k w => execCalUserSet i c w k)
  | 0x0C => some (.ro (v (twos 32 (shown 405 (x.ge * 2 ^ 30)))))
  | 0x10 => some (.ro (v (twos 32 (shown 405 (x.oe * 2 ^ 31)))))
  | _ => none

/-- A user value other than zero is in force. -/
def CalState.userSet (x : CalState) : Bool := x.chans.toList.any fun y => y.toList.any fun c => c.u != 0

/-- The CAL block. -/
def State.regCal (s : State) (a : Nat) : Option Reg :=
  match inArray a 0x3E0000 0x100 32, inArray a 0x3E2000 0x20 1 with
  | some (p, o), _ => s.regChan (Fin.ofNat 33 p) (Fin.ofNat 8 (o / 0x20)) (o % 0x20)
  | _, some (_, o) => s.regChan 32 0 o
  | none, none =>
    match a with
    | 0x3E3000 => some (.ro (flagAt s.cal.factOk 31 + flagAt s.cal.userSet 30 + put s.cal.fver 0 16))
    | 0x3E3004 => some (.cmd s.cal.cmd fun k v => execCalClr v k)
    | _ => none

end Sys2Proof.Machine
end

