-- ==== Sys2Proof/Machine/RegTime.lean ====
section
/-! DEFINITION. The registers of the TMB, GNS and SCT blocks. -/

namespace Sys2Proof.Machine

open Sys2Proof

/-! ### TMB -/

/-- An outcome of the machine that no command names: a boolean free value. -/
def State.freeBool (s : State) : State × Bool := (s.draw, decide (s.free % 2 = 0))

/-- A write of TMB_CMD: RESTEER before SET where both are written. Whether the rate computed next passes its residue
check is a free value. -/
def tmbCmdReg (k : SessId) (v : Word) (s : State) : Out :=
  let a (s : State) : Out := if bit v 1 then (let r := s.freeBool; execResteer r.2 k r.1) else .next s
  if bit v 0 then
    if bit v 1 then
      if s.gateRws k rightSERVICE = .ok then (let r := s.freeBool; execSet k (r.1.cmdResteer r.2).1) else execSet k s
    else execSet k s
  else if bit v 1 then a s
  else noOp gService .ok k s

/-- TMB_STAT. -/
def State.tmbStat (s : State) : Nat :=
  let x := s.tmb
  flagAt x.resflt 15 + flagAt x.tpOn 14 + flagAt s.trained 13 + flagAt x.range 12 + flagAt x.pending.isSome 11 + put s.timeSrc 4 2
    + put x.qual.code 0 3

/-- The TMB block. -/
def State.regTmb (s : State) (a : Nat) : Option Reg :=
  let x := s.tmb
  match a with
  | 0x200000 => some { val := word s.now, rd := some fun _ s => let r := s.readFrac; (r.1, .ok r.2) }
  | 0x200004 => some { val := x.secl }
  | 0x200008 => some { val := x.sech }
  | 0x20000C => some (.ro s.tmbStat)
  | 0x200010 => some { val := word (twos 40 x.rate), rd := some fun _ s => let r := s.readRatel; (r.1, .ok r.2) }
  | 0x200014 => some { val := x.rateh }
  | 0x200018 => some (.ro (twos 32 x.ofs))
  | 0x20001C => some (.ro (twos 32 (clampInt (-0x80000000) 0x7FFFFFFF (quarterNs x.d))))
  | 0x200020 => some (.ro s.timeErr)
  | 0x200024 => some (.ro (satNat (2 ^ 32 - 1) s.holdSecs))
  | 0x200028 => some (.recipe s.tmbCfg 0xFFFFC0FF)
  | 0x20002C => some (.recipe s.tpCfg 0xC00001FF)
  | 0x200030 => some (.rw x.dly gService fun v s => (s.onTmb fun x => { x with dly := v }, .ok))
  | 0x200034 => some (.rw x.setl gService fun v s => (s.onTmb fun x => { x with setl := v }, .ok))
  | 0x200038 => some (.rw x.seth gService fun v s => (s.onTmb fun x => { x with seth := v &&& 0xFFFF }, .ok))
  | 0x20003C => some (.cmd 0 tmbCmdReg)
  | 0x200040 => some (.ro (flagAt s.gns.utcValid 31 + put s.gns.leap 0 8))
  | 0x200044 => some (.ro (put x.steps 16 16 + put x.resCnt 0 16))
  | 0x200048 => some (.ro (satNat 65535 (x.model.learnt / 36000)))
  | _ => none

/-! ### GNS -/

/-- A write of GNS_CMD. The satellites above the mask, from which RESTART takes the kind of its start, are a free value. -/
def gnsCmdReg (k : SessId) (v : Word) (s : State) : Out :=
  if bit v 1 then execGnssCold k s
  else if bit v 0 then execGnssRestart (Config.svsAbove s.sys.draws) k s.draw
  else noOp gService .ok k s

/-- GNS_STAT. -/
def State.gnsStat (s : State) : Nat :=
  let g := s.gns
  put g.fix 30 2 + put g.nsv 24 6 + put s.ntrk 18 6 + put g.kind 16 2 + put g.rateF 13 3 + flagAt s.dutyApplies 12 + flagAt g.firstFix 11
    + put g.ant.code 8 3 + put g.navLost 0 8

/-- GNS_CHc. -/
def State.gnsCh (s : State) (c : GnsCh) : Nat :=
  let x := s.gns.chans[c]
  put x.prn 24 6 + put x.st.code 20 4 + flagAt (x.prn != 0 && s.ephValid x.prn) 16 + put x.pol 14 2 + put (satNat 8191 x.cn0) 0 13

/-- The GNS block. -/
def State.regGns (s : State) (a : Nat) : Option Reg :=
  let g := s.gns
  match a with
  | 0x210000 => some (.recipe s.gnsCfg 0xBFFFFFFF)
  | 0x210004 => some (.recipe s.gnsAges 0xFFFFFF00)
  | 0x210008 => some (.cmd (word g.rateReq) fun k v => execGnssRateWrite v k)
  | 0x21000C => some (.cmd 0 gnsCmdReg)
  | 0x210010 => some (.ro s.gnsStat)
  | 0x210014 => some (.ro (put g.vbias 16 16 + put g.ibias 0 16))
  | 0x210018 => some (.ro (satNat (2 ^ 32 - 1) g.ttff))
  | 0x210020 => some (.ro (put g.pvt.seq 16 16 + put g.pvt.pdop 8 8 + put g.pvt.epoch 0 5))
  | 0x210024 => some { val := g.pvt.secs }
  | 0x210028 => some (.ro (twos 32 g.pvt.lat))
  | 0x21002C => some (.ro (twos 32 g.pvt.lon))
  | 0x210030 => some (.ro (twos 32 g.pvt.hgt))
  | 0x210034 => some (.ro (twos 32 g.pvt.vn))
  | 0x210038 => some (.ro (twos 32 g.pvt.ve))
  | 0x21003C => some (.ro (twos 32 g.pvt.vu))
  | 0x210040 => some (.ro (put (satNat 65535 g.pvt.speed) 16 16 + put g.pvt.hdg 0 16))
  | 0x210044 => some (.ro (put (satNat 65535 g.pvt.hacc) 16 16 + put (satNat 65535 g.pvt.vacc) 0 16))
  | _ => match inArray a 0x210100 4 32 with
    | some (c, 0) => some (.ro (s.gnsCh (Fin.ofNat 32 c)))
    | _ => none

/-! ### SCT -/

/-- A write of SCT_CMD. -/
def sctCmdReg (k : SessId) (v : Word) (s : State) : Out :=
  match bits v 0 4 with
  | 0 => noOp gCommand .ok k s
  | 1 => execEngage k s
  | 2 => execEngageExt k s
  | 3 => execDisengage k s
  | 4 => execSetOn k s
  | 5 => execSetOff k s
  | 6 => execBcheck k s
  | 7 => execSectionClrflt k s
  | _ => noOp gCommand .limit k s

/-- SCT_STAT. -/
def State.sctStat (s : State) : Nat :=
  let x := s.sct
  let res := (s.nsectIds.map fun i => (s.held (.ofSection i)).length).foldl (· + ·) 0
  flagAt s.sctEng 31 + flagAt x.fault 30 + flagAt x.posOk 29 + flagAt x.spdOk 28 + flagAt x.bvalid 27 + flagAt x.susp 26
    + flagAt x.tcOk 25 + flagAt x.unl 24 + flagAt x.spdFb 23 + put res 8 8 + put x.resRun 0 2

/-- SCTs_STAT. -/
def State.sectStat (s : State) (i : SectId) : Nat :=
  let x := s.sct.sects[i]
  put x.mode.code 29 3 + flagAt x.want 28 + flagAt x.cmd 27 + flagAt (s.applies i) 26 + put x.dson 24 2 + put x.dsoff 22 2
    + flagAt x.refd 21 + flagAt (s.sectFaulted i) 20 + put (match x.plan with | some p => if p.on then 1 else 2 | none => 0) 18 2
    + flagAt x.late 17 + flagAt (match x.plan with | some p => p.frozen | none => false) 16 + put x.err 0 16

/-- A product rate within its entry of LIMITS (R220, R299). -/
def State.rateOk (s : State) (p : Nat) (v : Word) : Bool :=
  !s.hasRec secLIMITS 3 p || decide (ev (s.rw secLIMITS 3 p 0) ≤ ev v ∧ ev v ≤ ev (s.rw secLIMITS 3 p 1))

/-- The register of a section at an offset; zero for s of NSECT or more. -/
def State.regSect (s : State) (i : SectId) (off : Nat) : Option Reg :=
  let x := s.sct.sects[i]
  let z (n : Nat) : Nat := if i.val < s.nsect then n else 0
  match off with
  | 0x00 => some (.recipe (s.rw secSECTION 2 i.val 0) 0x3F1F0780)
  | 0x04 | 0x08 | 0x0C => some (.recipe (s.rw secSECTION 2 i.val (off / 4)) 0xFFFFFFFF)
  | 0x10 => some (.ro (z (s.sectStat i)))
  | 0x14 => some (.ro (z (put (satNat 65535 x.don) 16 16 + put (satNat 65535 x.doff) 0 16)))
  | 0x18 => some (.ro (z (match x.plan with | some p => p.at_ % 2 ^ 32 | none => 0)))
  | 0x1C => some (.ro (z (twos 32 x.demand)))
  | _ => none

/-- The registers of the SCT block on a manager. -/
def State.regSctHere (s : State) (a : Nat) : Option Reg :=
  let x := s.sct
  match a with
  | 0x300000 => some (.recipe s.sctCfg 0xF7FFC0FF)
  | 0x300004 | 0x300008 | 0x300010 => some (.recipe (s.sctWord (a % 0x20 / 4)) 0xFFFFFFFF)
  | 0x30000C => some (.recipe (s.sctWord 3) 0xF01F0000)
  | 0x300014 => some (.recipe (s.sctWord 5) 0xFFFFB000)
  | 0x300020 => some (.cmd x.orgLat fun k v => execBoundaryWrite 0x300020 v k)
  | 0x300024 => some (.cmd x.orgLon fun k v => execBoundaryWrite 0x300024 v k)
  | 0x300028 => some (.rw x.ovl gParam fun v s =>
      if 16 < bits v 8 5 || 16 < bits v 0 5 then (s, .limit) else (s.onSct fun c => { c with ovl := v &&& 0x11F1F }, .ok))
  | 0x300030 | 0x300034 | 0x300038 | 0x30003C =>
    let m : Fin 4 := Fin.ofNat 4 (a % 0x10 / 4)
    some (.rw x.sel[m] gCommand fun v s => (s.onSct fun c => { c with sel := c.sel.set m v }, .ok))
  | 0x300040 => some (.cmd 0 sctCmdReg)
  | 0x300044 => some (.ro s.sctStat)
  | 0x300048 => some (.ro (put x.bres 30 2 + put x.bpoly 24 6 + put x.berr 20 4 + put x.bvtx 0 12))
  | 0x300050 => some (.ro (twos 32 x.posX))
  | 0x300054 => some (.ro (twos 32 x.posY))
  | 0x300058 => some (.ro (put (satNat 65535 x.speed) 16 16 + put x.hdg 0 16))
  | 0x30005C => some (.ro (put (satNat 65535 x.age) 16 16 + put (satNat 255 x.hacc) 0 8))
  | 0x300060 => some (.ro (put x.cntLate 16 16 + put x.cntRef 0 16))
  | 0x300064 => some (.ro (put x.resCnt 0 16))
  | _ => match inArray a 0x300080 4 8, inArray a 0x300800 4 64, inArray a 0x301000 0x20 128, inArray a 0x310000 4 8192 with
    | some (p, 0), _, _, _ => some (.rw (x.rates[Fin.ofNat 8 p]) gParam fun v s =>
        if s.rateOk p v then (s.onSct fun c => { c with rates := c.rates.set (Fin.ofNat 8 p) v }, .ok) else (s, .limit))
    | _, some (p, 0), _, _ => some (.cmd (x.polys[Fin.ofNat 64 p]) fun k v => execBoundaryWrite a v k)
    | _, _, some (i, off), _ => s.regSect (Fin.ofNat 128 i) off
    | _, _, _, some (i, 0) => some (.cmd (cellGet 0 x.verts i) fun k v => execBoundaryWrite a v k)
    | _, _, _, _ => none

/-- The SCT block: on a worker every register reads zero, and a write completes with RECIPE_LOCKED (R195). -/
def State.regSct (s : State) (a : Nat) : Option Reg :=
  let locked : Reg := { wr := some fun k _ s => s.answer (s.me k) .recipeLocked }
  if s.isWorker then (s.regSctHere a).map fun _ => locked else s.regSctHere a

end Sys2Proof.Machine
end

