-- ==== Sys2Proof/Machine/RegLink.lean ====
section
/-! DEFINITION. The registers of the HIE, CLP and CAN blocks. -/

namespace Sys2Proof.Machine

open Sys2Proof

/-! ### HIE -/

/-- A write of HIE_CMD; ADDR 63 names no worker. -/
def hieCmdReg (k : SessId) (v : Word) (s : State) : Out :=
  match bits v 0 4 with
  | 0 => noOp gCommand .ok k s
  | 1 => execHieRelease (Fin.ofNat 64 (bits v 16 6)) k s
  | _ => noOp gCommand .limit k s

/-- HIE_STAT; REL reads 1 on the manager. -/
def State.hieStat (s : State) : Nat :=
  let h := s.hie
  put h.mqual.code 29 3 + flagAt h.orphan 28 + flagAt (h.rel || !s.isWorker) 27 + flagAt h.strapChg 26 + put s.sys.addr 16 6
    + put s.hop 8 6 + put h.stepCnt 0 4

/-- HIE_WSTATa. -/
def State.wstat (s : State) (a : Fin 64) : Nat :=
  let w := s.hie.workers[a]
  let age := match w.heard with | some t => satNat 65535 ((s.tick - t) / ticksPerMs) | none => 65535
  put w.qual.code 29 3 + flagAt w.orphan 28 + flagAt w.lost 27 + flagAt w.rel 26 + age

/-- One bit per element that a test holds of, for 32 elements from `base`. -/
def mask32 (base : Nat) (p : Nat → Bool) : Nat := ((List.range 32).map fun i => flagAt (p (base + i)) i).foldl (· + ·) 0

/-- HIE_XFk.FAILED: a failure condition of R238 stands for a flag of another device. -/
def State.flagDown (s : State) (k : FlagId) : Bool := s.xfUsed k && s.xfOrig k != s.sys.addr && s.flagFails k

/-- A write of HIE_LGn_CMD. -/
def lgCmdReg (g : LgId) (k : SessId) (v : Word) (s : State) : Out :=
  match bits v 0 4 with
  | 0 => noOp gCommand .ok k s
  | 1 => execLgStart g (s.me k) s
  | 2 => execLgStopCmd g (s.me k) s
  | _ => noOp gCommand .limit k s

/-- The register of a lock group at an offset. -/
def State.regLgAt (s : State) (g : LgId) (off : Nat) : Option Reg :=
  let x := s.hie.lgs[g]
  match off with
  | 0x00 => some (.recipe (s.lgCfg g) 0xDF0000FF)
  | 0x04 => some (.recipe (s.rw secLOCKGRP 1 g.val 1) 0xFFFFFFFF)
  | 0x08 => some (.recipe (s.rw secLOCKGRP 1 g.val 2) 0xFFFFFFFF)
  | 0x0C => some (.cmd 0 (lgCmdReg g))
  | 0x10 => some (.ro (put x.st.code 30 2))
  | 0x14 => some { val := x.wait }
  | 0x18 => some { val := x.ref }
  | _ => match inArray off 0x40 8 32 with
    | some (m, 0) => some (.recipe (s.memA g (Fin.ofNat 32 m)) 0xFFF8FFFF)
    | some (m, 4) => some (.recipe (s.memB g (Fin.ofNat 32 m)) 0xFFFFFFFF)
    | _ => none

/-- The register of a lock group: on a worker it reads zero and refuses writes; an undefined group is unused (R482). -/
def State.regLg (s : State) (g : LgId) (off : Nat) : Option Reg :=
  if s.isWorker then (s.regLgAt g off).map fun _ => { wr := some fun k _ s => s.answer (s.me k) .recipeLocked }
  else Reg.when (s.lgUsed g) (s.regLgAt g off)

/-- The HIE block. -/
def State.regHie (s : State) (a : Nat) : Option Reg :=
  match a with
  | 0x240000 => some (.recipe s.hieCfg 0xE03F3F00)
  | 0x240004 => some (.ro s.hieStat)
  | 0x240008 => some (.cmd 0 hieCmdReg)
  | 0x240050 => some (.ro (mask32 0 fun a => s.hie.workers[(Fin.ofNat 64 a : Fin 64)].lost))
  | 0x240054 => some (.ro (mask32 32 fun a => s.hie.workers[(Fin.ofNat 64 a : Fin 64)].lost))
  | 0x240400 => some (.ro (mask32 0 fun k => s.hie.flags[(Fin.ofNat 64 k : FlagId)].val))
  | 0x240404 => some (.ro (mask32 32 fun k => s.hie.flags[(Fin.ofNat 64 k : FlagId)].val))
  | _ => match inArray a 0x240010 4 16, inArray a 0x240104 4 62, inArray a 0x240200 4 32, inArray a 0x240300 4 64,
      inArray a 0x241000 0x200 16 with
    | some (j, 0), _, _, _, _ => some (.recipe (s.rw secHIER 2 0 j) 0xFFFFFFFF)
    | _, some (i, 0), _, _, _ => some (.ro (s.wstat (Fin.ofNat 64 (i + 1))))
    | _, _, some (p, 0), _, _ => some (.recipe (s.rw secHIER 3 p 0) 0xC000FFFF)
    | _, _, _, some (k, 0), _ =>
      some { val := (s.xfWord (Fin.ofNat 64 k) &&& 0xC03F07FF) ||| word (flagAt (s.flagDown (Fin.ofNat 64 k)) 29), rs := 0xC03F07FF }
    | _, _, _, _, some (g, off) => s.regLg (Fin.ofNat 16 g) off
    | _, _, _, _, _ => none

/-! ### CLP -/

/-- CLP_STAT.UPST and DNST. -/
def State.linkSt (s : State) (down : Side) : Nat :=
  if !s.linkUsed down then 0 else if (s.link down).down then 1 else if (s.link down).failed then 2 else 3

/-- The CLP block. -/
def State.regClp (s : State) (a : Nat) : Option Reg :=
  let h := s.hie
  match a with
  | 0x248000 => some (.ro (put (s.linkSt false) 30 2 + put (s.linkSt true) 28 2 + flagAt h.dlyOk 27 + flagAt h.srcOk 26))
  | 0x248004 => some (.ro (put h.cumdly 0 24))
  | 0x248008 => some (.ro (put h.tat 16 16 + put (satNat 65535 s.hopDelay) 0 16))
  | 0x24800C => some (.ro (put h.crcErr 24 8 + put h.echoFail 16 8 + put h.echoRej 8 8 + put h.bmiss 0 8))
  | 0x248010 => some (.ro s.fbound)
  | _ => none

/-! ### CAN -/

/-- A write of CANn_CTRL: its three fields together. Whether a frame is in progress on the bus is a free value. -/
def State.writeCanCtrl (s : State) (c : CanId) (v : Word) : State × Status :=
  let m := bits v 0 2
  if 1 < m then (s, .limit)
  else if m = 1 ∧ c = 3 ∧ s.inHier then (s, .recipeLocked)
  else if bit v 8 && s.can[c].st != .busOff then (s, .notReady)
  else
    let s := if bit v 9 then s.cmdClrcnt c else s
    let s := if bit v 8 then (s.cmdRecover c).1 else s
    let r := s.freeBool
    r.1.cmdOpmode c m r.2

/-- The gate of a session's own staging set (R258, R337). -/
def gStage (g : SessId) (k : SessId) (s : State) : Status := if k = g then s.gate k rightCANTX else .denied

/-- A write of CANn_TXSs_CMD. -/
def txCmdReg (c : CanId) (g : SessId) (k : SessId) (v : Word) (s : State) : Out :=
  if k ≠ g then .next (s.answer (s.me k) .denied)
  else match bits v 0 4 with
    | 0 => noOp (gStage g) .ok k s
    | 1 => execEnqueue c k s
    | 2 => execAbort c (bits v 16 16) k s
    | 3 => execAbortAll c k s
    | 4 => execAbortEnq c k s
    | _ => noOp (gStage g) .limit k s

/-- The staging registers set. -/
def State.setStage (s : State) (c : CanId) (g : SessId) (f : Stage → Stage) : State × Status :=
  (s.setCan c fun x => { x with stages := upd x.stages g f }, .ok)

/-- The register of a staging set at an offset. -/
def State.regStageAt (s : State) (c : CanId) (g : SessId) (off : Nat) : Option Reg :=
  let x := s.can[c].stages[g]
  match off with
  | 0x00 => some (.rw x.id (gStage g) fun v s => s.setStage c g fun y => { y with id := v &&& 0xDFFFFFFF })
  | 0x04 => some (.rw x.ctl (gStage g) fun v s => s.setStage c g fun y => { y with ctl := v &&& 0xFFFFFE0F })
  | 0x08 => some (.cmd 0 (txCmdReg c g))
  | 0x0C => some (.ro (put x.lasth 16 16 + put x.doneh 0 16))
  | 0x10 => some (.ro (put x.sent 16 16 + put x.notSent 0 16))
  | _ => match inArray off 0x40 4 16 with
    | some (i, 0) => some (.rw (x.d[Fin.ofNat 16 i]) (gStage g) fun v s =>
        s.setStage c g fun y => { y with d := y.d.set (Fin.ofNat 16 i) v })
    | _ => none

/-- A register of another session's staging set reads and writes DENIED (R258). -/
def State.regStage (s : State) (c : CanId) (g : SessId) (off : Nat) : Option Reg :=
  (s.regStageAt c g off).map fun r =>
    { r with rd := some fun k s => (s, if k = g then .ok r.val else .error .denied),
             wr := some fun k v s => match r.wr with
               | some f => if k = g then f k v s else s.answer (s.me k) .denied
               | none => s.answer (s.me k) (if k = g then .ok else .denied) }

/-- The register of a receive buffer at an offset. -/
def RxBuf.reg (b : RxBuf) (off : Nat) : Option Reg :=
  match off with
  | 0x00 => some { val := b.id }
  | 0x04 => some { val := b.ctl }
  | 0x08 => some { val := b.tsf }
  | 0x0C => some { val := b.tss }
  | _ => match inArray off 0x10 4 16 with
    | some (i, 0) => some (.ro (ofLe (fit 4 (b.d.drop (4 * i)))))
    | _ => none

/-- RXND and RXOVW: a 1 clears. -/
def State.clearRx (s : State) (c : CanId) (ovw high : Bool) (v : Word) : State × Status :=
  let m : BitVec 64 := BitVec.ofNat 64 (v.toNat * (if high then 2 ^ 32 else 1))
  (s.setCan c fun x => if ovw then { x with ovw := x.ovw &&& ~~~m } else { x with nd := x.nd &&& ~~~m }, .ok)

/-- CANn_STAT. -/
def Can.stat (x : Can) : Nat :=
  put x.tec 23 9 + put (satNat 255 x.rec_) 14 8 + flagAt x.warn 11 + flagAt x.recPend 10 + flagAt x.op 8 + put x.st.code 0 3

/-- CANn_TXQ. -/
def State.txqReg (s : State) (c : CanId) : Nat :=
  let x := s.can[c]
  put (match x.queue with | e :: _ => e.handle | [] => 0) 16 16 + flagAt x.inTx 15 + flagAt (x.st == .busOff) 14
    + put x.queue.length 8 6 + put (s.rtFill c) 0 3

/-- The register of controller `c` at an offset. -/
def State.regCanAt (s : State) (c : CanId) (off : Nat) : Option Reg :=
  let x := s.can[c]
  let w1c (bits_ : BitVec 64) (ovw high : Bool) : Option Reg :=
    some (.rw (word (bits_.toNat / (if high then 2 ^ 32 else 1))) gParam fun v s => s.clearRx c ovw high v)
  match off with
  | 0x000 => some (.recipe (s.canWord c 0) 0xFF700FFF)
  | 0x004 => some (.recipe (s.canWord c 1) 0xFFFFFFF0)
  | 0x008 => some (.recipe (s.canWord c 2) 0xFFFFC000)
  | 0x00C => some { val := (s.canWord c 3 &&& 0x7F0000) ||| word (flagAt x.tdcv.isSome 31 + put (x.tdcv.getD 0) 0 7), rs := 0x7F0000 }
  | 0x010 => some (.rw (word (flagAt x.opReq 0)) gCommand fun v s => s.writeCanCtrl c v)
  | 0x014 => some (.ro x.stat)
  | 0x018 => if c = 3 then some (.cmd (word (put x.ewlr 8 8 + put x.ewlt 0 8)) fun k v => execCanEwlWrite c v k) else none
  | 0x01C => some (.ro (put x.eBit 24 8 + put x.eStuff 16 8 + put x.eForm 8 8 + put x.eAck 0 8))
  | 0x020 => some (.ro (put x.eCrc 24 8 + put x.ePxe 16 8 + put x.eOff 8 8 + put x.eNo 0 8))
  | 0x024 => some (.ro (s.txqReg c))
  | 0x028 => some (.ro (flagAt x.addr.isSome 31 + flagAt x.cannot 30 + put (x.addr.getD 0xFE) 0 8))
  | 0x02C => some (.recipe (s.canWord c 4) 0xFFFFFF00)
  | 0x030 => some (.recipe (s.canWord c 5) 0xFFFFFFFF)
  | 0x034 => some (.recipe (s.canWord c 6) 0xFFFFFFFF)
  | 0x040 => w1c x.nd false false
  | 0x044 => w1c x.nd false true
  | 0x048 => w1c x.ovw true false
  | 0x04C => w1c x.ovw true true
  | 0x050 => some (.ro (((idx 8).map fun i => flagAt x.tp[i].busy (8 + i.val) + flagAt x.tp[i].done i.val).foldl (· + ·) 0))
  | 0x054 => some (.cmd 0 fun k v => execCanMsgrel c v k)
  | _ => match inArray off 0x400 0x100 4, inArray off 0x1000 0xC 128, inArray off 0x2000 0x50 64 with
    | some (g, o), _, _ => s.regStage c (Fin.ofNat 4 g) o
    | _, some (f, o), _ =>
      if o % 4 = 0 then
        some (.recipe (s.rw secCAN 2 (128 * c.val + f) (o / 4))
          (match o / 4 with | 0 => 0xDFFFFFFF | 1 => 0xDFFFFFFF | _ => 0xC000003F))
      else none
    | _, _, some (b, o) => x.bufs[(Fin.ofNat 64 b : Fin 64)].reg o
    | _, _, _ => none

/-- The CAN block. -/
def State.regCan (s : State) (a : Nat) : Option Reg :=
  match inArray a 0x280000 0x4000 4 with
  | some (c, off) => s.regCanAt (Fin.ofNat 4 c) off
  | none => none

end Sys2Proof.Machine
end

