-- ==== Sys2Proof/Machine/RegPorts.lean ====
section
/-! DEFINITION. The registers of the PRT, SOL and FAN blocks. -/

namespace Sys2Proof.Machine

open Sys2Proof

/-! ### PRT -/

/-- PRTn_STAT. -/
def State.prtStat (s : State) (p : PortId) : Nat :=
  let x := s.ports[p]
  let y := s.sol.ports[p]
  put x.tj 16 8 + flagAt y.pend.isSome 11 + flagAt (y.active.isSome || y.phase != .idle) 10 + flagAt (s.ruleForced (s.lead p)).isSome 9
    + flagAt x.enabled 8 + put x.status.code 0 4

/-- PRTn_DUTY: the owner of the Recipe, or an interlock forced value. -/
def State.prtDuty (s : State) (p : PortId) : Nat :=
  let own := if (s.ruleForced (s.lead p)).isSome then 5 else s.ownerKind p
  put (s.ownerIdx p) 24 7 + put own 16 4 + put s.ports[p].duty 0 16

/-- A write of PRTn_CMD. -/
def portCmd (p : PortId) (k : SessId) (v : Word) (s : State) : Out :=
  match bits v 0 4 with
  | 0 => noOp gCommand .ok k s
  | 1 => execPortCmdOn p (bits v 16 16) (s.me k) s
  | 2 => execPortCmdOff p (s.me k) s
  | _ => noOp gCommand .limit k s

/-- The register of port `p` at an offset. -/
def State.regPort (s : State) (p : PortId) (off : Nat) : Option Reg :=
  let x := s.ports[p]
  match off with
  | 0x000 => some (.recipe (s.portCfg p 0) 0x0F3CF11F)
  | 0x004 => some (.cmd 0 (portCmd p))
  | 0x008 => some (.ro (s.prtStat p))
  | 0x00C => some (.cmd (word (put x.retryCnt 12 4 + x.fault.toNat)) fun k v => execPortFaultClear p v k)
  | 0x010 => some (.cmd x.per fun k v => execPortPwmPerWrite p v k)
  | 0x014 => some (.cmd x.ph fun k v => execPortPwmPhWrite p v k)
  | 0x018 => some (.ro (s.prtDuty p))
  | 0x01C => some (.ro (satNat 65535 x.iPeak * 65536 + twos 16 x.iNow))
  | 0x020 => some (.ro (satNat 65535 x.vbank * 65536 + satNat 65535 x.vpin))
  | 0x024 => some { val := s.invalOf p }
  | 0x028 => some (.ro (flagAt x.stale 31 + satNat (2 ^ 31 - 1) (s.freq p)))
  | 0x02C => some (.recipe (s.portCfg p 1) 0xFF00FFC0)
  | 0x030 => some (.recipe (s.portCfg p 2) 0xFFFFFFFF)
  | 0x034 => some (.recipe (s.portCfg p 3) 0xFFFF0000)
  | _ => none

/-! ### SOL -/

/-- SOL_PSTATn. -/
def State.solPstat (s : State) (p : PortId) : Nat :=
  let y := s.sol.ports[p]
  put (shownTemp y.tcu) 24 8 + put (shownTemp y.th) 16 8 + flagAt y.hot 15 + flagAt y.hitref 14
    + put (match y.pend with | some d => d.kind.code | none => 0) 12 2 + put (bandOf y.tcu).val 8 4 + put y.phase.code 0 3

/-- SOL_MOPENn and SOL_MCLOSEn. -/
def MeasReg.reg (m : MeasReg) : Nat := put m.res.code 28 4 + put m.band 24 4 + put m.delay 0 24

/-- The SOL register of port `p` at an offset; zero for a function other than 0x01 and 0x02. -/
def State.regSolPort (s : State) (p : PortId) (off : Nat) : Option Reg :=
  let z (r : Reg) : Option Reg := some (if isSolFunc (s.func p) then r else { r with val := 0 })
  match off with
  | 0x00 => z (.recipe (s.portCfg p 6) 0x3F3FFFFF)
  | 0x04 => z (.recipe (s.portCfg p 7) 0xFFFFFF00)
  | 0x08 => z (.recipe (s.portCfg p 8) 0xFFFFFFFF)
  | 0x0C => z (.ro (s.solPstat p))
  | 0x10 => z (.ro s.sol.ports[p].mopen.reg)
  | 0x14 => z (.ro s.sol.ports[p].mclose.reg)
  | _ => none

/-- The register of a shared group at an offset. -/
def State.regGroup (s : State) (g : GroupId) (off : Nat) : Option Reg :=
  let x := s.sol.groups[g]
  let waits := (s.groupMembers g).foldl (fun (a : Nat) p => if s.waits p then a + 2 ^ (p.val % 8) else a) 0
  match off with
  | 0x0 => some (.recipe (s.rw secPORTMAP 3 g.val 0) 0xFFFFFF07)
  | 0x4 => some (.ro (put (s.groupPlanned g) 16 16 + waits))
  | 0x8 => some (.ro (put x.deferred 16 16 + put x.timeouts 0 16))
  | _ => none

/-- The register of a profile template at an offset. -/
def State.regTemplate (s : State) (m off : Nat) : Option Reg :=
  match off with
  | 0x0 | 0x4 | 0x8 => some (.recipe (s.rw secPROFILES 1 m (off / 4)) 0xFFFFFFFF)
  | 0xC => some (.recipe (s.rw secPROFILES 1 m 3) 0xFFFF0003)
  | _ => none

/-- The SOL block. -/
def State.regSol (s : State) (a : Nat) : Option Reg :=
  match inArray a 0x140000 0x10 64, inArray a 0x141000 0x20 32, inArray a 0x141800 0x10 8 with
  | some (m, off), _, _ => s.regTemplate m off
  | _, some (p, off), _ => s.regSolPort (Fin.ofNat 32 p) off
  | _, _, some (g, off) => s.regGroup (Fin.ofNat 8 g) off
  | none, none, none =>
    match a with
    | 0x141400 => some (.cmd (word (put s.sol.selPort.val 8 5 + put s.sol.selBand 0 4)) fun k v => execSolDselWrite v k)
    | 0x141404 => some { val := s.sol.dopen }
    | 0x141408 => some { val := s.sol.dclose }
    | 0x14140C => some { val := s.sol.dspread }
    | 0x141410 => some (.cmd (word (flagAt s.sol.allBands 16)) fun k v => execSolDclr v k)
    | _ => none

/-! ### FAN -/

/-- A write of FANn_CMD. -/
def fanCmdReg (f : FanId) (k : SessId) (v : Word) (s : State) : Out :=
  match bits v 0 4 with
  | 0 => noOp gCommand .ok k s
  | 1 => execEnable f k s
  | 2 => execDisable f k s
  | 3 => execTest f k s
  | 4 => execRestart f k s
  | _ => noOp gCommand .limit k s

/-- The register of a fan controller at an offset. -/
def State.regFanAt (s : State) (f : FanId) (off : Nat) : Option Reg :=
  let x := s.fan.fans[f]
  match off with
  | 0x00 => some (.recipe (s.fanW f 0) 0x9F1FC07F)
  | 0x04 => some (.recipe (s.fanW f 1) 0xFFFFFF00)
  | 0x08 => some (.recipe (s.fanW f 2) 0xFFFFFF0F)
  | 0x0C => some (.recipe (s.fanW f 3) 0xFFFFFF00)
  | 0x10 => some (.recipe (s.fanW f 4) 0xFFFFFFFF)
  | 0x14 | 0x18 | 0x1C | 0x20 => some (.recipe (s.fanW f (off / 4)) 0xFFFF)
  | 0x24 => some (.cmd 0 (fanCmdReg f))
  | 0x28 => some (.cmd (word (flagAt x.man 31 + put x.mduty 0 8)) fun k v => execFanMdutyWrite f v k)
  | 0x2C => some (.cmd x.htemp fun k v => execFanHtempWrite f v k)
  | 0x30 => some (.ro (x.stat (s.fanAged f)))
  | 0x34 => some (.ro (twos 16 x.tempReg * 65536 + put x.target 0 16))
  | 0x38 => some (.ro (put x.testRes 30 2 + (if x.testRes = 1 then put x.testMs 0 16 else 0)))
  | 0x3C => some (.ro (flagAt x.age.baseline.isNone 31 + put x.age.hours 16 15 + put x.age.index 0 16))
  | 0x40 => some (.cmd 0 fun k v => execFanAgeclr f v k)
  | _ => match inArray off 0x80 4 16 with
    | some (i, 0) => some { val := s.fanTbl f i, rs := 0xFFFFFFFF }
    | _ => none

/-- The FAN block. -/
def State.regFan (s : State) (a : Nat) : Option Reg :=
  match inArray a 0x150000 0x100 8 with
  | some (n, off) => Reg.when (s.fanUsed (Fin.ofNat 8 n)) (s.regFanAt (Fin.ofNat 8 n) off)
  | none => if a = 0x150800 then some (.ro (flagAt s.fan.sfault 3 + flagAt s.fan.trip 2 + put s.fan.tt 0 2)) else none

end Sys2Proof.Machine
end

