-- ==== Sys2Proof/Machine/HostNet.lean ====
section
/-! DEFINITION. The network settings and the link state of the 100BASE-T1 host link (R324 to R326). -/

namespace Sys2Proof.Machine

open Sys2Proof

/-- An event of R353 that concerns the link itself. -/
def State.hlEmit (s : State) (code : Nat) (k : Option SessId) (a b : Nat) : State :=
  s.emit { State.linkEv code 0xFF 0 Config.noContext (ownerByte k) a b s with session := k }

/-- HLK_CMD.SAVE (R325). -/
def State.saveNet (s : State) (k : SessId) : State × Status :=
  ((s.onHl fun h => { h with saved := h.regs }).hlEmit 0x0407 (some k) s.hl.regs.ip.toNat s.hl.regs.cfg.toNat, .ok)

/-- SAVE (R325). -/
def execSave (k : SessId) (s : State) : Out := .next (s.gated k (s.gateRws k rightSERVICE) fun s => s.saveNet k)

/-- HOST_LINK_DOWN: the link is lost or returns; its loss ends no session (R326). -/
def execHostLinkDown (up : Bool) (s : State) : Out :=
  .next (
    if up = s.hl.link then s
    else if up then
      (s.onHl fun h => { h with link := true, linkAt := s.tick }).hlEmit 0x0406 none (if bit s.hl.act.cfg 31 then 1 else 0) 0
    else
      (s.onHl fun h => { h with link := false }).hlEmit 0x0405 none ((s.tick - s.hl.linkAt) / 120000000) 0)

end Sys2Proof.Machine
end

