-- ==== Sys2Proof/Machine/RegSys.lean ====
section
/-! DEFINITION. The registers of the SYS, PWR, CLK, RCP, SEC, HLK, APU, DMA and REC blocks. -/

namespace Sys2Proof.Machine

open Sys2Proof

/-- Word `k` of bytes, little-endian; zero beyond them. -/
def wordAt (bs : List Byte) (k : Nat) : Reg := .ro (ofLe (fit 4 (bs.drop (4 * k))))

/-! ### SYS -/

/-- SYS_QSTATn (R28). -/
def State.qstatReg (s : State) (q : Fin 16) : Nat :=
  put s.sys.qstat[q].ovf 18 8 + put s.sys.qstat[q].hwm 9 9 + put (s.qFill q) 0 9

/-- SYS_MODE. -/
def State.modeReg (s : State) : Nat :=
  put s.rcp.head.allowed 16 3 + put s.rcp.head.dflt 10 2 + put s.sys.current.code 8 2 + flagAt s.sys.switching 4 + put s.sys.request.code 0 2

/-- The SYS block. -/
def State.regSystem (s : State) (a : Nat) : Option Reg :=
  let x := s.pwr
  match a with
  | 0x0 => some (.ro (0x4C320000 + put Config.order 8 8 + put Config.siliconRev 0 8))
  | 0x4 => some (.ro (put x.kind 28 4 + put x.prev 24 4 + put x.wsrc 20 4 + put x.detail 16 4))
  | 0x8 => some (.ro (put x.brown 24 8 + put x.lock 16 8 + put x.wdog 8 8 + put x.dom 0 8))
  | 0x40 => some { (Reg.cmd (word s.modeReg) fun k v => execModeRequest v k) with rs := 0x70C00 }
  | _ => match inArray a 0x100 4 16 with
    | some (q, 0) => some (.rw (word (s.qstatReg (Fin.ofNat 16 q))) gParam fun v s => s.writeQstat (Fin.ofNat 16 q) v)
    | _ => none

/-! ### PWR and CLK -/

/-- The start has reached row 5 of R434. -/
def State.pastRow5 (s : State) : Bool := s.pwr.runtime && (s.pwr.stoppedAt == 0 || decide (5 < s.pwr.stoppedAt))

/-- Domain Dk is powered (R430). -/
def State.powered (s : State) (d : Nat) : Bool :=
  match d with
  | 0 => true
  | 1 | 7 => s.pwr.phase == .run
  | 2 | 6 => s.pwr.runtime
  | 3 => s.rcp.applied
  | 4 => s.sys.pipeB
  | 5 => s.gnssOn
  | _ => s.pastRow5 && !s.banks[(Fin.ofNat 4 (d - 8) : BankId)].held

/-- PWR_STAT. -/
def State.pwrStat (s : State) : Nat :=
  flagAt s.pwr.warning 31 + flagAt s.pwr.orderly 30 + ((idx 4).map fun b => flagAt s.banks[b].held (24 + b.val)).foldl (· + ·) 0
    + ((List.range 12).map fun d => flagAt (s.powered d) d).foldl (· + ·) 0

/-- A write of PWR_CMD. -/
def pwrCmdReg (k : SessId) (v : Word) (s : State) : Out :=
  match bits v 0 4 with
  | 0 => noOp gParam .ok k s
  | 1 => execStandby k s
  | 2 => execSleep k s
  | _ => noOp gParam .limit k s

/-- The PWR block. -/
def State.regPwr (s : State) (a : Nat) : Option Reg :=
  let x := s.pwr
  match a with
  | 0x1000 => some (.ro s.pwrStat)
  | 0x1004 => some (.ro (put x.vkeep 16 16 + put x.vlogic 0 16))
  | 0x1008 => some (.cmd x.cfg fun k v => execPwrCfgWrite v k)
  | 0x100C => some (.cmd 0 pwrCmdReg)
  | 0x1010 => some (.rw x.alarm gParam fun v s => (s.onPwr fun x => { x with alarm := v }, .ok))
  | 0x1014 => some { val := word s.tmb.rtc, rd := some fun _ s => let r := s.readRtcl; (r.1, .ok r.2) }
  | 0x1018 => some { val := x.rtcHigh }
  | 0x101C => some (.ro (put (satNat 65535 x.dipMin) 16 16 + put (satNat 65535 x.dipMs) 0 16))
  | 0x1020 => some (.recipe (s.rw secLIMITS 4 0 0) 0xFFFF0000)
  | 0x1024 => some (.rw (word x.late.toNat) gParam fun v s => (s.onPwr fun x => { x with late := x.late &&& ~~~v }, .ok))
  | 0x1028 => some (.rw (word x.drop.toNat) gParam fun v s => (s.onPwr fun x => { x with drop := x.drop &&& ~~~v }, .ok))
  | _ => none

/-- CLK_DIV: the ENG and CORE dividers follow the mode in force (R408). -/
def State.clkDiv (s : State) : Nat := if s.sys.current = .simmer then 0x28CA0884 else 0x28CA0842

/-- A write of CLK_XCLR. -/
def xclrReg (k : SessId) (v : Word) (s : State) : Out := if bit v 0 then execXclr k s else noOp gParam .ok k s

/-- The CLK block. -/
def State.regClk (s : State) (a : Nat) : Option Reg :=
  let x := s.pwr
  match a with
  | 0x2000 => some (.ro (2 ^ 31 + flagAt x.tcxoOk 30 + flagAt x.aonOk 29))
  | 0x2004 => some (.ro s.clkDiv)
  | 0x2008 => some (.ro (put x.tcxo 0 25))
  | 0x200C => some (.cmd 0 xclrReg)
  | _ => match inArray a 0x2040 4 13 with
    | some (p, 0) =>
      let i : Fin 13 := Fin.ofNat 13 p
      some (.ro (put x.snap[i] 16 16 + put x.ovr[i] 8 8 + put x.csat[i] 0 8))
    | _ => none

/-! ### RCP -/

/-- A write of RCP_CMD. -/
def rcpCmdReg (k : SessId) (v : Word) (s : State) : Out :=
  match bits v 0 4 with
  | 0 => noOp (fun k s => s.gate k rightRECIPE) .ok k s
  | 1 => execWrite (if bit v 8 then .b else .a) k s
  | 2 => execDiscard k s
  | 3 => execRecipeRestart k s
  | 4 => execReload k s
  | _ => noOp (fun k s => s.gate k rightRECIPE) .limit k s

/-- The gate of RCP_WADDR, RCP_WLEN and RCP_CTRL. -/
def gRecipe (k : SessId) (s : State) : Status := s.gate k rightRECIPE

/-- The register of a slot at an offset. -/
def SlotState.reg (x : SlotState) (off : Nat) : Option Reg :=
  match off with
  | 0x00 => some (.ro (put x.status.code 29 3 + (if x.status = .invalid then put x.errc 12 4 + put x.sect 8 4 else 0)))
  | 0x04 => some (.ro (if x.status = .empty then 0 else x.rver))
  | 0x08 => some { val := x.rid }
  | _ => match inArray off 0x20 4 8 with
    | some (k, 0) => some (if x.status = .valid ∨ x.status = .inForce then wordAt x.digest k else .ro 0)
    | _ => none

/-- The RCP block. -/
def State.regRcp (s : State) (a : Nat) : Option Reg :=
  let x := s.rcp
  match a with
  | 0x10000 => some (.ro (flagAt x.applied 31 + flagAt (x.inForce == .b) 30 + put x.op.code 28 2 + put x.errc 12 4 + put x.sect 8 4))
  | 0x10004 => some (.cmd 0 rcpCmdReg)
  | 0x10008 => some (.rw x.waddr gRecipe fun v s => (s.onRcp fun x => { x with waddr := v }, .ok))
  | 0x1000C => some (.rw (word x.wlen) gRecipe fun v s =>
      if 1048576 < bits v 0 21 then (s, .limit) else (s.onRcp fun x => { x with wlen := bits v 0 21 }, .ok))
  | 0x10010 => some (.rw (word x.waitlim) gRecipe fun v s =>
      if bits v 0 16 = 0 then (s, .limit) else (s.onRcp fun x => { x with waitlim := bits v 0 16 }, .ok))
  | 0x10014 =>
    let held := ((idx 4).map fun q => flagAt (s.seq.seqs[q].st == .held) (8 + q.val)).foldl (· + ·) 0
    some (.ro (put x.phase.code 30 2 + held + put x.rldBanks 4 4 + put x.rldSeqs 0 4))
  | _ => match inArray a 0x10100 0x100 2 with
    | some (i, off) => x.slots[(Fin.ofNat 2 i : Fin 2)].reg off
    | none => none

/-! ### SEC -/

/-- The gate of SEC_ARG0, SEC_ARG1 and SEC_KEYINk: the right of some operation of SEC_CMD (R307, R337). -/
def gSec (k : SessId) (s : State) : Status :=
  if s.gateRt k = .ok then .ok else if s.gate k rightATTEST = .ok then .ok else s.gate k rightDEBUG

/-- A write of SEC_CMD. -/
def secCmdReg (k : SessId) (v : Word) (s : State) : Out :=
  let i : Fin 4 := Fin.ofNat 4 (bits v 8 2)
  match bits v 0 4 with
  | 0 => noOp gSec .ok k s
  | 1 => execFuse i k s
  | 2 => execRevoke i k s
  | 3 => execHkeyInstall k s
  | 4 => execRotate k s
  | 5 => execAttest k s
  | 6 => execDbgChallenge k s
  | 7 => execDbgUnlock k s
  | 8 => execDbgLock k s
  | 9 => execTamperAck k s
  | 10 => if i.val < 2 then execRtWrite (Fin.ofNat 2 i.val) k s else noOp gSec .limit k s
  | 11 => execSecClose k s
  | _ => noOp gSec .limit k s

/-- Minutes to the end of a session under R315 cause 2. -/
def State.sessLeft (s : State) (k : SessId) : Nat :=
  let x := s.sec.sessions[k]
  let life : Rat := (((x.openAt + x.lifetime * 7200000000 : Nat) : Rat) - ((s.tick : Nat) : Rat)) / 7200000000
  let cert : Rat := (((x.notAfter : Nat) : Rat) - ((s.secs : Nat) : Rat)) / 60
  if x.isOpen then (clampInt 0 65535 (shown 315 (if s.timed then min life cert else life))).toNat else 0

/-- The registers of a session number. -/
def State.regSess (s : State) (k : SessId) (off : Nat) : Option Reg :=
  let x := s.sec.sessions[k]
  let port := match x.peer with | .eth _ _ => false | .can _ => true
  match off with
  | 0x0 => some (.ro (if x.st = .free then 0 else
      put x.st.code 30 2 + put (roleByte x.role) 28 2 + put x.kslot 26 2 + flagAt port 25 + s.sessLeft k))
  | 0x4 => some (.ro (x.serial % 2 ^ 32))
  | 0x8 => some (.ro (if x.isOpen then x.rights.toNat else 0))
  | _ => none

/-- SEC_STAT. -/
def State.secStat (s : State) : Nat :=
  let x := s.sec
  flagAt s.claimed 31 + flagAt x.tamper 30 + flagAt x.aonLost 29 + flagAt x.root.isSome 28
    + ((idx 4).map fun k => flagAt x.sessions[k].isOpen (4 + k.val)).foldl (· + ·) 0
    + put ((idx 4).filter fun k => x.sessions[k].st == .handshake).length 0 4

/-- SEC_DBG. -/
def State.dbgReg (s : State) : Nat :=
  let x := s.sec
  let left : Rat := (((x.dbgAt + x.duration * 7200000000 : Nat) : Rat) - ((s.tick : Nat) : Rat)) / 7200000000
  put x.dbg.code 30 2 + put x.scope 28 2 + (if x.dbg = .unlocked then (clampInt 0 65535 (shown 320 left)).toNat else 0)

/-- The SEC block. -/
def State.regSec (s : State) (a : Nat) : Option Reg :=
  let x := s.sec
  match a with
  | 0x20020 => some (.ro s.secStat)
  | 0x20024 => some (.ro (((idx 4).map fun k => put x.slots[k].st.code (2 * k.val) 2).foldl (· + ·) 0))
  | 0x20200 => some (.cmd 0 secCmdReg)
  | 0x20204 => some (.rw x.arg0 gSec fun v s => (s.onSec fun x => { x with arg0 := v }, .ok))
  | 0x20208 => some (.rw x.arg1 gSec fun v s => (s.onSec fun x => { x with arg1 := v }, .ok))
  | 0x20300 => some (.ro (x.epoch % 2 ^ 32))
  | 0x20304 => some (.ro s.dbgReg)
  | 0x20340 => some (.ro (put (satNat 65535 x.afail) 16 16 + put x.rpl 8 8 + put x.malf 0 8))
  | 0x20344 => some (.ro (put (if s.pwr.runtime then x.images[x.running].version else 0) 16 16 + put x.rbFloor 0 16))
  | _ => match inArray a 0x20000 4 8, inArray a 0x20040 0x20 4, inArray a 0x20100 0x10 4, inArray a 0x20220 4 9, inArray a 0x20320 4 8 with
    | some (k, 0), _, _, _, _ => some (if s.linked then wordAt deviceId k else .ro 0)
    | _, some (k, o), _, _, _ => if o % 4 = 0 then some (wordAt x.slots[(Fin.ofNat 4 k : Fin 4)].hash (o / 4)) else none
    | _, _, some (k, o), _, _ => s.regSess (Fin.ofNat 4 k) o
    | _, _, _, some (j, 0), _ =>
      some { wr := some fun k v s => s.gated k (gSec k s) fun s =>
        (s.setSess k fun x => { x with keyin := x.keyin.set (Fin.ofNat 9 j) v }, .ok) }
    | _, _, _, _, some (k, 0) => some (wordAt x.challenge k)
    | _, _, _, _, _ => none

/-! ### HLK -/

/-- A write of HLK_CMD. -/
def hlkCmdReg (k : SessId) (v : Word) (s : State) : Out := if bit v 0 then execSave k s else noOp gService .ok k s

/-- A network setting written. -/
def State.setNet (s : State) (f : NetCfg → NetCfg) : State × Status := (s.onHl fun h => { h with regs := f h.regs }, .ok)

/-- The HLK block. -/
def State.regHlk (s : State) (a : Nat) : Option Reg :=
  let h := s.hl
  let mac := Config.mac
  let be (bs : List Byte) : Nat := bs.foldl (fun (n : Nat) (b : Byte) => 256 * n + b.toNat) 0
  match a with
  | 0x30000 => some (.ro (flagAt h.link 31 + flagAt (bit h.act.cfg 31) 30 + flagAt (h.act.ip == 0) 29))
  | 0x30004 => some (.ro (be (fit 2 mac)))
  | 0x30008 => some (.ro (be (fit 4 (mac.drop 2))))
  | 0x3000C => some (.rw h.regs.cfg gService fun v s =>
      if bits v 0 16 < 1024 then (s, .limit) else s.setNet fun n => { n with cfg := v &&& 0xC000FFFF })
  | 0x30010 => some (.rw h.regs.ip gService fun v s => s.setNet fun n => { n with ip := v })
  | 0x30014 => some (.rw h.regs.gw gService fun v s => s.setNet fun n => { n with gw := v })
  | 0x30018 => some (.rw h.regs.net gService fun v s =>
      if bits v 0 6 < 8 || 30 < bits v 0 6 then (s, .limit) else s.setNet fun n => { n with net := v &&& 0x3F })
  | 0x3001C => some (.ro s.ipAct)
  | 0x30020 => some (.cmd 0 hlkCmdReg)
  | 0x30024 => some (.ro (((idx 4).map fun k => put (s.inFlight k) (8 * k.val) 5).foldl (· + ·) 0))
  | 0x30028 => some (.ro (put h.rxok 16 16 + put h.disc 8 8 + put h.canseg 0 8))
  | _ => none

/-! ### APU -/

/-- Entry `i` as a session reads it: zero where it belongs to another session or its channels. -/
def State.entFor (s : State) (k : SessId) (i : EntId) : Option ApuEntry :=
  match s.apu.ents[i] with
  | some e =>
    let other := if e.ctx < 4 then e.ctx != k.val
      else if e.ctx < 12 then (match s.dma.ch[(Fin.ofNat 8 (e.ctx - 4) : Fin 8)].owner with | some o => o != k | none => false)
      else false
    if other then none else some e
  | none => none

/-- The words of an entry. -/
def ApuEntry.word (e : ApuEntry) (off : Nat) : Nat :=
  match off with
  | 0x0 => 2 ^ 31 + put e.ctx 24 4 + flagAt e.r 23 + flagAt e.w 22 + flagAt e.sys 21 + put e.pages 0 13
  | 0x4 => put e.win 12 20
  | _ => put e.tgt 12 20

/-- A register that only a session's own access reaches. -/
def Reg.own (g : SessId) (r : Reg) : Reg :=
  { r with rd := some fun k s => (s, if k = g then .ok r.val else .error .denied),
           wr := some fun k v s => match r.wr with
             | some f => if k = g then f k v s else s.answer (s.me k) .denied
             | none => s.answer (s.me k) (if k = g then .ok else .denied) }

/-- The gate of the APU and DMA registers. -/
def gDma (k : SessId) (s : State) : Status := s.gate k rightDMA

/-- A write of APU_CMDs. -/
def apuCmdReg (k : SessId) (v : Word) (s : State) : Out :=
  match bits v 0 4 with
  | 0 => noOp gDma .ok k s
  | 1 => execGrant k s
  | 2 => execFree (Fin.ofNat 256 (bits v 16 8)) k s
  | 3 => execFreeall k s
  | _ => noOp gDma .limit k s

/-- The register of a request set at an offset. -/
def State.regReq (s : State) (g : SessId) (off : Nat) : Option Reg :=
  let q := s.apu.reqs[g]
  let set (f : Word → ReqSet → ReqSet) : Word → State → State × Status := fun v s => (s.setReq g (f v), .ok)
  match off with
  | 0x00 => some ((Reg.rw q.ctl gDma fun v s =>
      if 5 < bits v 28 4 then (s, .limit) else set (fun v q => { q with ctl := v &&& 0xF0C01FFF }) v s).own g)
  | 0x04 => some ((Reg.rw q.win gDma (set fun v q => { q with win := v &&& 0xFFFFF000 })).own g)
  | 0x08 => some ((Reg.rw q.tgt gDma (set fun v q => { q with tgt := v &&& 0xFFFFF000 })).own g)
  | 0x0C => some ((Reg.cmd 0 apuCmdReg).own g)
  | 0x10 => some ((Reg.ro (put q.res 0 8)).own g)
  | _ => none

/-- The APU block. -/
def State.regApu (s : State) (a : Nat) : Option Reg :=
  let used := s.apu.ents.toList.filterMap id
  match inArray a 0x34000 0x10 256, inArray a 0x35000 0x20 4 with
  | some (i, off), _ =>
    if off % 4 = 0 ∧ off < 0xC then
      some { rd := some fun k s => (s, .ok (match s.entFor k (Fin.ofNat 256 i) with | some e => word (e.word off) | none => 0)) }
    else none
  | _, some (g, off) => s.regReq (Fin.ofNat 4 g) off
  | none, none =>
    if a = 0x35100 then
      some (.ro (put (used.filter fun e => decide (4 ≤ e.ctx) && decide (e.ctx < 12)).length 16 9 + put used.length 0 9))
    else none

/-! ### DMA -/

/-- A write of DMA_CHn_CMD. -/
def dmaCmdReg (n : ChId) (k : SessId) (v : Word) (s : State) : Out :=
  match bits v 0 4 with
  | 0 => noOp gDma .ok k s
  | 1 => execClaim n k s
  | 2 => execDmaRelease n k s
  | 3 => execDmaStart n k s
  | 4 => execDmaAbort n k s
  | _ => noOp gDma .limit k s

/-- A write of DMA_CHn_RESUME. -/
def dmaGoReg (n : ChId) (k : SessId) (v : Word) (s : State) : Out := if bit v 0 then execResume n k s else noOp gDma .ok k s

/-- DMA_CHn_STAT. -/
def DmaCh.stat (c : DmaCh) (n : ChId) : Nat :=
  let st := match c.st with
    | .run => 2
    | .fault => 3
    | .idle => if c.owner.isNone && decide (n.val < 6) then 0 else 1
  put st 29 3 + (if c.st = .fault then put (match c.cause with | some x => x.code | none => 0) 26 3 else 0)
    + flagAt c.realTime 25 + flagAt c.recQ 24 + flagAt c.owner.isSome 23 + put (match c.owner with | some k => k.val | none => 0) 18 2

/-- The register of channel `n` at an offset. -/
def State.regCh (s : State) (n : ChId) (off : Nat) : Option Reg :=
  let c := s.dma.ch[n]
  match off with
  | 0x00 => some (.ro (c.stat n))
  | 0x04 => some (.rw c.descA gDma fun v s => (s.setCh n fun c => { c with descA := v &&& 0xFFFFFFE0 }, .ok))
  | 0x08 => some (.cmd 0 (dmaCmdReg n))
  | 0x0C => some (.cmd 0 (dmaGoReg n))
  | 0x10 => some (.ro c.cur)
  | 0x14 => some (.ro c.prog)
  | 0x18 => some (.ro (if c.st = .fault then c.faddr else 0))
  | 0x1C => some (.cmd (word c.rdptr) fun k v => execRdptrWrite n v k)
  | 0x20 => some (.ro c.wrptr)
  | 0x24 => some (.ro (put c.descs 16 16 + put c.faults 0 16))
  | _ => none

/-- The DMA block. -/
def State.regDma (s : State) (a : Nat) : Option Reg :=
  match inArray a 0x38000 0x40 8 with
  | some (n, off) => s.regCh (Fin.ofNat 8 n) off
  | none =>
    if a = 0x38400 then
      some (.ro (put s.dma.eccCor 16 16 + ((idx 8).map fun n => flagAt (s.chReady n) n.val).foldl (· + ·) 0))
    else none

/-! ### REC -/

/-- The gate of the REC block. -/
def gRecord (k : SessId) (s : State) : Status := s.gate k rightRECORD

/-- REC_STAT. -/
def State.recStat (s : State) : Nat :=
  let x := s.log
  flagAt x.ready 31 + flagAt s.pwr.warning 29 + flagAt x.keepFull 28 + flagAt s.lostBucket.isSome 27 + put x.keep.length 0 13

/-- The REC block. -/
def State.regRec (s : State) (a : Nat) : Option Reg :=
  let x := s.log
  match a with
  | 0x380000 => some (.ro s.recStat)
  | 0x380004 => some (.ro (if x.any then x.headSeq else 0))
  | 0x380008 => some (.ro x.oldest)
  | 0x38000C => some (.ro (x.ops % 2 ^ 32))
  | 0x380010 => some (.ro (put x.cycle 0 24))
  | 0x380014 => some (.ro (put x.lostCnt 16 16 + put x.supprCnt 0 16))
  | 0x380040 => some (.rw x.cur gRecord fun v s => (s.onLog fun x => { x with cur := v }, .ok))
  | 0x380044 => some (.rw (word (flagAt x.area 31 + flagAt x.auto 30 + put x.kidx 0 12)) gRecord fun v s =>
      (s.onLog fun x => { x with area := bit v 31, auto := bit v 30, kidx := bits v 0 12 }, .ok))
  | 0x3800C0 => some { rd := some fun _ s => s.readWinseq }
  | _ => match inArray a 0x380020 4 8, inArray a 0x380080 4 16, inArray a 0x381000 4 1024, inArray a 0x382000 4 1024 with
    | some (k, 0), _, _, _ => some (wordAt x.chain k)
    | _, some (w, 0), _, _ => some { rd := some fun _ s => (s, s.readWin (Fin.ofNat 16 w)) }
    | _, _, some (k, 0), _ => some (.recipe (s.bkt k) 0xFFFFFF87)
    | _, _, _, some (k, 0) =>
      let b := (assoc k x.buckets).getD {}
      some (.ro (put (satNat 65535 b.sup) 16 16 + put (satNat 65535 b.lost) 0 16))
    | _, _, _, _ => none

end Sys2Proof.Machine
end

