-- ==== Sys2Proof/Machine/RegMap.lean ====
section
/-! DEFINITION. The register map as a whole, and one word read or written by a session (R5 to R8, R35, R330, R335, R482). -/

namespace Sys2Proof.Machine

open Sys2Proof

/-- The register at an address, by the block that holds it (R35). -/
def State.regAt (s : State) (a : Nat) : Option Reg :=
  if a < 0x1000 then s.regSystem a
  else if a < 0x2000 then s.regPwr a
  else if a < 0x10000 then s.regClk a
  else if a < 0x20000 then s.regRcp a
  else if a < 0x30000 then s.regSec a
  else if a < 0x34000 then s.regHlk a
  else if a < 0x38000 then s.regApu a
  else if a < 0x100000 then s.regDma a
  else if a < 0x140000 then
    (match inArray a 0x100000 0x1000 32 with
      | some (p, off) => s.regPort (Fin.ofNat 32 p) off
      | none => none)
  else if a < 0x150000 then s.regSol a
  else if a < 0x180000 then s.regFan a
  else if a < 0x200000 then s.regCen a
  else if a < 0x210000 then s.regTmb a
  else if a < 0x240000 then s.regGns a
  else if a < 0x248000 then s.regHie a
  else if a < 0x280000 then s.regClp a
  else if a < 0x300000 then s.regCan a
  else if a < 0x340000 then s.regSct a
  else if a < 0x380000 then s.regSeq a
  else if a < 0x3C0000 then s.regRec a
  else if a < 0x3E0000 then s.regMon a
  else if a < 0x400000 then s.regCal a
  else none

/-- The SRAM word at an address of a session, or the status of its access. -/
def State.sramAt (s : State) (k : SessId) (a : Nat) (write : Bool) : Except Status Nat :=
  match s.aperture k a write with
  | .ok => match s.translate k.val a write with
    | .ok t => .ok t
    | .error _ => .error .denied
  | st => .error st

/-- A write that would change an RS field (R7). -/
def Reg.locks (r : Reg) (v : Word) : Bool := v &&& word r.rs != r.val &&& word r.rs

/-- A write that the aperture admits (R6, R7). -/
def State.writeAdmitted (s : State) (k : SessId) (r : Reg) (v : Word) : State :=
  if r.locks v then s.answer (s.me k) .recipeLocked
  else match r.wr with
    | some f => f k v s
    | none => s.answer (s.me k) .ok

/-- One word written by a session. -/
def State.writeWord (s : State) (k : SessId) (a : Nat) (v : Word) : State :=
  if a % 4 ≠ 0 then s.answer (s.me k) .badAddr
  else if isSram a then
    match s.sramAt k a true with
    | .ok t => (s.storeWord t v).answer (s.me k) .ok
    | .error st => s.answer (s.me k) st
  else match s.regAt a with
    | none => s.answer (s.me k) .badAddr
    | some r =>
      if r.unused then s.answer (s.me k) .badAddr
      else match s.aperture k a true with
        | .ok => s.writeAdmitted k r v
        | st => s.answer (s.me k) st

/-- One word read by a session; an uncorrectable error is recorded and completes with FAULTED (R347, R353). -/
def State.readWord (s : State) (k : SessId) (a : Nat) : State × Except Status Word :=
  if a % 4 ≠ 0 then (s, .error .badAddr)
  else if isSram a then
    match s.sramAt k a false with
    | .ok t =>
      if s.dma.bad.contains (t / 4) then (s.eccEmit a 1 0xFF k.val k.val, .error .faulted)
      else (s, .ok (word (ofLe (s.mem.readN t 4))))
    | .error st => (s, .error st)
  else match s.regAt a with
    | none => (s, .error .badAddr)
    | some r => match s.aperture k a false with
      | .ok => match r.rd with
        | some f => f k s
        | none => (s, .ok r.val)
      | st => (s, .error st)

/-- REGISTER_WRITE: a write of a register is accepted or refused as a whole (R5 to R8). -/
def execRegisterWrite (a : Nat) (v : Word) (k : SessId) (s : State) : Out := .next (s.writeWord k a v)

end Sys2Proof.Machine
end

