-- ==== Sys2Proof/Machine/HostLink.lean ====
section
/-! DEFINITION. The host link's commands and the frames that bring them (R311, R324 to R333). -/

namespace Sys2Proof.Machine

open Sys2Proof

/-! ### Words (R330 to R332) -/

/-- The command's words lie in the SRAM windows and number more than 16: DMA channel 6 moves them (R332). -/
def HostCmd.block (c : HostCmd) : Bool := decide (16 < c.count) && isSram c.addr && isSram (c.addr + 4 * (c.count - 1)) && c.addr % 4 == 0

/-- The address of the next word. -/
def HostCmd.at_ (c : HostCmd) : Nat := c.addr + 4 * c.done

/-- A word of a block transfer faults: it is counted and recorded, without a record in Q15 (R332, R348, R353). -/
def State.blockFault (s : State) (k : SessId) (cause : DmaCause) (prog a : Nat) : State :=
  let s := s.setCh 6 fun c => { c with faults := satNat 65535 (c.faults + 1), prog := prog, faddr := a }
  let s := (s.count 0x0C 1).emit { State.linkEv 0x0401 6 cause.code k.val k.val prog a s with session := some k }
  if cause = .ecc then s.eccEmit a 2 6 k.val k.val else s

/-- The status of a faulted word (R332). -/
def faultStatus : DmaCause → Status
  | .ecc => .faulted
  | _ => .denied

/-- A word of a block read in the session's own context. -/
def State.blockRead (s : State) (k : SessId) (prog a : Nat) : State × Except Status Word :=
  match s.translate k.val a false with
  | .ok t =>
    if s.dma.bad.contains (t / 4) then (s.blockFault k .ecc prog a, .error .faulted)
    else (s, .ok (word (ofLe (s.mem.readN t 4))))
  | .error e => (s.blockFault k e prog a, .error (faultStatus e))

/-- A word of a block written in the session's own context. -/
def State.blockWrite (s : State) (k : SessId) (prog a : Nat) (w : Word) : State × Status :=
  match s.translate k.val a true with
  | .ok t => (s.storeWord t w, .ok)
  | .error e => (s.blockFault k e prog a, faultStatus e)

/-- The words of a READ still to do, `n` of them: the first that fails ends the command (R330). -/
def State.readRun (s : State) (k : SessId) (c : HostCmd) : Nat → State × HostCmd × Status
  | 0 => (s, c, .ok)
  | n + 1 =>
    let r := if c.block then s.blockRead k c.done c.at_ else s.readWord k c.at_
    match r.2 with
    | .ok w => r.1.readRun k { c with done := c.done + 1, got := c.got ++ [w] } n
    | .error st => (r.1, c, st)

/-- The status a word of the session has been given. -/
def State.answerOf (s : State) (k : SessId) (ref : Nat) : Option Status :=
  (s.sys.answers.find? fun a => a.src == Src.host k ref).map Answer.status

/-- A word of a WRITE under a number of its own: its status, none while its operation runs (R331). -/
def State.hostWord (s : State) (k : SessId) (a : Nat) (w : Word) : State × Option Status :=
  let ref := s.hl.nextRef + 1
  let s := (s.onHl fun h => { h with nextRef := ref }).onSys fun x => { x with cur := ref }
  let s := (s.writeWord k a w).onSys fun x => { x with cur := 0 }
  (s, s.answerOf k ref)

/-- The response body of a command (R329). -/
def HostCmd.response (c : HostCmd) (st : Status) : List Byte :=
  le 1 (c.code + 0x80) ++ le 1 st.code ++ le 2 c.tag ++ le 4 c.at_ ++ le 2 c.done ++ zeros 2 ++ c.got.flatMap wordBytes

/-- A word of RCP_CMD that resets the LX32 completes with OK first, and its response leaves before the reset (R292). -/
def State.leaveFirst (s : State) (k : SessId) (c : HostCmd) (w : Word) : State :=
  if c.at_ = 0x10004 ∧ bits w 0 4 = 3 ∧ s.aperture k 0x10004 true = .ok ∧ s.rcpGate k false = .ok then
    s.sessSend k kDATA ({ c with done := c.done + 1 }.response .ok)
  else s

/-- The words of a WRITE still to do. None: the word that c.wait names is not complete, or the session has ended. -/
def State.writeRun (s : State) (k : SessId) (c : HostCmd) : List Word → State × HostCmd × Option Status
  | [] => (s, c, some .ok)
  | w :: ws =>
    if c.block then
      let r := s.blockWrite k c.done c.at_ w
      if r.2 = .ok then r.1.writeRun k { c with done := c.done + 1 } ws else (r.1, c, some r.2)
    else
      let r := (s.leaveFirst k c w).hostWord k c.at_ w
      if !r.1.sec.sessions[k].isOpen then (r.1, c, none)
      else match r.2 with
        | some .ok => r.1.writeRun k { c with done := c.done + 1 } ws
        | some st => (r.1, c, some st)
        | none => (r.1, { c with words := ws, wait := some r.1.hl.nextRef }, none)

/-! ### Commands (R329, R331, R333) -/

/-- A response takes the entry its command has reserved in Q4 to Q7 (R333). -/
def State.respond (s : State) (k : SessId) (bytes : List Byte) : State :=
  (s.onHl fun h => { h with out := upd h.out k fun l => l ++ [{ notif := false, bytes := bytes }] }).noteFill (Fin.ofNat 16 (4 + k.val))
    (s.hl.out[k].length + 1)

/-- The command being carried out is the last of those that run. -/
def State.setRun (s : State) (k : SessId) (c : Option HostCmd) : State :=
  s.onHl fun h => { h with run := upd h.run k fun l => l.dropLast ++ c.toList }

/-- What a command comes to: its response, or the wait for a word; nothing once its session has ended (R315). -/
def State.conclude (s : State) (k : SessId) (c : HostCmd) (st : Option Status) : State :=
  if !s.sec.sessions[k].isOpen then s
  else match st with
    | some st => (s.setRun k none).respond k (c.response st)
    | none => s.setRun k (some c)

/-- A command carried out. -/
def State.runCmd (s : State) (k : SessId) (c : HostCmd) : State :=
  match c.op with
  | .bad => s.conclude k c (some .limit)
  | .ping => s.conclude k c (some .ok)
  | .read => let r := s.readRun k c (c.count - c.done); r.1.conclude k r.2.1 (some r.2.2)
  | .write => let r := s.writeRun k c c.words; r.1.conclude k r.2.1 r.2.2

/-- Commands of a session start in the order of acceptance; one with FENCE once every earlier one is complete (R331). -/
def State.startCmds (k : SessId) : Nat → State → State
  | 0, s => s
  | n + 1, s => match s.hl.q[k] with
    | [] => s
    | c :: rest =>
      if c.fence && !s.hl.run[k].isEmpty then s
      else
        let s := s.onHl fun h => { h with q := upd h.q k fun _ => rest, run := upd h.run k fun l => l ++ [c] }
        (s.runCmd k c).startCmds k n

/-- A command accepted under R311, or turned away with BUSY while 16 are in flight (R331). -/
def State.accept (s : State) (k : SessId) (c : HostCmd) : State :=
  if !s.sec.sessions[k].isOpen then s
  else if 16 ≤ s.inFlight k then
    (if s.hl.out[k].length + s.inFlight k < 64 then s.respond k (c.response .busy) else s.sessSend k kDATA (c.response .busy))
  else
    let s := s.onHl fun h => { h with q := upd h.q k fun l => l ++ [c] }
    let s := s.noteFill (Fin.ofNat 16 k.val) s.hl.q[k].length
    s.startCmds k s.hl.q[k].length

/-- The word a command waited for is complete: the command goes on with the words after it. -/
def State.resumeCmd (s : State) (k : SessId) (c : HostCmd) (st : Status) : State :=
  let s := s.onHl fun h => { h with run := upd h.run k fun l => l.filter (fun x => x.wait != c.wait) ++ [c] }
  let c := { c with wait := none }
  let s := match st with
    | .ok => s.runCmd k { c with done := c.done + 1 }
    | st => s.conclude k c (some st)
  s.startCmds k s.hl.q[k].length

/-- Commands whose word has been given its status go on. -/
def State.resumeAll (s : State) (k : SessId) : State :=
  s.hl.run[k].foldl (fun (s : State) (c : HostCmd) => match c.wait with
    | some ref => match s.answerOf k ref with
      | some st => if s.hl.run[k].any fun x => x.wait == c.wait then s.resumeCmd k c st else s
      | none => s
    | none => s) s

/-- The command that a body spells; a body that disagrees with OP and COUNT completes with LIMIT (R329). -/
def parseCmd (b : List Byte) : HostCmd :=
  let num (i n : Nat) : Nat := ofLe ((b.drop i).take n)
  let op := num 0 1
  let count := num 8 2
  let ranged := decide (1 ≤ count) && decide (count ≤ 256)
  let c : HostCmd := { op := .bad, code := op, fence := num 1 1 % 2 == 1, tag := num 2 2, addr := num 4 4, count := count }
  if op = 1 ∧ ranged ∧ b.length = 12 then { c with op := .read }
  else if op = 2 ∧ ranged ∧ b.length = 12 + 4 * count then { c with op := .write, words := wordsOf count (b.drop 12) }
  else if op = 3 ∧ count = 0 ∧ b.length = 12 then { c with op := .ping }
  else c

/-- READ: COUNT words from ADDR (R330). -/
def execRead (k : SessId) (fence : Bool) (tag addr count : Nat) (s : State) : Out :=
  .next (s.accept k { op := if 1 ≤ count ∧ count ≤ 256 then .read else .bad, code := 1, fence := fence, tag := tag % 65536, addr := addr % 2 ^ 32,
                      count := count })

/-- HOST_WRITE: the words written from ADDR (R330). -/
def execHostWrite (k : SessId) (fence : Bool) (tag addr : Nat) (ws : List Word) (s : State) : Out :=
  .next (s.accept k { op := if 1 ≤ ws.length ∧ ws.length ≤ 256 then .write else .bad, code := 2, fence := fence, tag := tag % 65536,
                      addr := addr % 2 ^ 32, count := ws.length, words := ws })

/-- PING (R329). -/
def execPing (k : SessId) (fence : Bool) (tag addr : Nat) (s : State) : Out :=
  .next (s.accept k { op := .ping, code := 3, fence := fence, tag := tag % 65536, addr := addr % 2 ^ 32, count := 0 })

/-! ### Ralar frames of a host (R309 to R312) -/

/-- A frame of an open session passes R311: H, the idle timer and the peer follow it. -/
def State.frameAccepted (s : State) (k : SessId) (p : Peer) (ctr : Nat) : State :=
  (s.count 0x0A 1).setSess k fun x =>
    { x with h := some (newH x.h ctr), seen := newSeen (newH x.h ctr) x.seen ctr, lastAt := s.tick, accepted := x.accepted + 1, peer := p }

/-- A DATA or CLOSE frame of an open session (R311). -/
def State.rxSession (s : State) (p : Peer) (k : SessId) (kind : Nat) (head rest : List Byte) (len : Nat) : State :=
  let x := s.sec.sessions[k]
  let ctr := ofLe ((head.drop 4).take 6)
  let wide := match p with | .eth _ _ => true | .can _ => false
  match Config.gcmOpen x.keyTo (nonce x.saltTo ctr) head (rest.take len) (rest.drop len) with
  | none => s.frameFails k ctr .authFail
  | some body =>
    if !fresh wide x.h x.seen ctr then s.frameFails k ctr .replay
    else
      let s := s.frameAccepted k p ctr
      if kind = kCLOSE then s.endSession k 1 else s.accept k (parseCmd body)

/-- A Ralar frame received from a host over either transport (R311, R312). -/
def State.rxRalar (s : State) (p : Peer) (frame : List Byte) : State :=
  let at_ (i n : Nat) : Nat := ofLe ((frame.drop i).take n)
  let kind := at_ 1 1
  let len := at_ 10 2
  let k : SessId := Fin.ofNat 4 (at_ 2 1)
  let s := s.onHl fun h => { h with rxok := (h.rxok + 1) % 65536 }
  let head := frame.take 12
  let rest := frame.drop 12
  let known := decide (at_ 2 1 < 4) && rest.length == len + peerTag p
  if frame.length < 12 ∨ at_ 0 1 ≠ 1 ∨ at_ 3 1 % 2 ≠ 0 then s.malformed
  else if kind = kHELLO then
    (if at_ 2 1 = 0xFF ∧ at_ 4 6 = 0 ∧ rest.length = len then (if s.linked then s.rxHello p rest else s) else s.malformed)
  else if kind = kFINISH ∧ known ∧ s.sec.sessions[k].st = .handshake then s.rxFinish k head rest len
  else if (kind = kDATA ∨ kind = kCLOSE) ∧ known ∧ s.sec.sessions[k].isOpen then s.rxSession p k kind head rest len
  else s.malformed

/-! ### 100BASE-T1 (R324) -/

/-- Big-endian field of `n` bytes at `i`. -/
def beAt (b : List Byte) (i n : Nat) : Nat := ((b.drop i).take n).foldl (fun (x : Nat) (y : Byte) => 256 * x + y.toNat) 0

/-- A number as `n` bytes, most significant first. -/
def be (n v : Nat) : List Byte := (le n v).reverse

/-- The ones' complement sum of 16-bit words. -/
def onesSum : List Byte → Nat → Nat
  | a :: b :: rest, x =>
    let y := x + 256 * a.toNat + b.toNat
    onesSum rest (y % 65536 + y / 65536)
  | [a], x => let y := x + 256 * a.toNat; y % 65536 + y / 65536
  | [], x => x

/-- A frame that the port does not support is discarded and counted. -/
def State.discard (s : State) : State := s.onHl fun h => { h with disc := satNat 255 (h.disc + 1) }

/-- A sender's addresses enter the ARP cache: eight entries of 60 s. -/
def State.learnArp (s : State) (ip mac : Nat) : State :=
  s.onHl fun h => { h with arp := ((ip, mac, s.tick) :: h.arp.filter fun e => e.1 != ip && decide (s.tick < e.2.2 + 60 * 120000000)).take 8 }

/-- An ARP request or reply. -/
def State.rxArp (s : State) (b : List Byte) : State :=
  if b.length < 42 ∨ beAt b 14 6 ≠ 0x000108000604 ∨ (beAt b 20 2 ≠ 1 ∧ beAt b 20 2 ≠ 2) then s.discard
  else if beAt b 38 4 ≠ s.ipAct then s
  else
    let s := s.learnArp (beAt b 28 4) (beAt b 22 6)
    if beAt b 20 2 = 1 then
      let sha := (b.drop 22).take 6
      let spa := (b.drop 28).take 4
      let reply := sha ++ fit 6 Config.mac ++ be 2 0x0806 ++ be 6 0x000108000604 ++ be 2 2 ++ fit 6 Config.mac ++ be 4 s.ipAct ++ sha ++ spa
      s.onHl fun h => { h with sent := .ether reply :: h.sent }
    else s

/-- The frame that answers an ICMP echo request. -/
def State.echoFrame (s : State) (b icmp : List Byte) (len : Nat) : List Byte :=
  let pay := icmp.drop 4
  let ck := 0xFFFF - onesSum pay 0
  let ip0 := be 2 0x4500 ++ be 2 len ++ (b.drop 18).take 2 ++ be 2 0 ++ be 1 64 ++ be 1 1
  let ends := be 4 s.ipAct ++ (b.drop 26).take 4
  let hck := 0xFFFF - onesSum (ip0 ++ ends) 0
  (b.drop 6).take 6 ++ fit 6 Config.mac ++ be 2 0x0800 ++ ip0 ++ be 2 hck ++ ends ++ be 2 0 ++ be 2 ck ++ pay

/-- An echo request is answered, and counted in its second. -/
def State.answerEcho (s : State) (n at_ : Nat) (frame : List Byte) : State :=
  s.onHl fun h => { h with echoes := n, echoAt := at_, sent := .ether frame :: h.sent }

/-- A second of echoes is in progress. -/
def State.echoing (s : State) : Bool := decide (s.tick < s.hl.echoAt + 120000000) && decide (0 < s.hl.echoes)

/-- The body of an ICMP echo request is sound. -/
def echoSound (icmp : List Byte) : Bool := decide (8 ≤ icmp.length) && beAt icmp 0 2 == 0x0800 && onesSum icmp 0 == 0xFFFF

/-- An ICMP echo request, answered at most ten times a second while NOECHO = 0. -/
def State.rxEcho (s : State) (b : List Byte) (len : Nat) : State :=
  let icmp := (b.drop 34).take (len - 20)
  if !echoSound icmp then s.discard
  else if bit s.hl.act.cfg 30 then s
  else
    let n := if s.echoing then s.hl.echoes else 0
    if 10 ≤ n then s else s.answerEcho (n + 1) (if s.echoing then s.hl.echoAt else s.tick) (s.echoFrame b icmp len)

/-- A UDP datagram to the port in force carries one Ralar frame (R326). -/
def State.rxUdp (s : State) (b : List Byte) (len : Nat) : State :=
  let udp := (b.drop 34).take (len - 20)
  let pseudo := (b.drop 26).take 8 ++ be 2 17 ++ be 2 udp.length
  if udp.length < 8 ∨ beAt udp 4 2 ≠ udp.length ∨ beAt udp 2 2 ≠ bits s.hl.act.cfg 0 16 then s.discard
  else if beAt udp 6 2 ≠ 0 ∧ onesSum (pseudo ++ udp) 0 ≠ 0xFFFF then s.discard
  else s.rxRalar (.eth (beAt b 26 4) (beAt udp 0 2)) (udp.drop 8)

/-- An IPv4 datagram: a header of 20 bytes, not fragmented, to the address in force. -/
def State.rxIp (s : State) (b : List Byte) : State :=
  let len := beAt b 16 2
  if b.length < 34 ∨ beAt b 14 1 ≠ 0x45 ∨ len < 20 ∨ b.length < 14 + len ∨ beAt b 20 2 % 0x4000 ≠ 0 ∨ beAt b 30 4 ≠ s.ipAct
      ∨ onesSum ((b.drop 14).take 20) 0 ≠ 0xFFFF then s.discard
  else if beAt b 23 1 = 1 then s.rxEcho b len
  else if beAt b 23 1 = 17 then s.rxUdp b len
  else s.discard

/-- ETHERNET_FRAME_RX: a frame from its destination address on (R324). -/
def execEthernetFrameRx (b : List Byte) (s : State) : Out :=
  .next (
    if !s.hl.link || !s.linked then s
    else if b.length < 14 ∨ (b.take 6 ≠ fit 6 Config.mac ∧ beAt b 0 6 ≠ 0xFFFFFFFFFFFF) then s.discard
    else if beAt b 12 2 = 0x0806 then s.rxArp b
    else if beAt b 12 2 = 0x0800 then s.rxIp b
    else s.discard)

/-! ### CAN0 (R328) -/

/-- A reassembly discarded is counted. -/
def State.dropSeg (s : State) : State := s.onHl fun h => { h with canseg := satNat 255 (h.canseg + 1) }

/-- A host's partial frame older than 50 ms is discarded. -/
def State.expireSeg (s : State) (h : Fin 4) : State :=
  match s.hl.asm[h] with
  | some a => if a.tick + 50 * ticksPerMs < s.tick then s.dropSeg.onHl fun x => { x with asm := upd x.asm h fun _ => none } else s
  | none => s

/-- The bytes of a reassembled frame without the padding that LEN excludes. -/
def trimFrame (bs : List Byte) : List Byte :=
  let len := ofLe ((bs.drop 10).take 2)
  bs.take (12 + len + (if ofLe ((bs.drop 1).take 1) = kHELLO then 0 else 8))

/-- A Ralar segment on CAN0 from host number `h` (R327, R328). -/
def State.rxSeg (s : State) (h : Fin 4) (data : List Byte) : State :=
  let s := s.expireSeg h
  let b0 := (data.headD 0).toNat
  let put_ (s : State) (a : Option SegAsm) : State := s.onHl fun x => { x with asm := upd x.asm h fun _ => a }
  let take (s : State) (bytes : List Byte) (seq : Nat) : State :=
    if 2048 < (if b0 / 64 % 2 = 1 then (trimFrame bytes).length else bytes.length) then put_ s.dropSeg none
    else if b0 / 64 % 2 = 1 then (put_ s none).rxRalar (.can h) (trimFrame bytes)
    else put_ s (some { bytes := bytes, seq := seq, tick := s.tick })
  if b0 / 128 = 1 then
    let s := if s.hl.asm[h].isSome then s.dropSeg else s
    if b0 % 64 = 0 then take s (data.drop 1) 0 else put_ s none
  else match s.hl.asm[h] with
    | some a => if b0 % 64 = (a.seq + 1) % 64 then take s (a.bytes ++ data.drop 1) (a.seq + 1) else put_ s.dropSeg none
    | none => s

/-- CAN0_SEGMENT (R328). -/
def execCan0Segment (h : Fin 4) (data : List Byte) (s : State) : Out := .next (if s.ralar && s.canLive 0 then s.rxSeg h data else s)

end Sys2Proof.Machine
end

