-- ==== Sys2Proof/Machine/HierRx.lean ====
section
/-! DEFINITION. Received frames of CAN and of the hierarchy (R229, R241, R264, R265). -/

namespace Sys2Proof.Machine

open Sys2Proof

/-! ### Hierarchy frames on CAN3 (R241) -/

/-- The reassembly of a sender set or removed. -/
def State.setAsm (s : State) (a : Nat) (p : Option Partial) : State :=
  s.onHie fun h => { h with asm := (p.map fun x => (a, x)).toList ++ h.asm.filter fun e => e.1 != a }

/-- A sender's partial frame older than 10 ms is discarded. -/
def State.expireAsm (s : State) (a : Nat) : State :=
  match assoc a s.hie.asm with
  | some p => if p.tick + 10 * ticksPerMs < s.tick then (s.setAsm a none).dropSeg else s
  | none => s

/-- A segment that continues a sender's frame, or completes it. -/
def State.addSeg (s : State) (a : Nat) (bytes : List Byte) (seq : Nat) (last : Bool) : State :=
  if 2048 < (if last then (trimFrame bytes).length else bytes.length) then (s.setAsm a none).dropSeg
  else if last then (s.setAsm a none).rxHier (trimFrame bytes)
  else s.setAsm a (some { bytes := bytes, seq := seq, tick := s.tick })

/-- A hierarchy segment from a sender (R241). -/
def State.rxSeg3 (s : State) (a : Nat) (data : List Byte) : State :=
  let s := s.expireAsm a
  let b0 := (data.headD 0).toNat
  let last := b0 / 64 % 2 == 1
  if b0 / 128 = 1 then
    let s := if (assoc a s.hie.asm).isSome then (s.setAsm a none).dropSeg else s
    if b0 % 64 = 0 then s.addSeg a (data.drop 1) 0 last else s
  else match assoc a s.hie.asm with
    | some p => if b0 % 64 = (p.seq + 1) % 64 then s.addSeg a (p.bytes ++ data.drop 1) (p.seq + 1) last else (s.setAsm a none).dropSeg
    | none => s

/-- CAN3_SEGMENT: a segment is added to its sender's reassembly (R241). -/
def execCan3Segment (sender : Nat) (data : List Byte) (s : State) : Out := .next (if s.canLive 3 then s.rxSeg3 sender data else s)

/-! ### Clapper DATA frames (R229) -/

/-- A DATA payload taken: SOM begins a hierarchy frame of its link, EOM completes it. -/
def State.takeData (s : State) (from_ : Side) (som eom : Bool) (payload : List Byte) : State :=
  let key := if from_ then 1 else 0
  let old := assoc key s.hie.clpAsm
  let drop (s : State) : State := s.onHie fun h => { h with clpAsm := h.clpAsm.filter fun e => e.1 != key }
  match som, old with
  | false, none => s
  | _, _ =>
    let bytes := (if som then [] else old.getD []) ++ payload
    if eom then (drop s).rxHier (trimFrame bytes)
    else if 2048 < bytes.length then drop s
    else (drop s).onHie fun h => { h with clpAsm := (key, bytes) :: h.clpAsm }

/-- DATA: taken when addressed to this device or to all, and forwarded whole unless it is addressed to this device alone
(R229). -/
def execData (from_ : Side) (dst : Nat) (som eom : Bool) (payload : List Byte) (crc : Nat) (s : State) : Out :=
  .next (
    let f := Frame.data dst som eom payload
    if crc ≠ f.crc then s.badFrame
    else
      let s := if dst = s.sys.addr then s else s.transmit (!from_) f
      if dst = s.sys.addr ∨ dst = 63 then s.takeData from_ som eom payload else s)

/-! ### CAN frames (R253, R254, R264, R265) -/

/-- Words A, B and C of filter `f` of a controller. -/
def State.flt (s : State) (c : CanId) (f w : Nat) : Word := s.rw secCAN 2 (128 * c.val + f) w

/-- A frame passes a filter (R264). -/
def State.fltMatches (s : State) (c : CanId) (f : Nat) (x : CanFrame) : Bool :=
  let a := s.flt c f 0
  let b := s.flt c f 1
  let m := bits b 0 29
  bit a 31 && (bit a 30 == x.xtd)
    && (match bits b 30 2 with | 0 => true | 1 => !x.fdf | 2 => x.fdf | _ => false)
    && Nat.land x.id m == Nat.land (bits a 0 29) m

/-- A frame written into a receive buffer; CAN_RX_OVERWRITE when new data stood there (R265). -/
def State.toBuffer (s : State) (c : CanId) (b : Fin 64) (flt : Nat) (x : CanFrame) (sof : Nat) : State :=
  let had := s.can[c].nd.getLsbD b.val
  let one : BitVec 64 := BitVec.ofNat 64 (2 ^ b.val)
  let ctl := put flt 24 7 + flagAt x.fdf 15 + flagAt x.brs 14 + flagAt x.esi 13 + put x.dlc 0 4
  let s := s.setCan c fun y =>
    { y with nd := y.nd ||| one, ovw := if had then y.ovw ||| one else y.ovw,
             bufs := y.bufs.set b { id := word (canIdWord x), ctl := word ctl, tsf := word sof, tss := word (sof / 2 ^ 32),
                                    d := if x.rtr then [] else x.data.take (dlcLen x.fdf x.dlc) } }
  let s := s.count (0x14 + c.val) 1
  if had then s.canEmit c 0x0B08 b.val (canIdWord x) else s

/-- A frame for the runtime: Ralar on CAN0 and hierarchy segments on CAN3. What other frames carry comes as commands of its
own (R222, R224, R272, R273). -/
def State.toRuntime (s : State) (c : CanId) (x : CanFrame) : State :=
  let s := s.count (0x14 + c.val) 1
  let h := (x.id - 0x400) / 0x40
  if x.xtd || !x.fdf then s
  else if c = 0 && s.ralar && decide (0x400 ≤ x.id) && decide (h < 4) && (x.id - 0x400) % 0x40 == s.sys.addr then s.rxSeg (Fin.ofNat 4 h) x.data
  else if c = 3 && s.inHier && decide (0x080 ≤ x.id) && decide (x.id < 0x0FF) then s.rxSeg3 (x.id % 0x40) x.data
  else s

/-- A frame received without error lowers REC under ISO 11898-1 (R267); above 127 the manual leaves the value between 119 and
127 open. In RESTRICTED the counters stand (R263). -/
def State.goodRx (s : State) (c : CanId) : State :=
  if s.can[c].op then s
  else if 127 < s.can[c].rec_ then
    let v := 119 + s.free % 9
    (s.draw.setCan c fun x => { x with rec_ := v }).judgeState c
  else (s.setCan c fun x => { x with rec_ := x.rec_ - 1 }).judgeState c

/-- CAN_FRAME_RX: a frame received from another node, with its start-of-frame instant (R254, R263 to R265, R267). -/
def execCanFrameRx (c : CanId) (x : CanFrame) (sof : Nat) (s : State) : Out :=
  .next (
    if !s.canLive c then s
    else if x.fdf && !s.canFden c then s.setCan c fun y => { y.tally .pxe with st := .integrating }
    else
      let s := (s.goodRx c).frameEnd c
      match (List.range 128).find? fun f => s.fltMatches c f x with
      | none => s.setCan c fun y => { y with eNo := satNat 255 (y.eNo + 1) }
      | some f => match bits (s.flt c f 2) 30 2 with
        | 1 => s.toBuffer c (Fin.ofNat 64 (bits (s.flt c f 2) 0 6)) f x sof
        | 2 => s.toRuntime c x
        | _ => s)

end Sys2Proof.Machine
end

