-- ==== Sys2Proof/Machine/Dispatch.lean ====
section
/-! DEFINITION. Which meaning each command has. -/

namespace Sys2Proof.Machine

open Sys2Proof

/-- The effect of a command on everything but the queue of waiting commands. -/
def exec (i : Instr) (s : State) : Host.Outcome State Fault Refusal :=
  match i with
  | .registerWrite a v k => Sys2Proof.Machine.execRegisterWrite a v k s
  | .interlockInputChange => Sys2Proof.Machine.execInterlockInputChange s
  | .timedCommandExecute i' => Sys2Proof.Machine.execTimedCommandExecute i' s
  | .hwmRst q k => Sys2Proof.Machine.execHwmRst q k s
  | .ovfClr q k => Sys2Proof.Machine.execOvfClr q k s
  | .modeRequest v k => Sys2Proof.Machine.execModeRequest v k s
  | .pipelineBUp => Sys2Proof.Machine.execPipelineBUp s
  | .modeSwitchEdge => Sys2Proof.Machine.execModeSwitchEdge s
  | .portCmdOn p dur src => Sys2Proof.Machine.execPortCmdOn p dur src s
  | .portCmdOff p src => Sys2Proof.Machine.execPortCmdOff p src s
  | .portPwmPerWrite p v k => Sys2Proof.Machine.execPortPwmPerWrite p v k s
  | .portPwmPhWrite p v k => Sys2Proof.Machine.execPortPwmPhWrite p v k s
  | .portFaultClear p v k => Sys2Proof.Machine.execPortFaultClear p v k s
  | .carrierInstant p => Sys2Proof.Machine.execCarrierInstant p s
  | .regulatorUpdate p m => Sys2Proof.Machine.execRegulatorUpdate p m s
  | .inputUpdate p mean instant => Sys2Proof.Machine.execInputUpdate p mean instant s
  | .tachEdge p instant => Sys2Proof.Machine.execTachEdge p instant s
  | .tachStale p => Sys2Proof.Machine.execTachStale p s
  | .digitalOutputDurEnd p => Sys2Proof.Machine.execDigitalOutputDurEnd p s
  | .shortDetect p toSupply i' => Sys2Proof.Machine.execShortDetect p toSupply i' s
  | .overcurrentDetect p i' => Sys2Proof.Machine.execOvercurrentDetect p i' s
  | .timeOverLimit p i' => Sys2Proof.Machine.execTimeOverLimit p i' s
  | .overtempDetect p tj => Sys2Proof.Machine.execOvertempDetect p tj s
  | .openLoadDetect p i' => Sys2Proof.Machine.execOpenLoadDetect p i' s
  | .shareImbalance p i' => Sys2Proof.Machine.execShareImbalance p i' s
  | .inputFaultDetect p b => Sys2Proof.Machine.execInputFaultDetect p b s
  | .inputFaultEnd p b => Sys2Proof.Machine.execInputFaultEnd p b s
  | .burdenReconnect p => Sys2Proof.Machine.execBurdenReconnect p s
  | .bankOverload b load => Sys2Proof.Machine.execBankOverload b load s
  | .bankTrip b load => Sys2Proof.Machine.execBankTrip b load s
  | .bankOverloadEnd b load => Sys2Proof.Machine.execBankOverloadEnd b load s
  | .portRetry p => Sys2Proof.Machine.execPortRetry p s
  | .retryCountReset p => Sys2Proof.Machine.execRetryCountReset p s
  | .endOfStroke p delay vbank => Sys2Proof.Machine.execEndOfStroke p delay vbank s
  | .hitEnd p => Sys2Proof.Machine.execHitEnd p s
  | .bridgeEnd p => Sys2Proof.Machine.execBridgeEnd p s
  | .holdEnd p => Sys2Proof.Machine.execHoldEnd p s
  | .endOfTravel p delay vbank => Sys2Proof.Machine.execEndOfTravel p delay vbank s
  | .releaseEnd p i' => Sys2Proof.Machine.execReleaseEnd p i' s
  | .releaseTimeout p i' => Sys2Proof.Machine.execReleaseTimeout p i' s
  | .deferredHitStart g => Sys2Proof.Machine.execDeferredHitStart g s
  | .hitDeferredTimeout g => Sys2Proof.Machine.execHitDeferredTimeout g s
  | .coilModelUpdate p irmsSq housing => Sys2Proof.Machine.execCoilModelUpdate p irmsSq housing s
  | .windingResistanceWindow p v i' least steady => Sys2Proof.Machine.execWindingResistanceWindow p v i' least steady s
  | .delayTableSave => Sys2Proof.Machine.execDelayTableSave s
  | .solDselWrite v k => Sys2Proof.Machine.execSolDselWrite v k s
  | .solDclr v k => Sys2Proof.Machine.execSolDclr v k s
  | .fanEvaluation f => Sys2Proof.Machine.execFanEvaluation f s
  | .fanKickTimeout f mean => Sys2Proof.Machine.execFanKickTimeout f mean s
  | .fanPauseEnd f => Sys2Proof.Machine.execFanPauseEnd f s
  | .fanStall f => Sys2Proof.Machine.execFanStall f s
  | .tachJudgement f mean => Sys2Proof.Machine.execTachJudgement f mean s
  | .fanTachRestored f => Sys2Proof.Machine.execFanTachRestored f s
  | .fanTempFault f => Sys2Proof.Machine.execFanTempFault f s
  | .enable f k => Sys2Proof.Machine.execEnable f k s
  | .disable f k => Sys2Proof.Machine.execDisable f k s
  | .test f k => Sys2Proof.Machine.execTest f k s
  | .restart f k => Sys2Proof.Machine.execRestart f k s
  | .fanMdutyWrite f v k => Sys2Proof.Machine.execFanMdutyWrite f v k s
  | .fanHtempWrite f v k => Sys2Proof.Machine.execFanHtempWrite f v k s
  | .ageingSample f vbank freq steady => Sys2Proof.Machine.execAgeingSample f vbank freq steady s
  | .fanAgeSave => Sys2Proof.Machine.execFanAgeSave s
  | .fanAgeclr f v k => Sys2Proof.Machine.execFanAgeclr f v k s
  | .thermTrip low sfault sensor => Sys2Proof.Machine.execThermTrip low sfault sensor s
  | .slotTrigger n instant latency clean xs => Sys2Proof.Machine.execSlotTrigger n instant latency clean xs s
  | .followingError n => Sys2Proof.Machine.execFollowingError n s
  | .feedbackLost n => Sys2Proof.Machine.execFeedbackLost n s
  | .setpointLost n => Sys2Proof.Machine.execSetpointLost n s
  | .swap n k => Sys2Proof.Machine.execSwap n k s
  | .clrflt n k => Sys2Proof.Machine.execClrflt n k s
  | .rstats n k => Sys2Proof.Machine.execRstats n k s
  | .slotModeRequest n v k => Sys2Proof.Machine.execSlotModeRequest n v k s
  | .slotSpWrite n v k => Sys2Proof.Machine.execSlotSpWrite n v k s
  | .slotManoutWrite n v k => Sys2Proof.Machine.execSlotManoutWrite n v k s
  | .slotBankWordWrite n b i' v k => Sys2Proof.Machine.execSlotBankWordWrite n b i' v k s
  | .takeStart k => Sys2Proof.Machine.execTakeStart k s
  | .takeAbort k => Sys2Proof.Machine.execTakeAbort k s
  | .ratemUpdate milliC ok => Sys2Proof.Machine.execRatemUpdate milliC ok s
  | .offsetMeasurement bias ok => Sys2Proof.Machine.execOffsetMeasurement bias ok s
  | .judgement mean ok => Sys2Proof.Machine.execJudgement mean ok s
  | .judgementAfresh mean ok => Sys2Proof.Machine.execJudgementAfresh mean ok s
  | .timeStep => Sys2Proof.Machine.execTimeStep s
  | .timeLocked => Sys2Proof.Machine.execTimeLocked s
  | .lockLost => Sys2Proof.Machine.execLockLost s
  | .timeHoldover => Sys2Proof.Machine.execTimeHoldover s
  | .timeHoldoverExpired => Sys2Proof.Machine.execTimeHoldoverExpired s
  | .gnssSolutionTimeout => Sys2Proof.Machine.execGnssSolutionTimeout s
  | .rtcLoad secs => Sys2Proof.Machine.execRtcLoad secs s
  | .rtcSave => Sys2Proof.Machine.execRtcSave s
  | .tpPulse => Sys2Proof.Machine.execTpPulse s
  | .tmbFracRead k => Sys2Proof.Machine.execTmbFracRead k s
  | .tmbRatelRead k => Sys2Proof.Machine.execTmbRatelRead k s
  | .set k => Sys2Proof.Machine.execSet k s
  | .resteer ok k => Sys2Proof.Machine.execResteer ok k s
  | .oscillatorModelSave => Sys2Proof.Machine.execOscillatorModelSave s
  | .gnssRestart above k => Sys2Proof.Machine.execGnssRestart above k s
  | .gnssCold k => Sys2Proof.Machine.execGnssCold k s
  | .gnssRateWrite v k => Sys2Proof.Machine.execGnssRateWrite v k s
  | .channelAssign c prn => Sys2Proof.Machine.execChannelAssign c prn s
  | .searchEnd c found => Sys2Proof.Machine.execSearchEnd c found s
  | .pullinEnd c locked => Sys2Proof.Machine.execPullinEnd c locked s
  | .bitSync c => Sys2Proof.Machine.execBitSync c s
  | .preambleConfirmed c inverted => Sys2Proof.Machine.execPreambleConfirmed c inverted s
  | .reacqEntry c => Sys2Proof.Machine.execReacqEntry c s
  | .reacqEnd c found => Sys2Proof.Machine.execReacqEnd c found s
  | .gnssChannelFault c => Sys2Proof.Machine.execGnssChannelFault c s
  | .gnssAntFault short i' v => Sys2Proof.Machine.execGnssAntFault short i' v s
  | .antBiasRetry i' v => Sys2Proof.Machine.execAntBiasRetry i' v s
  | .dutyWindow opens => Sys2Proof.Machine.execDutyWindow opens s
  | .measurementEpoch ms => Sys2Proof.Machine.execMeasurementEpoch ms s
  | .navWord c w => Sys2Proof.Machine.execNavWord c w s
  | .pvtSolution v => Sys2Proof.Machine.execPvtSolution v s
  | .gnssFixLost => Sys2Proof.Machine.execGnssFixLost s
  | .sectionEvaluation clean => Sys2Proof.Machine.execSectionEvaluation clean s
  | .sectRefusePauseEnd i' => Sys2Proof.Machine.execSectRefusePauseEnd i' s
  | .engage k => Sys2Proof.Machine.execEngage k s
  | .engageExt k => Sys2Proof.Machine.execEngageExt k s
  | .disengage k => Sys2Proof.Machine.execDisengage k s
  | .setOn k => Sys2Proof.Machine.execSetOn k s
  | .setOff k => Sys2Proof.Machine.execSetOff k s
  | .bcheck k => Sys2Proof.Machine.execBcheck k s
  | .sectionClrflt k => Sys2Proof.Machine.execSectionClrflt k s
  | .boundaryWrite a v k => Sys2Proof.Machine.execBoundaryWrite a v k s
  | .extPositionFrame f name => Sys2Proof.Machine.execExtPositionFrame f name s
  | .sectPosLost => Sys2Proof.Machine.execSectPosLost s
  | .speedDisagree => Sys2Proof.Machine.execSpeedDisagree s
  | .speedDisagreeEnd => Sys2Proof.Machine.execSpeedDisagreeEnd s
  | .tcSetpoint d v => Sys2Proof.Machine.execTcSetpoint d v s
  | .tcLost => Sys2Proof.Machine.execTcLost s
  | .strapChange addr => Sys2Proof.Machine.execStrapChange addr s
  | .bmark edge => Sys2Proof.Machine.execBmark edge s
  | .beacon hop cum ms sec q ok n ann crc => Sys2Proof.Machine.execBeacon hop cum ms sec q ok n ann crc s
  | .beaconSend => Sys2Proof.Machine.execBeaconSend s
  | .ereq => Sys2Proof.Machine.execEreq s
  | .echoRequest edge => Sys2Proof.Machine.execEchoRequest edge s
  | .ersp tat crc edge => Sys2Proof.Machine.execErsp tat crc edge s
  | .echoFail => Sys2Proof.Machine.execEchoFail s
  | .linkDown down => Sys2Proof.Machine.execLinkDown down s
  | .linkUp down => Sys2Proof.Machine.execLinkUp down s
  | .flag from_ orig idx val crc => Sys2Proof.Machine.execFlag from_ orig idx val crc s
  | .flagSend k => Sys2Proof.Machine.execFlagSend k s
  | .xflagFailed k => Sys2Proof.Machine.execXflagFailed k s
  | .hopfail from_ rep down crc => Sys2Proof.Machine.execHopfail from_ rep down crc s
  | .data from_ dst som eom payload crc => Sys2Proof.Machine.execData from_ dst som eom payload crc s
  | .can3Segment sender data => Sys2Proof.Machine.execCan3Segment sender data s
  | .heartbeatSend => Sys2Proof.Machine.execHeartbeatSend s
  | .heartbeat sender b => Sys2Proof.Machine.execHeartbeat sender b s
  | .timedCmd sender b => Sys2Proof.Machine.execTimedCmd sender b s
  | .cmdDone sender b => Sys2Proof.Machine.execCmdDone sender b s
  | .reserve sender b => Sys2Proof.Machine.execReserve sender b s
  | .lgDesc sender b => Sys2Proof.Machine.execLgDesc sender b s
  | .lgStop sender b => Sys2Proof.Machine.execLgStop sender b s
  | .delayTab sender b => Sys2Proof.Machine.execDelayTab sender b s
  | .release sender b => Sys2Proof.Machine.execRelease sender b s
  | .workerLost a => Sys2Proof.Machine.execWorkerLost a s
  | .managerLost => Sys2Proof.Machine.execManagerLost s
  | .workerRelease a => Sys2Proof.Machine.execWorkerRelease a s
  | .hieRelease a k => Sys2Proof.Machine.execHieRelease a k s
  | .orphanRampStep => Sys2Proof.Machine.execOrphanRampStep s
  | .lgStart g src => Sys2Proof.Machine.execLgStart g src s
  | .lgStopCmd g src => Sys2Proof.Machine.execLgStopCmd g src s
  | .lgStarted g => Sys2Proof.Machine.execLgStarted g s
  | .lgStopped g => Sys2Proof.Machine.execLgStopped g s
  | .lgMemberPlace g m => Sys2Proof.Machine.execLgMemberPlace g m s
  | .lgMemberJoined g m => Sys2Proof.Machine.execLgMemberJoined g m s
  | .canIntegrated c => Sys2Proof.Machine.execCanIntegrated c s
  | .enqueue c k => Sys2Proof.Machine.execEnqueue c k s
  | .abort c h k => Sys2Proof.Machine.execAbort c h k s
  | .abortAll c k => Sys2Proof.Machine.execAbortAll c k s
  | .abortEnq c k => Sys2Proof.Machine.execAbortEnq c k s
  | .txAttempt c => Sys2Proof.Machine.execTxAttempt c s
  | .txAttemptEnd c r tdcv => Sys2Proof.Machine.execTxAttemptEnd c r tdcv s
  | .canFrameRx c x sof => Sys2Proof.Machine.execCanFrameRx c x sof s
  | .canError c e r => Sys2Proof.Machine.execCanError c e r s
  | .canBusOffRecovered c => Sys2Proof.Machine.execCanBusOffRecovered c s
  | .recover c k => Sys2Proof.Machine.execRecover c k s
  | .clrcnt c k => Sys2Proof.Machine.execClrcnt c k s
  | .opmodeWrite c m busy k => Sys2Proof.Machine.execOpmodeWrite c m busy k s
  | .canEwlWrite c v k => Sys2Proof.Machine.execCanEwlWrite c v k s
  | .canMsgrel c v k => Sys2Proof.Machine.execCanMsgrel c v k s
  | .isoAddrClaim c ev => Sys2Proof.Machine.execIsoAddrClaim c ev s
  | .isoTpPacket c src dst f => Sys2Proof.Machine.execIsoTpPacket c src dst f s
  | .isoTpTimeout c i' => Sys2Proof.Machine.execIsoTpTimeout c i' s
  | .canWake high => Sys2Proof.Machine.execCanWake high s
  | .write x k => Sys2Proof.Machine.execWrite x k s
  | .recipeWritten bad => Sys2Proof.Machine.execRecipeWritten bad s
  | .discard k => Sys2Proof.Machine.execDiscard k s
  | .recipeRestart k => Sys2Proof.Machine.execRecipeRestart k s
  | .reload k => Sys2Proof.Machine.execReload k s
  | .reloadCommit => Sys2Proof.Machine.execReloadCommit s
  | .reloadDone => Sys2Proof.Machine.execReloadDone s
  | .reloadAborted => Sys2Proof.Machine.execReloadAborted s
  | .hello p body => Sys2Proof.Machine.execHello p body s
  | .finish k frame => Sys2Proof.Machine.execFinish k frame s
  | .handshakeTimeout k => Sys2Proof.Machine.execHandshakeTimeout k s
  | .read k fence tag addr count => Sys2Proof.Machine.execRead k fence tag addr count s
  | .hostWrite k fence tag addr ws => Sys2Proof.Machine.execHostWrite k fence tag addr ws s
  | .ping k fence tag addr => Sys2Proof.Machine.execPing k fence tag addr s
  | .close k => Sys2Proof.Machine.execClose k s
  | .sessionLifetimeEnd k => Sys2Proof.Machine.execSessionLifetimeEnd k s
  | .sessionIdleEnd k => Sys2Proof.Machine.execSessionIdleEnd k s
  | .fuse i' k => Sys2Proof.Machine.execFuse i' k s
  | .revoke i' k => Sys2Proof.Machine.execRevoke i' k s
  | .hkeyInstall k => Sys2Proof.Machine.execHkeyInstall k s
  | .rotate k => Sys2Proof.Machine.execRotate k s
  | .epochRotationDue => Sys2Proof.Machine.execEpochRotationDue s
  | .keyRotate sender b => Sys2Proof.Machine.execKeyRotate sender b s
  | .epochActivation => Sys2Proof.Machine.execEpochActivation s
  | .keyStale => Sys2Proof.Machine.execKeyStale s
  | .counterFloorWrite => Sys2Proof.Machine.execCounterFloorWrite s
  | .attest k => Sys2Proof.Machine.execAttest k s
  | .dbgChallenge k => Sys2Proof.Machine.execDbgChallenge k s
  | .dbgUnlock k => Sys2Proof.Machine.execDbgUnlock k s
  | .dbgLock k => Sys2Proof.Machine.execDbgLock k s
  | .debugDurationEnd => Sys2Proof.Machine.execDebugDurationEnd s
  | .challengeExpiry => Sys2Proof.Machine.execChallengeExpiry s
  | .tamperAck k => Sys2Proof.Machine.execTamperAck k s
  | .rtWrite i' k => Sys2Proof.Machine.execRtWrite i' k s
  | .secClose k => Sys2Proof.Machine.execSecClose k s
  | .tamperDetected short => Sys2Proof.Machine.execTamperDetected short s
  | .rollbackFloorRaise => Sys2Proof.Machine.execRollbackFloorRaise s
  | .ethernetFrameRx b => Sys2Proof.Machine.execEthernetFrameRx b s
  | .hostLinkDown up => Sys2Proof.Machine.execHostLinkDown up s
  | .save k => Sys2Proof.Machine.execSave k s
  | .can0Segment h data => Sys2Proof.Machine.execCan0Segment h data s
  | .grant k => Sys2Proof.Machine.execGrant k s
  | .free i' k => Sys2Proof.Machine.execFree i' k s
  | .freeall k => Sys2Proof.Machine.execFreeall k s
  | .claim n k => Sys2Proof.Machine.execClaim n k s
  | .dmaRelease n k => Sys2Proof.Machine.execDmaRelease n k s
  | .dmaStart n k => Sys2Proof.Machine.execDmaStart n k s
  | .dmaAbort n k => Sys2Proof.Machine.execDmaAbort n k s
  | .resume n k => Sys2Proof.Machine.execResume n k s
  | .rdptrWrite n v k => Sys2Proof.Machine.execRdptrWrite n v k s
  | .dmaBurst => Sys2Proof.Machine.execDmaBurst s
  | .descriptorDone n => Sys2Proof.Machine.execDescriptorDone n s
  | .dmaFault n k ecc => Sys2Proof.Machine.execDmaFault n k ecc s
  | .faultRecordQueued n => Sys2Proof.Machine.execFaultRecordQueued n s
  | .seqEvaluation q => Sys2Proof.Machine.execSeqEvaluation q s
  | .seqStart q k => Sys2Proof.Machine.execSeqStart q k s
  | .seqStop q k => Sys2Proof.Machine.execSeqStop q k s
  | .seqPause q k => Sys2Proof.Machine.execSeqPause q k s
  | .seqResume q k => Sys2Proof.Machine.execSeqResume q k s
  | .seqHcmdWrite q v k => Sys2Proof.Machine.execSeqHcmdWrite q v k s
  | .recordCommit => Sys2Proof.Machine.execRecordCommit s
  | .lostEvents => Sys2Proof.Machine.execLostEvents s
  | .recorderStart torn => Sys2Proof.Machine.execRecorderStart torn s
  | .recWindowRead w k => Sys2Proof.Machine.execRecWindowRead w k s
  | .recWinseqRead k => Sys2Proof.Machine.execRecWinseqRead k s
  | .periodBoundary sec step beacon => Sys2Proof.Machine.execPeriodBoundary sec step beacon s
  | .monCounterSat n => Sys2Proof.Machine.execMonCounterSat n s
  | .latch k => Sys2Proof.Machine.execLatch k s
  | .monPcfgWrite second v k => Sys2Proof.Machine.execMonPcfgWrite second v k s
  | .monLivelRead n k => Sys2Proof.Machine.execMonLivelRead n k s
  | .calUserSet i' c v k => Sys2Proof.Machine.execCalUserSet i' c v k s
  | .calUserStore => Sys2Proof.Machine.execCalUserStore s
  | .calClr v k => Sys2Proof.Machine.execCalClr v k s
  | .pllLoss => Sys2Proof.Machine.execPllLoss s
  | .tcxoCount n => Sys2Proof.Machine.execTcxoCount n s
  | .aonEdgeMissing => Sys2Proof.Machine.execAonEdgeMissing s
  | .xclr k => Sys2Proof.Machine.execXclr k s
  | .snapshotFallback p => Sys2Proof.Machine.execSnapshotFallback p s
  | .domainReset d => Sys2Proof.Machine.execDomainReset d s
  | .supplyWarning mv => Sys2Proof.Machine.execSupplyWarning mv s
  | .orderlyPowerDown => Sys2Proof.Machine.execOrderlyPowerDown s
  | .supplyWarningEnd least => Sys2Proof.Machine.execSupplyWarningEnd least s
  | .deferredOnRelease => Sys2Proof.Machine.execDeferredOnRelease s
  | .brownout => Sys2Proof.Machine.execBrownout s
  | .lockstepMismatch pair => Sys2Proof.Machine.execLockstepMismatch pair s
  | .watchdog pair => Sys2Proof.Machine.execWatchdog pair s
  | .domainPowerFail d mv => Sys2Proof.Machine.execDomainPowerFail d mv s
  | .start addr rom page housing down above => Sys2Proof.Machine.execStart addr rom page housing down above s
  | .bankSupplyFault b above mv => Sys2Proof.Machine.execBankSupplyFault b above mv s
  | .bankSupplyOk b c mv => Sys2Proof.Machine.execBankSupplyOk b c mv s
  | .standby k => Sys2Proof.Machine.execStandby k s
  | .sleep k => Sys2Proof.Machine.execSleep k s
  | .wakePin high => Sys2Proof.Machine.execWakePin high s
  | .rtcAlarm high => Sys2Proof.Machine.execRtcAlarm high s
  | .logicWake => Sys2Proof.Machine.execLogicWake s
  | .pwrRtclRead k => Sys2Proof.Machine.execPwrRtclRead k s
  | .pwrCfgWrite v k => Sys2Proof.Machine.execPwrCfgWrite v k s
  | .gnssPositionSave => Sys2Proof.Machine.execGnssPositionSave s
  | .opsSSave => Sys2Proof.Machine.execOpsSSave s
  | .delayTabPeriodicSend => Sys2Proof.Machine.execDelayTabPeriodicSend s
  | .gnssAntFaultEnded i' v => Sys2Proof.Machine.execGnssAntFaultEnded i' v s
  | .d0SupplyLost => Sys2Proof.Machine.execD0SupplyLost s
  | .slotErased => Sys2Proof.Machine.execSlotErased s
  | .wakeDetectorResume => Sys2Proof.Machine.execWakeDetectorResume s

end Sys2Proof.Machine
end

