-- ==== Sys2Proof/Machine/Tick.lean ====
section
/-! DEFINITION. What happens at a fabric tick without a command: the time base advances (R164), clocked sources are
counted (R376, R392, R394), the matrix is evaluated (R286), and the consumers of the queues take what waits (R26). -/

namespace Sys2Proof.Machine

open Sys2Proof

/-! ### Clocks and counted sources -/

/-- The fabric tick, T and the operating seconds advance by one tick (R4, R164, R376). -/
def State.clock (s : State) : State :=
  let s := (s.onSys fun x => { x with ticks := x.ticks + 1 }).advanceT
  s.onLog fun x => if x.opsTicks + 1 = 120000000 then { x with ops := x.ops + 1, opsTicks := 0 } else { x with opsTicks := x.opsTicks + 1 }

/-- Whole milliseconds of T. -/
def State.msOf (s : State) : Nat := s.tmb.t * 1000 / 2 ^ 72

/-- What a counter adds at a tick, by its source, from the level of its boolean source before and after; `ms` says that T
has reached a whole millisecond, `us` that its port has driven for one more microsecond (R392). -/
def tickCount (src : Nat) (before after ms us : Bool) : Nat :=
  if src = 0x01 then 1
  else if src = 0x02 then (if ms then 1 else 0)
  else if 0xA0 ≤ src ∧ src < 0xC0 then (if us then 1 else 0)
  else if src = 0xF0 then (if after && !before then 1 else 0)
  else if src = 0xF1 then (if after then 1 else 0)
  else if src = 0xF2 then (if before && !after then 1 else 0)
  else 0

/-- The boolean source that a counter names in ARG. -/
def State.monLevel (s : State) (n : MonId) : Bool := s.boolSrc (bits (s.monCfg n) 0 11)

/-- A port drives, and this tick completes a microsecond of it. -/
def State.driveUs (s : State) (p : PortId) : Bool := s.ports[p].status == .drive && s.mon.driveTicks[p] == 119

/-- The counters with a clocked source (R392). -/
def State.tickCounters (s : State) (ms : Bool) : State :=
  s.onMon fun m =>
    { m with
      counters := if m.running then updAll m.counters fun n c =>
          let src := bits (s.monCfg n) 24 8
          c.add (tickCount src m.level[n] (s.monLevel n) ms (s.driveUs (Fin.ofNat 32 (src - 0xA0))))
        else m.counters,
      level := updAll m.level fun n _ => s.monLevel n,
      driveTicks := updAll m.driveTicks fun p t => if s.ports[p].status == .drive then (t + 1) % 120 else t }

/-- Gauges with SMODE = 1 take a sample at a whole millisecond (R394). -/
def State.tickGauges (s : State) : State :=
  if s.mon.running then
    s.onMon fun m => { m with gauges := updAll m.gauges fun g x => if bit (s.gaugeCfg g.val) 31 && bit (s.gaugeCfg g.val) 30 then x.add (s.valSrc (bits (s.gaugeCfg g.val) 0 11)) else x }
  else s

/-- A Step entry that no other cause has closed the period for closes it (R366, R395). -/
def State.stepBoundary (s : State) : State :=
  if s.mon.stepDue then
    let c := s.enabledCauses false true false
    if s.mon.running && c != 0 then s.closePeriod c else s.onMon fun m => { m with stepDue := false }
  else s

/-! ### Consumers of the queues (R26) -/

/-- The runtime takes the head of Q9 (R366). -/
def State.takeQ9 (s : State) : State := s.onSeq fun x => { x with q9 := x.q9.drop 1 }

/-- The runtime takes the head of Q11; while a channel drains the queue the entry leaves through that channel (R344). -/
def State.takeQ11 (s : State) : State :=
  if s.drainedBy 11 none then s.onGns fun g => { g with q11Taken := min g.q11.length (g.q11Taken + 1) }
  else s.onGns fun g => { g with q11 := g.q11.drop (max 1 g.q11Taken), q11Taken := 0 }

/-- A received hierarchy message is handled by its code (R240). -/
def State.handle (s : State) (m : Msg) : State :=
  match m.code with
  | 0x80 => s.rxHeartbeat m.sender m.body
  | 0x81 => s.rxTimed m.sender m.body
  | 0x82 => s.rxDone m.sender m.body
  | 0x83 => s.rxReserve m.sender m.body
  | 0x84 => s.rxDesc m.sender m.body
  | 0x85 => s.rxStop m.sender m.body
  | 0x86 => s.rxRelease m.sender m.body
  | 0x87 => s.rxDelay m.sender m.body
  | 0x88 => s.fromKnown m.sender fun s => s.rxRotate m.sender m.body
  | _ => s

/-- The runtime takes the head of Q13. -/
def State.takeQ13 (s : State) : State :=
  match s.hie.q13 with
  | [] => s
  | m :: rest => (s.onHie fun h => { h with q13 := rest }).handle m

/-- The payload of DATA frames: up to 32 bytes each, SOM on the first and EOM on the last (R227, R241). -/
def dataFrames (dst : Nat) : Nat → Bool → List Byte → List Frame
  | 0, _, _ => []
  | n + 1, som, bytes =>
    let last := decide (bytes.length ≤ 32)
    .data dst som last (bytes.take 32) :: (if last then [] else dataFrames dst n false (bytes.drop 32))

/-- A hierarchy frame put on the Clapper: towards its destination, or onto both links (R240). -/
def State.clapperSend (s : State) (dst : Nat) (bytes : List Byte) : State :=
  (dataFrames dst (bytes.length + 1) true bytes).foldl (fun (s : State) (f : Frame) =>
    if dst = 63 then (s.transmit false f).transmit true f else s.transmit (s.sideOf dst) f) s

/-- A hierarchy message is sealed under the group key and sent (R240, R241, R309, R319). Without a root nothing can be
sealed, and the message is discarded. -/
def State.sendHier (s : State) (m : Msg) : State :=
  match s.sec.root with
  | none => s
  | some root =>
    let head := header kHIER s.sys.addr (s.sec.epoch % 256) s.sec.hctr m.body.length
    let bytes := sealed (s.groupKey root s.sec.epoch) (le 1 s.sys.addr ++ zeros 3) head m.body s.sec.hctr 8
    let s := s.onSec fun x => { x with hctr := x.hctr + 1 }
    if m.code = 0x80 then s.segSend 3 (0x080 + s.sys.addr) bytes 31 10
    else if s.htrans then s.clapperSend m.dst bytes
    else s.segSend 3 (0x0C0 + s.sys.addr) bytes (Config.canLimit 3 false) (Config.canLimit 3 true)

/-- CAN3 and the Clapper take the head of Q14. -/
def State.takeQ14 (s : State) : State :=
  match s.hie.q14 with
  | [] => s
  | m :: rest => (s.onHie fun h => { h with q14 := rest }).sendHier m

/-- A fault record goes to its channel's owner, or to every open session with the DMA right (R333, R348). -/
def State.notifyFault (s : State) (r : List Byte) : State :=
  let body := (r.drop 1).take 28
  let owner := (r.getD 28 0).toNat
  (idx 4).foldl (fun (s : State) (k : SessId) =>
    if owner = k.val ∨ (owner = 0xFF ∧ s.hasRight k rightDMA) then s.notify k 3 body else s) s

/-- The runtime takes the head of Q15 (R348). -/
def State.takeQ15 (s : State) : State :=
  match s.dma.q15 with
  | [] => s
  | r :: rest => (s.onDma fun x => { x with q15 := rest }).notifyFault r

/-- The security core seals and sends the head of an outbound queue (R309, R333). -/
def State.takeOut (s : State) (k : SessId) : State :=
  match s.hl.out[k] with
  | [] => s
  | e :: rest => (s.onHl fun h => { h with out := upd h.out k fun _ => rest }).sessSend k kDATA e.bytes

/-! ### What falls due -/

/-- The manager announces a rotation at 3 s, 2 s and 1 s before its second (R318). -/
def State.announceRotation (s : State) : State :=
  match s.sec.rotation with
  | none => s
  | some (e, sec) =>
    if !s.isWorker && s.sec.announce != 0 && decide (sec ≤ s.secs + s.sec.announce) then
      let s := s.onSec fun x => { x with announce := x.announce - 1 }
      (s.send 0x88 63 (le 1 s.sys.addr ++ zeros 3 ++ le 4 e ++ le 4 sec ++ zeros 4)).1
    else s

/-- Failures that a session has counted for one second are recorded (R311). -/
def State.secondOfFails (s : State) (k : SessId) : State :=
  if s.sec.sessions[k].fails ≠ 0 ∧ s.sec.sessions[k].failAt + 120000000 ≤ s.tick then s.flushFails k else s

/-- One consumer of each kind, for the four sessions. -/
def State.forSessions (s : State) (f : State → SessId → State) : State := (idx 4).foldl f s

/-- Partial frames older than their limit are discarded (R241, R328). -/
def State.expireAll (s : State) : State :=
  let s := (idx 4).foldl State.expireSeg s
  (s.hie.asm.map Prod.fst).foldl State.expireAsm s

/-- The clocks and the sources they drive. -/
def State.tickClocks (s : State) : State :=
  let t := s.clock
  let ms := decide (s.msOf ≠ t.msOf)
  let t := t.tickCounters ms
  let t := if ms then t.tickGauges else t
  (t.stepBoundary.onPwr fun x => { x with invalid := 0 }).interlock

/-- The consumers of the queues, each one entry (R26). -/
def State.tickQueues (s : State) : State :=
  let s := (((s.takeQ9.takeQ11).takeQ13).takeQ14).takeQ15
  let s := s.forSessions State.takeOut
  (s.pumpSegs 0 4).pumpSegs 3 4

/-- One fabric tick of a device that runs. -/
def State.fabricTick (s : State) : State :=
  let s := s.tickClocks.announceRotation
  let s := (s.tickQueues.expireAll).forSessions State.secondOfFails
  s.forSessions State.resumeAll

/-- What a step does when no command waits: a fabric tick while the device runs, and nothing otherwise. -/
def State.idle (s : State) : State := if s.pwr.phase = .run then s.fabricTick else s

end Sys2Proof.Machine
end

