-- ==== Sys2Proof/Safety.lean ====
section
/-! DEFINITION. What every step keeps (SRAM in its canonical form, no queue with more entries than R26 gives it), and the
words of a frame: the parts of the state, and two states that differ in some of them only. -/

namespace Sys2Proof.Machine

open Sys2Proof

/-- The sparse storage is canonical, and Q8, Q9, Q13, Q14 and Q15 hold at most 64 entries (R26). -/
structure State.Inv (s : State) : Prop where
  mem : s.mem.wf = true
  q8  : s.log.q8.length ≤ 64
  q9  : s.seq.q9.length ≤ 64
  q13 : s.hie.q13.length ≤ 64
  q14 : s.hie.q14.length ≤ 64
  q15 : s.dma.q15.length ≤ 64

/-- The parts of the state but the queue of waiting commands. -/
inductive Part where
  | sys | ports | banks | sol | log | rcp | sec | pwr | tmb | gns | hie | mon | cal | fan | eng | sct | can | hl | apu | dma | seq | mem
deriving DecidableEq, Repr

/-- A part is the same in two states. -/
def State.same (p : Part) (s t : State) : Prop :=
  match p with
  | .sys => t.sys = s.sys
  | .ports => t.ports = s.ports
  | .banks => t.banks = s.banks
  | .sol => t.sol = s.sol
  | .log => t.log = s.log
  | .rcp => t.rcp = s.rcp
  | .sec => t.sec = s.sec
  | .pwr => t.pwr = s.pwr
  | .tmb => t.tmb = s.tmb
  | .gns => t.gns = s.gns
  | .hie => t.hie = s.hie
  | .mon => t.mon = s.mon
  | .cal => t.cal = s.cal
  | .fan => t.fan = s.fan
  | .eng => t.eng = s.eng
  | .sct => t.sct = s.sct
  | .can => t.can = s.can
  | .hl => t.hl = s.hl
  | .apu => t.apu = s.apu
  | .dma => t.dma = s.dma
  | .seq => t.seq = s.seq
  | .mem => t.mem = s.mem

/-- Nothing but the parts `ps` has changed from `s` to `t`; the commands that wait are the same. -/
structure State.Only (ps : List Part) (s t : State) : Prop where
  pending : t.pending = s.pending
  same    : ∀ p, p ∉ ps → State.same p s t

end Sys2Proof.Machine
end

