-- ==== Sys2Proof/Certificates/Slice0/Obligations.lean ====
section
/-! DEFINITION. The statements for the provers, by the rules of the manual. -/

open Sys2Proof Sys2Proof.Machine

/-- For every command c, every queue rest and every state whose waiting commands are c followed by rest, the step is exec of c on the state whose waiting commands are rest. The queue is the model's own. (R11, R21) -/
def Obligations.StepRunsTheFrontCommand : Prop :=
  ∀ (c : Instr) (rest : List Instr) (s : State), s.pending = c :: rest → step s = exec c { s with pending := rest }

/-- This is the model's choice of log entry 1. With no command waiting, a device that does not run is left as it is, and in one that runs a fabric tick passes and no command waits after it. (R4, R164) -/
def Obligations.StepWithoutACommandIsATickOrNothing : Prop :=
  (∀ s : State, s.pending = [] → s.pwr.phase ≠ .run → step s = .next s) ∧
  (∀ s : State, s.pending = [] → s.pwr.phase = .run → ∃ t, step s = .next t ∧ t = s.fabricTick ∧ t.pending = [])

/-- The registers SYS_MODE, PRT0_FREQ, PRT31_FREQ, GNS_CTRL, GNS_PVT_TRK, GNS_PVT_ACC, SCT_VEL, SCT_PINFO, HIE_WSTAT1, CAN3_EWL, CAN0_ISO, RCP_CTRL, HLK_CFG, HLK_NET, MON_G0_MIN, MON_G0_MAX, CLK_STAT, CLK_DIV, RCP_STAT and REC_SEQ read the value that their header states. CURRENT and REQUEST are BOIL, no session is open, no Recipe is in force, every solenoid port is passive in phase IDLE, SRAM lists nothing and no command waits. (R9, R31) -/
def Obligations.ResetHasTheStatedValues : Prop :=
  (∀ p ∈ [((0x40 : Nat), (0x101 : Word)), ((0x100028 : Nat), (0x80000000 : Word)), ((0x11f028 : Nat), (0x80000000 : Word)), ((0x210008 : Nat), (0x4 : Word)), ((0x210040 : Nat), (0xffff : Word)), ((0x210044 : Nat), (0xffffffff : Word)), ((0x300058 : Nat), (0xffff : Word)), ((0x30005c : Nat), (0xff : Word)), ((0x240104 : Nat), (0xffff : Word)), ((0x28c018 : Nat), (0x6060 : Word)), ((0x280028 : Nat), (0xfe : Word)), ((0x10010 : Nat), (0x258 : Word)), ((0x3000c : Nat), (0xb7b8 : Word)), ((0x30018 : Nat), (0x10 : Word)), ((0x3c0804 : Nat), (0x7fffffff : Word)), ((0x3c0808 : Nat), (0x80000000 : Word)), ((0x2000 : Nat), (0xe0000000 : Word)), ((0x2004 : Nat), (0x28ca0842 : Word)), ((0x10000 : Nat), (0x0 : Word)), ((0x380004 : Nat), (0x0 : Word))], (State.reset.regAt p.1).map (fun r => r.val) = some p.2) ∧
  State.reset.sys.current = .boil ∧ State.reset.sys.request = .boil ∧ (∀ k : SessId, State.reset.sec.sessions[k].isOpen = false) ∧ State.reset.rcp.applied = false ∧
  State.reset.log.nextSeq = 0 ∧ State.reset.mem = [] ∧ State.reset.pending = []

/-- State.reset meets the invariant: the sparse storage of SRAM is canonical, and Q8, Q9, Q13, Q14 and Q15 hold at most 64 entries. (R26, R334) -/
def Obligations.InvariantHoldsAtReset : Prop :=
  State.reset.Inv

/-- For every state that meets the invariant, with any command in front or none, the state after the step meets it: SRAM keeps its canonical form, and Q8, Q9, Q13, Q14 and Q15 never hold more than 64 entries. (R26, R334) -/
def Obligations.EveryStepKeepsTheInvariant : Prop :=
  ∀ s t : State, s.Inv → step s = .next t → t.Inv

/-- For every command with every operand and every state, exec answers a next state. No meaning ends in a fault or a refusal. (R11) -/
def Obligations.EveryCommandCompletes : Prop :=
  ∀ (c : Instr) (s : State), ∃ t, exec c s = .next t

/-- Whatever a command does, the commands that wait after it are those that waited before it, also where it resets the device. A step leaves the queue without its front command. (R11) -/
def Obligations.CommandsLeaveTheQueue : Prop :=
  (∀ (c : Instr) (s t : State), exec c s = .next t → t.pending = s.pending) ∧
  (∀ s t : State, step s = .next t → t.pending = s.pending.tail)

/-- For every step from every state: a REVOKED slot stays REVOKED, an ENABLED slot does not become EMPTY, the time floor of R313 and the rollback floor of R305 do not fall. So no sequence of commands, resets and starts enables a revoked slot again. (R304, R305, R313) -/
def Obligations.KeySlotsAndFloorsOnlyAdvance : Prop :=
  ∀ s t : State, step s = .next t →
    (∀ i : Fin 4, s.sec.slots[i].st = .revoked → t.sec.slots[i].st = .revoked) ∧ (∀ i : Fin 4, s.sec.slots[i].st ≠ .empty → t.sec.slots[i].st ≠ .empty) ∧
    s.sec.floor ≤ t.sec.floor ∧ s.sec.rbFloor ≤ t.sec.rbFloor

/-- For every step from every state there is a list of new records, newest first, such that the Reel after is the new records before the old ones (in the 61,440 places it has), the next SEQ has risen by their number modulo 2^32, and the j-th from the newest carries the SEQ that counts on from the one before, modulo 2^32. A step that commits nothing, a reset, a time step, a time setting and a Recipe change leave SEQ as it was. (R375) -/
def Obligations.RecordsAreOnlyAdded : Prop :=
  ∀ s t : State, step s = .next t →
    ∃ new : List RecSlot, t.log.reel.take 61440 = (new ++ s.log.reel).take 61440 ∧ t.log.nextSeq % 2 ^ 32 = (s.log.nextSeq + new.length) % 2 ^ 32 ∧
      ∀ (j : Nat) (r : RecSlot), new[j]? = some r → r.seq = (s.log.nextSeq + (new.length - 1 - j)) % 2 ^ 32

/-- For every step from every state, the Keep after is the Keep before with the records kept since behind it, and where any is added the Keep holds at most 4,096. No command, reset or start takes a kept record away or changes it. (R371, R386) -/
def Obligations.KeepSlotsAreNeverOverwritten : Prop :=
  ∀ s t : State, step s = .next t → ∃ new : List RecSlot, t.log.keep = s.log.keep ++ new ∧ (new = [] ∨ t.log.keep.length ≤ 4096)

/-- For every session, address and state: a read or a write at an address that is not a multiple of four, or that is not in the SRAM windows and names no register, answers BAD_ADDR. The read leaves the state as it is; the write adds its answer and changes nothing else. Every access is of a whole 32-bit word, as the types of the reads and writes say. (R5) -/
def Obligations.AddressesWithoutARegisterAreRefused : Prop :=
  (∀ (k : SessId) (a : Nat) (w : Word) (s : State), (a % 4 ≠ 0 ∨ isSram a = false ∧ s.regAt a = none) →
    s.readWord k a = (s, .error .badAddr) ∧ s.writeWord k a w = { s with sys := { s.sys with answers := ⟨s.me k, .badAddr⟩ :: s.sys.answers } })

/-- While a section is in AUTO or EXT, which is ENG = 1, no entry gives a write of a page of the coverage map a target; while a WRITE of a Recipe image runs, none gives one of its pages. Such a write is a RIGHTS fault where an entry covers it, and DENIED to an open session. A read gets the target that its entry gives, whatever these conditions are. (R338) -/
def Obligations.BlockedPagesRefuseWritesOnly : Prop :=
  (∀ (ctx a : Nat) (s : State) (e : ApuEntry), s.apuEntry ctx a = some e →
    ((∃ i : SectId, s.sct.sects[i].mode = .auto ∨ s.sct.sects[i].mode = .ext) ∧ (0x40000000 + bits (s.sctWord 3) 28 4 * 0x100000) / 4096 ≤ a / 4096 ∧ a / 4096 < (0x40000000 + bits (s.sctWord 3) 28 4 * 0x100000) / 4096 + 256 ∨
      s.rcp.op = .write ∧ 0 < s.rcp.wlen ∧ s.rcp.waddr.toNat / 4096 ≤ a / 4096 ∧ a / 4096 ≤ (s.rcp.waddr.toNat + s.rcp.wlen - 1) / 4096) →
    (match s.translate ctx a true with | .ok _ => False | .error c => c = .rights) ∧
    (∀ k : SessId, k.val = ctx → s.lowPower = false → s.sec.sessions[k].isOpen = true → s.aperture k a true = .denied)) ∧
  (∀ (ctx a : Nat) (s : State) (e : ApuEntry), s.apuEntry ctx a = some e → e.r = true → (s.translate ctx a false).toOption = some (e.tgt * 4096 + (a - e.win * 4096)))

/-- The gate of a command: a session that is not open has no key and gets AUTH_FAIL, one without the right DENIED, an RWS command of a session that is neither SERVICE nor OWNER DENIED, any command in STANDBY or SLEEP NOT_READY (the order of these is the model's, log entry 8). Each of the commands hwmRst, ovfClr, portPwmPerWrite, portPwmPhWrite, portFaultClear, solDselWrite, gnssRateWrite, canMsgrel, latch, monPcfgWrite, xclr, modeRequest, hieRelease, recover, clrcnt, opmodeWrite, solDclr, resteer, gnssRestart, gnssCold, save, calUserSet, calClr, pwrCfgWrite, takeStart, takeAbort, tmbFracRead, tmbRatelRead, monLivelRead, pwrRtclRead, enqueue, abort, abortAll, abortEnq, grant, free, freeall, claim, dmaRelease, dmaStart, dmaAbort, resume, rdptrWrite, recWindowRead, recWinseqRead that its gate does not pass leads to the state with that answer given, and nothing else has happened. (R7, R307, R308, R337) -/
def Obligations.CommandsWithoutTheirRightAreTurnedAway : Prop :=
  (∀ (k : SessId) (r : Nat) (s : State), s.lowPower = false → s.rtOnly = false → s.sec.sessions[k].isOpen = false → s.gate k r = .authFail ∧ s.gateRws k r = .authFail) ∧
  (∀ (k : SessId) (r : Nat) (s : State), s.lowPower = false → s.rtOnly = false → s.sec.sessions[k].isOpen = true → s.hasRight k r = false → s.gate k r = .denied ∧ s.gateRws k r = .denied) ∧
  (∀ (k : SessId) (r : Nat) (s : State), s.lowPower = false → s.rtOnly = false → s.sec.sessions[k].isOpen = true → s.hasRight k r = true → s.gate k r = .ok ∧ s.gateRws k r = if s.privileged k then .ok else .denied) ∧
  (∀ (k : SessId) (r : Nat) (s : State), s.lowPower = true → s.gate k r = .notReady ∧ s.gateRws k r = .notReady) ∧
  (∀ (k : SessId) (s : State), s.gate k rightPARAM ≠ .ok →
    (∀ (q : Fin 16), exec (.hwmRst q k) s = .next (s.answer (s.me k) (s.gate k rightPARAM))) ∧ (∀ (q : Fin 16), exec (.ovfClr q k) s = .next (s.answer (s.me k) (s.gate k rightPARAM))) ∧ (∀ (p : PortId) (v : Word), exec (.portPwmPerWrite p v k) s = .next (s.answer (s.me k) (s.gate k rightPARAM))) ∧ (∀ (p : PortId) (v : Word), exec (.portPwmPhWrite p v k) s = .next (s.answer (s.me k) (s.gate k rightPARAM))) ∧ (∀ (p : PortId) (v : Word), exec (.portFaultClear p v k) s = .next (s.answer (s.me k) (s.gate k rightPARAM))) ∧ (∀ (v : Word), exec (.solDselWrite v k) s = .next (s.answer (s.me k) (s.gate k rightPARAM))) ∧ (∀ (v : Word), exec (.gnssRateWrite v k) s = .next (s.answer (s.me k) (s.gate k rightPARAM))) ∧ (∀ (c : CanId) (v : Word), exec (.canMsgrel c v k) s = .next (s.answer (s.me k) (s.gate k rightPARAM))) ∧ (exec (.latch k) s = .next (s.answer (s.me k) (s.gate k rightPARAM))) ∧ (∀ (second : Bool) (v : Word), exec (.monPcfgWrite second v k) s = .next (s.answer (s.me k) (s.gate k rightPARAM))) ∧ (exec (.xclr k) s = .next (s.answer (s.me k) (s.gate k rightPARAM)))) ∧
  (∀ (k : SessId) (s : State), s.gate k rightCOMMAND ≠ .ok →
    (∀ (v : Word), exec (.modeRequest v k) s = .next (s.answer (s.me k) (s.gate k rightCOMMAND))) ∧ (∀ (a : Fin 64), exec (.hieRelease a k) s = .next (s.answer (s.me k) (s.gate k rightCOMMAND))) ∧ (∀ (c : CanId), exec (.recover c k) s = .next (s.answer (s.me k) (s.gate k rightCOMMAND))) ∧ (∀ (c : CanId), exec (.clrcnt c k) s = .next (s.answer (s.me k) (s.gate k rightCOMMAND))) ∧ (∀ (c : CanId) (m : Nat) (busy : Bool), exec (.opmodeWrite c m busy k) s = .next (s.answer (s.me k) (s.gate k rightCOMMAND)))) ∧
  (∀ (k : SessId) (s : State), s.gateRws k rightSERVICE ≠ .ok →
    (∀ (v : Word), exec (.solDclr v k) s = .next (s.answer (s.me k) (s.gateRws k rightSERVICE))) ∧ (∀ (ok : Bool), exec (.resteer ok k) s = .next (s.answer (s.me k) (s.gateRws k rightSERVICE))) ∧ (∀ (above : List Nat), exec (.gnssRestart above k) s = .next (s.answer (s.me k) (s.gateRws k rightSERVICE))) ∧ (exec (.gnssCold k) s = .next (s.answer (s.me k) (s.gateRws k rightSERVICE))) ∧ (exec (.save k) s = .next (s.answer (s.me k) (s.gateRws k rightSERVICE))) ∧ (∀ (i : Fin 33) (c : Fin 8) (v : Word), exec (.calUserSet i c v k) s = .next (s.answer (s.me k) (s.gateRws k rightSERVICE))) ∧ (∀ (v : Word), exec (.calClr v k) s = .next (s.answer (s.me k) (s.gateRws k rightSERVICE))) ∧ (∀ (v : Word), exec (.pwrCfgWrite v k) s = .next (s.answer (s.me k) (s.gateRws k rightSERVICE)))) ∧
  (∀ (k : SessId) (s : State), s.gateRws k rightTAKE ≠ .ok →
    (exec (.takeStart k) s = .next (s.answer (s.me k) (s.gateRws k rightTAKE))) ∧ (exec (.takeAbort k) s = .next (s.answer (s.me k) (s.gateRws k rightTAKE)))) ∧
  (∀ (k : SessId) (s : State), s.gate k rightREAD ≠ .ok →
    (exec (.tmbFracRead k) s = .next (s.answer (s.me k) (s.gate k rightREAD))) ∧ (exec (.tmbRatelRead k) s = .next (s.answer (s.me k) (s.gate k rightREAD))) ∧ (∀ (n : MonId), exec (.monLivelRead n k) s = .next (s.answer (s.me k) (s.gate k rightREAD))) ∧ (exec (.pwrRtclRead k) s = .next (s.answer (s.me k) (s.gate k rightREAD)))) ∧
  (∀ (k : SessId) (s : State), s.gate k rightCANTX ≠ .ok →
    (∀ (c : CanId), exec (.enqueue c k) s = .next (s.answer (s.me k) (s.gate k rightCANTX))) ∧ (∀ (c : CanId) (h : Nat), exec (.abort c h k) s = .next (s.answer (s.me k) (s.gate k rightCANTX))) ∧ (∀ (c : CanId), exec (.abortAll c k) s = .next (s.answer (s.me k) (s.gate k rightCANTX))) ∧ (∀ (c : CanId), exec (.abortEnq c k) s = .next (s.answer (s.me k) (s.gate k rightCANTX)))) ∧
  (∀ (k : SessId) (s : State), s.gate k rightDMA ≠ .ok →
    (exec (.grant k) s = .next (s.answer (s.me k) (s.gate k rightDMA))) ∧ (∀ (i : EntId), exec (.free i k) s = .next (s.answer (s.me k) (s.gate k rightDMA))) ∧ (exec (.freeall k) s = .next (s.answer (s.me k) (s.gate k rightDMA))) ∧ (∀ (n : ChId), exec (.claim n k) s = .next (s.answer (s.me k) (s.gate k rightDMA))) ∧ (∀ (n : ChId), exec (.dmaRelease n k) s = .next (s.answer (s.me k) (s.gate k rightDMA))) ∧ (∀ (n : ChId), exec (.dmaStart n k) s = .next (s.answer (s.me k) (s.gate k rightDMA))) ∧ (∀ (n : ChId), exec (.dmaAbort n k) s = .next (s.answer (s.me k) (s.gate k rightDMA))) ∧ (∀ (n : ChId), exec (.resume n k) s = .next (s.answer (s.me k) (s.gate k rightDMA))) ∧ (∀ (n : ChId) (v : Word), exec (.rdptrWrite n v k) s = .next (s.answer (s.me k) (s.gate k rightDMA)))) ∧
  (∀ (k : SessId) (s : State), s.gate k rightRECORD ≠ .ok →
    (∀ (w : Fin 16), exec (.recWindowRead w k) s = .next (s.answer (s.me k) (s.gate k rightRECORD))) ∧ (exec (.recWinseqRead k) s = .next (s.answer (s.me k) (s.gate k rightRECORD))))

/-- An ON or OFF written to PRTn_CMD whose right, group, function and R18 checks pass acts on every member of the paralleled group: a digital output turns on or off and its DUR timer is set or cancelled, a motor port is enabled or disabled. It completes with OK. Every other port and every part but the ports and the answer is unchanged. A running DUR timer that ends turns the output off. (R18, R39, R40, R41, R53) -/
def Obligations.PortCommandsActUnderTheirFunction : Prop :=
  (∀ (p : PortId) (dur : Nat) (src : Src) (s : State), s.srcGate src = .ok → s.cmdGate p = .ok → s.checkOn src p dur = .ok →
    isOutFunc (s.func p) = true → ∃ t, exec (.portCmdOn p dur src) s = .next t ∧
      (∀ q, q ∈ s.members p → t.ports[q].outOn = true ∧ t.ports[q].durEnd = (if dur = 0 then none else some (s.tick + 1 + dur * 120000))) ∧
      (∀ q, q ∉ s.members p → t.ports[q] = s.ports[q]) ∧ t.sys.answers = ⟨src, .ok⟩ :: s.sys.answers ∧ State.Only [.ports, .sys, .hie, .mon] s t) ∧
  (∀ (p : PortId) (dur : Nat) (src : Src) (s : State), s.srcGate src = .ok → s.cmdGate p = .ok → s.checkOn src p dur = .ok →
    s.func p = 4 → ∃ t, exec (.portCmdOn p dur src) s = .next t ∧ (∀ q, q ∈ s.members p → t.ports[q].enabled = true) ∧
      (∀ q, q ∉ s.members p → t.ports[q] = s.ports[q]) ∧ t.sys.answers = ⟨src, .ok⟩ :: s.sys.answers ∧ State.Only [.ports, .sys, .hie, .mon] s t) ∧
  (∀ (p : PortId) (src : Src) (s : State), s.srcGate src = .ok → s.cmdGate p = .ok → s.checkOff src p = .ok →
    isOutFunc (s.func p) = true → ∃ t, exec (.portCmdOff p src) s = .next t ∧
      (∀ q, q ∈ s.members p → t.ports[q].outOn = false ∧ t.ports[q].durEnd = none) ∧ (∀ q, q ∉ s.members p → t.ports[q] = s.ports[q]) ∧ t.sys.answers = ⟨src, .ok⟩ :: s.sys.answers ∧ State.Only [.ports, .sys, .hie, .mon] s t) ∧
  (∀ (p : PortId) (src : Src) (s : State), s.srcGate src = .ok → s.cmdGate p = .ok → s.checkOff src p = .ok →
    s.func p = 4 → ∃ t, exec (.portCmdOff p src) s = .next t ∧ (∀ q, q ∈ s.members p → t.ports[q].enabled = false) ∧
      (∀ q, q ∉ s.members p → t.ports[q] = s.ports[q]) ∧ t.sys.answers = ⟨src, .ok⟩ :: s.sys.answers ∧ State.Only [.ports, .sys, .hie, .mon] s t) ∧
  (∀ (p : PortId) (s : State), s.ports[p].durEnd.isSome = true → ∃ t, exec (.digitalOutputDurEnd p) s = .next t ∧
    (∀ q, q ∈ s.members p → t.ports[q].outOn = false ∧ t.ports[q].durEnd = none) ∧ (∀ q, q ∉ s.members p → t.ports[q] = s.ports[q]) ∧ State.Only [.ports] s t)

/-- A short, an overcurrent, a time-over limit, an overtemperature or a share imbalance of a drive port that is not passive sets the fault bit of that condition in the member that detected it, gives every member of its paralleled group a duty of 0 and an output that is off, and puts each in FAULT_RETRY when a retry is left and in FAULT_LATCHED otherwise. An open load sets OPEN and changes nothing else of the port. Nothing outside the ports, the solenoid profiles, the event queue, the counters and the answers changes. (R53, R55, R57, R58, R59, R62) -/
def Obligations.PortProtectionSwitchesOff : Prop :=
  (let ends (s t : State) (p : PortId) (b : FaultBit) : Prop :=
      hasBit t.ports[p].fault b = true ∧
      (∀ q, q ∈ s.members (s.lead p) → t.ports[q].duty = 0 ∧ t.ports[q].outOn = false ∧ t.ports[q].durEnd = none ∧
        t.ports[q].status = (if s.ports[s.lead p].status ≠ .latched ∧ s.retries (s.lead p) ≠ 0 ∧ s.ports[s.lead p].retryCnt < s.retries (s.lead p) then .retry else .latched)) ∧
      State.Only [.sys, .ports, .sol, .log, .hie, .mon] s t
   (∀ (p : PortId) (i : Int) (s : State), isDriveFunc (s.func p) = true → s.lead (s.lead p) = s.lead p → s.ports[p].status ≠ .passive →
      ∃ t, exec (.shortDetect p true i) s = .next t ∧ ends s t p .scb) ∧
   (∀ (p : PortId) (i : Int) (s : State), isDriveFunc (s.func p) = true → s.lead (s.lead p) = s.lead p → s.ports[p].status ≠ .passive →
      ∃ t, exec (.shortDetect p false i) s = .next t ∧ ends s t p .scg) ∧
   (∀ (p : PortId) (i : Int) (s : State), isDriveFunc (s.func p) = true → s.lead (s.lead p) = s.lead p → s.ports[p].status ≠ .passive →
      ∃ t, exec (.overcurrentDetect p i) s = .next t ∧ ends s t p .oc) ∧
   (∀ (p : PortId) (i : Int) (s : State), isDriveFunc (s.func p) = true → s.lead (s.lead p) = s.lead p → s.ports[p].status ≠ .passive →
      ∃ t, exec (.timeOverLimit p i) s = .next t ∧ ends s t p .oc) ∧
   (∀ (p : PortId) (tj : Nat) (s : State), isDriveFunc (s.func p) = true → s.lead (s.lead p) = s.lead p → s.ports[p].status ≠ .passive →
      ∃ t, exec (.overtempDetect p tj) s = .next t ∧ ends s t p .ot ∧ hasBit t.ports[p].present .ot = true) ∧
   (∀ (p : PortId) (i : Int) (s : State), isDriveFunc (s.func p) = true → s.lead (s.lead p) = s.lead p → s.ports[p].status ≠ .passive →
      s.parSize (s.lead p) ≠ 0 → ∃ t, exec (.shareImbalance p i) s = .next t ∧ ends s t p .share)) ∧
  (∀ (p : PortId) (i : Int) (s : State), isDriveFunc (s.func p) = true →
      (s.ports[p].status = .drive ∧ s.openOn p = true ∨ s.ports[p].status = .off ∧ s.openOff p = true) →
      ∃ t, exec (.openLoadDetect p i) s = .next t ∧
        t.ports[p] = { s.ports[p] with fault := setBit s.ports[p].fault .open, present := setBit s.ports[p].present .open } ∧
        (∀ q, q ≠ p → t.ports[q] = s.ports[q]) ∧ State.Only [.sys, .ports, .log, .mon] s t)

/-- A write of PRTn_PWM_PER or PRTn_PWM_PH that passes its gate, on a port that is no follower, whose owner is no lock group and whose function leaves the register to the host, stores the value and completes with OK; a PER must meet the bounds of the mode in force and of a mode change in progress. At a carrier instant of a port that has a carrier, is not faulted and is not passive, every member begins a period at the present instant with the next duty. A regulator update takes the junction temperature and the raw current of the cell. Nothing else of the ports, and no part but the named ones, changes. (R42, R47, R48, R49, R50, R51, R53) -/
def Obligations.PortCarrierAndPwmRegisters : Prop :=
  (∀ (p : PortId) (v : Word) (k : SessId) (s : State), s.gate k rightPARAM = .ok → s.isFollower p = false → s.ownerKind p ≠ 3 →
    isSolFunc (s.func p) = false → s.func p ≠ 3 → s.perOk p s.sys.current v.toNat = true → s.sys.switching = false →
    ∃ t, exec (.portPwmPerWrite p v k) s = .next t ∧ t.ports[p] = { s.ports[p] with per := v } ∧ (∀ q, q ≠ p → t.ports[q] = s.ports[q]) ∧
      t.sys.answers = ⟨s.me k, .ok⟩ :: s.sys.answers ∧ State.Only [.ports, .sys, .hie, .mon] s t) ∧
  (∀ (p : PortId) (v : Word) (k : SessId) (s : State), s.gate k rightPARAM = .ok → s.isFollower p = false → s.ownerKind p ≠ 3 → s.func p ≠ 3 →
    ∃ t, exec (.portPwmPhWrite p v k) s = .next t ∧ t.ports[p] = { s.ports[p] with ph := v } ∧ (∀ q, q ≠ p → t.ports[q] = s.ports[q]) ∧
      t.sys.answers = ⟨s.me k, .ok⟩ :: s.sys.answers ∧ State.Only [.ports, .sys, .hie, .mon] s t) ∧
  (∀ (p : PortId) (s : State), s.isFollower p = false → s.carrierPer p ≠ 0 → s.faulted p = false → s.ports[p].status ≠ .passive →
    ∃ t, exec (.carrierInstant p) s = .next t ∧
      (∀ q, q ∈ s.members p → t.ports[q].period.start = s.now ∧ t.ports[q].period.per = s.carrierPer p ∧
        t.ports[q].period.duty = t.ports[q].duty ∧ t.ports[q].awaitCarrier = false) ∧
      (s.ports[p].forced = some .off → ∀ q, q ∈ s.members p → t.ports[q].duty = 0) ∧
      (∀ d, s.ports[p].forced = some (.duty d) → ∀ q, q ∈ s.members p → t.ports[q].duty = d) ∧
      (∀ q, q ∉ s.members p → t.ports[q] = s.ports[q]) ∧ State.Only [.ports] s t) ∧
  (∀ (p : PortId) (m : Sense) (s : State), ∃ t, exec (.regulatorUpdate p m) s = .next t ∧
      t.ports[p].tj = m.tj % 256 ∧ t.ports[p].iRaw = m.iMean ∧
      (∀ q, q ≠ p → q ∉ s.members p → t.ports[q] = s.ports[q]) ∧ State.Only [.sys, .ports, .sol, .mon] s t)

/-- An update of a measured input that is not passive stores the value of its samples with their instant. An edge of a tachometer increments its edge count; a stale one reads a frequency of 0 with STALE set. An input condition that the function detects sets its fault bit and stands; at its end it no longer stands; a burden that was disconnected is connected again. Only the port named changes, and of the other parts only those named. (R43, R45, R57, R483) -/
def Obligations.PortInputsTakeTheirValues : Prop :=
  (∀ (p : PortId) (mean : Int) (instant : Nat) (s : State), isUpdateFunc (s.func p) = true → s.ports[p].status ≠ .passive →
    ∃ t, exec (.inputUpdate p mean instant) s = .next t ∧ t.ports[p].inval = BitVec.ofInt 32 (s.inputValue p mean) ∧
      t.ports[p].invalAt = instant ∧ t.ports[p].srcLost = false ∧ (∀ q, q ≠ p → t.ports[q] = s.ports[q]) ∧ State.Only [.sys, .ports, .mon] s t) ∧
  (∀ (p : PortId) (instant : Nat) (s : State), s.func p = 5 → s.ports[p].status ≠ .passive →
    ∃ t, exec (.tachEdge p instant) s = .next t ∧ t.ports[p].inval = s.ports[p].inval + 1 ∧
      t.ports[p].edges = keepEdges (instant :: s.ports[p].edges) ∧
      t.freq p = (if (keepEdges (instant :: s.ports[p].edges)).length < 2 then 0 else freqFrom s.now (keepEdges (instant :: s.ports[p].edges))) ∧ (∀ q, q ≠ p → t.ports[q] = s.ports[q]) ∧ State.Only [.ports, .mon, .sct] s t) ∧
  (∀ (p : PortId) (s : State), s.func p = 5 → ∃ t, exec (.tachStale p) s = .next t ∧ t.freq p = 0 ∧
      t.ports[p].stale = true ∧ t.ports[p].inval = s.ports[p].inval ∧ (∀ q, q ≠ p → t.ports[q] = s.ports[q]) ∧ State.Only [.ports, .mon] s t) ∧
  (∀ (p : PortId) (b : FaultBit) (s : State), detects (s.func p) b = true → s.ports[p].status ≠ .passive →
    ∃ t, exec (.inputFaultDetect p b) s = .next t ∧ t.ports[p].fault = setBit s.ports[p].fault b ∧
      t.ports[p].present = setBit s.ports[p].present b ∧ t.ports[p].status = s.ports[p].status ∧ (∀ q, q ≠ p → t.ports[q] = s.ports[q]) ∧
      State.Only [.sys, .ports, .log, .mon] s t) ∧
  (∀ (p : PortId) (b : FaultBit) (s : State), detects (s.func p) b = true → ¬ (s.func p = 7 ∧ b = .sensShort) →
    ∃ t, exec (.inputFaultEnd p b) s = .next t ∧ t.ports[p] = { s.ports[p] with present := clearBit s.ports[p].present b } ∧ (∀ q, q ≠ p → t.ports[q] = s.ports[q]) ∧
      State.Only [.ports] s t) ∧
  (∀ (p : PortId) (s : State), s.ports[p].burdenOff = true → ∃ t, exec (.burdenReconnect p) s = .next t ∧
      t.ports[p] = { s.ports[p] with burdenOff := false, burdenBack := true } ∧ (∀ q, q ≠ p → t.ports[q] = s.ports[q]) ∧ State.Only [.ports] s t)

/-- A bank load above 32 A begins an excursion, one below 30 A ends it and arms the trip again, and the trip happens once in an excursion. The retry of a faulted group counts in every member and starts the watch of 10 s, whose end returns the count to 0. A clear of fault bits whose conditions are gone drops them and the retry count, and completes with OK. Other banks and ports keep what they hold. (R59, R60, R61) -/
def Obligations.BankLoadRetryAndFaultClear : Prop :=
  (∀ (b : BankId) (load : Int) (s : State), ∃ t, exec (.bankOverload b load) s = .next t ∧ t.banks[b].load = load ∧
      t.banks[b].excursion = true ∧ (s.banks[b].excursion = false → t.banks[b].tripped = false) ∧
      (∀ c, c ≠ b → t.banks[c] = s.banks[c]) ∧ State.Only [.sys, .banks, .log, .mon] s t) ∧
  (∀ (b : BankId) (load : Int) (s : State), s.banks[b].excursion = true → s.banks[b].tripped = false →
    ∃ t, exec (.bankTrip b load) s = .next t ∧ t.banks[b] = { s.banks[b] with load := load, tripped := true } ∧
      (∀ c, c ≠ b → t.banks[c] = s.banks[c]) ∧ State.Only [.sys, .ports, .banks, .sol, .log, .hie, .mon] s t) ∧
  (∀ (b : BankId) (load : Int) (s : State), ∃ t, exec (.bankOverloadEnd b load) s = .next t ∧
      t.banks[b] = { s.banks[b] with load := load, excursion := false, tripped := false } ∧
      (∀ c, c ≠ b → t.banks[c] = s.banks[c]) ∧ State.Only [.banks] s t) ∧
  (∀ (p : PortId) (s : State), s.ports[p].status = .retry → s.isFollower p = false → ∃ t, exec (.portRetry p) s = .next t ∧
      (∀ q, q ∈ s.members p → t.ports[q].retryCnt = s.ports[q].retryCnt + 1 ∧ t.ports[q].retryWatch = true ∧
        t.ports[q].fault = s.ports[q].fault &&& s.presentAt q) ∧
      (∀ q, q ∉ s.members p → t.ports[q] = s.ports[q]) ∧ State.Only [.sys, .ports, .log, .mon] s t) ∧
  (∀ (p : PortId) (s : State), s.ports[p].retryWatch = true → s.faulted p = false → ∃ t, exec (.retryCountReset p) s = .next t ∧
      (∀ q, q ∈ s.members p → t.ports[q] = { s.ports[q] with retryCnt := 0, retryWatch := false }) ∧
      (∀ q, q ∉ s.members p → t.ports[q] = s.ports[q]) ∧ State.Only [.ports] s t) ∧
  (∀ (p : PortId) (v : Word) (k : SessId) (s : State), s.gate k rightPARAM = .ok → BitVec.ofNat 10 v.toNat &&& s.presentAt p = 0 →
    BitVec.ofNat 10 v.toNat &&& s.ports[p].fault ≠ 0 → ∃ t, exec (.portFaultClear p v k) s = .next t ∧
      t.ports[p].fault = s.ports[p].fault &&& ~~~ BitVec.ofNat 10 v.toNat ∧ t.ports[p].retryCnt = 0 ∧
      t.sys.answers = ⟨s.me k, .ok⟩ :: s.sys.answers ∧ State.Only [.sys, .ports, .log, .hie, .mon] s t)

/-- A prediction stores the TCXO temperature and makes RATE the clamped sum of RATEM and OFS. A measurement stores d and, in ACQ or LOCKED with no step pending, leaves the quality. A judgement outside ACQ and LOCKED, or afresh in one of them, enters ACQ with the judged d: below 2 µs no step is pending, otherwise the judged step is. A setting of a SERVICE or OWNER session outside ACQ, LOCKED and HOLDOVER is pending and not yet answered. RESTEER ends a residue fault. (R165, R166, R167, R170, R171, R174) -/
def Obligations.TimeBaseMeasuresAndJudges : Prop :=
  (∀ (m : Int) (s : State), s.tmb.resflt = false → ∃ t, exec (.ratemUpdate m true) s = .next t ∧ t.tmb.tcxo = m ∧
      t.tmb.rate = clampInt (-rateMax) rateMax (t.tmb.ratem + s.tmb.ofs) ∧ t.tmb.ofs = s.tmb.ofs ∧ t.tmb.qual = s.tmb.qual ∧
      State.Only [.sys, .log, .tmb, .mon] s t) ∧
  (∀ (bias : Int) (s : State), s.timeSrc ≠ 0 → (s.isWorker = true → s.hie.ds ≠ []) →
    ∃ t, exec (.offsetMeasurement bias true) s = .next t ∧ t.tmb.d = s.dOf bias s.hie.ds ∧ t.hie.ds = [] ∧ t.tmb.qual = s.tmb.qual ∧
      t.tmb.pending = s.tmb.pending ∧ State.Only [.sys, .log, .tmb, .hie, .mon] s t) ∧
  (∀ (m : Int) (s : State), s.timeSrc ≠ 0 → s.tmb.resflt = false → s.tmb.qual.tracks = false → s.isWorker = false →
    ∃ t, exec (.judgement m true) s = .next t ∧ t.tmb.qual = .acq ∧ t.tmb.d = s.dOf m s.hie.firstDs ∧
      t.tmb.pending = (if ratAbs (s.dOf m s.hie.firstDs) < 2 / 1000000 then none else some (.judged (s.dOf m s.hie.firstDs) false)) ∧
      State.Only [.sys, .log, .tmb, .hie, .mon] s t) ∧
  (∀ (m : Int) (s : State), s.timeSrc ≠ 0 → s.tmb.resflt = false → s.tmb.qual.tracks = true → s.isWorker = false → s.hie.ds ≠ [] →
    ∃ t, exec (.judgementAfresh m true) s = .next t ∧ t.tmb.qual = .acq ∧ t.tmb.d = s.dOf m s.hie.ds ∧
      t.tmb.pending = (if ratAbs (s.dOf m s.hie.ds) < 2 / 1000000 then none else some (.judged (s.dOf m s.hie.ds) true)) ∧
      State.Only [.sys, .log, .tmb, .hie, .mon] s t) ∧
  (∀ (k : SessId) (s : State), s.gateRws k rightSERVICE = .ok → s.tmb.qual ≠ .acq → s.tmb.qual ≠ .locked → s.tmb.qual ≠ .holdover →
    ∃ t, exec (.set k) s = .next t ∧ t.tmb.pending = some (.host k s.sys.cur (s.tmb.setl.toNat + bits s.tmb.seth 0 16 * 2 ^ 32)) ∧
      t.tmb.t = s.tmb.t ∧ State.Only [.sys, .tmb, .hie, .mon] s t) ∧
  (∀ (k : SessId) (s : State), s.gateRws k rightSERVICE = .ok → s.tmb.resflt = true →
    ∃ t, exec (.resteer true k) s = .next t ∧ t.tmb.resflt = false ∧ t.tmb.rate = clampInt (-rateMax) rateMax (s.tmb.ratem + s.tmb.ofs) ∧
      State.Only [.sys, .log, .tmb, .hie, .mon] s t)

/-- A pending setting steps T to its second in quality HOST; a pending judged step counts and leaves no step pending. The lock of ten seconds gives LOCKED, its loss ACQ, a lost source HOLDOVER with its instant, and the end of HOLDLIM EXPIRED. The model is saved to flash; the RTC gives T its seconds in quality RTC and takes those of T. A pulse of TP notes its second and instant. A read of TMB_FRAC returns the fraction and latches the seconds; a read of TMB_RATEL returns the low word of RATE. (R168, R169, R170, R171, R172, R174, R175, R176, R177, R180) -/
def Obligations.TimeBaseQualityAndSteps : Prop :=
  (∀ (k : SessId) (ref secs : Nat) (s : State), s.tmb.pending = some (.host k ref secs) →
    ∃ t, exec .timeStep s = .next t ∧ t.tmb.qual = .host ∧ t.tmb.t = secs * 2 ^ 72 % 2 ^ 120 ∧ t.tmb.pending = none ∧
      t.tmb.steps = satNat 65535 (s.tmb.steps + 1) ∧ State.Only [.sys, .ports, .log, .tmb, .hie, .mon, .sct] s t) ∧
  (∀ (dj : Rat) (a : Bool) (s : State), s.tmb.pending = some (.judged dj a) →
    ∃ t, exec .timeStep s = .next t ∧ t.tmb.pending = none ∧ t.tmb.qual = s.tmb.qual ∧ t.tmb.steps = satNat 65535 (s.tmb.steps + 1) ∧
      State.Only [.sys, .ports, .log, .tmb, .hie, .mon, .sct] s t) ∧
  (∀ s : State, s.tmb.qual = .acq → s.tmb.pending = none → ∃ t, exec .timeLocked s = .next t ∧ t.tmb.qual = .locked ∧ t.tmb.t = s.tmb.t ∧
      State.Only [.sys, .log, .tmb, .hie, .mon] s t) ∧
  (∀ s : State, s.tmb.qual = .locked → ∃ t, exec .lockLost s = .next t ∧ t.tmb.qual = .acq ∧ t.tmb.rate = s.tmb.rate ∧ State.Only [.tmb] s t) ∧
  (∀ s : State, s.tmb.qual.tracks = true → ∃ t, exec .timeHoldover s = .next t ∧ t.tmb.qual = .holdover ∧ t.tmb.holdAt = some s.tick ∧
      t.tmb.t = s.tmb.t ∧ State.Only [.sys, .log, .tmb, .mon] s t) ∧
  (∀ s : State, s.timeSrc = 1 → s.tmb.qual.tracks = true → ∃ t, exec .gnssSolutionTimeout s = .next t ∧ t.tmb.qual = .holdover ∧
      t.tmb.holdAt = some s.tick ∧ State.Only [.sys, .log, .tmb, .mon] s t) ∧
  (∀ s : State, s.tmb.qual = .holdover → ∃ t, exec .timeHoldoverExpired s = .next t ∧ t.tmb.qual = .expired ∧ t.tmb.t = s.tmb.t ∧
      State.Only [.sys, .log, .tmb, .hie, .mon] s t) ∧
  (∀ s : State, ∃ t, exec .oscillatorModelSave s = .next t ∧ t.tmb = { s.tmb with savedModel := s.tmb.model } ∧ State.Only [.tmb] s t) ∧
  (∀ (secs : Nat) (s : State), s.tmb.qual = .none → s.tmb.rtcValid = true → ∃ t, exec (.rtcLoad secs) s = .next t ∧ t.tmb.qual = .rtc ∧
      t.tmb.t = secs * 2 ^ 72 % 2 ^ 120 ∧ t.tmb.steps = s.tmb.steps ∧ State.Only [.sys, .ports, .log, .tmb, .hie, .mon, .sct] s t) ∧
  (∀ s : State, (s.tmb.qual = .host ∨ s.tmb.qual = .acq ∨ s.tmb.qual = .locked ∨ s.tmb.qual = .holdover) →
    ∃ t, exec .rtcSave s = .next t ∧ t.tmb = { s.tmb with rtc := s.secs, rtcValid := true } ∧ State.Only [.tmb] s t) ∧
  (∀ s : State, s.tpAllowed = true → s.tmb.pending = none → s.tmb.tpAt = none → s.rcp.applied = true →
    ∃ t, exec .tpPulse s = .next t ∧ t.tmb.tpOn = true ∧ t.tmb.tpSec = s.pulseSec ∧ t.tmb.tpAt = some s.tick ∧ t.tmb.tpEnd = s.tick + s.tpWidth ∧
      State.Only [.sys, .log, .tmb, .mon] s t) ∧
  (∀ (k : SessId) (s : State), s.gate k rightREAD = .ok → ∃ t, exec (.tmbFracRead k) s = .next t ∧ t.sys.readData = word s.now ∧
      t.tmb.secl = word s.secs ∧ t.sys.answers = ⟨s.me k, .ok⟩ :: s.sys.answers ∧ State.Only [.sys, .tmb, .hie, .mon] s t) ∧
  (∀ (k : SessId) (s : State), s.gate k rightREAD = .ok → ∃ t, exec (.tmbRatelRead k) s = .next t ∧
      t.sys.readData = word (twos 40 s.tmb.rate) ∧ t.sys.answers = ⟨s.me k, .ok⟩ :: s.sys.answers ∧ State.Only [.sys, .tmb, .hie, .mon] s t)

/-- An ENQUEUE that passes the checks of R258 while the hosts hold fewer than 28 entries puts the staged frame at the end of the queue with the next handle, which LASTH takes. An ABORT of the session's own entry that is not in an attempt takes it off the queue; one of handle 0 answers BAD_ADDR. ABORT_ALL of a session without entries answers OK and changes no queue; ABORT_ENQ then queues like ENQUEUE. An attempt of a head that is neither stale nor without an address starts now and counts one try; a lost attempt of a head with RLIM 31 leaves it at the head. (R257, R258, R259, R260, R261) -/
def Obligations.CanQueueCommands : Prop :=
  (∀ (c : CanId) (k : SessId) (s : State), s.gate k rightCANTX = .ok → s.enqChecks c k = .ok → s.hostFill c < 28 →
    ∃ t, exec (.enqueue c k) s = .next t ∧ t.can[c].queue = s.can[c].queue ++ [s.stagedEntry c k] ∧
      t.can[c].nextH = nextHandle s.can[c].nextH ∧ t.can[c].stages[k].lasth = s.can[c].nextH ∧
      t.sys.answers = ⟨s.me k, .ok⟩ :: s.sys.answers ∧ (∀ d, d ≠ c → t.can[d] = s.can[d]) ∧ State.Only [.sys, .can] s t) ∧
  (∀ (c : CanId) (h : Nat) (k : SessId) (s : State) (e : TxEntry), s.gate k rightCANTX = .ok →
    s.can[c].queue.find? (fun e => e.handle == h && e.owner == some k) = some e → s.inAttempt c e = false →
    ∃ t, exec (.abort c h k) s = .next t ∧ t.can[c].queue = s.can[c].queue.filter (fun y => y.handle != e.handle) ∧
      t.can[c].stages[k].doneh = e.handle ∧ t.can[c].stages[k].notSent = (s.can[c].stages[k].notSent + 1) % 65536 ∧
      State.Only [.sys, .log, .mon, .can, .hl] s t) ∧
  (∀ (c : CanId) (k : SessId) (s : State), s.gate k rightCANTX = .ok →
    s.can[c].queue.find? (fun e => e.handle == 0 && e.owner == some k) = none →
    ∃ t, exec (.abort c 0 k) s = .next t ∧ t.sys.answers = ⟨s.me k, .badAddr⟩ :: s.sys.answers ∧ State.Only [.sys] s t) ∧
  (∀ (c : CanId) (k : SessId) (s : State), s.gate k rightCANTX = .ok → (s.can[c].queue.filter fun e => e.owner == some k) = [] →
    ∃ t, exec (.abortAll c k) s = .next t ∧ t.sys.answers = ⟨s.me k, .ok⟩ :: s.sys.answers ∧ State.Only [.sys] s t) ∧
  (∀ (c : CanId) (k : SessId) (s : State), s.gate k rightCANTX = .ok → s.enqChecks c k = .ok → s.hostFill c < 28 →
    (s.can[c].queue.filter fun e => e.owner == some k) = [] →
    ∃ t, exec (.abortEnq c k) s = .next t ∧ t.can[c].queue = s.can[c].queue ++ [s.stagedEntry c k] ∧
      t.can[c].stages[k].lasth = s.can[c].nextH ∧ (∀ d, d ≠ c → t.can[d] = s.can[d]) ∧ State.Only [.sys, .can] s t) ∧
  (∀ (c : CanId) (s : State) (e : TxEntry) (q : List TxEntry), s.maySend c = true → s.can[c].queue = e :: q → s.headEnds c e = none →
    s.canIso c = false → ∃ t, exec (.txAttempt c) s = .next t ∧ t.can[c].inTx = true ∧
      t.can[c].queue = { e with tries := e.tries + 1, sof := some s.now } :: q ∧
      (∀ d, d ≠ c → t.can[d] = s.can[d]) ∧ State.Only [.can] s t) ∧
  (∀ (c : CanId) (s : State) (e : TxEntry) (q : List TxEntry), s.can[c].inTx = true → s.can[c].queue = e :: q → e.rlim = 31 →
    e.abort = false → ∃ t, exec (.txAttemptEnd c .lost none) s = .next t ∧ t.can[c].inTx = false ∧ t.can[c].queue = e :: q ∧
      (∀ d, d ≠ c → t.can[d] = s.can[d]) ∧ State.Only [.can] s t)

/-- An integrating controller takes the state that its counters give. A detected error outside RESTRICTED is tallied, raises TEC or REC by what ISO 11898-1 adds, and the state is again the one the counters give. An ended recovery count makes a controller that awaits it error-active with both counters zero. RECOVER in bus-off without a recovery in progress starts one. CLRCNT zeroes the eight error counts and nothing else. OPMODE is stored and, on an idle bus, takes effect at once. The thresholds of CAN3 take the values written; on another controller the register does not exist. (R253, R263, R267, R268, R269, R418) -/
def Obligations.CanErrorStateCommands : Prop :=
  (∀ (c : CanId) (s : State), s.can[c].st = .integrating → ∃ t, exec (.canIntegrated c) s = .next t ∧
      t.can[c] = { s.can[c] with st := canStateOf s.can[c].tec s.can[c].rec_ } ∧ (∀ d, d ≠ c → t.can[d] = s.can[d]) ∧ State.Only [.can] s t) ∧
  (∀ (c : CanId) (e : CanErr) (r : CanRise) (s : State), (s.can[c].st = .active ∨ s.can[c].st = .passive) → e ≠ .pxe → s.can[c].op = false →
    ∃ t, exec (.canError c e r) s = .next t ∧ t.can[c].lastErr = some e ∧
      t.can[c].tec = s.can[c].tec + (if r = .tec8 then 8 else 0) ∧
      t.can[c].rec_ = s.can[c].rec_ + (if r = .rec1 then 1 else if r = .rec8 then 8 else 0) ∧
      t.can[c].st = canStateOf t.can[c].tec t.can[c].rec_ ∧
      t.can[c].eAck = (if e = .ack then satNat 255 (s.can[c].eAck + 1) else s.can[c].eAck) ∧
      (∀ d, d ≠ c → t.can[d] = s.can[d]) ∧ State.Only [.sys, .log, .mon, .can, .hl] s t) ∧
  (∀ (c : CanId) (s : State), s.can[c].st = .busOff → s.can[c].recPend = true → ∃ t, exec (.canBusOffRecovered c) s = .next t ∧
      t.can[c].st = .active ∧ t.can[c].tec = 0 ∧ t.can[c].rec_ = 0 ∧ t.can[c].recPend = false ∧ t.can[c].queue = s.can[c].queue ∧
      (∀ d, d ≠ c → t.can[d] = s.can[d]) ∧ State.Only [.sys, .log, .mon, .can, .hl] s t) ∧
  (∀ (c : CanId) (k : SessId) (s : State), s.gate k rightCOMMAND = .ok → s.can[c].st = .busOff → s.can[c].recPend = false →
    ∃ t, exec (.recover c k) s = .next t ∧ t.can[c] = { s.can[c] with recPend := true, byHost := true } ∧
      t.sys.answers = ⟨s.me k, .ok⟩ :: s.sys.answers ∧ (∀ d, d ≠ c → t.can[d] = s.can[d]) ∧ State.Only [.sys, .can] s t) ∧
  (∀ (c : CanId) (k : SessId) (s : State), s.gate k rightCOMMAND = .ok → ∃ t, exec (.clrcnt c k) s = .next t ∧
      t.can[c] = { s.can[c] with eBit := 0, eStuff := 0, eForm := 0, eAck := 0, eCrc := 0, ePxe := 0, eOff := 0, eNo := 0 } ∧
      t.sys.answers = ⟨s.me k, .ok⟩ :: s.sys.answers ∧ (∀ d, d ≠ c → t.can[d] = s.can[d]) ∧ State.Only [.sys, .can] s t) ∧
  (∀ (c : CanId) (m : Nat) (k : SessId) (s : State), s.gate k rightCOMMAND = .ok → m ≤ 1 → s.inHier = false → s.can[c].inTx = false →
    ∃ t, exec (.opmodeWrite c m false k) s = .next t ∧ t.can[c] = { s.can[c] with opReq := decide (m = 1), op := decide (m = 1) } ∧
      t.sys.answers = ⟨s.me k, .ok⟩ :: s.sys.answers ∧ (∀ d, d ≠ c → t.can[d] = s.can[d]) ∧ State.Only [.sys, .can] s t) ∧
  (∀ (v : Word) (k : SessId) (s : State), s.gateRws k rightSERVICE = .ok → bits v 0 8 ≠ 0 → bits v 8 8 ≠ 0 →
    ∃ t, exec (.canEwlWrite 3 v k) s = .next t ∧ t.can[(3 : CanId)].ewlt = bits v 0 8 ∧ t.can[(3 : CanId)].ewlr = bits v 8 8 ∧
      t.can[(3 : CanId)].tec = s.can[(3 : CanId)].tec ∧ (∀ d : CanId, d ≠ 3 → t.can[d] = s.can[d]) ∧ State.Only [.sys, .log, .mon, .can, .hl] s t) ∧
  (∀ (c : CanId) (v : Word) (k : SessId) (s : State), c ≠ 3 → ∃ t, exec (.canEwlWrite c v k) s = .next t ∧
      t.sys.answers = ⟨s.me k, .badAddr⟩ :: s.sys.answers ∧ State.Only [.sys] s t)

/-- On a live ISO controller a claim begins with the address of AADDR; a claim that has stood makes it the address; a contending claim of another address is noted among the others. A BAM of at most 1,785 bytes opens the lowest free context. A BAM that times out frees its context without an Abort. MSGREL frees exactly the completed contexts whose bits are written as 1. (R271, R272, R273) -/
def Obligations.IsoAddressAndTransport : Prop :=
  (∀ (c : CanId) (s : State), s.canIso c = true → s.canLive c = true → s.can[c].addr = none → s.can[c].claim = none → s.can[c].cannot = false →
    ∃ t, exec (.isoAddrClaim c .claim) s = .next t ∧ t.can[c].claim = some (bits (s.canWord c 4) 24 8) ∧ t.can[c].addr = none ∧
      (∀ d, d ≠ c → t.can[d] = s.can[d]) ∧ State.Only [.can] s t) ∧
  (∀ (c : CanId) (a : Nat) (s : State), s.canIso c = true → s.canLive c = true → s.can[c].claim = some a →
    ∃ t, exec (.isoAddrClaim c .claimed) s = .next t ∧ t.can[c] = { s.can[c] with addr := some a, claim := none } ∧
      (∀ d, d ≠ c → t.can[d] = s.can[d]) ∧ State.Only [.sys, .log, .mon, .can] s t) ∧
  (∀ (c : CanId) (a name : Nat) (s : State), s.canIso c = true → s.canLive c = true → s.can[c].ownAddr ≠ some a →
    ∃ t, exec (.isoAddrClaim c (.contend a name)) s = .next t ∧
      t.can[c] = { s.can[c] with others := a :: s.can[c].others.filter fun b => b != a } ∧
      (∀ d, d ≠ c → t.can[d] = s.can[d]) ∧ State.Only [.can] s t) ∧
  (∀ (c : CanId) (src pgn len : Nat) (i : CtxId) (s : State), s.canIso c = true → s.canLive c = true →
    (∀ j : CtxId, s.can[c].tp[j].busy = false) → s.freeCtx c .bam len = some i →
    ∃ t, exec (.isoTpPacket c src 255 (.bam pgn len)) s = .next t ∧
      t.can[c].tp[i] = { busy := true, kind := .bam, src := src, dst := 255, pgn := pgn, len := len, most := 255, upto := (len + 6) / 7 } ∧
      (∀ j, j ≠ i → t.can[c].tp[j] = s.can[c].tp[j]) ∧ (∀ d, d ≠ c → t.can[d] = s.can[d]) ∧ State.Only [.can] s t) ∧
  (∀ (c : CanId) (i : CtxId) (s : State), s.can[c].tp[i].busy = true → s.can[c].tp[i].kind = .bam →
    ∃ t, exec (.isoTpTimeout c i) s = .next t ∧ t.can[c].tp[i] = {} ∧ (∀ j, j ≠ i → t.can[c].tp[j] = s.can[c].tp[j]) ∧
      (∀ d, d ≠ c → t.can[d] = s.can[d]) ∧ State.Only [.can] s t) ∧
  (∀ (c : CanId) (v : Word) (k : SessId) (s : State), s.gate k rightPARAM = .ok → ∃ t, exec (.canMsgrel c v k) s = .next t ∧
      (∀ i : CtxId, t.can[c].tp[i] = if bit v i.val ∧ s.can[c].tp[i].done then {} else s.can[c].tp[i]) ∧
      t.sys.answers = ⟨s.me k, .ok⟩ :: s.sys.answers ∧ State.Only [.sys, .can] s t)

/-- A GRANT that meets the conditions of R339 puts the entry asked for into a free place of the table and reports the place. FREE and FREEALL of the owner empty the entry, and all entries of the channel. CLAIM of a channel without owner gives it to the session; DMA_RELEASE of an idle channel ends that and drops its entries. DMA_START with a valid descriptor runs it from word 0, RESUME from the word reached; DMA_ABORT makes the channel idle. RDPTR takes a multiple of 32 below LEN. A held fault record enters Q15 when it has room. (R339, R344, R345, R348, R350) -/
def Obligations.ApertureAndChannelCommands : Prop :=
  (∀ (k : SessId) (i : EntId) (s : State), s.gate k rightDMA = .ok → s.ownsCh k s.apu.reqs[k].chan = true →
    1 ≤ s.apu.reqs[k].entry.pages → s.apu.reqs[k].entry.pages ≤ 4096 →
    inSram s.apu.reqs[k].entry.win s.apu.reqs[k].entry.pages = true → inSram s.apu.reqs[k].entry.tgt s.apu.reqs[k].entry.pages = true →
    s.sessionHolds k s.apu.reqs[k].entry.tgt s.apu.reqs[k].entry.r s.apu.reqs[k].entry.w s.apu.reqs[k].entry.pages = true →
    (s.apu.ents.toList.filterMap id).any (fun x => x.meets s.apu.reqs[k].entry) = false →
    (idx 256).find? (fun i => s.apu.ents[i].isNone) = some i → ∃ t, exec (.grant k) s = .next t ∧ t.apu.ents[i] = some s.apu.reqs[k].entry ∧
      t.apu.reqs[k].res = i.val ∧ (∀ j, j ≠ i → t.apu.ents[j] = s.apu.ents[j]) ∧ State.Only [.sys, .apu] s t) ∧
  (∀ (i : EntId) (k : SessId) (e : ApuEntry) (s : State), s.gate k rightDMA = .ok → s.apu.ents[i] = some e → 4 ≤ e.ctx →
    s.ownsCh k (e.ctx - 4) = true → ∃ t, exec (.free i k) s = .next t ∧ t.apu.ents[i] = none ∧ (∀ j, j ≠ i → t.apu.ents[j] = s.apu.ents[j]) ∧
      t.sys.answers = ⟨s.me k, .ok⟩ :: s.sys.answers ∧ State.Only [.sys, .apu] s t) ∧
  (∀ (k : SessId) (s : State), s.gate k rightDMA = .ok → s.ownsCh k s.apu.reqs[k].chan = true → ∃ t, exec (.freeall k) s = .next t ∧
      (∀ i : EntId, t.apu.ents[i] = match s.apu.ents[i] with
        | some e => if e.ctx = 4 + s.apu.reqs[k].chan then none else some e
        | none => none) ∧ t.sys.answers = ⟨s.me k, .ok⟩ :: s.sys.answers ∧ State.Only [.sys, .apu] s t) ∧
  (∀ (n : ChId) (k : SessId) (s : State), s.gate k rightDMA = .ok → n.val < 6 → s.dma.ch[n].owner = none →
    ∃ t, exec (.claim n k) s = .next t ∧ t.dma.ch[n] = { s.dma.ch[n] with owner := some k } ∧ (∀ m, m ≠ n → t.dma.ch[m] = s.dma.ch[m]) ∧
      t.sys.answers = ⟨s.me k, .ok⟩ :: s.sys.answers ∧ State.Only [.sys, .dma] s t) ∧
  (∀ (n : ChId) (k : SessId) (s : State), s.gate k rightDMA = .ok → s.owns k n = true → s.dma.ch[n].st = .idle →
    ∃ t, exec (.dmaRelease n k) s = .next t ∧ t.dma.ch[n] = { s.dma.ch[n] with owner := none } ∧ (∀ m, m ≠ n → t.dma.ch[m] = s.dma.ch[m]) ∧
      t.sys.answers = ⟨s.me k, .ok⟩ :: s.sys.answers ∧ State.Only [.sys, .apu, .dma] s t) ∧
  (∀ (n : ChId) (k : SessId) (ws : List Word) (s : State), s.gate k rightDMA = .ok → s.owns k n = true → s.dma.ch[n].st = .idle →
    s.dma.ch[n].descA.toNat % 32 = 0 → s.readDesc n s.dma.ch[n].descA.toNat 8 [] = .ok ws → bit (ws.getD 0 0) 31 = true →
    s.descBad n (descOf ws) = false → ∃ t, exec (.dmaStart n k) s = .next t ∧ t.dma.ch[n].st = .run ∧ t.dma.ch[n].prog = 0 ∧
      t.dma.ch[n].desc = descOf ws ∧ t.dma.ch[n].cur = s.dma.ch[n].descA.toNat ∧ (∀ m, m ≠ n → t.dma.ch[m] = s.dma.ch[m]) ∧
      State.Only [.sys, .dma] s t) ∧
  (∀ (n : ChId) (k : SessId) (s : State), s.gate k rightDMA = .ok → s.owns k n = true → s.dma.ch[n].st ≠ .idle →
    ∃ t, exec (.dmaAbort n k) s = .next t ∧ t.dma.ch[n] = { s.dma.ch[n] with st := .idle, cause := none, faddr := 0 } ∧
      (∀ m, m ≠ n → t.dma.ch[m] = s.dma.ch[m]) ∧ State.Only [.sys, .log, .mon, .dma] s t) ∧
  (∀ (n : ChId) (k : SessId) (ws : List Word) (s : State), s.gate k rightDMA = .ok → s.owns k n = true → s.dma.ch[n].st = .fault →
    s.dma.ch[n].recQ = true → s.readDesc n s.dma.ch[n].cur 8 [] = .ok ws → bit (ws.getD 0 0) 31 = true → s.descBad n (descOf ws) = false →
    ∃ t, exec (.resume n k) s = .next t ∧ t.dma.ch[n].st = .run ∧ t.dma.ch[n].prog = s.dma.ch[n].prog ∧ t.dma.ch[n].cur = s.dma.ch[n].cur ∧
      t.dma.ch[n].desc = descOf ws ∧ (∀ m, m ≠ n → t.dma.ch[m] = s.dma.ch[m]) ∧ State.Only [.sys, .log, .mon, .dma] s t) ∧
  (∀ (n : ChId) (v : Word) (k : SessId) (s : State), s.gate k rightDMA = .ok → n.val < 6 → bits v 0 24 % 32 = 0 →
    (s.dma.ch[n].st = .run → bits v 0 24 < s.dma.ch[n].desc.len) → ∃ t, exec (.rdptrWrite n v k) s = .next t ∧
      t.dma.ch[n] = { s.dma.ch[n] with rdptr := bits v 0 24 } ∧ (∀ m, m ≠ n → t.dma.ch[m] = s.dma.ch[m]) ∧ State.Only [.sys, .dma] s t) ∧
  (∀ (n : ChId) (r : List Byte) (s : State), s.dma.ch[n].held = some r → s.dma.q15.length < 64 → ∃ t, exec (.faultRecordQueued n) s = .next t ∧
      t.dma.q15 = s.dma.q15 ++ [r] ∧ t.dma.ch[n] = { s.dma.ch[n] with recQ := true, held := none } ∧ (∀ m, m ≠ n → t.dma.ch[m] = s.dma.ch[m]) ∧
      State.Only [.sys, .dma] s t)

/-- When no real-time channel is ready and bulk channel n is next with a FILL whose burst lies in entries with W, the burst advances PROG by its words, stores the fill word into each of them, and leaves every other byte. A COPY whose next source word has an uncorrectable error faults with cause ECC at that address, with PROG and memory as they were. Completion of a descriptor without NEXT writes the words done, the status, the time and VALID = 0 into it, leaves every other byte, counts it and makes the channel idle. (R342, R343, R346, R347, R348) -/
def Obligations.DmaMovesWordsAndCompletes : Prop :=
  (∀ (n : ChId) (a : Nat) (s : State), s.Inv → s.nextCh true = none → s.nextCh false = some n → s.dma.ch[n].st = .run → s.dma.ch[n].desc.op = 2 →
    s.dma.ch[n].desc.wrap = false → s.dma.ch[n].fin = false → 4 * (s.dma.ch[n].prog + s.dma.ch[n].burstLen) ≤ s.dma.ch[n].desc.len →
    (∀ j, j < s.dma.ch[n].burstLen → s.translate (ctxOfCh n) (s.dma.ch[n].desc.dst + 4 * (s.dma.ch[n].prog + j)) true = .ok (a + 4 * j)) →
    ∃ t, exec .dmaBurst s = .next t ∧ t.dma.ch[n].prog = s.dma.ch[n].prog + s.dma.ch[n].burstLen ∧ t.dma.ch[n].st = .run ∧
      t.dma.ch[n].burst = s.dma.ch[n].burst + 1 ∧ (∀ j, j < s.dma.ch[n].burstLen → t.mem.readN (a + 4 * j) 4 = wordBytes (word s.dma.ch[n].desc.src)) ∧
      (∀ x, x < a ∨ a + 4 * s.dma.ch[n].burstLen ≤ x → t.mem.read x = s.mem.read x) ∧ State.Only [.dma, .mem] s t) ∧
  (∀ (n : ChId) (a : Nat) (s : State), isSram a = true → s.dma.ch[n].st = .run → s.dma.ch[n].desc.op = 1 → s.dma.ch[n].complete = false →
    0 < s.dma.ch[n].burstLen → s.translate (ctxOfCh n) (s.dma.ch[n].desc.src + 4 * s.dma.ch[n].prog) false = .ok a →
    ∃ t, exec (.dmaFault n 0 (some a)) s = .next t ∧ t.dma.ch[n].st = .fault ∧ t.dma.ch[n].cause = some .ecc ∧
      t.dma.ch[n].faddr = s.dma.ch[n].desc.src + 4 * s.dma.ch[n].prog ∧ t.dma.ch[n].prog = s.dma.ch[n].prog ∧
      t.dma.ch[n].faults = satNat 65535 (s.dma.ch[n].faults + 1) ∧ State.Only [.sys, .log, .mon, .dma] s t) ∧
  (∀ (n : ChId) (a : Nat) (s : State), s.Inv → s.dma.ch[n].st = .run → s.dma.ch[n].complete = true → s.dma.ch[n].desc.next = 0 →
    (∀ j, j = 0 ∨ j = 20 ∨ j = 24 ∨ j = 28 → s.translate (ctxOfCh n) (s.dma.ch[n].cur + j) true = .ok (a + j)) →
    ∃ t, exec (.descriptorDone n) s = .next t ∧ t.dma.ch[n].st = .idle ∧ t.dma.ch[n].descs = (s.dma.ch[n].descs + 1) % 65536 ∧
      t.mem.readN a 4 = wordBytes (s.dma.ch[n].desc.ctrl &&& 0x7FFFFFFF) ∧ t.mem.readN (a + 20) 4 = wordBytes (word s.dma.ch[n].prog) ∧
      t.mem.readN (a + 24) 4 = wordBytes 0 ∧ t.mem.readN (a + 28) 4 = wordBytes (word (s.now % 2 ^ 32)) ∧
      (∀ x, x < a ∨ (a + 4 ≤ x ∧ x < a + 20) ∨ a + 32 ≤ x → t.mem.read x = s.mem.read x) ∧ State.Only [.sys, .dma, .mem, .hl] s t)

/-- At the end of BRIDGE the port enters HOLD with the hold current of its temperature. A hold end in BRIDGE or HOLD begins RELEASE; in HIT it is kept for the end of HIT. At the end of HIT, without a pending command, the port enters RELEASE if the hold end has passed, else BRIDGE, which with TBR = 0 gives way to HOLD at once. RELEASE ends in IDLE, by the current or by RTMO. A confirmed end of stroke and end of travel give their measurements the delay detected. No other port changes its phase. (R66, R69, R71, R79, R80, R82) -/
def Obligations.SolenoidPhasesFollowOneAnother : Prop :=
  (∀ (p : PortId) (s : State), s.sol.ports[p].phase = .bridge → ∃ t, exec (.bridgeEnd p) s = .next t ∧ t.sol.ports[p].phase = .hold ∧
      t.sol.ports[p].holdCur = s.holdTarget p ∧ (∀ q, q ≠ p → t.sol.ports[q].phase = s.sol.ports[q].phase) ∧ State.Only [.ports, .sol] s t) ∧
  (∀ (p : PortId) (e : Nat) (s : State), s.sol.ports[p].holdEnd = some e → (s.sol.ports[p].phase = .hold ∨ s.sol.ports[p].phase = .bridge) →
    ∃ t, exec (.holdEnd p) s = .next t ∧ t.sol.ports[p].phase = .release ∧ t.sol.ports[p].holdEnd = none ∧
      (∀ q, q ≠ p → t.sol.ports[q].phase = s.sol.ports[q].phase) ∧ State.Only [.ports, .sol] s t) ∧
  (∀ (p : PortId) (e : Nat) (s : State), s.sol.ports[p].holdEnd = some e → s.sol.ports[p].phase = .hit →
    ∃ t, exec (.holdEnd p) s = .next t ∧ t.sol.ports[p] = { s.sol.ports[p] with holdEnd := some s.tick } ∧
      (∀ q, q ≠ p → t.sol.ports[q] = s.sol.ports[q]) ∧ State.Only [.sol] s t) ∧
  (∀ (p : PortId) (s : State), s.sol.ports[p].phase = .hit → s.sol.ports[p].pend = none → ∃ t, exec (.hitEnd p) s = .next t ∧
      t.sol.ports[p].phase = (if s.sol.ports[p].holdPassed s.tick then .release else if s.tbr p = 0 then .hold else .bridge) ∧
      t.sol.ports[p].active = none ∧ (∀ q, q ≠ p → t.sol.ports[q].phase = s.sol.ports[q].phase) ∧
      State.Only [.sys, .ports, .sol, .log, .hie, .mon] s t) ∧
  (∀ (p : PortId) (i : Int) (s : State), s.sol.ports[p].phase = .release → ∃ t, exec (.releaseEnd p i) s = .next t ∧
      t.sol.ports[p].phase = .idle ∧ (∀ q, q ≠ p → t.sol.ports[q].phase = s.sol.ports[q].phase) ∧
      State.Only [.sys, .ports, .sol, .log, .mon] s t) ∧
  (∀ (p : PortId) (i : Int) (s : State), s.sol.ports[p].phase = .release → ∃ t, exec (.releaseTimeout p i) s = .next t ∧
      t.sol.ports[p].phase = .idle ∧ (∀ q, q ≠ p → t.sol.ports[q].phase = s.sol.ports[q].phase) ∧
      State.Only [.sys, .ports, .sol, .log, .mon] s t) ∧
  (∀ (p : PortId) (delay vbank : Nat) (s : State), s.sol.ports[p].phase = .hit → s.sol.ports[p].reached = false → s.sol.ports[p].stroke = false →
    s.sol.ports[p].openCtx.done = false → ∃ t, exec (.endOfStroke p delay vbank) s = .next t ∧ t.sol.ports[p].stroke = true ∧
      t.sol.ports[p].mopen.delay = (delay + 1) / 2 % 2 ^ 24 ∧ t.ports[p].vbank = vbank ∧ t.sol.ports[p].phase = .hit ∧
      (∀ q, q ≠ p → t.sol.ports[q] = s.sol.ports[q]) ∧ State.Only [.sys, .ports, .sol, .log, .hie, .mon] s t) ∧
  (∀ (p : PortId) (delay vbank : Nat) (s : State), s.sol.ports[p].phase = .release → s.rdet p = true → s.sol.ports[p].closeCtx.done = false →
    ∃ t, exec (.endOfTravel p delay vbank) s = .next t ∧ t.sol.ports[p].mclose.delay = (delay + 1) / 2 % 2 ^ 24 ∧ t.ports[p].vbank = vbank ∧
      t.sol.ports[p].phase = .release ∧ (∀ q, q ≠ p → t.sol.ports[q] = s.sol.ports[q]) ∧ State.Only [.sys, .ports, .sol, .log, .hie, .mon] s t)

/-- The first waiting member of a group that fits the budget and passes its second test starts its HIT. One that has waited HDMAX and does not fit loses its ON with STALE, and the timeout is counted. A coil update takes the module housing temperature. A valid window of HOLD moves T_cu a quarter of the way to the measured temperature; another leaves it. Saving stores all tables with the hash of the Recipe. DSEL latches the tables of port and band; DCLR empties the bands selected and no other, or with bit 0 zero clears nothing. (R75, R83, R85, R89, R90, R91, R94, R98) -/
def Obligations.SolenoidBudgetCoilsAndTables : Prop :=
  (∀ (g : GroupId) (p : PortId) (d : Pend) (s : State), s.queueHead g = some p → s.pwr.warning = false → s.fits g p = true →
    s.sol.ports[p].pend = some d → (d.src = .forced ∨ s.recheckOn p = .ok) → ∃ t, exec (.deferredHitStart g) s = .next t ∧
      t.sol.ports[p].phase = .hit ∧ (∀ q, q ≠ p → t.sol.ports[q].phase = s.sol.ports[q].phase) ∧
      State.Only [.sys, .ports, .sol, .log, .hie, .mon] s t) ∧
  (∀ (g : GroupId) (p : PortId) (k : SessId) (r : Nat) (d : Pend) (s : State), s.queueHead g = some p → s.pwr.warning = false → s.fits g p = false →
    s.sol.ports[p].pend = some d → d.src = .host k r → d.forced = false → ∃ t, exec (.hitDeferredTimeout g) s = .next t ∧
      t.sol.ports[p] = { s.sol.ports[p] with pend := none } ∧ (∀ q, q ≠ p → t.sol.ports[q] = s.sol.ports[q]) ∧
      t.sol.groups[g].timeouts = satNat 65535 (s.sol.groups[g].timeouts + 1) ∧ t.sys.answers = ⟨.host k r, .stale⟩ :: s.sys.answers ∧
      State.Only [.sys, .ports, .sol, .log, .hie, .mon] s t) ∧
  (∀ (p : PortId) (i : Nat) (housing : Int) (s : State), ∃ t, exec (.coilModelUpdate p i housing) s = .next t ∧ t.sys.housing = housing ∧
      (∀ q, q ≠ p → t.sol.ports[q] = s.sol.ports[q]) ∧ State.Only [.sys, .sol, .log, .hie, .mon] s t) ∧
  (∀ (p : PortId) (v i least : Nat) (s : State), s.sol.ports[p].phase = .hold → s.sol.ports[p].windowDirty = false → 100 * 256 ≤ 1000 * least →
    0 < i → ∃ t, exec (.windingResistanceWindow p v i least true) s = .next t ∧
      t.sol.ports[p].tcu = s.sol.ports[p].tcu + (20 + (((4 * v : Nat) : Rat) / (i : Nat) / ((s.rref p : Nat) / 100) - 1) / (393 / 100000) - s.sol.ports[p].tcu) / 4 ∧
      (∀ q, q ≠ p → t.sol.ports[q] = s.sol.ports[q]) ∧ State.Only [.sys, .sol, .log, .hie, .mon] s t) ∧
  (∀ (p : PortId) (v i least : Nat) (s : State), s.sol.ports[p].phase = .hold → ∃ t, exec (.windingResistanceWindow p v i least false) s = .next t ∧
      t.sol.ports[p] = { s.sol.ports[p] with windowDirty := false } ∧ (∀ q, q ≠ p → t.sol.ports[q] = s.sol.ports[q]) ∧ State.Only [.sol] s t) ∧
  (∀ s : State, ∃ t, exec .delayTableSave s = .next t ∧ (∀ p : PortId, t.sol.saved[p] = s.savedDelays p) ∧ t.sol.savedHash = s.rcp.head.digest ∧
      t.sol.everSaved = true ∧ t.sol.ports = s.sol.ports ∧ State.Only [.sol] s t) ∧
  (∀ (v : Word) (k : SessId) (s : State), s.gate k rightPARAM = .ok → bits v 0 4 < 10 → ∃ t, exec (.solDselWrite v k) s = .next t ∧
      t.sol.selPort = Fin.ofNat 32 (bits v 8 5) ∧ t.sol.selBand = bits v 0 4 ∧
      t.sol.dopen = (s.sol.ports[(Fin.ofNat 32 (bits v 8 5) : PortId)].tabOpen[(Fin.ofNat 10 (bits v 0 4) : Fin 10)]).reg ∧
      t.sol.dclose = (s.sol.ports[(Fin.ofNat 32 (bits v 8 5) : PortId)].tabClose[(Fin.ofNat 10 (bits v 0 4) : Fin 10)]).reg ∧
      t.sol.ports = s.sol.ports ∧ t.sys.answers = ⟨s.me k, .ok⟩ :: s.sys.answers ∧ State.Only [.sys, .sol] s t) ∧
  (∀ (v : Word) (k : SessId) (s : State), s.gateRws k rightSERVICE = .ok → bit v 0 = true → ∃ t, exec (.solDclr v k) s = .next t ∧
      t.sol.allBands = bit v 16 ∧ (∀ b : Fin 10, t.sol.ports[s.sol.selPort].tabOpen[b] =
        if ((if bit v 16 then 1023 else 2 ^ s.sol.selBand) / 2 ^ b.val) % 2 = 1 then {} else s.sol.ports[s.sol.selPort].tabOpen[b]) ∧
      (∀ q, q ≠ s.sol.selPort → t.sol.ports[q] = s.sol.ports[q]) ∧ State.Only [.sys, .sol, .log, .hie, .mon] s t) ∧
  (∀ (v : Word) (k : SessId) (s : State), s.gateRws k rightSERVICE = .ok → bit v 0 = false → ∃ t, exec (.solDclr v k) s = .next t ∧
      t.sol = { s.sol with allBands := bit v 16 } ∧ State.Only [.sys, .sol] s t)

/-- A kick that times out with load and TACHO 0 pauses, or after the fourth attempt blocks; without load the motor is open. A pause ends in the next attempt. A stall in RUN kicks afresh. A stale tach in RUN sets TACHO with load, else the motor is open; a tach that responds again clears TACHO. DISABLE, its OFF accepted, enters OFF with duty 0 and clears ATTEMPT, BLK and MOTO. ENABLE, its ON accepted, leaves OFF for KICK or STOPPED, TEST for TEST at full drive, and RESTART leaves BLOCKED or MOTOR_OPEN for the first KICK. No other fan changes. (R103, R107, R109, R110, R111, R112, R113, R114) -/
def Obligations.FanStatesFollowMotorAndCommands : Prop :=
  (∀ (f : FanId) (m : Int) (s : State), s.fan.fans[f].status = .kick → (s.fanImot f : Int) ≤ m → s.fan.fans[f].tacho = false →
    s.fan.fans[f].attempt < 4 → ∃ t, exec (.fanKickTimeout f m) s = .next t ∧ t.fan.fans[f] = { s.fan.fans[f] with status := .pause, duty := 0 } ∧
      (∀ g, g ≠ f → t.fan.fans[g] = s.fan.fans[g]) ∧ State.Only [.sys, .ports, .sol, .log, .hie, .mon, .fan] s t) ∧
  (∀ (f : FanId) (m : Int) (s : State), s.fan.fans[f].status = .kick → (s.fanImot f : Int) ≤ m → s.fan.fans[f].tacho = false →
    4 ≤ s.fan.fans[f].attempt → ∃ t, exec (.fanKickTimeout f m) s = .next t ∧ t.fan.fans[f].status = .blocked ∧ t.fan.fans[f].blk = true ∧ t.fan.fans[f].duty = 0 ∧
      (∀ g, g ≠ f → t.fan.fans[g] = s.fan.fans[g]) ∧ State.Only [.sys, .ports, .sol, .log, .hie, .mon, .fan] s t) ∧
  (∀ (f : FanId) (m : Int) (s : State), s.fan.fans[f].status = .kick → m < (s.fanImot f : Int) →
    ∃ t, exec (.fanKickTimeout f m) s = .next t ∧ t.fan.fans[f] = { s.fan.fans[f] with status := .motorOpen, duty := 0, attempt := 0, moto := true } ∧
      (∀ g, g ≠ f → t.fan.fans[g] = s.fan.fans[g]) ∧ State.Only [.sys, .ports, .sol, .log, .hie, .mon, .fan] s t) ∧
  (∀ (f : FanId) (s : State), s.fan.fans[f].status = .pause → ∃ t, exec (.fanPauseEnd f) s = .next t ∧ t.fan.fans[f].status = .kick ∧
      t.fan.fans[f].attempt = s.fan.fans[f].attempt + 1 ∧ t.fan.fans[f].duty = 0xFFFF ∧ (∀ g, g ≠ f → t.fan.fans[g] = s.fan.fans[g]) ∧
      State.Only [.ports, .mon, .fan] s t) ∧
  (∀ (f : FanId) (s : State), s.fan.fans[f].status = .run → s.fan.fans[f].tacho = false → s.ports[s.fanTach f].stale = false →
    s.freq (s.fanTach f) < s.fanFmin f → s.fanDmin f ≤ s.fan.fans[f].duty → ∃ t, exec (.fanStall f) s = .next t ∧
      t.fan.fans[f].status = .kick ∧ t.fan.fans[f].attempt = 1 ∧ (∀ g, g ≠ f → t.fan.fans[g] = s.fan.fans[g]) ∧ State.Only [.sys, .ports, .log, .mon, .fan] s t) ∧
  (∀ (f : FanId) (m : Int) (s : State), s.fan.fans[f].status = .run → s.fan.fans[f].tacho = false → s.ports[s.fanTach f].stale = true →
    s.fanDmin f ≤ s.fan.fans[f].duty → ∃ t, exec (.tachJudgement f m) s = .next t ∧
      t.fan.fans[f] = (if (s.fanImot f : Int) ≤ m then { s.fan.fans[f] with tacho := true } else
        { s.fan.fans[f] with status := .motorOpen, duty := 0, attempt := 0, moto := true }) ∧
      (∀ g, g ≠ f → t.fan.fans[g] = s.fan.fans[g]) ∧ State.Only [.sys, .ports, .sol, .log, .hie, .mon, .fan] s t) ∧
  (∀ (f : FanId) (s : State), s.fan.fans[f].tacho = true → s.ports[s.fanTach f].stale = false → ∃ t, exec (.fanTachRestored f) s = .next t ∧
      t.fan.fans[f] = { s.fan.fans[f] with tacho := false } ∧ (∀ g, g ≠ f → t.fan.fans[g] = s.fan.fans[g]) ∧ State.Only [.sys, .log, .mon, .fan] s t) ∧
  (∀ (f : FanId) (k : SessId) (s : State), s.fanUsed f = true → s.gate k rightCOMMAND = .ok → (s.presentOff (s.fanDrv f) (.fan f)).2.1 = .ok →
    ∃ t, exec (.disable f k) s = .next t ∧ t.fan.fans[f] = { s.fan.fans[f] with status := .off, duty := 0, attempt := 0, blk := false, moto := false } ∧
      (∀ g, g ≠ f → t.fan.fans[g] = s.fan.fans[g]) ∧ State.Only [.sys, .ports, .sol, .hie, .mon, .fan] s t) ∧
  (∀ (f : FanId) (k : SessId) (s : State), s.fanUsed f = true → s.gate k rightCOMMAND = .ok → s.fan.fans[f].status = .off → (s.fanOn f).2 = .ok →
    ∃ t, exec (.enable f k) s = .next t ∧ (t.fan.fans[f].status = .kick ∧ t.fan.fans[f].attempt = 1 ∨ t.fan.fans[f].status = .stopped) ∧
      (∀ g, g ≠ f → t.fan.fans[g] = s.fan.fans[g]) ∧ State.Only [.sys, .ports, .sol, .log, .hie, .mon, .fan] s t) ∧
  (∀ (f : FanId) (k : SessId) (s : State), s.fanUsed f = true → s.gate k rightCOMMAND = .ok → s.fan.fans[f].status = .off → (s.fanOn f).2 = .ok →
    ∃ t, exec (.test f k) s = .next t ∧ t.fan.fans[f].status = .test ∧ t.fan.fans[f].duty = 0xFFFF ∧
      (∀ g, g ≠ f → t.fan.fans[g] = s.fan.fans[g]) ∧ State.Only [.sys, .ports, .sol, .log, .hie, .mon, .fan] s t) ∧
  (∀ (f : FanId) (k : SessId) (s : State), s.fanUsed f = true → s.gate k rightCOMMAND = .ok →
    (s.fan.fans[f].status = .blocked ∨ s.fan.fans[f].status = .motorOpen) → (s.fanOn f).2 = .ok → ∃ t, exec (.restart f k) s = .next t ∧
      t.fan.fans[f].status = .kick ∧ t.fan.fans[f].attempt = 1 ∧ t.fan.fans[f].blk = false ∧ t.fan.fans[f].moto = false ∧
      (∀ g, g ≠ f → t.fan.fans[g] = s.fan.fans[g]) ∧ State.Only [.sys, .ports, .sol, .log, .hie, .mon, .fan] s t)

/-- An evaluation in RUN with a valid source, not held, takes the temperature, selects the step from the thresholds, and slews the duty towards the target outside the skip bands. A faulted source sets TEMPF and the target FAILDUTY, or the manual duty, kept out of the skip bands. MDUTY and HTEMP take what is written. A steady second in band within the ageing conditions adds one sample. Saving stores every controller's ageing data, AGECLR with bit 0 clears one. While the comparator is active THERM_TRIP_N follows it. (R104, R105, R107, R115, R116, R117, R119) -/
def Obligations.FanEvaluationRegistersAndAgeing : Prop :=
  (∀ (f : FanId) (s : State), s.fanUsed f = true → s.rcp.applied = true → s.fanSrcFaulted f = false → s.fanHeld f = false → s.fan.fans[f].status = .run →
    s.fan.fans[f].afresh = false → s.fan.fans[f].tempf = false → s.fan.fans[f].man = false →
    slewStep (s.fanSkips f) (s.fanSlew f) s.fan.fans[f].duty (edgeOf (s.fanSkips f) s.fan.fans[f].duty
      (s.fanD f (s.stepDown f (s.fanTemp f) 16 (s.stepUp f (s.fanTemp f) 16 s.fan.fans[f].step)))) ≠ 0 →
    ∃ t, exec (.fanEvaluation f) s = .next t ∧ t.fan.fans[f].temp = s.fanTemp f ∧
      t.fan.fans[f].step = s.stepDown f (s.fanTemp f) 16 (s.stepUp f (s.fanTemp f) 16 s.fan.fans[f].step) ∧
      t.fan.fans[f].duty = slewStep (s.fanSkips f) (s.fanSlew f) s.fan.fans[f].duty (edgeOf (s.fanSkips f) s.fan.fans[f].duty
        (s.fanD f (s.stepDown f (s.fanTemp f) 16 (s.stepUp f (s.fanTemp f) 16 s.fan.fans[f].step)))) ∧ t.fan.fans[f].status = .run ∧
      (∀ g, g ≠ f → t.fan.fans[g] = s.fan.fans[g]) ∧ State.Only [.sys, .ports, .sol, .log, .hie, .mon, .fan] s t) ∧
  (∀ (f : FanId) (s : State), s.fanUsed f = true → s.fanSrcFaulted f = true → ∃ t, exec (.fanTempFault f) s = .next t ∧
      t.fan.fans[f] = { s.fan.fans[f] with tempf := true, target := s.fanAim f (if s.fan.fans[f].man then s.fan.fans[f].mduty * 257 else s.fanFail f) } ∧
      (∀ g, g ≠ f → t.fan.fans[g] = s.fan.fans[g]) ∧ State.Only [.sys, .log, .mon, .fan] s t) ∧
  (∀ (f : FanId) (v : Word) (k : SessId) (s : State), s.fanUsed f = true → s.gate k rightCOMMAND = .ok → s.admits (s.fanDrv f) (s.me k) = true →
    (s.rulesAt (s.fanDrv f) = []) → s.dutyMin (s.fanDrv f) ≤ bits v 0 8 * 257 → bits v 0 8 * 257 ≤ s.dutyMax (s.fanDrv f) →
    s.check4 (s.fanDrv f) false = .ok → ∃ t, exec (.fanMdutyWrite f v k) s = .next t ∧
      t.fan.fans[f] = { s.fan.fans[f] with man := bit v 31, mduty := bits v 0 8 } ∧ t.sys.answers = ⟨s.me k, .ok⟩ :: s.sys.answers ∧
      (∀ g, g ≠ f → t.fan.fans[g] = s.fan.fans[g]) ∧ State.Only [.sys, .hie, .mon, .fan] s t) ∧
  (∀ (f : FanId) (v : Word) (k : SessId) (s : State), s.fanUsed f = true → s.gate k rightPARAM = .ok → ∃ t, exec (.fanHtempWrite f v k) s = .next t ∧
      t.fan.fans[f] = { s.fan.fans[f] with htemp := v &&& 0xFFFF, htempAt := some s.tick } ∧ t.sys.answers = ⟨s.me k, .ok⟩ :: s.sys.answers ∧
      (∀ g, g ≠ f → t.fan.fans[g] = s.fan.fans[g]) ∧ State.Only [.sys, .fan] s t) ∧
  (∀ (f : FanId) (vbank freq : Nat) (s : State), s.fan.fans[f].status = .run → s.fan.fans[f].tacho = false → s.fanReff f ≠ 0 → freq ≠ 0 →
    95 * s.fanReff f * 256 ≤ 100 * freq → 100 * freq ≤ 105 * s.fanReff f * 256 → ∃ t, exec (.ageingSample f vbank freq true) s = .next t ∧
      t.fan.fans[f].age.count = s.fan.fans[f].age.count + 1 ∧ t.fan.fans[f].duty = s.fan.fans[f].duty ∧
      (∀ g, g ≠ f → t.fan.fans[g] = s.fan.fans[g]) ∧ State.Only [.sys, .log, .mon, .fan] s t) ∧
  (∀ s : State, ∃ t, exec .fanAgeSave s = .next t ∧ (∀ f : FanId, t.fan.saved[f] = ⟨s.fan.fans[f].age, (s.fanDrv f).val, (s.fanTach f).val, s.fanReff f⟩) ∧
      t.fan.savedHash = s.rcp.head.digest ∧ t.fan.fans = s.fan.fans ∧ State.Only [.fan] s t) ∧
  (∀ (f : FanId) (v : Word) (k : SessId) (s : State), s.fanUsed f = true → s.gateRws k rightSERVICE = .ok → bit v 0 = true →
    ∃ t, exec (.fanAgeclr f v k) s = .next t ∧ t.fan.fans[f] = { s.fan.fans[f] with age := {} } ∧ (∀ g, g ≠ f → t.fan.fans[g] = s.fan.fans[g]) ∧
      State.Only [.sys, .log, .mon, .fan] s t) ∧
  (∀ (low sfault : Bool) (sensor : Int) (s : State), s.pwr.comparator = true → ∃ t, exec (.thermTrip low sfault sensor) s = .next t ∧
      t.fan = { s.fan with trip := low, sfault := sfault, sensor := sensor } ∧ State.Only [.sys, .log, .mon, .fan] s t)

/-- A trigger that comes too early is dropped: OVR is set, the overrun counted, nothing is evaluated. A trigger of a slot in MANUAL, nothing pending and no Take on it, without a ramp, takes the set-point and the feedback, stays in MANUAL and presents the manual output within LIMITS. A following error longer than TFE faults a slot in AUTO with cause FOLLOWING, a lost feedback source with cause FEEDBACK; in MANUAL, STANDBY or OFF the loss is only recorded. A lost set-point source sets SPHOLD. The modes of other slots stay as they are. (R143, R145, R146, R148, R151, R155, R159) -/
def Obligations.SlotTriggersSampleAndSupervise : Prop :=
  (∀ (n : SlotId) (i l : Nat) (c : Bool) (xs : List (Nat × Int)) (s : State), s.slotUsed n = true → s.rcp.applied = true → s.spLostNow n = false → s.fbLostNow n = false →
    s.overruns n = true → ∃ t, exec (.slotTrigger n i l c xs) s = .next t ∧
      t.eng.slots[n] = { s.eng.slots[n] with ovr := true, ovrcnt := satNat 65535 (s.eng.slots[n].ovrcnt + 1), lastTrig := some s.tick } ∧
      (∀ m, m ≠ n → t.eng.slots[m] = s.eng.slots[m]) ∧ State.Only [.sys, .ports, .sol, .log, .rcp, .gns, .hie, .mon, .eng, .dma] s t) ∧
  (∀ (n : SlotId) (i l : Nat) (xs : List (Nat × Int)) (s : State), s.slotUsed n = true → s.rcp.applied = true → s.spLostNow n = false → s.fbLostNow n = false →
    s.overruns n = false → s.eng.slots[n].mode = .manual → s.eng.slots[n].modePend = none → s.eng.slots[n].swpend = false → s.eng.slots[n].ramp = false →
    s.unitDue n = false → s.takeOn n = false → ∃ t, exec (.slotTrigger n i l true xs) s = .next t ∧ t.eng.slots[n].mode = .manual ∧
      t.eng.slots[n].spv = s.clampSp n (satEv (s.setpoint n)) ∧ t.eng.slots[n].fb = s.feedback n ∧ t.eng.slots[n].lastEval = some s.tick ∧
      t.eng.slots[n].out = s.clampOut n (s.clampOut n (satEv (ev s.eng.slots[n].manout))) ∧ (∀ m, m ≠ n → t.eng.slots[m].mode = s.eng.slots[m].mode) ∧
      State.Only [.sys, .ports, .sol, .log, .rcp, .gns, .hie, .mon, .eng, .dma] s t) ∧
  (∀ (n : SlotId) (s : State), s.eng.slots[n].mode = .auto → s.eng.slots[n].feSince.isSome = true → ∃ t, exec (.followingError n) s = .next t ∧
      t.eng.slots[n].mode = .fault ∧ t.eng.slots[n].fcause = .following ∧ (∀ m, m ≠ n → t.eng.slots[m].mode = s.eng.slots[m].mode) ∧
      State.Only [.sys, .ports, .sol, .log, .hie, .mon, .eng] s t) ∧
  (∀ (n : SlotId) (s : State), s.slotUsed n = true → s.fbLostNow n = true → s.eng.slots[n].fbLost = false → s.eng.slots[n].mode = .auto →
    ∃ t, exec (.feedbackLost n) s = .next t ∧ t.eng.slots[n].mode = .fault ∧ t.eng.slots[n].fcause = .feedback ∧ t.eng.slots[n].fbLost = true ∧
      (∀ m, m ≠ n → t.eng.slots[m].mode = s.eng.slots[m].mode) ∧ State.Only [.sys, .ports, .sol, .log, .hie, .mon, .eng] s t) ∧
  (∀ (n : SlotId) (s : State), s.slotUsed n = true → s.fbLostNow n = true → s.eng.slots[n].mode ≠ .auto → s.eng.slots[n].mode ≠ .fault → s.eng.slots[n].fbLost = false →
    ∃ t, exec (.feedbackLost n) s = .next t ∧ t.eng.slots[n] = { s.eng.slots[n] with fbLost := true } ∧ (∀ m, m ≠ n → t.eng.slots[m] = s.eng.slots[m]) ∧
      State.Only [.sys, .ports, .sol, .log, .hie, .mon, .eng] s t) ∧
  (∀ (n : SlotId) (s : State), s.slotUsed n = true → s.spLostNow n = true → ∃ t, exec (.setpointLost n) s = .next t ∧
      t.eng.slots[n] = { s.eng.slots[n] with sphold := true } ∧ (∀ m, m ≠ n → t.eng.slots[m] = s.eng.slots[m]) ∧ State.Only [.sys, .log, .mon, .eng] s t)

/-- With the right, on a used slot of no tracking law: SWAP in OFF or FAULT exchanges the banks at once, in the other modes sets SWPEND; CLRFLT, its cause gone, takes a faulted slot into MANUAL at the output last applied; RSTATS restarts the statistics; a mode request sets MODEPEND and REQ and waits for the trigger; CENn_SP and CENn_MANOUT within LIMITS, and a word of the bank not in use within its limits, are stored. No other slot changes. (R7, R33, R135, R136, R142, R144, R149, R151, R157) -/
def Obligations.SlotCommandsTakeEffect : Prop :=
  (∀ (n : SlotId) (k : SessId) (s : State), s.slotUsed n = true → s.isTracking n = false → s.gate k rightCOMMAND = .ok → s.eng.slots[n].swpend = false →
    s.bankOk n s.sys.current s.eng.slots[n].other = true → s.loadOk s.sys.current (some (n, s.eng.slots[n].other[46].toNat)) = true →
    (s.sys.switching && s.trig n == 0 && decide (s.eng.slots[n].other[46].toNat < modeMinTper s.lowerMode)) = false →
    (s.eng.slots[n].mode = .off ∨ s.eng.slots[n].mode = .fault) → ∃ t, exec (.swap n k) s = .next t ∧
      t.eng.slots[n] = { s.eng.slots[n] with bankB := !s.eng.slots[n].bankB } ∧ (∀ m, m ≠ n → t.eng.slots[m] = s.eng.slots[m]) ∧
      t.sys.answers = ⟨s.me k, .ok⟩ :: s.sys.answers ∧ State.Only [.sys, .log, .mon, .eng] s t) ∧
  (∀ (n : SlotId) (k : SessId) (s : State), s.slotUsed n = true → s.isTracking n = false → s.gate k rightCOMMAND = .ok → s.eng.slots[n].swpend = false →
    s.bankOk n s.sys.current s.eng.slots[n].other = true → s.loadOk s.sys.current (some (n, s.eng.slots[n].other[46].toNat)) = true →
    (s.sys.switching && s.trig n == 0 && decide (s.eng.slots[n].other[46].toNat < modeMinTper s.lowerMode)) = false →
    s.eng.slots[n].mode ≠ .off → s.eng.slots[n].mode ≠ .fault → ∃ t, exec (.swap n k) s = .next t ∧
      t.eng.slots[n] = { s.eng.slots[n] with swpend := true } ∧ (∀ m, m ≠ n → t.eng.slots[m] = s.eng.slots[m]) ∧ State.Only [.sys, .log, .mon, .eng] s t) ∧
  (∀ (n : SlotId) (k : SessId) (s : State), s.slotUsed n = true → s.isTracking n = false → s.gate k rightCOMMAND = .ok → s.eng.slots[n].mode = .fault →
    ((s.eng.slots[n].fcause = .feedback && s.fbLostNow n) || (s.eng.slots[n].fcause = .following && decide (s.emax n < (s.setpoint n - s.feedback n).natAbs))) = false →
    ∃ t, exec (.clrflt n k) s = .next t ∧ t.eng.slots[n].mode = .manual ∧ t.eng.slots[n].fcause = .none ∧
      t.eng.slots[n].manout = evWord (s.eng.slots[n].applied.getD s.eng.slots[n].out) ∧ (∀ m, m ≠ n → t.eng.slots[m] = s.eng.slots[m]) ∧
      State.Only [.sys, .log, .mon, .eng] s t) ∧
  (∀ (n : SlotId) (k : SessId) (s : State), s.slotUsed n = true → s.isTracking n = false → s.gate k rightCOMMAND = .ok → ∃ t, exec (.rstats n k) s = .next t ∧
      t.eng.slots[n] = { s.eng.slots[n] with lmax := 0, lmin := 0xFFFF, lmean := 0, ovrcnt := 0, rescnt := 0 } ∧
      (∀ m, m ≠ n → t.eng.slots[m] = s.eng.slots[m]) ∧ State.Only [.sys, .log, .mon, .eng] s t) ∧
  (∀ (n : SlotId) (v : Word) (k : SessId) (m : SlotMode) (s : State), s.slotUsed n = true → s.isTracking n = false → s.gate k rightCOMMAND = .ok →
    SlotMode.ofReq (bits v 0 3) = some m → ¬ (m = .standby ∧ s.hset n = 0) → s.eng.slots[n].mode ≠ .fault → (m = .auto && s.fbLostNow n) = false →
    ∃ t, exec (.slotModeRequest n v k) s = .next t ∧ t.eng.slots[n] = { s.eng.slots[n] with modePend := some (m, s.me k), req := m } ∧
      (∀ i, i ≠ n → t.eng.slots[i] = s.eng.slots[i]) ∧ State.Only [.sys, .hie, .mon, .eng] s t) ∧
  (∀ (n : SlotId) (v : Word) (k : SessId) (s : State), s.slotUsed n = true → s.isTracking n = false → s.gate k rightCOMMAND = .ok → s.spsrc n = 0 →
    s.spInLimits n (ev v) = true → ∃ t, exec (.slotSpWrite n v k) s = .next t ∧ t.eng.slots[n] = { s.eng.slots[n] with sp := v } ∧
      (∀ m, m ≠ n → t.eng.slots[m] = s.eng.slots[m]) ∧ State.Only [.sys, .log, .mon, .eng] s t) ∧
  (∀ (n : SlotId) (v : Word) (k : SessId) (s : State), s.slotUsed n = true → s.isTracking n = false → s.gate k rightCOMMAND = .ok → s.clampOut n (ev v) = ev v →
    ∃ t, exec (.slotManoutWrite n v k) s = .next t ∧ t.eng.slots[n].manout = v ∧ t.eng.slots[n].mode = s.eng.slots[n].mode ∧
      (∀ m, m ≠ n → t.eng.slots[m] = s.eng.slots[m]) ∧ State.Only [.sys, .log, .mon, .eng] s t) ∧
  (∀ (n : SlotId) (b : Bool) (i : Fin 48) (v : Word) (k : SessId) (s : State), s.slotUsed n = true → s.isTracking n = false → s.gate k rightPARAM = .ok →
    b ≠ s.eng.slots[n].bankB → s.eng.slots[n].swpend = false → s.wordInLimits n i.val v = true →
    ∃ t, exec (.slotBankWordWrite n b i v k) s = .next t ∧ t.eng.slots[n] = (if b then { s.eng.slots[n] with wordsB := s.eng.slots[n].wordsB.set i v }
        else { s.eng.slots[n] with wordsA := s.eng.slots[n].wordsA.set i v }) ∧
      (∀ m, m ≠ n → t.eng.slots[m] = s.eng.slots[m]) ∧ State.Only [.sys, .log, .mon, .eng] s t)

/-- With the TAKE right and the SERVICE or OWNER role, a Take not running on a used slot in AUTO (or MANUAL for an injection at the output), whose chirp fields the slot can follow, goes RUNNING on the slot of TKCFG with no sample and no capture yet. An abort of a running Take ends it EARLY with reason 4 and puts the end entry into Q12. The slots stay as they are. (R160, R162) -/
def Obligations.TakesStartAndAbort : Prop :=
  (∀ (k : SessId) (s : State), s.gateRws k rightTAKE = .ok → s.eng.take.status ≠ .running → 
    s.slotUsed (Fin.ofNat 128 (bits s.eng.take.cfg 24 7)) = true → (s.eng.slots[(Fin.ofNat 128 (bits s.eng.take.cfg 24 7) : SlotId)].mode = .auto ∨
      (s.eng.take.atOutput = true ∧ s.eng.slots[(Fin.ofNat 128 (bits s.eng.take.cfg 24 7) : SlotId)].mode = .manual)) →
    (s.eng.take.sig = 2 → s.trig (Fin.ofNat 128 (bits s.eng.take.cfg 24 7)) = 0 ∧ s.law (Fin.ofNat 128 (bits s.eng.take.cfg 24 7)) ≠ lawDEMOD ∧
      1 ≤ bits s.eng.take.frq 0 16 ∧ bits s.eng.take.frq 16 16 ≤ 5000 ∧ 4 * bits s.eng.take.frq 16 16 * s.tper (Fin.ofNat 128 (bits s.eng.take.cfg 24 7)) ≤ 2 ^ 32 ∧
      bits s.eng.take.frq 0 16 < bits s.eng.take.frq 16 16) →
    ∃ t, exec (.takeStart k) s = .next t ∧ t.eng.take.status = .running ∧ t.eng.take.slot = Fin.ofNat 128 (bits s.eng.take.cfg 24 7) ∧ t.eng.take.count = 0 ∧
      t.eng.take.k = 0 ∧ t.eng.take.lfsr = 0x7FFF ∧ t.eng.slots = s.eng.slots ∧ t.sys.answers = ⟨s.me k, .ok⟩ :: s.sys.answers ∧ State.Only [.sys, .eng] s t) ∧
  (∀ (k : SessId) (s : State), s.gateRws k rightTAKE = .ok → s.eng.take.status = .running → ∃ t, exec (.takeAbort k) s = .next t ∧
      t.eng.take = { s.eng.take with status := .early, reason := 4 } ∧ t.eng.slots = s.eng.slots ∧
      t.eng.q12 = s.eng.q12 ++ [fit 32 (le 2 s.eng.take.count ++ le 1 s.eng.take.slot.val ++ le 1 130)] ∧ State.Only [.sys, .log, .mon, .eng] s t)

/-- An idle channel not barred, rested 1 s since a slot fault, takes a PRN into SEARCH. A verified cell leads to PULLIN, a fruitless search to IDLE; lock leads to TRACK, none back to SEARCH; bit edges lead to BITSYNC, a confirmed preamble to NAV with its polarity; low C/N0 from TRACK, BITSYNC or NAV to REACQ, whose end is PULLIN or IDLE. A faulted tracking slot idles its channel, notes the fault, bars the channel at the third within 10 minutes and puts both slots in OFF. (R182, R185, R189) -/
def Obligations.GnssChannelsFollowTheirSignals : Prop :=
  (∀ (c : GnsCh) (prn : Nat) (s : State), s.gnssOn = true → s.gns.chans[c].st = .idle → s.gns.chans[c].barred = false → (∀ a l, s.gns.chans[c].faults = a :: l → a + 120000000 ≤ s.tick) → 1 ≤ prn → prn ≤ 32 → ∃ t, exec (.channelAssign c prn) s = .next t ∧ t.gns.chans[c] = { s.gns.chans[c] with st := .search, prn := prn, pol := 0, cn0 := 0 } ∧
      (∀ d, d ≠ c → t.gns.chans[d] = s.gns.chans[d]) ∧ State.Only [.gns] s t) ∧
  (∀ (c : GnsCh) (b : Bool) (s : State), s.gns.chans[c].st = .search → ∃ t, exec (.searchEnd c b) s = .next t ∧ t.gns.chans[c] = (if b then { s.gns.chans[c] with st := .pullin } else { s.gns.chans[c] with st := .idle, prn := 0, pol := 0, cn0 := 0 }) ∧
      (∀ d, d ≠ c → t.gns.chans[d] = s.gns.chans[d]) ∧ State.Only [.gns] s t) ∧
  (∀ (c : GnsCh) (b : Bool) (s : State), s.gns.chans[c].st = .pullin → ∃ t, exec (.pullinEnd c b) s = .next t ∧ t.gns.chans[c] = { s.gns.chans[c] with st := if b then .track else .search } ∧
      (∀ d, d ≠ c → t.gns.chans[d] = s.gns.chans[d]) ∧ State.Only [.gns] s t) ∧
  (∀ (c : GnsCh) (s : State), s.gns.chans[c].st = .track → ∃ t, exec (.bitSync c) s = .next t ∧ t.gns.chans[c] = { s.gns.chans[c] with st := .bitsync } ∧
      (∀ d, d ≠ c → t.gns.chans[d] = s.gns.chans[d]) ∧ State.Only [.gns] s t) ∧
  (∀ (c : GnsCh) (b : Bool) (s : State), (s.gns.chans[c].st = .bitsync ∨ s.gns.chans[c].st = .nav) → ∃ t, exec (.preambleConfirmed c b) s = .next t ∧ t.gns.chans[c] = { s.gns.chans[c] with st := .nav, pol := if b then 2 else 1 } ∧
      (∀ d, d ≠ c → t.gns.chans[d] = s.gns.chans[d]) ∧ State.Only [.gns] s t) ∧
  (∀ (c : GnsCh) (s : State), s.gns.chans[c].tracks = true → ∃ t, exec (.reacqEntry c) s = .next t ∧ t.gns.chans[c] = { s.gns.chans[c] with st := .reacq } ∧
      (∀ d, d ≠ c → t.gns.chans[d] = s.gns.chans[d]) ∧ State.Only [.gns] s t) ∧
  (∀ (c : GnsCh) (b : Bool) (s : State), s.gns.chans[c].st = .reacq → ∃ t, exec (.reacqEnd c b) s = .next t ∧ t.gns.chans[c] = (if b then { s.gns.chans[c] with st := .pullin } else { s.gns.chans[c] with st := .idle, prn := 0, pol := 0, cn0 := 0 }) ∧
      (∀ d, d ≠ c → t.gns.chans[d] = s.gns.chans[d]) ∧ State.Only [.gns] s t) ∧
  (∀ (c : GnsCh) (s : State), s.gnssOn = true → (s.slotFaulted (codeSlot c) || s.slotFaulted (carrierSlot c)) = true →
    ∃ t, exec (.gnssChannelFault c) s = .next t ∧ t.gns.chans[c].st = .idle ∧ t.gns.chans[c].prn = 0 ∧
      t.gns.chans[c].faults = s.tick :: s.gns.chans[c].faults.filter (fun a => decide (s.tick ≤ a + 600 * 120000000)) ∧
      t.gns.chans[c].barred = decide (3 ≤ t.gns.chans[c].faults.length) ∧ t.eng.slots[codeSlot c].mode = .off ∧ t.eng.slots[carrierSlot c].mode = .off ∧
      (∀ d, d ≠ c → t.gns.chans[d] = s.gns.chans[d]) ∧ State.Only [.sys, .log, .gns, .mon, .eng] s t)

/-- With the SERVICE right and role and the receiver enabled, a restart sets every channel IDLE, begins TTFF and the fix anew and leaves the stored data, a cold start erases them and is of kind 0. A rate of 0 to 4 is stored. An antenna fault shows in ANT with bias current and voltage; a retry with at most 80 mA, or an open antenna normal again, ends it. The duty window closes the front end only where DUTY applies. The last position is saved. (R182, R184, R186, R190, R193) -/
def Obligations.GnssStartsAntennaAndRate : Prop :=
  (∀ (l : List Nat) (k : SessId) (s : State), s.gateRws k rightSERVICE = .ok → s.gnssOn = true → ∃ t, exec (.gnssRestart l k) s = .next t ∧
      t.gns.chans = Vector.replicate 32 {} ∧ t.gns.kind = s.startKind l false ∧ t.gns.startAt = some s.tick ∧ t.gns.firstFix = false ∧ t.gns.eph = s.gns.eph ∧
      t.gns.alm = s.gns.alm ∧ t.gns.pos = s.gns.pos ∧ t.gns.pvt = s.gns.pvt ∧ t.gns.q11 = s.gns.q11 ∧ t.sys.answers = ⟨s.me k, .ok⟩ :: s.sys.answers ∧ State.Only [.sys, .gns] s t) ∧
  (∀ (k : SessId) (s : State), s.gateRws k rightSERVICE = .ok → s.gnssOn = true → ∃ t, exec (.gnssCold k) s = .next t ∧
      t.gns.chans = Vector.replicate 32 {} ∧ t.gns.kind = 0 ∧ t.gns.eph = [] ∧ t.gns.alm = none ∧ t.gns.pos = none ∧ t.gns.savedEph = [] ∧ t.gns.savedPos = none ∧
      t.gns.pvt = s.gns.pvt ∧ t.gns.q11 = s.gns.q11 ∧ State.Only [.sys, .gns] s t) ∧
  (∀ (v : Word) (k : SessId) (s : State), s.gate k rightPARAM = .ok → bits v 0 3 ≤ 4 → ∃ t, exec (.gnssRateWrite v k) s = .next t ∧
      t.gns = { s.gns with rateReq := bits v 0 3 } ∧ State.Only [.sys, .gns] s t) ∧
  (∀ (b : Bool) (i v : Nat) (s : State), s.gnssOn = true → ∃ t, exec (.gnssAntFault b i v) s = .next t ∧
      t.gns = { s.gns with ant := if b then .short else .open, ibias := satNat 65535 i, vbias := satNat 65535 v } ∧
      (s.isWorker = false → s.tmb.qual.tracks = true → t.tmb.qual = .holdover) ∧ State.Only [.sys, .log, .tmb, .gns, .mon] s t) ∧
  (∀ (i v : Nat) (s : State), s.gns.ant = .short → ∃ t, exec (.antBiasRetry i v) s = .next t ∧
      t.gns = { s.gns with ant := if 800 < i then .short else .normal, ibias := satNat 65535 i, vbias := satNat 65535 v } ∧ State.Only [.sys, .log, .gns, .mon] s t) ∧
  (∀ (i v : Nat) (s : State), s.gns.ant = .open → ∃ t, exec (.gnssAntFaultEnded i v) s = .next t ∧
      t.gns = { s.gns with ant := .normal, ibias := satNat 65535 i, vbias := satNat 65535 v } ∧ State.Only [.sys, .log, .gns, .mon] s t) ∧
  (∀ (b : Bool) (s : State), ∃ t, exec (.dutyWindow b) s = .next t ∧ t.gns = { s.gns with asleep := !b && s.dutyApplies } ∧ State.Only [.gns] s t) ∧
  (∀ s : State, ∃ t, exec .gnssPositionSave s = .next t ∧ t.gns = { s.gns with savedPos := s.gns.pos } ∧ State.Only [.gns] s t)

/-- With the receiver enabled: an epoch sets the rate in force to the lesser of request and mode, and puts one entry per tracking channel into Q11 when four entries stay free, else none and OVF rises. A word of a channel in NAV enters Q11, or with Q11 full is discarded and counted. A solution of four or more usable SVs is a 3D fix that shows in the PVT registers and becomes the last position; below three there is no fix and no heading. 3 s without a fix clear FIX. (R187, R188, R189, R192, R193) -/
def Obligations.GnssMeasurementsWordsAndFixes : Prop :=
  (∀ (ms : List GnsMeas) (s : State), s.gnssOn = true → s.gns.q11.length + (ms.filter fun m => s.gns.chans[m.chan].tracks && !s.gns.asleep).length + 4 ≤ 64 →
    ∃ t, exec (.measurementEpoch ms) s = .next t ∧ t.gns.rateF = min s.gns.rateReq (modePvt s.sys.current) ∧
      t.gns.q11.length = s.gns.q11.length + (ms.filter fun m => s.gns.chans[m.chan].tracks && !s.gns.asleep).length ∧ t.gns.q11.take s.gns.q11.length = s.gns.q11 ∧
      t.gns.pvt = s.gns.pvt ∧ State.Only [.sys, .gns] s t) ∧
  (∀ (ms : List GnsMeas) (s : State), s.gnssOn = true → 64 < s.gns.q11.length + (ms.filter fun m => s.gns.chans[m.chan].tracks && !s.gns.asleep).length + 4 →
    ∃ t, exec (.measurementEpoch ms) s = .next t ∧ t.gns.rateF = min s.gns.rateReq (modePvt s.sys.current) ∧ t.gns.q11 = s.gns.q11 ∧
      t.sys.qstat[11].ovf = satNat 255 (s.sys.qstat[11].ovf + 1) ∧ State.Only [.sys, .gns] s t) ∧
  (∀ (c : GnsCh) (w : NavWord) (s : State), s.gnssOn = true → s.gns.chans[c].st = .nav → s.gns.q11.length < 64 → ∃ t, exec (.navWord c w) s = .next t ∧
      t.gns.q11 = s.gns.q11 ++ [s.wordEntry c w] ∧ t.gns.navLost = s.gns.navLost ∧ t.gns.chans = s.gns.chans ∧ State.Only [.sys, .gns] s t) ∧
  (∀ (c : GnsCh) (w : NavWord) (s : State), s.gnssOn = true → s.gns.chans[c].st = .nav → 64 ≤ s.gns.q11.length → ∃ t, exec (.navWord c w) s = .next t ∧
      t.gns.q11 = s.gns.q11 ∧ t.gns.navLost = satNat 255 (s.gns.navLost + 1) ∧ t.gns.chans = s.gns.chans ∧ State.Only [.sys, .gns] s t) ∧
  (∀ (v : Fix) (s : State), s.gnssOn = true → 4 ≤ (s.usable v.svs).length → ∃ t, exec (.pvtSolution v) s = .next t ∧ t.gns.fix = 2 ∧
      t.gns.nsv = (s.usable v.svs).length ∧ t.gns.pvt = s.pvtOf v v.hgt ∧ t.gns.pos = some (v.instant / 2 ^ 32, v.lat, v.lon, v.hgt) ∧ t.gns.firstFix = true ∧
      t.gns.lost = false ∧ t.gns.chans = s.gns.chans ∧ State.Only [.sys, .log, .gns, .mon, .sct] s t) ∧
  (∀ (v : Fix) (s : State), s.gnssOn = true → (s.usable v.svs).length < 3 → ∃ t, exec (.pvtSolution v) s = .next t ∧
      t.gns = { s.gns with fix := 0, nsv := (s.usable v.svs).length, pvt := { s.gns.pvt with hdg := 0xFFFF } } ∧ State.Only [.gns] s t) ∧
  (∀ s : State, s.gnssOn = true → s.gns.lost = false → ∃ t, exec .gnssFixLost s = .next t ∧
      t.gns = { s.gns with lost := true, fix := 0, pvt := { s.gns.pvt with hdg := 0xFFFF } } ∧ State.Only [.sys, .log, .gns, .mon] s t)

/-- On the manager, with COMMAND: ENGAGE and ENGAGE_EXT that pass their checks with an entry for every section set the selected sections to AUTO or EXT. DISENGAGE sets the engaged ones to ON or OFF as last commanded, SET_ON and SET_OFF with room for all set the selected ones. No other section changes its mode. BCHECK of a table without error marks it valid, of one with an error records the first; CLRFLT clears the unit's fault; a boundary word is stored while nothing is engaged. (R203, R215, R216, R218) -/
def Obligations.SectionsEngageLeaveAndSet : Prop :=
  (∀ (k : SessId) (u s : State), s.gate k rightCOMMAND = .ok → s.isWorker = false → s.engageCheck s.selected false = .ok → s.sct.engaging = none →
    s.reserveHere (s.selected.filter s.sctHere) = some u → (s.selected.filter fun i => !s.sctHere i && s.sct.sects[i].slot.isNone) = [] →
    ∃ t, exec (.engage k) s = .next t ∧ (∀ i : SectId, t.sct.sects[i].mode = if i ∈ s.selected then .auto else s.sct.sects[i].mode) ∧
      State.Only [.sys, .log, .hie, .mon, .sct] s t) ∧
  (∀ (k : SessId) (u s : State), s.gate k rightCOMMAND = .ok → s.isWorker = false → s.engageCheck s.selected true = .ok → s.sct.engaging = none →
    s.reserveHere (s.selected.filter s.sctHere) = some u → (s.selected.filter fun i => !s.sctHere i && s.sct.sects[i].slot.isNone) = [] →
    ∃ t, exec (.engageExt k) s = .next t ∧ (∀ i : SectId, t.sct.sects[i].mode = if i ∈ s.selected then .ext else s.sct.sects[i].mode) ∧
      State.Only [.sys, .log, .hie, .mon, .sct] s t) ∧
  (∀ (k : SessId) (s : State), s.gate k rightCOMMAND = .ok → s.isWorker = false → ∃ t, exec (.disengage k) s = .next t ∧
      (∀ i : SectId, t.sct.sects[i].mode = if i ∈ s.selected.filter (fun i => s.sct.sects[i].engaged) then (if s.sct.sects[i].cmd then .on else .off) else s.sct.sects[i].mode) ∧
      State.Only [.sys, .log, .hie, .mon, .sct] s t) ∧
  (∀ (k : SessId) (s : State), s.gate k rightCOMMAND = .ok → s.isWorker = false → (s.setSections s.selectedUsed true).2 = true → ∃ t, exec (.setOn k) s = .next t ∧
      (∀ i : SectId, t.sct.sects[i].mode = if i ∈ s.selectedUsed then .on else s.sct.sects[i].mode) ∧ State.Only [.sys, .log, .hie, .mon, .sct] s t) ∧
  (∀ (k : SessId) (s : State), s.gate k rightCOMMAND = .ok → s.isWorker = false → (s.setSections s.selectedUsed false).2 = true → ∃ t, exec (.setOff k) s = .next t ∧
      (∀ i : SectId, t.sct.sects[i].mode = if i ∈ s.selectedUsed then .off else s.sct.sects[i].mode) ∧ State.Only [.sys, .log, .hie, .mon, .sct] s t) ∧
  (∀ (k : SessId) (s : State), s.gate k rightCOMMAND = .ok → s.isWorker = false → s.sctEng = false → ∃ t, exec (.bcheck k) s = .next t ∧
      t.sct = (match s.tableError with
        | some (p, e, v) => { s.sct with bvalid := false, bres := 2, bpoly := p, berr := e, bvtx := v }
        | none => { s.sct with bvalid := true, bres := 1, bpoly := 0, berr := 0, bvtx := 0 }) ∧ State.Only [.sys, .hie, .mon, .sct] s t) ∧
  (∀ (k : SessId) (s : State), s.gate k rightCOMMAND = .ok → s.isWorker = false → ∃ t, exec (.sectionClrflt k) s = .next t ∧
      t.sct = { s.sct with fault := false, resRun := 0 } ∧ State.Only [.sys, .hie, .mon, .sct] s t) ∧
  (∀ (a : Nat) (v : Word) (f : SctState → SctState) (k : SessId) (s : State), boundaryWord a v = some f → s.gate k rightPARAM = .ok → s.isWorker = false →
    s.sctEng = false → ∃ t, exec (.boundaryWrite a v k) s = .next t ∧ t.sct = f s.sct ∧ t.sys.answers = ⟨s.me k, .ok⟩ :: s.sys.answers ∧ State.Only [.sys, .sct] s t)

/-- On the manager: an evaluation sets POSOK, SPDOK and the permit as judged, ends the residue run and changes no mode; a residue mismatch withholds it, counts, and at the third in a row sets the fault. The pause after a refusal ends. A frame of the receiver is kept until its pair comes, and a pair within 50 ms is a solution. A position lost sets SUSP, a speed that disagrees sets the fallback until it agrees. A setpoint word reaches the sections in EXT it names; a lost Task Controller clears TCOK. (R198, R199, R200, R209, R213, R217, R218, R222, R223) -/
def Obligations.SectionEvaluationsAndSourcesAct : Prop :=
  (∀ s : State, s.isWorker = false → s.rcp.applied = true → s.sct.fault = false → ∃ t, exec (.sectionEvaluation true) s = .next t ∧
      t.sct.posOk = s.positionOk ∧ t.sct.spdOk = s.speedOk ∧ t.sct.permit = s.permitNow ∧ t.sct.resRun = 0 ∧ t.sct.fault = false ∧
      (∀ i : SectId, t.sct.sects[i].mode = s.sct.sects[i].mode) ∧ State.Only [.sys, .log, .hie, .mon, .sct, .mem] s t) ∧
  (∀ s : State, s.isWorker = false → s.rcp.applied = true → s.sct.fault = false → s.sct.resRun < 2 → ∃ t, exec (.sectionEvaluation false) s = .next t ∧
      t.sct = { s.sct with resRun := s.sct.resRun + 1, resCnt := satNat 65535 (s.sct.resCnt + 1) } ∧ State.Only [.sys, .log, .hie, .mon, .sct, .mem] s t) ∧
  (∀ s : State, s.isWorker = false → s.rcp.applied = true → s.sct.fault = false → 2 ≤ s.sct.resRun → ∃ t, exec (.sectionEvaluation false) s = .next t ∧
      t.sct.fault = true ∧ State.Only [.sys, .log, .hie, .mon, .sct, .mem] s t) ∧
  (∀ (i : SectId) (s : State), ∃ t, exec (.sectRefusePauseEnd i) s = .next t ∧ t.sct.sects[i] = { s.sct.sects[i] with paused := false } ∧
      (∀ j, j ≠ i → t.sct.sects[j] = s.sct.sects[j]) ∧ State.Only [.sct] s t) ∧
  (∀ (lat lon : Int) (s : State), s.isWorker = false → s.rcp.applied = true → s.posSrc = 1 → s.sct.extCog = none →
    ∃ t, exec (.extPositionFrame (.position lat lon) s.extName) s = .next t ∧ t.sct = { s.sct with extPos := some (lat, lon, s.tick) } ∧ State.Only [.sct] s t) ∧
  (∀ (h v : Nat) (lat lon : Int) (a : Nat) (s : State), s.isWorker = false → s.rcp.applied = true → s.posSrc = 1 → s.sct.extPos = some (lat, lon, a) →
    a ≤ s.tick + 6000000 → s.tick ≤ a + 6000000 → ∃ t, exec (.extPositionFrame (.course h v) s.extName) s = .next t ∧ t.sct.extPos = none ∧ t.sct.extCog = none ∧
      t.sct.sols.head?.map (fun x => (x.x, x.y, x.speed, x.hdg, x.fix)) = some ((s.plane lat lon).1, (s.plane lat lon).2, v, (if h < 36000 then some h else none), 3) ∧
      State.Only [.sct] s t) ∧
  (∀ s : State, s.isWorker = false → (s.nsectIds.filter fun i => s.sct.sects[i].mode == .auto) ≠ [] → s.sct.susp = false → (s.positionOk && s.speedOk) = false →
    ∃ t, exec .sectPosLost s = .next t ∧ t.sct.susp = true ∧ t.sct.suspAt = s.tick ∧ (∀ i : SectId, t.sct.sects[i].mode = s.sct.sects[i].mode) ∧
      State.Only [.sys, .log, .hie, .mon, .sct] s t) ∧
  (∀ s : State, s.isWorker = false → s.spdSrc = 2 → ∃ t, exec .speedDisagree s = .next t ∧ t.sct = { s.sct with disagree := true } ∧ State.Only [.sys, .log, .mon, .sct] s t) ∧
  (∀ s : State, ∃ t, exec .speedDisagreeEnd s = .next t ∧ t.sct = { s.sct with disagree := false } ∧ State.Only [.sct] s t) ∧
  (∀ (d : Nat) (v : Word) (s : State), s.isWorker = false → s.sct.tcActive = true → s.rcp.applied = true → ∃ t, exec (.tcSetpoint d v) s = .next t ∧
      t.sct.tcOk = true ∧ t.sct.tcAt = s.tick ∧ (∀ i : SectId, t.sct.sects[i].setpt = if i ∈ s.nsectIds ∧ i.val / 16 = d ∧ s.sct.sects[i].mode = .ext then
        some (bits v (2 * (i.val % 16)) 2) else s.sct.sects[i].setpt) ∧ State.Only [.sct] s t) ∧
  (∀ s : State, s.isWorker = false → (s.nsectIds.filter fun i => s.sct.sects[i].mode == .ext) ≠ [] → s.sct.tcOk = true → ∃ t, exec .tcLost s = .next t ∧
      t.sct.tcOk = false ∧ (∀ i : SectId, t.sct.sects[i].mode = s.sct.sects[i].mode) ∧ State.Only [.sys, .log, .hie, .mon, .sct] s t)

/-- A used link without transitions is down and its hop failed, the other link as it was; up again it is restored where nothing forbids it. Changed straps set STRAPCHG. An EREQ is answered on the up-link with TAT 400 ns. An echo request stamps its edge and goes out. The first failed echo is counted, the second in a row fails the down-link hop. An answer in time with its CRC clears the run and, the delay not yet known, adds its sample. A mark stamps its edge; the manager sends a mark and a beacon. (R225, R229, R230, R231, R232, R233) -/
def Obligations.ClapperLinksAndEchoes : Prop :=
  (∀ (d : Side) (s : State), s.linkUsed d = true → ∃ t, exec (.linkDown d) s = .next t ∧ (t.link d).down = true ∧ (t.link d).failed = true ∧
      t.link (!d) = s.link (!d) ∧ State.Only [.sys, .log, .tmb, .hie, .mon, .sct] s t) ∧
  (∀ (d : Side) (s : State), s.linkUsed d = true → ∃ t, exec (.linkUp d) s = .next t ∧
      t.link d = { down := false, failed := (s.link d).failed && !(!d || s.hie.dlyOk) } ∧ t.link (!d) = s.link (!d) ∧ State.Only [.sys, .log, .hie, .mon] s t) ∧
  (∀ (a : Nat) (s : State), a ≠ s.sys.addr → ∃ t, exec (.strapChange a) s = .next t ∧ t.hie = { s.hie with strapChg := true } ∧ t.sys.addr = s.sys.addr ∧
      State.Only [.sys, .log, .mon, .hie] s t) ∧
  (∀ s : State, s.linkUsed false = true → ∃ t, exec .ereq s = .next t ∧ t.hie = { s.hie with sent := (false, .ersp 1600) :: s.hie.sent } ∧ State.Only [.hie] s t) ∧
  (∀ (e : Nat) (s : State), s.linkUsed true = true → ∃ t, exec (.echoRequest e) s = .next t ∧
      t.hie = { s.hie with ereqAt := some e, sent := (true, .ereq) :: s.hie.sent } ∧ State.Only [.hie] s t) ∧
  (∀ s : State, s.linkUsed true = true → s.hie.echoRun = 0 → ∃ t, exec .echoFail s = .next t ∧
      t.hie = { s.hie with ereqAt := none, echoFail := satNat 255 (s.hie.echoFail + 1), echoRun := 1 } ∧ State.Only [.sys, .log, .tmb, .hie, .mon, .sct] s t) ∧
  (∀ s : State, s.linkUsed true = true → 1 ≤ s.hie.echoRun → ∃ t, exec .echoFail s = .next t ∧ t.hie.dn.failed = true ∧ t.hie.up = s.hie.up ∧
      State.Only [.sys, .log, .tmb, .hie, .mon, .sct] s t) ∧
  (∀ (tat e0 e : Nat) (s : State), s.hie.ereqAt = some e0 → tat ≤ 4000 → e ≤ e0 + 12000 → s.hie.dlyOk = false → s.hie.samples.length < 15 →
    ∃ t, exec (.ersp tat (Frame.ersp tat).crc e) s = .next t ∧ t.hie = { s.hie with tat := tat, ereqAt := none, echoRun := 0, samples := (((e : Int) - e0 - tat) :: s.hie.samples).take 16, rejRun := 0 } ∧
      State.Only [.sys, .log, .tmb, .hie, .mon, .sct] s t) ∧
  (∀ (tat c e : Nat) (s : State), s.hie.ereqAt.isSome = true → c ≠ (Frame.ersp tat).crc → s.linkUsed true = true → s.hie.echoRun = 0 →
    ∃ t, exec (.ersp tat c e) s = .next t ∧ t.hie = { s.hie with crcErr := satNat 255 (s.hie.crcErr + 1), ereqAt := none, echoFail := satNat 255 (s.hie.echoFail + 1), echoRun := 1 } ∧
      State.Only [.sys, .log, .tmb, .hie, .mon, .sct] s t) ∧
  (∀ (e : Nat) (s : State), s.linkUsed false = true → s.linkUsed true = false → s.hie.mark = none → ∃ t, exec (.bmark e) s = .next t ∧
      t.hie = { s.hie with mark := some e } ∧ State.Only [.hie] s t) ∧
  (∀ (e : Nat) (s : State), s.linkUsed false = true → s.linkUsed true = true → s.hie.mark = none → ∃ t, exec (.bmark e) s = .next t ∧
      t.hie = { s.hie with mark := some e, sent := (true, .bmark) :: s.hie.sent } ∧ State.Only [.hie] s t) ∧
  (∀ s : State, s.isWorker = false → s.linkUsed true = true → s.rcp.applied = true → ∃ t, exec .beaconSend s = .next t ∧
      t.hie = { s.hie with sent := (true, .beacon 1 s.hopDelay ((s.now * 1000 + 2 ^ 31) / 2 ^ 32 % 1000) ((s.now * 1000 + 2 ^ 31) / 2 ^ 32 / 1000) s.tmb.qual.code s.hie.dlyOk
        s.hie.stepCnt s.announcement) :: (true, .bmark) :: s.hie.sent } ∧ State.Only [.hie, .mon] s t)

/-- On a worker a beacon with its CRC, DLYOK, the right HOP and a mark, no step missed, sets CUMDLY, MQUAL and STEPCNT, ends the mark and announces its step. A FLAG with its CRC from its origin sets the flag's value and clears its failure where no condition of failure stands; a flag silent for 3 ms takes FAILV. A HOPFAIL with its CRC that names a hop of this device fails that link, the other stays. A frame with a wrong CRC is counted and changes no flag or link. (R227, R229, R232, R233, R234, R235, R237, R238) -/
def Obligations.BeaconsFlagsAndFailedHops : Prop :=
  (∀ (cum ms sec q n m : Nat) (a : Option (Nat × Nat × Nat)) (s : State), s.linkUsed false = true → s.hie.mark = some m → (s.hie.validAt = none ∨ n = s.hie.stepCnt) →
    ∃ t, exec (.beacon s.hop cum ms sec q true n a (Frame.beacon s.hop cum ms sec q true n a).crc) s = .next t ∧ t.hie.mark = none ∧ t.hie.cumdly = cum ∧ t.hie.mqual = Qual.ofCode q ∧
      t.hie.stepCnt = n ∧ t.hie.validAt = some s.tick ∧ t.hie.beaconRun = s.hie.beaconRun + 1 ∧ t.hie.srcOk = (s.hie.srcOk || decide (10 ≤ s.hie.beaconRun + 1)) ∧
      t.hie.up = s.hie.up ∧ t.hie.dn = s.hie.dn ∧ t.tmb.pending = (match a with | some (_, x, y) => some (.manager (announced x y)) | none => s.tmb.pending) ∧
      t.tmb.t = s.tmb.t ∧ State.Only [.sys, .log, .tmb, .hie, .mon] s t) ∧
  (∀ (d : Side) (k : FlagId) (v : Bool) (s : State), s.xfUsed k = true → s.xfOrig k ≠ s.sys.addr → (s.link (s.sideOf (s.xfOrig k))).down = false →
    (s.link (s.sideOf (s.xfOrig k))).failed = false → ∃ t, exec (.flag d (s.xfOrig k) k.val v (Frame.flag (s.xfOrig k) k.val v).crc) s = .next t ∧
      t.hie.flags[k] = { val := v, failed := false, hopfail := false, silent := false } ∧ (∀ j, j ≠ k → t.hie.flags[j] = s.hie.flags[j]) ∧ State.Only [.sys, .log, .hie, .mon] s t) ∧
  (∀ (d : Side) (o i : Nat) (v : Bool) (c : Nat) (s : State), c ≠ (Frame.flag o i v).crc → ∃ t, exec (.flag d o i v c) s = .next t ∧
      t.hie.crcErr = satNat 255 (s.hie.crcErr + 1) ∧ (∀ j : FlagId, t.hie.flags[j] = s.hie.flags[j]) ∧ State.Only [.hie] s t) ∧
  (∀ (k : FlagId) (s : State), s.xfUsed k = true → s.xfOrig k ≠ s.sys.addr → ∃ t, exec (.xflagFailed k) s = .next t ∧
      t.hie.flags[k] = { s.hie.flags[k] with val := s.xfFailv k, failed := true, silent := true } ∧ (∀ j, j ≠ k → t.hie.flags[j] = s.hie.flags[j]) ∧ State.Only [.sys, .log, .hie, .mon] s t) ∧
  (∀ (d : Side) (r : Nat) (w : Bool) (s : State), s.hopNamed r w = some s.hop → s.linkUsed true = true → ∃ t, exec (.hopfail d r w (Frame.hopfail r w).crc) s = .next t ∧
      t.hie.dn = { s.hie.dn with failed := true } ∧ t.hie.up = s.hie.up ∧ State.Only [.sys, .log, .tmb, .hie, .mon, .sct] s t) ∧
  (∀ (d : Side) (r : Nat) (w : Bool) (a : Nat) (s : State), s.hopNamed r w = some a → a + 1 = s.hop → s.linkUsed false = true → ∃ t, exec (.hopfail d r w (Frame.hopfail r w).crc) s = .next t ∧
      t.hie.up = { s.hie.up with failed := true } ∧ t.hie.dn = s.hie.dn ∧ State.Only [.sys, .log, .tmb, .hie, .mon, .sct] s t) ∧
  (∀ (d : Side) (r : Nat) (w : Bool) (c : Nat) (s : State), c ≠ (Frame.hopfail r w).crc → ∃ t, exec (.hopfail d r w c) s = .next t ∧
      t.hie.crcErr = satNat 255 (s.hie.crcErr + 1) ∧ t.hie.up = s.hie.up ∧ t.hie.dn = s.hie.dn ∧ State.Only [.hie] s t)

/-- On the manager START of a stopped group takes it to STARTING with the first grid instant 10 ms on as its start boundary; of a stopping one it is held. STOP of a starting or running group takes it to STOPPING with its stop boundary. At the start boundary it enters RUNNING, at the stop boundary STOPPED, its entries free and its members gone. A member's next instant enters its empty entry; a member that waits joins once its worker is ready and Q14 has room. (R242, R250, R251) -/
def Obligations.LockGroupsStartRunAndStop : Prop :=
  (∀ (g : LgId) (src : Src) (s : State), s.isWorker = false → s.lgUsed g = true → s.srcGate src = .ok → s.hie.lgs[g].st = .stopped → ∃ t, exec (.lgStart g src) s = .next t ∧
      t.hie.lgs[g].st = .starting ∧ t.hie.lgs[g].startB = s.lgBoundary g ∧ State.Only [.sys, .ports, .log, .hie, .mon] s t) ∧
  (∀ (g : LgId) (src : Src) (s : State), s.isWorker = false → s.lgUsed g = true → s.srcGate src = .ok → s.hie.lgs[g].st = .stopping → ∃ t, exec (.lgStart g src) s = .next t ∧
      t.hie.lgs[g].st = .stopping ∧ t.hie.lgs[g].stopB = s.hie.lgs[g].stopB ∧ State.Only [.sys, .ports, .log, .hie, .mon] s t) ∧
  (∀ (g : LgId) (src : Src) (s : State), s.isWorker = false → s.lgUsed g = true → s.srcGate src = .ok → (s.hie.lgs[g].st = .starting ∨ s.hie.lgs[g].st = .running) → ∃ t, exec (.lgStopCmd g src) s = .next t ∧
      t.hie.lgs[g].st = .stopping ∧ t.hie.lgs[g].stopB = s.lgBoundary g ∧ State.Only [.sys, .hie, .mon] s t) ∧
  (∀ (g : LgId) (s : State), s.isWorker = false → s.hie.lgs[g].st = .starting → ∃ t, exec (.lgStarted g) s = .next t ∧
      t.hie.lgs[g] = { s.hie.lgs[g] with st := .running } ∧ (∀ j, j ≠ g → t.hie.lgs[j] = s.hie.lgs[j]) ∧ t.hie.q10 = s.hie.q10 ∧ State.Only [.sys, .ports, .log, .hie, .mon] s t) ∧
  (∀ (g : LgId) (s : State), s.isWorker = false → s.hie.lgs[g].st = .stopping → s.hie.lgs[g].held = none → ∃ t, exec (.lgStopped g) s = .next t ∧
      t.hie.lgs[g] = { s.hie.lgs[g] with st := .stopped, wait := 0 } ∧ (∀ j, j ≠ g → t.hie.lgs[j] = s.hie.lgs[j]) ∧ (∀ r ∈ t.hie.runs, r.group ≠ g) ∧
      (∀ (e : EntryId) m, t.hie.q10[e].holder ≠ .member g m) ∧ State.Only [.sys, .ports, .log, .hie, .mon] s t) ∧
  (∀ (g : LgId) (m : Fin 32) (r : Running) (e : EntryId) (n : Nat) (s : State), (s.hie.runs.find? fun r => decide (r.group = g) && decide (r.idx = m) && !r.carrier) = some r →
    r.slot = some e.val → s.hie.q10[e].cmd = none → r.next s.now = some n → s.queueCheck (.lockGroup g) r.port true r.value = .ok → ∃ t, exec (.lgMemberPlace g m) s = .next t ∧
      t.hie.q10[e] = { s.hie.q10[e] with cmd := some { port := r.port, on := true, dur := r.value, src := .lockGroup g, at_ := n } } ∧
      (∀ j, j ≠ e → t.hie.q10[j] = s.hie.q10[j]) ∧ State.Only [.sys, .hie, .mon] s t) ∧
  (∀ (g : LgId) (m : Fin 32) (s : State), s.isWorker = false → (s.hie.lgs[g].st = .starting ∨ s.hie.lgs[g].st = .running) → s.hie.lgs[g].wait.getLsbD m.val = true →
    s.workerReady (s.memDev g m) = true → s.hie.q14.length < 64 → ∃ t, exec (.lgMemberJoined g m) s = .next t ∧
      t.hie.lgs[g].wait = s.hie.lgs[g].wait &&& ~~~(BitVec.ofNat 32 (2 ^ m.val)) ∧ t.hie.lgs[g].st = s.hie.lgs[g].st ∧ s.hie.q14.length < t.hie.q14.length ∧ State.Only [.sys, .log, .hie, .mon] s t)

/-- A device queues its HEARTBEAT in Q14. A released worker puts a TIMED_CMD of a future instant into the entry that the manager holds, answers a RESERVE with the lowest free entry, frees one, takes a command member of an LG_DESC with an entry, and stops the members of a group with LG_STOP; while it is not released a TIMED_CMD is answered NOT_READY. RELEASE releases it, ends its orphan state and frees the manager's entries. Without beacons it is orphaned and no longer released. The tables of section ports go out, 20 messages a port, as far as Q14 has room. (R208, R240, R242, R243, R245, R247, R251) -/
def Obligations.ManagersMessagesReachWorkers : Prop :=
  (∀ s : State, s.rcp.applied = true → s.hie.q14.length < 64 → ∃ t, exec .heartbeatSend s = .next t ∧
      t.hie = { s.hie with q14 := s.hie.q14 ++ [{ code := 0x80, dst := 63, body := s.heartbeat, sender := s.sys.addr }] } ∧ State.Only [.sys, .hie] s t) ∧
  (∀ (a : Nat) (b : List Byte) (s : State), s.isWorker = true → s.known a = true → byteAt b 0 = s.sys.addr → s.hie.rel = true → byteAt b 2 ≤ 2 → 1 ≤ byteAt b 2 → s.now < s.rebuild (fieldAt b 8 4) (fieldAt b 12 4) → byteAt b 16 ≠ 0xFF →
    s.hie.q10[(Fin.ofNat 256 (byteAt b 16) : EntryId)].holder = .manager →
    s.queueCheck (.hier (byteAt b 3 == 2) (fieldAt b 4 2) (Fin.ofNat 32 (byteAt b 1) : PortId).val (byteAt b 16) 0) (Fin.ofNat 32 (byteAt b 1)) (byteAt b 2 == 1) (fieldAt b 6 2) = .ok →
    ∃ t, exec (.timedCmd a b) s = .next t ∧
      t.hie.q10[(Fin.ofNat 256 (byteAt b 16) : EntryId)] = { holder := .manager, cmd := some { port := Fin.ofNat 32 (byteAt b 1), on := byteAt b 2 == 1, dur := fieldAt b 6 2, at_ := s.rebuild (fieldAt b 8 4) (fieldAt b 12 4), src := .hier (byteAt b 3 == 2) (fieldAt b 4 2) (Fin.ofNat 32 (byteAt b 1) : PortId).val (byteAt b 16) 0 } } ∧
      (∀ j : EntryId, j ≠ Fin.ofNat 256 (byteAt b 16) → t.hie.q10[j] = s.hie.q10[j]) ∧ t.ports = s.ports ∧ State.Only [.sys, .ports, .sol, .log, .hie, .mon] s t) ∧
  (∀ (a : Nat) (b : List Byte) (s : State), s.isWorker = true → s.known a = true → byteAt b 0 = s.sys.addr → s.hie.rel = false → s.hie.q14.length < 64 → ∃ t, exec (.timedCmd a b) s = .next t ∧
      t.hie.q14 = s.hie.q14 ++ [{ code := 0x82, dst := 0, body := le 1 s.sys.addr ++ le 1 (byteAt b 1) ++ le 1 0xFF ++ le 1 Status.notReady.code ++ stampOf 0, sender := s.sys.addr }] ∧
      t.hie.q10 = s.hie.q10 ∧ t.ports = s.ports ∧ State.Only [.sys, .ports, .sol, .log, .hie, .mon] s t) ∧
  (∀ (a : Nat) (b : List Byte) (e : EntryId) (s : State), s.isWorker = true → s.known a = true → byteAt b 0 = s.sys.addr → s.hie.rel = true → byteAt b 2 = 1 → s.freeEntry 255 = some e → s.hie.q14.length < 64 → ∃ t, exec (.reserve a b) s = .next t ∧
      t.hie.q10[e] = { s.hie.q10[e] with holder := .manager } ∧ (∀ j, j ≠ e → t.hie.q10[j] = s.hie.q10[j]) ∧
      t.hie.q14 = s.hie.q14 ++ [{ code := 0x82, dst := 0, body := le 1 s.sys.addr ++ le 1 0xFF ++ le 1 e.val ++ le 1 0 ++ stampOf 0, sender := s.sys.addr }] ∧ State.Only [.sys, .log, .hie, .mon] s t) ∧
  (∀ (a : Nat) (b : List Byte) (s : State), s.isWorker = true → s.known a = true → byteAt b 0 = s.sys.addr → s.hie.rel = true → byteAt b 2 = 2 → s.hie.q10[(Fin.ofNat 256 (byteAt b 1) : EntryId)].holder = .manager → ∃ t, exec (.reserve a b) s = .next t ∧
      t.hie.q10[(Fin.ofNat 256 (byteAt b 1) : EntryId)] = { s.hie.q10[(Fin.ofNat 256 (byteAt b 1) : EntryId)] with holder := .free } ∧
      (∀ j : EntryId, j ≠ Fin.ofNat 256 (byteAt b 1) → t.hie.q10[j] = s.hie.q10[j]) ∧ State.Only [.sys, .log, .hie, .mon] s t) ∧
  (∀ (a : Nat) (b : List Byte) (e : EntryId) (r : Running) (s : State), s.isWorker = true → s.known a = true → byteAt b 0 = s.sys.addr → s.hie.rel = true → byteAt b 2 = 1 →
    r = runOf (Fin.ofNat 16 (byteAt b 1)) 0 (word (fieldAt b 24 4)) (word (fieldAt b 28 4)) (fieldAt b 4 5) (fieldAt b 12 4 * 256) (s.rebuild (fieldAt b 16 4) (fieldAt b 20 4)) false →
    r.carrier = false → s.admitsMember r = true → s.freeEntry 255 = some e → ∃ t, exec (.lgDesc a b) s = .next t ∧
      t.hie.runs = s.hie.runs ++ [{ r with slot := some e.val }] ∧ t.hie.q10[e] = { s.hie.q10[e] with holder := .member r.group r.idx } ∧ (∀ j, j ≠ e → t.hie.q10[j] = s.hie.q10[j]) ∧
      State.Only [.sys, .ports, .log, .hie, .mon] s t) ∧
  (∀ (a : Nat) (b : List Byte) (s : State), s.isWorker = true → s.known a = true → byteAt b 0 = s.sys.addr → ∃ t, exec (.lgStop a b) s = .next t ∧
      t.hie.runs = s.hie.runs.map (fun r => if r.group = Fin.ofNat 16 (byteAt b 1) then { r with stopB := some (s.rebuild (fieldAt b 4 4) (fieldAt b 8 4)) } else r) ∧
      (∀ (e : EntryId) (m : Fin 32) (c : Timed), s.hie.q10[e].holder = .member (Fin.ofNat 16 (byteAt b 1)) m → s.hie.q10[e].cmd = some c → s.rebuild (fieldAt b 4 4) (fieldAt b 8 4) ≤ c.at_ →
        t.hie.q10[e] = { s.hie.q10[e] with cmd := none }) ∧
      (∀ e : EntryId, (∀ (m : Fin 32) (c : Timed), s.hie.q10[e].holder = .member (Fin.ofNat 16 (byteAt b 1)) m → s.hie.q10[e].cmd = some c → c.at_ < s.rebuild (fieldAt b 4 4) (fieldAt b 8 4)) →
        t.hie.q10[e] = s.hie.q10[e]) ∧ State.Only [.sys, .log, .hie, .mon] s t) ∧
  (∀ s : State, s.hie.q14.length ≤ 64 → ∃ t, exec .delayTabPeriodicSend s = .next t ∧ { t.hie with q14 := s.hie.q14 } = s.hie ∧
      t.hie.q14.length = min 64 (s.hie.q14.length + 20 * ((idx 32).filter s.servesSection).length) ∧ State.Only [.sys, .hie, .mon] s t) ∧
  (∀ (a : Nat) (b : List Byte) (s : State), s.isWorker = true → s.known a = true → byteAt b 0 = s.sys.addr → byteAt b 1 = 1 → ∃ t, exec (.release a b) s = .next t ∧ t.hie.rel = true ∧ t.hie.orphan = false ∧
      (∀ e : EntryId, s.hie.q10[e].holder = .manager → t.hie.q10[e] = {}) ∧ State.Only [.sys, .ports, .sol, .log, .hie, .mon] s t) ∧
  (∀ (n : Nat) (s : State), s.isWorker = true → s.hie.orphan = false → s.rcp.applied = true → s.hie.validAt = some n → ∃ t, exec .managerLost s = .next t ∧
      t.hie.orphan = true ∧ t.hie.rel = false ∧ t.hie.orphAt = s.tick ∧ State.Only [.sys, .ports, .sol, .log, .tmb, .hie, .mon] s t)

/-- A HEARTBEAT of a known worker with this HID sets the worker's quality, orphan state, links, delay and faults; one with another HID is recorded once and changes no worker. CMD_DONE with OK makes the section's planned command the one in force, one with a refusal pauses the section and is counted. DELAY_TAB fills the copy of its band and direction. A silent worker is lost and no longer released. With AUTOREL, or by RELEASE, a releasable worker is released by a RELEASE in Q14; RELEASE of one that is not is answered NOT_READY and changes nothing. (R208, R213, R226, R240, R244, R247) -/
def Obligations.WorkersMessagesReachTheManager : Prop :=
  (∀ (a : Fin 64) (b : List Byte) (s : State), s.isWorker = false → s.known a.val = true → a.val ≠ 0 → fieldAt b 4 4 = s.hid.toNat → ∃ t, exec (.heartbeat a.val b) s = .next t ∧
      t.hie.workers[a] = { s.hie.workers[a] with qual := Qual.ofCode (byteAt b 1 % 8), orphan := (byteAt b 1).testBit 3, heard := some s.tick, upOk := (byteAt b 1).testBit 5, dnOk := (byteAt b 1).testBit 6, delay := if fieldAt b 2 2 = 0xFFFF then none else some (fieldAt b 2 2), faults := fieldAt b 8 4 } ∧
      (∀ j, j ≠ a → t.hie.workers[j] = s.hie.workers[j]) ∧ t.hie.q10 = s.hie.q10 ∧ State.Only [.hie] s t) ∧
  (∀ (a : Nat) (b : List Byte) (s : State), s.known a = true → fieldAt b 4 4 ≠ s.hid.toNat → s.hie.hidExc.contains a = false → ∃ t, exec (.heartbeat a b) s = .next t ∧
      t.hie.hidExc = a :: s.hie.hidExc ∧ t.hie.workers = s.hie.workers ∧ State.Only [.sys, .log, .hie, .mon] s t) ∧
  (∀ (a : Nat) (b : List Byte) (i : SectId) (p : Plan) (s : State), s.isWorker = false → s.known a = true → byteAt b 1 ≠ 0xFF → byteAt b 3 = 0 → s.nsectIds.find? (fun i => s.sctDev i == a && (s.sctPort i).val == byteAt b 1) = some i → s.sct.sects[i].plan = some p → ∃ t, exec (.cmdDone a b) s = .next t ∧
      t.sct.sects[i].cmd = p.on ∧ t.sct.sects[i].refd = false ∧ t.sct.sects[i].tserv = p.serves ∧ (∀ j, j ≠ i → t.sct.sects[j] = s.sct.sects[j]) ∧ State.Only [.sys, .log, .hie, .mon, .sct] s t) ∧
  (∀ (a : Nat) (b : List Byte) (i : SectId) (s : State), s.isWorker = false → s.known a = true → byteAt b 1 ≠ 0xFF → byteAt b 3 ≠ 0 → byteAt b 3 ≠ Status.stale.code → byteAt b 3 ≠ Status.superseded.code → s.nsectIds.find? (fun i => s.sctDev i == a && (s.sctPort i).val == byteAt b 1) = some i → ∃ t, exec (.cmdDone a b) s = .next t ∧
      t.sct.sects[i] = { s.sct.sects[i] with refd := true, paused := true, plan := none } ∧ t.sct.cntRef = satNat 65535 (s.sct.cntRef + 1) ∧
      (∀ j, j ≠ i → t.sct.sects[j] = s.sct.sects[j]) ∧ State.Only [.sys, .log, .hie, .mon, .sct] s t) ∧
  (∀ (a : Nat) (b : List Byte) (i : SectId) (s : State), s.isWorker = false → s.known a = true → s.nsectIds.find? (fun i => s.sctDev i == a && (s.sctPort i).val == byteAt b 1) = some i → ∃ t, exec (.delayTab a b) s = .next t ∧ t.sct.sects[i].band = byteAt b 2 % 16 ∧
      (if (byteAt b 3).testBit 0 then t.sct.sects[i].copyOff else t.sct.sects[i].copyOn)[(Fin.ofNat 10 (byteAt b 2 / 16) : Fin 10)] =
        { learned := (byteAt b 3).testBit 1, mean := (fieldAt b 4 4 : Nat), spread := (fieldAt b 8 2 : Nat), count := byteAt b 10 } ∧
      (if (byteAt b 3).testBit 0 then t.sct.sects[i].copyOn else t.sct.sects[i].copyOff) = (if (byteAt b 3).testBit 0 then s.sct.sects[i].copyOn else s.sct.sects[i].copyOff) ∧
      (∀ j, j ≠ i → t.sct.sects[j] = s.sct.sects[j]) ∧ State.Only [.sys, .log, .hie, .mon, .sct] s t) ∧
  (∀ (a : Fin 64) (s : State), s.isWorker = false → a.val ≠ 0 → s.known a.val = true → s.hie.workers[a].lost = false → ∃ t, exec (.workerLost a) s = .next t ∧
      t.hie.workers[a] = { s.hie.workers[a] with lost := true, lostAt := s.tick, rel := false } ∧ (∀ j, j ≠ a → t.hie.workers[j] = s.hie.workers[j]) ∧ State.Only [.sys, .log, .hie, .mon, .sct] s t) ∧
  (∀ (a : Fin 64) (s : State), s.isWorker = false → s.autoRel = true → s.hie.workers[a].rel = false → s.releasable a = true → s.hie.q14.length < 64 → ∃ t, exec (.workerRelease a) s = .next t ∧
      t.hie.workers[a] = { s.hie.workers[a] with rel := true, lost := false } ∧ (∀ j, j ≠ a → t.hie.workers[j] = s.hie.workers[j]) ∧
      t.hie.q14 = s.hie.q14 ++ [{ code := 0x86, dst := a.val, body := le 1 a.val ++ le 1 1, sender := s.sys.addr }] ∧ t.hie.q10 = s.hie.q10 ∧ State.Only [.sys, .log, .hie, .mon] s t) ∧
  (∀ (a : Fin 64) (k : SessId) (s : State), s.gate k rightCOMMAND = .ok → s.isWorker = false → s.releasable a = true → s.hie.q14.length < 64 → ∃ t, exec (.hieRelease a k) s = .next t ∧
      t.hie.workers[a] = { s.hie.workers[a] with rel := true, lost := false } ∧ (∀ j, j ≠ a → t.hie.workers[j] = s.hie.workers[j]) ∧
      t.hie.q14 = s.hie.q14 ++ [{ code := 0x86, dst := a.val, body := le 1 a.val ++ le 1 1, sender := s.sys.addr }] ∧ t.sys.answers.head? = some ⟨s.me k, .ok⟩ ∧ State.Only [.sys, .log, .hie, .mon] s t) ∧
  (∀ (a : Fin 64) (k : SessId) (s : State), s.gate k rightCOMMAND = .ok → s.releasable a = false → ∃ t, exec (.hieRelease a k) s = .next t ∧
      t.sys = { s.sys with answers := ⟨s.me k, .notReady⟩ :: s.sys.answers } ∧ State.Only [.sys] s t)

/-- A FIRST segment with sequence 0 opens its sender's reassembly on CAN3, and the next segment in order extends it. A DATA frame to this device with SOM opens the reassembly of its link; one with a wrong CRC is counted. A CAN frame whose first matching filter names a buffer is written there and its new-data bit set, an overwritten buffer marked; a frame that no filter matches is counted in NOFLT and stored nowhere; an FD frame on a controller without FDEN is a protocol exception and starts integration. Other controllers stay as they were. (R229, R241, R254, R264, R265) -/
def Obligations.SegmentsDataAndFramesAreReceived : Prop :=
  (∀ (a : Nat) (bs : List Byte) (s : State), s.canLive 3 = true → assoc a s.hie.asm = none → bs.length ≤ 2048 → ∃ t, exec (.can3Segment a (0x80 :: bs)) s = .next t ∧
      t.hie = { s.hie with asm := (a, { bytes := bs, seq := 0, tick := s.tick }) :: s.hie.asm.filter (fun e => e.1 != a) } ∧ State.Only [.hie] s t) ∧
  (∀ (a : Nat) (bs : List Byte) (p : Partial) (s : State), s.canLive 3 = true → assoc a s.hie.asm = some p → s.tick ≤ p.tick + 10 * ticksPerMs → p.seq = 0 → p.bytes.length + bs.length ≤ 2048 →
    ∃ t, exec (.can3Segment a (0x01 :: bs)) s = .next t ∧ t.hie = { s.hie with asm := (a, { bytes := p.bytes ++ bs, seq := 1, tick := s.tick }) :: s.hie.asm.filter (fun e => e.1 != a) } ∧ State.Only [.hie] s t) ∧
  (∀ (d : Side) (pl : List Byte) (s : State), pl.length ≤ 2048 → ∃ t, exec (.data d s.sys.addr true false pl (Frame.data s.sys.addr true false pl).crc) s = .next t ∧
      t.hie = { s.hie with clpAsm := (if d then 1 else 0, pl) :: s.hie.clpAsm.filter (fun e => e.1 != if d then 1 else 0) } ∧ State.Only [.hie] s t) ∧
  (∀ (d : Side) (dst : Nat) (a b : Bool) (pl : List Byte) (c : Nat) (s : State), c ≠ (Frame.data dst a b pl).crc → ∃ t, exec (.data d dst a b pl c) s = .next t ∧
      t.hie = { s.hie with crcErr := satNat 255 (s.hie.crcErr + 1) } ∧ State.Only [.hie] s t) ∧
  (∀ (c : CanId) (x : CanFrame) (sof f : Nat) (b : Fin 64) (s : State), s.canLive c = true → (x.fdf = false ∨ s.canFden c = true) → (List.range 128).find? (fun f => s.fltMatches c f x) = some f →
    bits (s.flt c f 2) 30 2 = 1 → (Fin.ofNat 64 (bits (s.flt c f 2) 0 6) : Fin 64) = b → ∃ t, exec (.canFrameRx c x sof) s = .next t ∧
      t.can[c].nd = s.can[c].nd ||| BitVec.ofNat 64 (2 ^ b.val) ∧ t.can[c].ovw = (if s.can[c].nd.getLsbD b.val then s.can[c].ovw ||| BitVec.ofNat 64 (2 ^ b.val) else s.can[c].ovw) ∧
      t.can[c].bufs = s.can[c].bufs.set b { id := word (canIdWord x), ctl := word (put f 24 7 + flagAt x.fdf 15 + flagAt x.brs 14 + flagAt x.esi 13 + put x.dlc 0 4), tsf := word sof, tss := word (sof / 2 ^ 32), d := if x.rtr then [] else x.data.take (dlcLen x.fdf x.dlc) } ∧
      (∀ d, d ≠ c → t.can[d] = s.can[d]) ∧ State.Only [.sys, .log, .mon, .can, .hl] s t) ∧
  (∀ (c : CanId) (x : CanFrame) (sof : Nat) (s : State), s.canLive c = true → (x.fdf = false ∨ s.canFden c = true) → (List.range 128).find? (fun f => s.fltMatches c f x) = none → ∃ t, exec (.canFrameRx c x sof) s = .next t ∧
      t.can[c].eNo = satNat 255 (s.can[c].eNo + 1) ∧ t.can[c].nd = s.can[c].nd ∧ t.can[c].bufs = s.can[c].bufs ∧ (∀ d, d ≠ c → t.can[d] = s.can[d]) ∧ State.Only [.sys, .log, .mon, .can, .hl] s t) ∧
  (∀ (c : CanId) (x : CanFrame) (sof : Nat) (s : State), s.canLive c = true → x.fdf = true → s.canFden c = false → ∃ t, exec (.canFrameRx c x sof) s = .next t ∧
      t.can[c] = { s.can[c] with ePxe := satNat 255 (s.can[c].ePxe + 1), st := .integrating } ∧ (∀ d, d ≠ c → t.can[d] = s.can[d]) ∧ State.Only [.can] s t)

/-- HWM_RST sets the mark of its queue to the present fill and OVF_CLR clears its overflow count, the other queues as they were. A MODE_REQUEST of another mode that ALLOWED and the ceilings permit begins a switch and is answered OK; with the supply warning in force it is NOT_READY, during a switch BUSY, and a mode that is not allowed LIMIT, and none of these changes the mode. Pipeline B comes up on the way into SEAR. At the edge the requested mode becomes the current one and the switch ends. (R26, R28, R32, R33, R34) -/
def Obligations.QueueMarksAndModesAreSet : Prop :=
  (∀ (q : Fin 16) (k : SessId) (s : State), s.gate k rightPARAM = .ok → ∃ t, exec (.hwmRst q k) s = .next t ∧ t.sys.qstat[q] = { s.sys.qstat[q] with hwm := s.qFill q } ∧
      (∀ r, r ≠ q → t.sys.qstat[r] = s.sys.qstat[r]) ∧ t.sys.answers = ⟨s.me k, .ok⟩ :: s.sys.answers ∧ State.Only [.sys] s t) ∧
  (∀ (q : Fin 16) (k : SessId) (s : State), s.gate k rightPARAM = .ok → ∃ t, exec (.ovfClr q k) s = .next t ∧ t.sys.qstat[q] = { s.sys.qstat[q] with ovf := 0 } ∧
      (∀ r, r ≠ q → t.sys.qstat[r] = s.sys.qstat[r]) ∧ t.sys.answers = ⟨s.me k, .ok⟩ :: s.sys.answers ∧ State.Only [.sys] s t) ∧
  (∀ (v : Word) (m : Mode) (k : SessId) (s : State), s.gate k rightCOMMAND = .ok → Mode.ofCode (bits v 0 2) = some m → m ≠ s.sys.request → s.pwr.warning = false → s.sys.switching = false →
    s.allowsMode m = true → s.ceilingsOk m = true → ∃ t, exec (.modeRequest v k) s = .next t ∧
      t.sys = { s.sys with request := m, switching := true, reqAt := s.tick, reqBy := some k, answers := ⟨s.me k, .ok⟩ :: s.sys.answers } ∧ State.Only [.sys] s t) ∧
  (∀ (v : Word) (m : Mode) (k : SessId) (s : State), s.gate k rightCOMMAND = .ok → Mode.ofCode (bits v 0 2) = some m → m ≠ s.sys.request → s.pwr.warning = true → ∃ t, exec (.modeRequest v k) s = .next t ∧
      t.sys = { s.sys with answers := ⟨s.me k, .notReady⟩ :: s.sys.answers } ∧ State.Only [.sys] s t) ∧
  (∀ (v : Word) (m : Mode) (k : SessId) (s : State), s.gate k rightCOMMAND = .ok → Mode.ofCode (bits v 0 2) = some m → m ≠ s.sys.request → s.pwr.warning = false → s.sys.switching = true → ∃ t, exec (.modeRequest v k) s = .next t ∧
      t.sys = { s.sys with answers := ⟨s.me k, .busy⟩ :: s.sys.answers } ∧ State.Only [.sys] s t) ∧
  (∀ (v : Word) (m : Mode) (k : SessId) (s : State), s.gate k rightCOMMAND = .ok → Mode.ofCode (bits v 0 2) = some m → m ≠ s.sys.request → s.pwr.warning = false → s.sys.switching = false → s.allowsMode m = false →
    ∃ t, exec (.modeRequest v k) s = .next t ∧ t.sys = { s.sys with answers := ⟨s.me k, .limit⟩ :: s.sys.answers } ∧ State.Only [.sys] s t) ∧
  (∀ s : State, s.sys.switching = true → s.sys.request = .sear → ∃ t, exec .pipelineBUp s = .next t ∧ t.sys = { s.sys with pipeB := true } ∧ State.Only [.sys] s t) ∧
  (∀ s : State, s.sys.switching = true → (s.sys.request = .sear → s.sys.pipeB = true) → ∃ t, exec .modeSwitchEdge s = .next t ∧ t.sys.current = s.sys.request ∧ t.sys.switching = false ∧
      t.sys.request = s.sys.request ∧ State.Only [.sys, .log, .mon] s t)

/-- On a device that is not orphaned, where the rules as they now stand ask no other forced value of a port, an input change sets the active rules and nothing else. A flag that this device originates takes its source and goes onto a down-link in use. An orphan RAMP port's duty moves towards RAMPV by RAMPR, that of another port not. A timed command leaves its entry of Q10; where checks 2 and 4 pass it switches an output port and its group, else no port changes. (R19, R20, R22, R237, R246, R286, R481) -/
def Obligations.RulesFlagsAndTimedCommandsAct : Prop :=
  (∀ s : State, s.hie.orphan = false → (∀ p : PortId, s.ports[p].forced = s.matrix.forcedAt p) → ∃ t, exec .interlockInputChange s = .next t ∧
      t.sys = { s.sys with active := (List.range 256).filter s.ruleTrue } ∧ State.Only [.sys] s t) ∧
  (∀ (k : FlagId) (s : State), s.xfUsed k = true → s.xfOrig k = s.sys.addr → ∃ t, exec (.flagSend k) s = .next t ∧
      t.hie.flags[k] = { s.hie.flags[k] with val := s.boolSrc (bits (s.xfWord k) 0 11) } ∧ (∀ j, j ≠ k → t.hie.flags[j] = s.hie.flags[j]) ∧
      (s.linkUsed true = true → s.hie.dn.failed = false → t.hie.sent.head? = some (true, .flag s.sys.addr k.val (s.boolSrc (bits (s.xfWord k) 0 11)))) ∧ State.Only [.hie] s t) ∧
  (∀ s : State, s.hie.orphan = true → ∃ t, exec .orphanRampStep s = .next t ∧
      (∀ p : PortId, t.hie.orph[p] = if s.hie.orph[p].acts && s.orphAct p == 3 then { s.hie.orph[p] with duty := if s.hie.orph[p].duty ≤ s.rampV p then min (s.rampV p) (s.hie.orph[p].duty + s.rampR p) else max (s.rampV p) (s.hie.orph[p].duty - s.rampR p) } else s.hie.orph[p]) ∧
      t.hie.q10 = s.hie.q10 ∧ State.Only [.sys, .ports, .sol, .log, .hie, .mon] s t) ∧
  (∀ (i : EntryId) (c : Timed) (s : State), s.hie.q10[i].cmd = some c → c.on = true → s.recheckOn c.port = .ok → isOutFunc (s.func c.port) = true → ∃ t, exec (.timedCommandExecute i) s = .next t ∧
      (∀ q, q ∈ s.members c.port → t.ports[q].outOn = true ∧ t.ports[q].durEnd = (if c.dur = 0 then none else some (s.tick + 1 + c.dur * 120000))) ∧
      (∀ q, q ∉ s.members c.port → t.ports[q] = s.ports[q]) ∧ t.hie.q10[i] = { s.hie.q10[i] with cmd := none } ∧ (∀ j, j ≠ i → t.hie.q10[j] = s.hie.q10[j]) ∧ State.Only [.sys, .ports, .sol, .log, .hie, .mon, .sct] s t) ∧
  (∀ (i : EntryId) (c : Timed) (s : State), s.hie.q10[i].cmd = some c → (if c.on then s.recheckOn c.port else s.recheckOff c.port) ≠ .ok → ∃ t, exec (.timedCommandExecute i) s = .next t ∧
      t.ports = s.ports ∧ t.hie.q10[i] = { s.hie.q10[i] with cmd := none } ∧ (∀ j, j ≠ i → t.hie.q10[j] = s.hie.q10[j]) ∧ State.Only [.sys, .ports, .sol, .log, .hie, .mon, .sct] s t)

/-- A TCXO count in range moves TCXOOK only after another of its side. A missing AON edge clears AONOK and the RTC's validity. XCLR zeroes the crossing counters, a fallback counts one snapshot. In a low-power state a wake source latches kind WAKE and begins the start, or waits for VLOGIC; the alarm sets the RTC to it; CAN0 wakes only in SLEEP with its bit. A read of PWR_RTCL latches PWR_RTCH. PWR_CFG keeps its upper four bits. STANDBY and SLEEP are LIMIT where not permitted, NOT_READY where not quiet, and else leave every port passive, no session, an empty memory. (R321, R411, R415, R418, R432, R433, R435, R443, R444, R445, R446) -/
def Obligations.ClocksLowPowerStatesAndWakes : Prop :=
  (∀ (n : Nat) (s : State), ∃ t, exec (.tcxoCount n) s = .next t ∧ t.pwr.lastIn = (decide (23976000 ≤ n) && decide (n ≤ 24024000)) ∧
      t.pwr.tcxoOk = (if (decide (23976000 ≤ n) && decide (n ≤ 24024000)) = s.pwr.lastIn then s.pwr.lastIn else s.pwr.tcxoOk) ∧ t.pwr.aonOk = true ∧ t.pwr.tcxo = n % 2 ^ 25 ∧ State.Only [.pwr] s t) ∧
  (∀ s : State, ∃ t, exec .aonEdgeMissing s = .next t ∧ t.pwr = { s.pwr with aonOk := false } ∧ t.tmb = { s.tmb with rtcValid := false } ∧ State.Only [.pwr, .tmb] s t) ∧
  (∀ (k : SessId) (s : State), s.gate k rightPARAM = .ok → ∃ t, exec (.xclr k) s = .next t ∧
      t.pwr = { s.pwr with snap := Vector.replicate 13 0, ovr := Vector.replicate 13 0, csat := Vector.replicate 13 0 } ∧
      t.sys = { s.sys with answers := ⟨s.me k, .ok⟩ :: s.sys.answers } ∧ State.Only [.sys, .pwr] s t) ∧
  (∀ (p : Fin 13) (s : State), ∃ t, exec (.snapshotFallback p) s = .next t ∧ t.pwr.snap[p] = satNat 65535 (s.pwr.snap[p] + 1) ∧ (∀ q : Fin 13, q ≠ p → t.pwr.snap[q] = s.pwr.snap[q]) ∧ t.pwr.ovr = s.pwr.ovr ∧ State.Only [.pwr] s t) ∧
  (∀ s : State, s.lowPower = true → ∃ t, exec (.wakePin true) s = .next t ∧
      t.pwr = { s.pwr with phase := .off, latched := some (.wake, s.pwr.wakePend.getD 1, 0), wakePend := none } ∧ State.Only [.pwr] s t) ∧
  (∀ s : State, s.lowPower = true → ∃ t, exec (.wakePin false) s = .next t ∧ t.pwr = { s.pwr with wakePend := some (s.pwr.wakePend.getD 1) } ∧ State.Only [.pwr] s t) ∧
  (∀ (h : Bool) (s : State), s.lowPower = false → ∃ t, exec (.wakePin h) s = .next t ∧ t = s) ∧
  (∀ s : State, s.lowPower = true → s.tmb.rtcValid = true → s.pwr.alarm ≠ 0 → ∃ t, exec (.rtcAlarm true) s = .next t ∧ t.tmb.rtc % 2 ^ 32 = s.pwr.alarm.toNat ∧ t.tmb.rtcValid = true ∧
      t.pwr = { s.pwr with phase := .off, latched := some (.wake, s.pwr.wakePend.getD 2, 0), wakePend := none } ∧ State.Only [.pwr, .tmb] s t) ∧
  (∀ s : State, s.pwr.phase = .sleep → s.pwr.canWake = true → s.pwr.detectorOff = false → ∃ t, exec (.canWake true) s = .next t ∧
      t.pwr = { s.pwr with phase := .off, latched := some (.wake, s.pwr.wakePend.getD 3, 0), wakePend := none } ∧ State.Only [.pwr] s t) ∧
  (∀ (h : Bool) (s : State), (s.pwr.canWake = false ∨ s.pwr.phase = .standby) → ∃ t, exec (.canWake h) s = .next t ∧ t = s) ∧
  (∀ s : State, s.lowPower = true → bit s.pwr.cfg 29 = true → ∃ t, exec .logicWake s = .next t ∧
      t.pwr = { s.pwr with phase := .off, latched := some (.wake, s.pwr.wakePend.getD 4, 0), wakePend := none } ∧ State.Only [.pwr] s t) ∧
  (∀ s : State, s.pwr.phase = .sleep → ∃ t, exec .wakeDetectorResume s = .next t ∧ t.pwr = { s.pwr with detectorOff := false } ∧ State.Only [.pwr] s t) ∧
  (∀ (k : SessId) (s : State), s.gate k rightREAD = .ok → ∃ t, exec (.pwrRtclRead k) s = .next t ∧ t.sys = { s.sys with readData := word (s.tmb.rtc % 2 ^ 32), answers := ⟨s.me k, .ok⟩ :: s.sys.answers } ∧
      t.pwr = { s.pwr with rtcHigh := word (flagAt s.tmb.rtcValid 31 + put (s.tmb.rtc / 2 ^ 32) 0 16) } ∧ State.Only [.sys, .pwr] s t) ∧
  (∀ (v : Word) (k : SessId) (s : State), s.gateRws k rightSERVICE = .ok → ∃ t, exec (.pwrCfgWrite v k) s = .next t ∧ t.pwr = { s.pwr with cfg := v &&& 0xF0000000, cfgSaved := v &&& 0xF0000000 } ∧
      t.sys = { s.sys with answers := ⟨s.me k, .ok⟩ :: s.sys.answers } ∧ State.Only [.sys, .pwr] s t) ∧
  (∀ (k : SessId) (s : State), s.gate k rightPARAM = .ok → bit s.pwr.cfg 31 = true → s.quiet = true → ∃ t, exec (.standby k) s = .next t ∧ t.pwr.phase = .standby ∧ t.pwr.canWake = false ∧
      t.ports = State.reset.ports ∧ t.sec.sessions = State.reset.sec.sessions ∧ t.fan.trip = false ∧ t.rcp.applied = false ∧ t.mem = [] ∧ t.pending = s.pending) ∧
  (∀ (k : SessId) (s : State), s.gate k rightPARAM = .ok → bit s.pwr.cfg 30 = true → s.quiet = true → ∃ t, exec (.sleep k) s = .next t ∧ t.pwr.phase = .sleep ∧
      t.ports = State.reset.ports ∧ t.sec.sessions = State.reset.sec.sessions ∧ t.fan.trip = false ∧ t.rcp.applied = false ∧ t.mem = [] ∧ t.pending = s.pending) ∧
  (∀ (k : SessId) (s : State), s.gate k rightPARAM = .ok → bit s.pwr.cfg 31 = false → ∃ t, exec (.standby k) s = .next t ∧ t.sys = { s.sys with answers := ⟨s.me k, .limit⟩ :: s.sys.answers } ∧ State.Only [.sys] s t) ∧
  (∀ (k : SessId) (s : State), s.gate k rightPARAM = .ok → bit s.pwr.cfg 30 = true → s.quiet = false → ∃ t, exec (.sleep k) s = .next t ∧
      t.sys = { s.sys with answers := ⟨s.me k, .notReady⟩ :: s.sys.answers } ∧ State.Only [.sys] s t)

/-- A warning begins with its instant and VLOGIC; a second one lowers only the least VLOGIC. Its orderly power-down saves time model and position once. Its end gives the dip, and no release remains where no ON waits; a release with nothing waiting ends, a deferred ON that is too late is dropped with its bit, another goes on with its bit. A bank fault holds its bank, if it was not held, and keeps its instant under its cause; a cause that stands does not begin again. The end of a cause releases the bank if no other stands. A loss of power-good in D1 to D7 resets the device, one in D8 to D11 holds its bank. A domain reset marks its sources invalid and makes a bank's inputs stale. (R422, R424, R429, R431, R432, R436, R437, R439, R440, R441, R442) -/
def Obligations.SupplyWarningsBanksAndDomains : Prop :=
  (∀ (mv : Nat) (s : State), s.pwr.warning = false → s.pwr.releasing = false → ∃ t, exec (.supplyWarning mv) s = .next t ∧
      t.pwr = { s.pwr with warning := true, warnAt := s.tick, minV := mv, vlogic := mv, orderly := false } ∧ State.Only [.sys, .ports, .sol, .log, .pwr, .hie, .mon] s t) ∧
  (∀ (mv : Nat) (s : State), s.pwr.warning = true → ∃ t, exec (.supplyWarning mv) s = .next t ∧ t.pwr = { s.pwr with vlogic := mv, minV := min s.pwr.minV mv } ∧ State.Only [.pwr] s t) ∧
  (∀ s : State, s.pwr.warning = true → s.pwr.orderly = false → ∃ t, exec .orderlyPowerDown s = .next t ∧ t.pwr = { s.pwr with orderly := true } ∧ t.tmb.savedModel = s.tmb.model ∧
      t.gns.savedPos = s.gns.pos ∧ t.log.opsSaved = s.log.ops ∧ State.Only [.sol, .log, .pwr, .tmb, .gns, .fan] s t) ∧
  (∀ s : State, (s.pwr.warning = false ∨ s.pwr.orderly = true) → ∃ t, exec .orderlyPowerDown s = .next t ∧ t = s) ∧
  (∀ (v : Nat) (s : State), s.pwr.warning = true → ∃ t, exec (.supplyWarningEnd v) s = .next t ∧ t.pwr.warning = false ∧ t.pwr.dipMin = min s.pwr.minV v ∧ t.pwr.dipOrd = s.pwr.orderly ∧
      t.pwr.dipMs = satNat 65535 (ticksUs (s.tick - s.pwr.warnAt) / 1000) ∧ (t.pwr.releasing = true → t.supplyHead.isSome = true) ∧ State.Only [.sys, .ports, .sol, .log, .pwr, .hie, .mon] s t) ∧
  (∀ s : State, s.pwr.warning = false → s.pwr.releasing = true → s.supplyHead = none → ∃ t, exec .deferredOnRelease s = .next t ∧ t.pwr = { s.pwr with releasing := false } ∧ State.Only [.sys, .log, .pwr, .mon] s t) ∧
  (∀ (p : PortId) (d : Pend) (s : State), s.pwr.warning = false → s.pwr.releasing = true → s.supplyHead = some p → s.sol.ports[p].pend = some d → d.src ≠ .forced → d.forced = false →
    (s.lateMax = 0 ∨ s.lateMax < s.tick - d.since) → ∃ t, exec .deferredOnRelease s = .next t ∧ t.pwr.drop = s.pwr.drop ||| BitVec.ofNat 32 (2 ^ p.val) ∧ t.pwr.late = s.pwr.late ∧ t.pwr.dropped = s.pwr.dropped + 1 ∧
      State.Only [.sys, .ports, .sol, .log, .pwr, .hie, .mon, .sct] s t) ∧
  (∀ (p : PortId) (d : Pend) (s : State), s.pwr.warning = false → s.pwr.releasing = true → s.supplyHead = some p → s.sol.ports[p].pend = some d → (d.src = .forced ∨ d.forced = true ∨ (s.lateMax ≠ 0 ∧ s.tick - d.since ≤ s.lateMax)) →
    ∃ t, exec .deferredOnRelease s = .next t ∧ t.pwr.late = s.pwr.late ||| BitVec.ofNat 32 (2 ^ p.val) ∧ t.pwr.drop = s.pwr.drop ∧ t.pwr.issued = s.pwr.issued + 1 ∧
      State.Only [.sys, .ports, .sol, .log, .pwr, .hie, .mon, .sct] s t) ∧
  (∀ (b : BankId) (o : Bool) (mv : Nat) (s : State), s.pwr.bankf[b].since[(if o then 1 else 0 : Fin 3)] = none → ∃ t, exec (.bankSupplyFault b o mv) s = .next t ∧
      t.banks[b] = (if s.banks[b].held then s.banks[b] else { load := 0, excursion := false, tripped := false, held := true }) ∧
      (∀ c, c ≠ b → t.banks[c] = s.banks[c]) ∧ t.pwr.bankf[b] = s.pwr.bankf[b].put (if o then 1 else 0) (some s.tick) ∧ State.Only [.sys, .ports, .banks, .sol, .log, .pwr, .hie, .mon] s t) ∧
  (∀ (b : BankId) (o : Bool) (mv : Nat) (s : State), s.pwr.bankf[b].since[(if o then 1 else 0 : Fin 3)].isSome = true → ∃ t, exec (.bankSupplyFault b o mv) s = .next t ∧ t = s) ∧
  (∀ (b : BankId) (c : Fin 3) (mv : Nat) (s : State), s.pwr.bankf[b].since[c].isSome = true → ∃ t, exec (.bankSupplyOk b c mv) s = .next t ∧
      t.banks[b] = { s.banks[b] with held := !(s.pwr.bankf[b].put c none).clear } ∧
      (∀ d, d ≠ b → t.banks[d] = s.banks[d]) ∧ t.pwr.bankf[b] = s.pwr.bankf[b].put c none ∧ State.Only [.sys, .ports, .banks, .sol, .log, .pwr, .hie, .mon] s t) ∧
  (∀ (b : BankId) (c : Fin 3) (mv : Nat) (s : State), s.pwr.bankf[b].since[c] = none → ∃ t, exec (.bankSupplyOk b c mv) s = .next t ∧ t = s) ∧
  (∀ (d : Fin 12) (mv : Nat) (s : State), 1 ≤ d.val → d.val < 8 → s.pwr.phase = .run → ∃ t, exec (.domainPowerFail d mv) s = .next t ∧ t.pwr.phase = .off ∧ t.pwr.latched = some (.domain, 0, d.val) ∧
      t.pwr.dom = satNat 255 (s.pwr.dom + 1) ∧ t.ports = State.reset.ports ∧ t.sec.sessions = State.reset.sec.sessions ∧ t.mem = [] ∧ t.rcp.applied = false ∧ t.pending = s.pending) ∧
  (∀ (d : Fin 12) (mv : Nat) (s : State), 8 ≤ d.val → s.pwr.bankf[(Fin.ofNat 4 (d.val - 8) : BankId)].since[(2 : Fin 3)] = none → ∃ t, exec (.domainPowerFail d mv) s = .next t ∧
      t.banks[(Fin.ofNat 4 (d.val - 8) : BankId)].held = true ∧
      t.pwr.bankf[(Fin.ofNat 4 (d.val - 8) : BankId)] = s.pwr.bankf[(Fin.ofNat 4 (d.val - 8) : BankId)].put 2 (some s.tick) ∧ State.Only [.sys, .ports, .banks, .sol, .log, .pwr, .hie, .mon] s t) ∧
  (∀ (d : Fin 12) (s : State), d.val < 8 → ∃ t, exec (.domainReset d) s = .next t ∧ t.pwr = { s.pwr with invalid := s.pwr.invalid ||| BitVec.ofNat 12 (2 ^ d.val) } ∧ State.Only [.pwr] s t) ∧
  (∀ (d : Fin 12) (s : State), 8 ≤ d.val → ∃ t, exec (.domainReset d) s = .next t ∧ t.pwr = { s.pwr with invalid := s.pwr.invalid ||| BitVec.ofNat 12 (2 ^ d.val) } ∧
      (∀ p, p ∈ bankPorts (Fin.ofNat 4 (d.val - 8)) → t.ports[p] = { s.ports[p] with srcLost := true, stale := true, edges := [] }) ∧
      (∀ p, p ∉ bankPorts (Fin.ofNat 4 (d.val - 8)) → t.ports[p] = s.ports[p]) ∧ State.Only [.ports, .pwr] s t)

/-- A WRITE outside a running operation, to a slot not in force, of a readable staged image marks its slot WRITING where the image verifies, else keeps its error and every slot; busy and in-force slots are refused. Its end makes the slot VALID or INVALID. DISCARD begins and ends with the other slot EMPTY. RELOAD of a VALID other slot that verifies with the right parent, a greater RVER, changes only in its map and rates under the ceilings waits for the sequencers; others are refused. The commit enters APPLY, the end puts the other slot in force, an abort leaves the Recipe in force. (R291, R292, R294, R295, R436) -/
def Obligations.RecipeCommandsAndReloadsAct : Prop :=
  (∀ (x : RcpSlot) (k : SessId) (b : List Byte) (s : State), s.rcpGate k true = .ok → s.rcp.op = .none → (s.rcp.chosen = false ∨ x ≠ s.rcp.inForce) → s.staged k = some b → ∃ t, exec (.write x k) s = .next t ∧
      (match s.verify b with
        | .ok _ => t.rcp.op = .write ∧ t.rcp.target = x ∧ t.rcp.image = b ∧ t.rcp.waiter = some (s.me k) ∧ t.slotOf x = { status := .writing } ∧ t.slotOf x.other = s.slotOf x.other ∧ t.sys = s.sys
        | .error e => t.rcp = { s.rcp with errc := e.1, sect := e.2 } ∧ t.sys = { s.sys with answers := ⟨s.me k, (if e.1 = 7 ∨ e.1 = 8 then .denied else .limit)⟩ :: s.sys.answers }) ∧ State.Only [.sys, .rcp] s t) ∧
  (∀ (x : RcpSlot) (k : SessId) (s : State), s.rcpGate k true = .ok → s.rcp.op ≠ .none → ∃ t, exec (.write x k) s = .next t ∧ t.sys = { s.sys with answers := ⟨s.me k, .busy⟩ :: s.sys.answers } ∧ State.Only [.sys] s t) ∧
  (∀ (x : RcpSlot) (k : SessId) (s : State), s.rcpGate k true = .ok → s.rcp.op = .none → s.rcp.chosen = true → x = s.rcp.inForce → ∃ t, exec (.write x k) s = .next t ∧ t.sys = { s.sys with answers := ⟨s.me k, .recipeLocked⟩ :: s.sys.answers } ∧ State.Only [.sys] s t) ∧
  (∀ s : State, s.rcp.op = .write → ∃ t, exec (.recipeWritten none) s = .next t ∧ t.rcp.op = .none ∧ t.rcp.waiter = none ∧
      t.slotOf s.rcp.target = { bytes := s.rcp.image, status := .valid, rver := (parseHead s.rcp.image).rver, rid := (parseHead s.rcp.image).rid, digest := (parseHead s.rcp.image).digest } ∧
      t.slotOf s.rcp.target.other = s.slotOf s.rcp.target.other ∧ State.Only [.sys, .log, .rcp, .hie, .mon] s t) ∧
  (∀ (e : Nat × Nat) (s : State), s.rcp.op = .write → ∃ t, exec (.recipeWritten (some e)) s = .next t ∧ t.rcp.op = .none ∧ t.rcp.errc = e.1 ∧ t.rcp.sect = e.2 ∧ (t.slotOf s.rcp.target).status = .invalid ∧
      t.slotOf s.rcp.target.other = s.slotOf s.rcp.target.other ∧ State.Only [.sys, .log, .rcp, .hie, .mon] s t) ∧
  (∀ (k : SessId) (s : State), s.rcpGate k true = .ok → s.rcp.op = .none → ∃ t, exec (.discard k) s = .next t ∧ t.rcp = { s.rcp with op := .discard, target := s.rcp.inForce.other, waiter := some (s.me k) } ∧ State.Only [.rcp] s t) ∧
  (∀ (k : SessId) (s : State), s.rcpGate k true = .ok → s.rcp.op ≠ .none → ∃ t, exec (.discard k) s = .next t ∧ t.sys = { s.sys with answers := ⟨s.me k, .busy⟩ :: s.sys.answers } ∧ State.Only [.sys] s t) ∧
  (∀ s : State, s.rcp.op = .discard → ∃ t, exec .slotErased s = .next t ∧ t.rcp.op = .none ∧ t.slotOf s.rcp.target = {} ∧ t.slotOf s.rcp.target.other = s.slotOf s.rcp.target.other ∧ State.Only [.sys, .rcp, .hie, .mon] s t) ∧
  (∀ (k : SessId) (s : State), s.rcpGate k true = .ok → s.rcp.op = .none → s.sys.switching = false → s.rcp.applied = true → (s.slotOf s.rcp.inForce.other).status = .valid → ∃ t, exec (.reload k) s = .next t ∧
      (match s.verify (s.slotOf s.rcp.inForce.other).bytes with
        | .error e => t.rcp = { s.rcp with errc := e.1, sect := e.2 } ∧ t.sys.answers = ⟨s.me k, .notReady⟩ :: s.sys.answers
        | .ok (h, rs) => if h.parent = s.rcp.head.digest ∧ s.rcp.head.rver < h.rver ∧ onlyMapped (s.slotOf s.rcp.inForce).bytes (s.slotOf s.rcp.inForce.other).bytes h s.rcp.recs rs = true ∧
              (s.gnssOn = true → h.mapSlots / 2 ^ 64 = 0) ∧ (s.asReloaded h rs).ceilingsOk s.sys.current = true then
            t.rcp = { s.rcp with op := .reload, phase := .wait, newHead := h, newRecs := rs, rldBanks := h.mapBanks, rldSeqs := h.mapSeqs, rldSlots := (List.range 128).filter fun n => (h.mapSlots / 2 ^ n) % 2 = 1 } ∧
              (∀ q : SeqId, t.seq.seqs[q] = { s.seq.seqs[q] with mark := decide ((h.mapSeqs / 2 ^ q.val) % 2 = 1) }) ∧ t.sys.answers = ⟨s.me k, .ok⟩ :: s.sys.answers
          else t.rcp = s.rcp ∧ t.seq = s.seq ∧ t.sys.answers = ⟨s.me k, .limit⟩ :: s.sys.answers) ∧ State.Only [.sys, .log, .rcp, .mon, .seq] s t) ∧
  (∀ (k : SessId) (s : State), s.rcpGate k true = .ok → (s.rcp.op ≠ .none ∨ s.sys.switching = true) → ∃ t, exec (.reload k) s = .next t ∧ t.sys = { s.sys with answers := ⟨s.me k, .busy⟩ :: s.sys.answers } ∧ State.Only [.sys] s t) ∧
  (∀ (k : SessId) (s : State), s.rcpGate k true = .ok → s.rcp.op = .none → s.sys.switching = false → (s.rcp.applied = false ∨ (s.slotOf s.rcp.inForce.other).status ≠ .valid) → ∃ t, exec (.reload k) s = .next t ∧
      t.sys = { s.sys with answers := ⟨s.me k, .notReady⟩ :: s.sys.answers } ∧ State.Only [.sys] s t) ∧
  (∀ s : State, s.rcp.phase = .wait → s.seqsHeld = true → ∃ t, exec .reloadCommit s = .next t ∧ t.rcp.phase = .apply ∧ t.rcp.commitAt = s.tick ∧ t.rcp.inForce = s.rcp.inForce ∧ t.rcp.op = s.rcp.op ∧ t.rcp.newHead = s.rcp.newHead ∧
      State.Only [.sys, .ports, .banks, .sol, .log, .rcp, .hie, .mon, .fan, .eng, .sct] s t) ∧
  (∀ s : State, (s.rcp.phase ≠ .wait ∨ s.seqsHeld = false) → ∃ t, exec .reloadCommit s = .next t ∧ t = s) ∧
  (∀ s : State, s.rcp.phase = .apply → s.rcp.rldBanks = 0 → s.rcp.rldSlots = [] → ∃ t, exec .reloadDone s = .next t ∧ t.rcp.inForce = s.rcp.inForce.other ∧ t.rcp.head = s.rcp.newHead ∧ t.rcp.recs = s.rcp.newRecs ∧ t.rcp.op = .none ∧ t.rcp.phase = .idle ∧
      (t.slotOf s.rcp.inForce).status = .valid ∧ (t.slotOf s.rcp.inForce.other).status = .inForce ∧ State.Only [.sys, .log, .rcp, .mon, .seq] s t) ∧
  (∀ s : State, s.rcp.phase = .wait → ∃ t, exec .reloadAborted s = .next t ∧ t.rcp = { s.rcp with op := .none, phase := .idle, newHead := {}, newRecs := [], rldBanks := 0, rldSlots := [], rldSeqs := 0 } ∧
      State.Only [.sys, .log, .rcp, .mon, .seq] s t)

/-- A loss of the PLL, a lockstep mismatch, a watchdog, a brownout and RCP_CMD RESTART reset the running device: D0 latches the kind and detail, its counter counts, the ports are passive, PILOT is low, sessions, SRAM and the Recipe are gone and keys and the Reel stay; not running, nothing (in SLEEP a brownout stops the CAN wake detector). RESTART is answered OK, a session without the right is refused. D0 without supply loses what it holds. START does nothing while running; it shows kind, source and detail, counts CYCLE, reads the straps, and stops at row 3 (ROM), 4 (no image verifies at the floor), 5 (factory page), else goes on to the Recipe, and PILOT toggles only with a Recipe applied. (R14, R225, R292, R305, R411, R427, R432, R433, R434, R443, R484) -/
def Obligations.ResetsAndTheStart : Prop :=
  (∀ s : State, s.pwr.phase = .run → ∃ t, exec .pllLoss s = .next t ∧ t.pwr.dom = satNat 255 (s.pwr.dom + 1) ∧ t.pwr.phase = .off ∧ t.pwr.latched = some (.pllLoss, 0, 0) ∧ t.pwr.pilot = false ∧ t.ports = State.reset.ports ∧ t.sec.sessions = State.reset.sec.sessions ∧ t.rcp.applied = false ∧ t.mem = [] ∧ t.sec.slots = s.sec.slots ∧ t.log.reel = s.log.reel ∧ t.pending = s.pending) ∧
  (∀ (p : Nat) (s : State), s.pwr.phase = .run → ∃ t, exec (.lockstepMismatch p) s = .next t ∧ t.pwr.lock = satNat 255 (s.pwr.lock + 1) ∧ t.pwr.phase = .off ∧ t.pwr.latched = some (.lockstep, 0, p % 16) ∧ t.pwr.pilot = false ∧ t.ports = State.reset.ports ∧ t.sec.sessions = State.reset.sec.sessions ∧ t.rcp.applied = false ∧ t.mem = [] ∧ t.sec.slots = s.sec.slots ∧ t.log.reel = s.log.reel ∧ t.pending = s.pending) ∧
  (∀ (p : Nat) (s : State), s.pwr.phase = .run → ∃ t, exec (.watchdog p) s = .next t ∧ t.pwr.wdog = satNat 255 (s.pwr.wdog + 1) ∧ t.pwr.phase = .off ∧ t.pwr.latched = some (.watchdog, 0, p % 16) ∧ t.pwr.pilot = false ∧ t.ports = State.reset.ports ∧ t.sec.sessions = State.reset.sec.sessions ∧ t.rcp.applied = false ∧ t.mem = [] ∧ t.sec.slots = s.sec.slots ∧ t.log.reel = s.log.reel ∧ t.pending = s.pending) ∧
  (∀ s : State, s.pwr.phase = .run → ∃ t, exec .brownout s = .next t ∧ t.pwr.brown = satNat 255 (s.pwr.brown + 1) ∧ t.pwr.comparator = false ∧ t.fan.trip = false ∧ t.pwr.phase = .off ∧ t.pwr.latched = some (.brownout, 0, 0) ∧ t.pwr.pilot = false ∧ t.ports = State.reset.ports ∧ t.sec.sessions = State.reset.sec.sessions ∧ t.rcp.applied = false ∧ t.mem = [] ∧ t.sec.slots = s.sec.slots ∧ t.log.reel = s.log.reel ∧ t.pending = s.pending) ∧
  (∀ (p : Nat) (s : State), s.pwr.phase ≠ .run → ∃ t1 t2 t3, exec .pllLoss s = .next t1 ∧ exec (.lockstepMismatch p) s = .next t2 ∧ exec (.watchdog p) s = .next t3 ∧ t1 = s ∧ t2 = s ∧ t3 = s) ∧
  (∀ s : State, s.pwr.phase = .sleep → ∃ t, exec .brownout s = .next t ∧ t.pwr = { s.pwr with detectorOff := true } ∧ State.Only [.pwr] s t) ∧
  (∀ (k : SessId) (s : State), s.rcpGate k false = .ok → ∃ t, exec (.recipeRestart k) s = .next t ∧ t.sys.answers = ⟨s.me k, .ok⟩ :: s.sys.answers ∧ t.pwr.phase = .off ∧ t.pwr.latched = some (.commanded, 0, 0) ∧ t.pwr.pilot = false ∧ t.ports = State.reset.ports ∧ t.sec.sessions = State.reset.sec.sessions ∧ t.rcp.applied = false ∧ t.mem = [] ∧ t.sec.slots = s.sec.slots ∧ t.log.reel = s.log.reel ∧ t.pending = s.pending) ∧
  (∀ (k : SessId) (s : State), s.rcpGate k false ≠ .ok → ∃ t, exec (.recipeRestart k) s = .next t ∧ t = s.answer (s.me k) (s.rcpGate k false) ∧ State.Only [.sys, .hie, .mon] s t) ∧
  (∀ s : State, ∃ t, exec .d0SupplyLost s = .next t ∧ t.tmb = { s.tmb with rtcValid := false, rtc := 0 } ∧ t.sec = { s.sec with tamper := false, tcount := 0, tampPend := none, rerooted := false } ∧
      t.pwr.phase = (if s.pwr.phase = .run then .run else .off) ∧ t.pwr.latched = none ∧ t.pwr.d0Lost = true ∧ t.pwr.alarm = 0 ∧ t.pwr.kind = 0 ∧ t.pwr.brown = 0 ∧ t.pwr.lock = 0 ∧ t.pwr.wdog = 0 ∧ t.pwr.dom = 0 ∧
      State.Only [.sec, .pwr, .tmb] s t) ∧
  (∀ (a : Nat) (r : Bool) (pg : Nat) (h : Int) (n : Nat) (w : List Nat) (s : State), s.pwr.phase = .run → ∃ t, exec (.start a r pg h n w) s = .next t ∧ t = s) ∧
  (∀ (a : Nat) (r : Bool) (pg : Nat) (h : Int) (n : Nat) (w : List Nat) (s : State), s.pwr.phase = .off → ∃ t, exec (.start a r pg h n w) s = .next t ∧ t.pwr.phase = .run ∧ (s.pwr.d0Lost = true → t.pwr.kind = 1 ∧ t.pwr.prev = 0) ∧
      (∀ (k : ResetKind) (v d : Nat), s.pwr.d0Lost = false → s.pwr.wakePend = none → s.pwr.latched = some (k, v, d) → t.pwr.kind = k.code ∧ t.pwr.wsrc = v ∧ t.pwr.detail = d ∧ t.pwr.prev = s.pwr.kind) ∧
      t.pwr.latched = none ∧ t.pwr.d0Lost = false ∧ State.Only [.sys, .ports, .sol, .log, .rcp, .sec, .pwr, .tmb, .gns, .hie, .mon, .cal, .fan, .eng, .sct, .can, .hl, .apu, .dma, .seq] s t) ∧
  (∀ (a : Nat) (r : Bool) (pg : Nat) (h : Int) (n : Nat) (w : List Nat) (s : State), s.pwr.phase = .off → r = false → ∃ t, exec (.start a r pg h n w) s = .next t ∧ t.pwr.stoppedAt = 3 ∧ t.pwr.runtime = s.pwr.runtime ∧ t.pwr.pilot = s.pwr.pilot ∧ t.log.cycle = satNat 0xFFFFFF (s.log.cycle + 1) ∧
      t.sys.addr = a % 64 ∧ t.sys.housing = h ∧ State.Only [.sys, .log, .sec, .pwr, .mon] s t) ∧
  (∀ (a : Nat) (r : Bool) (pg : Nat) (h : Int) (n : Nat) (w : List Nat) (s : State), s.pwr.phase = .off → r = true → s.sec.tampPend = none → s.pwr.runtime = false → (∀ i : Fin 2, ¬ (s.sec.images[i].ok = true ∧ s.sec.rbFloor ≤ s.sec.images[i].version)) → ∃ t, exec (.start a r pg h n w) s = .next t ∧ t.pwr.stoppedAt = 4 ∧ t.pwr.runtime = false ∧
      t.pwr.pilot = s.pwr.pilot ∧ State.Only [.sys, .log, .sec, .pwr, .mon] s t) ∧
  (∀ (c : Nat) (a : Nat) (r : Bool) (pg : Nat) (h : Int) (n : Nat) (w : List Nat) (s : State), s.pwr.phase = .off → r = true → s.sec.tampPend = some c → ∃ t, exec (.start a r pg h n w) s = .next t ∧ t.sec.root = none ∧ t.sec.oldEpoch = none ∧ t.sec.rotation = none ∧ t.sec.tampPend = none ∧ State.Only [.sys, .ports, .sol, .log, .rcp, .sec, .pwr, .tmb, .gns, .hie, .mon, .cal, .fan, .eng, .sct, .can, .hl, .apu, .dma, .seq] s t) ∧
  (∀ (i : Fin 2) (a : Nat) (r : Bool) (pg : Nat) (h : Int) (n : Nat) (w : List Nat) (s : State), s.pwr.phase = .off → r = true → s.sec.tampPend = none → (s.sec.images[i].ok = true ∧ s.sec.rbFloor ≤ s.sec.images[i].version) → pg ≠ 0 → ∃ t, exec (.start a r pg h n w) s = .next t ∧ t.pwr.stoppedAt = 5 ∧ t.pwr.runtime = true ∧
      t.pwr.pilot = s.pwr.pilot ∧ State.Only [.sys, .log, .sec, .pwr, .mon] s t) ∧
  (∀ (i : Fin 2) (a : Nat) (r : Bool) (pg : Nat) (h : Int) (n : Nat) (w : List Nat) (s : State), s.pwr.phase = .off → r = true → s.sec.tampPend = none → (s.sec.images[i].ok = true ∧ s.sec.rbFloor ≤ s.sec.images[i].version) → pg = 0 → s.pwr.pilot = false → ∃ t, exec (.start a r pg h n w) s = .next t ∧ t.cal = { s.cal with factOk := true } ∧
      t.pwr.runtime = true ∧ (t.pwr.pilot = true → t.rcp.applied = true) ∧ (t.pwr.pilot = true ↔ t.pwr.stoppedAt = 0) ∧ (t.pwr.pilot = false → t.pwr.stoppedAt = 6 ∨ t.pwr.stoppedAt = 7) ∧ State.Only [.sys, .ports, .sol, .log, .rcp, .sec, .pwr, .tmb, .gns, .hie, .mon, .cal, .fan, .eng, .sct, .can, .hl, .apu, .dma, .seq] s t)

/-- A HELLO of the wrong length is malformed. One that fails a check of R313 leaves every session, and the first failing check gives REJECT. One that passes takes the lowest free number for a handshake with the fields of its HCERT. A FINISH that does not open counts AFAIL and drops the handshake; one whose CTR is not 0 or whose signature fails drops it; a right one opens the session with its effective rights, ends an older one with its SERIAL and KSLOT, raises the time floor. A handshake that times out is dropped. CLOSE, the lifetime, the idle limit and SEC_CMD CLOSE free the number, wipe its keys and remove its aperture entries; on a number not open they do nothing, but SEC_CMD CLOSE answers AUTH_FAIL. (R311, R312, R313, R314, R315) -/
def Obligations.SessionsOpenAndEnd : Prop :=
  (∀ (p : Peer) (b : List Byte) (s : State), s.linked = true → b.length ≠ 336 → ∃ t, exec (.hello p b) s = .next t ∧ t.sec = { s.sec with malf := satNat 255 (s.sec.malf + 1) } ∧ State.Only [.sec] s t) ∧
  (∀ (p : Peer) (b : List Byte) (s : State), s.linked = true → b.length = 336 → ∃ t, exec (.hello p b) s = .next t ∧
      (match s.helloChecks { bytes := (b.drop 80).take 256 } with
        | some (_, _) => t.sec = s.sec
        | none => ∃ k : SessId, s.sec.sessions[k].st = .free ∧ (∀ j : SessId, j < k → s.sec.sessions[j].st ≠ .free) ∧ (∀ j : SessId, j ≠ k → t.sec.sessions[j] = s.sec.sessions[j]) ∧
            t.sec.sessions[k].st = .handshake ∧ t.sec.sessions[k].peer = p ∧ t.sec.sessions[k].kslot = Cert.num { bytes := (b.drop 80).take 256 } 5 1 ∧ t.sec.sessions[k].serial = Cert.num { bytes := (b.drop 80).take 256 } 8 8 ∧
            t.sec.sessions[k].lifetime = Cert.num { bytes := (b.drop 80).take 256 } 52 2 ∧ t.sec.sessions[k].idle = Cert.num { bytes := (b.drop 80).take 256 } 54 2 ∧ t.sec.sessions[k].hs.claim = s.isClaim { bytes := (b.drop 80).take 256 } ∧ t.sec.slots = s.sec.slots) ∧ State.Only [.sys, .log, .sec, .mon, .can, .hl] s t) ∧
  (∀ (p : Peer) (b : List Byte) (s : State), s.linked = false → ∃ t, exec (.hello p b) s = .next t ∧ t = s) ∧
  (∀ (k : SessId) (f : List Byte) (s : State), s.sec.sessions[k].st = .handshake → f.length = 12 + ofLe ((f.drop 10).take 2) + peerTag s.sec.sessions[k].peer → ∃ t, exec (.finish k f) s = .next t ∧
      (match Config.gcmOpen s.sec.sessions[k].keyTo (nonce s.sec.sessions[k].saltTo (ofLe (((f.take 12).drop 4).take 6))) (f.take 12) ((f.drop 12).take (ofLe ((f.drop 10).take 2))) ((f.drop 12).drop (ofLe ((f.drop 10).take 2))) with
        | none => t.sec = { s.sec with afail := satNat 65535 (s.sec.afail + 1), sessions := upd s.sec.sessions k fun _ => {} }
        | some body => if ofLe (((f.take 12).drop 4).take 6) = 0 ∧ Config.ecdsaVerify s.sec.sessions[k].hs.hostKey (Config.sha256 (s.sec.sessions[k].hs.th ++ s.sec.sessions[k].hs.sig)) body = true then
              t.sec.sessions[k].st = (if s.sec.sessions[k].hs.claim then .claim else .opened) ∧ t.sec.sessions[k].rights = rightsOf s.sec.sessions[k] ∧ t.sec.sessions[k].h = some 0 ∧ t.sec.sessions[k].accepted = 1 ∧ t.sec.sessions[k].keyTo = s.sec.sessions[k].keyTo ∧
                t.sec.floor = max s.sec.floor s.sec.sessions[k].hs.notBefore ∧ t.sec.opens = s.sec.opens + 1 ∧
                (∀ j : SessId, j ≠ k → s.sec.sessions[j].isOpen = true → s.sec.sessions[j].serial = s.sec.sessions[k].serial → s.sec.sessions[j].kslot = s.sec.sessions[k].kslot → t.sec.sessions[j] = {}) ∧
                (∀ j : SessId, j ≠ k → ¬ (s.sec.sessions[j].isOpen = true ∧ s.sec.sessions[j].serial = s.sec.sessions[k].serial ∧ s.sec.sessions[j].kslot = s.sec.sessions[k].kslot) → t.sec.sessions[j] = s.sec.sessions[j])
            else t.sec = { s.sec with sessions := upd s.sec.sessions k fun _ => {} }) ∧ State.Only [.sys, .log, .sec, .mon, .can, .hl, .apu, .dma] s t) ∧
  (∀ (k : SessId) (f : List Byte) (s : State), ¬ (s.sec.sessions[k].st = .handshake ∧ f.length = 12 + ofLe ((f.drop 10).take 2) + peerTag s.sec.sessions[k].peer) → ∃ t, exec (.finish k f) s = .next t ∧ t.sec = { s.sec with malf := satNat 255 (s.sec.malf + 1) } ∧ State.Only [.sec] s t) ∧
  (∀ (k : SessId) (s : State), s.sec.sessions[k].st = .handshake → ∃ t, exec (.handshakeTimeout k) s = .next t ∧ t.sec = { s.sec with sessions := upd s.sec.sessions k fun _ => {} } ∧ State.Only [.sys, .log, .sec, .mon, .can, .hl] s t) ∧
  (∀ (k : SessId) (s : State), s.sec.sessions[k].st ≠ .handshake → ∃ t, exec (.handshakeTimeout k) s = .next t ∧ t = s) ∧
  (∀ (k : SessId) (s : State), s.sec.sessions[k].isOpen = true → ∃ t, exec (.close k) s = .next t ∧ t.sec = { s.sec with sessions := upd s.sec.sessions k fun _ => {} } ∧ (∀ (i : EntId) (e : ApuEntry), t.apu.ents[i] = some e → e.ctx ≠ k.val) ∧ State.Only [.sys, .log, .sec, .mon, .can, .hl, .apu, .dma] s t) ∧
  (∀ (k : SessId) (s : State), s.sec.sessions[k].isOpen = true → ∃ t, exec (.sessionLifetimeEnd k) s = .next t ∧ t.sec = { s.sec with sessions := upd s.sec.sessions k fun _ => {} } ∧ (∀ (i : EntId) (e : ApuEntry), t.apu.ents[i] = some e → e.ctx ≠ k.val) ∧ State.Only [.sys, .log, .sec, .mon, .can, .hl, .apu, .dma] s t) ∧
  (∀ (k : SessId) (s : State), s.sec.sessions[k].isOpen = true → ∃ t, exec (.sessionIdleEnd k) s = .next t ∧ t.sec = { s.sec with sessions := upd s.sec.sessions k fun _ => {} } ∧ (∀ (i : EntId) (e : ApuEntry), t.apu.ents[i] = some e → e.ctx ≠ k.val) ∧ State.Only [.sys, .log, .sec, .mon, .can, .hl, .apu, .dma] s t) ∧
  (∀ (k : SessId) (s : State), s.sec.sessions[k].isOpen = true → ∃ t, exec (.secClose k) s = .next t ∧ t.sec = { s.sec with sessions := upd s.sec.sessions k fun _ => {} } ∧ (∀ (i : EntId) (e : ApuEntry), t.apu.ents[i] = some e → e.ctx ≠ k.val) ∧ t.sys.answers.head? = some ⟨s.me k, .ok⟩ ∧ State.Only [.sys, .log, .sec, .hie, .mon, .can, .hl, .apu, .dma] s t) ∧
  (∀ (k : SessId) (s : State), s.sec.sessions[k].isOpen = false → ∃ t1 t2 t3, exec (.close k) s = .next t1 ∧ exec (.sessionLifetimeEnd k) s = .next t2 ∧ exec (.sessionIdleEnd k) s = .next t3 ∧ t1 = s ∧ t2 = s ∧ t3 = s) ∧
  (∀ (k : SessId) (s : State), s.sec.sessions[k].isOpen = false → ∃ t, exec (.secClose k) s = .next t ∧ t.sys = { s.sys with answers := ⟨s.me k, .authFail⟩ :: s.sys.answers } ∧ State.Only [.sys] s t)

/-- FUSE enables an EMPTY slot with the hash of SEC_KEYIN and is LIMIT on any other; in a claim session it ends that session. REVOKE marks an ENABLED slot REVOKED where another stays enabled, ends every session under it and marks a Recipe of the other slot INVALID; LIMIT, DENIED and RECIPE_LOCKED otherwise. HKEY_INSTALL sets root and epoch. ROTATE on the manager, or the manager when due, announces the next epoch once; LIMIT on a worker. A worker takes the manager's KEY_ROTATE; activation moves to the new epoch; KEY_STALE is recorded once; the counter floor rises near it. RT_WRITE fills the image not running, else LIMIT or BAD_ADDR. A missing right is DENIED and clears SEC_KEYIN. The rollback floor rises only. (R304, R305, R314, R316, R317, R318, R319) -/
def Obligations.KeyCommandsAct : Prop :=
  (∀ (i : Fin 4) (k : SessId) (s : State), s.gate k rightKEYS = .ok → s.sec.slots[i].st = .empty → s.sec.sessions[k].st ≠ .claim → ∃ t, exec (.fuse i k) s = .next t ∧
      t.sec = { s.sec with slots := upd s.sec.slots i fun _ => { st := .enabled, hash := s.keyin k 8 }, sessions := upd s.sec.sessions k fun x => { x with keyin := Vector.replicate 9 0 } } ∧ t.sys.answers.head? = some ⟨s.me k, .ok⟩ ∧ State.Only [.sys, .log, .sec, .mon] s t) ∧
  (∀ (i : Fin 4) (k : SessId) (s : State), s.gate k rightKEYS = .ok → s.sec.slots[i].st = .empty → s.sec.sessions[k].st = .claim → ∃ t, exec (.fuse i k) s = .next t ∧
      t.sec = { s.sec with slots := upd s.sec.slots i fun _ => { st := .enabled, hash := s.keyin k 8 }, sessions := upd s.sec.sessions k fun _ => {} } ∧ t.sys.answers.head? = some ⟨s.me k, .ok⟩ ∧ State.Only [.sys, .log, .sec, .mon, .can, .hl, .apu, .dma] s t) ∧
  (∀ (i : Fin 4) (k : SessId) (s : State), s.gate k rightKEYS = .ok → s.sec.slots[i].st ≠ .empty → ∃ t, exec (.fuse i k) s = .next t ∧ t.sec = { s.sec with sessions := upd s.sec.sessions k fun x => { x with keyin := Vector.replicate 9 0 } } ∧ t.sys = { s.sys with answers := ⟨s.me k, .limit⟩ :: s.sys.answers } ∧ State.Only [.sys, .sec] s t) ∧
  (∀ (i : Fin 4) (k : SessId) (s : State), s.gate k rightKEYS = .ok → s.sec.slots[i].st = .enabled → (∃ j : Fin 4, j ≠ i ∧ s.sec.slots[j].st = .enabled) → s.sec.sessions[k].kslot ≠ i.val → ¬ (s.rcp.applied = true ∧ recipeKslot (s.slotOf s.rcp.inForce).bytes = i.val) → ∃ t, exec (.revoke i k) s = .next t ∧
      t.sec.slots = (upd s.sec.slots i fun x => { x with st := .revoked }) ∧ t.sys.answers.head? = some ⟨s.me k, .ok⟩ ∧
      (∀ j : SessId, s.sec.sessions[j].isOpen = true → s.sec.sessions[j].kslot = i.val → t.sec.sessions[j] = {}) ∧
      (∀ j : SessId, j ≠ k → ¬ (s.sec.sessions[j].isOpen = true ∧ s.sec.sessions[j].kslot = i.val) → t.sec.sessions[j] = s.sec.sessions[j]) ∧
      ((s.slotOf s.rcp.inForce.other).status = .valid → recipeKslot (s.slotOf s.rcp.inForce.other).bytes = i.val → (t.slotOf s.rcp.inForce.other).status = .invalid ∧ (t.slotOf s.rcp.inForce.other).errc = 7) ∧
      t.slotOf s.rcp.inForce = s.slotOf s.rcp.inForce ∧ State.Only [.sys, .log, .rcp, .sec, .mon, .can, .hl, .apu, .dma] s t) ∧
  (∀ (i : Fin 4) (k : SessId) (s : State), s.gate k rightKEYS = .ok → (s.sec.slots[i].st ≠ .enabled ∨ ¬ (∃ j : Fin 4, j ≠ i ∧ s.sec.slots[j].st = .enabled)) → ∃ t, exec (.revoke i k) s = .next t ∧ t.sec = { s.sec with sessions := upd s.sec.sessions k fun x => { x with keyin := Vector.replicate 9 0 } } ∧ t.sys = { s.sys with answers := ⟨s.me k, .limit⟩ :: s.sys.answers } ∧ State.Only [.sys, .sec] s t) ∧
  (∀ (i : Fin 4) (k : SessId) (s : State), s.gate k rightKEYS = .ok → s.sec.slots[i].st = .enabled → (∃ j : Fin 4, j ≠ i ∧ s.sec.slots[j].st = .enabled) → s.sec.sessions[k].kslot = i.val → ∃ t, exec (.revoke i k) s = .next t ∧ t.sec = { s.sec with sessions := upd s.sec.sessions k fun x => { x with keyin := Vector.replicate 9 0 } } ∧ t.sys = { s.sys with answers := ⟨s.me k, .denied⟩ :: s.sys.answers } ∧ State.Only [.sys, .sec] s t) ∧
  (∀ (i : Fin 4) (k : SessId) (s : State), s.gate k rightKEYS = .ok → s.sec.slots[i].st = .enabled → (∃ j : Fin 4, j ≠ i ∧ s.sec.slots[j].st = .enabled) → s.sec.sessions[k].kslot ≠ i.val → s.rcp.applied = true → recipeKslot (s.slotOf s.rcp.inForce).bytes = i.val → ∃ t, exec (.revoke i k) s = .next t ∧ t.sec = { s.sec with sessions := upd s.sec.sessions k fun x => { x with keyin := Vector.replicate 9 0 } } ∧ t.sys = { s.sys with answers := ⟨s.me k, .recipeLocked⟩ :: s.sys.answers } ∧ State.Only [.sys, .sec] s t) ∧
  (∀ (k : SessId) (s : State), s.gate k rightKEYS = .ok → ∃ t, exec (.hkeyInstall k) s = .next t ∧ t.sec = { s.sec with root := some (s.keyin k 8), epoch := (s.sec.sessions[k].keyin[8]).toNat, oldEpoch := none, rotation := none, rerooted := true, staleAt := none, staleRec := false, sessions := upd s.sec.sessions k fun x => { x with keyin := Vector.replicate 9 0 } } ∧ t.sys.answers.head? = some ⟨s.me k, .ok⟩ ∧ State.Only [.sys, .log, .sec, .mon] s t) ∧
  (∀ (k : SessId) (s : State), s.gate k rightKEYS = .ok → s.isWorker = false → ∃ t, exec (.rotate k) s = .next t ∧ t.sys.answers = ⟨s.me k, .ok⟩ :: s.sys.answers ∧
      t.sec = (match s.sec.rotation with | some _ => { s.sec with sessions := upd s.sec.sessions k fun x => { x with keyin := Vector.replicate 9 0 } } | none => { s.sec with rotation := some (s.sec.epoch + 1, s.secs + 4), announce := 3, sessions := upd s.sec.sessions k fun x => { x with keyin := Vector.replicate 9 0 } }) ∧ State.Only [.sys, .sec] s t) ∧
  (∀ (k : SessId) (s : State), s.gate k rightKEYS = .ok → s.isWorker = true → ∃ t, exec (.rotate k) s = .next t ∧ t.sec = { s.sec with sessions := upd s.sec.sessions k fun x => { x with keyin := Vector.replicate 9 0 } } ∧ t.sys = { s.sys with answers := ⟨s.me k, .limit⟩ :: s.sys.answers } ∧ State.Only [.sys, .sec] s t) ∧
  (∀ (r : List Byte) (s : State), s.isWorker = false → s.sec.root = some r → s.sec.rotation = none → ∃ t, exec .epochRotationDue s = .next t ∧ t.sec = { s.sec with rotation := some (s.sec.epoch + 1, s.secs + 4), announce := 3 } ∧ State.Only [.sec] s t) ∧
  (∀ s : State, (s.isWorker = true ∨ s.sec.root = none ∨ s.sec.rotation.isSome = true) → ∃ t, exec .epochRotationDue s = .next t ∧ t = s) ∧
  (∀ (b : List Byte) (s : State), s.known 0 = true → s.isWorker = true → ∃ t, exec (.keyRotate 0 b) s = .next t ∧ t.sec = { s.sec with rotation := some (fieldAt b 4 4, s.rebuild 0 (fieldAt b 8 4) / 2 ^ 32) } ∧ State.Only [.sec, .hie] s t) ∧
  (∀ (n : Nat) (b : List Byte) (s : State), (n ≠ 0 ∨ s.known 0 = false ∨ s.isWorker = false) → ∃ t, exec (.keyRotate n b) s = .next t ∧ t.sec = s.sec ∧ State.Only [.sys, .log, .hie, .mon] s t) ∧
  (∀ (e n : Nat) (s : State), s.sec.rotation = some (e, n) → ∃ t, exec .epochActivation s = .next t ∧ t.sec = { s.sec with oldEpoch := some (s.sec.epoch, n + 2), epoch := e, rotation := none, rotOps := s.log.ops } ∧ State.Only [.sys, .log, .sec, .mon] s t) ∧
  (∀ s : State, s.sec.rotation = none → ∃ t, exec .epochActivation s = .next t ∧ t = s) ∧
  (∀ (x : Nat × Nat × Nat) (s : State), s.sec.staleAt = some x → s.sec.staleRec = false → ∃ t, exec .keyStale s = .next t ∧ t.sec = { s.sec with staleRec := true } ∧ State.Only [.sys, .log, .sec, .mon] s t) ∧
  (∀ s : State, (s.sec.staleAt = none ∨ s.sec.staleRec = true) → ∃ t, exec .keyStale s = .next t ∧ t = s) ∧
  (∀ s : State, ∃ t, exec .counterFloorWrite s = .next t ∧ t.sec = { s.sec with hfloor := if s.sec.hfloor ≤ s.sec.hctr + 2 ^ 23 then s.sec.hfloor + 2 ^ 24 else s.sec.hfloor } ∧ State.Only [.sec] s t) ∧
  (∀ (i : Fin 2) (k : SessId) (b : List Byte) (s : State), s.gateRt k = .ok → ¬ (s.pwr.runtime = true ∧ i = s.sec.running) → s.sec.arg0.toNat % 16 = 0 → s.sessRead k s.sec.arg0.toNat s.sec.arg1.toNat = some b → ∃ t, exec (.rtWrite i k) s = .next t ∧
      t.sec = { s.sec with images := upd s.sec.images i fun _ => { version := (Config.runtimeImage b).getD 0, bytes := b, ok := (Config.runtimeImage b).isSome }, sessions := upd s.sec.sessions k fun x => { x with keyin := Vector.replicate 9 0 } } ∧ t.sys.answers.head? = some ⟨s.me k, .ok⟩ ∧ State.Only [.sys, .log, .sec, .mon] s t) ∧
  (∀ (i : Fin 2) (k : SessId) (s : State), s.gateRt k = .ok → s.pwr.runtime = true → i = s.sec.running → ∃ t, exec (.rtWrite i k) s = .next t ∧ t.sec = { s.sec with sessions := upd s.sec.sessions k fun x => { x with keyin := Vector.replicate 9 0 } } ∧ t.sys = { s.sys with answers := ⟨s.me k, .limit⟩ :: s.sys.answers } ∧ State.Only [.sys, .sec] s t) ∧
  (∀ (i : Fin 2) (k : SessId) (s : State), s.gateRt k = .ok → ¬ (s.pwr.runtime = true ∧ i = s.sec.running) → (s.sec.arg0.toNat % 16 ≠ 0 ∨ s.sessRead k s.sec.arg0.toNat s.sec.arg1.toNat = none) → ∃ t, exec (.rtWrite i k) s = .next t ∧ t.sec = { s.sec with sessions := upd s.sec.sessions k fun x => { x with keyin := Vector.replicate 9 0 } } ∧ t.sys = { s.sys with answers := ⟨s.me k, .badAddr⟩ :: s.sys.answers } ∧ State.Only [.sys, .sec] s t) ∧
  (∀ (c : Instr) (i : Fin 4) (k : SessId) (s : State), (c = .fuse i k ∨ c = .revoke i k ∨ c = .hkeyInstall k ∨ c = .rotate k) → s.gate k rightKEYS = .denied → ∃ t, exec c s = .next t ∧ t.sec = { s.sec with sessions := upd s.sec.sessions k fun x => { x with keyin := Vector.replicate 9 0 } } ∧ t.sys = { s.sys with answers := ⟨s.me k, .denied⟩ :: s.sys.answers } ∧ State.Only [.sys, .sec] s t) ∧
  (∀ s : State, s.pwr.runtime = true → ∃ t, exec .rollbackFloorRaise s = .next t ∧ t.sec = { s.sec with rbFloor := max s.sec.rbFloor s.sec.images[s.sec.running].version } ∧ State.Only [.sec] s t)

/-- ATTEST writes the 256-byte report with its signature at ARG1, BAD_ADDR where the aperture does not hold it. DBG_CHALLENGE gives the device ID and 16 random bytes. DBG_UNLOCK consumes the challenge; where every check passes, debug is UNLOCKED with SCOPE and DURATION, counted, and every session ends; the first failing check gives its status; an unreadable response is BAD_ADDR. DBG_LOCK and the end of the duration lock it; a challenge expires. TAMPER_ACK is NOT_READY until a root has been installed since. A detection latches TAMPER and counts; while the device runs it ends every session and takes the root, otherwise its effects wait; D0 without supply sees none. A missing right is DENIED and clears SEC_KEYIN. (R320, R321, R322) -/
def Obligations.AttestDebugAndTamperAct : Prop :=
  (∀ (k : SessId) (s : State), s.gate k rightATTEST = .ok → s.sec.arg1.toNat % 16 = 0 → s.mayWrite k s.sec.arg1.toNat 256 = true → ∃ t, exec (.attest k) s = .next t ∧
      t.mem = s.mem.writeN s.sec.arg1.toNat (s.report (s.keyin k 4) ++ fit 64 (Config.deviceSign (Config.sha256 (s.report (s.keyin k 4))))) ∧ t.sec = { s.sec with sessions := upd s.sec.sessions k fun x => { x with keyin := Vector.replicate 9 0 } } ∧ t.sys = { s.sys with answers := ⟨s.me k, .ok⟩ :: s.sys.answers } ∧ State.Only [.sys, .sec, .mem] s t) ∧
  (∀ (k : SessId) (s : State), s.gate k rightATTEST = .ok → (s.sec.arg1.toNat % 16 ≠ 0 ∨ s.mayWrite k s.sec.arg1.toNat 256 = false) → ∃ t, exec (.attest k) s = .next t ∧ t.sec = { s.sec with sessions := upd s.sec.sessions k fun x => { x with keyin := Vector.replicate 9 0 } } ∧ t.sys = { s.sys with answers := ⟨s.me k, .badAddr⟩ :: s.sys.answers } ∧ State.Only [.sys, .sec] s t) ∧
  (∀ (k : SessId) (s : State), s.gate k rightDEBUG = .ok → ∃ t, exec (.dbgChallenge k) s = .next t ∧
      t.sec = { s.sec with challenge := deviceId.take 16 ++ Config.random s.sys.draws 16, dbg := if s.sec.dbg = .unlocked then .unlocked else .challenge, sessions := upd s.sec.sessions k fun x => { x with keyin := Vector.replicate 9 0 } } ∧
      t.sys = { s.sys with draws := s.sys.draws + 1, answers := ⟨s.me k, .ok⟩ :: s.sys.answers } ∧ State.Only [.sys, .sec] s t) ∧
  (∀ (k : SessId) (s : State), s.gate k rightDEBUG = .ok → s.sessRead k s.sec.arg0.toNat 168 = none → ∃ t, exec (.dbgUnlock k) s = .next t ∧ t.sec = { s.sec with sessions := upd s.sec.sessions k fun x => { x with keyin := Vector.replicate 9 0 } } ∧ t.sys = { s.sys with answers := ⟨s.me k, .badAddr⟩ :: s.sys.answers } ∧ State.Only [.sys, .sec] s t) ∧
  (∀ (k : SessId) (r : List Byte) (s : State), s.gate k rightDEBUG = .ok → s.sessRead k s.sec.arg0.toNat 168 = some r → ∃ t, exec (.dbgUnlock k) s = .next t ∧
      (if firstFail [(!s.sec.challenge.isEmpty, .notReady), (s.keyEnabled (ofLe ((r.drop 32).take 1)) ((r.drop 40).take 64), .denied), (r.take 32 == s.sec.challenge && Config.ecdsaVerify ((r.drop 40).take 64) (Config.sha256 (r.take 104)) (r.drop 104), .authFail), ((ofLe ((r.drop 33).take 1) == 1 || ofLe ((r.drop 33).take 1) == 2) && decide (1 ≤ ofLe ((r.drop 36).take 4)) && decide (ofLe ((r.drop 36).take 4) ≤ 1440), .limit)] = .ok then t.sec.dbg = .unlocked ∧ t.sec.scope = ofLe ((r.drop 33).take 1) ∧ t.sec.duration = ofLe ((r.drop 36).take 4) ∧ t.sec.dbgAt = s.tick ∧ t.sec.unlocks = s.sec.unlocks + 1 ∧ t.sec.challenge = [] ∧ (∀ j : SessId, t.sec.sessions[j] = if s.sec.sessions[j].isOpen = true then {} else s.sec.sessions[j]) ∧ t.sys.answers.head? = some ⟨s.me k, .ok⟩
        else t.sec = { s.sec with challenge := [], dbg := if s.sec.dbg = .challenge then .locked else s.sec.dbg, sessions := upd s.sec.sessions k fun x => { x with keyin := Vector.replicate 9 0 } } ∧ t.sys = { s.sys with answers := ⟨s.me k, firstFail [(!s.sec.challenge.isEmpty, .notReady), (s.keyEnabled (ofLe ((r.drop 32).take 1)) ((r.drop 40).take 64), .denied), (r.take 32 == s.sec.challenge && Config.ecdsaVerify ((r.drop 40).take 64) (Config.sha256 (r.take 104)) (r.drop 104), .authFail), ((ofLe ((r.drop 33).take 1) == 1 || ofLe ((r.drop 33).take 1) == 2) && decide (1 ≤ ofLe ((r.drop 36).take 4)) && decide (ofLe ((r.drop 36).take 4) ≤ 1440), .limit)]⟩ :: s.sys.answers }) ∧ State.Only [.sys, .log, .sec, .mon, .can, .hl, .apu, .dma] s t) ∧
  (∀ (k : SessId) (s : State), s.gate k rightDEBUG = .ok → s.sec.dbg = .unlocked → ∃ t, exec (.dbgLock k) s = .next t ∧ t.sec = { s.sec with dbg := if s.sec.challenge.isEmpty then .locked else .challenge, scope := 0, duration := 0, sessions := upd s.sec.sessions k fun x => { x with keyin := Vector.replicate 9 0 } } ∧ t.sys.answers.head? = some ⟨s.me k, .ok⟩ ∧ State.Only [.sys, .log, .sec, .mon] s t) ∧
  (∀ (k : SessId) (s : State), s.gate k rightDEBUG = .ok → s.sec.dbg ≠ .unlocked → ∃ t, exec (.dbgLock k) s = .next t ∧ t.sec = { s.sec with sessions := upd s.sec.sessions k fun x => { x with keyin := Vector.replicate 9 0 } } ∧ t.sys = { s.sys with answers := ⟨s.me k, .ok⟩ :: s.sys.answers } ∧ State.Only [.sys, .sec] s t) ∧
  (∀ s : State, s.sec.dbg = .unlocked → ∃ t, exec .debugDurationEnd s = .next t ∧ t.sec = { s.sec with dbg := if s.sec.challenge.isEmpty then .locked else .challenge, scope := 0, duration := 0 } ∧ State.Only [.sys, .log, .sec, .mon] s t) ∧
  (∀ s : State, s.sec.dbg ≠ .unlocked → ∃ t, exec .debugDurationEnd s = .next t ∧ t = s) ∧
  (∀ s : State, ∃ t, exec .challengeExpiry s = .next t ∧ t.sec = { s.sec with challenge := [], dbg := if s.sec.dbg = .challenge then .locked else s.sec.dbg } ∧ State.Only [.sec] s t) ∧
  (∀ (k : SessId) (s : State), s.gate k rightKEYS = .ok → (s.sec.tamper = false ∨ s.sec.root.isSome = true ∧ s.sec.rerooted = true) → ∃ t, exec (.tamperAck k) s = .next t ∧ t.sec = { s.sec with tamper := false, sessions := upd s.sec.sessions k fun x => { x with keyin := Vector.replicate 9 0 } } ∧
      t.sys = { s.sys with answers := ⟨s.me k, .ok⟩ :: s.sys.answers } ∧ State.Only [.sys, .sec] s t) ∧
  (∀ (k : SessId) (s : State), s.gate k rightKEYS = .ok → s.sec.tamper = true → (s.sec.root = none ∨ s.sec.rerooted = false) → ∃ t, exec (.tamperAck k) s = .next t ∧ t.sec = { s.sec with sessions := upd s.sec.sessions k fun x => { x with keyin := Vector.replicate 9 0 } } ∧ t.sys = { s.sys with answers := ⟨s.me k, .notReady⟩ :: s.sys.answers } ∧ State.Only [.sys, .sec] s t) ∧
  (∀ (b : Bool) (s : State), s.pwr.phase = .run → ∃ t, exec (.tamperDetected b) s = .next t ∧ t.sec.tamper = true ∧ t.sec.tcount = s.sec.tcount + 1 ∧ t.sec.root = none ∧ t.sec.oldEpoch = none ∧ t.sec.rotation = none ∧
      t.sec.rerooted = false ∧ t.sec.slots = s.sec.slots ∧ (∀ j : SessId, t.sec.sessions[j] = if s.sec.sessions[j].isOpen = true then {} else s.sec.sessions[j]) ∧ State.Only [.sys, .log, .sec, .mon, .can, .hl, .apu, .dma] s t) ∧
  (∀ (b : Bool) (s : State), s.pwr.phase ≠ .run → s.pwr.d0Lost = false → ∃ t, exec (.tamperDetected b) s = .next t ∧ t.sec = { s.sec with tamper := true, tcount := s.sec.tcount + 1, tampPend := some (if b then 2 else 1) } ∧ State.Only [.sec] s t) ∧
  (∀ (b : Bool) (s : State), s.pwr.phase ≠ .run → s.pwr.d0Lost = true → ∃ t, exec (.tamperDetected b) s = .next t ∧ t = s) ∧
  (∀ (c : Instr) (n : Nat) (k : SessId) (s : State), (c = .attest k ∧ n = rightATTEST ∨ c = .dbgChallenge k ∧ n = rightDEBUG ∨ c = .dbgUnlock k ∧ n = rightDEBUG ∨ c = .dbgLock k ∧ n = rightDEBUG ∨ c = .tamperAck k ∧ n = rightKEYS) → s.gate k n = .denied →
    ∃ t, exec c s = .next t ∧ t.sec = { s.sec with sessions := upd s.sec.sessions k fun x => { x with keyin := Vector.replicate 9 0 } } ∧ t.sys = { s.sys with answers := ⟨s.me k, .denied⟩ :: s.sys.answers } ∧ State.Only [.sys, .sec] s t)

/-- With the recorder ready, the head of Q8 leaves it and is stamped, chained and put into the Reel under the next SEQ and position, into the Keep too where it is permanent and there is room, and H becomes the chain of the records. LOST_EVENTS is queued for the lowest bucket with a count while Q8 holds 48 or fewer, and clears it. A start recovers once: OPS_S resumes from the greater of its saves, and RECORDER_START, and CHAIN_BREAK where the chain fails, are recorded. OPS_S is saved. A window read gives the word of the record shown or its status; REC_WINSEQ also advances the cursor; without the RECORD right neither reads. (R370, R371, R376, R378, R381, R382, R384, R387, R388, R389) -/
def Obligations.RecordsAreCommittedAndRead : Prop :=
  (∀ (e : Q8Entry) (es : List Q8Entry) (s : State), s.log.ready = true → s.log.q8 = e :: es → ∃ t, exec .recordCommit s = .next t ∧
      t.log.reel = ({ pos := s.log.nextPos, bytes := recBytes (s.recBody e (s.keeps e)) (chainOf s.log.chainBefore (s.recBody e (s.keeps e))) } :: s.log.reel).take reelSize ∧
      t.log.keep = (if s.keeps e = true then s.log.keep ++ [{ pos := s.log.keep.length, bytes := recBytes (s.recBody e (s.keeps e)) (chainOf s.log.chainBefore (s.recBody e (s.keeps e))) }] else s.log.keep) ∧
      t.log.nextSeq = (s.log.nextSeq + 1) % 2 ^ 32 ∧ t.log.nextPos = (s.log.nextPos + 1) % reelSize ∧ t.log.chain = chainOf s.log.chainBefore (s.recBody e (s.keeps e)) ∧
      (e.k = false ∨ s.keeps e = true ∨ s.log.keepFull = true → t.log.q8 = es) ∧ (e.k = true → s.keeps e = false → t.log.keepFull = true) ∧ State.Only [.sys, .log, .mon] s t) ∧
  (∀ s : State, (s.log.ready = false ∨ s.log.q8 = []) → ∃ t, exec .recordCommit s = .next t ∧ t = s) ∧
  (∀ (n : Nat) (b : Bucket) (s : State), s.log.q8.length ≤ 48 → s.lostBucket = some (n, b) → ∃ t, exec .lostEvents s = .next t ∧
      t.log = { s.log with buckets := assocSet n { b with lost := 0, lostCode := 0, lostFirst := 0, lostLast := 0, lostK := false } s.log.buckets, q8 := s.log.q8 ++ [s.entryOf { code := 0x0E01, payload := le 2 b.lostCode ++ le 2 n ++ le 4 b.lost ++ stampOf b.lostFirst ++ stampOf b.lostLast } (b.lostK || s.codeK 0x0E01) 0] } ∧ State.Only [.sys, .log] s t) ∧
  (∀ s : State, (48 < s.log.q8.length ∨ s.lostBucket = none) → ∃ t, exec .lostEvents s = .next t ∧ t = s) ∧
  (∀ (b : Bool) (s : State), s.log.ready = false → ∃ t, exec (.recorderStart b) s = .next t ∧ t.log.ready = true ∧ t.log.ops = max s.log.opsSaved s.log.headOps ∧ t.log.opsTicks = 0 ∧
      t.log.nextSeq = (if s.log.chainBreak.isSome then ((s.log.nextSeq + 1) % 2 ^ 32 + 1) % 2 ^ 32 else (s.log.nextSeq + 1) % 2 ^ 32) ∧ State.Only [.sys, .log, .mon] s t) ∧
  (∀ (b : Bool) (s : State), s.log.ready = true → ∃ t, exec (.recorderStart b) s = .next t ∧ t = s) ∧
  (∀ s : State, ∃ t, exec .opsSSave s = .next t ∧ t.log = { s.log with opsSaved := s.log.ops } ∧ State.Only [.log] s t) ∧
  (∀ (w : Fin 16) (k : SessId) (r : RecSlot) (s : State), s.gate k rightRECORD = .ok → s.log.window = .ok r → ∃ t, exec (.recWindowRead w k) s = .next t ∧
      t.sys = { s.sys with readData := word (r.num (4 * w.val) 4), answers := ⟨s.me k, .ok⟩ :: s.sys.answers } ∧ State.Only [.sys] s t) ∧
  (∀ (w : Fin 16) (k : SessId) (st : Status) (s : State), s.gate k rightRECORD = .ok → s.log.window = .error st → ∃ t, exec (.recWindowRead w k) s = .next t ∧ t.sys = { s.sys with answers := ⟨s.me k, st⟩ :: s.sys.answers } ∧ (st = .notReady ∨ st = .gone) ∧ State.Only [.sys] s t) ∧
  (∀ (k : SessId) (r : RecSlot) (s : State), s.gate k rightRECORD = .ok → s.log.window = .ok r → ∃ t, exec (.recWinseqRead k) s = .next t ∧
      t.sys = { s.sys with readData := word (r.num 0 4), answers := ⟨s.me k, .ok⟩ :: s.sys.answers } ∧
      t.log = (if s.log.auto = false then s.log else if s.log.area = true then { s.log with kidx := (s.log.kidx + 1) % keepSize } else { s.log with cur := s.log.cur + 1 }) ∧ State.Only [.sys, .log] s t) ∧
  (∀ (k : SessId) (st : Status) (s : State), s.gate k rightRECORD = .ok → s.log.window = .error st → ∃ t, exec (.recWinseqRead k) s = .next t ∧ t.sys = { s.sys with answers := ⟨s.me k, st⟩ :: s.sys.answers } ∧ State.Only [.sys] s t) ∧
  (∀ (w : Fin 16) (k : SessId) (s : State), s.gate k rightRECORD ≠ .ok → ∃ t, exec (.recWindowRead w k) s = .next t ∧ t = s.answer (s.me k) (s.gate k rightRECORD) ∧ State.Only [.sys, .hie, .mon] s t) ∧
  (∀ (k : SessId) (s : State), s.gate k rightRECORD ≠ .ok → ∃ t, exec (.recWinseqRead k) s = .next t ∧ t = s.answer (s.me k) (s.gate k rightRECORD) ∧ State.Only [.sys, .hie, .mon] s t)

/-- At an enabled cause, once periods run, and at LATCH, counters and gauges are copied to the snapshot with cause, number and instant and start empty; otherwise a boundary does nothing. A counter at its end reads SAT and is recorded once. MON_PCFG with N = 0 beside SECEN or BCNEN is LIMIT; other writes take effect. A live read returns the low word and latches the high word and SAT. A user gain and offset in range are set together and wait to be stored; out of range LIMIT, the reserved channel is ignored, a module channel but 0 BAD_ADDR. CAL_USER_STORE stores them; CAL_CMD clears the named ones, LIMIT for channel 7. A session without the right gets the status of its gate. (R393, R395, R396, R398, R399, R403, R404) -/
def Obligations.CountersGaugesAndCalibrationAct : Prop :=
  (∀ (sec step bcn : Bool) (s : State), s.mon.running = true → s.enabledCauses sec (step || s.mon.stepDue) bcn ≠ 0 → ∃ t, exec (.periodBoundary sec step bcn) s = .next t ∧ t.mon = { s.mon with snCount := s.mon.counters, snGauge := s.mon.gauges, snSeq := (s.mon.snSeq + 1) % 2 ^ 32, snCause := s.enabledCauses sec (step || s.mon.stepDue) bcn, snAt := s.now, stepDue := false, counters := Vector.replicate 32 {}, gauges := Vector.replicate 16 {} } ∧ State.Only [.mon] s t) ∧
  (∀ (sec step bcn : Bool) (s : State), (s.mon.running = false ∨ s.enabledCauses sec (step || s.mon.stepDue) bcn = 0) → ∃ t, exec (.periodBoundary sec step bcn) s = .next t ∧ t = s) ∧
  (∀ (n : MonId) (s : State), s.mon.counters[n].cnt = 2 ^ 48 - 1 → s.mon.counters[n].sat = false → ∃ t, exec (.monCounterSat n) s = .next t ∧ t.mon.counters[n].sat = true ∧ State.Only [.sys, .log, .mon] s t) ∧
  (∀ (n : MonId) (s : State), (s.mon.counters[n].cnt ≠ 2 ^ 48 - 1 ∨ s.mon.counters[n].sat = true) → ∃ t, exec (.monCounterSat n) s = .next t ∧ t = s) ∧
  (∀ (k : SessId) (s : State), s.gate k rightPARAM = .ok → ∃ t, exec (.latch k) s = .next t ∧ t.mon = { s.mon with snCount := s.mon.counters, snGauge := s.mon.gauges, snSeq := (s.mon.snSeq + 1) % 2 ^ 32, snCause := 8, snAt := s.now, stepDue := false, counters := Vector.replicate 32 {}, gauges := Vector.replicate 16 {} } ∧ t.sys = { s.sys with answers := ⟨s.me k, .ok⟩ :: s.sys.answers } ∧ State.Only [.sys, .mon] s t) ∧
  (∀ (v : Word) (k : SessId) (s : State), s.gate k rightPARAM = .ok → (bit v 31 || bit v 29) = true → bits v 0 16 = 0 → ∃ t, exec (.monPcfgWrite false v k) s = .next t ∧ t.sys = { s.sys with answers := ⟨s.me k, .limit⟩ :: s.sys.answers } ∧ State.Only [.sys] s t) ∧
  (∀ (v : Word) (k : SessId) (s : State), s.gate k rightPARAM = .ok → ((bit v 31 || bit v 29) = false ∨ bits v 0 16 ≠ 0) → ∃ t, exec (.monPcfgWrite false v k) s = .next t ∧ t.mon = { s.mon with pcfg := v &&& 0xE300FFFF } ∧ t.sys = { s.sys with answers := ⟨s.me k, .ok⟩ :: s.sys.answers } ∧ State.Only [.sys, .mon] s t) ∧
  (∀ (v : Word) (k : SessId) (s : State), s.gate k rightPARAM = .ok → ∃ t, exec (.monPcfgWrite true v k) s = .next t ∧ t.mon = { s.mon with pcfg2 := v &&& 0x0000FFFF } ∧ t.sys = { s.sys with answers := ⟨s.me k, .ok⟩ :: s.sys.answers } ∧ State.Only [.sys, .mon] s t) ∧
  (∀ (n : MonId) (k : SessId) (s : State), s.gate k rightREAD = .ok → ∃ t, exec (.monLivelRead n k) s = .next t ∧
      t.mon = { s.mon with liveH := upd s.mon.liveH n fun _ => word (flagAt s.mon.counters[n].sat 31 + put (s.mon.counters[n].cnt / 2 ^ 32) 0 16) } ∧
      t.sys = { s.sys with readData := word s.mon.counters[n].cnt, answers := ⟨s.me k, .ok⟩ :: s.sys.answers } ∧ State.Only [.sys, .mon] s t) ∧
  (∀ (i : Fin 33) (c : Fin 8) (v : Word) (k : SessId) (s : State), s.gateRws k rightSERVICE = .ok → i.val = 32 → c ≠ 0 → ∃ t, exec (.calUserSet i c v k) s = .next t ∧ t.sys = { s.sys with answers := ⟨s.me k, .badAddr⟩ :: s.sys.answers } ∧ State.Only [.sys] s t) ∧
  (∀ (i : Fin 33) (v : Word) (k : SessId) (s : State), s.gateRws k rightSERVICE = .ok → i.val ≠ 32 → ∃ t, exec (.calUserSet i 7 v k) s = .next t ∧ t.sys = { s.sys with answers := ⟨s.me k, .ok⟩ :: s.sys.answers } ∧ State.Only [.sys] s t) ∧
  (∀ (i : Fin 33) (c : Fin 8) (v : Word) (k : SessId) (s : State), s.gateRws k rightSERVICE = .ok → (i.val = 32 → c = 0) → c.val ≠ 7 → (20971 < (sbits v 16 16).natAbs ∨ 20971 < (sbits v 0 16).natAbs) → ∃ t, exec (.calUserSet i c v k) s = .next t ∧ t.sys = { s.sys with answers := ⟨s.me k, .limit⟩ :: s.sys.answers } ∧ State.Only [.sys] s t) ∧
  (∀ (i : Fin 33) (c : Fin 8) (v : Word) (k : SessId) (s : State), s.gateRws k rightSERVICE = .ok → (i.val = 32 → c = 0) → c.val ≠ 7 → (sbits v 16 16).natAbs ≤ 20971 → (sbits v 0 16).natAbs ≤ 20971 → ∃ t, exec (.calUserSet i c v k) s = .next t ∧
      t.cal = { s.cal with chans := upd s.cal.chans i fun y => upd y c fun z => { z with u := v }, dirty := (i.val, c.val, v) :: s.cal.dirty.filter fun e => !(e.1 == i.val && e.2.1 == c.val) } ∧ t.sys.answers = ⟨s.me k, .ok⟩ :: s.sys.answers ∧ State.Only [.sys, .log, .mon, .cal] s t) ∧
  (∀ s : State, ∃ t, exec .calUserStore s = .next t ∧ t.cal = { s.cal with stored := s.cal.dirty ++ s.cal.stored.filter (fun e => !(s.cal.dirty.any fun d => d.1 == e.1 && d.2.1 == e.2.1)), dirty := [] } ∧ State.Only [.cal] s t) ∧
  (∀ (v : Word) (k : SessId) (s : State), s.gateRws k rightSERVICE = .ok → bits v 4 3 = 7 → ∃ t, exec (.calClr v k) s = .next t ∧ t.sys = { s.sys with answers := ⟨s.me k, .limit⟩ :: s.sys.answers } ∧ State.Only [.sys] s t) ∧
  (∀ (v : Word) (k : SessId) (s : State), s.gateRws k rightSERVICE = .ok → bits v 4 3 ≠ 7 → bit v 0 = false → ∃ t, exec (.calClr v k) s = .next t ∧ t.cal = { s.cal with cmd := v &&& 0x00031FF0 } ∧ t.sys = { s.sys with answers := ⟨s.me k, .ok⟩ :: s.sys.answers } ∧ State.Only [.sys, .cal] s t) ∧
  (∀ (v : Word) (k : SessId) (s : State), s.gateRws k rightSERVICE = .ok → bits v 4 3 ≠ 7 → bit v 0 = true → ∃ t, exec (.calClr v k) s = .next t ∧ t.cal.cmd = v &&& 0x00031FF0 ∧ t.sys.answers = ⟨s.me k, .ok⟩ :: s.sys.answers ∧
      (∀ (i : Fin 33) (c : Fin 8), t.cal.chans[i][c] = if (calNamed v).contains (i.val, c.val) = true then { s.cal.chans[i][c] with u := 0 } else s.cal.chans[i][c]) ∧
      t.cal.stored = s.cal.stored.filter (fun e => !(calNamed v).contains (e.1, e.2.1)) ∧ t.cal.dirty = s.cal.dirty.filter (fun e => !(calNamed v).contains (e.1, e.2.1)) ∧ State.Only [.sys, .log, .mon, .cal] s t) ∧
  (∀ (c : Instr) (g : Status) (i : Fin 33) (j : Fin 8) (n : MonId) (b : Bool) (v : Word) (k : SessId) (s : State), (c = .latch k ∧ g = s.gate k rightPARAM ∨ c = .monPcfgWrite b v k ∧ g = s.gate k rightPARAM ∨ c = .monLivelRead n k ∧ g = s.gate k rightREAD ∨ c = .calUserSet i j v k ∧ g = s.gateRws k rightSERVICE ∨ c = .calClr v k ∧ g = s.gateRws k rightSERVICE) → g ≠ .ok →
    ∃ t, exec c s = .next t ∧ t = s.answer (s.me k) g ∧ State.Only [.sys, .hie, .mon] s t)

/-- A START, STOP, PAUSE or RESUME becomes the pending request, the one it replaces is SUPERSEDED; START and RESUME of a marked or held sequencer are BUSY; unused BAD_ADDR. SEQ_HCMD sets and clears bits, clear wins. An evaluation starts an AUTOSTART sequencer at ENTRY; a START from STOPPED enters ENTRY, a STOP Step 0 with bits cleared, a PAUSE and RESUME change the state, answered OK to their sender. Otherwise time and timers of a RUNNING one pass, a marked one that is STOPPED or in Step 0 is HELD, and the first transition that is true is taken: its Step becomes current; with none the Step stays. One neither running nor marked is unchanged. (R356, R361, R362, R363, R364, R365, R482) -/
def Obligations.SequencersAreCommandedAndEvaluated : Prop :=
  (∀ (c : Instr) (op : SeqOp) (q : SeqId) (k : SessId) (s : State), (c = .seqStart q k ∧ op = .start ∨ c = .seqStop q k ∧ op = .stop ∨ c = .seqPause q k ∧ op = .pause ∨ c = .seqResume q k ∧ op = .resume) → s.seqUsed q = true → s.gate k rightCOMMAND = .ok → ((op = .start ∨ op = .resume) → s.seq.seqs[q].mark = false ∧ s.seq.seqs[q].st ≠ .held) → s.seq.seqs[q].req = none →
    ∃ t, exec c s = .next t ∧ t.seq.seqs[q] = { s.seq.seqs[q] with req := some (op, s.me k) } ∧ (∀ j : SeqId, j ≠ q → t.seq.seqs[j] = s.seq.seqs[j]) ∧ t.seq.q9 = s.seq.q9 ∧ State.Only [.seq] s t) ∧
  (∀ (c : Instr) (op o : SeqOp) (old : Src) (q : SeqId) (k : SessId) (s : State), (c = .seqStart q k ∧ op = .start ∨ c = .seqStop q k ∧ op = .stop ∨ c = .seqPause q k ∧ op = .pause ∨ c = .seqResume q k ∧ op = .resume) → s.seqUsed q = true → s.gate k rightCOMMAND = .ok → ((op = .start ∨ op = .resume) → s.seq.seqs[q].mark = false ∧ s.seq.seqs[q].st ≠ .held) → s.seq.seqs[q].req = some (o, old) →
    ∃ t, exec c s = .next t ∧ t.seq.seqs[q] = { s.seq.seqs[q] with req := some (op, s.me k) } ∧ (∀ j : SeqId, j ≠ q → t.seq.seqs[j] = s.seq.seqs[j]) ∧ t.sys.answers = ⟨old, .superseded⟩ :: s.sys.answers ∧ State.Only [.sys, .hie, .mon, .seq] s t) ∧
  (∀ (c : Instr) (op : SeqOp) (q : SeqId) (k : SessId) (s : State), (c = .seqStart q k ∧ op = .start ∨ c = .seqStop q k ∧ op = .stop ∨ c = .seqPause q k ∧ op = .pause ∨ c = .seqResume q k ∧ op = .resume) → s.seqUsed q = true → s.gate k rightCOMMAND = .ok → (op = .start ∨ op = .resume) → (s.seq.seqs[q].mark = true ∨ s.seq.seqs[q].st = .held) → ∃ t, exec c s = .next t ∧ t.sys = { s.sys with answers := ⟨s.me k, .busy⟩ :: s.sys.answers } ∧ State.Only [.sys] s t) ∧
  (∀ (c : Instr) (op : SeqOp) (q : SeqId) (k : SessId) (v : Word) (s : State), ((c = .seqStart q k ∧ op = .start ∨ c = .seqStop q k ∧ op = .stop ∨ c = .seqPause q k ∧ op = .pause ∨ c = .seqResume q k ∧ op = .resume) ∨ c = .seqHcmdWrite q v k) → s.seqUsed q = false → ∃ t, exec c s = .next t ∧ t.sys = { s.sys with answers := ⟨s.me k, .badAddr⟩ :: s.sys.answers } ∧ State.Only [.sys] s t) ∧
  (∀ (c : Instr) (op : SeqOp) (q : SeqId) (k : SessId) (v : Word) (s : State), ((c = .seqStart q k ∧ op = .start ∨ c = .seqStop q k ∧ op = .stop ∨ c = .seqPause q k ∧ op = .pause ∨ c = .seqResume q k ∧ op = .resume) ∨ c = .seqHcmdWrite q v k) → s.seqUsed q = true → s.gate k rightCOMMAND ≠ .ok → ∃ t, exec c s = .next t ∧ t = s.answer (s.me k) (s.gate k rightCOMMAND) ∧ State.Only [.sys, .hie, .mon] s t) ∧
  (∀ (q : SeqId) (v : Word) (k : SessId) (s : State), s.seqUsed q = true → s.gate k rightCOMMAND = .ok → ∃ t, exec (.seqHcmdWrite q v k) s = .next t ∧
      t.seq.seqs[q] = { s.seq.seqs[q] with hpend := (s.seq.seqs[q].hpend ||| BitVec.ofNat 16 (bits v 0 16)) &&& ~~~(BitVec.ofNat 16 (bits v 16 16)) } ∧ (∀ j : SeqId, j ≠ q → t.seq.seqs[j] = s.seq.seqs[j]) ∧ t.sys.answers = ⟨s.me k, .ok⟩ :: s.sys.answers ∧ State.Only [.sys, .seq] s t) ∧
  (∀ (q : SeqId) (s : State), s.seqUsed q = false → ∃ t, exec (.seqEvaluation q) s = .next t ∧ t = s) ∧
  (∀ (q : SeqId) (s : State), s.seqUsed q = true → s.seq.seqs[q].auto = true → s.seq.seqs[q].req = none → s.seq.seqs[q].mark = false → ∃ t, exec (.seqEvaluation q) s = .next t ∧ t.seq.seqs[q].st = .running ∧ t.seq.seqs[q].step = s.seqEntry q ∧ t.seq.seqs[q].taken = 0xFF ∧ t.seq.seqs[q].time = 0 ∧ t.seq.seqs[q].auto = false ∧ State.Only [.sys, .ports, .sol, .log, .hie, .mon, .eng, .seq] s t) ∧
  (∀ (src : Src) (q : SeqId) (s : State), s.seqUsed q = true → s.seq.seqs[q].auto = false → s.seq.seqs[q].req = some (.start, src) → s.seq.seqs[q].mark = false → (s.seq.seqs[q].st = .stopped ∨ s.seq.seqs[q].st = .running ∧ s.seq.seqs[q].step = 0) → ∃ t, exec (.seqEvaluation q) s = .next t ∧
      t.seq.seqs[q].st = .running ∧ t.seq.seqs[q].step = s.seqEntry q ∧ t.seq.seqs[q].prev = s.seq.seqs[q].step ∧ t.seq.seqs[q].taken = 0xFF ∧ t.seq.seqs[q].time = 0 ∧ t.seq.seqs[q].req = none ∧ t.sys.answers.head? = some ⟨src, .ok⟩ ∧ State.Only [.sys, .ports, .sol, .log, .hie, .mon, .eng, .seq] s t) ∧
  (∀ (src : Src) (q : SeqId) (s : State), s.seqUsed q = true → s.seq.seqs[q].auto = false → s.seq.seqs[q].req = some (.stop, src) → s.seq.seqs[q].mark = false → (s.seq.seqs[q].st = .running ∨ s.seq.seqs[q].st = .paused) → ∃ t, exec (.seqEvaluation q) s = .next t ∧
      t.seq.seqs[q].st = .stopped ∧ t.seq.seqs[q].step = 0 ∧ t.seq.seqs[q].prev = s.seq.seqs[q].step ∧ t.seq.seqs[q].hpend = 0 ∧ t.seq.seqs[q].req = none ∧ t.sys.answers.head? = some ⟨src, .ok⟩ ∧ State.Only [.sys, .ports, .sol, .log, .hie, .mon, .eng, .seq] s t) ∧
  (∀ (src : Src) (q : SeqId) (s : State), s.seqUsed q = true → s.seq.seqs[q].auto = false → s.seq.seqs[q].req = some (.pause, src) → s.seq.seqs[q].mark = false → s.seq.seqs[q].st = .running → ∃ t, exec (.seqEvaluation q) s = .next t ∧
      t.seq.seqs[q].st = .paused ∧ t.seq.seqs[q].step = s.seq.seqs[q].step ∧ t.seq.seqs[q].pausedAt = s.tick ∧ t.seq.seqs[q].req = none ∧ t.sys.answers.head? = some ⟨src, .ok⟩ ∧ State.Only [.sys, .ports, .sol, .log, .hie, .mon, .eng, .seq] s t) ∧
  (∀ (src : Src) (q : SeqId) (s : State), s.seqUsed q = true → s.seq.seqs[q].auto = false → s.seq.seqs[q].req = some (.resume, src) → s.seq.seqs[q].mark = false → s.seq.seqs[q].st = .paused → ∃ t, exec (.seqEvaluation q) s = .next t ∧ t.seq.seqs[q].st = .running ∧ t.seq.seqs[q].req = none ∧ State.Only [.sys, .ports, .sol, .log, .hie, .mon, .eng, .seq] s t) ∧
  (∀ (q : SeqId) (s : State), s.seqUsed q = true → s.seq.seqs[q].auto = false → s.seq.seqs[q].req = none → s.seq.seqs[q].mark = true → (s.seq.seqs[q].st = .stopped ∨ (s.seq.seqs[q].st = .running ∨ s.seq.seqs[q].st = .paused) ∧ s.seq.seqs[q].step = 0) → ∃ t, exec (.seqEvaluation q) s = .next t ∧
      t.seq.seqs[q].st = .held ∧ t.seq.seqs[q].before = s.seq.seqs[q].st ∧ t.seq.seqs[q].step = s.seq.seqs[q].step ∧ State.Only [.sys, .ports, .sol, .log, .hie, .mon, .eng, .seq] s t) ∧
  (∀ (i n : Nat) (q : SeqId) (s : State), s.seqUsed q = true → s.seq.seqs[q].auto = false → s.seq.seqs[q].req = none → s.seq.seqs[q].st = .running → (s.seq.seqs[q].mark = false ∨ ¬ (s.seq.seqs[q].st = .stopped ∨ (s.seq.seqs[q].st = .running ∨ s.seq.seqs[q].st = .paused) ∧ s.seq.seqs[q].step = 0)) → ((s.setSeq q Seq.pass).seqTests q).find? (fun t => (s.setSeq q Seq.pass).seqTrue q t.1) = some (i, n) → ∃ t, exec (.seqEvaluation q) s = .next t ∧
      t.seq.seqs[q].st = .running ∧ t.seq.seqs[q].step = bits (s.seqTr q i 0) 0 8 ∧ t.seq.seqs[q].prev = s.seq.seqs[q].step ∧ t.seq.seqs[q].taken = n ∧ t.seq.seqs[q].time = 0 ∧ t.seq.seqs[q].exitMs = s.seq.seqs[q].pass.time ∧ t.seq.seqs[q].trans = (s.seq.seqs[q].trans + 1) % 65536 ∧
      t.seq.seqs[q].hpend = s.seq.seqs[q].hpend &&& ~~~(s.seqTested q i) ∧ State.Only [.sys, .ports, .sol, .log, .hie, .mon, .eng, .seq] s t) ∧
  (∀ (q : SeqId) (s : State), s.seqUsed q = true → s.seq.seqs[q].auto = false → s.seq.seqs[q].req = none → s.seq.seqs[q].st = .running → (s.seq.seqs[q].mark = false ∨ ¬ (s.seq.seqs[q].st = .stopped ∨ (s.seq.seqs[q].st = .running ∨ s.seq.seqs[q].st = .paused) ∧ s.seq.seqs[q].step = 0)) → ((s.setSeq q Seq.pass).seqTests q).find? (fun t => (s.setSeq q Seq.pass).seqTrue q t.1) = none → ∃ t, exec (.seqEvaluation q) s = .next t ∧ t.seq.seqs[q] = s.seq.seqs[q].pass ∧ (∀ j : SeqId, j ≠ q → t.seq.seqs[j] = s.seq.seqs[j]) ∧ State.Only [.seq] s t) ∧
  (∀ (q : SeqId) (s : State), s.seqUsed q = true → s.seq.seqs[q].auto = false → s.seq.seqs[q].req = none → s.seq.seqs[q].st ≠ .running → (s.seq.seqs[q].mark = false ∨ ¬ (s.seq.seqs[q].st = .stopped ∨ (s.seq.seqs[q].st = .running ∨ s.seq.seqs[q].st = .paused) ∧ s.seq.seqs[q].step = 0)) → ∃ t, exec (.seqEvaluation q) s = .next t ∧ t = s)

/-- A write to an address that is not a multiple of 4, that names no register, or to a register of an unused unit is BAD_ADDR. One the aperture does not let in gets its status: NOT_READY in low power, AUTH_FAIL without a session, DENIED else. One that would change a field fixed by the Recipe is RECIPE_LOCKED. A write of a register without writable fields is OK and changes nothing; another has the register's effect. An SRAM word that is admitted is stored at its target, every other byte as before. A write of RCP_CMD or SEC_CMD is the command it names. (R5, R6, R7, R308, R335, R445, R482) -/
def Obligations.RegisterWritesAreAdmittedOrRefused : Prop :=
  (∀ (a : Nat) (v : Word) (k : SessId) (s : State), a % 4 ≠ 0 → ∃ t, exec (.registerWrite a v k) s = .next t ∧ t.sys = { s.sys with answers := ⟨s.me k, .badAddr⟩ :: s.sys.answers } ∧ State.Only [.sys] s t) ∧
  (∀ (a : Nat) (v : Word) (k : SessId) (s : State), a % 4 = 0 → isSram a = false → s.regAt a = none → ∃ t, exec (.registerWrite a v k) s = .next t ∧ t.sys = { s.sys with answers := ⟨s.me k, .badAddr⟩ :: s.sys.answers } ∧ State.Only [.sys] s t) ∧
  (∀ (a : Nat) (v : Word) (k : SessId) (r : Reg) (s : State), a % 4 = 0 → isSram a = false → s.regAt a = some r → r.unused = true → ∃ t, exec (.registerWrite a v k) s = .next t ∧ t.sys = { s.sys with answers := ⟨s.me k, .badAddr⟩ :: s.sys.answers } ∧ State.Only [.sys] s t) ∧
  (∀ (a : Nat) (v : Word) (k : SessId) (r : Reg) (s : State), a % 4 = 0 → isSram a = false → s.regAt a = some r → r.unused = false → s.aperture k a true ≠ .ok → ∃ t, exec (.registerWrite a v k) s = .next t ∧ t.sys = { s.sys with answers := ⟨s.me k, s.aperture k a true⟩ :: s.sys.answers } ∧ State.Only [.sys] s t) ∧
  (∀ (a : Nat) (v : Word) (k : SessId) (r : Reg) (s : State), a % 4 = 0 → isSram a = false → s.regAt a = some r → r.unused = false → s.aperture k a true = .ok → v &&& word r.rs ≠ r.val &&& word r.rs → ∃ t, exec (.registerWrite a v k) s = .next t ∧ t.sys = { s.sys with answers := ⟨s.me k, .recipeLocked⟩ :: s.sys.answers } ∧ State.Only [.sys] s t) ∧
  (∀ (a : Nat) (v : Word) (k : SessId) (r : Reg) (s : State), a % 4 = 0 → isSram a = false → s.regAt a = some r → r.unused = false → s.aperture k a true = .ok → v &&& word r.rs = r.val &&& word r.rs → r.wr.isNone = true → ∃ t, exec (.registerWrite a v k) s = .next t ∧ t.sys = { s.sys with answers := ⟨s.me k, .ok⟩ :: s.sys.answers } ∧ State.Only [.sys] s t) ∧
  (∀ (a : Nat) (v : Word) (k : SessId) (r : Reg) (f : SessId → Word → State → State) (s : State), a % 4 = 0 → isSram a = false → s.regAt a = some r → r.unused = false → s.aperture k a true = .ok → v &&& word r.rs = r.val &&& word r.rs → r.wr = some f →
    ∃ t, exec (.registerWrite a v k) s = .next t ∧ t = f k v s) ∧
  (∀ (a : Nat) (v : Word) (k : SessId) (x : Nat) (s : State), a % 4 = 0 → isSram a = true → s.mem.wf = true → s.aperture k a true = .ok → (s.translate k.val a true).toOption = some x → ∃ t, exec (.registerWrite a v k) s = .next t ∧
      t.mem.readN x 4 = wordBytes v ∧ (∀ b : Nat, b < x ∨ x + 4 ≤ b → t.mem.read b = s.mem.read b) ∧ t.sys = { s.sys with answers := ⟨s.me k, .ok⟩ :: s.sys.answers } ∧ State.Only [.sys, .dma, .mem] s t) ∧
  (∀ (a : Nat) (v : Word) (k : SessId) (s : State), a % 4 = 0 → isSram a = true → s.aperture k a true ≠ .ok → ∃ t, exec (.registerWrite a v k) s = .next t ∧ t.sys = { s.sys with answers := ⟨s.me k, s.aperture k a true⟩ :: s.sys.answers } ∧ State.Only [.sys] s t) ∧
  (∀ (k : SessId) (s : State), s.lowPower = true → s.aperture k 0x10004 true = .notReady ∧ s.aperture k 0x20200 true = .notReady) ∧
  (∀ (k : SessId) (s : State), s.aperture k 0x10004 true = .ok → exec (.registerWrite 0x10004 1 k) s = exec (.write .a k) s ∧ exec (.registerWrite 0x10004 0x101 k) s = exec (.write .b k) s ∧ exec (.registerWrite 0x10004 2 k) s = exec (.discard k) s ∧
      exec (.registerWrite 0x10004 3 k) s = exec (.recipeRestart k) s ∧ exec (.registerWrite 0x10004 4 k) s = exec (.reload k) s) ∧
  (∀ (k : SessId) (s : State), s.aperture k 0x20200 true = .ok → exec (.registerWrite 0x20200 0x301 k) s = exec (.fuse 3 k) s ∧ exec (.registerWrite 0x20200 0x102 k) s = exec (.revoke 1 k) s ∧ exec (.registerWrite 0x20200 3 k) s = exec (.hkeyInstall k) s ∧
      exec (.registerWrite 0x20200 5 k) s = exec (.attest k) s ∧ exec (.registerWrite 0x20200 0x10A k) s = exec (.rtWrite 1 k) s ∧ exec (.registerWrite 0x20200 0xB k) s = exec (.secClose k) s)

/-- Without an open session a command is not seen. While 16 are in flight it is answered BUSY. One with FENCE waits while earlier ones run. A PING is answered OK. A COUNT outside 1 to 256 is answered LIMIT. A READ of one word of a register is answered with its value, of an SRAM word with the word stored, of a missing register or unaligned address BAD_ADDR, of one the aperture does not let in with that status. A HOST_WRITE of one SRAM word stores it and is answered OK; of an unaligned address BAD_ADDR and nothing stored; of an address not admitted its status. Each answer carries TAG, the address of the first word not done and the words done, after those already waiting. (R329, R330, R331, R332, R333) -/
def Obligations.HostCommandsAnswer : Prop :=
  (∀ (c : Instr) (k : SessId) (f : Bool) (g a n : Nat) (ws : List Word) (s : State), (c = .ping k f g a ∨ c = .read k f g a n ∨ c = .hostWrite k f g a ws) → s.sec.sessions[k].isOpen = false → ∃ t, exec c s = .next t ∧ t = s) ∧
  (∀ (k : SessId) (f : Bool) (g a : Nat) (s : State), s.sec.sessions[k].isOpen = true → 16 ≤ s.inFlight k → s.hl.out[k].length + s.inFlight k < 64 → ∃ t, exec (.ping k f g a) s = .next t ∧
      t.hl.out[k] = s.hl.out[k] ++ [{ notif := false, bytes := le 1 (3 + 0x80) ++ le 1 Status.busy.code ++ le 2 (g % 65536) ++ le 4 ((a % 2 ^ 32)) ++ le 2 0 ++ zeros 2 }] ∧ t.hl.q = s.hl.q ∧ t.hl.run = s.hl.run ∧ State.Only [.sys, .hl] s t) ∧
  (∀ (c : Instr) (k : SessId) (f : Bool) (g a n : Nat) (ws : List Word) (s : State), (c = .ping k f g a ∨ c = .read k f g a n ∨ c = .hostWrite k f g a ws) → s.sec.sessions[k].isOpen = true → s.inFlight k < 16 → f = true → s.hl.q[k] = [] → s.hl.run[k] ≠ [] →
    ∃ t, exec c s = .next t ∧ t.hl.q[k].length = 1 ∧ t.hl.run = s.hl.run ∧ t.hl.out = s.hl.out ∧ State.Only [.sys, .hl] s t) ∧
  (∀ (k : SessId) (f : Bool) (g a : Nat) (s : State), s.sec.sessions[k].isOpen = true → s.hl.q[k] = [] → s.hl.run[k].length < 16 → (f = false ∨ s.hl.run[k] = []) → ∃ t, exec (.ping k f g a) s = .next t ∧ t.hl.out[k] = s.hl.out[k] ++ [{ notif := false, bytes := le 1 (3 + 0x80) ++ le 1 Status.ok.code ++ le 2 (g % 65536) ++ le 4 ((a % 2 ^ 32)) ++ le 2 0 ++ zeros 2 }] ∧ t.hl.q[k] = [] ∧ t.hl.run[k] = s.hl.run[k] ∧ (∀ j : SessId, j ≠ k → t.hl.out[j] = s.hl.out[j]) ∧ State.Only [.sys, .hl] s t) ∧
  (∀ (k : SessId) (f : Bool) (g a n : Nat) (s : State), s.sec.sessions[k].isOpen = true → s.hl.q[k] = [] → s.hl.run[k].length < 16 → (f = false ∨ s.hl.run[k] = []) → (n = 0 ∨ 256 < n) → ∃ t, exec (.read k f g a n) s = .next t ∧ t.hl.out[k] = s.hl.out[k] ++ [{ notif := false, bytes := le 1 (1 + 0x80) ++ le 1 Status.limit.code ++ le 2 (g % 65536) ++ le 4 ((a % 2 ^ 32)) ++ le 2 0 ++ zeros 2 }] ∧ t.hl.q[k] = [] ∧ t.hl.run[k] = s.hl.run[k] ∧ (∀ j : SessId, j ≠ k → t.hl.out[j] = s.hl.out[j]) ∧ State.Only [.sys, .hl] s t) ∧
  (∀ (k : SessId) (f : Bool) (g a : Nat) (ws : List Word) (s : State), s.sec.sessions[k].isOpen = true → s.hl.q[k] = [] → s.hl.run[k].length < 16 → (f = false ∨ s.hl.run[k] = []) → (ws = [] ∨ 256 < ws.length) → ∃ t, exec (.hostWrite k f g a ws) s = .next t ∧ t.hl.out[k] = s.hl.out[k] ++ [{ notif := false, bytes := le 1 (2 + 0x80) ++ le 1 Status.limit.code ++ le 2 (g % 65536) ++ le 4 ((a % 2 ^ 32)) ++ le 2 0 ++ zeros 2 }] ∧ t.hl.q[k] = [] ∧ t.hl.run[k] = s.hl.run[k] ∧ (∀ j : SessId, j ≠ k → t.hl.out[j] = s.hl.out[j]) ∧ State.Only [.sys, .hl] s t) ∧
  (∀ (k : SessId) (f : Bool) (g a : Nat) (r : Reg) (s : State), s.sec.sessions[k].isOpen = true → s.hl.q[k] = [] → s.hl.run[k].length < 16 → (f = false ∨ s.hl.run[k] = []) → a < 2 ^ 32 → a % 4 = 0 → isSram a = false → (∀ u, State.Only [.sys, .hl] s u → u.regAt a = some r) → r.rd.isNone = true → s.aperture k a false = .ok →
    ∃ t, exec (.read k f g a 1) s = .next t ∧ t.hl.out[k] = s.hl.out[k] ++ [{ notif := false, bytes := le 1 (1 + 0x80) ++ le 1 Status.ok.code ++ le 2 (g % 65536) ++ le 4 (a + 4) ++ le 2 1 ++ zeros 2 ++ wordBytes r.val }] ∧ t.hl.q[k] = [] ∧ t.hl.run[k] = s.hl.run[k] ∧ (∀ j : SessId, j ≠ k → t.hl.out[j] = s.hl.out[j]) ∧ State.Only [.sys, .hl] s t) ∧
  (∀ (k : SessId) (f : Bool) (g a x : Nat) (s : State), s.sec.sessions[k].isOpen = true → s.hl.q[k] = [] → s.hl.run[k].length < 16 → (f = false ∨ s.hl.run[k] = []) → a < 2 ^ 32 → a % 4 = 0 → isSram a = true → s.aperture k a false = .ok → (s.translate k.val a false).toOption = some x → s.dma.bad.contains (x / 4) = false →
    ∃ t, exec (.read k f g a 1) s = .next t ∧ t.hl.out[k] = s.hl.out[k] ++ [{ notif := false, bytes := le 1 (1 + 0x80) ++ le 1 Status.ok.code ++ le 2 (g % 65536) ++ le 4 (a + 4) ++ le 2 1 ++ zeros 2 ++ wordBytes (word (ofLe (s.mem.readN x 4))) }] ∧ t.hl.q[k] = [] ∧ t.hl.run[k] = s.hl.run[k] ∧ (∀ j : SessId, j ≠ k → t.hl.out[j] = s.hl.out[j]) ∧ State.Only [.sys, .hl] s t) ∧
  (∀ (k : SessId) (f : Bool) (g a : Nat) (s : State), s.sec.sessions[k].isOpen = true → s.hl.q[k] = [] → s.hl.run[k].length < 16 → (f = false ∨ s.hl.run[k] = []) → a < 2 ^ 32 → (a % 4 ≠ 0 ∨ isSram a = false ∧ ∀ u, State.Only [.sys, .hl] s u → u.regAt a = none) → ∃ t, exec (.read k f g a 1) s = .next t ∧ t.hl.out[k] = s.hl.out[k] ++ [{ notif := false, bytes := le 1 (1 + 0x80) ++ le 1 Status.badAddr.code ++ le 2 (g % 65536) ++ le 4 (a) ++ le 2 0 ++ zeros 2 }] ∧ t.hl.q[k] = [] ∧ t.hl.run[k] = s.hl.run[k] ∧ (∀ j : SessId, j ≠ k → t.hl.out[j] = s.hl.out[j]) ∧ State.Only [.sys, .hl] s t) ∧
  (∀ (k : SessId) (f : Bool) (g a : Nat) (s : State), s.sec.sessions[k].isOpen = true → s.hl.q[k] = [] → s.hl.run[k].length < 16 → (f = false ∨ s.hl.run[k] = []) → a < 2 ^ 32 → a % 4 = 0 → isSram a = true → s.aperture k a false ≠ .ok → ∃ t, exec (.read k f g a 1) s = .next t ∧ t.hl.out[k] = s.hl.out[k] ++ [{ notif := false, bytes := le 1 (1 + 0x80) ++ le 1 (s.aperture k a false).code ++ le 2 (g % 65536) ++ le 4 (a) ++ le 2 0 ++ zeros 2 }] ∧ t.hl.q[k] = [] ∧ t.hl.run[k] = s.hl.run[k] ∧ (∀ j : SessId, j ≠ k → t.hl.out[j] = s.hl.out[j]) ∧ State.Only [.sys, .hl] s t) ∧
  (∀ (k : SessId) (f : Bool) (g a x : Nat) (w : Word) (s : State), s.sec.sessions[k].isOpen = true → s.hl.q[k] = [] → s.hl.run[k].length < 16 → (f = false ∨ s.hl.run[k] = []) → a < 2 ^ 32 → a % 4 = 0 → isSram a = true → s.aperture k a true = .ok → (s.translate k.val a true).toOption = some x →
    ∃ t, exec (.hostWrite k f g a [w]) s = .next t ∧ t.hl.out[k] = s.hl.out[k] ++ [{ notif := false, bytes := le 1 (2 + 0x80) ++ le 1 Status.ok.code ++ le 2 (g % 65536) ++ le 4 (a + 4) ++ le 2 1 ++ zeros 2 }] ∧ t.hl.q[k] = [] ∧ t.hl.run[k] = s.hl.run[k] ∧ (∀ j : SessId, j ≠ k → t.hl.out[j] = s.hl.out[j]) ∧ t.mem = s.mem.writeN x (wordBytes w) ∧ State.Only [.sys, .hl, .dma, .mem] s t) ∧
  (∀ (k : SessId) (f : Bool) (g a : Nat) (w : Word) (s : State), s.sec.sessions[k].isOpen = true → s.hl.q[k] = [] → s.hl.run[k].length < 16 → (f = false ∨ s.hl.run[k] = []) → a < 2 ^ 32 → a % 4 ≠ 0 → ∃ t, exec (.hostWrite k f g a [w]) s = .next t ∧ t.hl.out[k] = s.hl.out[k] ++ [{ notif := false, bytes := le 1 (2 + 0x80) ++ le 1 Status.badAddr.code ++ le 2 (g % 65536) ++ le 4 (a) ++ le 2 0 ++ zeros 2 }] ∧ t.hl.q[k] = [] ∧ t.hl.run[k] = s.hl.run[k] ∧ (∀ j : SessId, j ≠ k → t.hl.out[j] = s.hl.out[j]) ∧ State.Only [.sys, .hl] s t) ∧
  (∀ (k : SessId) (f : Bool) (g a : Nat) (w : Word) (s : State), s.sec.sessions[k].isOpen = true → s.hl.q[k] = [] → s.hl.run[k].length < 16 → (f = false ∨ s.hl.run[k] = []) → a < 2 ^ 32 → a % 4 = 0 → isSram a = true → s.aperture k a true ≠ .ok → ∃ t, exec (.hostWrite k f g a [w]) s = .next t ∧ t.hl.out[k] = s.hl.out[k] ++ [{ notif := false, bytes := le 1 (2 + 0x80) ++ le 1 (s.aperture k a true).code ++ le 2 (g % 65536) ++ le 4 (a) ++ le 2 0 ++ zeros 2 }] ∧ t.hl.q[k] = [] ∧ t.hl.run[k] = s.hl.run[k] ∧ (∀ j : SessId, j ≠ k → t.hl.out[j] = s.hl.out[j]) ∧ State.Only [.sys, .hl] s t)

/-- SAVE keeps the network settings under its gate and is otherwise refused. The loss and return of the link set the link state. While the link is down no frame acts. A frame that is short, for another address or of another EtherType is discarded and counted; an ARP request for the address in force is learned and answered with one reply; an IPv4 datagram whose header is not supported or of another protocol is discarded and counted; an ICMP echo is not answered while NOECHO = 1 or after ten in a second, and is otherwise answered once; a UDP datagram not for the port is discarded; one that carries fewer than 12 bytes counts as a malformed Ralar frame. On CAN0 nothing acts unless Ralar is on and the bus is live; FIRST starts a reassembly, the next number in order goes on with it, a number out of order or after 50 ms drops it and counts, one without a FIRST is ignored, and a whole frame of fewer than 12 bytes is malformed. (R324, R325, R326, R327, R328) -/
def Obligations.HostLinkTransportsAct : Prop :=
  (∀ (up : Bool) (s : State), up = s.hl.link → ∃ t, exec (.hostLinkDown up) s = .next t ∧ t = s) ∧
  (∀ s : State, s.hl.link = true → ∃ t, exec (.hostLinkDown false) s = .next t ∧ t.hl = { s.hl with link := false } ∧ State.Only [.sys, .log, .mon, .hl] s t) ∧
  (∀ s : State, s.hl.link = false → ∃ t, exec (.hostLinkDown true) s = .next t ∧ t.hl = { s.hl with link := true, linkAt := s.tick } ∧ State.Only [.sys, .log, .mon, .hl] s t) ∧
  (∀ (k : SessId) (s : State), s.gateRws k rightSERVICE = .ok → ∃ t, exec (.save k) s = .next t ∧ t.hl = { s.hl with saved := s.hl.regs } ∧ t.sys.answers = ⟨s.me k, .ok⟩ :: s.sys.answers ∧ State.Only [.sys, .log, .mon, .hl] s t) ∧
  (∀ (k : SessId) (s : State), s.gateRws k rightSERVICE ≠ .ok → ∃ t, exec (.save k) s = .next t ∧ t = s.answer (s.me k) (s.gateRws k rightSERVICE) ∧ t.hl = s.hl) ∧
  (∀ (b : List Byte) (s : State), s.hl.link = false ∨ s.linked = false → ∃ t, exec (.ethernetFrameRx b) s = .next t ∧ t = s) ∧
  (∀ (b : List Byte) (s : State), s.hl.link = true → s.linked = true → (b.length < 14 ∨ ¬ (b.take 6 = fit 6 Config.mac ∨ beAt b 0 6 = 0xFFFFFFFFFFFF) ∨ beAt b 12 2 ≠ 0x0806 ∧ beAt b 12 2 ≠ 0x0800) → ∃ t, exec (.ethernetFrameRx b) s = .next t ∧ t.hl = { s.hl with disc := satNat 255 (s.hl.disc + 1) } ∧ State.Only [.hl] s t) ∧
  (∀ (b : List Byte) (s : State), s.hl.link = true → s.linked = true → (b.take 6 = fit 6 Config.mac ∨ beAt b 0 6 = 0xFFFFFFFFFFFF) → beAt b 12 2 = 0x0806 → 42 ≤ b.length → beAt b 14 6 = 0x000108000604 → (beAt b 20 2 = 1 ∨ beAt b 20 2 = 2) → beAt b 38 4 = s.ipAct →
    ∃ t, exec (.ethernetFrameRx b) s = .next t ∧ t.hl.arp = ((beAt b 28 4, beAt b 22 6, s.tick) :: s.hl.arp.filter fun e => e.1 != beAt b 28 4 && decide (s.tick < e.2.2 + 60 * 120000000)).take 8 ∧
      t.hl.sent = (if beAt b 20 2 = 1 then [.ether ((b.drop 22).take 6 ++ fit 6 Config.mac ++ be 2 0x0806 ++ be 6 0x000108000604 ++ be 2 2 ++ fit 6 Config.mac ++ be 4 s.ipAct ++ (b.drop 22).take 6 ++ (b.drop 28).take 4)] else []) ++ s.hl.sent ∧ t.hl.disc = s.hl.disc ∧ State.Only [.hl] s t) ∧
  (∀ (b : List Byte) (s : State), s.hl.link = true → s.linked = true → 14 ≤ b.length → (b.take 6 = fit 6 Config.mac ∨ beAt b 0 6 = 0xFFFFFFFFFFFF) → beAt b 12 2 = 0x0800 → ¬ (34 ≤ b.length ∧ beAt b 14 1 = 0x45 ∧ 20 ≤ beAt b 16 2 ∧ 14 + beAt b 16 2 ≤ b.length ∧ beAt b 20 2 % 0x4000 = 0 ∧ beAt b 30 4 = s.ipAct ∧ onesSum ((b.drop 14).take 20) 0 = 0xFFFF) → ∃ t, exec (.ethernetFrameRx b) s = .next t ∧ t.hl = { s.hl with disc := satNat 255 (s.hl.disc + 1) } ∧ State.Only [.hl] s t) ∧
  (∀ (b : List Byte) (s : State), s.hl.link = true → s.linked = true → 14 ≤ b.length → (b.take 6 = fit 6 Config.mac ∨ beAt b 0 6 = 0xFFFFFFFFFFFF) → beAt b 12 2 = 0x0800 → 34 ≤ b.length ∧ beAt b 14 1 = 0x45 ∧ 20 ≤ beAt b 16 2 ∧ 14 + beAt b 16 2 ≤ b.length ∧ beAt b 20 2 % 0x4000 = 0 ∧ beAt b 30 4 = s.ipAct ∧ onesSum ((b.drop 14).take 20) 0 = 0xFFFF → beAt b 23 1 ≠ 1 → beAt b 23 1 ≠ 17 → ∃ t, exec (.ethernetFrameRx b) s = .next t ∧ t.hl = { s.hl with disc := satNat 255 (s.hl.disc + 1) } ∧ State.Only [.hl] s t) ∧
  (∀ (b : List Byte) (s : State), s.hl.link = true → s.linked = true → 14 ≤ b.length → (b.take 6 = fit 6 Config.mac ∨ beAt b 0 6 = 0xFFFFFFFFFFFF) → beAt b 12 2 = 0x0800 → 34 ≤ b.length ∧ beAt b 14 1 = 0x45 ∧ 20 ≤ beAt b 16 2 ∧ 14 + beAt b 16 2 ≤ b.length ∧ beAt b 20 2 % 0x4000 = 0 ∧ beAt b 30 4 = s.ipAct ∧ onesSum ((b.drop 14).take 20) 0 = 0xFFFF → beAt b 23 1 = 1 → 8 ≤ ((b.drop 34).take (beAt b 16 2 - 20)).length → beAt ((b.drop 34).take (beAt b 16 2 - 20)) 0 2 = 0x0800 → onesSum ((b.drop 34).take (beAt b 16 2 - 20)) 0 = 0xFFFF → (bit s.hl.act.cfg 30 = true ∨ 10 ≤ s.hl.echoes ∧ s.tick < s.hl.echoAt + 120000000) → ∃ t, exec (.ethernetFrameRx b) s = .next t ∧ t = s) ∧
  (∀ (b : List Byte) (s : State), s.hl.link = true → s.linked = true → 14 ≤ b.length → (b.take 6 = fit 6 Config.mac ∨ beAt b 0 6 = 0xFFFFFFFFFFFF) → beAt b 12 2 = 0x0800 → 34 ≤ b.length ∧ beAt b 14 1 = 0x45 ∧ 20 ≤ beAt b 16 2 ∧ 14 + beAt b 16 2 ≤ b.length ∧ beAt b 20 2 % 0x4000 = 0 ∧ beAt b 30 4 = s.ipAct ∧ onesSum ((b.drop 14).take 20) 0 = 0xFFFF → beAt b 23 1 = 1 → 8 ≤ ((b.drop 34).take (beAt b 16 2 - 20)).length → beAt ((b.drop 34).take (beAt b 16 2 - 20)) 0 2 = 0x0800 → onesSum ((b.drop 34).take (beAt b 16 2 - 20)) 0 = 0xFFFF → bit s.hl.act.cfg 30 = false → ¬ (10 ≤ s.hl.echoes ∧ s.tick < s.hl.echoAt + 120000000) →
    ∃ t, exec (.ethernetFrameRx b) s = .next t ∧ t.hl.sent = .ether (s.echoFrame b ((b.drop 34).take (beAt b 16 2 - 20)) (beAt b 16 2)) :: s.hl.sent ∧ t.hl.echoes = (if s.echoing then s.hl.echoes else 0) + 1 ∧ t.hl.disc = s.hl.disc ∧ State.Only [.hl] s t) ∧
  (∀ (b : List Byte) (s : State), s.hl.link = true → s.linked = true → 14 ≤ b.length → (b.take 6 = fit 6 Config.mac ∨ beAt b 0 6 = 0xFFFFFFFFFFFF) → beAt b 12 2 = 0x0800 → 34 ≤ b.length ∧ beAt b 14 1 = 0x45 ∧ 20 ≤ beAt b 16 2 ∧ 14 + beAt b 16 2 ≤ b.length ∧ beAt b 20 2 % 0x4000 = 0 ∧ beAt b 30 4 = s.ipAct ∧ onesSum ((b.drop 14).take 20) 0 = 0xFFFF → beAt b 23 1 = 17 → ¬ (8 ≤ ((b.drop 34).take (beAt b 16 2 - 20)).length ∧ beAt ((b.drop 34).take (beAt b 16 2 - 20)) 4 2 = ((b.drop 34).take (beAt b 16 2 - 20)).length ∧ beAt ((b.drop 34).take (beAt b 16 2 - 20)) 2 2 = bits s.hl.act.cfg 0 16 ∧ (beAt ((b.drop 34).take (beAt b 16 2 - 20)) 6 2 = 0 ∨ onesSum (((b.drop 26).take 8 ++ be 2 17 ++ be 2 ((b.drop 34).take (beAt b 16 2 - 20)).length) ++ ((b.drop 34).take (beAt b 16 2 - 20))) 0 = 0xFFFF)) → ∃ t, exec (.ethernetFrameRx b) s = .next t ∧ t.hl = { s.hl with disc := satNat 255 (s.hl.disc + 1) } ∧ State.Only [.hl] s t) ∧
  (∀ (b : List Byte) (s : State), s.hl.link = true → s.linked = true → 14 ≤ b.length → (b.take 6 = fit 6 Config.mac ∨ beAt b 0 6 = 0xFFFFFFFFFFFF) → beAt b 12 2 = 0x0800 → 34 ≤ b.length ∧ beAt b 14 1 = 0x45 ∧ 20 ≤ beAt b 16 2 ∧ 14 + beAt b 16 2 ≤ b.length ∧ beAt b 20 2 % 0x4000 = 0 ∧ beAt b 30 4 = s.ipAct ∧ onesSum ((b.drop 14).take 20) 0 = 0xFFFF → beAt b 23 1 = 17 → 8 ≤ ((b.drop 34).take (beAt b 16 2 - 20)).length ∧ beAt ((b.drop 34).take (beAt b 16 2 - 20)) 4 2 = ((b.drop 34).take (beAt b 16 2 - 20)).length ∧ beAt ((b.drop 34).take (beAt b 16 2 - 20)) 2 2 = bits s.hl.act.cfg 0 16 ∧ (beAt ((b.drop 34).take (beAt b 16 2 - 20)) 6 2 = 0 ∨ onesSum (((b.drop 26).take 8 ++ be 2 17 ++ be 2 ((b.drop 34).take (beAt b 16 2 - 20)).length) ++ ((b.drop 34).take (beAt b 16 2 - 20))) 0 = 0xFFFF) → ((b.drop 34).take (beAt b 16 2 - 20)).length < 20 → ∃ t, exec (.ethernetFrameRx b) s = .next t ∧ t.hl = { s.hl with rxok := (s.hl.rxok + 1) % 65536 } ∧ t.sec = { s.sec with malf := satNat 255 (s.sec.malf + 1) } ∧ State.Only [.hl, .sec] s t) ∧
  (∀ (h : Fin 4) (data : List Byte) (s : State), s.ralar = false ∨ s.canLive 0 = false → ∃ t, exec (.can0Segment h data) s = .next t ∧ t = s) ∧
  (∀ (h : Fin 4) (data : List Byte) (s : State), s.ralar = true → s.canLive 0 = true → s.hl.asm[h] = none → (data.headD 0).toNat = 128 → data.length ≤ 64 → ∃ t, exec (.can0Segment h data) s = .next t ∧ t.hl = { s.hl with asm := upd s.hl.asm h fun _ => some { bytes := data.drop 1, seq := 0, tick := s.tick } } ∧ State.Only [.hl] s t) ∧
  (∀ (h : Fin 4) (data : List Byte) (a : SegAsm) (s : State), s.ralar = true → s.canLive 0 = true → s.hl.asm[h] = some a → s.tick ≤ a.tick + 50 * ticksPerMs → (data.headD 0).toNat = (a.seq + 1) % 64 → a.bytes.length + data.length ≤ 2048 →
    ∃ t, exec (.can0Segment h data) s = .next t ∧ t.hl = { s.hl with asm := upd s.hl.asm h fun _ => some { bytes := a.bytes ++ data.drop 1, seq := a.seq + 1, tick := s.tick } } ∧ State.Only [.hl] s t) ∧
  (∀ (h : Fin 4) (data : List Byte) (a : SegAsm) (s : State), s.ralar = true → s.canLive 0 = true → s.hl.asm[h] = some a → (data.headD 0).toNat < 128 → (a.tick + 50 * ticksPerMs < s.tick ∨ (data.headD 0).toNat % 64 ≠ (a.seq + 1) % 64) →
    ∃ t, exec (.can0Segment h data) s = .next t ∧ t.hl.asm[h] = none ∧ (∀ j : Fin 4, j ≠ h → t.hl.asm[j] = s.hl.asm[j]) ∧ t.hl.canseg = satNat 255 (s.hl.canseg + 1) ∧ t.hl.rxok = s.hl.rxok ∧ State.Only [.hl] s t) ∧
  (∀ (h : Fin 4) (data : List Byte) (s : State), s.ralar = true → s.canLive 0 = true → s.hl.asm[h] = none → (data.headD 0).toNat < 128 → ∃ t, exec (.can0Segment h data) s = .next t ∧ t = s) ∧
  (∀ (h : Fin 4) (data : List Byte) (s : State), s.ralar = true → s.canLive 0 = true → s.hl.asm[h] = none → (data.headD 0).toNat = 192 → data.length ≤ 12 → ∃ t, exec (.can0Segment h data) s = .next t ∧
      t.hl.asm[h] = none ∧ t.hl.rxok = (s.hl.rxok + 1) % 65536 ∧ t.sec = { s.sec with malf := satNat 255 (s.sec.malf + 1) } ∧ State.Only [.hl, .sec] s t)
end

