-- ==== Sys2Proof/Laws/Memory.lean ====
section
/-! SUPPORT. Sparse storage: a read after a write, and the canonical form that every write keeps. -/

namespace Sys2Proof.Machine

open Sys2Proof

variable {α : Type}

/-- A read after a write: the value at the address written, and every other address as before. -/
theorem cellGet_cellSet [DecidableEq α] (z : α) (m : List (Nat × α)) (a b : Nat) (v : α) (lo : Option Nat) (h : cellsFrom z lo m = true) :
    cellGet z (cellSet z m a v) b = if b = a then v else cellGet z m b := by
  induction m generalizing lo with
  | nil => by_cases hv : v = z <;> simp [cellSet, cellGet, hv]
  | cons e m ih =>
    obtain ⟨k, c⟩ := e
    simp only [cellsFrom, Bool.and_eq_true] at h
    have hm := ih _ h.2
    have above : ∀ (n : List (Nat × α)) (l x : Nat), cellsFrom z (some l) n = true → x ≤ l → cellGet z n x = z := by
      intro n
      induction n with
      | nil => intro l x _ _; rfl
      | cons e n ihn =>
        obtain ⟨k', c'⟩ := e
        intro l x hn hx
        simp only [cellsFrom, Bool.and_eq_true, decide_eq_true_eq] at hn
        have : x ≠ k' := by omega
        simp only [cellGet, if_neg this]
        exact ihn k' x hn.2 (by omega)
    unfold cellSet
    by_cases h1 : a < k
    · simp only [if_pos h1]
      by_cases hv : v = z
      · simp only [if_pos hv, cellGet]
        by_cases hb : b = a
        · subst hb
          have : b ≠ k := by omega
          simp only [if_neg this, hv]
          exact above m k b h.2 (by omega)
        · simp only [if_neg hb]
      · simp only [if_neg hv, cellGet]
    · simp only [if_neg h1]
      by_cases h2 : a = k
      · simp only [if_pos h2]
        by_cases hv : v = z
        · simp only [if_pos hv, cellGet]
          by_cases hb : b = a
          · subst hb; subst h2
            simp only [hv]
            exact above m b b h.2 (Nat.le_refl _)
          · have : b ≠ k := by omega
            simp only [if_neg hb, if_neg this]
        · simp only [if_neg hv, cellGet, ← h2]
          split <;> rfl
      · simp only [if_neg h2, cellGet]
        by_cases hb : b = k
        · have : b ≠ a := by omega
          simp only [if_pos hb, if_neg this]
        · simp only [if_neg hb]
          exact hm

/-- A write keeps the canonical form above a bound below its address. -/
theorem cellSet_from [DecidableEq α] (z : α) (m : List (Nat × α)) (a : Nat) (v : α) (lo : Option Nat)
    (h : cellsFrom z lo m = true) (ha : ∀ l, lo = some l → l < a) : cellsFrom z lo (cellSet z m a v) = true := by
  induction m generalizing lo with
  | nil =>
    by_cases hv : v = z
    · simp [cellSet, hv, cellsFrom]
    · cases lo with
      | none => simp [cellSet, hv, cellsFrom]
      | some l => simp [cellSet, hv, cellsFrom, ha l rfl]
  | cons e m ih =>
    obtain ⟨k, c⟩ := e
    simp only [cellsFrom, Bool.and_eq_true] at h
    unfold cellSet
    by_cases h1 : a < k
    · simp only [if_pos h1]
      by_cases hv : v = z
      · simp only [if_pos hv, cellsFrom, Bool.and_eq_true]; exact h
      · simp only [if_neg hv, cellsFrom, Bool.and_eq_true]
        refine ⟨⟨?_, decide_eq_true hv⟩, ⟨decide_eq_true h1, h.1.2⟩, h.2⟩
        cases lo with
        | none => rfl
        | some l => exact decide_eq_true (ha l rfl)
    · simp only [if_neg h1]
      by_cases h2 : a = k
      · simp only [if_pos h2]
        by_cases hv : v = z
        · simp only [if_pos hv]
          cases m with
          | nil => rfl
          | cons e' m' =>
            obtain ⟨k', c'⟩ := e'
            have hm := h.2
            simp only [cellsFrom, Bool.and_eq_true, decide_eq_true_eq] at hm ⊢
            refine ⟨⟨?_, hm.1.2⟩, hm.2⟩
            cases lo with
            | none => rfl
            | some l => exact decide_eq_true (by have := ha l rfl; omega)
        · simp only [if_neg hv, cellsFrom, Bool.and_eq_true]
          refine ⟨⟨?_, decide_eq_true hv⟩, h2 ▸ h.2⟩
          cases lo with
          | none => rfl
          | some l => exact decide_eq_true (ha l rfl)
      · simp only [if_neg h2, cellsFrom, Bool.and_eq_true]
        exact ⟨h.1, ih _ h.2 fun l e => by cases e; omega⟩

/-- A byte written keeps the canonical form. -/
theorem Memory.write_wf (m : Memory) (a : Nat) (b : Byte) (h : m.wf = true) : (m.write a b).wf = true :=
  cellSet_from blankByte m a b none h fun _ e => by cases e

/-- Bytes written keep the canonical form. -/
theorem Memory.writeN_wf (m : Memory) (a : Nat) (bs : List Byte) (h : m.wf = true) : (m.writeN a bs).wf = true := by
  induction bs generalizing m a with
  | nil => exact h
  | cons b bs ih => exact ih _ _ (Memory.write_wf m a b h)

/-- The byte at an address after a byte has been written. -/
theorem Memory.read_write (m : Memory) (a x : Nat) (b : Byte) (h : m.wf = true) : (m.write a b).read x = if x = a then b else m.read x :=
  cellGet_cellSet blankByte m a x b none h

/-- Outside the bytes written every byte is as before. -/
theorem Memory.read_writeN_other (m : Memory) (a x : Nat) (bs : List Byte) (h : m.wf = true) (hx : x < a ∨ a + bs.length ≤ x) :
    (m.writeN a bs).read x = m.read x := by
  induction bs generalizing m a with
  | nil => rfl
  | cons b bs ih =>
    simp only [List.length_cons] at hx
    unfold Memory.writeN
    rw [ih _ _ (Memory.write_wf m a b h) (by omega), Memory.read_write m a x b h, if_neg (by omega)]

/-- The bytes read back where they were written. -/
theorem Memory.readN_writeN (m : Memory) (a : Nat) (bs : List Byte) (h : m.wf = true) : (m.writeN a bs).readN a bs.length = bs := by
  induction bs generalizing m a with
  | nil => rfl
  | cons b bs ih =>
    have hw := Memory.write_wf m a b h
    simp only [List.length_cons, Memory.writeN, Memory.readN]
    rw [ih _ _ hw, Memory.read_writeN_other _ _ _ _ hw (by omega), Memory.read_write m a a b h, if_pos rfl]

end Sys2Proof.Machine
end

