-- ==== Sys2Proof/Laws/State.lean ====
section
/-! SUPPORT. What each update of the state leaves and what it writes, field by field. -/

namespace Sys2Proof.Machine

open Sys2Proof

/-! ### State.onSys -/

@[simp] theorem State.onSys_sys (s : State) (f : SysState → SysState) : (s.onSys f).sys = f s.sys := rfl
@[simp] theorem State.onSys_ports (s : State) (f : SysState → SysState) : (s.onSys f).ports = s.ports := rfl
@[simp] theorem State.onSys_banks (s : State) (f : SysState → SysState) : (s.onSys f).banks = s.banks := rfl
@[simp] theorem State.onSys_sol (s : State) (f : SysState → SysState) : (s.onSys f).sol = s.sol := rfl
@[simp] theorem State.onSys_log (s : State) (f : SysState → SysState) : (s.onSys f).log = s.log := rfl
@[simp] theorem State.onSys_rcp (s : State) (f : SysState → SysState) : (s.onSys f).rcp = s.rcp := rfl
@[simp] theorem State.onSys_sec (s : State) (f : SysState → SysState) : (s.onSys f).sec = s.sec := rfl
@[simp] theorem State.onSys_pwr (s : State) (f : SysState → SysState) : (s.onSys f).pwr = s.pwr := rfl
@[simp] theorem State.onSys_tmb (s : State) (f : SysState → SysState) : (s.onSys f).tmb = s.tmb := rfl
@[simp] theorem State.onSys_gns (s : State) (f : SysState → SysState) : (s.onSys f).gns = s.gns := rfl
@[simp] theorem State.onSys_hie (s : State) (f : SysState → SysState) : (s.onSys f).hie = s.hie := rfl
@[simp] theorem State.onSys_mon (s : State) (f : SysState → SysState) : (s.onSys f).mon = s.mon := rfl
@[simp] theorem State.onSys_cal (s : State) (f : SysState → SysState) : (s.onSys f).cal = s.cal := rfl
@[simp] theorem State.onSys_fan (s : State) (f : SysState → SysState) : (s.onSys f).fan = s.fan := rfl
@[simp] theorem State.onSys_eng (s : State) (f : SysState → SysState) : (s.onSys f).eng = s.eng := rfl
@[simp] theorem State.onSys_sct (s : State) (f : SysState → SysState) : (s.onSys f).sct = s.sct := rfl
@[simp] theorem State.onSys_can (s : State) (f : SysState → SysState) : (s.onSys f).can = s.can := rfl
@[simp] theorem State.onSys_hl (s : State) (f : SysState → SysState) : (s.onSys f).hl = s.hl := rfl
@[simp] theorem State.onSys_apu (s : State) (f : SysState → SysState) : (s.onSys f).apu = s.apu := rfl
@[simp] theorem State.onSys_dma (s : State) (f : SysState → SysState) : (s.onSys f).dma = s.dma := rfl
@[simp] theorem State.onSys_seq (s : State) (f : SysState → SysState) : (s.onSys f).seq = s.seq := rfl
@[simp] theorem State.onSys_mem (s : State) (f : SysState → SysState) : (s.onSys f).mem = s.mem := rfl
@[simp] theorem State.onSys_pending (s : State) (f : SysState → SysState) : (s.onSys f).pending = s.pending := rfl

/-! ### State.onSol -/

@[simp] theorem State.onSol_sys (s : State) (f : SolState → SolState) : (s.onSol f).sys = s.sys := rfl
@[simp] theorem State.onSol_ports (s : State) (f : SolState → SolState) : (s.onSol f).ports = s.ports := rfl
@[simp] theorem State.onSol_banks (s : State) (f : SolState → SolState) : (s.onSol f).banks = s.banks := rfl
@[simp] theorem State.onSol_sol (s : State) (f : SolState → SolState) : (s.onSol f).sol = f s.sol := rfl
@[simp] theorem State.onSol_log (s : State) (f : SolState → SolState) : (s.onSol f).log = s.log := rfl
@[simp] theorem State.onSol_rcp (s : State) (f : SolState → SolState) : (s.onSol f).rcp = s.rcp := rfl
@[simp] theorem State.onSol_sec (s : State) (f : SolState → SolState) : (s.onSol f).sec = s.sec := rfl
@[simp] theorem State.onSol_pwr (s : State) (f : SolState → SolState) : (s.onSol f).pwr = s.pwr := rfl
@[simp] theorem State.onSol_tmb (s : State) (f : SolState → SolState) : (s.onSol f).tmb = s.tmb := rfl
@[simp] theorem State.onSol_gns (s : State) (f : SolState → SolState) : (s.onSol f).gns = s.gns := rfl
@[simp] theorem State.onSol_hie (s : State) (f : SolState → SolState) : (s.onSol f).hie = s.hie := rfl
@[simp] theorem State.onSol_mon (s : State) (f : SolState → SolState) : (s.onSol f).mon = s.mon := rfl
@[simp] theorem State.onSol_cal (s : State) (f : SolState → SolState) : (s.onSol f).cal = s.cal := rfl
@[simp] theorem State.onSol_fan (s : State) (f : SolState → SolState) : (s.onSol f).fan = s.fan := rfl
@[simp] theorem State.onSol_eng (s : State) (f : SolState → SolState) : (s.onSol f).eng = s.eng := rfl
@[simp] theorem State.onSol_sct (s : State) (f : SolState → SolState) : (s.onSol f).sct = s.sct := rfl
@[simp] theorem State.onSol_can (s : State) (f : SolState → SolState) : (s.onSol f).can = s.can := rfl
@[simp] theorem State.onSol_hl (s : State) (f : SolState → SolState) : (s.onSol f).hl = s.hl := rfl
@[simp] theorem State.onSol_apu (s : State) (f : SolState → SolState) : (s.onSol f).apu = s.apu := rfl
@[simp] theorem State.onSol_dma (s : State) (f : SolState → SolState) : (s.onSol f).dma = s.dma := rfl
@[simp] theorem State.onSol_seq (s : State) (f : SolState → SolState) : (s.onSol f).seq = s.seq := rfl
@[simp] theorem State.onSol_mem (s : State) (f : SolState → SolState) : (s.onSol f).mem = s.mem := rfl
@[simp] theorem State.onSol_pending (s : State) (f : SolState → SolState) : (s.onSol f).pending = s.pending := rfl

/-! ### State.onLog -/

@[simp] theorem State.onLog_sys (s : State) (f : RecState → RecState) : (s.onLog f).sys = s.sys := rfl
@[simp] theorem State.onLog_ports (s : State) (f : RecState → RecState) : (s.onLog f).ports = s.ports := rfl
@[simp] theorem State.onLog_banks (s : State) (f : RecState → RecState) : (s.onLog f).banks = s.banks := rfl
@[simp] theorem State.onLog_sol (s : State) (f : RecState → RecState) : (s.onLog f).sol = s.sol := rfl
@[simp] theorem State.onLog_log (s : State) (f : RecState → RecState) : (s.onLog f).log = f s.log := rfl
@[simp] theorem State.onLog_rcp (s : State) (f : RecState → RecState) : (s.onLog f).rcp = s.rcp := rfl
@[simp] theorem State.onLog_sec (s : State) (f : RecState → RecState) : (s.onLog f).sec = s.sec := rfl
@[simp] theorem State.onLog_pwr (s : State) (f : RecState → RecState) : (s.onLog f).pwr = s.pwr := rfl
@[simp] theorem State.onLog_tmb (s : State) (f : RecState → RecState) : (s.onLog f).tmb = s.tmb := rfl
@[simp] theorem State.onLog_gns (s : State) (f : RecState → RecState) : (s.onLog f).gns = s.gns := rfl
@[simp] theorem State.onLog_hie (s : State) (f : RecState → RecState) : (s.onLog f).hie = s.hie := rfl
@[simp] theorem State.onLog_mon (s : State) (f : RecState → RecState) : (s.onLog f).mon = s.mon := rfl
@[simp] theorem State.onLog_cal (s : State) (f : RecState → RecState) : (s.onLog f).cal = s.cal := rfl
@[simp] theorem State.onLog_fan (s : State) (f : RecState → RecState) : (s.onLog f).fan = s.fan := rfl
@[simp] theorem State.onLog_eng (s : State) (f : RecState → RecState) : (s.onLog f).eng = s.eng := rfl
@[simp] theorem State.onLog_sct (s : State) (f : RecState → RecState) : (s.onLog f).sct = s.sct := rfl
@[simp] theorem State.onLog_can (s : State) (f : RecState → RecState) : (s.onLog f).can = s.can := rfl
@[simp] theorem State.onLog_hl (s : State) (f : RecState → RecState) : (s.onLog f).hl = s.hl := rfl
@[simp] theorem State.onLog_apu (s : State) (f : RecState → RecState) : (s.onLog f).apu = s.apu := rfl
@[simp] theorem State.onLog_dma (s : State) (f : RecState → RecState) : (s.onLog f).dma = s.dma := rfl
@[simp] theorem State.onLog_seq (s : State) (f : RecState → RecState) : (s.onLog f).seq = s.seq := rfl
@[simp] theorem State.onLog_mem (s : State) (f : RecState → RecState) : (s.onLog f).mem = s.mem := rfl
@[simp] theorem State.onLog_pending (s : State) (f : RecState → RecState) : (s.onLog f).pending = s.pending := rfl

/-! ### State.onRcp -/

@[simp] theorem State.onRcp_sys (s : State) (f : RcpState → RcpState) : (s.onRcp f).sys = s.sys := rfl
@[simp] theorem State.onRcp_ports (s : State) (f : RcpState → RcpState) : (s.onRcp f).ports = s.ports := rfl
@[simp] theorem State.onRcp_banks (s : State) (f : RcpState → RcpState) : (s.onRcp f).banks = s.banks := rfl
@[simp] theorem State.onRcp_sol (s : State) (f : RcpState → RcpState) : (s.onRcp f).sol = s.sol := rfl
@[simp] theorem State.onRcp_log (s : State) (f : RcpState → RcpState) : (s.onRcp f).log = s.log := rfl
@[simp] theorem State.onRcp_rcp (s : State) (f : RcpState → RcpState) : (s.onRcp f).rcp = f s.rcp := rfl
@[simp] theorem State.onRcp_sec (s : State) (f : RcpState → RcpState) : (s.onRcp f).sec = s.sec := rfl
@[simp] theorem State.onRcp_pwr (s : State) (f : RcpState → RcpState) : (s.onRcp f).pwr = s.pwr := rfl
@[simp] theorem State.onRcp_tmb (s : State) (f : RcpState → RcpState) : (s.onRcp f).tmb = s.tmb := rfl
@[simp] theorem State.onRcp_gns (s : State) (f : RcpState → RcpState) : (s.onRcp f).gns = s.gns := rfl
@[simp] theorem State.onRcp_hie (s : State) (f : RcpState → RcpState) : (s.onRcp f).hie = s.hie := rfl
@[simp] theorem State.onRcp_mon (s : State) (f : RcpState → RcpState) : (s.onRcp f).mon = s.mon := rfl
@[simp] theorem State.onRcp_cal (s : State) (f : RcpState → RcpState) : (s.onRcp f).cal = s.cal := rfl
@[simp] theorem State.onRcp_fan (s : State) (f : RcpState → RcpState) : (s.onRcp f).fan = s.fan := rfl
@[simp] theorem State.onRcp_eng (s : State) (f : RcpState → RcpState) : (s.onRcp f).eng = s.eng := rfl
@[simp] theorem State.onRcp_sct (s : State) (f : RcpState → RcpState) : (s.onRcp f).sct = s.sct := rfl
@[simp] theorem State.onRcp_can (s : State) (f : RcpState → RcpState) : (s.onRcp f).can = s.can := rfl
@[simp] theorem State.onRcp_hl (s : State) (f : RcpState → RcpState) : (s.onRcp f).hl = s.hl := rfl
@[simp] theorem State.onRcp_apu (s : State) (f : RcpState → RcpState) : (s.onRcp f).apu = s.apu := rfl
@[simp] theorem State.onRcp_dma (s : State) (f : RcpState → RcpState) : (s.onRcp f).dma = s.dma := rfl
@[simp] theorem State.onRcp_seq (s : State) (f : RcpState → RcpState) : (s.onRcp f).seq = s.seq := rfl
@[simp] theorem State.onRcp_mem (s : State) (f : RcpState → RcpState) : (s.onRcp f).mem = s.mem := rfl
@[simp] theorem State.onRcp_pending (s : State) (f : RcpState → RcpState) : (s.onRcp f).pending = s.pending := rfl

/-! ### State.onSec -/

@[simp] theorem State.onSec_sys (s : State) (f : SecState → SecState) : (s.onSec f).sys = s.sys := rfl
@[simp] theorem State.onSec_ports (s : State) (f : SecState → SecState) : (s.onSec f).ports = s.ports := rfl
@[simp] theorem State.onSec_banks (s : State) (f : SecState → SecState) : (s.onSec f).banks = s.banks := rfl
@[simp] theorem State.onSec_sol (s : State) (f : SecState → SecState) : (s.onSec f).sol = s.sol := rfl
@[simp] theorem State.onSec_log (s : State) (f : SecState → SecState) : (s.onSec f).log = s.log := rfl
@[simp] theorem State.onSec_rcp (s : State) (f : SecState → SecState) : (s.onSec f).rcp = s.rcp := rfl
@[simp] theorem State.onSec_sec (s : State) (f : SecState → SecState) : (s.onSec f).sec = f s.sec := rfl
@[simp] theorem State.onSec_pwr (s : State) (f : SecState → SecState) : (s.onSec f).pwr = s.pwr := rfl
@[simp] theorem State.onSec_tmb (s : State) (f : SecState → SecState) : (s.onSec f).tmb = s.tmb := rfl
@[simp] theorem State.onSec_gns (s : State) (f : SecState → SecState) : (s.onSec f).gns = s.gns := rfl
@[simp] theorem State.onSec_hie (s : State) (f : SecState → SecState) : (s.onSec f).hie = s.hie := rfl
@[simp] theorem State.onSec_mon (s : State) (f : SecState → SecState) : (s.onSec f).mon = s.mon := rfl
@[simp] theorem State.onSec_cal (s : State) (f : SecState → SecState) : (s.onSec f).cal = s.cal := rfl
@[simp] theorem State.onSec_fan (s : State) (f : SecState → SecState) : (s.onSec f).fan = s.fan := rfl
@[simp] theorem State.onSec_eng (s : State) (f : SecState → SecState) : (s.onSec f).eng = s.eng := rfl
@[simp] theorem State.onSec_sct (s : State) (f : SecState → SecState) : (s.onSec f).sct = s.sct := rfl
@[simp] theorem State.onSec_can (s : State) (f : SecState → SecState) : (s.onSec f).can = s.can := rfl
@[simp] theorem State.onSec_hl (s : State) (f : SecState → SecState) : (s.onSec f).hl = s.hl := rfl
@[simp] theorem State.onSec_apu (s : State) (f : SecState → SecState) : (s.onSec f).apu = s.apu := rfl
@[simp] theorem State.onSec_dma (s : State) (f : SecState → SecState) : (s.onSec f).dma = s.dma := rfl
@[simp] theorem State.onSec_seq (s : State) (f : SecState → SecState) : (s.onSec f).seq = s.seq := rfl
@[simp] theorem State.onSec_mem (s : State) (f : SecState → SecState) : (s.onSec f).mem = s.mem := rfl
@[simp] theorem State.onSec_pending (s : State) (f : SecState → SecState) : (s.onSec f).pending = s.pending := rfl

/-! ### State.onPwr -/

@[simp] theorem State.onPwr_sys (s : State) (f : PwrState → PwrState) : (s.onPwr f).sys = s.sys := rfl
@[simp] theorem State.onPwr_ports (s : State) (f : PwrState → PwrState) : (s.onPwr f).ports = s.ports := rfl
@[simp] theorem State.onPwr_banks (s : State) (f : PwrState → PwrState) : (s.onPwr f).banks = s.banks := rfl
@[simp] theorem State.onPwr_sol (s : State) (f : PwrState → PwrState) : (s.onPwr f).sol = s.sol := rfl
@[simp] theorem State.onPwr_log (s : State) (f : PwrState → PwrState) : (s.onPwr f).log = s.log := rfl
@[simp] theorem State.onPwr_rcp (s : State) (f : PwrState → PwrState) : (s.onPwr f).rcp = s.rcp := rfl
@[simp] theorem State.onPwr_sec (s : State) (f : PwrState → PwrState) : (s.onPwr f).sec = s.sec := rfl
@[simp] theorem State.onPwr_pwr (s : State) (f : PwrState → PwrState) : (s.onPwr f).pwr = f s.pwr := rfl
@[simp] theorem State.onPwr_tmb (s : State) (f : PwrState → PwrState) : (s.onPwr f).tmb = s.tmb := rfl
@[simp] theorem State.onPwr_gns (s : State) (f : PwrState → PwrState) : (s.onPwr f).gns = s.gns := rfl
@[simp] theorem State.onPwr_hie (s : State) (f : PwrState → PwrState) : (s.onPwr f).hie = s.hie := rfl
@[simp] theorem State.onPwr_mon (s : State) (f : PwrState → PwrState) : (s.onPwr f).mon = s.mon := rfl
@[simp] theorem State.onPwr_cal (s : State) (f : PwrState → PwrState) : (s.onPwr f).cal = s.cal := rfl
@[simp] theorem State.onPwr_fan (s : State) (f : PwrState → PwrState) : (s.onPwr f).fan = s.fan := rfl
@[simp] theorem State.onPwr_eng (s : State) (f : PwrState → PwrState) : (s.onPwr f).eng = s.eng := rfl
@[simp] theorem State.onPwr_sct (s : State) (f : PwrState → PwrState) : (s.onPwr f).sct = s.sct := rfl
@[simp] theorem State.onPwr_can (s : State) (f : PwrState → PwrState) : (s.onPwr f).can = s.can := rfl
@[simp] theorem State.onPwr_hl (s : State) (f : PwrState → PwrState) : (s.onPwr f).hl = s.hl := rfl
@[simp] theorem State.onPwr_apu (s : State) (f : PwrState → PwrState) : (s.onPwr f).apu = s.apu := rfl
@[simp] theorem State.onPwr_dma (s : State) (f : PwrState → PwrState) : (s.onPwr f).dma = s.dma := rfl
@[simp] theorem State.onPwr_seq (s : State) (f : PwrState → PwrState) : (s.onPwr f).seq = s.seq := rfl
@[simp] theorem State.onPwr_mem (s : State) (f : PwrState → PwrState) : (s.onPwr f).mem = s.mem := rfl
@[simp] theorem State.onPwr_pending (s : State) (f : PwrState → PwrState) : (s.onPwr f).pending = s.pending := rfl

/-! ### State.onTmb -/

@[simp] theorem State.onTmb_sys (s : State) (f : TmbState → TmbState) : (s.onTmb f).sys = s.sys := rfl
@[simp] theorem State.onTmb_ports (s : State) (f : TmbState → TmbState) : (s.onTmb f).ports = s.ports := rfl
@[simp] theorem State.onTmb_banks (s : State) (f : TmbState → TmbState) : (s.onTmb f).banks = s.banks := rfl
@[simp] theorem State.onTmb_sol (s : State) (f : TmbState → TmbState) : (s.onTmb f).sol = s.sol := rfl
@[simp] theorem State.onTmb_log (s : State) (f : TmbState → TmbState) : (s.onTmb f).log = s.log := rfl
@[simp] theorem State.onTmb_rcp (s : State) (f : TmbState → TmbState) : (s.onTmb f).rcp = s.rcp := rfl
@[simp] theorem State.onTmb_sec (s : State) (f : TmbState → TmbState) : (s.onTmb f).sec = s.sec := rfl
@[simp] theorem State.onTmb_pwr (s : State) (f : TmbState → TmbState) : (s.onTmb f).pwr = s.pwr := rfl
@[simp] theorem State.onTmb_tmb (s : State) (f : TmbState → TmbState) : (s.onTmb f).tmb = f s.tmb := rfl
@[simp] theorem State.onTmb_gns (s : State) (f : TmbState → TmbState) : (s.onTmb f).gns = s.gns := rfl
@[simp] theorem State.onTmb_hie (s : State) (f : TmbState → TmbState) : (s.onTmb f).hie = s.hie := rfl
@[simp] theorem State.onTmb_mon (s : State) (f : TmbState → TmbState) : (s.onTmb f).mon = s.mon := rfl
@[simp] theorem State.onTmb_cal (s : State) (f : TmbState → TmbState) : (s.onTmb f).cal = s.cal := rfl
@[simp] theorem State.onTmb_fan (s : State) (f : TmbState → TmbState) : (s.onTmb f).fan = s.fan := rfl
@[simp] theorem State.onTmb_eng (s : State) (f : TmbState → TmbState) : (s.onTmb f).eng = s.eng := rfl
@[simp] theorem State.onTmb_sct (s : State) (f : TmbState → TmbState) : (s.onTmb f).sct = s.sct := rfl
@[simp] theorem State.onTmb_can (s : State) (f : TmbState → TmbState) : (s.onTmb f).can = s.can := rfl
@[simp] theorem State.onTmb_hl (s : State) (f : TmbState → TmbState) : (s.onTmb f).hl = s.hl := rfl
@[simp] theorem State.onTmb_apu (s : State) (f : TmbState → TmbState) : (s.onTmb f).apu = s.apu := rfl
@[simp] theorem State.onTmb_dma (s : State) (f : TmbState → TmbState) : (s.onTmb f).dma = s.dma := rfl
@[simp] theorem State.onTmb_seq (s : State) (f : TmbState → TmbState) : (s.onTmb f).seq = s.seq := rfl
@[simp] theorem State.onTmb_mem (s : State) (f : TmbState → TmbState) : (s.onTmb f).mem = s.mem := rfl
@[simp] theorem State.onTmb_pending (s : State) (f : TmbState → TmbState) : (s.onTmb f).pending = s.pending := rfl

/-! ### State.onMon -/

@[simp] theorem State.onMon_sys (s : State) (f : MonState → MonState) : (s.onMon f).sys = s.sys := rfl
@[simp] theorem State.onMon_ports (s : State) (f : MonState → MonState) : (s.onMon f).ports = s.ports := rfl
@[simp] theorem State.onMon_banks (s : State) (f : MonState → MonState) : (s.onMon f).banks = s.banks := rfl
@[simp] theorem State.onMon_sol (s : State) (f : MonState → MonState) : (s.onMon f).sol = s.sol := rfl
@[simp] theorem State.onMon_log (s : State) (f : MonState → MonState) : (s.onMon f).log = s.log := rfl
@[simp] theorem State.onMon_rcp (s : State) (f : MonState → MonState) : (s.onMon f).rcp = s.rcp := rfl
@[simp] theorem State.onMon_sec (s : State) (f : MonState → MonState) : (s.onMon f).sec = s.sec := rfl
@[simp] theorem State.onMon_pwr (s : State) (f : MonState → MonState) : (s.onMon f).pwr = s.pwr := rfl
@[simp] theorem State.onMon_tmb (s : State) (f : MonState → MonState) : (s.onMon f).tmb = s.tmb := rfl
@[simp] theorem State.onMon_gns (s : State) (f : MonState → MonState) : (s.onMon f).gns = s.gns := rfl
@[simp] theorem State.onMon_hie (s : State) (f : MonState → MonState) : (s.onMon f).hie = s.hie := rfl
@[simp] theorem State.onMon_mon (s : State) (f : MonState → MonState) : (s.onMon f).mon = f s.mon := rfl
@[simp] theorem State.onMon_cal (s : State) (f : MonState → MonState) : (s.onMon f).cal = s.cal := rfl
@[simp] theorem State.onMon_fan (s : State) (f : MonState → MonState) : (s.onMon f).fan = s.fan := rfl
@[simp] theorem State.onMon_eng (s : State) (f : MonState → MonState) : (s.onMon f).eng = s.eng := rfl
@[simp] theorem State.onMon_sct (s : State) (f : MonState → MonState) : (s.onMon f).sct = s.sct := rfl
@[simp] theorem State.onMon_can (s : State) (f : MonState → MonState) : (s.onMon f).can = s.can := rfl
@[simp] theorem State.onMon_hl (s : State) (f : MonState → MonState) : (s.onMon f).hl = s.hl := rfl
@[simp] theorem State.onMon_apu (s : State) (f : MonState → MonState) : (s.onMon f).apu = s.apu := rfl
@[simp] theorem State.onMon_dma (s : State) (f : MonState → MonState) : (s.onMon f).dma = s.dma := rfl
@[simp] theorem State.onMon_seq (s : State) (f : MonState → MonState) : (s.onMon f).seq = s.seq := rfl
@[simp] theorem State.onMon_mem (s : State) (f : MonState → MonState) : (s.onMon f).mem = s.mem := rfl
@[simp] theorem State.onMon_pending (s : State) (f : MonState → MonState) : (s.onMon f).pending = s.pending := rfl

/-! ### State.onFan -/

@[simp] theorem State.onFan_sys (s : State) (f : FanState → FanState) : (s.onFan f).sys = s.sys := rfl
@[simp] theorem State.onFan_ports (s : State) (f : FanState → FanState) : (s.onFan f).ports = s.ports := rfl
@[simp] theorem State.onFan_banks (s : State) (f : FanState → FanState) : (s.onFan f).banks = s.banks := rfl
@[simp] theorem State.onFan_sol (s : State) (f : FanState → FanState) : (s.onFan f).sol = s.sol := rfl
@[simp] theorem State.onFan_log (s : State) (f : FanState → FanState) : (s.onFan f).log = s.log := rfl
@[simp] theorem State.onFan_rcp (s : State) (f : FanState → FanState) : (s.onFan f).rcp = s.rcp := rfl
@[simp] theorem State.onFan_sec (s : State) (f : FanState → FanState) : (s.onFan f).sec = s.sec := rfl
@[simp] theorem State.onFan_pwr (s : State) (f : FanState → FanState) : (s.onFan f).pwr = s.pwr := rfl
@[simp] theorem State.onFan_tmb (s : State) (f : FanState → FanState) : (s.onFan f).tmb = s.tmb := rfl
@[simp] theorem State.onFan_gns (s : State) (f : FanState → FanState) : (s.onFan f).gns = s.gns := rfl
@[simp] theorem State.onFan_hie (s : State) (f : FanState → FanState) : (s.onFan f).hie = s.hie := rfl
@[simp] theorem State.onFan_mon (s : State) (f : FanState → FanState) : (s.onFan f).mon = s.mon := rfl
@[simp] theorem State.onFan_cal (s : State) (f : FanState → FanState) : (s.onFan f).cal = s.cal := rfl
@[simp] theorem State.onFan_fan (s : State) (f : FanState → FanState) : (s.onFan f).fan = f s.fan := rfl
@[simp] theorem State.onFan_eng (s : State) (f : FanState → FanState) : (s.onFan f).eng = s.eng := rfl
@[simp] theorem State.onFan_sct (s : State) (f : FanState → FanState) : (s.onFan f).sct = s.sct := rfl
@[simp] theorem State.onFan_can (s : State) (f : FanState → FanState) : (s.onFan f).can = s.can := rfl
@[simp] theorem State.onFan_hl (s : State) (f : FanState → FanState) : (s.onFan f).hl = s.hl := rfl
@[simp] theorem State.onFan_apu (s : State) (f : FanState → FanState) : (s.onFan f).apu = s.apu := rfl
@[simp] theorem State.onFan_dma (s : State) (f : FanState → FanState) : (s.onFan f).dma = s.dma := rfl
@[simp] theorem State.onFan_seq (s : State) (f : FanState → FanState) : (s.onFan f).seq = s.seq := rfl
@[simp] theorem State.onFan_mem (s : State) (f : FanState → FanState) : (s.onFan f).mem = s.mem := rfl
@[simp] theorem State.onFan_pending (s : State) (f : FanState → FanState) : (s.onFan f).pending = s.pending := rfl

/-! ### State.onEng -/

@[simp] theorem State.onEng_sys (s : State) (f : EngState → EngState) : (s.onEng f).sys = s.sys := rfl
@[simp] theorem State.onEng_ports (s : State) (f : EngState → EngState) : (s.onEng f).ports = s.ports := rfl
@[simp] theorem State.onEng_banks (s : State) (f : EngState → EngState) : (s.onEng f).banks = s.banks := rfl
@[simp] theorem State.onEng_sol (s : State) (f : EngState → EngState) : (s.onEng f).sol = s.sol := rfl
@[simp] theorem State.onEng_log (s : State) (f : EngState → EngState) : (s.onEng f).log = s.log := rfl
@[simp] theorem State.onEng_rcp (s : State) (f : EngState → EngState) : (s.onEng f).rcp = s.rcp := rfl
@[simp] theorem State.onEng_sec (s : State) (f : EngState → EngState) : (s.onEng f).sec = s.sec := rfl
@[simp] theorem State.onEng_pwr (s : State) (f : EngState → EngState) : (s.onEng f).pwr = s.pwr := rfl
@[simp] theorem State.onEng_tmb (s : State) (f : EngState → EngState) : (s.onEng f).tmb = s.tmb := rfl
@[simp] theorem State.onEng_gns (s : State) (f : EngState → EngState) : (s.onEng f).gns = s.gns := rfl
@[simp] theorem State.onEng_hie (s : State) (f : EngState → EngState) : (s.onEng f).hie = s.hie := rfl
@[simp] theorem State.onEng_mon (s : State) (f : EngState → EngState) : (s.onEng f).mon = s.mon := rfl
@[simp] theorem State.onEng_cal (s : State) (f : EngState → EngState) : (s.onEng f).cal = s.cal := rfl
@[simp] theorem State.onEng_fan (s : State) (f : EngState → EngState) : (s.onEng f).fan = s.fan := rfl
@[simp] theorem State.onEng_eng (s : State) (f : EngState → EngState) : (s.onEng f).eng = f s.eng := rfl
@[simp] theorem State.onEng_sct (s : State) (f : EngState → EngState) : (s.onEng f).sct = s.sct := rfl
@[simp] theorem State.onEng_can (s : State) (f : EngState → EngState) : (s.onEng f).can = s.can := rfl
@[simp] theorem State.onEng_hl (s : State) (f : EngState → EngState) : (s.onEng f).hl = s.hl := rfl
@[simp] theorem State.onEng_apu (s : State) (f : EngState → EngState) : (s.onEng f).apu = s.apu := rfl
@[simp] theorem State.onEng_dma (s : State) (f : EngState → EngState) : (s.onEng f).dma = s.dma := rfl
@[simp] theorem State.onEng_seq (s : State) (f : EngState → EngState) : (s.onEng f).seq = s.seq := rfl
@[simp] theorem State.onEng_mem (s : State) (f : EngState → EngState) : (s.onEng f).mem = s.mem := rfl
@[simp] theorem State.onEng_pending (s : State) (f : EngState → EngState) : (s.onEng f).pending = s.pending := rfl

/-! ### State.onSct -/

@[simp] theorem State.onSct_sys (s : State) (f : SctState → SctState) : (s.onSct f).sys = s.sys := rfl
@[simp] theorem State.onSct_ports (s : State) (f : SctState → SctState) : (s.onSct f).ports = s.ports := rfl
@[simp] theorem State.onSct_banks (s : State) (f : SctState → SctState) : (s.onSct f).banks = s.banks := rfl
@[simp] theorem State.onSct_sol (s : State) (f : SctState → SctState) : (s.onSct f).sol = s.sol := rfl
@[simp] theorem State.onSct_log (s : State) (f : SctState → SctState) : (s.onSct f).log = s.log := rfl
@[simp] theorem State.onSct_rcp (s : State) (f : SctState → SctState) : (s.onSct f).rcp = s.rcp := rfl
@[simp] theorem State.onSct_sec (s : State) (f : SctState → SctState) : (s.onSct f).sec = s.sec := rfl
@[simp] theorem State.onSct_pwr (s : State) (f : SctState → SctState) : (s.onSct f).pwr = s.pwr := rfl
@[simp] theorem State.onSct_tmb (s : State) (f : SctState → SctState) : (s.onSct f).tmb = s.tmb := rfl
@[simp] theorem State.onSct_gns (s : State) (f : SctState → SctState) : (s.onSct f).gns = s.gns := rfl
@[simp] theorem State.onSct_hie (s : State) (f : SctState → SctState) : (s.onSct f).hie = s.hie := rfl
@[simp] theorem State.onSct_mon (s : State) (f : SctState → SctState) : (s.onSct f).mon = s.mon := rfl
@[simp] theorem State.onSct_cal (s : State) (f : SctState → SctState) : (s.onSct f).cal = s.cal := rfl
@[simp] theorem State.onSct_fan (s : State) (f : SctState → SctState) : (s.onSct f).fan = s.fan := rfl
@[simp] theorem State.onSct_eng (s : State) (f : SctState → SctState) : (s.onSct f).eng = s.eng := rfl
@[simp] theorem State.onSct_sct (s : State) (f : SctState → SctState) : (s.onSct f).sct = f s.sct := rfl
@[simp] theorem State.onSct_can (s : State) (f : SctState → SctState) : (s.onSct f).can = s.can := rfl
@[simp] theorem State.onSct_hl (s : State) (f : SctState → SctState) : (s.onSct f).hl = s.hl := rfl
@[simp] theorem State.onSct_apu (s : State) (f : SctState → SctState) : (s.onSct f).apu = s.apu := rfl
@[simp] theorem State.onSct_dma (s : State) (f : SctState → SctState) : (s.onSct f).dma = s.dma := rfl
@[simp] theorem State.onSct_seq (s : State) (f : SctState → SctState) : (s.onSct f).seq = s.seq := rfl
@[simp] theorem State.onSct_mem (s : State) (f : SctState → SctState) : (s.onSct f).mem = s.mem := rfl
@[simp] theorem State.onSct_pending (s : State) (f : SctState → SctState) : (s.onSct f).pending = s.pending := rfl

/-! ### State.onGns -/

@[simp] theorem State.onGns_sys (s : State) (f : GnsState → GnsState) : (s.onGns f).sys = s.sys := rfl
@[simp] theorem State.onGns_ports (s : State) (f : GnsState → GnsState) : (s.onGns f).ports = s.ports := rfl
@[simp] theorem State.onGns_banks (s : State) (f : GnsState → GnsState) : (s.onGns f).banks = s.banks := rfl
@[simp] theorem State.onGns_sol (s : State) (f : GnsState → GnsState) : (s.onGns f).sol = s.sol := rfl
@[simp] theorem State.onGns_log (s : State) (f : GnsState → GnsState) : (s.onGns f).log = s.log := rfl
@[simp] theorem State.onGns_rcp (s : State) (f : GnsState → GnsState) : (s.onGns f).rcp = s.rcp := rfl
@[simp] theorem State.onGns_sec (s : State) (f : GnsState → GnsState) : (s.onGns f).sec = s.sec := rfl
@[simp] theorem State.onGns_pwr (s : State) (f : GnsState → GnsState) : (s.onGns f).pwr = s.pwr := rfl
@[simp] theorem State.onGns_tmb (s : State) (f : GnsState → GnsState) : (s.onGns f).tmb = s.tmb := rfl
@[simp] theorem State.onGns_gns (s : State) (f : GnsState → GnsState) : (s.onGns f).gns = f s.gns := rfl
@[simp] theorem State.onGns_hie (s : State) (f : GnsState → GnsState) : (s.onGns f).hie = s.hie := rfl
@[simp] theorem State.onGns_mon (s : State) (f : GnsState → GnsState) : (s.onGns f).mon = s.mon := rfl
@[simp] theorem State.onGns_cal (s : State) (f : GnsState → GnsState) : (s.onGns f).cal = s.cal := rfl
@[simp] theorem State.onGns_fan (s : State) (f : GnsState → GnsState) : (s.onGns f).fan = s.fan := rfl
@[simp] theorem State.onGns_eng (s : State) (f : GnsState → GnsState) : (s.onGns f).eng = s.eng := rfl
@[simp] theorem State.onGns_sct (s : State) (f : GnsState → GnsState) : (s.onGns f).sct = s.sct := rfl
@[simp] theorem State.onGns_can (s : State) (f : GnsState → GnsState) : (s.onGns f).can = s.can := rfl
@[simp] theorem State.onGns_hl (s : State) (f : GnsState → GnsState) : (s.onGns f).hl = s.hl := rfl
@[simp] theorem State.onGns_apu (s : State) (f : GnsState → GnsState) : (s.onGns f).apu = s.apu := rfl
@[simp] theorem State.onGns_dma (s : State) (f : GnsState → GnsState) : (s.onGns f).dma = s.dma := rfl
@[simp] theorem State.onGns_seq (s : State) (f : GnsState → GnsState) : (s.onGns f).seq = s.seq := rfl
@[simp] theorem State.onGns_mem (s : State) (f : GnsState → GnsState) : (s.onGns f).mem = s.mem := rfl
@[simp] theorem State.onGns_pending (s : State) (f : GnsState → GnsState) : (s.onGns f).pending = s.pending := rfl

/-! ### State.onHie -/

@[simp] theorem State.onHie_sys (s : State) (f : HieState → HieState) : (s.onHie f).sys = s.sys := rfl
@[simp] theorem State.onHie_ports (s : State) (f : HieState → HieState) : (s.onHie f).ports = s.ports := rfl
@[simp] theorem State.onHie_banks (s : State) (f : HieState → HieState) : (s.onHie f).banks = s.banks := rfl
@[simp] theorem State.onHie_sol (s : State) (f : HieState → HieState) : (s.onHie f).sol = s.sol := rfl
@[simp] theorem State.onHie_log (s : State) (f : HieState → HieState) : (s.onHie f).log = s.log := rfl
@[simp] theorem State.onHie_rcp (s : State) (f : HieState → HieState) : (s.onHie f).rcp = s.rcp := rfl
@[simp] theorem State.onHie_sec (s : State) (f : HieState → HieState) : (s.onHie f).sec = s.sec := rfl
@[simp] theorem State.onHie_pwr (s : State) (f : HieState → HieState) : (s.onHie f).pwr = s.pwr := rfl
@[simp] theorem State.onHie_tmb (s : State) (f : HieState → HieState) : (s.onHie f).tmb = s.tmb := rfl
@[simp] theorem State.onHie_gns (s : State) (f : HieState → HieState) : (s.onHie f).gns = s.gns := rfl
@[simp] theorem State.onHie_hie (s : State) (f : HieState → HieState) : (s.onHie f).hie = f s.hie := rfl
@[simp] theorem State.onHie_mon (s : State) (f : HieState → HieState) : (s.onHie f).mon = s.mon := rfl
@[simp] theorem State.onHie_cal (s : State) (f : HieState → HieState) : (s.onHie f).cal = s.cal := rfl
@[simp] theorem State.onHie_fan (s : State) (f : HieState → HieState) : (s.onHie f).fan = s.fan := rfl
@[simp] theorem State.onHie_eng (s : State) (f : HieState → HieState) : (s.onHie f).eng = s.eng := rfl
@[simp] theorem State.onHie_sct (s : State) (f : HieState → HieState) : (s.onHie f).sct = s.sct := rfl
@[simp] theorem State.onHie_can (s : State) (f : HieState → HieState) : (s.onHie f).can = s.can := rfl
@[simp] theorem State.onHie_hl (s : State) (f : HieState → HieState) : (s.onHie f).hl = s.hl := rfl
@[simp] theorem State.onHie_apu (s : State) (f : HieState → HieState) : (s.onHie f).apu = s.apu := rfl
@[simp] theorem State.onHie_dma (s : State) (f : HieState → HieState) : (s.onHie f).dma = s.dma := rfl
@[simp] theorem State.onHie_seq (s : State) (f : HieState → HieState) : (s.onHie f).seq = s.seq := rfl
@[simp] theorem State.onHie_mem (s : State) (f : HieState → HieState) : (s.onHie f).mem = s.mem := rfl
@[simp] theorem State.onHie_pending (s : State) (f : HieState → HieState) : (s.onHie f).pending = s.pending := rfl

/-! ### State.onHl -/

@[simp] theorem State.onHl_sys (s : State) (f : HostState → HostState) : (s.onHl f).sys = s.sys := rfl
@[simp] theorem State.onHl_ports (s : State) (f : HostState → HostState) : (s.onHl f).ports = s.ports := rfl
@[simp] theorem State.onHl_banks (s : State) (f : HostState → HostState) : (s.onHl f).banks = s.banks := rfl
@[simp] theorem State.onHl_sol (s : State) (f : HostState → HostState) : (s.onHl f).sol = s.sol := rfl
@[simp] theorem State.onHl_log (s : State) (f : HostState → HostState) : (s.onHl f).log = s.log := rfl
@[simp] theorem State.onHl_rcp (s : State) (f : HostState → HostState) : (s.onHl f).rcp = s.rcp := rfl
@[simp] theorem State.onHl_sec (s : State) (f : HostState → HostState) : (s.onHl f).sec = s.sec := rfl
@[simp] theorem State.onHl_pwr (s : State) (f : HostState → HostState) : (s.onHl f).pwr = s.pwr := rfl
@[simp] theorem State.onHl_tmb (s : State) (f : HostState → HostState) : (s.onHl f).tmb = s.tmb := rfl
@[simp] theorem State.onHl_gns (s : State) (f : HostState → HostState) : (s.onHl f).gns = s.gns := rfl
@[simp] theorem State.onHl_hie (s : State) (f : HostState → HostState) : (s.onHl f).hie = s.hie := rfl
@[simp] theorem State.onHl_mon (s : State) (f : HostState → HostState) : (s.onHl f).mon = s.mon := rfl
@[simp] theorem State.onHl_cal (s : State) (f : HostState → HostState) : (s.onHl f).cal = s.cal := rfl
@[simp] theorem State.onHl_fan (s : State) (f : HostState → HostState) : (s.onHl f).fan = s.fan := rfl
@[simp] theorem State.onHl_eng (s : State) (f : HostState → HostState) : (s.onHl f).eng = s.eng := rfl
@[simp] theorem State.onHl_sct (s : State) (f : HostState → HostState) : (s.onHl f).sct = s.sct := rfl
@[simp] theorem State.onHl_can (s : State) (f : HostState → HostState) : (s.onHl f).can = s.can := rfl
@[simp] theorem State.onHl_hl (s : State) (f : HostState → HostState) : (s.onHl f).hl = f s.hl := rfl
@[simp] theorem State.onHl_apu (s : State) (f : HostState → HostState) : (s.onHl f).apu = s.apu := rfl
@[simp] theorem State.onHl_dma (s : State) (f : HostState → HostState) : (s.onHl f).dma = s.dma := rfl
@[simp] theorem State.onHl_seq (s : State) (f : HostState → HostState) : (s.onHl f).seq = s.seq := rfl
@[simp] theorem State.onHl_mem (s : State) (f : HostState → HostState) : (s.onHl f).mem = s.mem := rfl
@[simp] theorem State.onHl_pending (s : State) (f : HostState → HostState) : (s.onHl f).pending = s.pending := rfl

/-! ### State.onApu -/

@[simp] theorem State.onApu_sys (s : State) (f : ApuState → ApuState) : (s.onApu f).sys = s.sys := rfl
@[simp] theorem State.onApu_ports (s : State) (f : ApuState → ApuState) : (s.onApu f).ports = s.ports := rfl
@[simp] theorem State.onApu_banks (s : State) (f : ApuState → ApuState) : (s.onApu f).banks = s.banks := rfl
@[simp] theorem State.onApu_sol (s : State) (f : ApuState → ApuState) : (s.onApu f).sol = s.sol := rfl
@[simp] theorem State.onApu_log (s : State) (f : ApuState → ApuState) : (s.onApu f).log = s.log := rfl
@[simp] theorem State.onApu_rcp (s : State) (f : ApuState → ApuState) : (s.onApu f).rcp = s.rcp := rfl
@[simp] theorem State.onApu_sec (s : State) (f : ApuState → ApuState) : (s.onApu f).sec = s.sec := rfl
@[simp] theorem State.onApu_pwr (s : State) (f : ApuState → ApuState) : (s.onApu f).pwr = s.pwr := rfl
@[simp] theorem State.onApu_tmb (s : State) (f : ApuState → ApuState) : (s.onApu f).tmb = s.tmb := rfl
@[simp] theorem State.onApu_gns (s : State) (f : ApuState → ApuState) : (s.onApu f).gns = s.gns := rfl
@[simp] theorem State.onApu_hie (s : State) (f : ApuState → ApuState) : (s.onApu f).hie = s.hie := rfl
@[simp] theorem State.onApu_mon (s : State) (f : ApuState → ApuState) : (s.onApu f).mon = s.mon := rfl
@[simp] theorem State.onApu_cal (s : State) (f : ApuState → ApuState) : (s.onApu f).cal = s.cal := rfl
@[simp] theorem State.onApu_fan (s : State) (f : ApuState → ApuState) : (s.onApu f).fan = s.fan := rfl
@[simp] theorem State.onApu_eng (s : State) (f : ApuState → ApuState) : (s.onApu f).eng = s.eng := rfl
@[simp] theorem State.onApu_sct (s : State) (f : ApuState → ApuState) : (s.onApu f).sct = s.sct := rfl
@[simp] theorem State.onApu_can (s : State) (f : ApuState → ApuState) : (s.onApu f).can = s.can := rfl
@[simp] theorem State.onApu_hl (s : State) (f : ApuState → ApuState) : (s.onApu f).hl = s.hl := rfl
@[simp] theorem State.onApu_apu (s : State) (f : ApuState → ApuState) : (s.onApu f).apu = f s.apu := rfl
@[simp] theorem State.onApu_dma (s : State) (f : ApuState → ApuState) : (s.onApu f).dma = s.dma := rfl
@[simp] theorem State.onApu_seq (s : State) (f : ApuState → ApuState) : (s.onApu f).seq = s.seq := rfl
@[simp] theorem State.onApu_mem (s : State) (f : ApuState → ApuState) : (s.onApu f).mem = s.mem := rfl
@[simp] theorem State.onApu_pending (s : State) (f : ApuState → ApuState) : (s.onApu f).pending = s.pending := rfl

/-! ### State.onDma -/

@[simp] theorem State.onDma_sys (s : State) (f : DmaState → DmaState) : (s.onDma f).sys = s.sys := rfl
@[simp] theorem State.onDma_ports (s : State) (f : DmaState → DmaState) : (s.onDma f).ports = s.ports := rfl
@[simp] theorem State.onDma_banks (s : State) (f : DmaState → DmaState) : (s.onDma f).banks = s.banks := rfl
@[simp] theorem State.onDma_sol (s : State) (f : DmaState → DmaState) : (s.onDma f).sol = s.sol := rfl
@[simp] theorem State.onDma_log (s : State) (f : DmaState → DmaState) : (s.onDma f).log = s.log := rfl
@[simp] theorem State.onDma_rcp (s : State) (f : DmaState → DmaState) : (s.onDma f).rcp = s.rcp := rfl
@[simp] theorem State.onDma_sec (s : State) (f : DmaState → DmaState) : (s.onDma f).sec = s.sec := rfl
@[simp] theorem State.onDma_pwr (s : State) (f : DmaState → DmaState) : (s.onDma f).pwr = s.pwr := rfl
@[simp] theorem State.onDma_tmb (s : State) (f : DmaState → DmaState) : (s.onDma f).tmb = s.tmb := rfl
@[simp] theorem State.onDma_gns (s : State) (f : DmaState → DmaState) : (s.onDma f).gns = s.gns := rfl
@[simp] theorem State.onDma_hie (s : State) (f : DmaState → DmaState) : (s.onDma f).hie = s.hie := rfl
@[simp] theorem State.onDma_mon (s : State) (f : DmaState → DmaState) : (s.onDma f).mon = s.mon := rfl
@[simp] theorem State.onDma_cal (s : State) (f : DmaState → DmaState) : (s.onDma f).cal = s.cal := rfl
@[simp] theorem State.onDma_fan (s : State) (f : DmaState → DmaState) : (s.onDma f).fan = s.fan := rfl
@[simp] theorem State.onDma_eng (s : State) (f : DmaState → DmaState) : (s.onDma f).eng = s.eng := rfl
@[simp] theorem State.onDma_sct (s : State) (f : DmaState → DmaState) : (s.onDma f).sct = s.sct := rfl
@[simp] theorem State.onDma_can (s : State) (f : DmaState → DmaState) : (s.onDma f).can = s.can := rfl
@[simp] theorem State.onDma_hl (s : State) (f : DmaState → DmaState) : (s.onDma f).hl = s.hl := rfl
@[simp] theorem State.onDma_apu (s : State) (f : DmaState → DmaState) : (s.onDma f).apu = s.apu := rfl
@[simp] theorem State.onDma_dma (s : State) (f : DmaState → DmaState) : (s.onDma f).dma = f s.dma := rfl
@[simp] theorem State.onDma_seq (s : State) (f : DmaState → DmaState) : (s.onDma f).seq = s.seq := rfl
@[simp] theorem State.onDma_mem (s : State) (f : DmaState → DmaState) : (s.onDma f).mem = s.mem := rfl
@[simp] theorem State.onDma_pending (s : State) (f : DmaState → DmaState) : (s.onDma f).pending = s.pending := rfl

/-! ### State.onSeq -/

@[simp] theorem State.onSeq_sys (s : State) (f : SeqState → SeqState) : (s.onSeq f).sys = s.sys := rfl
@[simp] theorem State.onSeq_ports (s : State) (f : SeqState → SeqState) : (s.onSeq f).ports = s.ports := rfl
@[simp] theorem State.onSeq_banks (s : State) (f : SeqState → SeqState) : (s.onSeq f).banks = s.banks := rfl
@[simp] theorem State.onSeq_sol (s : State) (f : SeqState → SeqState) : (s.onSeq f).sol = s.sol := rfl
@[simp] theorem State.onSeq_log (s : State) (f : SeqState → SeqState) : (s.onSeq f).log = s.log := rfl
@[simp] theorem State.onSeq_rcp (s : State) (f : SeqState → SeqState) : (s.onSeq f).rcp = s.rcp := rfl
@[simp] theorem State.onSeq_sec (s : State) (f : SeqState → SeqState) : (s.onSeq f).sec = s.sec := rfl
@[simp] theorem State.onSeq_pwr (s : State) (f : SeqState → SeqState) : (s.onSeq f).pwr = s.pwr := rfl
@[simp] theorem State.onSeq_tmb (s : State) (f : SeqState → SeqState) : (s.onSeq f).tmb = s.tmb := rfl
@[simp] theorem State.onSeq_gns (s : State) (f : SeqState → SeqState) : (s.onSeq f).gns = s.gns := rfl
@[simp] theorem State.onSeq_hie (s : State) (f : SeqState → SeqState) : (s.onSeq f).hie = s.hie := rfl
@[simp] theorem State.onSeq_mon (s : State) (f : SeqState → SeqState) : (s.onSeq f).mon = s.mon := rfl
@[simp] theorem State.onSeq_cal (s : State) (f : SeqState → SeqState) : (s.onSeq f).cal = s.cal := rfl
@[simp] theorem State.onSeq_fan (s : State) (f : SeqState → SeqState) : (s.onSeq f).fan = s.fan := rfl
@[simp] theorem State.onSeq_eng (s : State) (f : SeqState → SeqState) : (s.onSeq f).eng = s.eng := rfl
@[simp] theorem State.onSeq_sct (s : State) (f : SeqState → SeqState) : (s.onSeq f).sct = s.sct := rfl
@[simp] theorem State.onSeq_can (s : State) (f : SeqState → SeqState) : (s.onSeq f).can = s.can := rfl
@[simp] theorem State.onSeq_hl (s : State) (f : SeqState → SeqState) : (s.onSeq f).hl = s.hl := rfl
@[simp] theorem State.onSeq_apu (s : State) (f : SeqState → SeqState) : (s.onSeq f).apu = s.apu := rfl
@[simp] theorem State.onSeq_dma (s : State) (f : SeqState → SeqState) : (s.onSeq f).dma = s.dma := rfl
@[simp] theorem State.onSeq_seq (s : State) (f : SeqState → SeqState) : (s.onSeq f).seq = f s.seq := rfl
@[simp] theorem State.onSeq_mem (s : State) (f : SeqState → SeqState) : (s.onSeq f).mem = s.mem := rfl
@[simp] theorem State.onSeq_pending (s : State) (f : SeqState → SeqState) : (s.onSeq f).pending = s.pending := rfl

/-! ### State.onCal -/

@[simp] theorem State.onCal_sys (s : State) (f : CalState → CalState) : (s.onCal f).sys = s.sys := rfl
@[simp] theorem State.onCal_ports (s : State) (f : CalState → CalState) : (s.onCal f).ports = s.ports := rfl
@[simp] theorem State.onCal_banks (s : State) (f : CalState → CalState) : (s.onCal f).banks = s.banks := rfl
@[simp] theorem State.onCal_sol (s : State) (f : CalState → CalState) : (s.onCal f).sol = s.sol := rfl
@[simp] theorem State.onCal_log (s : State) (f : CalState → CalState) : (s.onCal f).log = s.log := rfl
@[simp] theorem State.onCal_rcp (s : State) (f : CalState → CalState) : (s.onCal f).rcp = s.rcp := rfl
@[simp] theorem State.onCal_sec (s : State) (f : CalState → CalState) : (s.onCal f).sec = s.sec := rfl
@[simp] theorem State.onCal_pwr (s : State) (f : CalState → CalState) : (s.onCal f).pwr = s.pwr := rfl
@[simp] theorem State.onCal_tmb (s : State) (f : CalState → CalState) : (s.onCal f).tmb = s.tmb := rfl
@[simp] theorem State.onCal_gns (s : State) (f : CalState → CalState) : (s.onCal f).gns = s.gns := rfl
@[simp] theorem State.onCal_hie (s : State) (f : CalState → CalState) : (s.onCal f).hie = s.hie := rfl
@[simp] theorem State.onCal_mon (s : State) (f : CalState → CalState) : (s.onCal f).mon = s.mon := rfl
@[simp] theorem State.onCal_cal (s : State) (f : CalState → CalState) : (s.onCal f).cal = f s.cal := rfl
@[simp] theorem State.onCal_fan (s : State) (f : CalState → CalState) : (s.onCal f).fan = s.fan := rfl
@[simp] theorem State.onCal_eng (s : State) (f : CalState → CalState) : (s.onCal f).eng = s.eng := rfl
@[simp] theorem State.onCal_sct (s : State) (f : CalState → CalState) : (s.onCal f).sct = s.sct := rfl
@[simp] theorem State.onCal_can (s : State) (f : CalState → CalState) : (s.onCal f).can = s.can := rfl
@[simp] theorem State.onCal_hl (s : State) (f : CalState → CalState) : (s.onCal f).hl = s.hl := rfl
@[simp] theorem State.onCal_apu (s : State) (f : CalState → CalState) : (s.onCal f).apu = s.apu := rfl
@[simp] theorem State.onCal_dma (s : State) (f : CalState → CalState) : (s.onCal f).dma = s.dma := rfl
@[simp] theorem State.onCal_seq (s : State) (f : CalState → CalState) : (s.onCal f).seq = s.seq := rfl
@[simp] theorem State.onCal_mem (s : State) (f : CalState → CalState) : (s.onCal f).mem = s.mem := rfl
@[simp] theorem State.onCal_pending (s : State) (f : CalState → CalState) : (s.onCal f).pending = s.pending := rfl

/-! ### State.setCan -/

@[simp] theorem State.setCan_sys (s : State) (c : CanId) (f : Can → Can) : (s.setCan c f).sys = s.sys := rfl
@[simp] theorem State.setCan_ports (s : State) (c : CanId) (f : Can → Can) : (s.setCan c f).ports = s.ports := rfl
@[simp] theorem State.setCan_banks (s : State) (c : CanId) (f : Can → Can) : (s.setCan c f).banks = s.banks := rfl
@[simp] theorem State.setCan_sol (s : State) (c : CanId) (f : Can → Can) : (s.setCan c f).sol = s.sol := rfl
@[simp] theorem State.setCan_log (s : State) (c : CanId) (f : Can → Can) : (s.setCan c f).log = s.log := rfl
@[simp] theorem State.setCan_rcp (s : State) (c : CanId) (f : Can → Can) : (s.setCan c f).rcp = s.rcp := rfl
@[simp] theorem State.setCan_sec (s : State) (c : CanId) (f : Can → Can) : (s.setCan c f).sec = s.sec := rfl
@[simp] theorem State.setCan_pwr (s : State) (c : CanId) (f : Can → Can) : (s.setCan c f).pwr = s.pwr := rfl
@[simp] theorem State.setCan_tmb (s : State) (c : CanId) (f : Can → Can) : (s.setCan c f).tmb = s.tmb := rfl
@[simp] theorem State.setCan_gns (s : State) (c : CanId) (f : Can → Can) : (s.setCan c f).gns = s.gns := rfl
@[simp] theorem State.setCan_hie (s : State) (c : CanId) (f : Can → Can) : (s.setCan c f).hie = s.hie := rfl
@[simp] theorem State.setCan_mon (s : State) (c : CanId) (f : Can → Can) : (s.setCan c f).mon = s.mon := rfl
@[simp] theorem State.setCan_cal (s : State) (c : CanId) (f : Can → Can) : (s.setCan c f).cal = s.cal := rfl
@[simp] theorem State.setCan_fan (s : State) (c : CanId) (f : Can → Can) : (s.setCan c f).fan = s.fan := rfl
@[simp] theorem State.setCan_eng (s : State) (c : CanId) (f : Can → Can) : (s.setCan c f).eng = s.eng := rfl
@[simp] theorem State.setCan_sct (s : State) (c : CanId) (f : Can → Can) : (s.setCan c f).sct = s.sct := rfl
@[simp] theorem State.setCan_can (s : State) (c : CanId) (f : Can → Can) : (s.setCan c f).can = upd s.can c f := rfl
@[simp] theorem State.setCan_hl (s : State) (c : CanId) (f : Can → Can) : (s.setCan c f).hl = s.hl := rfl
@[simp] theorem State.setCan_apu (s : State) (c : CanId) (f : Can → Can) : (s.setCan c f).apu = s.apu := rfl
@[simp] theorem State.setCan_dma (s : State) (c : CanId) (f : Can → Can) : (s.setCan c f).dma = s.dma := rfl
@[simp] theorem State.setCan_seq (s : State) (c : CanId) (f : Can → Can) : (s.setCan c f).seq = s.seq := rfl
@[simp] theorem State.setCan_mem (s : State) (c : CanId) (f : Can → Can) : (s.setCan c f).mem = s.mem := rfl
@[simp] theorem State.setCan_pending (s : State) (c : CanId) (f : Can → Can) : (s.setCan c f).pending = s.pending := rfl

/-! ### State.setSeq -/

@[simp] theorem State.setSeq_sys (s : State) (q : SeqId) (f : Seq → Seq) : (s.setSeq q f).sys = s.sys := rfl
@[simp] theorem State.setSeq_ports (s : State) (q : SeqId) (f : Seq → Seq) : (s.setSeq q f).ports = s.ports := rfl
@[simp] theorem State.setSeq_banks (s : State) (q : SeqId) (f : Seq → Seq) : (s.setSeq q f).banks = s.banks := rfl
@[simp] theorem State.setSeq_sol (s : State) (q : SeqId) (f : Seq → Seq) : (s.setSeq q f).sol = s.sol := rfl
@[simp] theorem State.setSeq_log (s : State) (q : SeqId) (f : Seq → Seq) : (s.setSeq q f).log = s.log := rfl
@[simp] theorem State.setSeq_rcp (s : State) (q : SeqId) (f : Seq → Seq) : (s.setSeq q f).rcp = s.rcp := rfl
@[simp] theorem State.setSeq_sec (s : State) (q : SeqId) (f : Seq → Seq) : (s.setSeq q f).sec = s.sec := rfl
@[simp] theorem State.setSeq_pwr (s : State) (q : SeqId) (f : Seq → Seq) : (s.setSeq q f).pwr = s.pwr := rfl
@[simp] theorem State.setSeq_tmb (s : State) (q : SeqId) (f : Seq → Seq) : (s.setSeq q f).tmb = s.tmb := rfl
@[simp] theorem State.setSeq_gns (s : State) (q : SeqId) (f : Seq → Seq) : (s.setSeq q f).gns = s.gns := rfl
@[simp] theorem State.setSeq_hie (s : State) (q : SeqId) (f : Seq → Seq) : (s.setSeq q f).hie = s.hie := rfl
@[simp] theorem State.setSeq_mon (s : State) (q : SeqId) (f : Seq → Seq) : (s.setSeq q f).mon = s.mon := rfl
@[simp] theorem State.setSeq_cal (s : State) (q : SeqId) (f : Seq → Seq) : (s.setSeq q f).cal = s.cal := rfl
@[simp] theorem State.setSeq_fan (s : State) (q : SeqId) (f : Seq → Seq) : (s.setSeq q f).fan = s.fan := rfl
@[simp] theorem State.setSeq_eng (s : State) (q : SeqId) (f : Seq → Seq) : (s.setSeq q f).eng = s.eng := rfl
@[simp] theorem State.setSeq_sct (s : State) (q : SeqId) (f : Seq → Seq) : (s.setSeq q f).sct = s.sct := rfl
@[simp] theorem State.setSeq_can (s : State) (q : SeqId) (f : Seq → Seq) : (s.setSeq q f).can = s.can := rfl
@[simp] theorem State.setSeq_hl (s : State) (q : SeqId) (f : Seq → Seq) : (s.setSeq q f).hl = s.hl := rfl
@[simp] theorem State.setSeq_apu (s : State) (q : SeqId) (f : Seq → Seq) : (s.setSeq q f).apu = s.apu := rfl
@[simp] theorem State.setSeq_dma (s : State) (q : SeqId) (f : Seq → Seq) : (s.setSeq q f).dma = s.dma := rfl
@[simp] theorem State.setSeq_seq (s : State) (q : SeqId) (f : Seq → Seq) : (s.setSeq q f).seq = { s.seq with seqs := upd s.seq.seqs q f } := rfl
@[simp] theorem State.setSeq_mem (s : State) (q : SeqId) (f : Seq → Seq) : (s.setSeq q f).mem = s.mem := rfl
@[simp] theorem State.setSeq_pending (s : State) (q : SeqId) (f : Seq → Seq) : (s.setSeq q f).pending = s.pending := rfl

/-! ### State.setSess -/

@[simp] theorem State.setSess_sys (s : State) (k : SessId) (f : Session → Session) : (s.setSess k f).sys = s.sys := rfl
@[simp] theorem State.setSess_ports (s : State) (k : SessId) (f : Session → Session) : (s.setSess k f).ports = s.ports := rfl
@[simp] theorem State.setSess_banks (s : State) (k : SessId) (f : Session → Session) : (s.setSess k f).banks = s.banks := rfl
@[simp] theorem State.setSess_sol (s : State) (k : SessId) (f : Session → Session) : (s.setSess k f).sol = s.sol := rfl
@[simp] theorem State.setSess_log (s : State) (k : SessId) (f : Session → Session) : (s.setSess k f).log = s.log := rfl
@[simp] theorem State.setSess_rcp (s : State) (k : SessId) (f : Session → Session) : (s.setSess k f).rcp = s.rcp := rfl
@[simp] theorem State.setSess_sec (s : State) (k : SessId) (f : Session → Session) : (s.setSess k f).sec = { s.sec with sessions := upd s.sec.sessions k f } := rfl
@[simp] theorem State.setSess_pwr (s : State) (k : SessId) (f : Session → Session) : (s.setSess k f).pwr = s.pwr := rfl
@[simp] theorem State.setSess_tmb (s : State) (k : SessId) (f : Session → Session) : (s.setSess k f).tmb = s.tmb := rfl
@[simp] theorem State.setSess_gns (s : State) (k : SessId) (f : Session → Session) : (s.setSess k f).gns = s.gns := rfl
@[simp] theorem State.setSess_hie (s : State) (k : SessId) (f : Session → Session) : (s.setSess k f).hie = s.hie := rfl
@[simp] theorem State.setSess_mon (s : State) (k : SessId) (f : Session → Session) : (s.setSess k f).mon = s.mon := rfl
@[simp] theorem State.setSess_cal (s : State) (k : SessId) (f : Session → Session) : (s.setSess k f).cal = s.cal := rfl
@[simp] theorem State.setSess_fan (s : State) (k : SessId) (f : Session → Session) : (s.setSess k f).fan = s.fan := rfl
@[simp] theorem State.setSess_eng (s : State) (k : SessId) (f : Session → Session) : (s.setSess k f).eng = s.eng := rfl
@[simp] theorem State.setSess_sct (s : State) (k : SessId) (f : Session → Session) : (s.setSess k f).sct = s.sct := rfl
@[simp] theorem State.setSess_can (s : State) (k : SessId) (f : Session → Session) : (s.setSess k f).can = s.can := rfl
@[simp] theorem State.setSess_hl (s : State) (k : SessId) (f : Session → Session) : (s.setSess k f).hl = s.hl := rfl
@[simp] theorem State.setSess_apu (s : State) (k : SessId) (f : Session → Session) : (s.setSess k f).apu = s.apu := rfl
@[simp] theorem State.setSess_dma (s : State) (k : SessId) (f : Session → Session) : (s.setSess k f).dma = s.dma := rfl
@[simp] theorem State.setSess_seq (s : State) (k : SessId) (f : Session → Session) : (s.setSess k f).seq = s.seq := rfl
@[simp] theorem State.setSess_mem (s : State) (k : SessId) (f : Session → Session) : (s.setSess k f).mem = s.mem := rfl
@[simp] theorem State.setSess_pending (s : State) (k : SessId) (f : Session → Session) : (s.setSess k f).pending = s.pending := rfl

/-! ### State.noteFill -/

@[simp] theorem State.noteFill_ports (s : State) (q : Fin 16) (n : Nat) : (s.noteFill q n).ports = s.ports := rfl
@[simp] theorem State.noteFill_banks (s : State) (q : Fin 16) (n : Nat) : (s.noteFill q n).banks = s.banks := rfl
@[simp] theorem State.noteFill_sol (s : State) (q : Fin 16) (n : Nat) : (s.noteFill q n).sol = s.sol := rfl
@[simp] theorem State.noteFill_log (s : State) (q : Fin 16) (n : Nat) : (s.noteFill q n).log = s.log := rfl
@[simp] theorem State.noteFill_rcp (s : State) (q : Fin 16) (n : Nat) : (s.noteFill q n).rcp = s.rcp := rfl
@[simp] theorem State.noteFill_sec (s : State) (q : Fin 16) (n : Nat) : (s.noteFill q n).sec = s.sec := rfl
@[simp] theorem State.noteFill_pwr (s : State) (q : Fin 16) (n : Nat) : (s.noteFill q n).pwr = s.pwr := rfl
@[simp] theorem State.noteFill_tmb (s : State) (q : Fin 16) (n : Nat) : (s.noteFill q n).tmb = s.tmb := rfl
@[simp] theorem State.noteFill_gns (s : State) (q : Fin 16) (n : Nat) : (s.noteFill q n).gns = s.gns := rfl
@[simp] theorem State.noteFill_hie (s : State) (q : Fin 16) (n : Nat) : (s.noteFill q n).hie = s.hie := rfl
@[simp] theorem State.noteFill_mon (s : State) (q : Fin 16) (n : Nat) : (s.noteFill q n).mon = s.mon := rfl
@[simp] theorem State.noteFill_cal (s : State) (q : Fin 16) (n : Nat) : (s.noteFill q n).cal = s.cal := rfl
@[simp] theorem State.noteFill_fan (s : State) (q : Fin 16) (n : Nat) : (s.noteFill q n).fan = s.fan := rfl
@[simp] theorem State.noteFill_eng (s : State) (q : Fin 16) (n : Nat) : (s.noteFill q n).eng = s.eng := rfl
@[simp] theorem State.noteFill_sct (s : State) (q : Fin 16) (n : Nat) : (s.noteFill q n).sct = s.sct := rfl
@[simp] theorem State.noteFill_can (s : State) (q : Fin 16) (n : Nat) : (s.noteFill q n).can = s.can := rfl
@[simp] theorem State.noteFill_hl (s : State) (q : Fin 16) (n : Nat) : (s.noteFill q n).hl = s.hl := rfl
@[simp] theorem State.noteFill_apu (s : State) (q : Fin 16) (n : Nat) : (s.noteFill q n).apu = s.apu := rfl
@[simp] theorem State.noteFill_dma (s : State) (q : Fin 16) (n : Nat) : (s.noteFill q n).dma = s.dma := rfl
@[simp] theorem State.noteFill_seq (s : State) (q : Fin 16) (n : Nat) : (s.noteFill q n).seq = s.seq := rfl
@[simp] theorem State.noteFill_mem (s : State) (q : Fin 16) (n : Nat) : (s.noteFill q n).mem = s.mem := rfl
@[simp] theorem State.noteFill_pending (s : State) (q : Fin 16) (n : Nat) : (s.noteFill q n).pending = s.pending := rfl

/-! ### State.noteOvf -/

@[simp] theorem State.noteOvf_ports (s : State) (q : Fin 16) : (s.noteOvf q).ports = s.ports := rfl
@[simp] theorem State.noteOvf_banks (s : State) (q : Fin 16) : (s.noteOvf q).banks = s.banks := rfl
@[simp] theorem State.noteOvf_sol (s : State) (q : Fin 16) : (s.noteOvf q).sol = s.sol := rfl
@[simp] theorem State.noteOvf_log (s : State) (q : Fin 16) : (s.noteOvf q).log = s.log := rfl
@[simp] theorem State.noteOvf_rcp (s : State) (q : Fin 16) : (s.noteOvf q).rcp = s.rcp := rfl
@[simp] theorem State.noteOvf_sec (s : State) (q : Fin 16) : (s.noteOvf q).sec = s.sec := rfl
@[simp] theorem State.noteOvf_pwr (s : State) (q : Fin 16) : (s.noteOvf q).pwr = s.pwr := rfl
@[simp] theorem State.noteOvf_tmb (s : State) (q : Fin 16) : (s.noteOvf q).tmb = s.tmb := rfl
@[simp] theorem State.noteOvf_gns (s : State) (q : Fin 16) : (s.noteOvf q).gns = s.gns := rfl
@[simp] theorem State.noteOvf_hie (s : State) (q : Fin 16) : (s.noteOvf q).hie = s.hie := rfl
@[simp] theorem State.noteOvf_mon (s : State) (q : Fin 16) : (s.noteOvf q).mon = s.mon := rfl
@[simp] theorem State.noteOvf_cal (s : State) (q : Fin 16) : (s.noteOvf q).cal = s.cal := rfl
@[simp] theorem State.noteOvf_fan (s : State) (q : Fin 16) : (s.noteOvf q).fan = s.fan := rfl
@[simp] theorem State.noteOvf_eng (s : State) (q : Fin 16) : (s.noteOvf q).eng = s.eng := rfl
@[simp] theorem State.noteOvf_sct (s : State) (q : Fin 16) : (s.noteOvf q).sct = s.sct := rfl
@[simp] theorem State.noteOvf_can (s : State) (q : Fin 16) : (s.noteOvf q).can = s.can := rfl
@[simp] theorem State.noteOvf_hl (s : State) (q : Fin 16) : (s.noteOvf q).hl = s.hl := rfl
@[simp] theorem State.noteOvf_apu (s : State) (q : Fin 16) : (s.noteOvf q).apu = s.apu := rfl
@[simp] theorem State.noteOvf_dma (s : State) (q : Fin 16) : (s.noteOvf q).dma = s.dma := rfl
@[simp] theorem State.noteOvf_seq (s : State) (q : Fin 16) : (s.noteOvf q).seq = s.seq := rfl
@[simp] theorem State.noteOvf_mem (s : State) (q : Fin 16) : (s.noteOvf q).mem = s.mem := rfl
@[simp] theorem State.noteOvf_pending (s : State) (q : Fin 16) : (s.noteOvf q).pending = s.pending := rfl

/-! ### State.draw -/

@[simp] theorem State.draw_ports (s : State) : (s.draw).ports = s.ports := rfl
@[simp] theorem State.draw_banks (s : State) : (s.draw).banks = s.banks := rfl
@[simp] theorem State.draw_sol (s : State) : (s.draw).sol = s.sol := rfl
@[simp] theorem State.draw_log (s : State) : (s.draw).log = s.log := rfl
@[simp] theorem State.draw_rcp (s : State) : (s.draw).rcp = s.rcp := rfl
@[simp] theorem State.draw_sec (s : State) : (s.draw).sec = s.sec := rfl
@[simp] theorem State.draw_pwr (s : State) : (s.draw).pwr = s.pwr := rfl
@[simp] theorem State.draw_tmb (s : State) : (s.draw).tmb = s.tmb := rfl
@[simp] theorem State.draw_gns (s : State) : (s.draw).gns = s.gns := rfl
@[simp] theorem State.draw_hie (s : State) : (s.draw).hie = s.hie := rfl
@[simp] theorem State.draw_mon (s : State) : (s.draw).mon = s.mon := rfl
@[simp] theorem State.draw_cal (s : State) : (s.draw).cal = s.cal := rfl
@[simp] theorem State.draw_fan (s : State) : (s.draw).fan = s.fan := rfl
@[simp] theorem State.draw_eng (s : State) : (s.draw).eng = s.eng := rfl
@[simp] theorem State.draw_sct (s : State) : (s.draw).sct = s.sct := rfl
@[simp] theorem State.draw_can (s : State) : (s.draw).can = s.can := rfl
@[simp] theorem State.draw_hl (s : State) : (s.draw).hl = s.hl := rfl
@[simp] theorem State.draw_apu (s : State) : (s.draw).apu = s.apu := rfl
@[simp] theorem State.draw_dma (s : State) : (s.draw).dma = s.dma := rfl
@[simp] theorem State.draw_seq (s : State) : (s.draw).seq = s.seq := rfl
@[simp] theorem State.draw_mem (s : State) : (s.draw).mem = s.mem := rfl
@[simp] theorem State.draw_pending (s : State) : (s.draw).pending = s.pending := rfl

/-! ### State.count -/

@[simp] theorem State.count_sys (s : State) (a n : Nat) : (s.count a n).sys = s.sys := by simp only [State.count, apply_ite (fun (x : State) => x.sys), State.onMon_sys, ite_self]
@[simp] theorem State.count_ports (s : State) (a n : Nat) : (s.count a n).ports = s.ports := by simp only [State.count, apply_ite (fun (x : State) => x.ports), State.onMon_ports, ite_self]
@[simp] theorem State.count_banks (s : State) (a n : Nat) : (s.count a n).banks = s.banks := by simp only [State.count, apply_ite (fun (x : State) => x.banks), State.onMon_banks, ite_self]
@[simp] theorem State.count_sol (s : State) (a n : Nat) : (s.count a n).sol = s.sol := by simp only [State.count, apply_ite (fun (x : State) => x.sol), State.onMon_sol, ite_self]
@[simp] theorem State.count_log (s : State) (a n : Nat) : (s.count a n).log = s.log := by simp only [State.count, apply_ite (fun (x : State) => x.log), State.onMon_log, ite_self]
@[simp] theorem State.count_rcp (s : State) (a n : Nat) : (s.count a n).rcp = s.rcp := by simp only [State.count, apply_ite (fun (x : State) => x.rcp), State.onMon_rcp, ite_self]
@[simp] theorem State.count_sec (s : State) (a n : Nat) : (s.count a n).sec = s.sec := by simp only [State.count, apply_ite (fun (x : State) => x.sec), State.onMon_sec, ite_self]
@[simp] theorem State.count_pwr (s : State) (a n : Nat) : (s.count a n).pwr = s.pwr := by simp only [State.count, apply_ite (fun (x : State) => x.pwr), State.onMon_pwr, ite_self]
@[simp] theorem State.count_tmb (s : State) (a n : Nat) : (s.count a n).tmb = s.tmb := by simp only [State.count, apply_ite (fun (x : State) => x.tmb), State.onMon_tmb, ite_self]
@[simp] theorem State.count_gns (s : State) (a n : Nat) : (s.count a n).gns = s.gns := by simp only [State.count, apply_ite (fun (x : State) => x.gns), State.onMon_gns, ite_self]
@[simp] theorem State.count_hie (s : State) (a n : Nat) : (s.count a n).hie = s.hie := by simp only [State.count, apply_ite (fun (x : State) => x.hie), State.onMon_hie, ite_self]
@[simp] theorem State.count_cal (s : State) (a n : Nat) : (s.count a n).cal = s.cal := by simp only [State.count, apply_ite (fun (x : State) => x.cal), State.onMon_cal, ite_self]
@[simp] theorem State.count_fan (s : State) (a n : Nat) : (s.count a n).fan = s.fan := by simp only [State.count, apply_ite (fun (x : State) => x.fan), State.onMon_fan, ite_self]
@[simp] theorem State.count_eng (s : State) (a n : Nat) : (s.count a n).eng = s.eng := by simp only [State.count, apply_ite (fun (x : State) => x.eng), State.onMon_eng, ite_self]
@[simp] theorem State.count_sct (s : State) (a n : Nat) : (s.count a n).sct = s.sct := by simp only [State.count, apply_ite (fun (x : State) => x.sct), State.onMon_sct, ite_self]
@[simp] theorem State.count_can (s : State) (a n : Nat) : (s.count a n).can = s.can := by simp only [State.count, apply_ite (fun (x : State) => x.can), State.onMon_can, ite_self]
@[simp] theorem State.count_hl (s : State) (a n : Nat) : (s.count a n).hl = s.hl := by simp only [State.count, apply_ite (fun (x : State) => x.hl), State.onMon_hl, ite_self]
@[simp] theorem State.count_apu (s : State) (a n : Nat) : (s.count a n).apu = s.apu := by simp only [State.count, apply_ite (fun (x : State) => x.apu), State.onMon_apu, ite_self]
@[simp] theorem State.count_dma (s : State) (a n : Nat) : (s.count a n).dma = s.dma := by simp only [State.count, apply_ite (fun (x : State) => x.dma), State.onMon_dma, ite_self]
@[simp] theorem State.count_seq (s : State) (a n : Nat) : (s.count a n).seq = s.seq := by simp only [State.count, apply_ite (fun (x : State) => x.seq), State.onMon_seq, ite_self]
@[simp] theorem State.count_mem (s : State) (a n : Nat) : (s.count a n).mem = s.mem := by simp only [State.count, apply_ite (fun (x : State) => x.mem), State.onMon_mem, ite_self]
@[simp] theorem State.count_pending (s : State) (a n : Nat) : (s.count a n).pending = s.pending := by simp only [State.count, apply_ite (fun (x : State) => x.pending), State.onMon_pending, ite_self]

/-! ### Entries of vectors -/

@[simp] theorem upd_same {α : Type} {n : Nat} (v : Vector α n) (i : Fin n) (f : α → α) : (upd v i f)[i] = f v[i] := by simp [upd]

theorem upd_other {α : Type} {n : Nat} (v : Vector α n) (i j : Fin n) (f : α → α) (h : i ≠ j) : (upd v i f)[j] = v[j] := by
  have : i.val ≠ j.val := fun e => h (Fin.ext e)
  simp [upd, this]

theorem upd_get {α : Type} {n : Nat} (v : Vector α n) (i j : Fin n) (f : α → α) :
    (upd v i f)[j] = if i = j then f v[i] else v[j] := by
  by_cases h : i = j
  · subst h; rw [if_pos rfl, upd_same]
  · simp [h, upd_other v i j f h]

@[simp] theorem updAll_get {α : Type} {n : Nat} (v : Vector α n) (f : Fin n → α → α) (i : Fin n) : (updAll v f)[i] = f i v[i] := by
  simp only [updAll, Fin.getElem_fin, Vector.getElem_ofFn]

end Sys2Proof.Machine
end

