-- ==== Sys2Proof/Laws/Keep.lean ====
section
/-! SUPPORT. What every operation keeps: the relation, and the operations of Ops and of the ports. -/

namespace Sys2Proof.Machine

set_option linter.all false
set_option Elab.async false

open Sys2Proof

/-- What a change of the security state never takes back: the order of a key slot, the time floor, the rollback floor. -/
structure SecLe (x y : SecState) : Prop where
  slot  : ∀ i : Fin 4, x.slots[i].st.code ≤ y.slots[i].st.code
  floor : x.floor ≤ y.floor
  rb    : x.rbFloor ≤ y.rbFloor

theorem SecLe.refl (x : SecState) : SecLe x x := ⟨fun _ => Nat.le_refl _, Nat.le_refl _, Nat.le_refl _⟩
theorem SecLe.trans {x y z : SecState} (a : SecLe x y) (b : SecLe y z) : SecLe x z :=
  ⟨fun i => Nat.le_trans (a.slot i) (b.slot i), Nat.le_trans a.floor b.floor, Nat.le_trans a.rb b.rb⟩

/-- What a change of the recorder never takes back: the records committed since follow the ones before under the SEQ that
follow theirs, and the Keep only grows, to its size at most. -/
structure LogLe (x y : RecState) : Prop where
  recs : ∃ n : List RecSlot, y.reel.take reelSize = (n ++ x.reel).take reelSize ∧ y.nextSeq % 2 ^ 32 = (x.nextSeq + n.length) % 2 ^ 32 ∧
    ∀ (j : Nat) (r : RecSlot), n[j]? = some r → r.seq = (x.nextSeq + (n.length - 1 - j)) % 2 ^ 32
  keep : ∃ n : List RecSlot, y.keep = x.keep ++ n ∧ (n = [] ∨ y.keep.length ≤ keepSize)

theorem LogLe.same {x y : RecState} (h1 : y.reel = x.reel) (h2 : y.nextSeq = x.nextSeq) (h3 : y.keep = x.keep) : LogLe x y :=
  ⟨⟨[], by rw [h1]; rfl, by rw [h2]; rfl, fun j r h => by simp at h⟩, ⟨[], by rw [h3, List.append_nil], Or.inl rfl⟩⟩

theorem LogLe.refl (x : RecState) : LogLe x x := LogLe.same rfl rfl rfl

theorem take_append_take {α : Type} (a b c : List α) (k : Nat) (h : b.take k = c.take k) : (a ++ b).take k = (a ++ c).take k := by
  rw [List.take_append, List.take_append]
  have e : b.take (k - a.length) = c.take (k - a.length) := by
    have := congrArg (List.take (k - a.length)) h
    rwa [List.take_take, List.take_take, Nat.min_eq_left (Nat.sub_le _ _)] at this
  rw [e]

theorem LogLe.trans {x y z : RecState} (a : LogLe x y) (b : LogLe y z) : LogLe x z := by
  obtain ⟨⟨n1, r1, s1, q1⟩, ⟨k1, e1, l1⟩⟩ := a
  obtain ⟨⟨n2, r2, s2, q2⟩, ⟨k2, e2, l2⟩⟩ := b
  refine ⟨⟨n2 ++ n1, ?_, ?_, ?_⟩, ⟨k1 ++ k2, ?_, ?_⟩⟩
  · rw [r2, List.append_assoc]; exact take_append_take _ _ _ _ r1
  · rw [s2, List.length_append]; omega
  · intro j r h
    rw [List.length_append]
    by_cases c : j < n2.length
    · rw [List.getElem?_append_left c] at h
      have := q2 j r h
      rw [this]; omega
    · have d : n2.length ≤ j := Nat.le_of_not_lt c
      rw [List.getElem?_append_right d] at h
      have l : j - n2.length < n1.length := by
        have := List.getElem?_eq_some_iff.mp h; exact this.1
      have := q1 _ r h
      rw [this]; congr 1; omega
  · rw [e2, e1, List.append_assoc]
  · rcases l2 with l2 | l2
    · subst l2
      rcases l1 with l1 | l1
      · left; rw [l1]; rfl
      · right; rw [e2, List.append_nil]; exact l1
    · right; exact l2

/-- Every part of `a` is in `b`. -/
def sub (a b : List Part) : Bool := a.all fun x => b.contains x

theorem sub_of {a b c : List Part} (h : sub b c = true) (h' : sub a b = true) : sub a c = true := by
  simp only [sub, List.all_eq_true, List.contains_iff_mem] at *
  exact fun x hx => h x (h' x hx)

theorem mem_of_sub {a b : List Part} (h : sub a b = true) {p : Part} (hp : p ∈ a) : p ∈ b := by
  simp only [sub, List.all_eq_true, List.contains_iff_mem] at h
  exact h p hp

/-- What every operation on the state keeps, from `a` to `b`, where only the parts `fr` may have changed. -/
structure Keep (fr : List Part) (a b : State) : Prop where
  inv  : a.Inv → b.Inv
  pend : b.pending = a.pending
  sec  : SecLe a.sec b.sec
  only : ∀ p, p ∉ fr → State.same p a b
  log  : LogLe a.log b.log

theorem Keep.refl {fr : List Part} (s : State) : Keep fr s s := ⟨id, rfl, SecLe.refl _, fun p _ => by cases p <;> rfl, LogLe.refl _⟩

theorem same_trans {p : Part} {a b c : State} (h : State.same p a b) (h' : State.same p b c) : State.same p a c := by
  cases p <;> exact Eq.trans h' h

theorem Keep.only_of {fr qs : List Part} {a s t : State} (h : Keep fr a s) (hq : sub qs fr = true) (e : ∀ p, p ∉ qs → State.same p s t) : ∀ p, p ∉ fr → State.same p a t :=
  fun p hp => same_trans (h.only p hp) (e p fun hm => hp (mem_of_sub hq hm))

/-- Two states alike in what is kept but for the parts `qs`. -/
theorem same_keep {fr : List Part} {s0 s t : State} (qs : List Part) (hq : sub qs fr = true) (h : Keep fr s0 s) (e1 : t.mem = s.mem) (e2 : t.log.q8 = s.log.q8)
    (e3 : t.seq.q9 = s.seq.q9) (e4 : t.hie.q13 = s.hie.q13) (e5 : t.hie.q14 = s.hie.q14) (e6 : t.dma.q15 = s.dma.q15) (e7 : t.pending = s.pending)
    (e8 : t.sec = s.sec) (e : ∀ p, p ∉ qs → State.same p s t) (e9 : LogLe s.log t.log := by exact LogLe.same rfl rfl rfl) : Keep fr s0 t :=
  ⟨fun i => have j := h.inv i
    ⟨by rw [e1]; exact j.1, by rw [e2]; exact j.2, by rw [e3]; exact j.3, by rw [e4]; exact j.4, by rw [e5]; exact j.5, by rw [e6]; exact j.6⟩,
   e7.trans h.pend, by rw [e8]; exact h.sec, h.only_of hq e, h.log.trans e9⟩

theorem foldl_keep {fr : List Part} {s0 : State} {α : Type} {f : State → α → State} {l : List α} {s : State} (h : Keep fr s0 s) (hf : ∀ s a, Keep fr s0 s → Keep fr s0 (f s a)) : Keep fr s0 (l.foldl f s) := by
  induction l generalizing s with
  | nil => exact h
  | cons a l ih => exact ih (hf s a h)

theorem foldl_fst_keep {fr : List Part} {s0 : State} {α β : Type} {f : State × β → α → State × β} {l : List α} {s : State × β} (h : Keep fr s0 s.1) (hf : ∀ s a, Keep fr s0 s.1 → Keep fr s0 (f s a).1) : Keep fr s0 (l.foldl f s).1 := by
  induction l generalizing s with
  | nil => exact h
  | cons a l ih => exact ih (hf s a h)

theorem pair_keep {fr : List Part} {s0 : State} {α : Type} {p : State × α} {t : State} {b : α} (e : p = (t, b)) (h : Keep fr s0 p.1) : Keep fr s0 t := by subst e; exact h

theorem mk_sys_keep {fr : List Part} {s0 : State} (s : State) (x) (hs : Keep fr s0 s) (hp : sub [.sys] fr = true := by exact sub_of ‹sub _ _ = true› rfl) : Keep fr s0 { s with sys := x } := same_keep [.sys] hp hs rfl rfl rfl rfl rfl rfl rfl rfl (fun p h => by cases p <;> first | exact absurd (by decide) h | rfl)
theorem mk_ports_keep {fr : List Part} {s0 : State} (s : State) (x) (hs : Keep fr s0 s) (hp : sub [.ports] fr = true := by exact sub_of ‹sub _ _ = true› rfl) : Keep fr s0 { s with ports := x } := same_keep [.ports] hp hs rfl rfl rfl rfl rfl rfl rfl rfl (fun p h => by cases p <;> first | exact absurd (by decide) h | rfl)
theorem mk_banks_keep {fr : List Part} {s0 : State} (s : State) (x) (hs : Keep fr s0 s) (hp : sub [.banks] fr = true := by exact sub_of ‹sub _ _ = true› rfl) : Keep fr s0 { s with banks := x } := same_keep [.banks] hp hs rfl rfl rfl rfl rfl rfl rfl rfl (fun p h => by cases p <;> first | exact absurd (by decide) h | rfl)
theorem mk_sol_keep {fr : List Part} {s0 : State} (s : State) (x) (hs : Keep fr s0 s) (hp : sub [.sol] fr = true := by exact sub_of ‹sub _ _ = true› rfl) : Keep fr s0 { s with sol := x } := same_keep [.sol] hp hs rfl rfl rfl rfl rfl rfl rfl rfl (fun p h => by cases p <;> first | exact absurd (by decide) h | rfl)
theorem mk_rcp_keep {fr : List Part} {s0 : State} (s : State) (x) (hs : Keep fr s0 s) (hp : sub [.rcp] fr = true := by exact sub_of ‹sub _ _ = true› rfl) : Keep fr s0 { s with rcp := x } := same_keep [.rcp] hp hs rfl rfl rfl rfl rfl rfl rfl rfl (fun p h => by cases p <;> first | exact absurd (by decide) h | rfl)
theorem mk_pwr_keep {fr : List Part} {s0 : State} (s : State) (x) (hs : Keep fr s0 s) (hp : sub [.pwr] fr = true := by exact sub_of ‹sub _ _ = true› rfl) : Keep fr s0 { s with pwr := x } := same_keep [.pwr] hp hs rfl rfl rfl rfl rfl rfl rfl rfl (fun p h => by cases p <;> first | exact absurd (by decide) h | rfl)
theorem mk_tmb_keep {fr : List Part} {s0 : State} (s : State) (x) (hs : Keep fr s0 s) (hp : sub [.tmb] fr = true := by exact sub_of ‹sub _ _ = true› rfl) : Keep fr s0 { s with tmb := x } := same_keep [.tmb] hp hs rfl rfl rfl rfl rfl rfl rfl rfl (fun p h => by cases p <;> first | exact absurd (by decide) h | rfl)
theorem mk_gns_keep {fr : List Part} {s0 : State} (s : State) (x) (hs : Keep fr s0 s) (hp : sub [.gns] fr = true := by exact sub_of ‹sub _ _ = true› rfl) : Keep fr s0 { s with gns := x } := same_keep [.gns] hp hs rfl rfl rfl rfl rfl rfl rfl rfl (fun p h => by cases p <;> first | exact absurd (by decide) h | rfl)
theorem mk_mon_keep {fr : List Part} {s0 : State} (s : State) (x) (hs : Keep fr s0 s) (hp : sub [.mon] fr = true := by exact sub_of ‹sub _ _ = true› rfl) : Keep fr s0 { s with mon := x } := same_keep [.mon] hp hs rfl rfl rfl rfl rfl rfl rfl rfl (fun p h => by cases p <;> first | exact absurd (by decide) h | rfl)
theorem mk_cal_keep {fr : List Part} {s0 : State} (s : State) (x) (hs : Keep fr s0 s) (hp : sub [.cal] fr = true := by exact sub_of ‹sub _ _ = true› rfl) : Keep fr s0 { s with cal := x } := same_keep [.cal] hp hs rfl rfl rfl rfl rfl rfl rfl rfl (fun p h => by cases p <;> first | exact absurd (by decide) h | rfl)
theorem mk_fan_keep {fr : List Part} {s0 : State} (s : State) (x) (hs : Keep fr s0 s) (hp : sub [.fan] fr = true := by exact sub_of ‹sub _ _ = true› rfl) : Keep fr s0 { s with fan := x } := same_keep [.fan] hp hs rfl rfl rfl rfl rfl rfl rfl rfl (fun p h => by cases p <;> first | exact absurd (by decide) h | rfl)
theorem mk_eng_keep {fr : List Part} {s0 : State} (s : State) (x) (hs : Keep fr s0 s) (hp : sub [.eng] fr = true := by exact sub_of ‹sub _ _ = true› rfl) : Keep fr s0 { s with eng := x } := same_keep [.eng] hp hs rfl rfl rfl rfl rfl rfl rfl rfl (fun p h => by cases p <;> first | exact absurd (by decide) h | rfl)
theorem mk_sct_keep {fr : List Part} {s0 : State} (s : State) (x) (hs : Keep fr s0 s) (hp : sub [.sct] fr = true := by exact sub_of ‹sub _ _ = true› rfl) : Keep fr s0 { s with sct := x } := same_keep [.sct] hp hs rfl rfl rfl rfl rfl rfl rfl rfl (fun p h => by cases p <;> first | exact absurd (by decide) h | rfl)
theorem mk_can_keep {fr : List Part} {s0 : State} (s : State) (x) (hs : Keep fr s0 s) (hp : sub [.can] fr = true := by exact sub_of ‹sub _ _ = true› rfl) : Keep fr s0 { s with can := x } := same_keep [.can] hp hs rfl rfl rfl rfl rfl rfl rfl rfl (fun p h => by cases p <;> first | exact absurd (by decide) h | rfl)
theorem mk_hl_keep {fr : List Part} {s0 : State} (s : State) (x) (hs : Keep fr s0 s) (hp : sub [.hl] fr = true := by exact sub_of ‹sub _ _ = true› rfl) : Keep fr s0 { s with hl := x } := same_keep [.hl] hp hs rfl rfl rfl rfl rfl rfl rfl rfl (fun p h => by cases p <;> first | exact absurd (by decide) h | rfl)
theorem mk_apu_keep {fr : List Part} {s0 : State} (s : State) (x) (hs : Keep fr s0 s) (hp : sub [.apu] fr = true := by exact sub_of ‹sub _ _ = true› rfl) : Keep fr s0 { s with apu := x } := same_keep [.apu] hp hs rfl rfl rfl rfl rfl rfl rfl rfl (fun p h => by cases p <;> first | exact absurd (by decide) h | rfl)
theorem onSys_keep {fr : List Part} {s0 : State} (s : State) (f : SysState → SysState) (hs : Keep fr s0 s) (hp : sub [.sys] fr = true := by exact sub_of ‹sub _ _ = true› rfl) : Keep fr s0 (s.onSys f) := same_keep [.sys] hp hs rfl rfl rfl rfl rfl rfl rfl rfl (fun p h => by cases p <;> first | exact absurd (by decide) h | rfl)
theorem onSol_keep {fr : List Part} {s0 : State} (s : State) (f : SolState → SolState) (hs : Keep fr s0 s) (hp : sub [.sol] fr = true := by exact sub_of ‹sub _ _ = true› rfl) : Keep fr s0 (s.onSol f) := same_keep [.sol] hp hs rfl rfl rfl rfl rfl rfl rfl rfl (fun p h => by cases p <;> first | exact absurd (by decide) h | rfl)
theorem onRcp_keep {fr : List Part} {s0 : State} (s : State) (f : RcpState → RcpState) (hs : Keep fr s0 s) (hp : sub [.rcp] fr = true := by exact sub_of ‹sub _ _ = true› rfl) : Keep fr s0 (s.onRcp f) := same_keep [.rcp] hp hs rfl rfl rfl rfl rfl rfl rfl rfl (fun p h => by cases p <;> first | exact absurd (by decide) h | rfl)
theorem onPwr_keep {fr : List Part} {s0 : State} (s : State) (f : PwrState → PwrState) (hs : Keep fr s0 s) (hp : sub [.pwr] fr = true := by exact sub_of ‹sub _ _ = true› rfl) : Keep fr s0 (s.onPwr f) := same_keep [.pwr] hp hs rfl rfl rfl rfl rfl rfl rfl rfl (fun p h => by cases p <;> first | exact absurd (by decide) h | rfl)
theorem onTmb_keep {fr : List Part} {s0 : State} (s : State) (f : TmbState → TmbState) (hs : Keep fr s0 s) (hp : sub [.tmb] fr = true := by exact sub_of ‹sub _ _ = true› rfl) : Keep fr s0 (s.onTmb f) := same_keep [.tmb] hp hs rfl rfl rfl rfl rfl rfl rfl rfl (fun p h => by cases p <;> first | exact absurd (by decide) h | rfl)
theorem onMon_keep {fr : List Part} {s0 : State} (s : State) (f : MonState → MonState) (hs : Keep fr s0 s) (hp : sub [.mon] fr = true := by exact sub_of ‹sub _ _ = true› rfl) : Keep fr s0 (s.onMon f) := same_keep [.mon] hp hs rfl rfl rfl rfl rfl rfl rfl rfl (fun p h => by cases p <;> first | exact absurd (by decide) h | rfl)
theorem onFan_keep {fr : List Part} {s0 : State} (s : State) (f : FanState → FanState) (hs : Keep fr s0 s) (hp : sub [.fan] fr = true := by exact sub_of ‹sub _ _ = true› rfl) : Keep fr s0 (s.onFan f) := same_keep [.fan] hp hs rfl rfl rfl rfl rfl rfl rfl rfl (fun p h => by cases p <;> first | exact absurd (by decide) h | rfl)
theorem onEng_keep {fr : List Part} {s0 : State} (s : State) (f : EngState → EngState) (hs : Keep fr s0 s) (hp : sub [.eng] fr = true := by exact sub_of ‹sub _ _ = true› rfl) : Keep fr s0 (s.onEng f) := same_keep [.eng] hp hs rfl rfl rfl rfl rfl rfl rfl rfl (fun p h => by cases p <;> first | exact absurd (by decide) h | rfl)
theorem onSct_keep {fr : List Part} {s0 : State} (s : State) (f : SctState → SctState) (hs : Keep fr s0 s) (hp : sub [.sct] fr = true := by exact sub_of ‹sub _ _ = true› rfl) : Keep fr s0 (s.onSct f) := same_keep [.sct] hp hs rfl rfl rfl rfl rfl rfl rfl rfl (fun p h => by cases p <;> first | exact absurd (by decide) h | rfl)
theorem onGns_keep {fr : List Part} {s0 : State} (s : State) (f : GnsState → GnsState) (hs : Keep fr s0 s) (hp : sub [.gns] fr = true := by exact sub_of ‹sub _ _ = true› rfl) : Keep fr s0 (s.onGns f) := same_keep [.gns] hp hs rfl rfl rfl rfl rfl rfl rfl rfl (fun p h => by cases p <;> first | exact absurd (by decide) h | rfl)
theorem onHl_keep {fr : List Part} {s0 : State} (s : State) (f : HostState → HostState) (hs : Keep fr s0 s) (hp : sub [.hl] fr = true := by exact sub_of ‹sub _ _ = true› rfl) : Keep fr s0 (s.onHl f) := same_keep [.hl] hp hs rfl rfl rfl rfl rfl rfl rfl rfl (fun p h => by cases p <;> first | exact absurd (by decide) h | rfl)
theorem onApu_keep {fr : List Part} {s0 : State} (s : State) (f : ApuState → ApuState) (hs : Keep fr s0 s) (hp : sub [.apu] fr = true := by exact sub_of ‹sub _ _ = true› rfl) : Keep fr s0 (s.onApu f) := same_keep [.apu] hp hs rfl rfl rfl rfl rfl rfl rfl rfl (fun p h => by cases p <;> first | exact absurd (by decide) h | rfl)
theorem onCal_keep {fr : List Part} {s0 : State} (s : State) (f : CalState → CalState) (hs : Keep fr s0 s) (hp : sub [.cal] fr = true := by exact sub_of ‹sub _ _ = true› rfl) : Keep fr s0 (s.onCal f) := same_keep [.cal] hp hs rfl rfl rfl rfl rfl rfl rfl rfl (fun p h => by cases p <;> first | exact absurd (by decide) h | rfl)
theorem onSec_keep {fr : List Part} {s0 : State} (s : State) (f : SecState → SecState) (hs : Keep fr s0 s) (hf : ∀ x, SecLe x (f x)) (hp : sub [.sec] fr = true := by exact sub_of ‹sub _ _ = true› rfl) : Keep fr s0 (s.onSec f) :=
  ⟨fun i => have j := hs.inv i; ⟨j.1, j.2, j.3, j.4, j.5, j.6⟩, hs.pend, hs.sec.trans (hf _), hs.only_of (qs := [.sec]) hp (fun p h => by cases p <;> first | exact absurd (by decide) h | rfl), hs.log.trans (LogLe.same rfl rfl rfl)⟩
theorem onLog_keep {fr : List Part} {s0 : State} (s : State) (f : RecState → RecState) (hs : Keep fr s0 s) (hf : ∀ x, x.q8.length ≤ 64 → (f x).q8.length ≤ 64) (hl : LogLe s.log (f s.log) := by exact LogLe.same rfl rfl rfl) (hp : sub [.log] fr = true := by exact sub_of ‹sub _ _ = true› rfl) : Keep fr s0 (s.onLog f) :=
  ⟨fun i => have j := hs.inv i; ⟨j.1, hf _ j.2, j.3, j.4, j.5, j.6⟩, hs.pend, hs.sec, hs.only_of (qs := [.log]) hp (fun p h => by cases p <;> first | exact absurd (by decide) h | rfl), hs.log.trans hl⟩
theorem onSeq_keep {fr : List Part} {s0 : State} (s : State) (f : SeqState → SeqState) (hs : Keep fr s0 s) (hf : ∀ x, x.q9.length ≤ 64 → (f x).q9.length ≤ 64) (hp : sub [.seq] fr = true := by exact sub_of ‹sub _ _ = true› rfl) : Keep fr s0 (s.onSeq f) :=
  ⟨fun i => have j := hs.inv i; ⟨j.1, j.2, hf _ j.3, j.4, j.5, j.6⟩, hs.pend, hs.sec, hs.only_of (qs := [.seq]) hp (fun p h => by cases p <;> first | exact absurd (by decide) h | rfl), hs.log.trans (LogLe.same rfl rfl rfl)⟩
theorem onHie_keep {fr : List Part} {s0 : State} (s : State) (f : HieState → HieState) (hs : Keep fr s0 s) (hf : ∀ x, x.q13.length ≤ 64 → (f x).q13.length ≤ 64) (hg : ∀ x, x.q14.length ≤ 64 → (f x).q14.length ≤ 64) (hp : sub [.hie] fr = true := by exact sub_of ‹sub _ _ = true› rfl) : Keep fr s0 (s.onHie f) :=
  ⟨fun i => have j := hs.inv i; ⟨j.1, j.2, j.3, hf _ j.4, hg _ j.5, j.6⟩, hs.pend, hs.sec, hs.only_of (qs := [.hie]) hp (fun p h => by cases p <;> first | exact absurd (by decide) h | rfl), hs.log.trans (LogLe.same rfl rfl rfl)⟩
theorem onDma_keep {fr : List Part} {s0 : State} (s : State) (f : DmaState → DmaState) (hs : Keep fr s0 s) (hf : ∀ x, x.q15.length ≤ 64 → (f x).q15.length ≤ 64) (hp : sub [.dma] fr = true := by exact sub_of ‹sub _ _ = true› rfl) : Keep fr s0 (s.onDma f) :=
  ⟨fun i => have j := hs.inv i; ⟨j.1, j.2, j.3, j.4, j.5, hf _ j.6⟩, hs.pend, hs.sec, hs.only_of (qs := [.dma]) hp (fun p h => by cases p <;> first | exact absurd (by decide) h | rfl), hs.log.trans (LogLe.same rfl rfl rfl)⟩
theorem setCan_keep {fr : List Part} {s0 : State} (s : State) (c f) (hs : Keep fr s0 s) (hp : sub [.can] fr = true := by exact sub_of ‹sub _ _ = true› rfl) : Keep fr s0 (s.setCan c f) := same_keep [.can] hp hs rfl rfl rfl rfl rfl rfl rfl rfl (fun p h => by cases p <;> first | exact absurd (by decide) h | rfl)
theorem setSess_keep {fr : List Part} {s0 : State} (s : State) (c f) (hs : Keep fr s0 s) (hp : sub [.sec] fr = true := by exact sub_of ‹sub _ _ = true› rfl) : Keep fr s0 (s.setSess c f) :=
  ⟨fun i => have j := hs.inv i; ⟨j.1, j.2, j.3, j.4, j.5, j.6⟩, hs.pend, ⟨hs.sec.1, hs.sec.2, hs.sec.3⟩, hs.only_of (qs := [.sec]) hp (fun p h => by cases p <;> first | exact absurd (by decide) h | rfl), hs.log.trans (LogLe.same rfl rfl rfl)⟩
theorem setSeq_keep {fr : List Part} {s0 : State} (s : State) (c f) (hs : Keep fr s0 s) (hp : sub [.seq] fr = true := by exact sub_of ‹sub _ _ = true› rfl) : Keep fr s0 (s.setSeq c f) := same_keep [.seq] hp hs rfl rfl rfl rfl rfl rfl rfl rfl (fun p h => by cases p <;> first | exact absurd (by decide) h | rfl)
theorem noteFill_keep {fr : List Part} {s0 : State} (s : State) (q n) (hs : Keep fr s0 s) (hp : sub [.sys] fr = true := by exact sub_of ‹sub _ _ = true› rfl) : Keep fr s0 (s.noteFill q n) := same_keep [.sys] hp hs rfl rfl rfl rfl rfl rfl rfl rfl (fun p h => by cases p <;> first | exact absurd (by decide) h | rfl)
theorem noteOvf_keep {fr : List Part} {s0 : State} (s : State) (q) (hs : Keep fr s0 s) (hp : sub [.sys] fr = true := by exact sub_of ‹sub _ _ = true› rfl) : Keep fr s0 (s.noteOvf q) := same_keep [.sys] hp hs rfl rfl rfl rfl rfl rfl rfl rfl (fun p h => by cases p <;> first | exact absurd (by decide) h | rfl)
theorem draw_keep {fr : List Part} {s0 : State} (s : State) (hs : Keep fr s0 s) (hp : sub [.sys] fr = true := by exact sub_of ‹sub _ _ = true› rfl) : Keep fr s0 s.draw := same_keep [.sys] hp hs rfl rfl rfl rfl rfl rfl rfl rfl (fun p h => by cases p <;> first | exact absurd (by decide) h | rfl)
theorem count_keep {fr : List Part} {s0 : State} (s : State) (a n) (hs : Keep fr s0 s) (hp : sub [.mon] fr = true := by exact sub_of ‹sub _ _ = true› rfl) : Keep fr s0 (s.count a n) := by
  unfold State.count
  split
  · exact onMon_keep _ _ hs
  · exact hs

theorem setBucket_keep {fr : List Part} {s0 : State} (s : State) (k : Nat) (b : Bucket) (hs : Keep fr s0 s) (hp : sub [.log] fr = true := by exact sub_of ‹sub _ _ = true› rfl) : Keep fr s0 (s.setBucket k b) := same_keep [.log] hp hs rfl rfl rfl rfl rfl rfl rfl rfl (fun p h => by cases p <;> first | exact absurd (by decide) h | rfl)

theorem pushQ8_keep {fr : List Part} {s0 : State} (s : State) (q : Q8Entry) (hs : Keep fr s0 s) (h : s.log.q8.length < 64) (hp : sub [.sys, .log] fr = true := by exact sub_of ‹sub _ _ = true› rfl) : Keep fr s0 (s.pushQ8 q) :=
  ⟨fun i => have j := hs.inv i; ⟨j.1, by simp only [State.pushQ8, State.noteFill_log, List.length_append, List.length_singleton]; omega, j.3, j.4, j.5, j.6⟩, hs.pend, hs.sec, hs.only_of (qs := _) hp (fun p h => by cases p <;> first | exact absurd (by decide) h | rfl), hs.log.trans (LogLe.same rfl rfl rfl)⟩

theorem loseEvent_keep {fr : List Part} {s0 : State} (s : State) (e : Ev) (k : Bool) (b : Bucket) (hs : Keep fr s0 s) (hp : sub [.sys, .log, .mon] fr = true := by exact sub_of ‹sub _ _ = true› rfl) : Keep fr s0 (s.loseEvent e k b) := by
  refine same_keep [.log, .sys, .mon] (sub_of hp rfl) (count_keep (s.setBucket (bucketOf e.code) { b with lost := satNat 65535 (b.lost + 1), lostK := b.lostK || k, lostLast := s.now, lostCode := if b.lost = 0 then e.code else b.lostCode, lostFirst := if b.lost = 0 then s.now else b.lostFirst } |>.noteOvf 8) 0x09 1 (noteOvf_keep _ 8 (setBucket_keep _ _ _ hs))) rfl rfl rfl rfl rfl rfl rfl rfl (fun p h => by cases p <;> first | exact absurd (by decide) h | rfl)

theorem suppress_keep {fr : List Part} {s0 : State} (s : State) (k : Nat) (b : Bucket) (hs : Keep fr s0 s) (hp : sub [.log, .mon] fr = true := by exact sub_of ‹sub _ _ = true› rfl) : Keep fr s0 (s.suppress k b) :=
  same_keep [.log, .mon] (sub_of hp rfl) (count_keep (s.setBucket k { b with sup := b.sup + 1 }) 0x08 1 (setBucket_keep _ _ _ hs)) rfl rfl rfl rfl rfl rfl rfl rfl (fun p h => by cases p <;> first | exact absurd (by decide) h | rfl)

theorem emit_keep {fr : List Part} {s0 : State} (s : State) (e : Ev) (hs : Keep fr s0 s) (hp : sub [.sys, .log, .mon] fr = true := by exact sub_of ‹sub _ _ = true› rfl) : Keep fr s0 (s.emit e) := by
  unfold State.emit
  dsimp only
  split
  · split
    · rename_i h
      refine pushQ8_keep _ _ hs (Nat.lt_of_lt_of_le h ?_)
      unfold q8Limit; split <;> omega
    · exact loseEvent_keep _ _ _ _ hs
  · split
    · exact suppress_keep _ _ _ hs
    · split
      · rename_i h
        refine pushQ8_keep _ _ (setBucket_keep _ _ _ hs) (Nat.lt_of_lt_of_le h (by simp [q8Limit]))
      · exact loseEvent_keep _ _ _ _ hs

theorem emitAll_keep {fr : List Part} {s0 : State} (s : State) (es : List Ev) (hs : Keep fr s0 s) (hp : sub [.sys, .log, .mon] fr = true := by exact sub_of ‹sub _ _ = true› rfl) : Keep fr s0 (State.emitAll s es) := by
  unfold State.emitAll
  try dsimp only
  repeat' first | exact sub_of hp rfl | (with_reducible first | assumption | apply emit_keep | apply foldl_keep | apply foldl_fst_keep | refine pair_keep (by assumption) ?_) | split | intro _

theorem send_keep {fr : List Part} {s0 : State} (s : State) (code dst : Nat) (body : List Byte) (hs : Keep fr s0 s) (hp : sub [.sys, .hie] fr = true := by exact sub_of ‹sub _ _ = true› rfl) : Keep fr s0 (s.send code dst body).1 := by
  unfold State.send
  split
  · rename_i h
    exact ⟨fun i => have j := hs.inv i; ⟨j.1, j.2, j.3, j.4, by simp only [State.noteFill_hie, State.onHie_hie, List.length_append, List.length_singleton]; omega, j.6⟩, hs.pend, hs.sec, hs.only_of (qs := _) hp (fun p h => by cases p <;> first | exact absurd (by decide) h | rfl), hs.log.trans (LogLe.same rfl rfl rfl)⟩
  · exact noteOvf_keep _ _ hs

theorem cmdDone_keep {fr : List Part} {s0 : State} (s : State) (port : Nat) (slot : Nat) (st : Status) (at_ : Nat) (hs : Keep fr s0 s) (hp : sub [.sys, .hie] fr = true := by exact sub_of ‹sub _ _ = true› rfl) : Keep fr s0 (State.cmdDone s port slot st at_) := by
  unfold State.cmdDone
  try dsimp only
  repeat' first | exact sub_of hp rfl | (with_reducible first | assumption | apply send_keep | refine pair_keep (by assumption) ?_) | split | intro _

theorem answer_keep {fr : List Part} {s0 : State} (s : State) (src : Src) (st : Status) (hs : Keep fr s0 s) (hp : sub [.sys, .hie, .mon] fr = true := by exact sub_of ‹sub _ _ = true› rfl) : Keep fr s0 (s.answer src st) := by
  unfold State.answer
  dsimp only
  apply mk_sys_keep
  repeat' first | exact sub_of hp rfl | (with_reducible first | assumption | apply count_keep | apply cmdDone_keep) | split

theorem gated_keep {fr : List Part} {s0 : State} (s : State) (k : SessId) (st : Status) (go : State → State × Status) (hs : Keep fr s0 s) (hgo : ∀ s, Keep fr s0 s → Keep fr s0 (go s).1) (hp : sub [.sys, .hie, .mon] fr = true := by exact sub_of ‹sub _ _ = true› rfl) : Keep fr s0 (State.gated s k st go) := by
  unfold State.gated
  try dsimp only
  repeat' first | exact sub_of hp rfl | (with_reducible first | assumption | apply answer_keep | apply hgo | refine pair_keep (by assumption) ?_) | split | intro _

theorem setPort_keep {fr : List Part} {s0 : State} (s : State) (p : PortId) (f : Port → Port) (hs : Keep fr s0 s) (hp : sub [.ports] fr = true := by exact sub_of ‹sub _ _ = true› rfl) : Keep fr s0 (State.setPort s p f) := by
  unfold State.setPort
  try dsimp only
  repeat' first | exact sub_of hp rfl | (with_reducible first | assumption | apply mk_ports_keep | refine pair_keep (by assumption) ?_) | split | intro _

theorem setPorts_keep {fr : List Part} {s0 : State} (s : State) (ps : List PortId) (f : Port → Port) (hs : Keep fr s0 s) (hp : sub [.ports] fr = true := by exact sub_of ‹sub _ _ = true› rfl) : Keep fr s0 (State.setPorts s ps f) := by
  unfold State.setPorts
  try dsimp only
  repeat' first | exact sub_of hp rfl | (with_reducible first | assumption | apply mk_ports_keep | refine pair_keep (by assumption) ?_) | split | intro _

theorem setBank_keep {fr : List Part} {s0 : State} (s : State) (b : BankId) (f : Bank → Bank) (hs : Keep fr s0 s) (hp : sub [.banks] fr = true := by exact sub_of ‹sub _ _ = true› rfl) : Keep fr s0 (State.setBank s b f) := by
  unfold State.setBank
  try dsimp only
  repeat' first | exact sub_of hp rfl | (with_reducible first | assumption | apply mk_banks_keep | refine pair_keep (by assumption) ?_) | split | intro _

theorem setSol_keep {fr : List Part} {s0 : State} (s : State) (p : PortId) (f : SolPort → SolPort) (hs : Keep fr s0 s) (hp : sub [.sol] fr = true := by exact sub_of ‹sub _ _ = true› rfl) : Keep fr s0 (State.setSol s p f) := by
  unfold State.setSol
  try dsimp only
  repeat' first | exact sub_of hp rfl | (with_reducible first | assumption | apply mk_ports_keep | apply mk_sol_keep | refine pair_keep (by assumption) ?_) | split | intro _

theorem mapSols_keep {fr : List Part} {s0 : State} (s : State) (f : PortId → SolPort → SolPort) (hs : Keep fr s0 s) (hp : sub [.sol] fr = true := by exact sub_of ‹sub _ _ = true› rfl) : Keep fr s0 (State.mapSols s f) := by
  unfold State.mapSols
  try dsimp only
  repeat' first | exact sub_of hp rfl | (with_reducible first | assumption | apply mk_ports_keep | apply mk_sol_keep | refine pair_keep (by assumption) ?_) | split | intro _

theorem settle_keep {fr : List Part} {s0 : State} (s : State) (p : PortId) (hs : Keep fr s0 s) (hp : sub [.ports] fr = true := by exact sub_of ‹sub _ _ = true› rfl) : Keep fr s0 (State.settle s p) := by
  unfold State.settle
  try dsimp only
  repeat' first | exact sub_of hp rfl | (with_reducible first | assumption | apply setPorts_keep | refine pair_keep (by assumption) ?_) | split | intro _

theorem countEdge_keep {fr : List Part} {s0 : State} (s : State) (p : PortId) (hs : Keep fr s0 s) (hp : sub [.sct] fr = true := by exact sub_of ‹sub _ _ = true› rfl) : Keep fr s0 (State.countEdge s p) := by
  unfold State.countEdge
  try dsimp only
  repeat' first | exact sub_of hp rfl | (with_reducible first | assumption | apply onSct_keep | refine pair_keep (by assumption) ?_) | split | intro _

theorem solEmit_keep {fr : List Part} {s0 : State} (s : State) (code : Nat) (p : PortId) (a : Int) (b : Int) (hs : Keep fr s0 s) (hp : sub [.sys, .log, .mon] fr = true := by exact sub_of ‹sub _ _ = true› rfl) : Keep fr s0 (State.solEmit s code p a b) := by
  unfold State.solEmit
  try dsimp only
  repeat' first | exact sub_of hp rfl | (with_reducible first | assumption | apply emit_keep | refine pair_keep (by assumption) ?_) | split | intro _

theorem finishOpen_keep {fr : List Part} {s0 : State} (s : State) (p : PortId) (seen : Option Nat) (cut : Bool) (hs : Keep fr s0 s) (hp : sub [.sys, .sol, .log, .mon] fr = true := by exact sub_of ‹sub _ _ = true› rfl) : Keep fr s0 (State.finishOpen s p seen cut) := by
  unfold State.finishOpen
  try dsimp only
  repeat' first | exact sub_of hp rfl | (with_reducible first | assumption | apply draw_keep | apply count_keep | apply emitAll_keep | apply setSol_keep | refine pair_keep (by assumption) ?_) | split | intro _

theorem finishClose_keep {fr : List Part} {s0 : State} (s : State) (p : PortId) (seen : Option Nat) (cut : Bool) (hs : Keep fr s0 s) (hp : sub [.sys, .sol, .log, .mon] fr = true := by exact sub_of ‹sub _ _ = true› rfl) : Keep fr s0 (State.finishClose s p seen cut) := by
  unfold State.finishClose
  try dsimp only
  repeat' first | exact sub_of hp rfl | (with_reducible first | assumption | apply draw_keep | apply emitAll_keep | apply setSol_keep | refine pair_keep (by assumption) ?_) | split | intro _

theorem onGroup_keep {fr : List Part} {s0 : State} (s : State) (g : GroupId) (f : Group → Group) (hs : Keep fr s0 s) (hp : sub [.sol] fr = true := by exact sub_of ‹sub _ _ = true› rfl) : Keep fr s0 (State.onGroup s g f) := by
  unfold State.onGroup
  try dsimp only
  repeat' first | exact sub_of hp rfl | (with_reducible first | assumption | apply onSol_keep | refine pair_keep (by assumption) ?_) | split | intro _

theorem dirtyMates_keep {fr : List Part} {s0 : State} (s : State) (p : PortId) (hs : Keep fr s0 s) (hp : sub [.sol] fr = true := by exact sub_of ‹sub _ _ = true› rfl) : Keep fr s0 (State.dirtyMates s p) := by
  unfold State.dirtyMates
  try dsimp only
  repeat' first | exact sub_of hp rfl | (with_reducible first | assumption | apply mapSols_keep | refine pair_keep (by assumption) ?_) | split | intro _

theorem headFollows_keep {fr : List Part} {s0 : State} (s : State) (p : PortId) (hs : Keep fr s0 s) (hp : sub [.ports, .sol] fr = true := by exact sub_of ‹sub _ _ = true› rfl) : Keep fr s0 (State.headFollows s p) := by
  unfold State.headFollows
  try dsimp only
  repeat' first | exact sub_of hp rfl | (with_reducible first | assumption | apply setSol_keep | apply settle_keep | refine pair_keep (by assumption) ?_) | split | intro _

theorem enterPhase_keep {fr : List Part} {s0 : State} (s : State) (p : PortId) (ph : Phase) (tick : Nat) (hs : Keep fr s0 s) (hp : sub [.ports, .sol] fr = true := by exact sub_of ‹sub _ _ = true› rfl) : Keep fr s0 (State.enterPhase s p ph tick) := by
  unfold State.enterPhase
  try dsimp only
  repeat' first | exact sub_of hp rfl | (with_reducible first | assumption | apply setSol_keep | apply settle_keep | apply dirtyMates_keep | apply headFollows_keep | refine pair_keep (by assumption) ?_) | split | intro _

theorem startHit_keep {fr : List Part} {s0 : State} (s : State) (p : PortId) (src : Option Src) (dur : Nat) (keep : Option (Option Nat)) (hs : Keep fr s0 s) (hp : sub [.sys, .ports, .sol, .log, .mon] fr = true := by exact sub_of ‹sub _ _ = true› rfl) : Keep fr s0 (State.startHit s p src dur keep) := by
  unfold State.startHit
  try dsimp only
  repeat' first | exact sub_of hp rfl | (with_reducible first | assumption | apply count_keep | apply setSol_keep | apply mapSols_keep | apply finishClose_keep | apply enterPhase_keep | refine pair_keep (by assumption) ?_) | split | intro _

theorem toRelease_keep {fr : List Part} {s0 : State} (s : State) (p : PortId) (hs : Keep fr s0 s) (hp : sub [.ports, .sol] fr = true := by exact sub_of ‹sub _ _ = true› rfl) : Keep fr s0 (State.toRelease s p) := by
  unfold State.toRelease
  try dsimp only
  repeat' first | exact sub_of hp rfl | (with_reducible first | assumption | apply setSol_keep | apply enterPhase_keep | refine pair_keep (by assumption) ?_) | split | intro _

theorem toHold_keep {fr : List Part} {s0 : State} (s : State) (p : PortId) (hs : Keep fr s0 s) (hp : sub [.ports, .sol] fr = true := by exact sub_of ‹sub _ _ = true› rfl) : Keep fr s0 (State.toHold s p) := by
  unfold State.toHold
  try dsimp only
  repeat' first | exact sub_of hp rfl | (with_reducible first | assumption | apply setSol_keep | apply enterPhase_keep | refine pair_keep (by assumption) ?_) | split | intro _

theorem toIdle_keep {fr : List Part} {s0 : State} (s : State) (p : PortId) (hs : Keep fr s0 s) (hp : sub [.sys, .ports, .sol, .log, .mon] fr = true := by exact sub_of ‹sub _ _ = true› rfl) : Keep fr s0 (State.toIdle s p) := by
  unfold State.toIdle
  try dsimp only
  repeat' first | exact sub_of hp rfl | (with_reducible first | assumption | apply setSol_keep | apply finishClose_keep | apply enterPhase_keep | refine pair_keep (by assumption) ?_) | split | intro _

theorem complete_keep {fr : List Part} {s0 : State} (s : State) (src : Option Src) (st : Status) (hs : Keep fr s0 s) (hp : sub [.sys, .hie, .mon] fr = true := by exact sub_of ‹sub _ _ = true› rfl) : Keep fr s0 (State.complete s src st) := by
  unfold State.complete
  try dsimp only
  repeat' first | exact sub_of hp rfl | (with_reducible first | assumption | apply answer_keep | refine pair_keep (by assumption) ?_) | split | intro _

theorem dropPend_keep {fr : List Part} {s0 : State} (s : State) (p : PortId) (st : Status) (hs : Keep fr s0 s) (hp : sub [.sys, .sol, .hie, .mon] fr = true := by exact sub_of ‹sub _ _ = true› rfl) : Keep fr s0 (State.dropPend s p st) := by
  unfold State.dropPend
  try dsimp only
  repeat' first | exact sub_of hp rfl | (with_reducible first | assumption | apply setSol_keep | apply complete_keep | refine pair_keep (by assumption) ?_) | split | intro _

theorem endActive_keep {fr : List Part} {s0 : State} (s : State) (p : PortId) (st : Status) (hs : Keep fr s0 s) (hp : sub [.sys, .sol, .hie, .mon] fr = true := by exact sub_of ‹sub _ _ = true› rfl) : Keep fr s0 (State.endActive s p st) := by
  unfold State.endActive
  try dsimp only
  repeat' first | exact sub_of hp rfl | (with_reducible first | assumption | apply setSol_keep | apply complete_keep | refine pair_keep (by assumption) ?_) | split | intro _

theorem endProfile_keep {fr : List Part} {s0 : State} (s : State) (p : PortId) (st : Status) (hs : Keep fr s0 s) (hp : sub [.sys, .ports, .sol, .log, .hie, .mon] fr = true := by exact sub_of ‹sub _ _ = true› rfl) : Keep fr s0 (State.endProfile s p st) := by
  unfold State.endProfile
  try dsimp only
  repeat' first | exact sub_of hp rfl | (with_reducible first | assumption | apply setSol_keep | apply finishOpen_keep | apply finishClose_keep | apply enterPhase_keep | apply dropPend_keep | apply endActive_keep | refine pair_keep (by assumption) ?_) | split | intro _

theorem freshHit_keep {fr : List Part} {s0 : State} (s : State) (p : PortId) (src : Src) (dur : Nat) (keep : Option (Option Nat)) (hs : Keep fr s0 s) (hp : sub [.sys, .ports, .sol, .log, .hie, .mon] fr = true := by exact sub_of ‹sub _ _ = true› rfl) : Keep fr s0 (State.freshHit s p src dur keep).1 := by
  unfold State.freshHit
  try dsimp only
  repeat' first | exact sub_of hp rfl | (with_reducible first | assumption | apply onSol_keep | apply count_keep | apply setSol_keep | apply solEmit_keep | apply onGroup_keep | apply startHit_keep | apply dropPend_keep | refine pair_keep (by assumption) ?_) | split | intro _

theorem solOn_keep {fr : List Part} {s0 : State} (s : State) (p : PortId) (src : Src) (dur : Nat) (keep : Option (Option Nat)) (hs : Keep fr s0 s) (hp : sub [.sys, .ports, .sol, .log, .hie, .mon] fr = true := by exact sub_of ‹sub _ _ = true› rfl) : Keep fr s0 (State.solOn s p src dur keep).1 := by
  unfold State.solOn
  try dsimp only
  repeat' first | exact sub_of hp rfl | (with_reducible first | assumption | apply setSol_keep | apply finishClose_keep | apply toHold_keep | apply dropPend_keep | apply freshHit_keep | refine pair_keep (by assumption) ?_) | split | intro _

theorem solOff_keep {fr : List Part} {s0 : State} (s : State) (p : PortId) (src : Src) (hs : Keep fr s0 s) (hp : sub [.sys, .ports, .sol, .hie, .mon] fr = true := by exact sub_of ‹sub _ _ = true› rfl) : Keep fr s0 (State.solOff s p src).1 := by
  unfold State.solOff
  try dsimp only
  repeat' first | exact sub_of hp rfl | (with_reducible first | assumption | apply setSol_keep | apply toRelease_keep | apply dropPend_keep | refine pair_keep (by assumption) ?_) | split | intro _

theorem solForceOff_keep {fr : List Part} {s0 : State} (s : State) (p : PortId) (hs : Keep fr s0 s) (hp : sub [.sys, .ports, .sol, .log, .hie, .mon] fr = true := by exact sub_of ‹sub _ _ = true› rfl) : Keep fr s0 (State.solForceOff s p) := by
  unfold State.solForceOff
  try dsimp only
  repeat' first | exact sub_of hp rfl | (with_reducible first | assumption | apply finishOpen_keep | apply toRelease_keep | apply dropPend_keep | apply endActive_keep | refine pair_keep (by assumption) ?_) | split | intro _

theorem solForceOn_keep {fr : List Part} {s0 : State} (s : State) (p : PortId) (hs : Keep fr s0 s) (hp : sub [.sys, .ports, .sol, .log, .hie, .mon] fr = true := by exact sub_of ‹sub _ _ = true› rfl) : Keep fr s0 (State.solForceOn s p) := by
  unfold State.solForceOn
  try dsimp only
  repeat' first | exact sub_of hp rfl | (with_reducible first | assumption | apply setSol_keep | apply solOn_keep | refine pair_keep (by assumption) ?_) | split | intro _

theorem solForceRelease_keep {fr : List Part} {s0 : State} (s : State) (p : PortId) (hs : Keep fr s0 s) (hp : sub [.sys, .ports, .sol, .log, .hie, .mon] fr = true := by exact sub_of ‹sub _ _ = true› rfl) : Keep fr s0 (State.solForceRelease s p) := by
  unfold State.solForceRelease
  try dsimp only
  repeat' first | exact sub_of hp rfl | (with_reducible first | assumption | apply setSol_keep | apply solOn_keep | apply solOff_keep | refine pair_keep (by assumption) ?_) | split | intro _

theorem headForceOff_keep {fr : List Part} {s0 : State} (s : State) (h : PortId) (hs : Keep fr s0 s) (hp : sub [.sys, .ports, .sol, .log, .hie, .mon] fr = true := by exact sub_of ‹sub _ _ = true› rfl) : Keep fr s0 (State.headForceOff s h) := by
  unfold State.headForceOff
  try dsimp only
  repeat' first | exact sub_of hp rfl | (with_reducible first | assumption | apply setSol_keep | apply settle_keep | apply endProfile_keep | apply foldl_keep | apply foldl_fst_keep | refine pair_keep (by assumption) ?_) | split | intro _

theorem headRelease_keep {fr : List Part} {s0 : State} (s : State) (h : PortId) (hs : Keep fr s0 s) (hp : sub [.ports, .sol] fr = true := by exact sub_of ‹sub _ _ = true› rfl) : Keep fr s0 (State.headRelease s h) := by
  unfold State.headRelease
  try dsimp only
  repeat' first | exact sub_of hp rfl | (with_reducible first | assumption | apply setSol_keep | apply settle_keep | refine pair_keep (by assumption) ?_) | split | intro _

theorem present_keep {fr : List Part} {s0 : State} (s : State) (src : Nat) (v : Int) (hs : Keep fr s0 s) (hp : sub [.mon] fr = true := by exact sub_of ‹sub _ _ = true› rfl) : Keep fr s0 (State.present s src v) := by
  unfold State.present
  try dsimp only
  repeat' first | exact sub_of hp rfl | (with_reducible first | assumption | apply onMon_keep | refine pair_keep (by assumption) ?_) | split | intro _

theorem actOn_keep {fr : List Part} {s0 : State} (s : State) (p : PortId) (src : Src) (dur : Nat) (hs : Keep fr s0 s) (hp : sub [.sys, .ports, .sol, .log, .hie, .mon] fr = true := by exact sub_of ‹sub _ _ = true› rfl) : Keep fr s0 (State.actOn s p src dur).1 := by
  unfold State.actOn
  try dsimp only
  repeat' first | exact sub_of hp rfl | (with_reducible first | assumption | apply setPorts_keep | apply settle_keep | apply solOn_keep | refine pair_keep (by assumption) ?_) | split | intro _

theorem actOff_keep {fr : List Part} {s0 : State} (s : State) (p : PortId) (src : Src) (hs : Keep fr s0 s) (hp : sub [.sys, .ports, .sol, .hie, .mon] fr = true := by exact sub_of ‹sub _ _ = true› rfl) : Keep fr s0 (State.actOff s p src).1 := by
  unfold State.actOff
  try dsimp only
  repeat' first | exact sub_of hp rfl | (with_reducible first | assumption | apply setPorts_keep | apply settle_keep | apply solOff_keep | refine pair_keep (by assumption) ?_) | split | intro _

theorem presentOn_keep {fr : List Part} {s0 : State} (s : State) (p : PortId) (src : Src) (dur : Nat) (hs : Keep fr s0 s) (hp : sub [.sys, .ports, .sol, .log, .hie, .mon] fr = true := by exact sub_of ‹sub _ _ = true› rfl) : Keep fr s0 (State.presentOn s p src dur).1 := by
  unfold State.presentOn
  try dsimp only
  repeat' first | exact sub_of hp rfl | (with_reducible first | assumption | apply actOn_keep | refine pair_keep (by assumption) ?_) | split | intro _

theorem presentOff_keep {fr : List Part} {s0 : State} (s : State) (p : PortId) (src : Src) (hs : Keep fr s0 s) (hp : sub [.sys, .ports, .sol, .hie, .mon] fr = true := by exact sub_of ‹sub _ _ = true› rfl) : Keep fr s0 (State.presentOff s p src).1 := by
  unfold State.presentOff
  try dsimp only
  repeat' first | exact sub_of hp rfl | (with_reducible first | assumption | apply actOff_keep | refine pair_keep (by assumption) ?_) | split | intro _

theorem presented_keep {fr : List Part} {s0 : State} (r : State × Status × Bool) (src : Src) (hs : Keep fr s0 r.1) (hp : sub [.sys, .hie, .mon] fr = true := by exact sub_of ‹sub _ _ = true› rfl) : Keep fr s0 (State.presented r src) := by
  unfold State.presented
  try dsimp only
  repeat' first | exact sub_of hp rfl | (with_reducible first | assumption | apply answer_keep | refine pair_keep (by assumption) ?_) | split | intro _

theorem execPortCmdOn_keep {fr : List Part} {s0 : State} (p : PortId) (dur : Nat) (src : Src) (s : State) (hs : Keep fr s0 s) (hp : sub [.sys, .ports, .sol, .log, .hie, .mon] fr = true := by exact sub_of ‹sub _ _ = true› rfl) : ∃ t, execPortCmdOn p dur src s = .next t ∧ Keep fr s0 t := by
  unfold execPortCmdOn
  refine ⟨_, rfl, ?_⟩
  try dsimp only
  repeat' first | exact sub_of hp rfl | (with_reducible first | assumption | apply answer_keep | apply presentOn_keep | apply presented_keep | refine pair_keep (by assumption) ?_) | split | intro _

theorem execPortCmdOff_keep {fr : List Part} {s0 : State} (p : PortId) (src : Src) (s : State) (hs : Keep fr s0 s) (hp : sub [.sys, .ports, .sol, .hie, .mon] fr = true := by exact sub_of ‹sub _ _ = true› rfl) : ∃ t, execPortCmdOff p src s = .next t ∧ Keep fr s0 t := by
  unfold execPortCmdOff
  refine ⟨_, rfl, ?_⟩
  try dsimp only
  repeat' first | exact sub_of hp rfl | (with_reducible first | assumption | apply answer_keep | apply presentOff_keep | apply presented_keep | refine pair_keep (by assumption) ?_) | split | intro _

theorem execDigitalOutputDurEnd_keep {fr : List Part} {s0 : State} (p : PortId) (s : State) (hs : Keep fr s0 s) (hp : sub [.ports] fr = true := by exact sub_of ‹sub _ _ = true› rfl) : ∃ t, execDigitalOutputDurEnd p s = .next t ∧ Keep fr s0 t := by
  unfold execDigitalOutputDurEnd
  refine ⟨_, rfl, ?_⟩
  try dsimp only
  repeat' first | exact sub_of hp rfl | (with_reducible first | assumption | apply setPorts_keep | apply settle_keep | refine pair_keep (by assumption) ?_) | split | intro _

theorem writePer_keep {fr : List Part} {s0 : State} (s : State) (p : PortId) (v : Word) (hs : Keep fr s0 s) (hp : sub [.ports] fr = true := by exact sub_of ‹sub _ _ = true› rfl) : Keep fr s0 (State.writePer s p v).1 := by
  unfold State.writePer
  try dsimp only
  repeat' first | exact sub_of hp rfl | (with_reducible first | assumption | apply setPort_keep | refine pair_keep (by assumption) ?_) | split | intro _

theorem writePh_keep {fr : List Part} {s0 : State} (s : State) (p : PortId) (v : Word) (hs : Keep fr s0 s) (hp : sub [.ports] fr = true := by exact sub_of ‹sub _ _ = true› rfl) : Keep fr s0 (State.writePh s p v).1 := by
  unfold State.writePh
  try dsimp only
  repeat' first | exact sub_of hp rfl | (with_reducible first | assumption | apply setPort_keep | refine pair_keep (by assumption) ?_) | split | intro _

theorem execPortPwmPerWrite_keep {fr : List Part} {s0 : State} (p : PortId) (v : Word) (k : SessId) (s : State) (hs : Keep fr s0 s) (hp : sub [.sys, .ports, .hie, .mon] fr = true := by exact sub_of ‹sub _ _ = true› rfl) : ∃ t, execPortPwmPerWrite p v k s = .next t ∧ Keep fr s0 t := by
  unfold execPortPwmPerWrite
  refine ⟨_, rfl, ?_⟩
  try dsimp only
  repeat' first | exact sub_of hp rfl | (with_reducible first | assumption | apply gated_keep | apply writePer_keep | refine pair_keep (by assumption) ?_) | split | intro _

theorem execPortPwmPhWrite_keep {fr : List Part} {s0 : State} (p : PortId) (v : Word) (k : SessId) (s : State) (hs : Keep fr s0 s) (hp : sub [.sys, .ports, .hie, .mon] fr = true := by exact sub_of ‹sub _ _ = true› rfl) : ∃ t, execPortPwmPhWrite p v k s = .next t ∧ Keep fr s0 t := by
  unfold execPortPwmPhWrite
  refine ⟨_, rfl, ?_⟩
  try dsimp only
  repeat' first | exact sub_of hp rfl | (with_reducible first | assumption | apply gated_keep | apply writePh_keep | refine pair_keep (by assumption) ?_) | split | intro _

theorem execCarrierInstant_keep {fr : List Part} {s0 : State} (p : PortId) (s : State) (hs : Keep fr s0 s) (hp : sub [.ports] fr = true := by exact sub_of ‹sub _ _ = true› rfl) : ∃ t, execCarrierInstant p s = .next t ∧ Keep fr s0 t := by
  unfold execCarrierInstant
  refine ⟨_, rfl, ?_⟩
  try dsimp only
  repeat' first | exact sub_of hp rfl | (with_reducible first | assumption | apply setPorts_keep | apply settle_keep | refine pair_keep (by assumption) ?_) | split | intro _

theorem senseCell_keep {fr : List Part} {s0 : State} (s : State) (p : PortId) (m : Sense) (hs : Keep fr s0 s) (hp : sub [.ports, .mon] fr = true := by exact sub_of ‹sub _ _ = true› rfl) : Keep fr s0 (State.senseCell s p m) := by
  unfold State.senseCell
  try dsimp only
  repeat' first | exact sub_of hp rfl | (with_reducible first | assumption | apply setPort_keep | apply present_keep | refine pair_keep (by assumption) ?_) | split | intro _

theorem countOver_keep {fr : List Part} {s0 : State} (s : State) (p : PortId) (hs : Keep fr s0 s) (hp : sub [.ports] fr = true := by exact sub_of ‹sub _ _ = true› rfl) : Keep fr s0 (State.countOver s p) := by
  unfold State.countOver
  try dsimp only
  repeat' first | exact sub_of hp rfl | (with_reducible first | assumption | apply setPort_keep | refine pair_keep (by assumption) ?_) | split | intro _

theorem sense_keep {fr : List Part} {s0 : State} (s : State) (p : PortId) (m : Sense) (hs : Keep fr s0 s) (hp : sub [.ports, .mon] fr = true := by exact sub_of ‹sub _ _ = true› rfl) : Keep fr s0 (State.sense s p m) := by
  unfold State.sense
  try dsimp only
  repeat' first | exact sub_of hp rfl | (with_reducible first | assumption | apply senseCell_keep | apply countOver_keep | refine pair_keep (by assumption) ?_) | split | intro _

theorem execRegulatorUpdate_keep {fr : List Part} {s0 : State} (p : PortId) (m : Sense) (s : State) (hs : Keep fr s0 s) (hp : sub [.sys, .ports, .sol, .mon] fr = true := by exact sub_of ‹sub _ _ = true› rfl) : ∃ t, execRegulatorUpdate p m s = .next t ∧ Keep fr s0 t := by
  unfold execRegulatorUpdate
  refine ⟨_, rfl, ?_⟩
  try dsimp only
  repeat' first | exact sub_of hp rfl | (with_reducible first | assumption | apply draw_keep | apply setPorts_keep | apply setSol_keep | apply sense_keep | refine pair_keep (by assumption) ?_) | split | intro _

theorem execInputUpdate_keep {fr : List Part} {s0 : State} (p : PortId) (mean : Int) (instant : Nat) (s : State) (hs : Keep fr s0 s) (hp : sub [.sys, .ports, .mon] fr = true := by exact sub_of ‹sub _ _ = true› rfl) : ∃ t, execInputUpdate p mean instant s = .next t ∧ Keep fr s0 t := by
  unfold execInputUpdate
  refine ⟨_, rfl, ?_⟩
  try dsimp only
  repeat' first | exact sub_of hp rfl | (with_reducible first | assumption | apply draw_keep | apply count_keep | apply setPort_keep | apply present_keep | refine pair_keep (by assumption) ?_) | split | intro _

theorem execTachEdge_keep {fr : List Part} {s0 : State} (p : PortId) (instant : Nat) (s : State) (hs : Keep fr s0 s) (hp : sub [.ports, .mon, .sct] fr = true := by exact sub_of ‹sub _ _ = true› rfl) : ∃ t, execTachEdge p instant s = .next t ∧ Keep fr s0 t := by
  unfold execTachEdge
  refine ⟨_, rfl, ?_⟩
  try dsimp only
  repeat' first | exact sub_of hp rfl | (with_reducible first | assumption | apply count_keep | apply setPort_keep | apply countEdge_keep | apply present_keep | refine pair_keep (by assumption) ?_) | split | intro _

theorem execTachStale_keep {fr : List Part} {s0 : State} (p : PortId) (s : State) (hs : Keep fr s0 s) (hp : sub [.ports, .mon] fr = true := by exact sub_of ‹sub _ _ = true› rfl) : ∃ t, execTachStale p s = .next t ∧ Keep fr s0 t := by
  unfold execTachStale
  refine ⟨_, rfl, ?_⟩
  try dsimp only
  repeat' first | exact sub_of hp rfl | (with_reducible first | assumption | apply setPort_keep | apply present_keep | refine pair_keep (by assumption) ?_) | split | intro _

theorem faultStop_keep {fr : List Part} {s0 : State} (s : State) (p : PortId) (hs : Keep fr s0 s) (hp : sub [.sys, .ports, .sol, .log, .hie, .mon] fr = true := by exact sub_of ‹sub _ _ = true› rfl) : Keep fr s0 (State.faultStop s p) := by
  unfold State.faultStop
  try dsimp only
  repeat' first | exact sub_of hp rfl | (with_reducible first | assumption | apply setPorts_keep | apply setSol_keep | apply endProfile_keep | apply foldl_keep | apply foldl_fst_keep | refine pair_keep (by assumption) ?_) | split | intro _

theorem faultEnter_keep {fr : List Part} {s0 : State} (s : State) (p : PortId) (latch : Bool) (hs : Keep fr s0 s) (hp : sub [.sys, .ports, .sol, .log, .hie, .mon] fr = true := by exact sub_of ‹sub _ _ = true› rfl) : Keep fr s0 (State.faultEnter s p latch) := by
  unfold State.faultEnter
  try dsimp only
  repeat' first | exact sub_of hp rfl | (with_reducible first | assumption | apply count_keep | apply setPorts_keep | apply faultStop_keep | refine pair_keep (by assumption) ?_) | split | intro _

theorem faultAt_keep {fr : List Part} {s0 : State} (s : State) (p : PortId) (b : FaultBit) (code : Nat) (v : Int) (hs : Keep fr s0 s) (hp : sub [.sys, .ports, .sol, .log, .hie, .mon] fr = true := by exact sub_of ‹sub _ _ = true› rfl) : Keep fr s0 (State.faultAt s p b code v) := by
  unfold State.faultAt
  try dsimp only
  repeat' first | exact sub_of hp rfl | (with_reducible first | assumption | apply emit_keep | apply setPort_keep | apply present_keep | apply faultEnter_keep | refine pair_keep (by assumption) ?_) | split | intro _

theorem execShortDetect_keep {fr : List Part} {s0 : State} (p : PortId) (toSupply : Bool) (i : Int) (s : State) (hs : Keep fr s0 s) (hp : sub [.sys, .ports, .sol, .log, .hie, .mon] fr = true := by exact sub_of ‹sub _ _ = true› rfl) : ∃ t, execShortDetect p toSupply i s = .next t ∧ Keep fr s0 t := by
  unfold execShortDetect
  refine ⟨_, rfl, ?_⟩
  try dsimp only
  repeat' first | exact sub_of hp rfl | (with_reducible first | assumption | apply faultAt_keep | refine pair_keep (by assumption) ?_) | split | intro _

theorem execOvercurrentDetect_keep {fr : List Part} {s0 : State} (p : PortId) (i : Int) (s : State) (hs : Keep fr s0 s) (hp : sub [.sys, .ports, .sol, .log, .hie, .mon] fr = true := by exact sub_of ‹sub _ _ = true› rfl) : ∃ t, execOvercurrentDetect p i s = .next t ∧ Keep fr s0 t := by
  unfold execOvercurrentDetect
  refine ⟨_, rfl, ?_⟩
  try dsimp only
  repeat' first | exact sub_of hp rfl | (with_reducible first | assumption | apply faultAt_keep | refine pair_keep (by assumption) ?_) | split | intro _

theorem execTimeOverLimit_keep {fr : List Part} {s0 : State} (p : PortId) (i : Int) (s : State) (hs : Keep fr s0 s) (hp : sub [.sys, .ports, .sol, .log, .hie, .mon] fr = true := by exact sub_of ‹sub _ _ = true› rfl) : ∃ t, execTimeOverLimit p i s = .next t ∧ Keep fr s0 t := by
  unfold execTimeOverLimit
  refine ⟨_, rfl, ?_⟩
  try dsimp only
  repeat' first | exact sub_of hp rfl | (with_reducible first | assumption | apply setPort_keep | apply faultAt_keep | refine pair_keep (by assumption) ?_) | split | intro _

theorem execOvertempDetect_keep {fr : List Part} {s0 : State} (p : PortId) (tj : Nat) (s : State) (hs : Keep fr s0 s) (hp : sub [.sys, .ports, .sol, .log, .hie, .mon] fr = true := by exact sub_of ‹sub _ _ = true› rfl) : ∃ t, execOvertempDetect p tj s = .next t ∧ Keep fr s0 t := by
  unfold execOvertempDetect
  refine ⟨_, rfl, ?_⟩
  try dsimp only
  repeat' first | exact sub_of hp rfl | (with_reducible first | assumption | apply setPort_keep | apply faultAt_keep | refine pair_keep (by assumption) ?_) | split | intro _

theorem execShareImbalance_keep {fr : List Part} {s0 : State} (p : PortId) (i : Int) (s : State) (hs : Keep fr s0 s) (hp : sub [.sys, .ports, .sol, .log, .hie, .mon] fr = true := by exact sub_of ‹sub _ _ = true› rfl) : ∃ t, execShareImbalance p i s = .next t ∧ Keep fr s0 t := by
  unfold execShareImbalance
  refine ⟨_, rfl, ?_⟩
  try dsimp only
  repeat' first | exact sub_of hp rfl | (with_reducible first | assumption | apply faultAt_keep | refine pair_keep (by assumption) ?_) | split | intro _

theorem execOpenLoadDetect_keep {fr : List Part} {s0 : State} (p : PortId) (i : Int) (s : State) (hs : Keep fr s0 s) (hp : sub [.sys, .ports, .log, .mon] fr = true := by exact sub_of ‹sub _ _ = true› rfl) : ∃ t, execOpenLoadDetect p i s = .next t ∧ Keep fr s0 t := by
  unfold execOpenLoadDetect
  refine ⟨_, rfl, ?_⟩
  try dsimp only
  repeat' first | exact sub_of hp rfl | (with_reducible first | assumption | apply emit_keep | apply setPort_keep | apply present_keep | refine pair_keep (by assumption) ?_) | split | intro _

theorem execInputFaultDetect_keep {fr : List Part} {s0 : State} (p : PortId) (b : FaultBit) (s : State) (hs : Keep fr s0 s) (hp : sub [.sys, .ports, .log, .mon] fr = true := by exact sub_of ‹sub _ _ = true› rfl) : ∃ t, execInputFaultDetect p b s = .next t ∧ Keep fr s0 t := by
  unfold execInputFaultDetect
  refine ⟨_, rfl, ?_⟩
  try dsimp only
  repeat' first | exact sub_of hp rfl | (with_reducible first | assumption | apply emit_keep | apply setPort_keep | apply present_keep | refine pair_keep (by assumption) ?_) | split | intro _

theorem execInputFaultEnd_keep {fr : List Part} {s0 : State} (p : PortId) (b : FaultBit) (s : State) (hs : Keep fr s0 s) (hp : sub [.ports, .mon] fr = true := by exact sub_of ‹sub _ _ = true› rfl) : ∃ t, execInputFaultEnd p b s = .next t ∧ Keep fr s0 t := by
  unfold execInputFaultEnd
  refine ⟨_, rfl, ?_⟩
  try dsimp only
  repeat' first | exact sub_of hp rfl | (with_reducible first | assumption | apply setPort_keep | apply present_keep | refine pair_keep (by assumption) ?_) | split | intro _

theorem execBurdenReconnect_keep {fr : List Part} {s0 : State} (p : PortId) (s : State) (hs : Keep fr s0 s) (hp : sub [.ports] fr = true := by exact sub_of ‹sub _ _ = true› rfl) : ∃ t, execBurdenReconnect p s = .next t ∧ Keep fr s0 t := by
  unfold execBurdenReconnect
  refine ⟨_, rfl, ?_⟩
  try dsimp only
  repeat' first | exact sub_of hp rfl | (with_reducible first | assumption | apply setPort_keep | refine pair_keep (by assumption) ?_) | split | intro _

theorem execBankOverload_keep {fr : List Part} {s0 : State} (b : BankId) (load : Int) (s : State) (hs : Keep fr s0 s) (hp : sub [.sys, .banks, .log, .mon] fr = true := by exact sub_of ‹sub _ _ = true› rfl) : ∃ t, execBankOverload b load s = .next t ∧ Keep fr s0 t := by
  unfold execBankOverload
  refine ⟨_, rfl, ?_⟩
  try dsimp only
  repeat' first | exact sub_of hp rfl | (with_reducible first | assumption | apply emit_keep | apply setBank_keep | refine pair_keep (by assumption) ?_) | split | intro _

theorem execBankTrip_keep {fr : List Part} {s0 : State} (b : BankId) (load : Int) (s : State) (hs : Keep fr s0 s) (hp : sub [.sys, .ports, .banks, .sol, .log, .hie, .mon] fr = true := by exact sub_of ‹sub _ _ = true› rfl) : ∃ t, execBankTrip b load s = .next t ∧ Keep fr s0 t := by
  unfold execBankTrip
  refine ⟨_, rfl, ?_⟩
  try dsimp only
  repeat' first | exact sub_of hp rfl | (with_reducible first | assumption | apply emit_keep | apply setPort_keep | apply setBank_keep | apply faultEnter_keep | apply foldl_keep | apply foldl_fst_keep | refine pair_keep (by assumption) ?_) | split | intro _

theorem execBankOverloadEnd_keep {fr : List Part} {s0 : State} (b : BankId) (load : Int) (s : State) (hs : Keep fr s0 s) (hp : sub [.banks] fr = true := by exact sub_of ‹sub _ _ = true› rfl) : ∃ t, execBankOverloadEnd b load s = .next t ∧ Keep fr s0 t := by
  unfold execBankOverloadEnd
  refine ⟨_, rfl, ?_⟩
  try dsimp only
  repeat' first | exact sub_of hp rfl | (with_reducible first | assumption | apply setBank_keep | refine pair_keep (by assumption) ?_) | split | intro _

theorem execPortRetry_keep {fr : List Part} {s0 : State} (p : PortId) (s : State) (hs : Keep fr s0 s) (hp : sub [.sys, .ports, .log, .mon] fr = true := by exact sub_of ‹sub _ _ = true› rfl) : ∃ t, execPortRetry p s = .next t ∧ Keep fr s0 t := by
  refine ⟨_, rfl, ?_⟩
  split
  · exact emit_keep _ _ (settle_keep _ _ (setPorts_keep _ _ _ (mk_ports_keep _ _ hs)))
  · exact hs

theorem execRetryCountReset_keep {fr : List Part} {s0 : State} (p : PortId) (s : State) (hs : Keep fr s0 s) (hp : sub [.ports] fr = true := by exact sub_of ‹sub _ _ = true› rfl) : ∃ t, execRetryCountReset p s = .next t ∧ Keep fr s0 t := by
  unfold execRetryCountReset
  refine ⟨_, rfl, ?_⟩
  try dsimp only
  repeat' first | exact sub_of hp rfl | (with_reducible first | assumption | apply setPorts_keep | refine pair_keep (by assumption) ?_) | split | intro _

theorem unlatch_keep {fr : List Part} {s0 : State} (s : State) (p : PortId) (hs : Keep fr s0 s) (hp : sub [.ports] fr = true := by exact sub_of ‹sub _ _ = true› rfl) : Keep fr s0 (State.unlatch s p) := by
  unfold State.unlatch
  try dsimp only
  repeat' first | exact sub_of hp rfl | (with_reducible first | assumption | apply setPorts_keep | apply settle_keep | refine pair_keep (by assumption) ?_) | split | intro _

theorem writeFault_keep {fr : List Part} {s0 : State} (s : State) (p : PortId) (v : Word) (hs : Keep fr s0 s) (hp : sub [.sys, .ports, .log, .mon] fr = true := by exact sub_of ‹sub _ _ = true› rfl) : Keep fr s0 (State.writeFault s p v).1 := by
  unfold State.writeFault
  try dsimp only
  repeat' first | exact sub_of hp rfl | (with_reducible first | assumption | apply emit_keep | apply setPort_keep | apply unlatch_keep | refine pair_keep (by assumption) ?_) | split | intro _

theorem execPortFaultClear_keep {fr : List Part} {s0 : State} (p : PortId) (v : Word) (k : SessId) (s : State) (hs : Keep fr s0 s) (hp : sub [.sys, .ports, .log, .hie, .mon] fr = true := by exact sub_of ‹sub _ _ = true› rfl) : ∃ t, execPortFaultClear p v k s = .next t ∧ Keep fr s0 t := by
  unfold execPortFaultClear
  refine ⟨_, rfl, ?_⟩
  try dsimp only
  repeat' first | exact sub_of hp rfl | (with_reducible first | assumption | apply gated_keep | apply writeFault_keep | refine pair_keep (by assumption) ?_) | split | intro _

end Sys2Proof.Machine
end

