-- ==== Sys2Proof/Laws/KeepTime.lean ====
section
/-! SUPPORT. What every operation keeps, of the time base, the hierarchy, CAN. -/

namespace Sys2Proof.Machine

set_option linter.all false
set_option Elab.async false

open Sys2Proof

theorem setLink_keep {fr : List Part} {s0 : State} (s : State) (down : Side) (f : Link → Link) (hs : Keep fr s0 s) (hp : sub [.hie] fr = true := by exact sub_of ‹sub _ _ = true› rfl) : Keep fr s0 (State.setLink s down f) := by
  unfold State.setLink
  try dsimp only
  repeat' first | exact sub_of hp rfl | (with_reducible first | assumption | apply onHie_keep | refine pair_keep (by assumption) ?_) | split | intro _ | exact fun x hx => hx

theorem hieEmit_keep {fr : List Part} {s0 : State} (s : State) (code : Nat) (b2 : Nat) (b3 : Nat) (a : Int) (b : Int) (hs : Keep fr s0 s) (hp : sub [.sys, .log, .mon] fr = true := by exact sub_of ‹sub _ _ = true› rfl) : Keep fr s0 (State.hieEmit s code b2 b3 a b) := by
  unfold State.hieEmit
  try dsimp only
  repeat' first | exact sub_of hp rfl | (with_reducible first | assumption | apply emit_keep | refine pair_keep (by assumption) ?_) | split | intro _

theorem setEntry_keep {fr : List Part} {s0 : State} (s : State) (i : EntryId) (f : Q10Slot → Q10Slot) (hs : Keep fr s0 s) (hp : sub [.hie] fr = true := by exact sub_of ‹sub _ _ = true› rfl) : Keep fr s0 (State.setEntry s i f) := by
  unfold State.setEntry
  try dsimp only
  repeat' first | exact sub_of hp rfl | (with_reducible first | assumption | apply onHie_keep | refine pair_keep (by assumption) ?_) | split | intro _ | exact fun x hx => hx

theorem putEntry_keep {fr : List Part} {s0 : State} (s : State) (i : EntryId) (c : Timed) (hs : Keep fr s0 s) (hp : sub [.sys, .hie] fr = true := by exact sub_of ‹sub _ _ = true› rfl) : Keep fr s0 (State.putEntry s i c) := by
  unfold State.putEntry
  try dsimp only
  repeat' first | exact sub_of hp rfl | (with_reducible first | assumption | apply noteFill_keep | apply setEntry_keep | refine pair_keep (by assumption) ?_) | split | intro _

theorem reserve_keep {fr : List Part} {s0 : State} (s : State) (h : Holder) (hs : Keep fr s0 s) (hp : sub [.sys, .hie] fr = true := by exact sub_of ‹sub _ _ = true› rfl) : Keep fr s0 (State.reserve s h).1 := by
  unfold State.reserve
  try dsimp only
  repeat' first | exact sub_of hp rfl | (with_reducible first | assumption | apply noteOvf_keep | apply setEntry_keep | refine pair_keep (by assumption) ?_) | split | intro _

theorem setSect_keep {fr : List Part} {s0 : State} (s : State) (i : SectId) (f : Sect → Sect) (hs : Keep fr s0 s) (hp : sub [.sct] fr = true := by exact sub_of ‹sub _ _ = true› rfl) : Keep fr s0 (State.setSect s i f) := by
  unfold State.setSect
  try dsimp only
  repeat' first | exact sub_of hp rfl | (with_reducible first | assumption | apply onSct_keep | refine pair_keep (by assumption) ?_) | split | intro _

theorem sctEmit_keep {fr : List Part} {s0 : State} (s : State) (code : Nat) (i : Option SectId) (a : Int) (b : Int) (hs : Keep fr s0 s) (hp : sub [.sys, .log, .mon] fr = true := by exact sub_of ‹sub _ _ = true› rfl) : Keep fr s0 (State.sctEmit s code i a b) := by
  unfold State.sctEmit
  try dsimp only
  repeat' first | exact sub_of hp rfl | (with_reducible first | assumption | apply emit_keep | refine pair_keep (by assumption) ?_) | split | intro _

theorem sectDone_keep {fr : List Part} {s0 : State} (s : State) (i : SectId) (on : Bool) (tick : Nat) (hs : Keep fr s0 s) (hp : sub [.sct] fr = true := by exact sub_of ‹sub _ _ = true› rfl) : Keep fr s0 (State.sectDone s i on tick) := by
  unfold State.sectDone
  try dsimp only
  repeat' first | exact sub_of hp rfl | (with_reducible first | assumption | apply setSect_keep | refine pair_keep (by assumption) ?_) | split | intro _

theorem sectRefused_keep {fr : List Part} {s0 : State} (s : State) (i : SectId) (on : Bool) (st : Status) (hs : Keep fr s0 s) (hp : sub [.sys, .log, .mon, .sct] fr = true := by exact sub_of ‹sub _ _ = true› rfl) : Keep fr s0 (State.sectRefused s i on st) := by
  unfold State.sectRefused
  try dsimp only
  repeat' first | exact sub_of hp rfl | (with_reducible first | assumption | apply onSct_keep | apply setSect_keep | apply sctEmit_keep | refine pair_keep (by assumption) ?_) | split | intro _

theorem timedDone_keep {fr : List Part} {s0 : State} (s : State) (c : Timed) (st : Status) (ran : Bool) (stale : Bool) (hs : Keep fr s0 s) (hp : sub [.sys, .log, .hie, .mon, .sct] fr = true := by exact sub_of ‹sub _ _ = true› rfl) : Keep fr s0 (State.timedDone s c st ran stale) := by
  unfold State.timedDone
  try dsimp only
  repeat' first | exact sub_of hp rfl | (with_reducible first | assumption | apply answer_keep | apply setSect_keep | apply sectDone_keep | apply sectRefused_keep | refine pair_keep (by assumption) ?_) | split | intro _

theorem staleAll_keep {fr : List Part} {s0 : State} (s : State) (hs : Keep fr s0 s) (hp : sub [.sys, .log, .hie, .mon, .sct] fr = true := by exact sub_of ‹sub _ _ = true› rfl) : Keep fr s0 (State.staleAll s) := by
  unfold State.staleAll
  try dsimp only
  repeat' first | exact sub_of hp rfl | (with_reducible first | assumption | apply setEntry_keep | apply timedDone_keep | apply foldl_keep | apply foldl_fst_keep | refine pair_keep (by assumption) ?_) | split | intro _

theorem sendDelay_keep {fr : List Part} {s0 : State} (s : State) (p : PortId) (b : Fin 10) (close : Bool) (hs : Keep fr s0 s) (hp : sub [.sys, .hie, .mon] fr = true := by exact sub_of ‹sub _ _ = true› rfl) : Keep fr s0 (State.sendDelay s p b close) := by
  unfold State.sendDelay
  try dsimp only
  repeat' first | exact sub_of hp rfl | (with_reducible first | assumption | apply count_keep | apply send_keep | refine pair_keep (by assumption) ?_) | split | intro _

theorem sendBands_keep {fr : List Part} {s0 : State} (s : State) (p : PortId) (bs : List (Fin 10)) (hs : Keep fr s0 s) (hp : sub [.sys, .hie, .mon] fr = true := by exact sub_of ‹sub _ _ = true› rfl) : Keep fr s0 (State.sendBands s p bs) := by
  unfold State.sendBands
  try dsimp only
  repeat' first | exact sub_of hp rfl | (with_reducible first | assumption | apply sendDelay_keep | apply foldl_keep | apply foldl_fst_keep | refine pair_keep (by assumption) ?_) | split | intro _

theorem sendTables_keep {fr : List Part} {s0 : State} (s : State) (hs : Keep fr s0 s) (hp : sub [.sys, .hie, .mon] fr = true := by exact sub_of ‹sub _ _ = true› rfl) : Keep fr s0 (State.sendTables s) := by
  unfold State.sendTables
  try dsimp only
  repeat' first | exact sub_of hp rfl | (with_reducible first | assumption | apply sendBands_keep | apply foldl_keep | apply foldl_fst_keep | refine pair_keep (by assumption) ?_) | split | intro _

theorem delayNews_keep {fr : List Part} {s0 : State} (old : State) (s : State) (p : PortId) (hs : Keep fr s0 s) (hp : sub [.sys, .hie, .mon] fr = true := by exact sub_of ‹sub _ _ = true› rfl) : Keep fr s0 (State.delayNews old s p) := by
  unfold State.delayNews
  try dsimp only
  repeat' first | exact sub_of hp rfl | (with_reducible first | assumption | apply sendBands_keep | refine pair_keep (by assumption) ?_) | split | intro _

theorem timeEmit_keep {fr : List Part} {s0 : State} (s : State) (code : Nat) (before : Qual) (b3 : Nat) (a : Int) (b : Int) (hs : Keep fr s0 s) (hp : sub [.sys, .log, .mon] fr = true := by exact sub_of ‹sub _ _ = true› rfl) : Keep fr s0 (State.timeEmit s code before b3 a b) := by
  unfold State.timeEmit
  try dsimp only
  repeat' first | exact sub_of hp rfl | (with_reducible first | assumption | apply emit_keep | refine pair_keep (by assumption) ?_) | split | intro _

theorem creditOfs_keep {fr : List Part} {s0 : State} (s : State) (hs : Keep fr s0 s) (hp : sub [.tmb] fr = true := by exact sub_of ‹sub _ _ = true› rfl) : Keep fr s0 (State.creditOfs s) := by
  unfold State.creditOfs
  try dsimp only
  repeat' first | exact sub_of hp rfl | (with_reducible first | assumption | apply onTmb_keep | refine pair_keep (by assumption) ?_) | split | intro _

theorem tpSettle_keep {fr : List Part} {s0 : State} (s : State) (before : Qual) (hs : Keep fr s0 s) (hp : sub [.sys, .log, .tmb, .mon] fr = true := by exact sub_of ‹sub _ _ = true› rfl) : Keep fr s0 (State.tpSettle s before) := by
  unfold State.tpSettle
  try dsimp only
  repeat' first | exact sub_of hp rfl | (with_reducible first | assumption | apply onTmb_keep | apply timeEmit_keep | refine pair_keep (by assumption) ?_) | split | intro _

theorem setQual_keep {fr : List Part} {s0 : State} (s : State) (q : Qual) (hs : Keep fr s0 s) (hp : sub [.tmb] fr = true := by exact sub_of ‹sub _ _ = true› rfl) : Keep fr s0 (State.setQual s q) := by
  unfold State.setQual
  try dsimp only
  repeat' first | exact sub_of hp rfl | (with_reducible first | assumption | apply onTmb_keep | apply creditOfs_keep | refine pair_keep (by assumption) ?_) | split | intro _

theorem advanceT_keep {fr : List Part} {s0 : State} (s : State) (hs : Keep fr s0 s) (hp : sub [.tmb] fr = true := by exact sub_of ‹sub _ _ = true› rfl) : Keep fr s0 (State.advanceT s) := by
  unfold State.advanceT
  try dsimp only
  repeat' first | exact sub_of hp rfl | (with_reducible first | assumption | apply onTmb_keep | refine pair_keep (by assumption) ?_) | split | intro _

theorem newRate_keep {fr : List Part} {s0 : State} (s : State) (hs : Keep fr s0 s) (hp : sub [.sys, .log, .tmb, .mon] fr = true := by exact sub_of ‹sub _ _ = true› rfl) : Keep fr s0 (State.newRate s) := by
  unfold State.newRate
  try dsimp only
  repeat' first | exact sub_of hp rfl | (with_reducible first | assumption | apply onTmb_keep | apply timeEmit_keep | refine pair_keep (by assumption) ?_) | split | intro _

theorem loseSource_keep {fr : List Part} {s0 : State} (s : State) (hs : Keep fr s0 s) (hp : sub [.sys, .log, .tmb, .mon] fr = true := by exact sub_of ‹sub _ _ = true› rfl) : Keep fr s0 (State.loseSource s) := by
  unfold State.loseSource
  try dsimp only
  repeat' first | exact sub_of hp rfl | (with_reducible first | assumption | apply onTmb_keep | apply timeEmit_keep | apply tpSettle_keep | apply setQual_keep | apply newRate_keep | refine pair_keep (by assumption) ?_) | split | intro _

theorem computeRate_keep {fr : List Part} {s0 : State} (s : State) (ok : Bool) (hs : Keep fr s0 s) (hp : sub [.sys, .log, .tmb, .mon] fr = true := by exact sub_of ‹sub _ _ = true› rfl) : Keep fr s0 (State.computeRate s ok) := by
  unfold State.computeRate
  try dsimp only
  repeat' first | exact sub_of hp rfl | (with_reducible first | assumption | apply onTmb_keep | apply count_keep | apply timeEmit_keep | apply newRate_keep | apply loseSource_keep | refine pair_keep (by assumption) ?_) | split | intro _

theorem setOfs_keep {fr : List Part} {s0 : State} (s : State) (v : Int) (ok : Bool) (hs : Keep fr s0 s) (hp : sub [.sys, .log, .tmb, .mon] fr = true := by exact sub_of ‹sub _ _ = true› rfl) : Keep fr s0 (State.setOfs s v ok) := by
  unfold State.setOfs
  try dsimp only
  repeat' first | exact sub_of hp rfl | (with_reducible first | assumption | apply onTmb_keep | apply creditOfs_keep | apply computeRate_keep | refine pair_keep (by assumption) ?_) | split | intro _

theorem steer_keep {fr : List Part} {s0 : State} (s : State) (d : Rat) (ok : Bool) (hs : Keep fr s0 s) (hp : sub [.sys, .log, .tmb, .mon] fr = true := by exact sub_of ‹sub _ _ = true› rfl) : Keep fr s0 (State.steer s d ok) := by
  unfold State.steer
  try dsimp only
  repeat' first | exact sub_of hp rfl | (with_reducible first | assumption | apply setOfs_keep | refine pair_keep (by assumption) ?_) | split | intro _

theorem execRatemUpdate_keep {fr : List Part} {s0 : State} (milliC : Int) (ok : Bool) (s : State) (hs : Keep fr s0 s) (hp : sub [.sys, .log, .tmb, .mon] fr = true := by exact sub_of ‹sub _ _ = true› rfl) : ∃ t, execRatemUpdate milliC ok s = .next t ∧ Keep fr s0 t := by
  unfold execRatemUpdate
  refine ⟨_, rfl, ?_⟩
  try dsimp only
  repeat' first | exact sub_of hp rfl | (with_reducible first | assumption | apply onTmb_keep | apply computeRate_keep | refine pair_keep (by assumption) ?_) | split | intro _

theorem execOffsetMeasurement_keep {fr : List Part} {s0 : State} (bias : Int) (ok : Bool) (s : State) (hs : Keep fr s0 s) (hp : sub [.sys, .log, .tmb, .hie, .mon] fr = true := by exact sub_of ‹sub _ _ = true› rfl) : ∃ t, execOffsetMeasurement bias ok s = .next t ∧ Keep fr s0 t := by
  unfold execOffsetMeasurement
  refine ⟨_, rfl, ?_⟩
  try dsimp only
  repeat' first | exact sub_of hp rfl | (with_reducible first | assumption | apply onTmb_keep | apply onHie_keep | apply steer_keep | refine pair_keep (by assumption) ?_) | split | intro _ | exact fun x hx => hx

theorem dropSetting_keep {fr : List Part} {s0 : State} (s : State) (hs : Keep fr s0 s) (hp : sub [.sys, .tmb, .hie, .mon] fr = true := by exact sub_of ‹sub _ _ = true› rfl) : Keep fr s0 (State.dropSetting s) := by
  unfold State.dropSetting
  try dsimp only
  repeat' first | exact sub_of hp rfl | (with_reducible first | assumption | apply onTmb_keep | apply answer_keep | refine pair_keep (by assumption) ?_) | split | intro _

theorem judge_keep {fr : List Part} {s0 : State} (s : State) (dj : Rat) (afresh : Bool) (ok : Bool) (hs : Keep fr s0 s) (hp : sub [.sys, .log, .tmb, .hie, .mon] fr = true := by exact sub_of ‹sub _ _ = true› rfl) : Keep fr s0 (State.judge s dj afresh ok) := by
  unfold State.judge
  try dsimp only
  repeat' first | exact sub_of hp rfl | (with_reducible first | assumption | apply onTmb_keep | apply timeEmit_keep | apply setQual_keep | apply steer_keep | apply dropSetting_keep | refine pair_keep (by assumption) ?_) | split | intro _

theorem execJudgement_keep {fr : List Part} {s0 : State} (mean : Int) (ok : Bool) (s : State) (hs : Keep fr s0 s) (hp : sub [.sys, .log, .tmb, .hie, .mon] fr = true := by exact sub_of ‹sub _ _ = true› rfl) : ∃ t, execJudgement mean ok s = .next t ∧ Keep fr s0 t := by
  unfold execJudgement
  refine ⟨_, rfl, ?_⟩
  try dsimp only
  repeat' first | exact sub_of hp rfl | (with_reducible first | assumption | apply judge_keep | refine pair_keep (by assumption) ?_) | split | intro _

theorem execJudgementAfresh_keep {fr : List Part} {s0 : State} (mean : Int) (ok : Bool) (s : State) (hs : Keep fr s0 s) (hp : sub [.sys, .log, .tmb, .hie, .mon] fr = true := by exact sub_of ‹sub _ _ = true› rfl) : ∃ t, execJudgementAfresh mean ok s = .next t ∧ Keep fr s0 t := by
  unfold execJudgementAfresh
  refine ⟨_, rfl, ?_⟩
  try dsimp only
  repeat' first | exact sub_of hp rfl | (with_reducible first | assumption | apply judge_keep | refine pair_keep (by assumption) ?_) | split | intro _

theorem stepTo_keep {fr : List Part} {s0 : State} (s : State) (t : Nat) (hs : Keep fr s0 s) (hp : sub [.sys, .ports, .log, .tmb, .hie, .mon, .sct] fr = true := by exact sub_of ‹sub _ _ = true› rfl) : Keep fr s0 (s.stepTo t) := by
  unfold State.stepTo
  dsimp only
  have h := onTmb_keep _ (fun x => { x with t := t % 2 ^ 120 }) (mk_ports_keep s (updAll s.ports fun _ x =>
    { x with period := { x.period with start := moveInstant (((t : Int) - (s.tmb.t : Int)) / 2 ^ 40) x.period.start },
             edges := x.edges.map (moveInstant (((t : Int) - (s.tmb.t : Int)) / 2 ^ 40)), invalAt := moveInstant (((t : Int) - (s.tmb.t : Int)) / 2 ^ 40) x.invalAt }) hs)
  split
  · exact staleAll_keep _ h
  · exact h

theorem countStep_keep {fr : List Part} {s0 : State} (s : State) (hs : Keep fr s0 s) (hp : sub [.tmb, .hie] fr = true := by exact sub_of ‹sub _ _ = true› rfl) : Keep fr s0 (State.countStep s) := by
  unfold State.countStep
  try dsimp only
  repeat' first | exact sub_of hp rfl | (with_reducible first | assumption | apply onTmb_keep | apply onHie_keep | refine pair_keep (by assumption) ?_) | split | intro _ | exact fun x hx => hx

theorem stepRecord_keep {fr : List Part} {s0 : State} (s : State) (before : Qual) (cause : Nat) (change : Rat) (hs : Keep fr s0 s) (hp : sub [.sys, .log, .mon] fr = true := by exact sub_of ‹sub _ _ = true› rfl) : Keep fr s0 (State.stepRecord s before cause change) := by
  unfold State.stepRecord
  try dsimp only
  repeat' first | exact sub_of hp rfl | (with_reducible first | assumption | apply timeEmit_keep | refine pair_keep (by assumption) ?_) | split | intro _

theorem execTimeStep_keep {fr : List Part} {s0 : State} (s : State) (hs : Keep fr s0 s) (hp : sub [.sys, .ports, .log, .tmb, .hie, .mon, .sct] fr = true := by exact sub_of ‹sub _ _ = true› rfl) : ∃ t, execTimeStep s = .next t ∧ Keep fr s0 t := by
  unfold execTimeStep
  refine ⟨_, rfl, ?_⟩
  try dsimp only
  repeat' first | exact sub_of hp rfl | (with_reducible first | assumption | apply onTmb_keep | apply onHie_keep | apply emit_keep | apply answer_keep | apply tpSettle_keep | apply setQual_keep | apply setOfs_keep | apply stepTo_keep | apply countStep_keep | apply stepRecord_keep | refine pair_keep (by assumption) ?_) | split | intro _ | exact fun x hx => hx

theorem execTimeLocked_keep {fr : List Part} {s0 : State} (s : State) (hs : Keep fr s0 s) (hp : sub [.sys, .log, .tmb, .hie, .mon] fr = true := by exact sub_of ‹sub _ _ = true› rfl) : ∃ t, execTimeLocked s = .next t ∧ Keep fr s0 t := by
  unfold execTimeLocked
  refine ⟨_, rfl, ?_⟩
  try dsimp only
  repeat' first | exact sub_of hp rfl | (with_reducible first | assumption | apply sendTables_keep | apply timeEmit_keep | apply setQual_keep | refine pair_keep (by assumption) ?_) | split | intro _

theorem execLockLost_keep {fr : List Part} {s0 : State} (s : State) (hs : Keep fr s0 s) (hp : sub [.tmb] fr = true := by exact sub_of ‹sub _ _ = true› rfl) : ∃ t, execLockLost s = .next t ∧ Keep fr s0 t := by
  unfold execLockLost
  refine ⟨_, rfl, ?_⟩
  try dsimp only
  repeat' first | exact sub_of hp rfl | (with_reducible first | assumption | apply setQual_keep | refine pair_keep (by assumption) ?_) | split | intro _

theorem execTimeHoldover_keep {fr : List Part} {s0 : State} (s : State) (hs : Keep fr s0 s) (hp : sub [.sys, .log, .tmb, .mon] fr = true := by exact sub_of ‹sub _ _ = true› rfl) : ∃ t, execTimeHoldover s = .next t ∧ Keep fr s0 t := by
  unfold execTimeHoldover
  try dsimp only
  repeat' first | exact sub_of hp rfl | (with_reducible first | assumption | apply loseSource_keep | refine pair_keep (by assumption) ?_) | split | refine ⟨_, rfl, ?_⟩ | exact fun _ h => h | intro _

theorem execGnssSolutionTimeout_keep {fr : List Part} {s0 : State} (s : State) (hs : Keep fr s0 s) (hp : sub [.sys, .log, .tmb, .mon] fr = true := by exact sub_of ‹sub _ _ = true› rfl) : ∃ t, execGnssSolutionTimeout s = .next t ∧ Keep fr s0 t := by
  unfold execGnssSolutionTimeout
  refine ⟨_, rfl, ?_⟩
  try dsimp only
  repeat' first | exact sub_of hp rfl | (with_reducible first | assumption | apply loseSource_keep | refine pair_keep (by assumption) ?_) | split | intro _

theorem execTimeHoldoverExpired_keep {fr : List Part} {s0 : State} (s : State) (hs : Keep fr s0 s) (hp : sub [.sys, .log, .tmb, .mon] fr = true := by exact sub_of ‹sub _ _ = true› rfl) : ∃ t, execTimeHoldoverExpired s = .next t ∧ Keep fr s0 t := by
  unfold execTimeHoldoverExpired
  refine ⟨_, rfl, ?_⟩
  try dsimp only
  repeat' first | exact sub_of hp rfl | (with_reducible first | assumption | apply timeEmit_keep | apply tpSettle_keep | apply setQual_keep | refine pair_keep (by assumption) ?_) | split | intro _

theorem execOscillatorModelSave_keep {fr : List Part} {s0 : State} (s : State) (hs : Keep fr s0 s) (hp : sub [.tmb] fr = true := by exact sub_of ‹sub _ _ = true› rfl) : ∃ t, execOscillatorModelSave s = .next t ∧ Keep fr s0 t := by
  unfold execOscillatorModelSave
  refine ⟨_, rfl, ?_⟩
  try dsimp only
  repeat' first | exact sub_of hp rfl | (with_reducible first | assumption | apply onTmb_keep | refine pair_keep (by assumption) ?_) | split | intro _

theorem execRtcLoad_keep {fr : List Part} {s0 : State} (secs : Nat) (s : State) (hs : Keep fr s0 s) (hp : sub [.sys, .ports, .log, .tmb, .hie, .mon, .sct] fr = true := by exact sub_of ‹sub _ _ = true› rfl) : ∃ t, execRtcLoad secs s = .next t ∧ Keep fr s0 t := by
  unfold execRtcLoad
  refine ⟨_, rfl, ?_⟩
  try dsimp only
  repeat' first | exact sub_of hp rfl | (with_reducible first | assumption | apply onTmb_keep | apply setQual_keep | apply stepTo_keep | refine pair_keep (by assumption) ?_) | split | intro _

theorem saveRtc_keep {fr : List Part} {s0 : State} (s : State) (hs : Keep fr s0 s) (hp : sub [.tmb] fr = true := by exact sub_of ‹sub _ _ = true› rfl) : Keep fr s0 (State.saveRtc s) := by
  unfold State.saveRtc
  try dsimp only
  repeat' first | exact sub_of hp rfl | (with_reducible first | assumption | apply onTmb_keep | refine pair_keep (by assumption) ?_) | split | intro _

theorem execRtcSave_keep {fr : List Part} {s0 : State} (s : State) (hs : Keep fr s0 s) (hp : sub [.tmb] fr = true := by exact sub_of ‹sub _ _ = true› rfl) : ∃ t, execRtcSave s = .next t ∧ Keep fr s0 t := by
  unfold execRtcSave
  try dsimp only
  repeat' first | exact sub_of hp rfl | (with_reducible first | assumption | apply saveRtc_keep | refine pair_keep (by assumption) ?_) | split | refine ⟨_, rfl, ?_⟩ | exact fun _ h => h | intro _

theorem execTpPulse_keep {fr : List Part} {s0 : State} (s : State) (hs : Keep fr s0 s) (hp : sub [.sys, .log, .tmb, .mon] fr = true := by exact sub_of ‹sub _ _ = true› rfl) : ∃ t, execTpPulse s = .next t ∧ Keep fr s0 t := by
  unfold execTpPulse
  refine ⟨_, rfl, ?_⟩
  try dsimp only
  repeat' first | exact sub_of hp rfl | (with_reducible first | assumption | apply onTmb_keep | apply timeEmit_keep | refine pair_keep (by assumption) ?_) | split | intro _

theorem readFrac_keep {fr : List Part} {s0 : State} (s : State) (hs : Keep fr s0 s) (hp : sub [.tmb] fr = true := by exact sub_of ‹sub _ _ = true› rfl) : Keep fr s0 (State.readFrac s).1 := by
  unfold State.readFrac
  try dsimp only
  repeat' first | exact sub_of hp rfl | (with_reducible first | assumption | apply onTmb_keep | refine pair_keep (by assumption) ?_) | split | intro _

theorem readRatel_keep {fr : List Part} {s0 : State} (s : State) (hs : Keep fr s0 s) (hp : sub [.tmb] fr = true := by exact sub_of ‹sub _ _ = true› rfl) : Keep fr s0 (State.readRatel s).1 := by
  unfold State.readRatel
  try dsimp only
  repeat' first | exact sub_of hp rfl | (with_reducible first | assumption | apply onTmb_keep | refine pair_keep (by assumption) ?_) | split | intro _

theorem returns_keep {fr : List Part} {s0 : State} (r : State × Word) (hs : Keep fr s0 r.1) (hp : sub [.sys] fr = true := by exact sub_of ‹sub _ _ = true› rfl) : Keep fr s0 (State.returns r) := by
  unfold State.returns
  try dsimp only
  repeat' first | exact sub_of hp rfl | (with_reducible first | assumption | apply onSys_keep | refine pair_keep (by assumption) ?_) | split | intro _

theorem execTmbFracRead_keep {fr : List Part} {s0 : State} (k : SessId) (s : State) (hs : Keep fr s0 s) (hp : sub [.sys, .tmb, .hie, .mon] fr = true := by exact sub_of ‹sub _ _ = true› rfl) : ∃ t, execTmbFracRead k s = .next t ∧ Keep fr s0 t := by
  unfold execTmbFracRead
  refine ⟨_, rfl, ?_⟩
  try dsimp only
  repeat' first | exact sub_of hp rfl | (with_reducible first | assumption | apply gated_keep | apply readFrac_keep | apply returns_keep | refine pair_keep (by assumption) ?_) | split | intro _

theorem execTmbRatelRead_keep {fr : List Part} {s0 : State} (k : SessId) (s : State) (hs : Keep fr s0 s) (hp : sub [.sys, .tmb, .hie, .mon] fr = true := by exact sub_of ‹sub _ _ = true› rfl) : ∃ t, execTmbRatelRead k s = .next t ∧ Keep fr s0 t := by
  unfold execTmbRatelRead
  refine ⟨_, rfl, ?_⟩
  try dsimp only
  repeat' first | exact sub_of hp rfl | (with_reducible first | assumption | apply gated_keep | apply readRatel_keep | apply returns_keep | refine pair_keep (by assumption) ?_) | split | intro _

theorem cmdSet_keep {fr : List Part} {s0 : State} (s : State) (k : SessId) (hs : Keep fr s0 s) (hp : sub [.sys, .tmb, .hie, .mon] fr = true := by exact sub_of ‹sub _ _ = true› rfl) : Keep fr s0 (State.cmdSet s k).1 := by
  unfold State.cmdSet
  try dsimp only
  repeat' first | exact sub_of hp rfl | (with_reducible first | assumption | apply onTmb_keep | apply dropSetting_keep | refine pair_keep (by assumption) ?_) | split | intro _

theorem cmdResteer_keep {fr : List Part} {s0 : State} (s : State) (ok : Bool) (hs : Keep fr s0 s) (hp : sub [.sys, .log, .tmb, .mon] fr = true := by exact sub_of ‹sub _ _ = true› rfl) : Keep fr s0 (State.cmdResteer s ok).1 := by
  unfold State.cmdResteer
  try dsimp only
  repeat' first | exact sub_of hp rfl | (with_reducible first | assumption | apply onTmb_keep | apply computeRate_keep | refine pair_keep (by assumption) ?_) | split | intro _

theorem execSet_keep {fr : List Part} {s0 : State} (k : SessId) (s : State) (hs : Keep fr s0 s) (hp : sub [.sys, .tmb, .hie, .mon] fr = true := by exact sub_of ‹sub _ _ = true› rfl) : ∃ t, execSet k s = .next t ∧ Keep fr s0 t := by
  unfold execSet
  refine ⟨_, rfl, ?_⟩
  try dsimp only
  repeat' first | exact sub_of hp rfl | (with_reducible first | assumption | apply answer_keep | apply cmdSet_keep | refine pair_keep (by assumption) ?_) | split | intro _

theorem execResteer_keep {fr : List Part} {s0 : State} (ok : Bool) (k : SessId) (s : State) (hs : Keep fr s0 s) (hp : sub [.sys, .log, .tmb, .hie, .mon] fr = true := by exact sub_of ‹sub _ _ = true› rfl) : ∃ t, execResteer ok k s = .next t ∧ Keep fr s0 t := by
  unfold execResteer
  refine ⟨_, rfl, ?_⟩
  try dsimp only
  repeat' first | exact sub_of hp rfl | (with_reducible first | assumption | apply gated_keep | apply cmdResteer_keep | refine pair_keep (by assumption) ?_) | split | intro _

theorem pushSolution_keep {fr : List Part} {s0 : State} (s : State) (x : Solution) (hs : Keep fr s0 s) (hp : sub [.sct] fr = true := by exact sub_of ‹sub _ _ = true› rfl) : Keep fr s0 (State.pushSolution s x) := by
  unfold State.pushSolution
  try dsimp only
  repeat' first | exact sub_of hp rfl | (with_reducible first | assumption | apply onSct_keep | refine pair_keep (by assumption) ?_) | split | intro _

theorem mem_keep {fr : List Part} {s0 : State} (s : State) (m : Memory) (hs : Keep fr s0 s) (h : s.mem.wf = true → m.wf = true) (hp : sub [.mem] fr = true := by exact sub_of ‹sub _ _ = true› rfl) : Keep fr s0 { s with mem := m } :=
  ⟨fun i => have j := hs.inv i; ⟨h j.1, j.2, j.3, j.4, j.5, j.6⟩, hs.pend, hs.sec, hs.only_of (qs := _) hp (fun p h => by cases p <;> first | exact absurd (by decide) h | rfl), hs.log.trans (LogLe.same rfl rfl rfl)⟩

theorem markCell_keep {fr : List Part} {s0 : State} (s : State) (n : Nat) (hs : Keep fr s0 s) (hp : sub [.mem] fr = true := by exact sub_of ‹sub _ _ = true› rfl) : Keep fr s0 (s.markCell n) := by
  unfold State.markCell
  split
  · exact mem_keep _ _ hs (Memory.write_wf _ _ _)
  · exact hs

theorem sendTimed_keep {fr : List Part} {s0 : State} (s : State) (i : SectId) (on : Bool) (at_ : Nat) (slot : Nat) (hs : Keep fr s0 s) (hp : sub [.sys, .hie] fr = true := by exact sub_of ‹sub _ _ = true› rfl) : Keep fr s0 (State.sendTimed s i on at_ slot).1 := by
  unfold State.sendTimed
  try dsimp only
  repeat' first | exact sub_of hp rfl | (with_reducible first | assumption | apply send_keep | refine pair_keep (by assumption) ?_) | split | intro _

theorem placeHere_keep {fr : List Part} {s0 : State} (s : State) (i : SectId) (on : Bool) (at_ : Nat) (e : EntryId) (hs : Keep fr s0 s) (hp : sub [.sys, .log, .hie, .mon, .sct] fr = true := by exact sub_of ‹sub _ _ = true› rfl) : Keep fr s0 (State.placeHere s i on at_ e) := by
  unfold State.placeHere
  try dsimp only
  repeat' first | exact sub_of hp rfl | (with_reducible first | assumption | apply answer_keep | apply putEntry_keep | apply sectRefused_keep | refine pair_keep (by assumption) ?_) | split | intro _

theorem emptyEntry_keep {fr : List Part} {s0 : State} (s : State) (i : SectId) (hs : Keep fr s0 s) (hp : sub [.hie] fr = true := by exact sub_of ‹sub _ _ = true› rfl) : Keep fr s0 (State.emptyEntry s i) := by
  unfold State.emptyEntry
  try dsimp only
  repeat' first | exact sub_of hp rfl | (with_reducible first | assumption | apply setEntry_keep | refine pair_keep (by assumption) ?_) | split | intro _

theorem withdraw_keep {fr : List Part} {s0 : State} (s : State) (i : SectId) (hs : Keep fr s0 s) (hp : sub [.hie, .sct] fr = true := by exact sub_of ‹sub _ _ = true› rfl) : Keep fr s0 (State.withdraw s i) := by
  unfold State.withdraw
  try dsimp only
  repeat' first | exact sub_of hp rfl | (with_reducible first | assumption | apply setSect_keep | apply emptyEntry_keep | refine pair_keep (by assumption) ?_) | split | intro _

theorem adopt_keep {fr : List Part} {s0 : State} (s : State) (i : SectId) (t : Nat) (p : Plan) (hs : Keep fr s0 s) (hp : sub [.sys, .log, .hie, .mon, .sct] fr = true := by exact sub_of ‹sub _ _ = true› rfl) : Keep fr s0 (State.adopt s i t p) := by
  unfold State.adopt
  try dsimp only
  repeat' first | exact sub_of hp rfl | (with_reducible first | assumption | apply setSect_keep | apply sendTimed_keep | apply placeHere_keep | refine pair_keep (by assumption) ?_) | split | intro _

theorem placeSoon_keep {fr : List Part} {s0 : State} (s : State) (i : SectId) (on : Bool) (t : Nat) (hs : Keep fr s0 s) (hp : sub [.sys, .log, .hie, .mon, .sct] fr = true := by exact sub_of ‹sub _ _ = true› rfl) : Keep fr s0 (State.placeSoon s i on t) := by
  unfold State.placeSoon
  try dsimp only
  repeat' first | exact sub_of hp rfl | (with_reducible first | assumption | apply withdraw_keep | apply adopt_keep | refine pair_keep (by assumption) ?_) | split | intro _

theorem releaseEntry_keep {fr : List Part} {s0 : State} (s : State) (i : SectId) (hs : Keep fr s0 s) (hp : sub [.sys, .hie, .sct] fr = true := by exact sub_of ‹sub _ _ = true› rfl) : Keep fr s0 (State.releaseEntry s i) := by
  unfold State.releaseEntry
  try dsimp only
  repeat' first | exact sub_of hp rfl | (with_reducible first | assumption | apply onHie_keep | apply send_keep | apply setEntry_keep | apply setSect_keep | refine pair_keep (by assumption) ?_) | split | intro _ | exact fun x hx => hx

theorem leaveAuto_keep {fr : List Part} {s0 : State} (s : State) (i : SectId) (m : SectMode) (hs : Keep fr s0 s) (hp : sub [.sys, .hie, .sct] fr = true := by exact sub_of ‹sub _ _ = true› rfl) : Keep fr s0 (State.leaveAuto s i m) := by
  unfold State.leaveAuto
  try dsimp only
  repeat' first | exact sub_of hp rfl | (with_reducible first | assumption | apply setSect_keep | apply withdraw_keep | apply releaseEntry_keep | refine pair_keep (by assumption) ?_) | split | intro _

theorem placeManual_keep {fr : List Part} {s0 : State} (s : State) (i : SectId) (on : Bool) (hs : Keep fr s0 s) (hp : sub [.sys, .log, .hie, .mon, .sct] fr = true := by exact sub_of ‹sub _ _ = true› rfl) : Keep fr s0 (State.placeManual s i on).1 := by
  unfold State.placeManual
  try dsimp only
  repeat' first | exact sub_of hp rfl | (with_reducible first | assumption | apply noteOvf_keep | apply setSect_keep | apply sendTimed_keep | apply placeHere_keep | refine pair_keep (by assumption) ?_) | split | intro _

theorem sectsOff_keep {fr : List Part} {s0 : State} (s : State) (is : List SectId) (cause : Nat) (hs : Keep fr s0 s) (hp : sub [.sys, .log, .hie, .mon, .sct] fr = true := by exact sub_of ‹sub _ _ = true› rfl) : Keep fr s0 (State.sectsOff s is cause) := by
  unfold State.sectsOff
  try dsimp only
  repeat' first | exact sub_of hp rfl | (with_reducible first | assumption | apply sctEmit_keep | apply leaveAuto_keep | apply placeManual_keep | apply foldl_keep | apply foldl_fst_keep | refine pair_keep (by assumption) ?_) | split | intro _

theorem notify_keep {fr : List Part} {s0 : State} (s : State) (k : SessId) (kind : Nat) (content : List Byte) (hs : Keep fr s0 s) (hp : sub [.sys, .hl] fr = true := by exact sub_of ‹sub _ _ = true› rfl) : Keep fr s0 (State.notify s k kind content) := by
  unfold State.notify
  try dsimp only
  repeat' first | exact sub_of hp rfl | (with_reducible first | assumption | apply onHl_keep | apply noteFill_keep | apply noteOvf_keep | refine pair_keep (by assumption) ?_) | split | intro _

theorem canEmit_keep {fr : List Part} {s0 : State} (s : State) (c : CanId) (code : Nat) (a : Nat) (b : Nat) (hs : Keep fr s0 s) (hp : sub [.sys, .log, .mon] fr = true := by exact sub_of ‹sub _ _ = true› rfl) : Keep fr s0 (State.canEmit s c code a b) := by
  unfold State.canEmit
  try dsimp only
  repeat' first | exact sub_of hp rfl | (with_reducible first | assumption | apply emit_keep | refine pair_keep (by assumption) ?_) | split | intro _

theorem txDone_keep {fr : List Part} {s0 : State} (s : State) (c : CanId) (e : TxEntry) (r : TxRes) (hs : Keep fr s0 s) (hp : sub [.sys, .log, .mon, .can, .hl] fr = true := by exact sub_of ‹sub _ _ = true› rfl) : Keep fr s0 (State.txDone s c e r) := by
  unfold State.txDone
  try dsimp only
  repeat' first | exact sub_of hp rfl | (with_reducible first | assumption | apply setCan_keep | apply count_keep | apply notify_keep | apply canEmit_keep | refine pair_keep (by assumption) ?_) | split | intro _

theorem setQueue_keep {fr : List Part} {s0 : State} (s : State) (c : CanId) (q : List TxEntry) (hs : Keep fr s0 s) (hp : sub [.can] fr = true := by exact sub_of ‹sub _ _ = true› rfl) : Keep fr s0 (State.setQueue s c q) := by
  unfold State.setQueue
  try dsimp only
  repeat' first | exact sub_of hp rfl | (with_reducible first | assumption | apply setCan_keep | refine pair_keep (by assumption) ?_) | split | intro _

theorem clearHead_keep' {fr : List Part} {s0 : State} (c : CanId) (q : List TxEntry) (hp : sub [.sys, .log, .mon, .can, .hl] fr = true) : ∀ s : State, Keep fr s0 s → Keep fr s0 (s.clearHead c q) := by
  induction q with
  | nil => intro s hs; exact setQueue_keep _ _ _ hs
  | cons e q ih =>
    intro s hs
    unfold State.clearHead
    split
    · exact ih _ (txDone_keep _ _ _ _ (setQueue_keep _ _ _ hs))
    · exact setQueue_keep _ _ _ hs

theorem clearHead_keep {fr : List Part} {s0 : State} (c : CanId) (q : List TxEntry) (s : State) (h0 : Keep fr s0 s) (hp : sub [.sys, .log, .mon, .can, .hl] fr = true := by exact sub_of ‹sub _ _ = true› rfl) : Keep fr s0 (s.clearHead c q) := clearHead_keep' c q hp s h0

theorem txPush_keep {fr : List Part} {s0 : State} (s : State) (c : CanId) (f : CanFrame) (rlim : Nat) (age : Nat) (owner : CanOwner) (hs : Keep fr s0 s) (hp : sub [.can] fr = true := by exact sub_of ‹sub _ _ = true› rfl) : Keep fr s0 (State.txPush s c f rlim age owner).1 := by
  unfold State.txPush
  try dsimp only
  repeat' first | exact sub_of hp rfl | (with_reducible first | assumption | apply setCan_keep | refine pair_keep (by assumption) ?_) | split | intro _

theorem rtSend_keep {fr : List Part} {s0 : State} (s : State) (c : CanId) (f : CanFrame) (rlim : Nat) (age : Nat) (hs : Keep fr s0 s) (hp : sub [.can] fr = true := by exact sub_of ‹sub _ _ = true› rfl) : Keep fr s0 (State.rtSend s c f rlim age).1 := by
  unfold State.rtSend
  try dsimp only
  repeat' first | exact sub_of hp rfl | (with_reducible first | assumption | apply txPush_keep | refine pair_keep (by assumption) ?_) | split | intro _

theorem segSend_keep {fr : List Part} {s0 : State} (s : State) (c : CanId) (id : Nat) (bytes : List Byte) (rlim : Nat) (age : Nat) (hs : Keep fr s0 s) (hp : sub [.can] fr = true := by exact sub_of ‹sub _ _ = true› rfl) : Keep fr s0 (State.segSend s c id bytes rlim age) := by
  unfold State.segSend
  try dsimp only
  repeat' first | exact sub_of hp rfl | (with_reducible first | assumption | apply setCan_keep | refine pair_keep (by assumption) ?_) | split | intro _

theorem pumpSegs_keep' {fr : List Part} {s0 : State} (c : CanId) (n : Nat) (hp : sub [.can] fr = true) : ∀ s : State, Keep fr s0 s → Keep fr s0 (s.pumpSegs c n) := by
  induction n with
  | zero => intro s hs; exact hs
  | succ n ih =>
    intro s hs
    unfold State.pumpSegs
    split
    · exact hs
    · split
      · rename_i h
        exact ih _ (setCan_keep _ _ _ (pair_keep h (rtSend_keep _ _ _ _ _ hs)))
      · exact hs

theorem pumpSegs_keep {fr : List Part} {s0 : State} (c : CanId) (n : Nat) (s : State) (h0 : Keep fr s0 s) (hp : sub [.can] fr = true := by exact sub_of ‹sub _ _ = true› rfl) : Keep fr s0 (s.pumpSegs c n) := pumpSegs_keep' c n hp s h0

theorem enqNow_keep {fr : List Part} {s0 : State} (s : State) (c : CanId) (k : SessId) (hs : Keep fr s0 s) (hp : sub [.can] fr = true := by exact sub_of ‹sub _ _ = true› rfl) : Keep fr s0 (State.enqNow s c k) := by
  unfold State.enqNow
  try dsimp only
  repeat' first | exact sub_of hp rfl | (with_reducible first | assumption | apply setCan_keep | apply txPush_keep | refine pair_keep (by assumption) ?_) | split | intro _

theorem abortEntry_keep {fr : List Part} {s0 : State} (s : State) (c : CanId) (e : TxEntry) (hs : Keep fr s0 s) (hp : sub [.sys, .log, .mon, .can, .hl] fr = true := by exact sub_of ‹sub _ _ = true› rfl) : Keep fr s0 (State.abortEntry s c e) := by
  unfold State.abortEntry
  try dsimp only
  repeat' first | exact sub_of hp rfl | (with_reducible first | assumption | apply setCan_keep | apply txDone_keep | apply setQueue_keep | refine pair_keep (by assumption) ?_) | split | intro _

theorem abortAll_keep {fr : List Part} {s0 : State} (s : State) (c : CanId) (k : SessId) (hs : Keep fr s0 s) (hp : sub [.sys, .log, .mon, .can, .hl] fr = true := by exact sub_of ‹sub _ _ = true› rfl) : Keep fr s0 (State.abortAll s c k) := by
  unfold State.abortAll
  try dsimp only
  repeat' first | exact sub_of hp rfl | (with_reducible first | assumption | apply abortEntry_keep | apply foldl_keep | apply foldl_fst_keep | refine pair_keep (by assumption) ?_) | split | intro _

theorem judgeWarn_keep {fr : List Part} {s0 : State} (s : State) (c : CanId) (hs : Keep fr s0 s) (hp : sub [.sys, .log, .mon, .can, .hl] fr = true := by exact sub_of ‹sub _ _ = true› rfl) : Keep fr s0 (State.judgeWarn s c) := by
  unfold State.judgeWarn
  try dsimp only
  repeat' first | exact sub_of hp rfl | (with_reducible first | assumption | apply setCan_keep | apply notify_keep | apply canEmit_keep | apply foldl_keep | apply foldl_fst_keep | refine pair_keep (by assumption) ?_) | split | intro _

theorem freeze_keep {fr : List Part} {s0 : State} (s : State) (c : CanId) (hs : Keep fr s0 s) (hp : sub [.sys, .log, .mon, .can, .hl] fr = true := by exact sub_of ‹sub _ _ = true› rfl) : Keep fr s0 (State.freeze s c) := by
  unfold State.freeze
  try dsimp only
  repeat' first | exact sub_of hp rfl | (with_reducible first | assumption | apply setCan_keep | apply txDone_keep | apply setQueue_keep | refine pair_keep (by assumption) ?_) | split | intro _

theorem judgeState_keep {fr : List Part} {s0 : State} (s : State) (c : CanId) (hs : Keep fr s0 s) (hp : sub [.sys, .log, .mon, .can, .hl] fr = true := by exact sub_of ‹sub _ _ = true› rfl) : Keep fr s0 (State.judgeState s c) := by
  unfold State.judgeState
  try dsimp only
  repeat' first | exact sub_of hp rfl | (with_reducible first | assumption | apply setCan_keep | apply count_keep | apply emit_keep | apply judgeWarn_keep | apply freeze_keep | refine pair_keep (by assumption) ?_) | split | intro _

theorem frameEnd_keep {fr : List Part} {s0 : State} (s : State) (c : CanId) (hs : Keep fr s0 s) (hp : sub [.can] fr = true := by exact sub_of ‹sub _ _ = true› rfl) : Keep fr s0 (State.frameEnd s c) := by
  unfold State.frameEnd
  try dsimp only
  repeat' first | exact sub_of hp rfl | (with_reducible first | assumption | apply setCan_keep | refine pair_keep (by assumption) ?_) | split | intro _

theorem addEntry_keep {fr : List Part} {s0 : State} (s : State) (e : ApuEntry) (hs : Keep fr s0 s) (hp : sub [.apu] fr = true := by exact sub_of ‹sub _ _ = true› rfl) : Keep fr s0 (State.addEntry s e).1 := by
  unfold State.addEntry
  try dsimp only
  repeat' first | exact sub_of hp rfl | (with_reducible first | assumption | apply onApu_keep | refine pair_keep (by assumption) ?_) | split | intro _

theorem dropEntries_keep {fr : List Part} {s0 : State} (s : State) (ctx : Nat) (hs : Keep fr s0 s) (hp : sub [.apu] fr = true := by exact sub_of ‹sub _ _ = true› rfl) : Keep fr s0 (State.dropEntries s ctx) := by
  unfold State.dropEntries
  try dsimp only
  repeat' first | exact sub_of hp rfl | (with_reducible first | assumption | apply onApu_keep | refine pair_keep (by assumption) ?_) | split | intro _

theorem setReq_keep {fr : List Part} {s0 : State} (s : State) (k : SessId) (f : ReqSet → ReqSet) (hs : Keep fr s0 s) (hp : sub [.apu] fr = true := by exact sub_of ‹sub _ _ = true› rfl) : Keep fr s0 (State.setReq s k f) := by
  unfold State.setReq
  try dsimp only
  repeat' first | exact sub_of hp rfl | (with_reducible first | assumption | apply onApu_keep | refine pair_keep (by assumption) ?_) | split | intro _

theorem cmdGrant_keep {fr : List Part} {s0 : State} (s : State) (k : SessId) (hs : Keep fr s0 s) (hp : sub [.apu] fr = true := by exact sub_of ‹sub _ _ = true› rfl) : Keep fr s0 (State.cmdGrant s k).1 := by
  unfold State.cmdGrant
  try dsimp only
  repeat' first | exact sub_of hp rfl | (with_reducible first | assumption | apply addEntry_keep | apply setReq_keep | refine pair_keep (by assumption) ?_) | split | intro _

theorem cmdFree_keep {fr : List Part} {s0 : State} (s : State) (i : EntId) (k : SessId) (hs : Keep fr s0 s) (hp : sub [.apu] fr = true := by exact sub_of ‹sub _ _ = true› rfl) : Keep fr s0 (State.cmdFree s i k).1 := by
  unfold State.cmdFree
  try dsimp only
  repeat' first | exact sub_of hp rfl | (with_reducible first | assumption | apply onApu_keep | refine pair_keep (by assumption) ?_) | split | intro _

theorem cmdFreeall_keep {fr : List Part} {s0 : State} (s : State) (k : SessId) (hs : Keep fr s0 s) (hp : sub [.apu] fr = true := by exact sub_of ‹sub _ _ = true› rfl) : Keep fr s0 (State.cmdFreeall s k).1 := by
  unfold State.cmdFreeall
  try dsimp only
  repeat' first | exact sub_of hp rfl | (with_reducible first | assumption | apply dropEntries_keep | refine pair_keep (by assumption) ?_) | split | intro _

theorem execGrant_keep {fr : List Part} {s0 : State} (k : SessId) (s : State) (hs : Keep fr s0 s) (hp : sub [.sys, .hie, .mon, .apu] fr = true := by exact sub_of ‹sub _ _ = true› rfl) : ∃ t, execGrant k s = .next t ∧ Keep fr s0 t := by
  unfold execGrant
  refine ⟨_, rfl, ?_⟩
  try dsimp only
  repeat' first | exact sub_of hp rfl | (with_reducible first | assumption | apply gated_keep | apply cmdGrant_keep | refine pair_keep (by assumption) ?_) | split | intro _

theorem execFree_keep {fr : List Part} {s0 : State} (i : EntId) (k : SessId) (s : State) (hs : Keep fr s0 s) (hp : sub [.sys, .hie, .mon, .apu] fr = true := by exact sub_of ‹sub _ _ = true› rfl) : ∃ t, execFree i k s = .next t ∧ Keep fr s0 t := by
  unfold execFree
  refine ⟨_, rfl, ?_⟩
  try dsimp only
  repeat' first | exact sub_of hp rfl | (with_reducible first | assumption | apply gated_keep | apply cmdFree_keep | refine pair_keep (by assumption) ?_) | split | intro _

theorem execFreeall_keep {fr : List Part} {s0 : State} (k : SessId) (s : State) (hs : Keep fr s0 s) (hp : sub [.sys, .hie, .mon, .apu] fr = true := by exact sub_of ‹sub _ _ = true› rfl) : ∃ t, execFreeall k s = .next t ∧ Keep fr s0 t := by
  unfold execFreeall
  refine ⟨_, rfl, ?_⟩
  try dsimp only
  repeat' first | exact sub_of hp rfl | (with_reducible first | assumption | apply gated_keep | apply cmdFreeall_keep | refine pair_keep (by assumption) ?_) | split | intro _

theorem execCanIntegrated_keep {fr : List Part} {s0 : State} (c : CanId) (s : State) (hs : Keep fr s0 s) (hp : sub [.can] fr = true := by exact sub_of ‹sub _ _ = true› rfl) : ∃ t, execCanIntegrated c s = .next t ∧ Keep fr s0 t := by
  unfold execCanIntegrated
  refine ⟨_, rfl, ?_⟩
  try dsimp only
  repeat' first | exact sub_of hp rfl | (with_reducible first | assumption | apply setCan_keep | refine pair_keep (by assumption) ?_) | split | intro _

theorem cmdEnqueue_keep {fr : List Part} {s0 : State} (s : State) (c : CanId) (k : SessId) (hs : Keep fr s0 s) (hp : sub [.can] fr = true := by exact sub_of ‹sub _ _ = true› rfl) : Keep fr s0 (State.cmdEnqueue s c k).1 := by
  unfold State.cmdEnqueue
  try dsimp only
  repeat' first | exact sub_of hp rfl | (with_reducible first | assumption | apply enqNow_keep | refine pair_keep (by assumption) ?_) | split | intro _

theorem cmdAbort_keep {fr : List Part} {s0 : State} (s : State) (c : CanId) (h : Nat) (k : SessId) (hs : Keep fr s0 s) (hp : sub [.sys, .log, .mon, .can, .hl] fr = true := by exact sub_of ‹sub _ _ = true› rfl) : Keep fr s0 (State.cmdAbort s c h k).1 := by
  unfold State.cmdAbort
  try dsimp only
  repeat' first | exact sub_of hp rfl | (with_reducible first | assumption | apply abortEntry_keep | refine pair_keep (by assumption) ?_) | split | intro _

theorem cmdAbortEnq_keep {fr : List Part} {s0 : State} (s : State) (c : CanId) (k : SessId) (hs : Keep fr s0 s) (hp : sub [.sys, .log, .mon, .can, .hl] fr = true := by exact sub_of ‹sub _ _ = true› rfl) : Keep fr s0 (State.cmdAbortEnq s c k).1 := by
  unfold State.cmdAbortEnq
  try dsimp only
  repeat' first | exact sub_of hp rfl | (with_reducible first | assumption | apply enqNow_keep | apply abortAll_keep | refine pair_keep (by assumption) ?_) | split | intro _

theorem execEnqueue_keep {fr : List Part} {s0 : State} (c : CanId) (k : SessId) (s : State) (hs : Keep fr s0 s) (hp : sub [.sys, .hie, .mon, .can] fr = true := by exact sub_of ‹sub _ _ = true› rfl) : ∃ t, execEnqueue c k s = .next t ∧ Keep fr s0 t := by
  unfold execEnqueue
  refine ⟨_, rfl, ?_⟩
  try dsimp only
  repeat' first | exact sub_of hp rfl | (with_reducible first | assumption | apply gated_keep | apply cmdEnqueue_keep | refine pair_keep (by assumption) ?_) | split | intro _

theorem execAbort_keep {fr : List Part} {s0 : State} (c : CanId) (h : Nat) (k : SessId) (s : State) (hs : Keep fr s0 s) (hp : sub [.sys, .log, .hie, .mon, .can, .hl] fr = true := by exact sub_of ‹sub _ _ = true› rfl) : ∃ t, execAbort c h k s = .next t ∧ Keep fr s0 t := by
  unfold execAbort
  refine ⟨_, rfl, ?_⟩
  try dsimp only
  repeat' first | exact sub_of hp rfl | (with_reducible first | assumption | apply gated_keep | apply cmdAbort_keep | refine pair_keep (by assumption) ?_) | split | intro _

theorem execAbortAll_keep {fr : List Part} {s0 : State} (c : CanId) (k : SessId) (s : State) (hs : Keep fr s0 s) (hp : sub [.sys, .log, .hie, .mon, .can, .hl] fr = true := by exact sub_of ‹sub _ _ = true› rfl) : ∃ t, execAbortAll c k s = .next t ∧ Keep fr s0 t := by
  unfold execAbortAll
  refine ⟨_, rfl, ?_⟩
  try dsimp only
  repeat' first | exact sub_of hp rfl | (with_reducible first | assumption | apply gated_keep | apply abortAll_keep | refine pair_keep (by assumption) ?_) | split | intro _

theorem execAbortEnq_keep {fr : List Part} {s0 : State} (c : CanId) (k : SessId) (s : State) (hs : Keep fr s0 s) (hp : sub [.sys, .log, .hie, .mon, .can, .hl] fr = true := by exact sub_of ‹sub _ _ = true› rfl) : ∃ t, execAbortEnq c k s = .next t ∧ Keep fr s0 t := by
  unfold execAbortEnq
  refine ⟨_, rfl, ?_⟩
  try dsimp only
  repeat' first | exact sub_of hp rfl | (with_reducible first | assumption | apply gated_keep | apply cmdAbortEnq_keep | refine pair_keep (by assumption) ?_) | split | intro _

theorem execTxAttempt_keep {fr : List Part} {s0 : State} (c : CanId) (s : State) (hs : Keep fr s0 s) (hp : sub [.sys, .log, .mon, .can, .hl] fr = true := by exact sub_of ‹sub _ _ = true› rfl) : ∃ t, execTxAttempt c s = .next t ∧ Keep fr s0 t := by
  unfold execTxAttempt
  refine ⟨_, rfl, ?_⟩
  try dsimp only
  repeat' first | exact sub_of hp rfl | (with_reducible first | assumption | apply setCan_keep | apply clearHead_keep | refine pair_keep (by assumption) ?_) | split | intro _

theorem execTxAttemptEnd_keep {fr : List Part} {s0 : State} (c : CanId) (r : TxEnd) (tdcv : Option Nat) (s : State) (hs : Keep fr s0 s) (hp : sub [.sys, .log, .mon, .can, .hl] fr = true := by exact sub_of ‹sub _ _ = true› rfl) : ∃ t, execTxAttemptEnd c r tdcv s = .next t ∧ Keep fr s0 t := by
  unfold execTxAttemptEnd
  refine ⟨_, rfl, ?_⟩
  try dsimp only
  repeat' first | exact sub_of hp rfl | (with_reducible first | assumption | apply setCan_keep | apply txDone_keep | apply setQueue_keep | apply judgeState_keep | apply frameEnd_keep | refine pair_keep (by assumption) ?_) | split | intro _

theorem execCanError_keep {fr : List Part} {s0 : State} (c : CanId) (e : CanErr) (r : CanRise) (s : State) (hs : Keep fr s0 s) (hp : sub [.sys, .log, .mon, .can, .hl] fr = true := by exact sub_of ‹sub _ _ = true› rfl) : ∃ t, execCanError c e r s = .next t ∧ Keep fr s0 t := by
  unfold execCanError
  refine ⟨_, rfl, ?_⟩
  try dsimp only
  repeat' first | exact sub_of hp rfl | (with_reducible first | assumption | apply setCan_keep | apply count_keep | apply judgeState_keep | apply frameEnd_keep | refine pair_keep (by assumption) ?_) | split | intro _

theorem execCanBusOffRecovered_keep {fr : List Part} {s0 : State} (c : CanId) (s : State) (hs : Keep fr s0 s) (hp : sub [.sys, .log, .mon, .can, .hl] fr = true := by exact sub_of ‹sub _ _ = true› rfl) : ∃ t, execCanBusOffRecovered c s = .next t ∧ Keep fr s0 t := by
  unfold execCanBusOffRecovered
  refine ⟨_, rfl, ?_⟩
  try dsimp only
  repeat' first | exact sub_of hp rfl | (with_reducible first | assumption | apply setCan_keep | apply emit_keep | apply judgeWarn_keep | refine pair_keep (by assumption) ?_) | split | intro _

theorem cmdRecover_keep {fr : List Part} {s0 : State} (s : State) (c : CanId) (hs : Keep fr s0 s) (hp : sub [.can] fr = true := by exact sub_of ‹sub _ _ = true› rfl) : Keep fr s0 (State.cmdRecover s c).1 := by
  unfold State.cmdRecover
  try dsimp only
  repeat' first | exact sub_of hp rfl | (with_reducible first | assumption | apply setCan_keep | refine pair_keep (by assumption) ?_) | split | intro _

theorem cmdClrcnt_keep {fr : List Part} {s0 : State} (s : State) (c : CanId) (hs : Keep fr s0 s) (hp : sub [.can] fr = true := by exact sub_of ‹sub _ _ = true› rfl) : Keep fr s0 (State.cmdClrcnt s c) := by
  unfold State.cmdClrcnt
  try dsimp only
  repeat' first | exact sub_of hp rfl | (with_reducible first | assumption | apply setCan_keep | refine pair_keep (by assumption) ?_) | split | intro _

theorem cmdOpmode_keep {fr : List Part} {s0 : State} (s : State) (c : CanId) (m : Nat) (busy : Bool) (hs : Keep fr s0 s) (hp : sub [.can] fr = true := by exact sub_of ‹sub _ _ = true› rfl) : Keep fr s0 (State.cmdOpmode s c m busy).1 := by
  unfold State.cmdOpmode
  try dsimp only
  repeat' first | exact sub_of hp rfl | (with_reducible first | assumption | apply setCan_keep | apply frameEnd_keep | refine pair_keep (by assumption) ?_) | split | intro _

theorem execRecover_keep {fr : List Part} {s0 : State} (c : CanId) (k : SessId) (s : State) (hs : Keep fr s0 s) (hp : sub [.sys, .hie, .mon, .can] fr = true := by exact sub_of ‹sub _ _ = true› rfl) : ∃ t, execRecover c k s = .next t ∧ Keep fr s0 t := by
  unfold execRecover
  refine ⟨_, rfl, ?_⟩
  try dsimp only
  repeat' first | exact sub_of hp rfl | (with_reducible first | assumption | apply gated_keep | apply cmdRecover_keep | refine pair_keep (by assumption) ?_) | split | intro _

theorem execClrcnt_keep {fr : List Part} {s0 : State} (c : CanId) (k : SessId) (s : State) (hs : Keep fr s0 s) (hp : sub [.sys, .hie, .mon, .can] fr = true := by exact sub_of ‹sub _ _ = true› rfl) : ∃ t, execClrcnt c k s = .next t ∧ Keep fr s0 t := by
  unfold execClrcnt
  refine ⟨_, rfl, ?_⟩
  try dsimp only
  repeat' first | exact sub_of hp rfl | (with_reducible first | assumption | apply gated_keep | apply cmdClrcnt_keep | refine pair_keep (by assumption) ?_) | split | intro _

theorem execOpmodeWrite_keep {fr : List Part} {s0 : State} (c : CanId) (m : Nat) (busy : Bool) (k : SessId) (s : State) (hs : Keep fr s0 s) (hp : sub [.sys, .hie, .mon, .can] fr = true := by exact sub_of ‹sub _ _ = true› rfl) : ∃ t, execOpmodeWrite c m busy k s = .next t ∧ Keep fr s0 t := by
  unfold execOpmodeWrite
  refine ⟨_, rfl, ?_⟩
  try dsimp only
  repeat' first | exact sub_of hp rfl | (with_reducible first | assumption | apply gated_keep | apply cmdOpmode_keep | refine pair_keep (by assumption) ?_) | split | intro _

theorem writeEwl_keep {fr : List Part} {s0 : State} (s : State) (c : CanId) (v : Word) (hs : Keep fr s0 s) (hp : sub [.sys, .log, .mon, .can, .hl] fr = true := by exact sub_of ‹sub _ _ = true› rfl) : Keep fr s0 (State.writeEwl s c v).1 := by
  unfold State.writeEwl
  try dsimp only
  repeat' first | exact sub_of hp rfl | (with_reducible first | assumption | apply setCan_keep | apply judgeWarn_keep | refine pair_keep (by assumption) ?_) | split | intro _

theorem execCanEwlWrite_keep {fr : List Part} {s0 : State} (c : CanId) (v : Word) (k : SessId) (s : State) (hs : Keep fr s0 s) (hp : sub [.sys, .log, .hie, .mon, .can, .hl] fr = true := by exact sub_of ‹sub _ _ = true› rfl) : ∃ t, execCanEwlWrite c v k s = .next t ∧ Keep fr s0 t := by
  unfold execCanEwlWrite
  refine ⟨_, rfl, ?_⟩
  try dsimp only
  repeat' first | exact sub_of hp rfl | (with_reducible first | assumption | apply answer_keep | apply gated_keep | apply writeEwl_keep | refine pair_keep (by assumption) ?_) | split | intro _

theorem isoSend_keep {fr : List Part} {s0 : State} (s : State) (c : CanId) (prio : Nat) (pf : Nat) (ps : Nat) (sa : Nat) (data : List Byte) (hs : Keep fr s0 s) (hp : sub [.can] fr = true := by exact sub_of ‹sub _ _ = true› rfl) : Keep fr s0 (State.isoSend s c prio pf ps sa data) := by
  unfold State.isoSend
  try dsimp only
  repeat' first | exact sub_of hp rfl | (with_reducible first | assumption | apply rtSend_keep | refine pair_keep (by assumption) ?_) | split | intro _

theorem sendClaim_keep {fr : List Part} {s0 : State} (s : State) (c : CanId) (a : Nat) (hs : Keep fr s0 s) (hp : sub [.can] fr = true := by exact sub_of ‹sub _ _ = true› rfl) : Keep fr s0 (State.sendClaim s c a) := by
  unfold State.sendClaim
  try dsimp only
  repeat' first | exact sub_of hp rfl | (with_reducible first | assumption | apply isoSend_keep | refine pair_keep (by assumption) ?_) | split | intro _

theorem claimNext_keep {fr : List Part} {s0 : State} (s : State) (c : CanId) (a name : Nat) (o : Option Nat) (hs : Keep fr s0 s) (hp : sub [.sys, .log, .mon, .can] fr = true := by exact sub_of ‹sub _ _ = true› rfl) : Keep fr s0 (s.claimNext c a name o) := by
  cases o with
  | some b => exact sendClaim_keep _ _ _ (setCan_keep _ _ _ hs)
  | none => exact canEmit_keep _ _ _ _ _ (sendClaim_keep _ _ _ (setCan_keep _ _ _ hs))

theorem loseAddr_keep {fr : List Part} {s0 : State} (s : State) (c : CanId) (a : Nat) (name : Nat) (hs : Keep fr s0 s) (hp : sub [.sys, .log, .mon, .can] fr = true := by exact sub_of ‹sub _ _ = true› rfl) : Keep fr s0 (State.loseAddr s c a name) := by
  unfold State.loseAddr
  try dsimp only
  repeat' first | exact sub_of hp rfl | (with_reducible first | assumption | apply setCan_keep | apply claimNext_keep | refine pair_keep (by assumption) ?_) | split | intro _

theorem execIsoAddrClaim_keep {fr : List Part} {s0 : State} (c : CanId) (ev : ClaimEv) (s : State) (hs : Keep fr s0 s) (hp : sub [.sys, .log, .mon, .sct, .can] fr = true := by exact sub_of ‹sub _ _ = true› rfl) : ∃ t, execIsoAddrClaim c ev s = .next t ∧ Keep fr s0 t := by
  unfold execIsoAddrClaim
  refine ⟨_, rfl, ?_⟩
  try dsimp only
  repeat' first | exact sub_of hp rfl | (with_reducible first | assumption | apply onSct_keep | apply setCan_keep | apply canEmit_keep | apply sendClaim_keep | apply loseAddr_keep | refine pair_keep (by assumption) ?_) | split | intro _

theorem setTp_keep {fr : List Part} {s0 : State} (s : State) (c : CanId) (i : CtxId) (f : TpCtx → TpCtx) (hs : Keep fr s0 s) (hp : sub [.can] fr = true := by exact sub_of ‹sub _ _ = true› rfl) : Keep fr s0 (State.setTp s c i f) := by
  unfold State.setTp
  try dsimp only
  repeat' first | exact sub_of hp rfl | (with_reducible first | assumption | apply setCan_keep | refine pair_keep (by assumption) ?_) | split | intro _

theorem sendCts_keep {fr : List Part} {s0 : State} (s : State) (c : CanId) (i : CtxId) (hs : Keep fr s0 s) (hp : sub [.can] fr = true := by exact sub_of ‹sub _ _ = true› rfl) : Keep fr s0 (State.sendCts s c i) := by
  unfold State.sendCts
  try dsimp only
  repeat' first | exact sub_of hp rfl | (with_reducible first | assumption | apply isoSend_keep | apply setTp_keep | refine pair_keep (by assumption) ?_) | split | intro _

theorem sendAbort_keep {fr : List Part} {s0 : State} (s : State) (c : CanId) (kind : TpKind) (pgn : Nat) (peer : Nat) (reason : Nat) (hs : Keep fr s0 s) (hp : sub [.sys, .log, .mon, .can] fr = true := by exact sub_of ‹sub _ _ = true› rfl) : Keep fr s0 (State.sendAbort s c kind pgn peer reason) := by
  unfold State.sendAbort
  try dsimp only
  repeat' first | exact sub_of hp rfl | (with_reducible first | assumption | apply canEmit_keep | apply isoSend_keep | refine pair_keep (by assumption) ?_) | split | intro _

theorem tpOpen_keep {fr : List Part} {s0 : State} (s : State) (c : CanId) (kind : TpKind) (src : Nat) (dst : Nat) (pgn : Nat) (len : Nat) (most : Nat) (hs : Keep fr s0 s) (hp : sub [.sys, .log, .mon, .can] fr = true := by exact sub_of ‹sub _ _ = true› rfl) : Keep fr s0 (State.tpOpen s c kind src dst pgn len most) := by
  unfold State.tpOpen
  try dsimp only
  repeat' first | exact sub_of hp rfl | (with_reducible first | assumption | apply setCan_keep | apply setTp_keep | apply sendCts_keep | apply sendAbort_keep | refine pair_keep (by assumption) ?_) | split | intro _

theorem tpDone_keep {fr : List Part} {s0 : State} (s : State) (c : CanId) (i : CtxId) (hs : Keep fr s0 s) (hp : sub [.can, .mem] fr = true := by exact sub_of ‹sub _ _ = true› rfl) : Keep fr s0 (s.tpDone c i) := by
  have key : ∀ t, Keep fr s0 t → Keep fr s0 (if t.rtPgn s.can[c].tp[i].pgn then t.setTp c i fun _ => {}
      else State.setTp { t with mem := t.mem.writeN (t.tpSlot c i) ((le 3 s.can[c].tp[i].pgn ++ le 1 s.can[c].tp[i].src ++ le 1 (if s.can[c].tp[i].kind = .bam then 0xFF else s.can[c].tp[i].dst) ++ le 1 s.can[c].tp[i].kind.code ++ zeros 2 ++ le 4 s.can[c].tp[i].len
      ++ le 4 (t.now / 2 ^ 32)) ++ s.can[c].tp[i].bytes.take s.can[c].tp[i].len) } c i fun t => { t with busy := false, done := true }) := by
    intro t h
    split
    · exact setTp_keep _ _ _ _ h
    · exact setTp_keep _ _ _ _ (mem_keep _ _ h (Memory.writeN_wf _ _ _))
  unfold State.tpDone
  dsimp only
  cases e : s.can[c].tp[i].kind <;> rw [e] at key <;> apply key
  · exact hs
  · exact isoSend_keep _ _ _ _ _ _ _ hs
  · exact isoSend_keep _ _ _ _ _ _ _ hs

theorem tpPacket_keep {fr : List Part} {s0 : State} (s : State) (c : CanId) (i : CtxId) (seq : Nat) (data : List Byte) (hs : Keep fr s0 s) (hp : sub [.sys, .log, .mon, .can, .mem] fr = true := by exact sub_of ‹sub _ _ = true› rfl) : Keep fr s0 (State.tpPacket s c i seq data) := by
  unfold State.tpPacket
  try dsimp only
  repeat' first | exact sub_of hp rfl | (with_reducible first | assumption | apply setTp_keep | apply sendCts_keep | apply sendAbort_keep | apply tpDone_keep | refine pair_keep (by assumption) ?_) | split | intro _

theorem execIsoTpPacket_keep {fr : List Part} {s0 : State} (c : CanId) (src : Nat) (dst : Nat) (f : TpFrame) (s : State) (hs : Keep fr s0 s) (hp : sub [.sys, .log, .mon, .can, .mem] fr = true := by exact sub_of ‹sub _ _ = true› rfl) : ∃ t, execIsoTpPacket c src dst f s = .next t ∧ Keep fr s0 t := by
  unfold execIsoTpPacket
  try dsimp only
  repeat' first | exact sub_of hp rfl | (with_reducible first | assumption | apply canEmit_keep | apply setTp_keep | apply tpOpen_keep | apply tpPacket_keep | refine pair_keep (by assumption) ?_) | split | refine ⟨_, rfl, ?_⟩ | exact fun _ h => h | intro _

theorem execIsoTpTimeout_keep {fr : List Part} {s0 : State} (c : CanId) (i : CtxId) (s : State) (hs : Keep fr s0 s) (hp : sub [.sys, .log, .mon, .can] fr = true := by exact sub_of ‹sub _ _ = true› rfl) : ∃ t, execIsoTpTimeout c i s = .next t ∧ Keep fr s0 t := by
  unfold execIsoTpTimeout
  refine ⟨_, rfl, ?_⟩
  try dsimp only
  repeat' first | exact sub_of hp rfl | (with_reducible first | assumption | apply setTp_keep | apply sendAbort_keep | refine pair_keep (by assumption) ?_) | split | intro _

theorem writeMsgrel_keep {fr : List Part} {s0 : State} (s : State) (c : CanId) (v : Word) (hs : Keep fr s0 s) (hp : sub [.can] fr = true := by exact sub_of ‹sub _ _ = true› rfl) : Keep fr s0 (State.writeMsgrel s c v) := by
  unfold State.writeMsgrel
  try dsimp only
  repeat' first | exact sub_of hp rfl | (with_reducible first | assumption | apply setTp_keep | apply foldl_keep | apply foldl_fst_keep | refine pair_keep (by assumption) ?_) | split | intro _

theorem execCanMsgrel_keep {fr : List Part} {s0 : State} (c : CanId) (v : Word) (k : SessId) (s : State) (hs : Keep fr s0 s) (hp : sub [.sys, .hie, .mon, .can] fr = true := by exact sub_of ‹sub _ _ = true› rfl) : ∃ t, execCanMsgrel c v k s = .next t ∧ Keep fr s0 t := by
  unfold execCanMsgrel
  refine ⟨_, rfl, ?_⟩
  try dsimp only
  repeat' first | exact sub_of hp rfl | (with_reducible first | assumption | apply gated_keep | apply writeMsgrel_keep | refine pair_keep (by assumption) ?_) | split | intro _

end Sys2Proof.Machine
end

