-- ==== Sys2Proof/Laws/KeepSect.lean ====
section
/-! SUPPORT. What every operation keeps, of sections, forced values, Clapper, DMA. -/

namespace Sys2Proof.Machine

set_option linter.all false
set_option Elab.async false

open Sys2Proof

theorem noteLate_keep {fr : List Part} {s0 : State} (s : State) (i : SectId) (us : Nat) (hs : Keep fr s0 s) (hp : sub [.sys, .log, .mon, .sct] fr = true := by exact sub_of ‹sub _ _ = true› rfl) : Keep fr s0 (State.noteLate s i us) := by
  unfold State.noteLate
  try dsimp only
  repeat' first | exact sub_of hp rfl | (with_reducible first | assumption | apply onSct_keep | apply sctEmit_keep | refine pair_keep (by assumption) ?_) | split | intro _

theorem evalAuto_keep {fr : List Part} {s0 : State} (s : State) (i : SectId) (permit : Bool) (t : Nat) (p : Pose) (hs : Keep fr s0 s) (hp : sub [.sys, .log, .hie, .mon, .sct] fr = true := by exact sub_of ‹sub _ _ = true› rfl) : Keep fr s0 (State.evalAuto s i permit t p) := by
  unfold State.evalAuto
  try dsimp only
  repeat' first | exact sub_of hp rfl | (with_reducible first | assumption | apply withdraw_keep | apply adopt_keep | apply noteLate_keep | refine pair_keep (by assumption) ?_) | split | intro _

theorem evalExt_keep {fr : List Part} {s0 : State} (s : State) (i : SectId) (t : Nat) (hs : Keep fr s0 s) (hp : sub [.sys, .log, .hie, .mon, .sct] fr = true := by exact sub_of ‹sub _ _ = true› rfl) : Keep fr s0 (State.evalExt s i t) := by
  unfold State.evalExt
  try dsimp only
  repeat' first | exact sub_of hp rfl | (with_reducible first | assumption | apply setSect_keep | apply placeSoon_keep | refine pair_keep (by assumption) ?_) | split | intro _

theorem coverSect_keep {fr : List Part} {s0 : State} (s : State) (i : SectId) (p : Pose) (hs : Keep fr s0 s) (hp : sub [.sct, .mem] fr = true := by exact sub_of ‹sub _ _ = true› rfl) : Keep fr s0 (State.coverSect s i p) := by
  unfold State.coverSect
  try dsimp only
  repeat' first | exact sub_of hp rfl | (with_reducible first | assumption | apply setSect_keep | apply markCell_keep | apply foldl_keep | apply foldl_fst_keep | refine pair_keep (by assumption) ?_) | split | intro _

theorem showSect_keep {fr : List Part} {s0 : State} (s : State) (i : SectId) (permit : Bool) (p : Option Pose) (hs : Keep fr s0 s) (hp : sub [.sct] fr = true := by exact sub_of ‹sub _ _ = true› rfl) : Keep fr s0 (State.showSect s i permit p) := by
  unfold State.showSect
  try dsimp only
  repeat' first | exact sub_of hp rfl | (with_reducible first | assumption | apply setSect_keep | refine pair_keep (by assumption) ?_) | split | intro _

theorem fallDefault_keep {fr : List Part} {s0 : State} (s : State) (hs : Keep fr s0 s) (hp : sub [.sys, .log, .mon, .sct] fr = true := by exact sub_of ‹sub _ _ = true› rfl) : Keep fr s0 (State.fallDefault s) := by
  unfold State.fallDefault
  try dsimp only
  repeat' first | exact sub_of hp rfl | (with_reducible first | assumption | apply onSct_keep | apply setSect_keep | apply sctEmit_keep | apply foldl_keep | apply foldl_fst_keep | refine pair_keep (by assumption) ?_) | split | intro _

theorem mapEdge_keep {fr : List Part} {s0 : State} (s : State) (p : Pose) (hs : Keep fr s0 s) (hp : sub [.sys, .log, .mon, .sct] fr = true := by exact sub_of ‹sub _ _ = true› rfl) : Keep fr s0 (State.mapEdge s p) := by
  unfold State.mapEdge
  try dsimp only
  repeat' first | exact sub_of hp rfl | (with_reducible first | assumption | apply onSct_keep | apply sctEmit_keep | refine pair_keep (by assumption) ?_) | split | intro _

theorem sctFault_keep {fr : List Part} {s0 : State} (s : State) (hs : Keep fr s0 s) (hp : sub [.sys, .log, .hie, .mon, .sct] fr = true := by exact sub_of ‹sub _ _ = true› rfl) : Keep fr s0 (State.sctFault s) := by
  unfold State.sctFault
  try dsimp only
  repeat' first | exact sub_of hp rfl | (with_reducible first | assumption | apply onSct_keep | apply sctEmit_keep | apply leaveAuto_keep | apply placeManual_keep | apply foldl_keep | apply foldl_fst_keep | refine pair_keep (by assumption) ?_) | split | intro _

theorem sctResidue_keep {fr : List Part} {s0 : State} (s : State) (hs : Keep fr s0 s) (hp : sub [.sys, .log, .hie, .mon, .sct] fr = true := by exact sub_of ‹sub _ _ = true› rfl) : Keep fr s0 (State.sctResidue s) := by
  unfold State.sctResidue
  try dsimp only
  repeat' first | exact sub_of hp rfl | (with_reducible first | assumption | apply onSct_keep | apply count_keep | apply sctEmit_keep | apply sctFault_keep | refine pair_keep (by assumption) ?_) | split | intro _

theorem showPos_keep {fr : List Part} {s0 : State} (s : State) (p : Option Pose) (permit : Bool) (hs : Keep fr s0 s) (hp : sub [.sct] fr = true := by exact sub_of ‹sub _ _ = true› rfl) : Keep fr s0 (State.showPos s p permit) := by
  unfold State.showPos
  try dsimp only
  repeat' first | exact sub_of hp rfl | (with_reducible first | assumption | apply onSct_keep | refine pair_keep (by assumption) ?_) | split | intro _

theorem unsuspend_keep {fr : List Part} {s0 : State} (s : State) (hs : Keep fr s0 s) (hp : sub [.sys, .log, .mon, .sct] fr = true := by exact sub_of ‹sub _ _ = true› rfl) : Keep fr s0 (State.unsuspend s) := by
  unfold State.unsuspend
  try dsimp only
  repeat' first | exact sub_of hp rfl | (with_reducible first | assumption | apply onSct_keep | apply sctEmit_keep | refine pair_keep (by assumption) ?_) | split | intro _

theorem execSectionEvaluation_keep {fr : List Part} {s0 : State} (clean : Bool) (s : State) (hs : Keep fr s0 s) (hp : sub [.sys, .log, .hie, .mon, .sct, .mem] fr = true := by exact sub_of ‹sub _ _ = true› rfl) : ∃ t, execSectionEvaluation clean s = .next t ∧ Keep fr s0 t := by
  unfold execSectionEvaluation
  refine ⟨_, rfl, ?_⟩
  try dsimp only
  repeat' first | exact sub_of hp rfl | (with_reducible first | assumption | apply onSct_keep | apply evalAuto_keep | apply evalExt_keep | apply coverSect_keep | apply showSect_keep | apply fallDefault_keep | apply mapEdge_keep | apply sctResidue_keep | apply showPos_keep | apply unsuspend_keep | apply foldl_keep | apply foldl_fst_keep | refine pair_keep (by assumption) ?_) | split | intro _

theorem execSectRefusePauseEnd_keep {fr : List Part} {s0 : State} (i : SectId) (s : State) (hs : Keep fr s0 s) (hp : sub [.sct] fr = true := by exact sub_of ‹sub _ _ = true› rfl) : ∃ t, execSectRefusePauseEnd i s = .next t ∧ Keep fr s0 t := by
  unfold execSectRefusePauseEnd
  refine ⟨_, rfl, ?_⟩
  try dsimp only
  repeat' first | exact sub_of hp rfl | (with_reducible first | assumption | apply setSect_keep | refine pair_keep (by assumption) ?_) | split | intro _

theorem engageNow_keep {fr : List Part} {s0 : State} (s : State) (is : List SectId) (m : SectMode) (hs : Keep fr s0 s) (hp : sub [.sys, .log, .hie, .mon, .sct] fr = true := by exact sub_of ‹sub _ _ = true› rfl) : Keep fr s0 (State.engageNow s is m) := by
  unfold State.engageNow
  try dsimp only
  repeat' first | exact sub_of hp rfl | (with_reducible first | assumption | apply onSct_keep | apply setSect_keep | apply sctEmit_keep | apply withdraw_keep | apply fallDefault_keep | apply foldl_keep | apply foldl_fst_keep | refine pair_keep (by assumption) ?_) | split | intro _

theorem askReserve_keep {fr : List Part} {s0 : State} (s : State) (i : SectId) (hs : Keep fr s0 s) (hp : sub [.sys, .hie] fr = true := by exact sub_of ‹sub _ _ = true› rfl) : Keep fr s0 (State.askReserve s i).1 := by
  unfold State.askReserve
  try dsimp only
  repeat' first | exact sub_of hp rfl | (with_reducible first | assumption | apply onHie_keep | apply send_keep | refine pair_keep (by assumption) ?_) | split | intro _ | exact fun x hx => hx

theorem reserveHere_keep' {fr : List Part} {s0 : State} (is : List SectId) (hp : sub [.sys, .hie, .sct] fr = true) : ∀ (s t : State), Keep fr s0 s → s.reserveHere is = some t → Keep fr s0 t := by
  induction is with
  | nil => intro s t hs h; cases h; exact hs
  | cons i is ih =>
    intro s t hs h
    unfold State.reserveHere at h
    split at h
    · exact ih s t hs h
    · split at h
      · rename_i s1 e he
        exact ih _ t (setSect_keep _ _ _ (pair_keep he (reserve_keep _ _ hs))) h
      · cases h

theorem reserveHere_keep {fr : List Part} {s0 : State} (is : List SectId) (s t : State) (h0 : Keep fr s0 s) (h1 : s.reserveHere is = some t) (hp : sub [.sys, .hie, .sct] fr = true := by exact sub_of ‹sub _ _ = true› rfl) : Keep fr s0 t := reserveHere_keep' is hp s t h0 h1

theorem askAll_keep' {fr : List Part} {s0 : State} (is : List SectId) (hp : sub [.sys, .hie] fr = true) : ∀ (s t : State), Keep fr s0 s → s.askAll is = some t → Keep fr s0 t := by
  induction is with
  | nil => intro s t hs h; cases h; exact hs
  | cons i is ih =>
    intro s t hs h
    unfold State.askAll at h
    split at h
    · rename_i s1 he
      exact ih _ t (pair_keep he (askReserve_keep _ _ hs)) h
    · cases h

theorem askAll_keep {fr : List Part} {s0 : State} (is : List SectId) (s t : State) (h0 : Keep fr s0 s) (h1 : s.askAll is = some t) (hp : sub [.sys, .hie] fr = true := by exact sub_of ‹sub _ _ = true› rfl) : Keep fr s0 t := askAll_keep' is hp s t h0 h1

theorem cmdEngage_keep {fr : List Part} {s0 : State} (s : State) (src : Src) (ext : Bool) (hs : Keep fr s0 s) (hp : sub [.sys, .log, .hie, .mon, .sct] fr = true := by exact sub_of ‹sub _ _ = true› rfl) : Keep fr s0 (s.cmdEngage src ext).1 := by
  unfold State.cmdEngage
  dsimp only
  split
  · split
    · exact hs
    · split
      · exact noteOvf_keep _ _ hs
      · rename_i t1 h1
        split
        · exact noteOvf_keep _ _ hs
        · rename_i t2 h2
          have h := askAll_keep _ _ _ (reserveHere_keep _ _ _ hs h1) h2
          split
          · exact engageNow_keep _ _ _ h
          · exact onSct_keep _ (fun c => { c with engaging := some _ }) h
  · exact hs

theorem reserveAnswered_keep {fr : List Part} {s0 : State} (s : State) (i : SectId) (slot : Option Nat) (hs : Keep fr s0 s) (hp : sub [.sys, .log, .hie, .mon, .sct] fr = true := by exact sub_of ‹sub _ _ = true› rfl) : Keep fr s0 (State.reserveAnswered s i slot) := by
  unfold State.reserveAnswered
  try dsimp only
  repeat' first | exact sub_of hp rfl | (with_reducible first | assumption | apply onSct_keep | apply answer_keep | apply setSect_keep | apply releaseEntry_keep | apply engageNow_keep | apply foldl_keep | apply foldl_fst_keep | refine pair_keep (by assumption) ?_) | split | intro _

theorem cmdDisengage_keep {fr : List Part} {s0 : State} (s : State) (hs : Keep fr s0 s) (hp : sub [.sys, .log, .hie, .mon, .sct] fr = true := by exact sub_of ‹sub _ _ = true› rfl) : Keep fr s0 (State.cmdDisengage s).1 := by
  unfold State.cmdDisengage
  try dsimp only
  repeat' first | exact sub_of hp rfl | (with_reducible first | assumption | apply sctEmit_keep | apply leaveAuto_keep | apply foldl_keep | apply foldl_fst_keep | refine pair_keep (by assumption) ?_) | split | intro _

theorem setSections_keep {fr : List Part} {s0 : State} (s : State) (is : List SectId) (on : Bool) (hs : Keep fr s0 s) (hp : sub [.sys, .log, .hie, .mon, .sct] fr = true := by exact sub_of ‹sub _ _ = true› rfl) : Keep fr s0 (State.setSections s is on).1 := by
  unfold State.setSections
  try dsimp only
  repeat' first | exact sub_of hp rfl | (with_reducible first | assumption | apply leaveAuto_keep | apply placeManual_keep | apply foldl_keep | apply foldl_fst_keep | refine pair_keep (by assumption) ?_) | split | intro _

theorem cmdSet2_keep {fr : List Part} {s0 : State} (s : State) (on : Bool) (hs : Keep fr s0 s) (hp : sub [.sys, .log, .hie, .mon, .sct] fr = true := by exact sub_of ‹sub _ _ = true› rfl) : Keep fr s0 (State.cmdSet2 s on).1 := by
  unfold State.cmdSet2
  try dsimp only
  repeat' first | exact sub_of hp rfl | (with_reducible first | assumption | apply noteOvf_keep | apply sctEmit_keep | apply setSections_keep | refine pair_keep (by assumption) ?_) | split | intro _

theorem cmdSctClr_keep {fr : List Part} {s0 : State} (s : State) (hs : Keep fr s0 s) (hp : sub [.sct] fr = true := by exact sub_of ‹sub _ _ = true› rfl) : Keep fr s0 (State.cmdSctClr s).1 := by
  unfold State.cmdSctClr
  try dsimp only
  repeat' first | exact sub_of hp rfl | (with_reducible first | assumption | apply onSct_keep | refine pair_keep (by assumption) ?_) | split | intro _

theorem cmdBcheck_keep {fr : List Part} {s0 : State} (s : State) (hs : Keep fr s0 s) (hp : sub [.sct] fr = true := by exact sub_of ‹sub _ _ = true› rfl) : Keep fr s0 (State.cmdBcheck s).1 := by
  unfold State.cmdBcheck
  try dsimp only
  repeat' first | exact sub_of hp rfl | (with_reducible first | assumption | apply onSct_keep | refine pair_keep (by assumption) ?_) | split | intro _

theorem sctGated_keep {fr : List Part} {s0 : State} (s : State) (k : SessId) (go : State → State × Option Status) (hs : Keep fr s0 s) (hgo : ∀ s, Keep fr s0 s → Keep fr s0 (go s).1) (hp : sub [.sys, .hie, .mon] fr = true := by exact sub_of ‹sub _ _ = true› rfl) : Keep fr s0 (State.sctGated s k go) := by
  unfold State.sctGated
  try dsimp only
  repeat' first | exact sub_of hp rfl | (with_reducible first | assumption | apply answer_keep | apply hgo | refine pair_keep (by assumption) ?_) | split | intro _

theorem atOnce_keep {fr : List Part} {s0 : State} (r : State × Status) (hs : Keep fr s0 r.1) (hp : sub [] fr = true := by exact sub_of ‹sub _ _ = true› rfl) : Keep fr s0 (atOnce r).1 := by
  unfold atOnce
  try dsimp only
  repeat' first | exact sub_of hp rfl | (with_reducible first | assumption | refine pair_keep (by assumption) ?_) | split | intro _

theorem execEngage_keep {fr : List Part} {s0 : State} (k : SessId) (s : State) (hs : Keep fr s0 s) (hp : sub [.sys, .log, .hie, .mon, .sct] fr = true := by exact sub_of ‹sub _ _ = true› rfl) : ∃ t, execEngage k s = .next t ∧ Keep fr s0 t := by
  unfold execEngage
  refine ⟨_, rfl, ?_⟩
  try dsimp only
  repeat' first | exact sub_of hp rfl | (with_reducible first | assumption | apply cmdEngage_keep | apply sctGated_keep | refine pair_keep (by assumption) ?_) | split | intro _

theorem execEngageExt_keep {fr : List Part} {s0 : State} (k : SessId) (s : State) (hs : Keep fr s0 s) (hp : sub [.sys, .log, .hie, .mon, .sct] fr = true := by exact sub_of ‹sub _ _ = true› rfl) : ∃ t, execEngageExt k s = .next t ∧ Keep fr s0 t := by
  unfold execEngageExt
  refine ⟨_, rfl, ?_⟩
  try dsimp only
  repeat' first | exact sub_of hp rfl | (with_reducible first | assumption | apply cmdEngage_keep | apply sctGated_keep | refine pair_keep (by assumption) ?_) | split | intro _

theorem execDisengage_keep {fr : List Part} {s0 : State} (k : SessId) (s : State) (hs : Keep fr s0 s) (hp : sub [.sys, .log, .hie, .mon, .sct] fr = true := by exact sub_of ‹sub _ _ = true› rfl) : ∃ t, execDisengage k s = .next t ∧ Keep fr s0 t := by
  unfold execDisengage
  refine ⟨_, rfl, ?_⟩
  try dsimp only
  repeat' first | exact sub_of hp rfl | (with_reducible first | assumption | apply cmdDisengage_keep | apply sctGated_keep | apply atOnce_keep | refine pair_keep (by assumption) ?_) | split | intro _

theorem execSetOn_keep {fr : List Part} {s0 : State} (k : SessId) (s : State) (hs : Keep fr s0 s) (hp : sub [.sys, .log, .hie, .mon, .sct] fr = true := by exact sub_of ‹sub _ _ = true› rfl) : ∃ t, execSetOn k s = .next t ∧ Keep fr s0 t := by
  unfold execSetOn
  refine ⟨_, rfl, ?_⟩
  try dsimp only
  repeat' first | exact sub_of hp rfl | (with_reducible first | assumption | apply cmdSet2_keep | apply sctGated_keep | apply atOnce_keep | refine pair_keep (by assumption) ?_) | split | intro _

theorem execSetOff_keep {fr : List Part} {s0 : State} (k : SessId) (s : State) (hs : Keep fr s0 s) (hp : sub [.sys, .log, .hie, .mon, .sct] fr = true := by exact sub_of ‹sub _ _ = true› rfl) : ∃ t, execSetOff k s = .next t ∧ Keep fr s0 t := by
  unfold execSetOff
  refine ⟨_, rfl, ?_⟩
  try dsimp only
  repeat' first | exact sub_of hp rfl | (with_reducible first | assumption | apply cmdSet2_keep | apply sctGated_keep | apply atOnce_keep | refine pair_keep (by assumption) ?_) | split | intro _

theorem execBcheck_keep {fr : List Part} {s0 : State} (k : SessId) (s : State) (hs : Keep fr s0 s) (hp : sub [.sys, .hie, .mon, .sct] fr = true := by exact sub_of ‹sub _ _ = true› rfl) : ∃ t, execBcheck k s = .next t ∧ Keep fr s0 t := by
  unfold execBcheck
  refine ⟨_, rfl, ?_⟩
  try dsimp only
  repeat' first | exact sub_of hp rfl | (with_reducible first | assumption | apply cmdBcheck_keep | apply sctGated_keep | apply atOnce_keep | refine pair_keep (by assumption) ?_) | split | intro _

theorem execSectionClrflt_keep {fr : List Part} {s0 : State} (k : SessId) (s : State) (hs : Keep fr s0 s) (hp : sub [.sys, .hie, .mon, .sct] fr = true := by exact sub_of ‹sub _ _ = true› rfl) : ∃ t, execSectionClrflt k s = .next t ∧ Keep fr s0 t := by
  unfold execSectionClrflt
  refine ⟨_, rfl, ?_⟩
  try dsimp only
  repeat' first | exact sub_of hp rfl | (with_reducible first | assumption | apply cmdSctClr_keep | apply sctGated_keep | apply atOnce_keep | refine pair_keep (by assumption) ?_) | split | intro _

theorem setBoundary_keep {fr : List Part} {s0 : State} (s : State) (f : SctState → SctState) (hs : Keep fr s0 s) (hp : sub [.sct] fr = true := by exact sub_of ‹sub _ _ = true› rfl) : Keep fr s0 (State.setBoundary s f).1 := by
  unfold State.setBoundary
  try dsimp only
  repeat' first | exact sub_of hp rfl | (with_reducible first | assumption | apply onSct_keep | apply hf | refine pair_keep (by assumption) ?_) | split | intro _

theorem writeBoundary_keep {fr : List Part} {s0 : State} (s : State) (a : Nat) (v : Word) (hs : Keep fr s0 s) (r : State × Status) (h : s.writeBoundary a v = some r) (hp : sub [.sct] fr = true := by exact sub_of ‹sub _ _ = true› rfl) : Keep fr s0 r.1 := by
  obtain ⟨f, -, rfl⟩ := Option.map_eq_some_iff.mp h
  exact setBoundary_keep _ _ hs

theorem execBoundaryWrite_keep {fr : List Part} {s0 : State} (a : Nat) (v : Word) (k : SessId) (s : State) (hs : Keep fr s0 s) (hp : sub [.sys, .hie, .mon, .sct] fr = true := by exact sub_of ‹sub _ _ = true› rfl) : ∃ t, execBoundaryWrite a v k s = .next t ∧ Keep fr s0 t := by
  refine ⟨_, rfl, ?_⟩
  split
  · rename_i r h
    exact gated_keep _ _ _ _ hs fun _ _ => writeBoundary_keep s a v hs r h
  · exact answer_keep _ _ _ hs

theorem extFrame_keep {fr : List Part} {s0 : State} (s : State) (f : ExtFrame) (hs : Keep fr s0 s) (hp : sub [.sct] fr = true := by exact sub_of ‹sub _ _ = true› rfl) : Keep fr s0 (State.extFrame s f) := by
  unfold State.extFrame
  try dsimp only
  repeat' first | exact sub_of hp rfl | (with_reducible first | assumption | apply onSct_keep | apply pushSolution_keep | refine pair_keep (by assumption) ?_) | split | intro _

theorem execExtPositionFrame_keep {fr : List Part} {s0 : State} (f : ExtFrame) (name : Nat) (s : State) (hs : Keep fr s0 s) (hp : sub [.sct] fr = true := by exact sub_of ‹sub _ _ = true› rfl) : ∃ t, execExtPositionFrame f name s = .next t ∧ Keep fr s0 t := by
  unfold execExtPositionFrame
  refine ⟨_, rfl, ?_⟩
  try dsimp only
  repeat' first | exact sub_of hp rfl | (with_reducible first | assumption | apply extFrame_keep | refine pair_keep (by assumption) ?_) | split | intro _

theorem lossAction_keep {fr : List Part} {s0 : State} (s : State) (is : List SectId) (hs : Keep fr s0 s) (hp : sub [.sys, .log, .hie, .mon, .sct] fr = true := by exact sub_of ‹sub _ _ = true› rfl) : Keep fr s0 (State.lossAction s is) := by
  unfold State.lossAction
  try dsimp only
  repeat' first | exact sub_of hp rfl | (with_reducible first | assumption | apply withdraw_keep | apply placeSoon_keep | apply foldl_keep | apply foldl_fst_keep | refine pair_keep (by assumption) ?_) | split | intro _

theorem execSectPosLost_keep {fr : List Part} {s0 : State} (s : State) (hs : Keep fr s0 s) (hp : sub [.sys, .log, .hie, .mon, .sct] fr = true := by exact sub_of ‹sub _ _ = true› rfl) : ∃ t, execSectPosLost s = .next t ∧ Keep fr s0 t := by
  unfold execSectPosLost
  refine ⟨_, rfl, ?_⟩
  try dsimp only
  repeat' first | exact sub_of hp rfl | (with_reducible first | assumption | apply onSct_keep | apply sctEmit_keep | apply lossAction_keep | refine pair_keep (by assumption) ?_) | split | intro _

theorem execSpeedDisagree_keep {fr : List Part} {s0 : State} (s : State) (hs : Keep fr s0 s) (hp : sub [.sys, .log, .mon, .sct] fr = true := by exact sub_of ‹sub _ _ = true› rfl) : ∃ t, execSpeedDisagree s = .next t ∧ Keep fr s0 t := by
  unfold execSpeedDisagree
  refine ⟨_, rfl, ?_⟩
  try dsimp only
  repeat' first | exact sub_of hp rfl | (with_reducible first | assumption | apply onSct_keep | apply sctEmit_keep | refine pair_keep (by assumption) ?_) | split | intro _

theorem execSpeedDisagreeEnd_keep {fr : List Part} {s0 : State} (s : State) (hs : Keep fr s0 s) (hp : sub [.sct] fr = true := by exact sub_of ‹sub _ _ = true› rfl) : ∃ t, execSpeedDisagreeEnd s = .next t ∧ Keep fr s0 t := by
  unfold execSpeedDisagreeEnd
  refine ⟨_, rfl, ?_⟩
  try dsimp only
  repeat' first | exact sub_of hp rfl | (with_reducible first | assumption | apply onSct_keep | refine pair_keep (by assumption) ?_) | split | intro _

theorem tcSetpoint_keep {fr : List Part} {s0 : State} (s : State) (d : Nat) (v : Word) (hs : Keep fr s0 s) (hp : sub [.sct] fr = true := by exact sub_of ‹sub _ _ = true› rfl) : Keep fr s0 (State.tcSetpoint s d v) := by
  unfold State.tcSetpoint
  try dsimp only
  repeat' first | exact sub_of hp rfl | (with_reducible first | assumption | apply onSct_keep | apply setSect_keep | apply foldl_keep | apply foldl_fst_keep | refine pair_keep (by assumption) ?_) | split | intro _

theorem execTcSetpoint_keep {fr : List Part} {s0 : State} (d : Nat) (v : Word) (s : State) (hs : Keep fr s0 s) (hp : sub [.sct] fr = true := by exact sub_of ‹sub _ _ = true› rfl) : ∃ t, execTcSetpoint d v s = .next t ∧ Keep fr s0 t := by
  unfold execTcSetpoint
  refine ⟨_, rfl, ?_⟩
  try dsimp only
  repeat' first | exact sub_of hp rfl | (with_reducible first | assumption | apply tcSetpoint_keep | refine pair_keep (by assumption) ?_) | split | intro _

theorem execTcLost_keep {fr : List Part} {s0 : State} (s : State) (hs : Keep fr s0 s) (hp : sub [.sys, .log, .hie, .mon, .sct] fr = true := by exact sub_of ‹sub _ _ = true› rfl) : ∃ t, execTcLost s = .next t ∧ Keep fr s0 t := by
  unfold execTcLost
  refine ⟨_, rfl, ?_⟩
  try dsimp only
  repeat' first | exact sub_of hp rfl | (with_reducible first | assumption | apply onSct_keep | apply sctEmit_keep | apply lossAction_keep | refine pair_keep (by assumption) ?_) | split | intro _

theorem forceSol_keep {fr : List Part} {s0 : State} (s : State) (p : PortId) (o : Option Forced) (hs : Keep fr s0 s) (hp : sub [.sys, .ports, .sol, .log, .hie, .mon] fr = true := by exact sub_of ‹sub _ _ = true› rfl) : Keep fr s0 (s.forceSol p o) := by
  unfold State.forceSol
  repeat' first | exact sub_of hp rfl | (with_reducible first | assumption | apply solForceOff_keep | apply solForceOn_keep | apply solForceRelease_keep | refine pair_keep (by assumption) ?_) | split | intro _

theorem forceHead_keep {fr : List Part} {s0 : State} (s : State) (p : PortId) (o : Option Forced) (hs : Keep fr s0 s) (hp : sub [.sys, .ports, .sol, .log, .hie, .mon] fr = true := by exact sub_of ‹sub _ _ = true› rfl) : Keep fr s0 (s.forceHead p o) := by
  unfold State.forceHead
  repeat' first | exact sub_of hp rfl | (with_reducible first | assumption | apply headForceOff_keep | apply settle_keep | apply setSol_keep | apply headRelease_keep | refine pair_keep (by assumption) ?_) | split | intro _

theorem applyForced_keep {fr : List Part} {s0 : State} (s : State) (p : PortId) (hs : Keep fr s0 s) (hp : sub [.sys, .ports, .sol, .log, .hie, .mon] fr = true := by exact sub_of ‹sub _ _ = true› rfl) : Keep fr s0 (State.applyForced s p) := by
  unfold State.applyForced
  try dsimp only
  repeat' first | exact sub_of hp rfl | (with_reducible first | assumption | apply setPorts_keep | apply settle_keep | apply forceSol_keep | apply forceHead_keep | refine pair_keep (by assumption) ?_) | split | intro _

theorem applyAllForced_keep {fr : List Part} {s0 : State} (s : State) (hs : Keep fr s0 s) (hp : sub [.sys, .ports, .sol, .log, .hie, .mon] fr = true := by exact sub_of ‹sub _ _ = true› rfl) : Keep fr s0 (State.applyAllForced s) := by
  unfold State.applyAllForced
  try dsimp only
  repeat' first | exact sub_of hp rfl | (with_reducible first | assumption | apply applyForced_keep | apply foldl_keep | apply foldl_fst_keep | refine pair_keep (by assumption) ?_) | split | intro _

theorem orphPresent_keep {fr : List Part} {s0 : State} (s : State) (hs : Keep fr s0 s) (hp : sub [.sys, .ports, .sol, .log, .hie, .mon] fr = true := by exact sub_of ‹sub _ _ = true› rfl) : Keep fr s0 (State.orphPresent s) := by
  unfold State.orphPresent
  try dsimp only
  repeat' first | exact sub_of hp rfl | (with_reducible first | assumption | apply onHie_keep | apply applyAllForced_keep | apply foldl_keep | apply foldl_fst_keep | refine pair_keep (by assumption) ?_) | split | intro _ | exact fun x hx => hx

theorem orphRelease_keep {fr : List Part} {s0 : State} (s : State) (hs : Keep fr s0 s) (hp : sub [.sys, .ports, .sol, .log, .hie, .mon] fr = true := by exact sub_of ‹sub _ _ = true› rfl) : Keep fr s0 (State.orphRelease s) := by
  unfold State.orphRelease
  try dsimp only
  repeat' first | exact sub_of hp rfl | (with_reducible first | assumption | apply onHie_keep | apply setPorts_keep | apply setSol_keep | apply applyAllForced_keep | apply foldl_keep | apply foldl_fst_keep | refine pair_keep (by assumption) ?_) | split | intro _ | exact fun x hx => hx

theorem execOrphanRampStep_keep {fr : List Part} {s0 : State} (s : State) (hs : Keep fr s0 s) (hp : sub [.sys, .ports, .sol, .log, .hie, .mon] fr = true := by exact sub_of ‹sub _ _ = true› rfl) : ∃ t, execOrphanRampStep s = .next t ∧ Keep fr s0 t := by
  unfold execOrphanRampStep
  refine ⟨_, rfl, ?_⟩
  try dsimp only
  repeat' first | exact sub_of hp rfl | (with_reducible first | assumption | apply onHie_keep | apply applyAllForced_keep | apply foldl_keep | apply foldl_fst_keep | refine pair_keep (by assumption) ?_) | split | intro _ | exact fun x hx => hx

theorem timedRun_keep {fr : List Part} {s0 : State} (s : State) (c : Timed) (hs : Keep fr s0 s) (hp : sub [.sys, .ports, .sol, .log, .hie, .mon, .sct] fr = true := by exact sub_of ‹sub _ _ = true› rfl) : Keep fr s0 (State.timedRun s c) := by
  unfold State.timedRun
  try dsimp only
  repeat' first | exact sub_of hp rfl | (with_reducible first | assumption | apply count_keep | apply answer_keep | apply actOn_keep | apply actOff_keep | apply sectDone_keep | apply timedDone_keep | refine pair_keep (by assumption) ?_) | split | intro _

theorem execTimedCommandExecute_keep {fr : List Part} {s0 : State} (i : EntryId) (s : State) (hs : Keep fr s0 s) (hp : sub [.sys, .ports, .sol, .log, .hie, .mon, .sct] fr = true := by exact sub_of ‹sub _ _ = true› rfl) : ∃ t, execTimedCommandExecute i s = .next t ∧ Keep fr s0 t := by
  unfold execTimedCommandExecute
  refine ⟨_, rfl, ?_⟩
  try dsimp only
  repeat' first | exact sub_of hp rfl | (with_reducible first | assumption | apply count_keep | apply setEntry_keep | apply timedDone_keep | apply timedRun_keep | refine pair_keep (by assumption) ?_) | split | intro _

theorem badFrame_keep {fr : List Part} {s0 : State} (s : State) (hs : Keep fr s0 s) (hp : sub [.hie] fr = true := by exact sub_of ‹sub _ _ = true› rfl) : Keep fr s0 (State.badFrame s) := by
  unfold State.badFrame
  try dsimp only
  repeat' first | exact sub_of hp rfl | (with_reducible first | assumption | apply onHie_keep | refine pair_keep (by assumption) ?_) | split | intro _ | exact fun x hx => hx

theorem transmit_keep {fr : List Part} {s0 : State} (s : State) (down : Side) (f : Frame) (hs : Keep fr s0 s) (hp : sub [.hie] fr = true := by exact sub_of ‹sub _ _ = true› rfl) : Keep fr s0 (State.transmit s down f) := by
  unfold State.transmit
  try dsimp only
  repeat' first | exact sub_of hp rfl | (with_reducible first | assumption | apply onHie_keep | refine pair_keep (by assumption) ?_) | split | intro _ | exact fun x hx => hx

theorem setFlag_keep {fr : List Part} {s0 : State} (s : State) (k : FlagId) (f : XFlag → XFlag) (hs : Keep fr s0 s) (hp : sub [.hie] fr = true := by exact sub_of ‹sub _ _ = true› rfl) : Keep fr s0 (State.setFlag s k f) := by
  unfold State.setFlag
  try dsimp only
  repeat' first | exact sub_of hp rfl | (with_reducible first | assumption | apply onHie_keep | refine pair_keep (by assumption) ?_) | split | intro _ | exact fun x hx => hx

theorem failFlag_keep {fr : List Part} {s0 : State} (s : State) (k : FlagId) (cond : Nat) (hs : Keep fr s0 s) (hp : sub [.sys, .log, .hie, .mon] fr = true := by exact sub_of ‹sub _ _ = true› rfl) : Keep fr s0 (State.failFlag s k cond) := by
  unfold State.failFlag
  try dsimp only
  repeat' first | exact sub_of hp rfl | (with_reducible first | assumption | apply hieEmit_keep | apply setFlag_keep | refine pair_keep (by assumption) ?_) | split | intro _

theorem failSide_keep {fr : List Part} {s0 : State} (s : State) (down : Side) (hs : Keep fr s0 s) (hp : sub [.sys, .log, .hie, .mon] fr = true := by exact sub_of ‹sub _ _ = true› rfl) : Keep fr s0 (State.failSide s down) := by
  unfold State.failSide
  try dsimp only
  repeat' first | exact sub_of hp rfl | (with_reducible first | assumption | apply failFlag_keep | apply foldl_keep | apply foldl_fst_keep | refine pair_keep (by assumption) ?_) | split | intro _

theorem loseClapper_keep {fr : List Part} {s0 : State} (s : State) (hs : Keep fr s0 s) (hp : sub [.sys, .log, .tmb, .hie, .mon] fr = true := by exact sub_of ‹sub _ _ = true› rfl) : Keep fr s0 (State.loseClapper s) := by
  unfold State.loseClapper
  try dsimp only
  repeat' first | exact sub_of hp rfl | (with_reducible first | assumption | apply onHie_keep | apply loseSource_keep | refine pair_keep (by assumption) ?_) | split | intro _ | exact fun x hx => hx

theorem setWorker_keep {fr : List Part} {s0 : State} (s : State) (a : Fin 64) (f : Worker → Worker) (hs : Keep fr s0 s) (hp : sub [.hie] fr = true := by exact sub_of ‹sub _ _ = true› rfl) : Keep fr s0 (State.setWorker s a f) := by
  unfold State.setWorker
  try dsimp only
  repeat' first | exact sub_of hp rfl | (with_reducible first | assumption | apply onHie_keep | refine pair_keep (by assumption) ?_) | split | intro _ | exact fun x hx => hx

theorem setLg_keep {fr : List Part} {s0 : State} (s : State) (g : LgId) (f : Lg → Lg) (hs : Keep fr s0 s) (hp : sub [.hie] fr = true := by exact sub_of ‹sub _ _ = true› rfl) : Keep fr s0 (State.setLg s g f) := by
  unfold State.setLg
  try dsimp only
  repeat' first | exact sub_of hp rfl | (with_reducible first | assumption | apply onHie_keep | refine pair_keep (by assumption) ?_) | split | intro _ | exact fun x hx => hx

theorem membersWait_keep {fr : List Part} {s0 : State} (s : State) (a : Nat) (hs : Keep fr s0 s) (hp : sub [.hie] fr = true := by exact sub_of ‹sub _ _ = true› rfl) : Keep fr s0 (State.membersWait s a) := by
  unfold State.membersWait
  try dsimp only
  repeat' first | exact sub_of hp rfl | (with_reducible first | assumption | apply setLg_keep | apply foldl_keep | apply foldl_fst_keep | refine pair_keep (by assumption) ?_) | split | intro _

theorem forgetReserves_keep {fr : List Part} {s0 : State} (s : State) (a : Nat) (hs : Keep fr s0 s) (hp : sub [.sys, .log, .hie, .mon, .sct] fr = true := by exact sub_of ‹sub _ _ = true› rfl) : Keep fr s0 (State.forgetReserves s a) := by
  unfold State.forgetReserves
  try dsimp only
  repeat' first | exact sub_of hp rfl | (with_reducible first | assumption | apply onHie_keep | apply reserveAnswered_keep | apply foldl_keep | apply foldl_fst_keep | refine pair_keep (by assumption) ?_) | split | intro _ | exact fun x hx => hx

theorem loseWorker_keep {fr : List Part} {s0 : State} (s : State) (a : Fin 64) (cause : Nat) (rep : Nat) (hs : Keep fr s0 s) (hp : sub [.sys, .log, .hie, .mon, .sct] fr = true := by exact sub_of ‹sub _ _ = true› rfl) : Keep fr s0 (State.loseWorker s a cause rep) := by
  unfold State.loseWorker
  try dsimp only
  repeat' first | exact sub_of hp rfl | (with_reducible first | assumption | apply emit_keep | apply setSect_keep | apply sectsOff_keep | apply setWorker_keep | apply membersWait_keep | apply forgetReserves_keep | apply foldl_keep | apply foldl_fst_keep | refine pair_keep (by assumption) ?_) | split | intro _

theorem loseBeyond_keep {fr : List Part} {s0 : State} (s : State) (pos : Nat) (rep : Nat) (hs : Keep fr s0 s) (hp : sub [.sys, .log, .hie, .mon, .sct] fr = true := by exact sub_of ‹sub _ _ = true› rfl) : Keep fr s0 (State.loseBeyond s pos rep) := by
  unfold State.loseBeyond
  try dsimp only
  repeat' first | exact sub_of hp rfl | (with_reducible first | assumption | apply loseWorker_keep | apply foldl_keep | apply foldl_fst_keep | refine pair_keep (by assumption) ?_) | split | intro _

theorem hopFails_keep {fr : List Part} {s0 : State} (s : State) (down : Side) (cause : Nat) (hs : Keep fr s0 s) (hp : sub [.sys, .log, .tmb, .hie, .mon, .sct] fr = true := by exact sub_of ‹sub _ _ = true› rfl) : Keep fr s0 (State.hopFails s down cause) := by
  unfold State.hopFails
  try dsimp only
  repeat' first | exact sub_of hp rfl | (with_reducible first | assumption | apply onHie_keep | apply emit_keep | apply setLink_keep | apply transmit_keep | apply failSide_keep | apply loseClapper_keep | apply loseBeyond_keep | refine pair_keep (by assumption) ?_) | split | intro _ | exact fun x hx => hx

theorem hopRestored_keep {fr : List Part} {s0 : State} (s : State) (down : Side) (hs : Keep fr s0 s) (hp : sub [.sys, .log, .hie, .mon] fr = true := by exact sub_of ‹sub _ _ = true› rfl) : Keep fr s0 (State.hopRestored s down) := by
  unfold State.hopRestored
  try dsimp only
  repeat' first | exact sub_of hp rfl | (with_reducible first | assumption | apply setLink_keep | apply hieEmit_keep | refine pair_keep (by assumption) ?_) | split | intro _

theorem execLinkDown_keep {fr : List Part} {s0 : State} (down : Side) (s : State) (hs : Keep fr s0 s) (hp : sub [.sys, .log, .tmb, .hie, .mon, .sct] fr = true := by exact sub_of ‹sub _ _ = true› rfl) : ∃ t, execLinkDown down s = .next t ∧ Keep fr s0 t := by
  unfold execLinkDown
  refine ⟨_, rfl, ?_⟩
  try dsimp only
  repeat' first | exact sub_of hp rfl | (with_reducible first | assumption | apply setLink_keep | apply failSide_keep | apply loseClapper_keep | apply hopFails_keep | refine pair_keep (by assumption) ?_) | split | intro _

theorem execLinkUp_keep {fr : List Part} {s0 : State} (down : Side) (s : State) (hs : Keep fr s0 s) (hp : sub [.sys, .log, .hie, .mon] fr = true := by exact sub_of ‹sub _ _ = true› rfl) : ∃ t, execLinkUp down s = .next t ∧ Keep fr s0 t := by
  unfold execLinkUp
  refine ⟨_, rfl, ?_⟩
  try dsimp only
  repeat' first | exact sub_of hp rfl | (with_reducible first | assumption | apply setLink_keep | apply hopRestored_keep | refine pair_keep (by assumption) ?_) | split | intro _

theorem execStrapChange_keep {fr : List Part} {s0 : State} (addr : Nat) (s : State) (hs : Keep fr s0 s) (hp : sub [.sys, .log, .hie, .mon] fr = true := by exact sub_of ‹sub _ _ = true› rfl) : ∃ t, execStrapChange addr s = .next t ∧ Keep fr s0 t := by
  unfold execStrapChange
  refine ⟨_, rfl, ?_⟩
  try dsimp only
  repeat' first | exact sub_of hp rfl | (with_reducible first | assumption | apply onHie_keep | apply hieEmit_keep | refine pair_keep (by assumption) ?_) | split | intro _ | exact fun x hx => hx

theorem execEreq_keep {fr : List Part} {s0 : State} (s : State) (hs : Keep fr s0 s) (hp : sub [.hie] fr = true := by exact sub_of ‹sub _ _ = true› rfl) : ∃ t, execEreq s = .next t ∧ Keep fr s0 t := by
  unfold execEreq
  refine ⟨_, rfl, ?_⟩
  try dsimp only
  repeat' first | exact sub_of hp rfl | (with_reducible first | assumption | apply transmit_keep | refine pair_keep (by assumption) ?_) | split | intro _

theorem execEchoRequest_keep {fr : List Part} {s0 : State} (edge : Nat) (s : State) (hs : Keep fr s0 s) (hp : sub [.hie] fr = true := by exact sub_of ‹sub _ _ = true› rfl) : ∃ t, execEchoRequest edge s = .next t ∧ Keep fr s0 t := by
  unfold execEchoRequest
  refine ⟨_, rfl, ?_⟩
  try dsimp only
  repeat' first | exact sub_of hp rfl | (with_reducible first | assumption | apply onHie_keep | apply transmit_keep | refine pair_keep (by assumption) ?_) | split | intro _ | exact fun x hx => hx

theorem echoFails_keep {fr : List Part} {s0 : State} (s : State) (hs : Keep fr s0 s) (hp : sub [.sys, .log, .tmb, .hie, .mon, .sct] fr = true := by exact sub_of ‹sub _ _ = true› rfl) : Keep fr s0 (State.echoFails s) := by
  unfold State.echoFails
  try dsimp only
  repeat' first | exact sub_of hp rfl | (with_reducible first | assumption | apply onHie_keep | apply hopFails_keep | refine pair_keep (by assumption) ?_) | split | intro _ | exact fun x hx => hx

theorem execEchoFail_keep {fr : List Part} {s0 : State} (s : State) (hs : Keep fr s0 s) (hp : sub [.sys, .log, .tmb, .hie, .mon, .sct] fr = true := by exact sub_of ‹sub _ _ = true› rfl) : ∃ t, execEchoFail s = .next t ∧ Keep fr s0 t := by
  unfold execEchoFail
  try dsimp only
  repeat' first | exact sub_of hp rfl | (with_reducible first | assumption | apply echoFails_keep | refine pair_keep (by assumption) ?_) | split | refine ⟨_, rfl, ?_⟩ | exact fun _ h => h | intro _

theorem takeSample_keep {fr : List Part} {s0 : State} (s : State) (x : Int) (hs : Keep fr s0 s) (hp : sub [.sys, .log, .hie, .mon] fr = true := by exact sub_of ‹sub _ _ = true› rfl) : Keep fr s0 (State.takeSample s x) := by
  unfold State.takeSample
  try dsimp only
  repeat' first | exact sub_of hp rfl | (with_reducible first | assumption | apply onHie_keep | apply hopRestored_keep | apply foldl_keep | apply foldl_fst_keep | refine pair_keep (by assumption) ?_) | split | intro _ | exact fun x hx => hx

theorem execErsp_keep {fr : List Part} {s0 : State} (tat : Nat) (crc : Nat) (edge : Nat) (s : State) (hs : Keep fr s0 s) (hp : sub [.sys, .log, .tmb, .hie, .mon, .sct] fr = true := by exact sub_of ‹sub _ _ = true› rfl) : ∃ t, execErsp tat crc edge s = .next t ∧ Keep fr s0 t := by
  unfold execErsp
  refine ⟨_, rfl, ?_⟩
  try dsimp only
  repeat' first | exact sub_of hp rfl | (with_reducible first | assumption | apply onHie_keep | apply badFrame_keep | apply echoFails_keep | apply takeSample_keep | refine pair_keep (by assumption) ?_) | split | intro _ | exact fun x hx => hx

theorem markMissed_keep {fr : List Part} {s0 : State} (s : State) (hs : Keep fr s0 s) (hp : sub [.hie] fr = true := by exact sub_of ‹sub _ _ = true› rfl) : Keep fr s0 (State.markMissed s) := by
  unfold State.markMissed
  try dsimp only
  repeat' first | exact sub_of hp rfl | (with_reducible first | assumption | apply onHie_keep | refine pair_keep (by assumption) ?_) | split | intro _ | exact fun x hx => hx

theorem execBmark_keep {fr : List Part} {s0 : State} (edge : Nat) (s : State) (hs : Keep fr s0 s) (hp : sub [.hie] fr = true := by exact sub_of ‹sub _ _ = true› rfl) : ∃ t, execBmark edge s = .next t ∧ Keep fr s0 t := by
  unfold execBmark
  refine ⟨_, rfl, ?_⟩
  try dsimp only
  repeat' first | exact sub_of hp rfl | (with_reducible first | assumption | apply onHie_keep | apply transmit_keep | apply markMissed_keep | refine pair_keep (by assumption) ?_) | split | intro _ | exact fun x hx => hx

theorem announce_keep {fr : List Part} {s0 : State} (s : State) (o : Option (Nat × Nat × Nat)) (hs : Keep fr s0 s) (hp : sub [.sys, .tmb, .hie, .mon] fr = true := by exact sub_of ‹sub _ _ = true› rfl) : Keep fr s0 (s.announce o) := by
  unfold State.announce
  repeat' first | exact sub_of hp rfl | (with_reducible first | assumption | apply onTmb_keep | apply dropSetting_keep | refine pair_keep (by assumption) ?_) | split | intro _

theorem hopMismatch_keep {fr : List Part} {s0 : State} (s : State) (hop : Nat) (hs : Keep fr s0 s) (hp : sub [.sys, .log, .hie, .mon] fr = true := by exact sub_of ‹sub _ _ = true› rfl) : Keep fr s0 (State.hopMismatch s hop) := by
  unfold State.hopMismatch
  try dsimp only
  repeat' first | exact sub_of hp rfl | (with_reducible first | assumption | apply onHie_keep | apply hieEmit_keep | refine pair_keep (by assumption) ?_) | split | intro _ | exact fun x hx => hx

theorem beaconValid_keep {fr : List Part} {s0 : State} (s : State) (mark : Nat) (cum : Nat) (ms : Nat) (sec : Nat) (mqual : Nat) (stepcnt : Nat) (ann : Option (Nat × Nat × Nat)) (hs : Keep fr s0 s) (hp : sub [.sys, .log, .tmb, .hie, .mon] fr = true := by exact sub_of ‹sub _ _ = true› rfl) : Keep fr s0 (State.beaconValid s mark cum ms sec mqual stepcnt ann) := by
  unfold State.beaconValid
  try dsimp only
  repeat' first | exact sub_of hp rfl | (with_reducible first | assumption | apply onHie_keep | apply count_keep | apply loseClapper_keep | apply announce_keep | refine pair_keep (by assumption) ?_) | split | intro _ | exact fun x hx => hx

theorem forwardBeacon_keep {fr : List Part} {s0 : State} (s : State) (hop : Nat) (cum : Nat) (ms : Nat) (sec : Nat) (q : Nat) (ok : Bool) (n : Nat) (ann : Option (Nat × Nat × Nat)) (hs : Keep fr s0 s) (hp : sub [.hie] fr = true := by exact sub_of ‹sub _ _ = true› rfl) : Keep fr s0 (State.forwardBeacon s hop cum ms sec q ok n ann) := by
  unfold State.forwardBeacon
  try dsimp only
  repeat' first | exact sub_of hp rfl | (with_reducible first | assumption | apply transmit_keep | refine pair_keep (by assumption) ?_) | split | intro _

theorem execBeacon_keep {fr : List Part} {s0 : State} (hop : Nat) (cum : Nat) (ms : Nat) (sec : Nat) (q : Nat) (ok : Bool) (n : Nat) (ann : Option (Nat × Nat × Nat)) (crc : Nat) (s : State) (hs : Keep fr s0 s) (hp : sub [.sys, .log, .tmb, .hie, .mon] fr = true := by exact sub_of ‹sub _ _ = true› rfl) : ∃ t, execBeacon hop cum ms sec q ok n ann crc s = .next t ∧ Keep fr s0 t := by
  unfold execBeacon
  refine ⟨_, rfl, ?_⟩
  try dsimp only
  repeat' first | exact sub_of hp rfl | (with_reducible first | assumption | apply badFrame_keep | apply loseClapper_keep | apply markMissed_keep | apply hopMismatch_keep | apply beaconValid_keep | apply forwardBeacon_keep | refine pair_keep (by assumption) ?_) | split | intro _

theorem execBeaconSend_keep {fr : List Part} {s0 : State} (s : State) (hs : Keep fr s0 s) (hp : sub [.hie, .mon] fr = true := by exact sub_of ‹sub _ _ = true› rfl) : ∃ t, execBeaconSend s = .next t ∧ Keep fr s0 t := by
  unfold execBeaconSend
  refine ⟨_, rfl, ?_⟩
  try dsimp only
  repeat' first | exact sub_of hp rfl | (with_reducible first | assumption | apply count_keep | apply transmit_keep | refine pair_keep (by assumption) ?_) | split | intro _

theorem takeFlag_keep {fr : List Part} {s0 : State} (s : State) (orig : Nat) (k : FlagId) (v : Bool) (hs : Keep fr s0 s) (hp : sub [.sys, .log, .hie, .mon] fr = true := by exact sub_of ‹sub _ _ = true› rfl) : Keep fr s0 (State.takeFlag s orig k v) := by
  unfold State.takeFlag
  try dsimp only
  repeat' first | exact sub_of hp rfl | (with_reducible first | assumption | apply hieEmit_keep | apply setFlag_keep | refine pair_keep (by assumption) ?_) | split | intro _

theorem execFlag_keep {fr : List Part} {s0 : State} (from_ : Side) (orig : Nat) (idx : Nat) (val : Bool) (crc : Nat) (s : State) (hs : Keep fr s0 s) (hp : sub [.sys, .log, .hie, .mon] fr = true := by exact sub_of ‹sub _ _ = true› rfl) : ∃ t, execFlag from_ orig idx val crc s = .next t ∧ Keep fr s0 t := by
  unfold execFlag
  refine ⟨_, rfl, ?_⟩
  try dsimp only
  repeat' first | exact sub_of hp rfl | (with_reducible first | assumption | apply badFrame_keep | apply transmit_keep | apply takeFlag_keep | refine pair_keep (by assumption) ?_) | split | intro _

theorem execXflagFailed_keep {fr : List Part} {s0 : State} (k : FlagId) (s : State) (hs : Keep fr s0 s) (hp : sub [.sys, .log, .hie, .mon] fr = true := by exact sub_of ‹sub _ _ = true› rfl) : ∃ t, execXflagFailed k s = .next t ∧ Keep fr s0 t := by
  unfold execXflagFailed
  refine ⟨_, rfl, ?_⟩
  try dsimp only
  repeat' first | exact sub_of hp rfl | (with_reducible first | assumption | apply setFlag_keep | apply failFlag_keep | refine pair_keep (by assumption) ?_) | split | intro _

theorem failBeyondHop_keep {fr : List Part} {s0 : State} (s : State) (a : Nat) (hs : Keep fr s0 s) (hp : sub [.sys, .log, .hie, .mon] fr = true := by exact sub_of ‹sub _ _ = true› rfl) : Keep fr s0 (State.failBeyondHop s a) := by
  unfold State.failBeyondHop
  try dsimp only
  repeat' first | exact sub_of hp rfl | (with_reducible first | assumption | apply setFlag_keep | apply failFlag_keep | apply foldl_keep | apply foldl_fst_keep | refine pair_keep (by assumption) ?_) | split | intro _

theorem execHopfail_keep {fr : List Part} {s0 : State} (from_ : Side) (rep : Nat) (down : Bool) (crc : Nat) (s : State) (hs : Keep fr s0 s) (hp : sub [.sys, .log, .tmb, .hie, .mon, .sct] fr = true := by exact sub_of ‹sub _ _ = true› rfl) : ∃ t, execHopfail from_ rep down crc s = .next t ∧ Keep fr s0 t := by
  unfold execHopfail
  refine ⟨_, rfl, ?_⟩
  try dsimp only
  repeat' first | exact sub_of hp rfl | (with_reducible first | assumption | apply badFrame_keep | apply transmit_keep | apply loseBeyond_keep | apply hopFails_keep | apply failBeyondHop_keep | refine pair_keep (by assumption) ?_) | split | intro _

theorem setCh_keep {fr : List Part} {s0 : State} (s : State) (n : ChId) (f : DmaCh → DmaCh) (hs : Keep fr s0 s) (hp : sub [.dma] fr = true := by exact sub_of ‹sub _ _ = true› rfl) : Keep fr s0 (State.setCh s n f) := by
  unfold State.setCh
  try dsimp only
  repeat' first | exact sub_of hp rfl | (with_reducible first | assumption | apply onDma_keep | refine pair_keep (by assumption) ?_) | split | intro _ | exact fun x hx => hx

theorem dmaEmit_keep {fr : List Part} {s0 : State} (s : State) (code : Nat) (n : ChId) (cause : Nat) (a : Nat) (b : Nat) (hs : Keep fr s0 s) (hp : sub [.sys, .log, .mon] fr = true := by exact sub_of ‹sub _ _ = true› rfl) : Keep fr s0 (State.dmaEmit s code n cause a b) := by
  unfold State.dmaEmit
  try dsimp only
  repeat' first | exact sub_of hp rfl | (with_reducible first | assumption | apply emit_keep | refine pair_keep (by assumption) ?_) | split | intro _

theorem queueRecord_keep {fr : List Part} {s0 : State} (s : State) (n : ChId) (r : List Byte) (hs : Keep fr s0 s) (hp : sub [.sys, .dma] fr = true := by exact sub_of ‹sub _ _ = true› rfl) : Keep fr s0 (s.queueRecord n r) := by
  unfold State.queueRecord
  split
  · rename_i h
    refine noteFill_keep _ _ _ (setCh_keep _ _ _ ?_)
    exact ⟨fun i => have j := hs.inv i; ⟨j.1, j.2, j.3, j.4, j.5, by simp only [State.onDma_dma, List.length_append, List.length_singleton]; omega⟩, hs.pend, hs.sec, hs.only_of (qs := _) hp (fun p h => by cases p <;> first | exact absurd (by decide) h | rfl), hs.log.trans (LogLe.same rfl rfl rfl)⟩
  · exact setCh_keep _ _ _ hs

theorem eccEmit_keep {fr : List Part} {s0 : State} (s : State) (a : Nat) (who : Nat) (chan : Nat) (ctx : Nat) (sess : Nat) (hs : Keep fr s0 s) (hp : sub [.sys, .log, .mon] fr = true := by exact sub_of ‹sub _ _ = true› rfl) : Keep fr s0 (State.eccEmit s a who chan ctx sess) := by
  unfold State.eccEmit
  try dsimp only
  repeat' first | exact sub_of hp rfl | (with_reducible first | assumption | apply emit_keep | refine pair_keep (by assumption) ?_) | split | intro _

theorem dmaFault_keep {fr : List Part} {s0 : State} (s : State) (n : ChId) (cause : DmaCause) (side : Nat) (desc : Bool) (gone : Bool) (faddr : Nat) (k : Nat) (hs : Keep fr s0 s) (hp : sub [.sys, .log, .mon, .dma] fr = true := by exact sub_of ‹sub _ _ = true› rfl) : Keep fr s0 (State.dmaFault s n cause side desc gone faddr k) := by
  unfold State.dmaFault
  try dsimp only
  repeat' first | exact sub_of hp rfl | (with_reducible first | assumption | apply count_keep | apply setCh_keep | apply dmaEmit_keep | apply queueRecord_keep | apply eccEmit_keep | refine pair_keep (by assumption) ?_) | split | intro _

theorem execFaultRecordQueued_keep {fr : List Part} {s0 : State} (n : ChId) (s : State) (hs : Keep fr s0 s) (hp : sub [.sys, .dma] fr = true := by exact sub_of ‹sub _ _ = true› rfl) : ∃ t, execFaultRecordQueued n s = .next t ∧ Keep fr s0 t := by
  unfold execFaultRecordQueued
  refine ⟨_, rfl, ?_⟩
  try dsimp only
  repeat' first | exact sub_of hp rfl | (with_reducible first | assumption | apply queueRecord_keep | refine pair_keep (by assumption) ?_) | split | intro _

theorem storeWord_keep {fr : List Part} {s0 : State} (s : State) (t : Nat) (w : Word) (hs : Keep fr s0 s) (hp : sub [.dma, .mem] fr = true := by exact sub_of ‹sub _ _ = true› rfl) : Keep fr s0 (s.storeWord t w) := by
  have h := onDma_keep s (fun x => { x with bad := x.bad.filter fun b => b != t / 4 }) hs fun _ h => h
  exact mem_keep _ _ h (Memory.writeN_wf _ _ _)

theorem fetchDesc_keep {fr : List Part} {s0 : State} (s : State) (n : ChId) (prog : Nat) (hs : Keep fr s0 s) (hp : sub [.sys, .log, .mon, .dma] fr = true := by exact sub_of ‹sub _ _ = true› rfl) : Keep fr s0 (State.fetchDesc s n prog) := by
  unfold State.fetchDesc
  try dsimp only
  repeat' first | exact sub_of hp rfl | (with_reducible first | assumption | apply setCh_keep | apply dmaFault_keep | refine pair_keep (by assumption) ?_) | split | intro _

theorem dropHead_keep {fr : List Part} {s0 : State} (s : State) (q : Nat) (hs : Keep fr s0 s) (hp : sub [.gns, .eng] fr = true := by exact sub_of ‹sub _ _ = true› rfl) : Keep fr s0 (State.dropHead s q) := by
  unfold State.dropHead
  try dsimp only
  repeat' first | exact sub_of hp rfl | (with_reducible first | assumption | apply onEng_keep | apply onGns_keep | refine pair_keep (by assumption) ?_) | split | intro _

theorem advance_keep {fr : List Part} {s0 : State} (s : State) (n : ChId) (hs : Keep fr s0 s) (hp : sub [.gns, .eng, .dma] fr = true := by exact sub_of ‹sub _ _ = true› rfl) : Keep fr s0 (State.advance s n) := by
  unfold State.advance
  try dsimp only
  repeat' first | exact sub_of hp rfl | (with_reducible first | assumption | apply setCh_keep | apply dropHead_keep | refine pair_keep (by assumption) ?_) | split | intro _

theorem dmaWrite_keep {fr : List Part} {s0 : State} (s : State) (n : ChId) (a : Nat) (w : Word) (hs : Keep fr s0 s) (t : State) (h : s.dmaWrite n a w = .ok t) (hp : sub [.dma, .mem] fr = true := by exact sub_of ‹sub _ _ = true› rfl) : Keep fr s0 t := by
  unfold State.dmaWrite at h
  split at h
  · cases h; exact storeWord_keep _ _ _ hs
  · cases h

theorem burstWords_keep' {fr : List Part} {s0 : State} (n : ChId) (m : Nat) (hp : sub [.sys, .log, .gns, .hie, .mon, .eng, .dma, .mem] fr = true) : ∀ (s : State) (k : Nat), Keep fr s0 s → Keep fr s0 (s.burstWords n m k) := by
  induction m with
  | zero => intro s k hs; exact hs
  | succ m ih =>
    intro s k hs
    unfold State.burstWords
    dsimp only
    split
    · exact hs
    · split
      · exact dmaFault_keep _ _ _ _ _ _ _ _ hs
      · split
        · exact dmaFault_keep _ _ _ _ _ _ _ _ hs
        · rename_i h
          exact ih _ _ (advance_keep _ _ (dmaWrite_keep _ _ _ _ hs _ h))

theorem burstWords_keep {fr : List Part} {s0 : State} (n : ChId) (m : Nat) (s : State) (k : Nat) (h0 : Keep fr s0 s) (hp : sub [.sys, .log, .gns, .hie, .mon, .eng, .dma, .mem] fr = true := by exact sub_of ‹sub _ _ = true› rfl) : Keep fr s0 (s.burstWords n m k) := burstWords_keep' n m hp s k h0

theorem execDmaBurst_keep {fr : List Part} {s0 : State} (s : State) (hs : Keep fr s0 s) (hp : sub [.sys, .log, .gns, .hie, .mon, .eng, .dma, .mem] fr = true := by exact sub_of ‹sub _ _ = true› rfl) : ∃ t, execDmaBurst s = .next t ∧ Keep fr s0 t := by
  refine ⟨_, rfl, ?_⟩
  have key : ∀ t n, Keep fr s0 t → Keep fr s0 (if (t.burstWords n (t.dma.ch[n]).burstLen 0).dma.ch[n].st = .run then
      (t.burstWords n (t.dma.ch[n]).burstLen 0).setCh n fun c => { c with burst := c.burst + 1 } else t.burstWords n (t.dma.ch[n]).burstLen 0) := by
    intro t n ht
    have h := burstWords_keep n (t.dma.ch[n]).burstLen t 0 ht
    split
    · exact setCh_keep _ _ _ h
    · exact h
  split
  · exact key _ _ (onDma_keep s _ hs fun x hx => hx)
  · exact key _ _ (onDma_keep s _ hs fun x hx => hx)
  · exact hs

theorem execDmaFault_keep {fr : List Part} {s0 : State} (n : ChId) (k : Nat) (ecc : Option Nat) (s : State) (hs : Keep fr s0 s) (hp : sub [.sys, .log, .gns, .hie, .mon, .eng, .dma, .mem] fr = true := by exact sub_of ‹sub _ _ = true› rfl) : ∃ t, execDmaFault n k ecc s = .next t ∧ Keep fr s0 t := by
  refine ⟨_, rfl, ?_⟩
  have key : ∀ t : State, Keep fr s0 t → Keep fr s0 (if t.dma.ch[n].st ≠ .run then t
      else if (t.burstWords n (min (k + 1) t.dma.ch[n].burstLen) 0).dma.ch[n].st = .fault then t.burstWords n (min (k + 1) t.dma.ch[n].burstLen) 0 else t) := by
    intro t h
    split
    · exact h
    · split
      · exact burstWords_keep _ _ _ _ h
      · exact h
  cases ecc with
  | none => exact key s hs
  | some a =>
    refine key (if isSram a then s.onDma _ else s) ?_
    split
    · exact onDma_keep s _ hs fun _ h => h
    · exact hs

theorem writeBack_keep' {fr : List Part} {s0 : State} (n : ChId) (l : List (Nat × Word)) (hp : sub [.sys, .log, .mon, .dma, .mem] fr = true) : ∀ s : State, Keep fr s0 s → Keep fr s0 (s.writeBack n l).1 := by
  induction l with
  | nil => intro s hs; exact hs
  | cons a l ih =>
    intro s hs
    obtain ⟨a, w⟩ := a
    unfold State.writeBack
    split
    · rename_i h
      exact ih _ (dmaWrite_keep _ _ _ _ hs _ h)
    · exact dmaFault_keep _ _ _ _ _ _ _ _ hs

theorem writeBack_keep {fr : List Part} {s0 : State} (n : ChId) (l : List (Nat × Word)) (s : State) (h0 : Keep fr s0 s) (hp : sub [.sys, .log, .mon, .dma, .mem] fr = true := by exact sub_of ‹sub _ _ = true› rfl) : Keep fr s0 (s.writeBack n l).1 := writeBack_keep' n l hp s h0

theorem execDescriptorDone_keep {fr : List Part} {s0 : State} (n : ChId) (s : State) (hs : Keep fr s0 s) (hp : sub [.sys, .log, .hie, .mon, .hl, .dma, .mem] fr = true := by exact sub_of ‹sub _ _ = true› rfl) : ∃ t, execDescriptorDone n s = .next t ∧ Keep fr s0 t := by
  unfold execDescriptorDone
  refine ⟨_, rfl, ?_⟩
  try dsimp only
  repeat' first | exact sub_of hp rfl | (with_reducible first | assumption | apply complete_keep | apply notify_keep | apply setCh_keep | apply fetchDesc_keep | apply writeBack_keep | refine pair_keep (by assumption) ?_) | split | intro _

theorem cmdClaim_keep {fr : List Part} {s0 : State} (s : State) (n : ChId) (k : SessId) (hs : Keep fr s0 s) (hp : sub [.dma] fr = true := by exact sub_of ‹sub _ _ = true› rfl) : Keep fr s0 (State.cmdClaim s n k).1 := by
  unfold State.cmdClaim
  try dsimp only
  repeat' first | exact sub_of hp rfl | (with_reducible first | assumption | apply setCh_keep | refine pair_keep (by assumption) ?_) | split | intro _

theorem cmdDmaRelease_keep {fr : List Part} {s0 : State} (s : State) (n : ChId) (k : SessId) (hs : Keep fr s0 s) (hp : sub [.apu, .dma] fr = true := by exact sub_of ‹sub _ _ = true› rfl) : Keep fr s0 (State.cmdDmaRelease s n k).1 := by
  unfold State.cmdDmaRelease
  try dsimp only
  repeat' first | exact sub_of hp rfl | (with_reducible first | assumption | apply dropEntries_keep | apply setCh_keep | refine pair_keep (by assumption) ?_) | split | intro _

theorem cmdDmaStart_keep {fr : List Part} {s0 : State} (s : State) (n : ChId) (k : SessId) (hs : Keep fr s0 s) (hp : sub [.sys, .log, .mon, .dma] fr = true := by exact sub_of ‹sub _ _ = true› rfl) : Keep fr s0 (State.cmdDmaStart s n k).1 := by
  unfold State.cmdDmaStart
  try dsimp only
  repeat' first | exact sub_of hp rfl | (with_reducible first | assumption | apply setCh_keep | apply fetchDesc_keep | refine pair_keep (by assumption) ?_) | split | intro _

theorem cmdDmaAbort_keep {fr : List Part} {s0 : State} (s : State) (n : ChId) (k : SessId) (hs : Keep fr s0 s) (hp : sub [.sys, .log, .mon, .dma] fr = true := by exact sub_of ‹sub _ _ = true› rfl) : Keep fr s0 (State.cmdDmaAbort s n k).1 := by
  unfold State.cmdDmaAbort
  try dsimp only
  repeat' first | exact sub_of hp rfl | (with_reducible first | assumption | apply setCh_keep | apply dmaEmit_keep | refine pair_keep (by assumption) ?_) | split | intro _

theorem cmdResume_keep {fr : List Part} {s0 : State} (s : State) (n : ChId) (k : SessId) (hs : Keep fr s0 s) (hp : sub [.sys, .log, .mon, .dma] fr = true := by exact sub_of ‹sub _ _ = true› rfl) : Keep fr s0 (State.cmdResume s n k).1 := by
  unfold State.cmdResume
  try dsimp only
  repeat' first | exact sub_of hp rfl | (with_reducible first | assumption | apply dmaEmit_keep | apply fetchDesc_keep | refine pair_keep (by assumption) ?_) | split | intro _

theorem writeRdptr_keep {fr : List Part} {s0 : State} (s : State) (n : ChId) (v : Word) (hs : Keep fr s0 s) (hp : sub [.dma] fr = true := by exact sub_of ‹sub _ _ = true› rfl) : Keep fr s0 (State.writeRdptr s n v).1 := by
  unfold State.writeRdptr
  try dsimp only
  repeat' first | exact sub_of hp rfl | (with_reducible first | assumption | apply setCh_keep | refine pair_keep (by assumption) ?_) | split | intro _

theorem execClaim_keep {fr : List Part} {s0 : State} (n : ChId) (k : SessId) (s : State) (hs : Keep fr s0 s) (hp : sub [.sys, .hie, .mon, .dma] fr = true := by exact sub_of ‹sub _ _ = true› rfl) : ∃ t, execClaim n k s = .next t ∧ Keep fr s0 t := by
  unfold execClaim
  refine ⟨_, rfl, ?_⟩
  try dsimp only
  repeat' first | exact sub_of hp rfl | (with_reducible first | assumption | apply gated_keep | apply cmdClaim_keep | refine pair_keep (by assumption) ?_) | split | intro _

theorem execDmaRelease_keep {fr : List Part} {s0 : State} (n : ChId) (k : SessId) (s : State) (hs : Keep fr s0 s) (hp : sub [.sys, .hie, .mon, .apu, .dma] fr = true := by exact sub_of ‹sub _ _ = true› rfl) : ∃ t, execDmaRelease n k s = .next t ∧ Keep fr s0 t := by
  unfold execDmaRelease
  refine ⟨_, rfl, ?_⟩
  try dsimp only
  repeat' first | exact sub_of hp rfl | (with_reducible first | assumption | apply gated_keep | apply cmdDmaRelease_keep | refine pair_keep (by assumption) ?_) | split | intro _

theorem execDmaStart_keep {fr : List Part} {s0 : State} (n : ChId) (k : SessId) (s : State) (hs : Keep fr s0 s) (hp : sub [.sys, .log, .hie, .mon, .dma] fr = true := by exact sub_of ‹sub _ _ = true› rfl) : ∃ t, execDmaStart n k s = .next t ∧ Keep fr s0 t := by
  unfold execDmaStart
  refine ⟨_, rfl, ?_⟩
  try dsimp only
  repeat' first | exact sub_of hp rfl | (with_reducible first | assumption | apply gated_keep | apply cmdDmaStart_keep | refine pair_keep (by assumption) ?_) | split | intro _

theorem execDmaAbort_keep {fr : List Part} {s0 : State} (n : ChId) (k : SessId) (s : State) (hs : Keep fr s0 s) (hp : sub [.sys, .log, .hie, .mon, .dma] fr = true := by exact sub_of ‹sub _ _ = true› rfl) : ∃ t, execDmaAbort n k s = .next t ∧ Keep fr s0 t := by
  unfold execDmaAbort
  refine ⟨_, rfl, ?_⟩
  try dsimp only
  repeat' first | exact sub_of hp rfl | (with_reducible first | assumption | apply gated_keep | apply cmdDmaAbort_keep | refine pair_keep (by assumption) ?_) | split | intro _

theorem execResume_keep {fr : List Part} {s0 : State} (n : ChId) (k : SessId) (s : State) (hs : Keep fr s0 s) (hp : sub [.sys, .log, .hie, .mon, .dma] fr = true := by exact sub_of ‹sub _ _ = true› rfl) : ∃ t, execResume n k s = .next t ∧ Keep fr s0 t := by
  unfold execResume
  refine ⟨_, rfl, ?_⟩
  try dsimp only
  repeat' first | exact sub_of hp rfl | (with_reducible first | assumption | apply gated_keep | apply cmdResume_keep | refine pair_keep (by assumption) ?_) | split | intro _

theorem execRdptrWrite_keep {fr : List Part} {s0 : State} (n : ChId) (v : Word) (k : SessId) (s : State) (hs : Keep fr s0 s) (hp : sub [.sys, .hie, .mon, .dma] fr = true := by exact sub_of ‹sub _ _ = true› rfl) : ∃ t, execRdptrWrite n v k s = .next t ∧ Keep fr s0 t := by
  unfold execRdptrWrite
  refine ⟨_, rfl, ?_⟩
  try dsimp only
  repeat' first | exact sub_of hp rfl | (with_reducible first | assumption | apply gated_keep | apply writeRdptr_keep | refine pair_keep (by assumption) ?_) | split | intro _

theorem dropOwner_keep {fr : List Part} {s0 : State} (s : State) (k : SessId) (hs : Keep fr s0 s) (hp : sub [.sys, .log, .mon, .apu, .dma] fr = true := by exact sub_of ‹sub _ _ = true› rfl) : Keep fr s0 (State.dropOwner s k) := by
  unfold State.dropOwner
  try dsimp only
  repeat' first | exact sub_of hp rfl | (with_reducible first | assumption | apply dropEntries_keep | apply setCh_keep | apply dmaFault_keep | apply foldl_keep | apply foldl_fst_keep | refine pair_keep (by assumption) ?_) | split | intro _

end Sys2Proof.Machine
end

