-- ==== Sys2Proof/Laws/KeepEng.lean ====
section
/-! SUPPORT. What every operation keeps, of the Engine, the fans, GNSS, lock groups, hierarchy messages. -/

namespace Sys2Proof.Machine

set_option linter.all false
set_option Elab.async false

open Sys2Proof

theorem setSlot_keep {fr : List Part} {s0 : State} (s : State) (n : SlotId) (f : Slot → Slot) (hs : Keep fr s0 s) (hp : sub [.eng] fr = true := by exact sub_of ‹sub _ _ = true› rfl) : Keep fr s0 (State.setSlot s n f) := by
  unfold State.setSlot
  try dsimp only
  repeat' first | exact sub_of hp rfl | (with_reducible first | assumption | apply onEng_keep | refine pair_keep (by assumption) ?_) | split | intro _

theorem toSinks_keep {fr : List Part} {s0 : State} (s : State) (n : SlotId) (o : Int) (hs : Keep fr s0 s) (hp : sub [.ports] fr = true := by exact sub_of ‹sub _ _ = true› rfl) : Keep fr s0 (State.toSinks s n o) := by
  unfold State.toSinks
  try dsimp only
  repeat' first | exact sub_of hp rfl | (with_reducible first | assumption | apply setPort_keep | apply settle_keep | apply foldl_keep | apply foldl_fst_keep | refine pair_keep (by assumption) ?_) | split | intro _

theorem applyOut_keep {fr : List Part} {s0 : State} (s : State) (n : SlotId) (o : Int) (safe : Bool) (hs : Keep fr s0 s) (hp : sub [.ports, .mon, .eng] fr = true := by exact sub_of ‹sub _ _ = true› rfl) : Keep fr s0 (State.applyOut s n o safe) := by
  unfold State.applyOut
  try dsimp only
  repeat' first | exact sub_of hp rfl | (with_reducible first | assumption | apply onEng_keep | apply present_keep | apply setSlot_keep | apply toSinks_keep | refine pair_keep (by assumption) ?_) | split | intro _

theorem applySafe_keep {fr : List Part} {s0 : State} (s : State) (n : SlotId) (hs : Keep fr s0 s) (hp : sub [.sys, .ports, .sol, .hie, .mon, .eng] fr = true := by exact sub_of ‹sub _ _ = true› rfl) : Keep fr s0 (State.applySafe s n) := by
  unfold State.applySafe
  try dsimp only
  repeat' first | exact sub_of hp rfl | (with_reducible first | assumption | apply presentOff_keep | apply presented_keep | apply applyOut_keep | apply foldl_keep | apply foldl_fst_keep | refine pair_keep (by assumption) ?_) | split | intro _

theorem setTake_keep {fr : List Part} {s0 : State} (s : State) (f : Take → Take) (hs : Keep fr s0 s) (hp : sub [.eng] fr = true := by exact sub_of ‹sub _ _ = true› rfl) : Keep fr s0 (State.setTake s f) := by
  unfold State.setTake
  try dsimp only
  repeat' first | exact sub_of hp rfl | (with_reducible first | assumption | apply onEng_keep | refine pair_keep (by assumption) ?_) | split | intro _

theorem pushQ12_keep {fr : List Part} {s0 : State} (s : State) (b : List Byte) (hs : Keep fr s0 s) (hp : sub [.sys, .eng] fr = true := by exact sub_of ‹sub _ _ = true› rfl) : Keep fr s0 (State.pushQ12 s b) := by
  unfold State.pushQ12
  try dsimp only
  repeat' first | exact sub_of hp rfl | (with_reducible first | assumption | apply onEng_keep | apply noteFill_keep | refine pair_keep (by assumption) ?_) | split | intro _

theorem takeEarly_keep {fr : List Part} {s0 : State} (s : State) (reason : Nat) (hs : Keep fr s0 s) (hp : sub [.sys, .log, .mon, .eng] fr = true := by exact sub_of ‹sub _ _ = true› rfl) : Keep fr s0 (State.takeEarly s reason) := by
  unfold State.takeEarly
  try dsimp only
  repeat' first | exact sub_of hp rfl | (with_reducible first | assumption | apply count_keep | apply emit_keep | apply setTake_keep | apply pushQ12_keep | refine pair_keep (by assumption) ?_) | split | intro _

theorem slotFault_keep {fr : List Part} {s0 : State} (s : State) (n : SlotId) (c : FCause) (code : Nat) (a : Int) (b : Int) (hs : Keep fr s0 s) (hp : sub [.sys, .ports, .sol, .log, .hie, .mon, .eng] fr = true := by exact sub_of ‹sub _ _ = true› rfl) : Keep fr s0 (State.slotFault s n c code a b) := by
  unfold State.slotFault
  try dsimp only
  repeat' first | exact sub_of hp rfl | (with_reducible first | assumption | apply emit_keep | apply answer_keep | apply setSlot_keep | apply applySafe_keep | apply takeEarly_keep | refine pair_keep (by assumption) ?_) | split | intro _

theorem capture_keep {fr : List Part} {s0 : State} (s : State) (n : SlotId) (instant : Nat) (latency : Nat) (dt : Rat) (r : Int) (withheld : Bool) (hs : Keep fr s0 s) (hp : sub [.sys, .log, .gns, .mon, .eng, .dma] fr = true := by exact sub_of ‹sub _ _ = true› rfl) : Keep fr s0 (State.capture s n instant latency dt r withheld) := by
  unfold State.capture
  try dsimp only
  repeat' first | exact sub_of hp rfl | (with_reducible first | assumption | apply count_keep | apply emit_keep | apply advance_keep | apply setTake_keep | apply pushQ12_keep | apply takeEarly_keep | refine pair_keep (by assumption) ?_) | split | intro _

theorem takeUnit_keep {fr : List Part} {s0 : State} (s : State) (n : SlotId) (hs : Keep fr s0 s) (hp : sub [.sys, .log, .rcp, .hie, .mon, .eng] fr = true := by exact sub_of ‹sub _ _ = true› rfl) : Keep fr s0 (State.takeUnit s n).1 := by
  unfold State.takeUnit
  try dsimp only
  repeat' first | exact sub_of hp rfl | (with_reducible first | assumption | apply onRcp_keep | apply emit_keep | apply answer_keep | apply setSlot_keep | refine pair_keep (by assumption) ?_) | split | intro _

theorem takeSwap_keep {fr : List Part} {s0 : State} (s : State) (n : SlotId) (hs : Keep fr s0 s) (hp : sub [.sys, .log, .rcp, .hie, .mon, .eng] fr = true := by exact sub_of ‹sub _ _ = true› rfl) : Keep fr s0 (State.takeSwap s n).1 := by
  unfold State.takeSwap
  try dsimp only
  repeat' first | exact sub_of hp rfl | (with_reducible first | assumption | apply setSlot_keep | apply takeUnit_keep | refine pair_keep (by assumption) ?_) | split | intro _

theorem takeMode_keep {fr : List Part} {s0 : State} (s : State) (n : SlotId) (hs : Keep fr s0 s) (hp : sub [.sys, .ports, .sol, .hie, .mon, .eng] fr = true := by exact sub_of ‹sub _ _ = true› rfl) : Keep fr s0 (State.takeMode s n).1 := by
  unfold State.takeMode
  try dsimp only
  repeat' first | exact sub_of hp rfl | (with_reducible first | assumption | apply onEng_keep | apply answer_keep | apply setSlot_keep | apply applySafe_keep | refine pair_keep (by assumption) ?_) | split | intro _

theorem noteLatency_keep {fr : List Part} {s0 : State} (s : State) (n : SlotId) (lat : Nat) (hs : Keep fr s0 s) (hp : sub [.eng] fr = true := by exact sub_of ‹sub _ _ = true› rfl) : Keep fr s0 (State.noteLatency s n lat) := by
  unfold State.noteLatency
  try dsimp only
  repeat' first | exact sub_of hp rfl | (with_reducible first | assumption | apply setSlot_keep | refine pair_keep (by assumption) ?_) | split | intro _

theorem evaluate_keep {fr : List Part} {s0 : State} (s : State) (n : SlotId) (xs : List (Nat × Int)) (enter : Bool) (old : Option (Vector Word 48)) (hs : Keep fr s0 s) (hp : sub [.sys, .log, .mon, .eng] fr = true := by exact sub_of ‹sub _ _ = true› rfl) : Keep fr s0 (State.evaluate s n xs enter old).1 := by
  unfold State.evaluate
  try dsimp only
  repeat' first | exact sub_of hp rfl | (with_reducible first | assumption | apply emit_keep | apply setSlot_keep | apply foldl_keep | apply foldl_fst_keep | refine pair_keep (by assumption) ?_) | split | intro _

theorem feedbackLost_keep {fr : List Part} {s0 : State} (s : State) (n : SlotId) (hs : Keep fr s0 s) (hp : sub [.sys, .ports, .sol, .log, .hie, .mon, .eng] fr = true := by exact sub_of ‹sub _ _ = true› rfl) : Keep fr s0 (State.feedbackLost s n) := by
  unfold State.feedbackLost
  try dsimp only
  repeat' first | exact sub_of hp rfl | (with_reducible first | assumption | apply emit_keep | apply setSlot_keep | apply slotFault_keep | refine pair_keep (by assumption) ?_) | split | intro _

theorem setpointLost_keep {fr : List Part} {s0 : State} (s : State) (n : SlotId) (hs : Keep fr s0 s) (hp : sub [.sys, .log, .mon, .eng] fr = true := by exact sub_of ‹sub _ _ = true› rfl) : Keep fr s0 (State.setpointLost s n) := by
  unfold State.setpointLost
  try dsimp only
  repeat' first | exact sub_of hp rfl | (with_reducible first | assumption | apply emit_keep | apply setSlot_keep | refine pair_keep (by assumption) ?_) | split | intro _

theorem overrun_keep {fr : List Part} {s0 : State} (s : State) (n : SlotId) (hs : Keep fr s0 s) (hp : sub [.sys, .log, .mon, .eng] fr = true := by exact sub_of ‹sub _ _ = true› rfl) : Keep fr s0 (State.overrun s n) := by
  unfold State.overrun
  try dsimp only
  repeat' first | exact sub_of hp rfl | (with_reducible first | assumption | apply count_keep | apply emit_keep | apply setSlot_keep | apply setTake_keep | refine pair_keep (by assumption) ?_) | split | intro _

theorem residue_keep {fr : List Part} {s0 : State} (s : State) (n : SlotId) (o : Int) (hs : Keep fr s0 s) (hp : sub [.sys, .ports, .sol, .log, .hie, .mon, .eng] fr = true := by exact sub_of ‹sub _ _ = true› rfl) : Keep fr s0 (State.residue s n o) := by
  unfold State.residue
  try dsimp only
  repeat' first | exact sub_of hp rfl | (with_reducible first | assumption | apply count_keep | apply emit_keep | apply setSlot_keep | apply slotFault_keep | refine pair_keep (by assumption) ?_) | split | intro _

theorem settlePipeB_keep {fr : List Part} {s0 : State} (s : State) (hs : Keep fr s0 s) (hp : sub [.sys] fr = true := by exact sub_of ‹sub _ _ = true› rfl) : Keep fr s0 (State.settlePipeB s) := by
  unfold State.settlePipeB
  try dsimp only
  repeat' first | exact sub_of hp rfl | (with_reducible first | assumption | apply onSys_keep | refine pair_keep (by assumption) ?_) | split | intro _

theorem presentSample_keep {fr : List Part} {s0 : State} (s : State) (n : SlotId) (mode : SlotMode) (o : Option Int) (hs : Keep fr s0 s) (hp : sub [.sys, .ports, .sol, .log, .hie, .mon, .eng] fr = true := by exact sub_of ‹sub _ _ = true› rfl) : Keep fr s0 (State.presentSample s n mode o) := by
  unfold State.presentSample
  try dsimp only
  repeat' first | exact sub_of hp rfl | (with_reducible first | assumption | apply applyOut_keep | apply slotFault_keep | refine pair_keep (by assumption) ?_) | split | intro _

theorem noteSwap_keep {fr : List Part} {s0 : State} (s : State) (n : SlotId) (old : Option (Vector Word 48)) (hs : Keep fr s0 s) (hp : sub [.sys, .log, .mon] fr = true := by exact sub_of ‹sub _ _ = true› rfl) : Keep fr s0 (State.noteSwap s n old) := by
  unfold State.noteSwap
  try dsimp only
  repeat' first | exact sub_of hp rfl | (with_reducible first | assumption | apply emit_keep | refine pair_keep (by assumption) ?_) | split | intro _

theorem cleanSample_keep {fr : List Part} {s0 : State} (s : State) (n : SlotId) (instant : Nat) (latency : Nat) (dt : Rat) (mode : SlotMode) (old : Option (Vector Word 48)) (o : Option Int) (hs : Keep fr s0 s) (hp : sub [.sys, .ports, .sol, .log, .gns, .hie, .mon, .eng, .dma] fr = true := by exact sub_of ‹sub _ _ = true› rfl) : Keep fr s0 (State.cleanSample s n instant latency dt mode old o) := by
  unfold State.cleanSample
  try dsimp only
  repeat' first | exact sub_of hp rfl | (with_reducible first | assumption | apply draw_keep | apply setSlot_keep | apply capture_keep | apply noteLatency_keep | apply settlePipeB_keep | apply presentSample_keep | apply noteSwap_keep | refine pair_keep (by assumption) ?_) | split | intro _

theorem sample_keep {fr : List Part} {s0 : State} (s : State) (n : SlotId) (instant : Nat) (latency : Nat) (clean : Bool) (xs : List (Nat × Int)) (hs : Keep fr s0 s) (hp : sub [.sys, .ports, .sol, .log, .rcp, .gns, .hie, .mon, .eng, .dma] fr = true := by exact sub_of ‹sub _ _ = true› rfl) : Keep fr s0 (State.sample s n instant latency clean xs) := by
  unfold State.sample
  try dsimp only
  repeat' first | exact sub_of hp rfl | (with_reducible first | assumption | apply setSlot_keep | apply takeEarly_keep | apply capture_keep | apply takeSwap_keep | apply takeMode_keep | apply evaluate_keep | apply residue_keep | apply settlePipeB_keep | apply cleanSample_keep | refine pair_keep (by assumption) ?_) | split | intro _

theorem judgeSp_keep {fr : List Part} {s0 : State} (s : State) (n : SlotId) (hs : Keep fr s0 s) (hp : sub [.sys, .log, .mon, .eng] fr = true := by exact sub_of ‹sub _ _ = true› rfl) : Keep fr s0 (State.judgeSp s n) := by
  unfold State.judgeSp
  try dsimp only
  repeat' first | exact sub_of hp rfl | (with_reducible first | assumption | apply setpointLost_keep | refine pair_keep (by assumption) ?_) | split | intro _

theorem execSlotTrigger_keep {fr : List Part} {s0 : State} (n : SlotId) (instant : Nat) (latency : Nat) (clean : Bool) (xs : List (Nat × Int)) (s : State) (hs : Keep fr s0 s) (hp : sub [.sys, .ports, .sol, .log, .rcp, .gns, .hie, .mon, .eng, .dma] fr = true := by exact sub_of ‹sub _ _ = true› rfl) : ∃ t, execSlotTrigger n instant latency clean xs s = .next t ∧ Keep fr s0 t := by
  unfold execSlotTrigger
  refine ⟨_, rfl, ?_⟩
  try dsimp only
  repeat' first | exact sub_of hp rfl | (with_reducible first | assumption | apply feedbackLost_keep | apply overrun_keep | apply sample_keep | apply judgeSp_keep | refine pair_keep (by assumption) ?_) | split | intro _

theorem execFollowingError_keep {fr : List Part} {s0 : State} (n : SlotId) (s : State) (hs : Keep fr s0 s) (hp : sub [.sys, .ports, .sol, .log, .hie, .mon, .eng] fr = true := by exact sub_of ‹sub _ _ = true› rfl) : ∃ t, execFollowingError n s = .next t ∧ Keep fr s0 t := by
  unfold execFollowingError
  refine ⟨_, rfl, ?_⟩
  try dsimp only
  repeat' first | exact sub_of hp rfl | (with_reducible first | assumption | apply slotFault_keep | refine pair_keep (by assumption) ?_) | split | intro _

theorem execFeedbackLost_keep {fr : List Part} {s0 : State} (n : SlotId) (s : State) (hs : Keep fr s0 s) (hp : sub [.sys, .ports, .sol, .log, .hie, .mon, .eng] fr = true := by exact sub_of ‹sub _ _ = true› rfl) : ∃ t, execFeedbackLost n s = .next t ∧ Keep fr s0 t := by
  unfold execFeedbackLost
  refine ⟨_, rfl, ?_⟩
  try dsimp only
  repeat' first | exact sub_of hp rfl | (with_reducible first | assumption | apply feedbackLost_keep | refine pair_keep (by assumption) ?_) | split | intro _

theorem execSetpointLost_keep {fr : List Part} {s0 : State} (n : SlotId) (s : State) (hs : Keep fr s0 s) (hp : sub [.sys, .log, .mon, .eng] fr = true := by exact sub_of ‹sub _ _ = true› rfl) : ∃ t, execSetpointLost n s = .next t ∧ Keep fr s0 t := by
  unfold execSetpointLost
  refine ⟨_, rfl, ?_⟩
  try dsimp only
  repeat' first | exact sub_of hp rfl | (with_reducible first | assumption | apply setpointLost_keep | refine pair_keep (by assumption) ?_) | split | intro _

theorem slotCmd_keep {fr : List Part} {s0 : State} (s : State) (n : SlotId) (k : SessId) (right : Nat) (go : State → State × Status) (hs : Keep fr s0 s) (hgo : ∀ s, Keep fr s0 s → Keep fr s0 (go s).1) (hp : sub [.sys, .hie, .mon] fr = true := by exact sub_of ‹sub _ _ = true› rfl) : Keep fr s0 (State.slotCmd s n k right go) := by
  unfold State.slotCmd
  try dsimp only
  repeat' first | exact sub_of hp rfl | (with_reducible first | assumption | apply answer_keep | apply gated_keep | apply hgo | refine pair_keep (by assumption) ?_) | split | intro _

theorem swap_keep {fr : List Part} {s0 : State} (s : State) (n : SlotId) (hs : Keep fr s0 s) (hp : sub [.sys, .log, .mon, .eng] fr = true := by exact sub_of ‹sub _ _ = true› rfl) : Keep fr s0 (State.swap s n).1 := by
  unfold State.swap
  try dsimp only
  repeat' first | exact sub_of hp rfl | (with_reducible first | assumption | apply emit_keep | apply setSlot_keep | refine pair_keep (by assumption) ?_) | split | intro _

theorem clrflt_keep {fr : List Part} {s0 : State} (s : State) (n : SlotId) (hs : Keep fr s0 s) (hp : sub [.sys, .log, .mon, .eng] fr = true := by exact sub_of ‹sub _ _ = true› rfl) : Keep fr s0 (State.clrflt s n).1 := by
  unfold State.clrflt
  try dsimp only
  repeat' first | exact sub_of hp rfl | (with_reducible first | assumption | apply emit_keep | apply setSlot_keep | refine pair_keep (by assumption) ?_) | split | intro _

theorem rstats_keep {fr : List Part} {s0 : State} (s : State) (n : SlotId) (hs : Keep fr s0 s) (hp : sub [.eng] fr = true := by exact sub_of ‹sub _ _ = true› rfl) : Keep fr s0 (State.rstats s n).1 := by
  unfold State.rstats
  try dsimp only
  repeat' first | exact sub_of hp rfl | (with_reducible first | assumption | apply setSlot_keep | refine pair_keep (by assumption) ?_) | split | intro _

theorem execSwap_keep {fr : List Part} {s0 : State} (n : SlotId) (k : SessId) (s : State) (hs : Keep fr s0 s) (hp : sub [.sys, .log, .hie, .mon, .eng] fr = true := by exact sub_of ‹sub _ _ = true› rfl) : ∃ t, execSwap n k s = .next t ∧ Keep fr s0 t := by
  unfold execSwap
  refine ⟨_, rfl, ?_⟩
  try dsimp only
  repeat' first | exact sub_of hp rfl | (with_reducible first | assumption | apply slotCmd_keep | apply swap_keep | refine pair_keep (by assumption) ?_) | split | intro _

theorem execClrflt_keep {fr : List Part} {s0 : State} (n : SlotId) (k : SessId) (s : State) (hs : Keep fr s0 s) (hp : sub [.sys, .log, .hie, .mon, .eng] fr = true := by exact sub_of ‹sub _ _ = true› rfl) : ∃ t, execClrflt n k s = .next t ∧ Keep fr s0 t := by
  unfold execClrflt
  refine ⟨_, rfl, ?_⟩
  try dsimp only
  repeat' first | exact sub_of hp rfl | (with_reducible first | assumption | apply slotCmd_keep | apply clrflt_keep | refine pair_keep (by assumption) ?_) | split | intro _

theorem execRstats_keep {fr : List Part} {s0 : State} (n : SlotId) (k : SessId) (s : State) (hs : Keep fr s0 s) (hp : sub [.sys, .hie, .mon, .eng] fr = true := by exact sub_of ‹sub _ _ = true› rfl) : ∃ t, execRstats n k s = .next t ∧ Keep fr s0 t := by
  unfold execRstats
  refine ⟨_, rfl, ?_⟩
  try dsimp only
  repeat' first | exact sub_of hp rfl | (with_reducible first | assumption | apply slotCmd_keep | apply rstats_keep | refine pair_keep (by assumption) ?_) | split | intro _

theorem modeRequest_keep {fr : List Part} {s0 : State} (s : State) (n : SlotId) (m : SlotMode) (src : Src) (hs : Keep fr s0 s) (hp : sub [.sys, .hie, .mon, .eng] fr = true := by exact sub_of ‹sub _ _ = true› rfl) : Keep fr s0 (State.modeRequest s n m src).1 := by
  unfold State.modeRequest
  try dsimp only
  repeat' first | exact sub_of hp rfl | (with_reducible first | assumption | apply answer_keep | apply setSlot_keep | refine pair_keep (by assumption) ?_) | split | intro _

theorem writeMode_keep {fr : List Part} {s0 : State} (s : State) (n : SlotId) (v : Word) (k : SessId) (hs : Keep fr s0 s) (hp : sub [.sys, .hie, .mon, .eng] fr = true := by exact sub_of ‹sub _ _ = true› rfl) : Keep fr s0 (State.writeMode s n v k) := by
  unfold State.writeMode
  try dsimp only
  repeat' first | exact sub_of hp rfl | (with_reducible first | assumption | apply answer_keep | apply modeRequest_keep | refine pair_keep (by assumption) ?_) | split | intro _

theorem execSlotModeRequest_keep {fr : List Part} {s0 : State} (n : SlotId) (v : Word) (k : SessId) (s : State) (hs : Keep fr s0 s) (hp : sub [.sys, .hie, .mon, .eng] fr = true := by exact sub_of ‹sub _ _ = true› rfl) : ∃ t, execSlotModeRequest n v k s = .next t ∧ Keep fr s0 t := by
  unfold execSlotModeRequest
  refine ⟨_, rfl, ?_⟩
  try dsimp only
  repeat' first | exact sub_of hp rfl | (with_reducible first | assumption | apply writeMode_keep | refine pair_keep (by assumption) ?_) | split | intro _

theorem writeSp_keep {fr : List Part} {s0 : State} (s : State) (n : SlotId) (v : Word) (hs : Keep fr s0 s) (hp : sub [.eng] fr = true := by exact sub_of ‹sub _ _ = true› rfl) : Keep fr s0 (State.writeSp s n v).1 := by
  unfold State.writeSp
  try dsimp only
  repeat' first | exact sub_of hp rfl | (with_reducible first | assumption | apply setSlot_keep | refine pair_keep (by assumption) ?_) | split | intro _

theorem execSlotSpWrite_keep {fr : List Part} {s0 : State} (n : SlotId) (v : Word) (k : SessId) (s : State) (hs : Keep fr s0 s) (hp : sub [.sys, .hie, .mon, .eng] fr = true := by exact sub_of ‹sub _ _ = true› rfl) : ∃ t, execSlotSpWrite n v k s = .next t ∧ Keep fr s0 t := by
  unfold execSlotSpWrite
  refine ⟨_, rfl, ?_⟩
  try dsimp only
  repeat' first | exact sub_of hp rfl | (with_reducible first | assumption | apply slotCmd_keep | apply writeSp_keep | refine pair_keep (by assumption) ?_) | split | intro _

theorem writeManout_keep {fr : List Part} {s0 : State} (s : State) (n : SlotId) (v : Word) (hs : Keep fr s0 s) (hp : sub [.eng] fr = true := by exact sub_of ‹sub _ _ = true› rfl) : Keep fr s0 (State.writeManout s n v).1 := by
  unfold State.writeManout
  try dsimp only
  repeat' first | exact sub_of hp rfl | (with_reducible first | assumption | apply setSlot_keep | refine pair_keep (by assumption) ?_) | split | intro _

theorem execSlotManoutWrite_keep {fr : List Part} {s0 : State} (n : SlotId) (v : Word) (k : SessId) (s : State) (hs : Keep fr s0 s) (hp : sub [.sys, .hie, .mon, .eng] fr = true := by exact sub_of ‹sub _ _ = true› rfl) : ∃ t, execSlotManoutWrite n v k s = .next t ∧ Keep fr s0 t := by
  unfold execSlotManoutWrite
  refine ⟨_, rfl, ?_⟩
  try dsimp only
  repeat' first | exact sub_of hp rfl | (with_reducible first | assumption | apply slotCmd_keep | apply writeManout_keep | refine pair_keep (by assumption) ?_) | split | intro _

theorem writeBank_keep {fr : List Part} {s0 : State} (s : State) (n : SlotId) (b : Bool) (i : Fin 48) (v : Word) (hs : Keep fr s0 s) (hp : sub [.eng] fr = true := by exact sub_of ‹sub _ _ = true› rfl) : Keep fr s0 (State.writeBank s n b i v).1 := by
  unfold State.writeBank
  try dsimp only
  repeat' first | exact sub_of hp rfl | (with_reducible first | assumption | apply setSlot_keep | refine pair_keep (by assumption) ?_) | split | intro _

theorem execSlotBankWordWrite_keep {fr : List Part} {s0 : State} (n : SlotId) (b : Bool) (i : Fin 48) (v : Word) (k : SessId) (s : State) (hs : Keep fr s0 s) (hp : sub [.sys, .hie, .mon, .eng] fr = true := by exact sub_of ‹sub _ _ = true› rfl) : ∃ t, execSlotBankWordWrite n b i v k s = .next t ∧ Keep fr s0 t := by
  unfold execSlotBankWordWrite
  refine ⟨_, rfl, ?_⟩
  try dsimp only
  repeat' first | exact sub_of hp rfl | (with_reducible first | assumption | apply slotCmd_keep | apply writeBank_keep | refine pair_keep (by assumption) ?_) | split | intro _

theorem takeStart_keep {fr : List Part} {s0 : State} (s : State) (hs : Keep fr s0 s) (hp : sub [.mon, .eng] fr = true := by exact sub_of ‹sub _ _ = true› rfl) : Keep fr s0 (State.takeStart s).1 := by
  unfold State.takeStart
  try dsimp only
  repeat' first | exact sub_of hp rfl | (with_reducible first | assumption | apply setTake_keep | refine pair_keep (by assumption) ?_) | split | intro _

theorem takeCmd_keep {fr : List Part} {s0 : State} (s : State) (v : Word) (hs : Keep fr s0 s) (hp : sub [.sys, .log, .mon, .eng] fr = true := by exact sub_of ‹sub _ _ = true› rfl) : Keep fr s0 (State.takeCmd s v).1 := by
  unfold State.takeCmd
  try dsimp only
  repeat' first | exact sub_of hp rfl | (with_reducible first | assumption | apply takeEarly_keep | apply takeStart_keep | refine pair_keep (by assumption) ?_) | split | intro _

theorem execTakeStart_keep {fr : List Part} {s0 : State} (k : SessId) (s : State) (hs : Keep fr s0 s) (hp : sub [.sys, .hie, .mon, .eng] fr = true := by exact sub_of ‹sub _ _ = true› rfl) : ∃ t, execTakeStart k s = .next t ∧ Keep fr s0 t := by
  unfold execTakeStart
  refine ⟨_, rfl, ?_⟩
  try dsimp only
  repeat' first | exact sub_of hp rfl | (with_reducible first | assumption | apply gated_keep | apply takeStart_keep | refine pair_keep (by assumption) ?_) | split | intro _

theorem execTakeAbort_keep {fr : List Part} {s0 : State} (k : SessId) (s : State) (hs : Keep fr s0 s) (hp : sub [.sys, .log, .hie, .mon, .eng] fr = true := by exact sub_of ‹sub _ _ = true› rfl) : ∃ t, execTakeAbort k s = .next t ∧ Keep fr s0 t := by
  unfold execTakeAbort
  refine ⟨_, rfl, ?_⟩
  try dsimp only
  repeat' first | exact sub_of hp rfl | (with_reducible first | assumption | apply gated_keep | apply takeEarly_keep | refine pair_keep (by assumption) ?_) | split | intro _

theorem matrix_keep {fr : List Part} {s0 : State} (s : State) (hs : Keep fr s0 s) (hp : sub [.sys] fr = true := by exact sub_of ‹sub _ _ = true› rfl) : Keep fr s0 (State.matrix s) := by
  unfold State.matrix
  try dsimp only
  repeat' first | exact sub_of hp rfl | (with_reducible first | assumption | apply onSys_keep | refine pair_keep (by assumption) ?_) | split | intro _

theorem interlock_keep {fr : List Part} {s0 : State} (s : State) (hs : Keep fr s0 s) (hp : sub [.sys, .ports, .sol, .log, .hie, .mon] fr = true := by exact sub_of ‹sub _ _ = true› rfl) : Keep fr s0 (State.interlock s) := by
  unfold State.interlock
  try dsimp only
  repeat' first | exact sub_of hp rfl | (with_reducible first | assumption | apply applyAllForced_keep | apply orphPresent_keep | apply matrix_keep | refine pair_keep (by assumption) ?_) | split | intro _

theorem execInterlockInputChange_keep {fr : List Part} {s0 : State} (s : State) (hs : Keep fr s0 s) (hp : sub [.sys, .ports, .sol, .log, .hie, .mon] fr = true := by exact sub_of ‹sub _ _ = true› rfl) : ∃ t, execInterlockInputChange s = .next t ∧ Keep fr s0 t := by
  unfold execInterlockInputChange
  try dsimp only
  repeat' first | exact sub_of hp rfl | (with_reducible first | assumption | apply interlock_keep | refine pair_keep (by assumption) ?_) | split | refine ⟨_, rfl, ?_⟩ | exact fun _ h => h | intro _

theorem execFlagSend_keep {fr : List Part} {s0 : State} (k : FlagId) (s : State) (hs : Keep fr s0 s) (hp : sub [.hie] fr = true := by exact sub_of ‹sub _ _ = true› rfl) : ∃ t, execFlagSend k s = .next t ∧ Keep fr s0 t := by
  unfold execFlagSend
  refine ⟨_, rfl, ?_⟩
  try dsimp only
  repeat' first | exact sub_of hp rfl | (with_reducible first | assumption | apply transmit_keep | apply setFlag_keep | refine pair_keep (by assumption) ?_) | split | intro _

theorem setFan_keep {fr : List Part} {s0 : State} (s : State) (f : FanId) (g : Fan → Fan) (hs : Keep fr s0 s) (hp : sub [.fan] fr = true := by exact sub_of ‹sub _ _ = true› rfl) : Keep fr s0 (State.setFan s f g) := by
  unfold State.setFan
  try dsimp only
  repeat' first | exact sub_of hp rfl | (with_reducible first | assumption | apply onFan_keep | refine pair_keep (by assumption) ?_) | split | intro _

theorem noteTempFault_keep {fr : List Part} {s0 : State} (s : State) (f : FanId) (hs : Keep fr s0 s) (hp : sub [.sys, .log, .mon, .fan] fr = true := by exact sub_of ‹sub _ _ = true› rfl) : Keep fr s0 (State.noteTempFault s f) := by
  unfold State.noteTempFault
  try dsimp only
  repeat' first | exact sub_of hp rfl | (with_reducible first | assumption | apply emit_keep | apply setFan_keep | refine pair_keep (by assumption) ?_) | split | intro _

theorem fanTarget_keep {fr : List Part} {s0 : State} (s : State) (f : FanId) (hs : Keep fr s0 s) (hp : sub [.sys, .log, .mon, .fan] fr = true := by exact sub_of ‹sub _ _ = true› rfl) : Keep fr s0 (State.fanTarget s f).1 := by
  unfold State.fanTarget
  try dsimp only
  repeat' first | exact sub_of hp rfl | (with_reducible first | assumption | apply setFan_keep | apply noteTempFault_keep | refine pair_keep (by assumption) ?_) | split | intro _

theorem fanDrive_keep {fr : List Part} {s0 : State} (s : State) (f : FanId) (hs : Keep fr s0 s) (hp : sub [.ports] fr = true := by exact sub_of ‹sub _ _ = true› rfl) : Keep fr s0 (State.fanDrive s f) := by
  unfold State.fanDrive
  try dsimp only
  repeat' first | exact sub_of hp rfl | (with_reducible first | assumption | apply setPorts_keep | apply settle_keep | refine pair_keep (by assumption) ?_) | split | intro _

theorem enterKick_keep {fr : List Part} {s0 : State} (s : State) (f : FanId) (attempt : Nat) (hs : Keep fr s0 s) (hp : sub [.ports, .mon, .fan] fr = true := by exact sub_of ‹sub _ _ = true› rfl) : Keep fr s0 (State.enterKick s f attempt) := by
  unfold State.enterKick
  try dsimp only
  repeat' first | exact sub_of hp rfl | (with_reducible first | assumption | apply count_keep | apply setFan_keep | apply fanDrive_keep | refine pair_keep (by assumption) ?_) | split | intro _

theorem enterQuiet_keep {fr : List Part} {s0 : State} (s : State) (f : FanId) (st : FanStatus) (hs : Keep fr s0 s) (hp : sub [.ports, .fan] fr = true := by exact sub_of ‹sub _ _ = true› rfl) : Keep fr s0 (State.enterQuiet s f st) := by
  unfold State.enterQuiet
  try dsimp only
  repeat' first | exact sub_of hp rfl | (with_reducible first | assumption | apply setFan_keep | apply fanDrive_keep | refine pair_keep (by assumption) ?_) | split | intro _

theorem fanStart_keep {fr : List Part} {s0 : State} (s : State) (f : FanId) (target : Nat) (hs : Keep fr s0 s) (hp : sub [.ports, .mon, .fan] fr = true := by exact sub_of ‹sub _ _ = true› rfl) : Keep fr s0 (State.fanStart s f target) := by
  unfold State.fanStart
  try dsimp only
  repeat' first | exact sub_of hp rfl | (with_reducible first | assumption | apply enterKick_keep | apply enterQuiet_keep | refine pair_keep (by assumption) ?_) | split | intro _

theorem fanToRun_keep {fr : List Part} {s0 : State} (s : State) (f : FanId) (target : Nat) (hs : Keep fr s0 s) (hp : sub [.ports, .fan] fr = true := by exact sub_of ‹sub _ _ = true› rfl) : Keep fr s0 (State.fanToRun s f target) := by
  unfold State.fanToRun
  try dsimp only
  repeat' first | exact sub_of hp rfl | (with_reducible first | assumption | apply setFan_keep | apply fanDrive_keep | refine pair_keep (by assumption) ?_) | split | intro _

theorem fanIssueOff_keep {fr : List Part} {s0 : State} (s : State) (f : FanId) (hs : Keep fr s0 s) (hp : sub [.sys, .ports, .sol, .hie, .mon] fr = true := by exact sub_of ‹sub _ _ = true› rfl) : Keep fr s0 (State.fanIssueOff s f) := by
  unfold State.fanIssueOff
  try dsimp only
  repeat' first | exact sub_of hp rfl | (with_reducible first | assumption | apply presentOff_keep | refine pair_keep (by assumption) ?_) | split | intro _

theorem fanMotorOpen_keep {fr : List Part} {s0 : State} (s : State) (f : FanId) (i : Int) (hs : Keep fr s0 s) (hp : sub [.sys, .ports, .sol, .log, .hie, .mon, .fan] fr = true := by exact sub_of ‹sub _ _ = true› rfl) : Keep fr s0 (State.fanMotorOpen s f i) := by
  unfold State.fanMotorOpen
  try dsimp only
  repeat' first | exact sub_of hp rfl | (with_reducible first | assumption | apply emit_keep | apply setFan_keep | apply enterQuiet_keep | apply fanIssueOff_keep | refine pair_keep (by assumption) ?_) | split | intro _

theorem fanTestEnd_keep {fr : List Part} {s0 : State} (s : State) (f : FanId) (res : Nat) (ms : Nat) (hs : Keep fr s0 s) (hp : sub [.sys, .ports, .sol, .hie, .mon, .fan] fr = true := by exact sub_of ‹sub _ _ = true› rfl) : Keep fr s0 (State.fanTestEnd s f res ms) := by
  unfold State.fanTestEnd
  try dsimp only
  repeat' first | exact sub_of hp rfl | (with_reducible first | assumption | apply setFan_keep | apply enterQuiet_keep | apply fanIssueOff_keep | refine pair_keep (by assumption) ?_) | split | intro _

theorem execFanEvaluation_keep {fr : List Part} {s0 : State} (f : FanId) (s : State) (hs : Keep fr s0 s) (hp : sub [.sys, .ports, .sol, .log, .hie, .mon, .fan] fr = true := by exact sub_of ‹sub _ _ = true› rfl) : ∃ t, execFanEvaluation f s = .next t ∧ Keep fr s0 t := by
  unfold execFanEvaluation
  refine ⟨_, rfl, ?_⟩
  try dsimp only
  repeat' first | exact sub_of hp rfl | (with_reducible first | assumption | apply setFan_keep | apply fanTarget_keep | apply fanDrive_keep | apply enterKick_keep | apply enterQuiet_keep | apply fanStart_keep | apply fanToRun_keep | apply fanTestEnd_keep | refine pair_keep (by assumption) ?_) | split | intro _

theorem execFanKickTimeout_keep {fr : List Part} {s0 : State} (f : FanId) (mean : Int) (s : State) (hs : Keep fr s0 s) (hp : sub [.sys, .ports, .sol, .log, .hie, .mon, .fan] fr = true := by exact sub_of ‹sub _ _ = true› rfl) : ∃ t, execFanKickTimeout f mean s = .next t ∧ Keep fr s0 t := by
  unfold execFanKickTimeout
  refine ⟨_, rfl, ?_⟩
  try dsimp only
  repeat' first | exact sub_of hp rfl | (with_reducible first | assumption | apply emit_keep | apply setFan_keep | apply enterQuiet_keep | apply fanToRun_keep | apply fanIssueOff_keep | apply fanMotorOpen_keep | apply fanTestEnd_keep | refine pair_keep (by assumption) ?_) | split | intro _

theorem execFanPauseEnd_keep {fr : List Part} {s0 : State} (f : FanId) (s : State) (hs : Keep fr s0 s) (hp : sub [.ports, .mon, .fan] fr = true := by exact sub_of ‹sub _ _ = true› rfl) : ∃ t, execFanPauseEnd f s = .next t ∧ Keep fr s0 t := by
  unfold execFanPauseEnd
  refine ⟨_, rfl, ?_⟩
  try dsimp only
  repeat' first | exact sub_of hp rfl | (with_reducible first | assumption | apply enterKick_keep | refine pair_keep (by assumption) ?_) | split | intro _

theorem execFanStall_keep {fr : List Part} {s0 : State} (f : FanId) (s : State) (hs : Keep fr s0 s) (hp : sub [.sys, .ports, .log, .mon, .fan] fr = true := by exact sub_of ‹sub _ _ = true› rfl) : ∃ t, execFanStall f s = .next t ∧ Keep fr s0 t := by
  unfold execFanStall
  refine ⟨_, rfl, ?_⟩
  try dsimp only
  repeat' first | exact sub_of hp rfl | (with_reducible first | assumption | apply emit_keep | apply enterKick_keep | refine pair_keep (by assumption) ?_) | split | intro _

theorem execTachJudgement_keep {fr : List Part} {s0 : State} (f : FanId) (mean : Int) (s : State) (hs : Keep fr s0 s) (hp : sub [.sys, .ports, .sol, .log, .hie, .mon, .fan] fr = true := by exact sub_of ‹sub _ _ = true› rfl) : ∃ t, execTachJudgement f mean s = .next t ∧ Keep fr s0 t := by
  unfold execTachJudgement
  refine ⟨_, rfl, ?_⟩
  try dsimp only
  repeat' first | exact sub_of hp rfl | (with_reducible first | assumption | apply emit_keep | apply setFan_keep | apply fanMotorOpen_keep | refine pair_keep (by assumption) ?_) | split | intro _

theorem execFanTachRestored_keep {fr : List Part} {s0 : State} (f : FanId) (s : State) (hs : Keep fr s0 s) (hp : sub [.sys, .log, .mon, .fan] fr = true := by exact sub_of ‹sub _ _ = true› rfl) : ∃ t, execFanTachRestored f s = .next t ∧ Keep fr s0 t := by
  unfold execFanTachRestored
  refine ⟨_, rfl, ?_⟩
  try dsimp only
  repeat' first | exact sub_of hp rfl | (with_reducible first | assumption | apply emit_keep | apply setFan_keep | refine pair_keep (by assumption) ?_) | split | intro _

theorem execFanTempFault_keep {fr : List Part} {s0 : State} (f : FanId) (s : State) (hs : Keep fr s0 s) (hp : sub [.sys, .log, .mon, .fan] fr = true := by exact sub_of ‹sub _ _ = true› rfl) : ∃ t, execFanTempFault f s = .next t ∧ Keep fr s0 t := by
  unfold execFanTempFault
  refine ⟨_, rfl, ?_⟩
  try dsimp only
  repeat' first | exact sub_of hp rfl | (with_reducible first | assumption | apply setFan_keep | apply noteTempFault_keep | refine pair_keep (by assumption) ?_) | split | intro _

theorem fanCmd_keep {fr : List Part} {s0 : State} (s : State) (f : FanId) (k : SessId) (go : State → State × Status) (hs : Keep fr s0 s) (hgo : ∀ s, Keep fr s0 s → Keep fr s0 (go s).1) (hp : sub [.sys, .hie, .mon] fr = true := by exact sub_of ‹sub _ _ = true› rfl) : Keep fr s0 (State.fanCmd s f k go) := by
  unfold State.fanCmd
  try dsimp only
  repeat' first | exact sub_of hp rfl | (with_reducible first | assumption | apply answer_keep | apply gated_keep | apply hgo | refine pair_keep (by assumption) ?_) | split | intro _

theorem fanOn_keep {fr : List Part} {s0 : State} (s : State) (f : FanId) (hs : Keep fr s0 s) (hp : sub [.sys, .ports, .sol, .log, .hie, .mon] fr = true := by exact sub_of ‹sub _ _ = true› rfl) : Keep fr s0 (State.fanOn s f).1 := by
  unfold State.fanOn
  try dsimp only
  repeat' first | exact sub_of hp rfl | (with_reducible first | assumption | apply presentOn_keep | refine pair_keep (by assumption) ?_) | split | intro _

theorem fanEnable_keep {fr : List Part} {s0 : State} (s : State) (f : FanId) (hs : Keep fr s0 s) (hp : sub [.sys, .ports, .sol, .log, .hie, .mon, .fan] fr = true := by exact sub_of ‹sub _ _ = true› rfl) : Keep fr s0 (State.fanEnable s f).1 := by
  unfold State.fanEnable
  try dsimp only
  repeat' first | exact sub_of hp rfl | (with_reducible first | assumption | apply setFan_keep | apply fanTarget_keep | apply fanStart_keep | apply fanOn_keep | refine pair_keep (by assumption) ?_) | split | intro _

theorem fanDisable_keep {fr : List Part} {s0 : State} (s : State) (f : FanId) (hs : Keep fr s0 s) (hp : sub [.sys, .ports, .sol, .hie, .mon, .fan] fr = true := by exact sub_of ‹sub _ _ = true› rfl) : Keep fr s0 (State.fanDisable s f).1 := by
  unfold State.fanDisable
  try dsimp only
  repeat' first | exact sub_of hp rfl | (with_reducible first | assumption | apply presentOff_keep | apply setFan_keep | apply enterQuiet_keep | refine pair_keep (by assumption) ?_) | split | intro _

theorem fanTest_keep {fr : List Part} {s0 : State} (s : State) (f : FanId) (hs : Keep fr s0 s) (hp : sub [.sys, .ports, .sol, .log, .hie, .mon, .fan] fr = true := by exact sub_of ‹sub _ _ = true› rfl) : Keep fr s0 (State.fanTest s f).1 := by
  unfold State.fanTest
  try dsimp only
  repeat' first | exact sub_of hp rfl | (with_reducible first | assumption | apply setFan_keep | apply fanDrive_keep | apply fanOn_keep | refine pair_keep (by assumption) ?_) | split | intro _

theorem fanRestart_keep {fr : List Part} {s0 : State} (s : State) (f : FanId) (hs : Keep fr s0 s) (hp : sub [.sys, .ports, .sol, .log, .hie, .mon, .fan] fr = true := by exact sub_of ‹sub _ _ = true› rfl) : Keep fr s0 (State.fanRestart s f).1 := by
  unfold State.fanRestart
  try dsimp only
  repeat' first | exact sub_of hp rfl | (with_reducible first | assumption | apply setFan_keep | apply enterKick_keep | apply fanOn_keep | refine pair_keep (by assumption) ?_) | split | intro _

theorem execEnable_keep {fr : List Part} {s0 : State} (f : FanId) (k : SessId) (s : State) (hs : Keep fr s0 s) (hp : sub [.sys, .ports, .sol, .log, .hie, .mon, .fan] fr = true := by exact sub_of ‹sub _ _ = true› rfl) : ∃ t, execEnable f k s = .next t ∧ Keep fr s0 t := by
  unfold execEnable
  refine ⟨_, rfl, ?_⟩
  try dsimp only
  repeat' first | exact sub_of hp rfl | (with_reducible first | assumption | apply fanCmd_keep | apply fanEnable_keep | refine pair_keep (by assumption) ?_) | split | intro _

theorem execDisable_keep {fr : List Part} {s0 : State} (f : FanId) (k : SessId) (s : State) (hs : Keep fr s0 s) (hp : sub [.sys, .ports, .sol, .hie, .mon, .fan] fr = true := by exact sub_of ‹sub _ _ = true› rfl) : ∃ t, execDisable f k s = .next t ∧ Keep fr s0 t := by
  unfold execDisable
  refine ⟨_, rfl, ?_⟩
  try dsimp only
  repeat' first | exact sub_of hp rfl | (with_reducible first | assumption | apply fanCmd_keep | apply fanDisable_keep | refine pair_keep (by assumption) ?_) | split | intro _

theorem execTest_keep {fr : List Part} {s0 : State} (f : FanId) (k : SessId) (s : State) (hs : Keep fr s0 s) (hp : sub [.sys, .ports, .sol, .log, .hie, .mon, .fan] fr = true := by exact sub_of ‹sub _ _ = true› rfl) : ∃ t, execTest f k s = .next t ∧ Keep fr s0 t := by
  unfold execTest
  refine ⟨_, rfl, ?_⟩
  try dsimp only
  repeat' first | exact sub_of hp rfl | (with_reducible first | assumption | apply fanCmd_keep | apply fanTest_keep | refine pair_keep (by assumption) ?_) | split | intro _

theorem execRestart_keep {fr : List Part} {s0 : State} (f : FanId) (k : SessId) (s : State) (hs : Keep fr s0 s) (hp : sub [.sys, .ports, .sol, .log, .hie, .mon, .fan] fr = true := by exact sub_of ‹sub _ _ = true› rfl) : ∃ t, execRestart f k s = .next t ∧ Keep fr s0 t := by
  unfold execRestart
  refine ⟨_, rfl, ?_⟩
  try dsimp only
  repeat' first | exact sub_of hp rfl | (with_reducible first | assumption | apply fanCmd_keep | apply fanRestart_keep | refine pair_keep (by assumption) ?_) | split | intro _

theorem writeMduty_keep {fr : List Part} {s0 : State} (s : State) (f : FanId) (v : Word) (k : SessId) (hs : Keep fr s0 s) (hp : sub [.fan] fr = true := by exact sub_of ‹sub _ _ = true› rfl) : Keep fr s0 (State.writeMduty s f v k).1 := by
  unfold State.writeMduty
  try dsimp only
  repeat' first | exact sub_of hp rfl | (with_reducible first | assumption | apply setFan_keep | refine pair_keep (by assumption) ?_) | split | intro _

theorem execFanMdutyWrite_keep {fr : List Part} {s0 : State} (f : FanId) (v : Word) (k : SessId) (s : State) (hs : Keep fr s0 s) (hp : sub [.sys, .hie, .mon, .fan] fr = true := by exact sub_of ‹sub _ _ = true› rfl) : ∃ t, execFanMdutyWrite f v k s = .next t ∧ Keep fr s0 t := by
  unfold execFanMdutyWrite
  refine ⟨_, rfl, ?_⟩
  try dsimp only
  repeat' first | exact sub_of hp rfl | (with_reducible first | assumption | apply fanCmd_keep | apply writeMduty_keep | refine pair_keep (by assumption) ?_) | split | intro _

theorem writeHtemp_keep {fr : List Part} {s0 : State} (s : State) (f : FanId) (v : Word) (hs : Keep fr s0 s) (hp : sub [.fan] fr = true := by exact sub_of ‹sub _ _ = true› rfl) : Keep fr s0 (State.writeHtemp s f v).1 := by
  unfold State.writeHtemp
  try dsimp only
  repeat' first | exact sub_of hp rfl | (with_reducible first | assumption | apply setFan_keep | refine pair_keep (by assumption) ?_) | split | intro _

theorem execFanHtempWrite_keep {fr : List Part} {s0 : State} (f : FanId) (v : Word) (k : SessId) (s : State) (hs : Keep fr s0 s) (hp : sub [.sys, .hie, .mon, .fan] fr = true := by exact sub_of ‹sub _ _ = true› rfl) : ∃ t, execFanHtempWrite f v k s = .next t ∧ Keep fr s0 t := by
  unfold execFanHtempWrite
  refine ⟨_, rfl, ?_⟩
  try dsimp only
  repeat' first | exact sub_of hp rfl | (with_reducible first | assumption | apply answer_keep | apply gated_keep | apply writeHtemp_keep | refine pair_keep (by assumption) ?_) | split | intro _

theorem execAgeingSample_keep {fr : List Part} {s0 : State} (f : FanId) (vbank : Nat) (freq : Nat) (steady : Bool) (s : State) (hs : Keep fr s0 s) (hp : sub [.sys, .ports, .sol, .log, .rcp, .gns, .hie, .mon, .fan, .eng, .dma] fr = true := by exact sub_of ‹sub _ _ = true› rfl) : ∃ t, execAgeingSample f vbank freq steady s = .next t ∧ Keep fr s0 t := by
  unfold execAgeingSample
  refine ⟨_, rfl, ?_⟩
  try dsimp only
  repeat' first | exact sub_of hp rfl | (with_reducible first | assumption | apply emitAll_keep | apply sample_keep | apply setFan_keep | refine pair_keep (by assumption) ?_) | split | intro _

theorem saveAge_keep {fr : List Part} {s0 : State} (s : State) (hs : Keep fr s0 s) (hp : sub [.fan] fr = true := by exact sub_of ‹sub _ _ = true› rfl) : Keep fr s0 (State.saveAge s) := by
  unfold State.saveAge
  try dsimp only
  repeat' first | exact sub_of hp rfl | (with_reducible first | assumption | apply onFan_keep | refine pair_keep (by assumption) ?_) | split | intro _

theorem execFanAgeSave_keep {fr : List Part} {s0 : State} (s : State) (hs : Keep fr s0 s) (hp : sub [.fan] fr = true := by exact sub_of ‹sub _ _ = true› rfl) : ∃ t, execFanAgeSave s = .next t ∧ Keep fr s0 t := by
  unfold execFanAgeSave
  try dsimp only
  repeat' first | exact sub_of hp rfl | (with_reducible first | assumption | apply saveAge_keep | refine pair_keep (by assumption) ?_) | split | refine ⟨_, rfl, ?_⟩ | exact fun _ h => h | intro _

theorem clearAge_keep {fr : List Part} {s0 : State} (s : State) (f : FanId) (hs : Keep fr s0 s) (hp : sub [.sys, .log, .mon, .fan] fr = true := by exact sub_of ‹sub _ _ = true› rfl) : Keep fr s0 (State.clearAge s f) := by
  unfold State.clearAge
  try dsimp only
  repeat' first | exact sub_of hp rfl | (with_reducible first | assumption | apply emit_keep | apply setFan_keep | refine pair_keep (by assumption) ?_) | split | intro _

theorem writeAgeclr_keep {fr : List Part} {s0 : State} (s : State) (f : FanId) (v : Word) (hs : Keep fr s0 s) (hp : sub [.sys, .log, .mon, .fan] fr = true := by exact sub_of ‹sub _ _ = true› rfl) : Keep fr s0 (State.writeAgeclr s f v).1 := by
  unfold State.writeAgeclr
  try dsimp only
  repeat' first | exact sub_of hp rfl | (with_reducible first | assumption | apply clearAge_keep | refine pair_keep (by assumption) ?_) | split | intro _

theorem execFanAgeclr_keep {fr : List Part} {s0 : State} (f : FanId) (v : Word) (k : SessId) (s : State) (hs : Keep fr s0 s) (hp : sub [.sys, .log, .hie, .mon, .fan] fr = true := by exact sub_of ‹sub _ _ = true› rfl) : ∃ t, execFanAgeclr f v k s = .next t ∧ Keep fr s0 t := by
  unfold execFanAgeclr
  refine ⟨_, rfl, ?_⟩
  try dsimp only
  repeat' first | exact sub_of hp rfl | (with_reducible first | assumption | apply answer_keep | apply gated_keep | apply writeAgeclr_keep | refine pair_keep (by assumption) ?_) | split | intro _

theorem execThermTrip_keep {fr : List Part} {s0 : State} (low : Bool) (sfault : Bool) (sensor : Int) (s : State) (hs : Keep fr s0 s) (hp : sub [.sys, .log, .mon, .fan] fr = true := by exact sub_of ‹sub _ _ = true› rfl) : ∃ t, execThermTrip low sfault sensor s = .next t ∧ Keep fr s0 t := by
  unfold execThermTrip
  refine ⟨_, rfl, ?_⟩
  try dsimp only
  repeat' first | exact sub_of hp rfl | (with_reducible first | assumption | apply onFan_keep | apply emit_keep | refine pair_keep (by assumption) ?_) | split | intro _

theorem setChan_keep {fr : List Part} {s0 : State} (s : State) (c : GnsCh) (f : Chan → Chan) (hs : Keep fr s0 s) (hp : sub [.gns] fr = true := by exact sub_of ‹sub _ _ = true› rfl) : Keep fr s0 (State.setChan s c f) := by
  unfold State.setChan
  try dsimp only
  repeat' first | exact sub_of hp rfl | (with_reducible first | assumption | apply onGns_keep | refine pair_keep (by assumption) ?_) | split | intro _

theorem gnssStart_keep {fr : List Part} {s0 : State} (s : State) (above : List Nat) (cold : Bool) (hs : Keep fr s0 s) (hp : sub [.gns] fr = true := by exact sub_of ‹sub _ _ = true› rfl) : Keep fr s0 (State.gnssStart s above cold) := by
  unfold State.gnssStart
  try dsimp only
  repeat' first | exact sub_of hp rfl | (with_reducible first | assumption | apply onGns_keep | refine pair_keep (by assumption) ?_) | split | intro _

theorem cmdGns_keep {fr : List Part} {s0 : State} (s : State) (above : List Nat) (cold : Bool) (hs : Keep fr s0 s) (hp : sub [.gns] fr = true := by exact sub_of ‹sub _ _ = true› rfl) : Keep fr s0 (State.cmdGns s above cold).1 := by
  unfold State.cmdGns
  try dsimp only
  repeat' first | exact sub_of hp rfl | (with_reducible first | assumption | apply gnssStart_keep | refine pair_keep (by assumption) ?_) | split | intro _

theorem execGnssRestart_keep {fr : List Part} {s0 : State} (above : List Nat) (k : SessId) (s : State) (hs : Keep fr s0 s) (hp : sub [.sys, .gns, .hie, .mon] fr = true := by exact sub_of ‹sub _ _ = true› rfl) : ∃ t, execGnssRestart above k s = .next t ∧ Keep fr s0 t := by
  unfold execGnssRestart
  refine ⟨_, rfl, ?_⟩
  try dsimp only
  repeat' first | exact sub_of hp rfl | (with_reducible first | assumption | apply gated_keep | apply cmdGns_keep | refine pair_keep (by assumption) ?_) | split | intro _

theorem execGnssCold_keep {fr : List Part} {s0 : State} (k : SessId) (s : State) (hs : Keep fr s0 s) (hp : sub [.sys, .gns, .hie, .mon] fr = true := by exact sub_of ‹sub _ _ = true› rfl) : ∃ t, execGnssCold k s = .next t ∧ Keep fr s0 t := by
  unfold execGnssCold
  refine ⟨_, rfl, ?_⟩
  try dsimp only
  repeat' first | exact sub_of hp rfl | (with_reducible first | assumption | apply gated_keep | apply cmdGns_keep | refine pair_keep (by assumption) ?_) | split | intro _

theorem writeGnsCtrl_keep {fr : List Part} {s0 : State} (s : State) (v : Word) (hs : Keep fr s0 s) (hp : sub [.gns] fr = true := by exact sub_of ‹sub _ _ = true› rfl) : Keep fr s0 (State.writeGnsCtrl s v).1 := by
  unfold State.writeGnsCtrl
  try dsimp only
  repeat' first | exact sub_of hp rfl | (with_reducible first | assumption | apply onGns_keep | refine pair_keep (by assumption) ?_) | split | intro _

theorem execGnssRateWrite_keep {fr : List Part} {s0 : State} (v : Word) (k : SessId) (s : State) (hs : Keep fr s0 s) (hp : sub [.sys, .gns, .hie, .mon] fr = true := by exact sub_of ‹sub _ _ = true› rfl) : ∃ t, execGnssRateWrite v k s = .next t ∧ Keep fr s0 t := by
  unfold execGnssRateWrite
  refine ⟨_, rfl, ?_⟩
  try dsimp only
  repeat' first | exact sub_of hp rfl | (with_reducible first | assumption | apply gated_keep | apply writeGnsCtrl_keep | refine pair_keep (by assumption) ?_) | split | intro _

theorem chanGoes_keep {fr : List Part} {s0 : State} (s : State) (c : GnsCh) (froms : List ChanStatus) (to_ : ChanStatus) (hs : Keep fr s0 s) (hp : sub [.gns] fr = true := by exact sub_of ‹sub _ _ = true› rfl) : Keep fr s0 (State.chanGoes s c froms to_) := by
  unfold State.chanGoes
  try dsimp only
  repeat' first | exact sub_of hp rfl | (with_reducible first | assumption | apply setChan_keep | refine pair_keep (by assumption) ?_) | split | intro _

theorem execChannelAssign_keep {fr : List Part} {s0 : State} (c : GnsCh) (prn : Nat) (s : State) (hs : Keep fr s0 s) (hp : sub [.gns] fr = true := by exact sub_of ‹sub _ _ = true› rfl) : ∃ t, execChannelAssign c prn s = .next t ∧ Keep fr s0 t := by
  unfold execChannelAssign
  refine ⟨_, rfl, ?_⟩
  try dsimp only
  repeat' first | exact sub_of hp rfl | (with_reducible first | assumption | apply setChan_keep | refine pair_keep (by assumption) ?_) | split | intro _

theorem chanIdle_keep {fr : List Part} {s0 : State} (s : State) (c : GnsCh) (hs : Keep fr s0 s) (hp : sub [.gns] fr = true := by exact sub_of ‹sub _ _ = true› rfl) : Keep fr s0 (State.chanIdle s c) := by
  unfold State.chanIdle
  try dsimp only
  repeat' first | exact sub_of hp rfl | (with_reducible first | assumption | apply setChan_keep | refine pair_keep (by assumption) ?_) | split | intro _

theorem execSearchEnd_keep {fr : List Part} {s0 : State} (c : GnsCh) (found : Bool) (s : State) (hs : Keep fr s0 s) (hp : sub [.gns] fr = true := by exact sub_of ‹sub _ _ = true› rfl) : ∃ t, execSearchEnd c found s = .next t ∧ Keep fr s0 t := by
  unfold execSearchEnd
  refine ⟨_, rfl, ?_⟩
  try dsimp only
  repeat' first | exact sub_of hp rfl | (with_reducible first | assumption | apply chanGoes_keep | apply chanIdle_keep | refine pair_keep (by assumption) ?_) | split | intro _

theorem execPullinEnd_keep {fr : List Part} {s0 : State} (c : GnsCh) (locked : Bool) (s : State) (hs : Keep fr s0 s) (hp : sub [.gns] fr = true := by exact sub_of ‹sub _ _ = true› rfl) : ∃ t, execPullinEnd c locked s = .next t ∧ Keep fr s0 t := by
  unfold execPullinEnd
  refine ⟨_, rfl, ?_⟩
  try dsimp only
  repeat' first | exact sub_of hp rfl | (with_reducible first | assumption | apply chanGoes_keep | refine pair_keep (by assumption) ?_) | split | intro _

theorem execBitSync_keep {fr : List Part} {s0 : State} (c : GnsCh) (s : State) (hs : Keep fr s0 s) (hp : sub [.gns] fr = true := by exact sub_of ‹sub _ _ = true› rfl) : ∃ t, execBitSync c s = .next t ∧ Keep fr s0 t := by
  unfold execBitSync
  refine ⟨_, rfl, ?_⟩
  try dsimp only
  repeat' first | exact sub_of hp rfl | (with_reducible first | assumption | apply chanGoes_keep | refine pair_keep (by assumption) ?_) | split | intro _

theorem execPreambleConfirmed_keep {fr : List Part} {s0 : State} (c : GnsCh) (inverted : Bool) (s : State) (hs : Keep fr s0 s) (hp : sub [.gns] fr = true := by exact sub_of ‹sub _ _ = true› rfl) : ∃ t, execPreambleConfirmed c inverted s = .next t ∧ Keep fr s0 t := by
  unfold execPreambleConfirmed
  refine ⟨_, rfl, ?_⟩
  try dsimp only
  repeat' first | exact sub_of hp rfl | (with_reducible first | assumption | apply setChan_keep | refine pair_keep (by assumption) ?_) | split | intro _

theorem execReacqEntry_keep {fr : List Part} {s0 : State} (c : GnsCh) (s : State) (hs : Keep fr s0 s) (hp : sub [.gns] fr = true := by exact sub_of ‹sub _ _ = true› rfl) : ∃ t, execReacqEntry c s = .next t ∧ Keep fr s0 t := by
  unfold execReacqEntry
  refine ⟨_, rfl, ?_⟩
  try dsimp only
  repeat' first | exact sub_of hp rfl | (with_reducible first | assumption | apply chanGoes_keep | refine pair_keep (by assumption) ?_) | split | intro _

theorem execReacqEnd_keep {fr : List Part} {s0 : State} (c : GnsCh) (found : Bool) (s : State) (hs : Keep fr s0 s) (hp : sub [.gns] fr = true := by exact sub_of ‹sub _ _ = true› rfl) : ∃ t, execReacqEnd c found s = .next t ∧ Keep fr s0 t := by
  unfold execReacqEnd
  refine ⟨_, rfl, ?_⟩
  try dsimp only
  repeat' first | exact sub_of hp rfl | (with_reducible first | assumption | apply chanGoes_keep | apply chanIdle_keep | refine pair_keep (by assumption) ?_) | split | intro _

theorem slotRested_keep {fr : List Part} {s0 : State} (s : State) (n : SlotId) (hs : Keep fr s0 s) (hp : sub [.eng] fr = true := by exact sub_of ‹sub _ _ = true› rfl) : Keep fr s0 (State.slotRested s n) := by
  unfold State.slotRested
  try dsimp only
  repeat' first | exact sub_of hp rfl | (with_reducible first | assumption | apply onEng_keep | refine pair_keep (by assumption) ?_) | split | intro _

theorem execGnssChannelFault_keep {fr : List Part} {s0 : State} (c : GnsCh) (s : State) (hs : Keep fr s0 s) (hp : sub [.sys, .log, .gns, .mon, .eng] fr = true := by exact sub_of ‹sub _ _ = true› rfl) : ∃ t, execGnssChannelFault c s = .next t ∧ Keep fr s0 t := by
  unfold execGnssChannelFault
  refine ⟨_, rfl, ?_⟩
  try dsimp only
  repeat' first | exact sub_of hp rfl | (with_reducible first | assumption | apply timeEmit_keep | apply setChan_keep | apply chanIdle_keep | apply slotRested_keep | refine pair_keep (by assumption) ?_) | split | intro _

theorem execGnssAntFault_keep {fr : List Part} {s0 : State} (short : Bool) (i : Nat) (v : Nat) (s : State) (hs : Keep fr s0 s) (hp : sub [.sys, .log, .tmb, .gns, .mon] fr = true := by exact sub_of ‹sub _ _ = true› rfl) : ∃ t, execGnssAntFault short i v s = .next t ∧ Keep fr s0 t := by
  unfold execGnssAntFault
  refine ⟨_, rfl, ?_⟩
  try dsimp only
  repeat' first | exact sub_of hp rfl | (with_reducible first | assumption | apply onGns_keep | apply timeEmit_keep | apply loseSource_keep | refine pair_keep (by assumption) ?_) | split | intro _

theorem antEnds_keep {fr : List Part} {s0 : State} (s : State) (i : Nat) (v : Nat) (hs : Keep fr s0 s) (hp : sub [.sys, .log, .gns, .mon] fr = true := by exact sub_of ‹sub _ _ = true› rfl) : Keep fr s0 (State.antEnds s i v) := by
  unfold State.antEnds
  try dsimp only
  repeat' first | exact sub_of hp rfl | (with_reducible first | assumption | apply onGns_keep | apply timeEmit_keep | refine pair_keep (by assumption) ?_) | split | intro _

theorem execAntBiasRetry_keep {fr : List Part} {s0 : State} (i : Nat) (v : Nat) (s : State) (hs : Keep fr s0 s) (hp : sub [.sys, .log, .gns, .mon] fr = true := by exact sub_of ‹sub _ _ = true› rfl) : ∃ t, execAntBiasRetry i v s = .next t ∧ Keep fr s0 t := by
  unfold execAntBiasRetry
  refine ⟨_, rfl, ?_⟩
  try dsimp only
  repeat' first | exact sub_of hp rfl | (with_reducible first | assumption | apply onGns_keep | apply antEnds_keep | refine pair_keep (by assumption) ?_) | split | intro _

theorem execGnssAntFaultEnded_keep {fr : List Part} {s0 : State} (i : Nat) (v : Nat) (s : State) (hs : Keep fr s0 s) (hp : sub [.sys, .log, .gns, .mon] fr = true := by exact sub_of ‹sub _ _ = true› rfl) : ∃ t, execGnssAntFaultEnded i v s = .next t ∧ Keep fr s0 t := by
  unfold execGnssAntFaultEnded
  refine ⟨_, rfl, ?_⟩
  try dsimp only
  repeat' first | exact sub_of hp rfl | (with_reducible first | assumption | apply antEnds_keep | refine pair_keep (by assumption) ?_) | split | intro _

theorem execDutyWindow_keep {fr : List Part} {s0 : State} (opens : Bool) (s : State) (hs : Keep fr s0 s) (hp : sub [.gns] fr = true := by exact sub_of ‹sub _ _ = true› rfl) : ∃ t, execDutyWindow opens s = .next t ∧ Keep fr s0 t := by
  unfold execDutyWindow
  refine ⟨_, rfl, ?_⟩
  try dsimp only
  repeat' first | exact sub_of hp rfl | (with_reducible first | assumption | apply onGns_keep | refine pair_keep (by assumption) ?_) | split | intro _

theorem pushQ11_keep {fr : List Part} {s0 : State} (s : State) (es : List (List Byte)) (hs : Keep fr s0 s) (hp : sub [.sys, .gns] fr = true := by exact sub_of ‹sub _ _ = true› rfl) : Keep fr s0 (State.pushQ11 s es) := by
  unfold State.pushQ11
  try dsimp only
  repeat' first | exact sub_of hp rfl | (with_reducible first | assumption | apply onGns_keep | apply noteFill_keep | refine pair_keep (by assumption) ?_) | split | intro _

theorem execMeasurementEpoch_keep {fr : List Part} {s0 : State} (ms : List GnsMeas) (s : State) (hs : Keep fr s0 s) (hp : sub [.sys, .gns] fr = true := by exact sub_of ‹sub _ _ = true› rfl) : ∃ t, execMeasurementEpoch ms s = .next t ∧ Keep fr s0 t := by
  unfold execMeasurementEpoch
  refine ⟨_, rfl, ?_⟩
  try dsimp only
  repeat' first | exact sub_of hp rfl | (with_reducible first | assumption | apply onGns_keep | apply noteOvf_keep | apply setChan_keep | apply pushQ11_keep | apply foldl_keep | apply foldl_fst_keep | refine pair_keep (by assumption) ?_) | split | intro _

theorem learnWord_keep {fr : List Part} {s0 : State} (s : State) (c : GnsCh) (w : NavWord) (hs : Keep fr s0 s) (hp : sub [.gns] fr = true := by exact sub_of ‹sub _ _ = true› rfl) : Keep fr s0 (State.learnWord s c w) := by
  unfold State.learnWord
  try dsimp only
  repeat' first | exact sub_of hp rfl | (with_reducible first | assumption | apply onGns_keep | refine pair_keep (by assumption) ?_) | split | intro _

theorem execNavWord_keep {fr : List Part} {s0 : State} (c : GnsCh) (w : NavWord) (s : State) (hs : Keep fr s0 s) (hp : sub [.sys, .gns] fr = true := by exact sub_of ‹sub _ _ = true› rfl) : ∃ t, execNavWord c w s = .next t ∧ Keep fr s0 t := by
  unfold execNavWord
  refine ⟨_, rfl, ?_⟩
  try dsimp only
  repeat' first | exact sub_of hp rfl | (with_reducible first | assumption | apply onGns_keep | apply noteOvf_keep | apply pushQ11_keep | apply learnWord_keep | refine pair_keep (by assumption) ?_) | split | intro _

theorem fixMade_keep {fr : List Part} {s0 : State} (s : State) (n : Nat) (hs : Keep fr s0 s) (hp : sub [.sys, .log, .gns, .mon] fr = true := by exact sub_of ‹sub _ _ = true› rfl) : Keep fr s0 (State.fixMade s n) := by
  unfold State.fixMade
  try dsimp only
  repeat' first | exact sub_of hp rfl | (with_reducible first | assumption | apply onGns_keep | apply timeEmit_keep | refine pair_keep (by assumption) ?_) | split | intro _

theorem execPvtSolution_keep {fr : List Part} {s0 : State} (v : Fix) (s : State) (hs : Keep fr s0 s) (hp : sub [.sys, .log, .gns, .mon, .sct] fr = true := by exact sub_of ‹sub _ _ = true› rfl) : ∃ t, execPvtSolution v s = .next t ∧ Keep fr s0 t := by
  unfold execPvtSolution
  refine ⟨_, rfl, ?_⟩
  try dsimp only
  repeat' first | exact sub_of hp rfl | (with_reducible first | assumption | apply onGns_keep | apply draw_keep | apply pushSolution_keep | apply fixMade_keep | refine pair_keep (by assumption) ?_) | split | intro _

theorem execGnssFixLost_keep {fr : List Part} {s0 : State} (s : State) (hs : Keep fr s0 s) (hp : sub [.sys, .log, .gns, .mon] fr = true := by exact sub_of ‹sub _ _ = true› rfl) : ∃ t, execGnssFixLost s = .next t ∧ Keep fr s0 t := by
  unfold execGnssFixLost
  refine ⟨_, rfl, ?_⟩
  try dsimp only
  repeat' first | exact sub_of hp rfl | (with_reducible first | assumption | apply onGns_keep | apply timeEmit_keep | refine pair_keep (by assumption) ?_) | split | intro _

theorem execGnssPositionSave_keep {fr : List Part} {s0 : State} (s : State) (hs : Keep fr s0 s) (hp : sub [.gns] fr = true := by exact sub_of ‹sub _ _ = true› rfl) : ∃ t, execGnssPositionSave s = .next t ∧ Keep fr s0 t := by
  unfold execGnssPositionSave
  refine ⟨_, rfl, ?_⟩
  try dsimp only
  repeat' first | exact sub_of hp rfl | (with_reducible first | assumption | apply onGns_keep | refine pair_keep (by assumption) ?_) | split | intro _

theorem setGrid_keep {fr : List Part} {s0 : State} (s : State) (r : Running) (hs : Keep fr s0 s) (hp : sub [.ports] fr = true := by exact sub_of ‹sub _ _ = true› rfl) : Keep fr s0 (State.setGrid s r) := by
  unfold State.setGrid
  try dsimp only
  repeat' first | exact sub_of hp rfl | (with_reducible first | assumption | apply setPorts_keep | refine pair_keep (by assumption) ?_) | split | intro _

theorem joinHere_keep {fr : List Part} {s0 : State} (s : State) (r : Running) (hs : Keep fr s0 s) (hp : sub [.sys, .ports, .hie] fr = true := by exact sub_of ‹sub _ _ = true› rfl) : Keep fr s0 (State.joinHere s r).1 := by
  unfold State.joinHere
  try dsimp only
  repeat' first | exact sub_of hp rfl | (with_reducible first | assumption | apply onHie_keep | apply reserve_keep | apply setGrid_keep | refine pair_keep (by assumption) ?_) | split | intro _ | exact fun x hx => hx

theorem refuseMember_keep {fr : List Part} {s0 : State} (s : State) (g : LgId) (m : Fin 32) (st : Status) (hs : Keep fr s0 s) (hp : sub [.sys, .log, .hie, .mon] fr = true := by exact sub_of ‹sub _ _ = true› rfl) : Keep fr s0 (State.refuseMember s g m st) := by
  unfold State.refuseMember
  try dsimp only
  repeat' first | exact sub_of hp rfl | (with_reducible first | assumption | apply hieEmit_keep | apply setLg_keep | refine pair_keep (by assumption) ?_) | split | intro _

theorem startHere_keep {fr : List Part} {s0 : State} (s : State) (g : LgId) (startB : Nat) (hs : Keep fr s0 s) (hp : sub [.sys, .ports, .log, .hie, .mon] fr = true := by exact sub_of ‹sub _ _ = true› rfl) : Keep fr s0 (State.startHere s g startB) := by
  unfold State.startHere
  try dsimp only
  repeat' first | exact sub_of hp rfl | (with_reducible first | assumption | apply joinHere_keep | apply refuseMember_keep | apply foldl_keep | apply foldl_fst_keep | refine pair_keep (by assumption) ?_) | split | intro _

theorem sendStop_keep {fr : List Part} {s0 : State} (s : State) (g : LgId) (a : Nat) (b : Nat) (hs : Keep fr s0 s) (hp : sub [.sys, .hie] fr = true := by exact sub_of ‹sub _ _ = true› rfl) : Keep fr s0 (State.sendStop s g a b) := by
  unfold State.sendStop
  try dsimp only
  repeat' first | exact sub_of hp rfl | (with_reducible first | assumption | apply send_keep | refine pair_keep (by assumption) ?_) | split | intro _

theorem sendDesc_keep {fr : List Part} {s0 : State} (s : State) (g : LgId) (a : Nat) (startB : Nat) (ms : List (Fin 32)) (hs : Keep fr s0 s) (hp : sub [.sys, .hie] fr = true := by exact sub_of ‹sub _ _ = true› rfl) : Keep fr s0 (State.sendDesc s g a startB ms).1 := by
  unfold State.sendDesc
  try dsimp only
  repeat' first | exact sub_of hp rfl | (with_reducible first | assumption | apply send_keep | apply sendStop_keep | refine pair_keep (by assumption) ?_) | split | intro _

theorem startFar_keep {fr : List Part} {s0 : State} (s : State) (g : LgId) (startB : Nat) (hs : Keep fr s0 s) (hp : sub [.sys, .hie] fr = true := by exact sub_of ‹sub _ _ = true› rfl) : Keep fr s0 (State.startFar s g startB) := by
  unfold State.startFar
  try dsimp only
  repeat' first | exact sub_of hp rfl | (with_reducible first | assumption | apply setLg_keep | apply sendDesc_keep | apply foldl_keep | apply foldl_fst_keep | refine pair_keep (by assumption) ?_) | split | intro _

theorem lgBegin_keep {fr : List Part} {s0 : State} (s : State) (g : LgId) (startB : Nat) (hs : Keep fr s0 s) (hp : sub [.sys, .ports, .log, .hie, .mon] fr = true := by exact sub_of ‹sub _ _ = true› rfl) : Keep fr s0 (State.lgBegin s g startB) := by
  unfold State.lgBegin
  try dsimp only
  repeat' first | exact sub_of hp rfl | (with_reducible first | assumption | apply setLg_keep | apply startHere_keep | apply startFar_keep | refine pair_keep (by assumption) ?_) | split | intro _

theorem cmdLgStart_keep {fr : List Part} {s0 : State} (s : State) (g : LgId) (hs : Keep fr s0 s) (hp : sub [.sys, .ports, .log, .hie, .mon] fr = true := by exact sub_of ‹sub _ _ = true› rfl) : Keep fr s0 (State.cmdLgStart s g).1 := by
  unfold State.cmdLgStart
  try dsimp only
  repeat' first | exact sub_of hp rfl | (with_reducible first | assumption | apply setLg_keep | apply lgBegin_keep | refine pair_keep (by assumption) ?_) | split | intro _

theorem stopHere_keep {fr : List Part} {s0 : State} (s : State) (g : LgId) (stopB : Nat) (hs : Keep fr s0 s) (hp : sub [.hie] fr = true := by exact sub_of ‹sub _ _ = true› rfl) : Keep fr s0 (State.stopHere s g stopB) := by
  unfold State.stopHere
  try dsimp only
  repeat' first | exact sub_of hp rfl | (with_reducible first | assumption | apply onHie_keep | refine pair_keep (by assumption) ?_) | split | intro _ | exact fun x hx => hx

theorem cmdLgStop_keep {fr : List Part} {s0 : State} (s : State) (g : LgId) (hs : Keep fr s0 s) (hp : sub [.sys, .hie] fr = true := by exact sub_of ‹sub _ _ = true› rfl) : Keep fr s0 (State.cmdLgStop s g).1 := by
  unfold State.cmdLgStop
  try dsimp only
  repeat' first | exact sub_of hp rfl | (with_reducible first | assumption | apply setLg_keep | apply sendStop_keep | apply stopHere_keep | apply foldl_keep | apply foldl_fst_keep | refine pair_keep (by assumption) ?_) | split | intro _

theorem lgGated_keep {fr : List Part} {s0 : State} (s : State) (g : LgId) (src : Src) (go : State → State × Status) (hs : Keep fr s0 s) (hgo : ∀ s, Keep fr s0 s → Keep fr s0 (go s).1) (hp : sub [.sys, .hie, .mon] fr = true := by exact sub_of ‹sub _ _ = true› rfl) : Keep fr s0 (State.lgGated s g src go) := by
  unfold State.lgGated
  try dsimp only
  repeat' first | exact sub_of hp rfl | (with_reducible first | assumption | apply answer_keep | apply hgo | refine pair_keep (by assumption) ?_) | split | intro _

theorem execLgStart_keep {fr : List Part} {s0 : State} (g : LgId) (src : Src) (s : State) (hs : Keep fr s0 s) (hp : sub [.sys, .ports, .log, .hie, .mon] fr = true := by exact sub_of ‹sub _ _ = true› rfl) : ∃ t, execLgStart g src s = .next t ∧ Keep fr s0 t := by
  unfold execLgStart
  refine ⟨_, rfl, ?_⟩
  try dsimp only
  repeat' first | exact sub_of hp rfl | (with_reducible first | assumption | apply cmdLgStart_keep | apply lgGated_keep | refine pair_keep (by assumption) ?_) | split | intro _

theorem execLgStopCmd_keep {fr : List Part} {s0 : State} (g : LgId) (src : Src) (s : State) (hs : Keep fr s0 s) (hp : sub [.sys, .hie, .mon] fr = true := by exact sub_of ‹sub _ _ = true› rfl) : ∃ t, execLgStopCmd g src s = .next t ∧ Keep fr s0 t := by
  unfold execLgStopCmd
  refine ⟨_, rfl, ?_⟩
  try dsimp only
  repeat' first | exact sub_of hp rfl | (with_reducible first | assumption | apply cmdLgStop_keep | apply lgGated_keep | refine pair_keep (by assumption) ?_) | split | intro _

theorem presentCarriers_keep {fr : List Part} {s0 : State} (s : State) (g : LgId) (on : Bool) (hs : Keep fr s0 s) (hp : sub [.ports] fr = true := by exact sub_of ‹sub _ _ = true› rfl) : Keep fr s0 (State.presentCarriers s g on) := by
  unfold State.presentCarriers
  try dsimp only
  repeat' first | exact sub_of hp rfl | (with_reducible first | assumption | apply setPort_keep | apply settle_keep | apply foldl_keep | apply foldl_fst_keep | refine pair_keep (by assumption) ?_) | split | intro _

theorem execLgStarted_keep {fr : List Part} {s0 : State} (g : LgId) (s : State) (hs : Keep fr s0 s) (hp : sub [.sys, .ports, .log, .hie, .mon] fr = true := by exact sub_of ‹sub _ _ = true› rfl) : ∃ t, execLgStarted g s = .next t ∧ Keep fr s0 t := by
  unfold execLgStarted
  refine ⟨_, rfl, ?_⟩
  try dsimp only
  repeat' first | exact sub_of hp rfl | (with_reducible first | assumption | apply hieEmit_keep | apply setLg_keep | apply presentCarriers_keep | refine pair_keep (by assumption) ?_) | split | intro _

theorem endHere_keep {fr : List Part} {s0 : State} (s : State) (g : LgId) (hs : Keep fr s0 s) (hp : sub [.ports, .hie] fr = true := by exact sub_of ‹sub _ _ = true› rfl) : Keep fr s0 (State.endHere s g) := by
  unfold State.endHere
  try dsimp only
  repeat' first | exact sub_of hp rfl | (with_reducible first | assumption | apply onHie_keep | apply presentCarriers_keep | refine pair_keep (by assumption) ?_) | split | intro _ | exact fun x hx => hx

theorem execLgStopped_keep {fr : List Part} {s0 : State} (g : LgId) (s : State) (hs : Keep fr s0 s) (hp : sub [.sys, .ports, .log, .hie, .mon] fr = true := by exact sub_of ‹sub _ _ = true› rfl) : ∃ t, execLgStopped g s = .next t ∧ Keep fr s0 t := by
  unfold execLgStopped
  refine ⟨_, rfl, ?_⟩
  try dsimp only
  repeat' first | exact sub_of hp rfl | (with_reducible first | assumption | apply hieEmit_keep | apply setLg_keep | apply lgBegin_keep | apply endHere_keep | refine pair_keep (by assumption) ?_) | split | intro _

theorem execLgMemberPlace_keep {fr : List Part} {s0 : State} (g : LgId) (m : Fin 32) (s : State) (hs : Keep fr s0 s) (hp : sub [.sys, .hie, .mon] fr = true := by exact sub_of ‹sub _ _ = true› rfl) : ∃ t, execLgMemberPlace g m s = .next t ∧ Keep fr s0 t := by
  unfold execLgMemberPlace
  refine ⟨_, rfl, ?_⟩
  try dsimp only
  repeat' first | exact sub_of hp rfl | (with_reducible first | assumption | apply onHie_keep | apply answer_keep | apply putEntry_keep | refine pair_keep (by assumption) ?_) | split | intro _ | exact fun x hx => hx

theorem execLgMemberJoined_keep {fr : List Part} {s0 : State} (g : LgId) (m : Fin 32) (s : State) (hs : Keep fr s0 s) (hp : sub [.sys, .log, .hie, .mon] fr = true := by exact sub_of ‹sub _ _ = true› rfl) : ∃ t, execLgMemberJoined g m s = .next t ∧ Keep fr s0 t := by
  unfold execLgMemberJoined
  refine ⟨_, rfl, ?_⟩
  try dsimp only
  repeat' first | exact sub_of hp rfl | (with_reducible first | assumption | apply hieEmit_keep | apply setLg_keep | apply sendDesc_keep | refine pair_keep (by assumption) ?_) | split | intro _

theorem unknownSender_keep {fr : List Part} {s0 : State} (s : State) (sender : Nat) (hs : Keep fr s0 s) (hp : sub [.sys, .log, .hie, .mon] fr = true := by exact sub_of ‹sub _ _ = true› rfl) : Keep fr s0 (State.unknownSender s sender) := by
  unfold State.unknownSender
  try dsimp only
  repeat' first | exact sub_of hp rfl | (with_reducible first | assumption | apply onHie_keep | apply hieEmit_keep | refine pair_keep (by assumption) ?_) | split | intro _ | exact fun x hx => hx

theorem fromKnown_keep {fr : List Part} {s0 : State} (s : State) (sender : Nat) (go : State → State) (hs : Keep fr s0 s) (hgo : ∀ s, Keep fr s0 s → Keep fr s0 (go s)) (hp : sub [.sys, .log, .hie, .mon] fr = true := by exact sub_of ‹sub _ _ = true› rfl) : Keep fr s0 (State.fromKnown s sender go) := by
  unfold State.fromKnown
  try dsimp only
  repeat' first | exact sub_of hp rfl | (with_reducible first | assumption | apply onHie_keep | apply unknownSender_keep | apply hgo | refine pair_keep (by assumption) ?_) | split | intro _ | exact fun x hx => hx

theorem execHeartbeatSend_keep {fr : List Part} {s0 : State} (s : State) (hs : Keep fr s0 s) (hp : sub [.sys, .hie] fr = true := by exact sub_of ‹sub _ _ = true› rfl) : ∃ t, execHeartbeatSend s = .next t ∧ Keep fr s0 t := by
  unfold execHeartbeatSend
  refine ⟨_, rfl, ?_⟩
  try dsimp only
  repeat' first | exact sub_of hp rfl | (with_reducible first | assumption | apply send_keep | refine pair_keep (by assumption) ?_) | split | intro _

theorem heard_keep {fr : List Part} {s0 : State} (s : State) (sender : Nat) (b : List Byte) (hs : Keep fr s0 s) (hp : sub [.hie] fr = true := by exact sub_of ‹sub _ _ = true› rfl) : Keep fr s0 (State.heard s sender b) := by
  unfold State.heard
  try dsimp only
  repeat' first | exact sub_of hp rfl | (with_reducible first | assumption | apply onHie_keep | apply setWorker_keep | refine pair_keep (by assumption) ?_) | split | intro _ | exact fun x hx => hx

theorem rxHeartbeat_keep {fr : List Part} {s0 : State} (s : State) (sender : Nat) (b : List Byte) (hs : Keep fr s0 s) (hp : sub [.sys, .log, .hie, .mon] fr = true := by exact sub_of ‹sub _ _ = true› rfl) : Keep fr s0 (State.rxHeartbeat s sender b) := by
  unfold State.rxHeartbeat
  try dsimp only
  repeat' first | exact sub_of hp rfl | (with_reducible first | assumption | apply onHie_keep | apply hieEmit_keep | apply fromKnown_keep | apply heard_keep | refine pair_keep (by assumption) ?_) | split | intro _ | exact fun x hx => hx

theorem execHeartbeat_keep {fr : List Part} {s0 : State} (sender : Nat) (b : List Byte) (s : State) (hs : Keep fr s0 s) (hp : sub [.sys, .log, .hie, .mon] fr = true := by exact sub_of ‹sub _ _ = true› rfl) : ∃ t, execHeartbeat sender b s = .next t ∧ Keep fr s0 t := by
  unfold execHeartbeat
  refine ⟨_, rfl, ?_⟩
  try dsimp only
  repeat' first | exact sub_of hp rfl | (with_reducible first | assumption | apply rxHeartbeat_keep | refine pair_keep (by assumption) ?_) | split | intro _

theorem forMe_keep {fr : List Part} {s0 : State} (s : State) (sender : Nat) (b : List Byte) (port : Nat) (go : State → State) (hs : Keep fr s0 s) (hgo : ∀ s, Keep fr s0 s → Keep fr s0 (go s)) (hp : sub [.sys, .log, .hie, .mon] fr = true := by exact sub_of ‹sub _ _ = true› rfl) : Keep fr s0 (State.forMe s sender b port go) := by
  unfold State.forMe
  try dsimp only
  repeat' first | exact sub_of hp rfl | (with_reducible first | assumption | apply cmdDone_keep | apply fromKnown_keep | apply hgo | refine pair_keep (by assumption) ?_) | split | intro _

theorem queueTimed_keep {fr : List Part} {s0 : State} (s : State) (e : EntryId) (c : Timed) (hs : Keep fr s0 s) (hp : sub [.sys, .hie, .mon] fr = true := by exact sub_of ‹sub _ _ = true› rfl) : Keep fr s0 (State.queueTimed s e c) := by
  unfold State.queueTimed
  try dsimp only
  repeat' first | exact sub_of hp rfl | (with_reducible first | assumption | apply answer_keep | apply putEntry_keep | refine pair_keep (by assumption) ?_) | split | intro _

theorem rxTimed_keep {fr : List Part} {s0 : State} (s : State) (sender : Nat) (b : List Byte) (hs : Keep fr s0 s) (hp : sub [.sys, .ports, .sol, .log, .hie, .mon] fr = true := by exact sub_of ‹sub _ _ = true› rfl) : Keep fr s0 (State.rxTimed s sender b) := by
  unfold State.rxTimed
  try dsimp only
  repeat' first | exact sub_of hp rfl | (with_reducible first | assumption | apply noteOvf_keep | apply answer_keep | apply presentOn_keep | apply presentOff_keep | apply presented_keep | apply forMe_keep | apply queueTimed_keep | refine pair_keep (by assumption) ?_) | split | intro _

theorem execTimedCmd_keep {fr : List Part} {s0 : State} (sender : Nat) (b : List Byte) (s : State) (hs : Keep fr s0 s) (hp : sub [.sys, .ports, .sol, .log, .hie, .mon] fr = true := by exact sub_of ‹sub _ _ = true› rfl) : ∃ t, execTimedCmd sender b s = .next t ∧ Keep fr s0 t := by
  unfold execTimedCmd
  refine ⟨_, rfl, ?_⟩
  try dsimp only
  repeat' first | exact sub_of hp rfl | (with_reducible first | assumption | apply rxTimed_keep | refine pair_keep (by assumption) ?_) | split | intro _

theorem rxReserve_keep {fr : List Part} {s0 : State} (s : State) (sender : Nat) (b : List Byte) (hs : Keep fr s0 s) (hp : sub [.sys, .log, .hie, .mon] fr = true := by exact sub_of ‹sub _ _ = true› rfl) : Keep fr s0 (State.rxReserve s sender b) := by
  unfold State.rxReserve
  try dsimp only
  repeat' first | exact sub_of hp rfl | (with_reducible first | assumption | apply cmdDone_keep | apply setEntry_keep | apply reserve_keep | apply forMe_keep | refine pair_keep (by assumption) ?_) | split | intro _

theorem execReserve_keep {fr : List Part} {s0 : State} (sender : Nat) (b : List Byte) (s : State) (hs : Keep fr s0 s) (hp : sub [.sys, .log, .hie, .mon] fr = true := by exact sub_of ‹sub _ _ = true› rfl) : ∃ t, execReserve sender b s = .next t ∧ Keep fr s0 t := by
  unfold execReserve
  refine ⟨_, rfl, ?_⟩
  try dsimp only
  repeat' first | exact sub_of hp rfl | (with_reducible first | assumption | apply rxReserve_keep | refine pair_keep (by assumption) ?_) | split | intro _

theorem rxDesc_keep {fr : List Part} {s0 : State} (s : State) (sender : Nat) (b : List Byte) (hs : Keep fr s0 s) (hp : sub [.sys, .ports, .log, .hie, .mon] fr = true := by exact sub_of ‹sub _ _ = true› rfl) : Keep fr s0 (State.rxDesc s sender b) := by
  unfold State.rxDesc
  try dsimp only
  repeat' first | exact sub_of hp rfl | (with_reducible first | assumption | apply cmdDone_keep | apply joinHere_keep | apply forMe_keep | apply foldl_keep | apply foldl_fst_keep | refine pair_keep (by assumption) ?_) | split | intro _

theorem execLgDesc_keep {fr : List Part} {s0 : State} (sender : Nat) (b : List Byte) (s : State) (hs : Keep fr s0 s) (hp : sub [.sys, .ports, .log, .hie, .mon] fr = true := by exact sub_of ‹sub _ _ = true› rfl) : ∃ t, execLgDesc sender b s = .next t ∧ Keep fr s0 t := by
  unfold execLgDesc
  refine ⟨_, rfl, ?_⟩
  try dsimp only
  repeat' first | exact sub_of hp rfl | (with_reducible first | assumption | apply rxDesc_keep | refine pair_keep (by assumption) ?_) | split | intro _

theorem rxStop_keep {fr : List Part} {s0 : State} (s : State) (sender : Nat) (b : List Byte) (hs : Keep fr s0 s) (hp : sub [.sys, .log, .hie, .mon] fr = true := by exact sub_of ‹sub _ _ = true› rfl) : Keep fr s0 (State.rxStop s sender b) := by
  unfold State.rxStop
  try dsimp only
  repeat' first | exact sub_of hp rfl | (with_reducible first | assumption | apply stopHere_keep | apply fromKnown_keep | refine pair_keep (by assumption) ?_) | split | intro _

theorem execLgStop_keep {fr : List Part} {s0 : State} (sender : Nat) (b : List Byte) (s : State) (hs : Keep fr s0 s) (hp : sub [.sys, .log, .hie, .mon] fr = true := by exact sub_of ‹sub _ _ = true› rfl) : ∃ t, execLgStop sender b s = .next t ∧ Keep fr s0 t := by
  unfold execLgStop
  refine ⟨_, rfl, ?_⟩
  try dsimp only
  repeat' first | exact sub_of hp rfl | (with_reducible first | assumption | apply rxStop_keep | refine pair_keep (by assumption) ?_) | split | intro _

theorem reserveDone_keep {fr : List Part} {s0 : State} (s : State) (sender : Nat) (slot : Nat) (ok : Bool) (hs : Keep fr s0 s) (hp : sub [.sys, .log, .hie, .mon, .sct] fr = true := by exact sub_of ‹sub _ _ = true› rfl) : Keep fr s0 (State.reserveDone s sender slot ok) := by
  unfold State.reserveDone
  try dsimp only
  repeat' first | exact sub_of hp rfl | (with_reducible first | assumption | apply onHie_keep | apply reserveAnswered_keep | refine pair_keep (by assumption) ?_) | split | intro _ | exact fun x hx => hx

theorem memberRefused_keep {fr : List Part} {s0 : State} (s : State) (sender : Nat) (port : Nat) (st : Status) (hs : Keep fr s0 s) (hp : sub [.sys, .log, .hie, .mon] fr = true := by exact sub_of ‹sub _ _ = true› rfl) : Keep fr s0 (State.memberRefused s sender port st) := by
  unfold State.memberRefused
  try dsimp only
  repeat' first | exact sub_of hp rfl | (with_reducible first | assumption | apply refuseMember_keep | apply foldl_keep | apply foldl_fst_keep | refine pair_keep (by assumption) ?_) | split | intro _

theorem rxDone_keep {fr : List Part} {s0 : State} (s : State) (sender : Nat) (b : List Byte) (hs : Keep fr s0 s) (hp : sub [.sys, .log, .hie, .mon, .sct] fr = true := by exact sub_of ‹sub _ _ = true› rfl) : Keep fr s0 (State.rxDone s sender b) := by
  unfold State.rxDone
  try dsimp only
  repeat' first | exact sub_of hp rfl | (with_reducible first | assumption | apply onSct_keep | apply setSect_keep | apply sctEmit_keep | apply sectDone_keep | apply fromKnown_keep | apply reserveDone_keep | apply memberRefused_keep | refine pair_keep (by assumption) ?_) | split | intro _

theorem execCmdDone_keep {fr : List Part} {s0 : State} (sender : Nat) (b : List Byte) (s : State) (hs : Keep fr s0 s) (hp : sub [.sys, .log, .hie, .mon, .sct] fr = true := by exact sub_of ‹sub _ _ = true› rfl) : ∃ t, execCmdDone sender b s = .next t ∧ Keep fr s0 t := by
  unfold execCmdDone
  refine ⟨_, rfl, ?_⟩
  try dsimp only
  repeat' first | exact sub_of hp rfl | (with_reducible first | assumption | apply rxDone_keep | refine pair_keep (by assumption) ?_) | split | intro _

theorem rxDelay_keep {fr : List Part} {s0 : State} (s : State) (sender : Nat) (b : List Byte) (hs : Keep fr s0 s) (hp : sub [.sys, .log, .hie, .mon, .sct] fr = true := by exact sub_of ‹sub _ _ = true› rfl) : Keep fr s0 (State.rxDelay s sender b) := by
  unfold State.rxDelay
  try dsimp only
  repeat' first | exact sub_of hp rfl | (with_reducible first | assumption | apply setSect_keep | apply fromKnown_keep | refine pair_keep (by assumption) ?_) | split | intro _

theorem execDelayTab_keep {fr : List Part} {s0 : State} (sender : Nat) (b : List Byte) (s : State) (hs : Keep fr s0 s) (hp : sub [.sys, .log, .hie, .mon, .sct] fr = true := by exact sub_of ‹sub _ _ = true› rfl) : ∃ t, execDelayTab sender b s = .next t ∧ Keep fr s0 t := by
  unfold execDelayTab
  refine ⟨_, rfl, ?_⟩
  try dsimp only
  repeat' first | exact sub_of hp rfl | (with_reducible first | assumption | apply rxDelay_keep | refine pair_keep (by assumption) ?_) | split | intro _

theorem execDelayTabPeriodicSend_keep {fr : List Part} {s0 : State} (s : State) (hs : Keep fr s0 s) (hp : sub [.sys, .hie, .mon] fr = true := by exact sub_of ‹sub _ _ = true› rfl) : ∃ t, execDelayTabPeriodicSend s = .next t ∧ Keep fr s0 t := by
  unfold execDelayTabPeriodicSend
  try dsimp only
  repeat' first | exact sub_of hp rfl | (with_reducible first | assumption | apply sendTables_keep | refine pair_keep (by assumption) ?_) | split | refine ⟨_, rfl, ?_⟩ | exact fun _ h => h | intro _

theorem dropHeld_keep {fr : List Part} {s0 : State} (s : State) (hs : Keep fr s0 s) (hp : sub [.ports, .hie] fr = true := by exact sub_of ‹sub _ _ = true› rfl) : Keep fr s0 (State.dropHeld s) := by
  unfold State.dropHeld
  try dsimp only
  repeat' first | exact sub_of hp rfl | (with_reducible first | assumption | apply onHie_keep | apply endHere_keep | apply foldl_keep | apply foldl_fst_keep | refine pair_keep (by assumption) ?_) | split | intro _ | exact fun x hx => hx

theorem rxRelease_keep {fr : List Part} {s0 : State} (s : State) (sender : Nat) (b : List Byte) (hs : Keep fr s0 s) (hp : sub [.sys, .ports, .sol, .log, .hie, .mon] fr = true := by exact sub_of ‹sub _ _ = true› rfl) : Keep fr s0 (State.rxRelease s sender b) := by
  unfold State.rxRelease
  try dsimp only
  repeat' first | exact sub_of hp rfl | (with_reducible first | assumption | apply onHie_keep | apply hieEmit_keep | apply orphRelease_keep | apply fromKnown_keep | apply dropHeld_keep | refine pair_keep (by assumption) ?_) | split | intro _ | exact fun x hx => hx

theorem execRelease_keep {fr : List Part} {s0 : State} (sender : Nat) (b : List Byte) (s : State) (hs : Keep fr s0 s) (hp : sub [.sys, .ports, .sol, .log, .hie, .mon] fr = true := by exact sub_of ‹sub _ _ = true› rfl) : ∃ t, execRelease sender b s = .next t ∧ Keep fr s0 t := by
  unfold execRelease
  refine ⟨_, rfl, ?_⟩
  try dsimp only
  repeat' first | exact sub_of hp rfl | (with_reducible first | assumption | apply rxRelease_keep | refine pair_keep (by assumption) ?_) | split | intro _

theorem execWorkerLost_keep {fr : List Part} {s0 : State} (a : Fin 64) (s : State) (hs : Keep fr s0 s) (hp : sub [.sys, .log, .hie, .mon, .sct] fr = true := by exact sub_of ‹sub _ _ = true› rfl) : ∃ t, execWorkerLost a s = .next t ∧ Keep fr s0 t := by
  unfold execWorkerLost
  refine ⟨_, rfl, ?_⟩
  try dsimp only
  repeat' first | exact sub_of hp rfl | (with_reducible first | assumption | apply loseWorker_keep | refine pair_keep (by assumption) ?_) | split | intro _

theorem execManagerLost_keep {fr : List Part} {s0 : State} (s : State) (hs : Keep fr s0 s) (hp : sub [.sys, .ports, .sol, .log, .tmb, .hie, .mon] fr = true := by exact sub_of ‹sub _ _ = true› rfl) : ∃ t, execManagerLost s = .next t ∧ Keep fr s0 t := by
  unfold execManagerLost
  refine ⟨_, rfl, ?_⟩
  try dsimp only
  repeat' first | exact sub_of hp rfl | (with_reducible first | assumption | apply onHie_keep | apply hieEmit_keep | apply orphPresent_keep | apply loseClapper_keep | refine pair_keep (by assumption) ?_) | split | intro _ | exact fun x hx => hx

theorem release_keep {fr : List Part} {s0 : State} (s : State) (a : Fin 64) (hs : Keep fr s0 s) (hp : sub [.sys, .log, .hie, .mon] fr = true := by exact sub_of ‹sub _ _ = true› rfl) : Keep fr s0 (State.release s a).1 := by
  unfold State.release
  try dsimp only
  repeat' first | exact sub_of hp rfl | (with_reducible first | assumption | apply emit_keep | apply send_keep | apply setWorker_keep | refine pair_keep (by assumption) ?_) | split | intro _

theorem execWorkerRelease_keep {fr : List Part} {s0 : State} (a : Fin 64) (s : State) (hs : Keep fr s0 s) (hp : sub [.sys, .log, .hie, .mon] fr = true := by exact sub_of ‹sub _ _ = true› rfl) : ∃ t, execWorkerRelease a s = .next t ∧ Keep fr s0 t := by
  unfold execWorkerRelease
  refine ⟨_, rfl, ?_⟩
  try dsimp only
  repeat' first | exact sub_of hp rfl | (with_reducible first | assumption | apply release_keep | refine pair_keep (by assumption) ?_) | split | intro _

theorem cmdRelease_keep {fr : List Part} {s0 : State} (s : State) (a : Fin 64) (hs : Keep fr s0 s) (hp : sub [.sys, .log, .hie, .mon] fr = true := by exact sub_of ‹sub _ _ = true› rfl) : Keep fr s0 (State.cmdRelease s a).1 := by
  unfold State.cmdRelease
  try dsimp only
  repeat' first | exact sub_of hp rfl | (with_reducible first | assumption | apply release_keep | refine pair_keep (by assumption) ?_) | split | intro _

theorem execHieRelease_keep {fr : List Part} {s0 : State} (a : Fin 64) (k : SessId) (s : State) (hs : Keep fr s0 s) (hp : sub [.sys, .log, .hie, .mon] fr = true := by exact sub_of ‹sub _ _ = true› rfl) : ∃ t, execHieRelease a k s = .next t ∧ Keep fr s0 t := by
  unfold execHieRelease
  refine ⟨_, rfl, ?_⟩
  try dsimp only
  repeat' first | exact sub_of hp rfl | (with_reducible first | assumption | apply gated_keep | apply cmdRelease_keep | refine pair_keep (by assumption) ?_) | split | intro _

theorem sessEmit_keep {fr : List Part} {s0 : State} (s : State) (code : Nat) (k : SessId) (a : Nat) (b : Nat) (hs : Keep fr s0 s) (hp : sub [.sys, .log, .mon] fr = true := by exact sub_of ‹sub _ _ = true› rfl) : Keep fr s0 (State.sessEmit s code k a b) := by
  unfold State.sessEmit
  try dsimp only
  repeat' first | exact sub_of hp rfl | (with_reducible first | assumption | apply emit_keep | refine pair_keep (by assumption) ?_) | split | intro _

theorem secEmit_keep {fr : List Part} {s0 : State} (s : State) (code : Nat) (a : Nat) (b : Nat) (hs : Keep fr s0 s) (hp : sub [.sys, .log, .mon] fr = true := by exact sub_of ‹sub _ _ = true› rfl) : Keep fr s0 (State.secEmit s code a b) := by
  unfold State.secEmit
  try dsimp only
  repeat' first | exact sub_of hp rfl | (with_reducible first | assumption | apply emit_keep | refine pair_keep (by assumption) ?_) | split | intro _

theorem linkSend_keep {fr : List Part} {s0 : State} (s : State) (p : Peer) (bytes : List Byte) (hs : Keep fr s0 s) (hp : sub [.can, .hl] fr = true := by exact sub_of ‹sub _ _ = true› rfl) : Keep fr s0 (State.linkSend s p bytes) := by
  unfold State.linkSend
  try dsimp only
  repeat' first | exact sub_of hp rfl | (with_reducible first | assumption | apply onHl_keep | apply segSend_keep | refine pair_keep (by assumption) ?_) | split | intro _

theorem reject_keep {fr : List Part} {s0 : State} (s : State) (p : Peer) (st : Status) (hs : Keep fr s0 s) (hp : sub [.can, .hl] fr = true := by exact sub_of ‹sub _ _ = true› rfl) : Keep fr s0 (State.reject s p st) := by
  unfold State.reject
  try dsimp only
  repeat' first | exact sub_of hp rfl | (with_reducible first | assumption | apply linkSend_keep | refine pair_keep (by assumption) ?_) | split | intro _

theorem flushFails_keep {fr : List Part} {s0 : State} (s : State) (k : SessId) (hs : Keep fr s0 s) (hp : sub [.sys, .log, .sec, .mon] fr = true := by exact sub_of ‹sub _ _ = true› rfl) : Keep fr s0 (State.flushFails s k) := by
  unfold State.flushFails
  try dsimp only
  repeat' first | exact sub_of hp rfl | (with_reducible first | assumption | apply setSess_keep | apply sessEmit_keep | refine pair_keep (by assumption) ?_) | split | intro _

theorem endSession_keep {fr : List Part} {s0 : State} (s : State) (k : SessId) (cause : Nat) (hs : Keep fr s0 s) (hp : sub [.sys, .log, .sec, .mon, .can, .hl, .apu, .dma] fr = true := by exact sub_of ‹sub _ _ = true› rfl) : Keep fr s0 (State.endSession s k cause) := by
  unfold State.endSession
  try dsimp only
  repeat' first | exact sub_of hp rfl | (with_reducible first | assumption | apply onHl_keep | apply setSess_keep | apply abortAll_keep | apply dropEntries_keep | apply dropOwner_keep | apply sessEmit_keep | apply flushFails_keep | apply foldl_keep | apply foldl_fst_keep | refine pair_keep (by assumption) ?_) | split | intro _

theorem endAll_keep {fr : List Part} {s0 : State} (s : State) (cause : Nat) (hs : Keep fr s0 s) (hp : sub [.sys, .log, .sec, .mon, .can, .hl, .apu, .dma] fr = true := by exact sub_of ‹sub _ _ = true› rfl) : Keep fr s0 (State.endAll s cause) := by
  unfold State.endAll
  try dsimp only
  repeat' first | exact sub_of hp rfl | (with_reducible first | assumption | apply endSession_keep | apply foldl_keep | apply foldl_fst_keep | refine pair_keep (by assumption) ?_) | split | intro _

theorem dropHandshake_keep {fr : List Part} {s0 : State} (s : State) (k : SessId) (hs : Keep fr s0 s) (hp : sub [.sec] fr = true := by exact sub_of ‹sub _ _ = true› rfl) : Keep fr s0 (State.dropHandshake s k) := by
  unfold State.dropHandshake
  try dsimp only
  repeat' first | exact sub_of hp rfl | (with_reducible first | assumption | apply setSess_keep | refine pair_keep (by assumption) ?_) | split | intro _

theorem sessSend_keep {fr : List Part} {s0 : State} (s : State) (k : SessId) (kind : Nat) (body : List Byte) (hs : Keep fr s0 s) (hp : sub [.sys, .log, .sec, .mon, .can, .hl, .apu, .dma] fr = true := by exact sub_of ‹sub _ _ = true› rfl) : Keep fr s0 (State.sessSend s k kind body) := by
  unfold State.sessSend
  try dsimp only
  repeat' first | exact sub_of hp rfl | (with_reducible first | assumption | apply setSess_keep | apply linkSend_keep | apply endSession_keep | refine pair_keep (by assumption) ?_) | split | intro _

theorem frameFails_keep {fr : List Part} {s0 : State} (s : State) (k : SessId) (ctr : Nat) (st : Status) (hs : Keep fr s0 s) (hp : sub [.sys, .log, .sec, .mon, .can, .hl, .apu, .dma] fr = true := by exact sub_of ‹sub _ _ = true› rfl) : Keep fr s0 (State.frameFails s k ctr st) := by
  unfold State.frameFails
  try dsimp only
  repeat' first | exact sub_of hp rfl | (with_reducible first | assumption | apply onSec_keep | apply setSess_keep | apply count_keep | apply sessSend_keep | refine pair_keep (by assumption) ?_) | split | intro _ | exact ⟨fun _ => Nat.le_refl _, Nat.le_refl _, Nat.le_refl _⟩

theorem malformed_keep {fr : List Part} {s0 : State} (s : State) (hs : Keep fr s0 s) (hp : sub [.sec] fr = true := by exact sub_of ‹sub _ _ = true› rfl) : Keep fr s0 (State.malformed s) := by
  unfold State.malformed
  try dsimp only
  repeat' first | exact sub_of hp rfl | (with_reducible first | assumption | apply onSec_keep | refine pair_keep (by assumption) ?_) | split | intro _ | exact ⟨fun _ => Nat.le_refl _, Nat.le_refl _, Nat.le_refl _⟩

theorem acceptHier_keep {fr : List Part} {s0 : State} (s : State) (sender : Nat) (e : Nat) (ctr : Nat) (hs : Keep fr s0 s) (hp : sub [.sec] fr = true := by exact sub_of ‹sub _ _ = true› rfl) : Keep fr s0 (State.acceptHier s sender e ctr) := by
  unfold State.acceptHier
  try dsimp only
  repeat' first | exact sub_of hp rfl | (with_reducible first | assumption | apply onSec_keep | refine pair_keep (by assumption) ?_) | split | intro _ | exact ⟨fun _ => Nat.le_refl _, Nat.le_refl _, Nat.le_refl _⟩

theorem staleFrame_keep {fr : List Part} {s0 : State} (s : State) (sender : Nat) (low : Nat) (hs : Keep fr s0 s) (hp : sub [.sec] fr = true := by exact sub_of ‹sub _ _ = true› rfl) : Keep fr s0 (State.staleFrame s sender low) := by
  unfold State.staleFrame
  try dsimp only
  repeat' first | exact sub_of hp rfl | (with_reducible first | assumption | apply onSec_keep | refine pair_keep (by assumption) ?_) | split | intro _ | exact ⟨fun _ => Nat.le_refl _, Nat.le_refl _, Nat.le_refl _⟩

theorem joinEpoch_keep {fr : List Part} {s0 : State} (s : State) (e : Nat) (hs : Keep fr s0 s) (hp : sub [.sys, .log, .sec, .mon] fr = true := by exact sub_of ‹sub _ _ = true› rfl) : Keep fr s0 (State.joinEpoch s e) := by
  unfold State.joinEpoch
  try dsimp only
  repeat' first | exact sub_of hp rfl | (with_reducible first | assumption | apply onSec_keep | apply secEmit_keep | refine pair_keep (by assumption) ?_) | split | intro _ | exact ⟨fun _ => Nat.le_refl _, Nat.le_refl _, Nat.le_refl _⟩

theorem pushQ13_keep {fr : List Part} {s0 : State} (s : State) (m : Msg) (hs : Keep fr s0 s) (hp : sub [.sys, .hie] fr = true := by exact sub_of ‹sub _ _ = true› rfl) : Keep fr s0 (s.pushQ13 m) := by
  unfold State.pushQ13
  dsimp only
  split
  · rename_i h
    refine noteFill_keep _ _ _ ?_
    exact ⟨fun i => have j := hs.inv i; ⟨j.1, j.2, j.3, by simp only [State.onHie_hie, List.length_append, List.length_singleton]; omega, j.5, j.6⟩, hs.pend, hs.sec, hs.only_of (qs := _) hp (fun p h => by cases p <;> first | exact absurd (by decide) h | rfl), hs.log.trans (LogLe.same rfl rfl rfl)⟩
  · exact noteOvf_keep _ _ hs

theorem takeFrame_keep {fr : List Part} {s0 : State} (s : State) (head : List Byte) (plain : List Byte) (sender : Nat) (e : Nat) (ctr : Nat) (hs : Keep fr s0 s) (hp : sub [.sys, .log, .sec, .hie, .mon] fr = true := by exact sub_of ‹sub _ _ = true› rfl) : Keep fr s0 (State.takeFrame s head plain sender e ctr) := by
  unfold State.takeFrame
  try dsimp only
  repeat' first | exact sub_of hp rfl | (with_reducible first | assumption | apply onSec_keep | apply acceptHier_keep | apply joinEpoch_keep | apply pushQ13_keep | refine pair_keep (by assumption) ?_) | split | intro _ | exact ⟨fun _ => Nat.le_refl _, Nat.le_refl _, Nat.le_refl _⟩

theorem rxHier_keep {fr : List Part} {s0 : State} (s : State) (frame : List Byte) (hs : Keep fr s0 s) (hp : sub [.sys, .log, .sec, .hie, .mon] fr = true := by exact sub_of ‹sub _ _ = true› rfl) : Keep fr s0 (State.rxHier s frame) := by
  unfold State.rxHier
  try dsimp only
  repeat' first | exact sub_of hp rfl | (with_reducible first | assumption | apply malformed_keep | apply staleFrame_keep | apply takeFrame_keep | refine pair_keep (by assumption) ?_) | split | intro _

end Sys2Proof.Machine
end

