-- ==== Sys2Proof/Laws/KeepSec.lean ====
section
/-! SUPPORT. What every operation keeps, of security, sequencers, solenoids, the Recipe, the recorder, power. -/

namespace Sys2Proof.Machine

set_option linter.all false
set_option Elab.async false

open Sys2Proof

theorem ackHello_keep {fr : List Part} {s0 : State} (s : State) (p : Peer) (k : SessId) (body : List Byte) (c : Cert) (hs : Keep fr s0 s) (hp : sub [.sys, .sec, .can, .hl] fr = true := by exact sub_of ‹sub _ _ = true› rfl) : Keep fr s0 (State.ackHello s p k body c) := by
  unfold State.ackHello
  try dsimp only
  repeat' first | exact sub_of hp rfl | (with_reducible first | assumption | apply setSess_keep | apply draw_keep | apply linkSend_keep | refine pair_keep (by assumption) ?_) | split | intro _

theorem rxHello_keep {fr : List Part} {s0 : State} (s : State) (p : Peer) (body : List Byte) (hs : Keep fr s0 s) (hp : sub [.sys, .log, .sec, .mon, .can, .hl] fr = true := by exact sub_of ‹sub _ _ = true› rfl) : Keep fr s0 (State.rxHello s p body) := by
  unfold State.rxHello
  try dsimp only
  repeat' first | exact sub_of hp rfl | (with_reducible first | assumption | apply count_keep | apply emit_keep | apply reject_keep | apply malformed_keep | apply ackHello_keep | refine pair_keep (by assumption) ?_) | split | intro _

theorem execHello_keep {fr : List Part} {s0 : State} (p : Peer) (body : List Byte) (s : State) (hs : Keep fr s0 s) (hp : sub [.sys, .log, .sec, .mon, .can, .hl] fr = true := by exact sub_of ‹sub _ _ = true› rfl) : ∃ t, execHello p body s = .next t ∧ Keep fr s0 t := by
  unfold execHello
  refine ⟨_, rfl, ?_⟩
  try dsimp only
  repeat' first | exact sub_of hp rfl | (with_reducible first | assumption | apply rxHello_keep | refine pair_keep (by assumption) ?_) | split | intro _

theorem hsFails_keep {fr : List Part} {s0 : State} (s : State) (k : SessId) (st : Status) (hs : Keep fr s0 s) (hp : sub [.sys, .log, .sec, .mon, .can, .hl] fr = true := by exact sub_of ‹sub _ _ = true› rfl) : Keep fr s0 (State.hsFails s k st) := by
  unfold State.hsFails
  try dsimp only
  repeat' first | exact sub_of hp rfl | (with_reducible first | assumption | apply draw_keep | apply emit_keep | apply reject_keep | apply dropHandshake_keep | refine pair_keep (by assumption) ?_) | split | intro _

theorem openSession_keep {fr : List Part} {s0 : State} (s : State) (k : SessId) (hs : Keep fr s0 s) (hp : sub [.sys, .log, .sec, .mon, .can, .hl, .apu, .dma] fr = true := by exact sub_of ‹sub _ _ = true› rfl) : Keep fr s0 (s.openSession k) := by
  unfold State.openSession
  dsimp only
  refine sessEmit_keep _ _ _ _ _ (count_keep _ _ _ (foldl_keep (onSec_keep _ _ (setSess_keep _ _ _ (foldl_keep hs fun s j h => ?_)) fun x => ⟨fun _ => Nat.le_refl _, Nat.le_max_left _ _, Nat.le_refl _⟩) fun s e h => addEntry_keep _ _ h))
  split
  · exact endSession_keep _ _ _ h
  · exact h

theorem rxFinish_keep {fr : List Part} {s0 : State} (s : State) (k : SessId) (head : List Byte) (rest : List Byte) (len : Nat) (hs : Keep fr s0 s) (hp : sub [.sys, .log, .sec, .mon, .can, .hl, .apu, .dma] fr = true := by exact sub_of ‹sub _ _ = true› rfl) : Keep fr s0 (State.rxFinish s k head rest len) := by
  unfold State.rxFinish
  try dsimp only
  repeat' first | exact sub_of hp rfl | (with_reducible first | assumption | apply onSec_keep | apply count_keep | apply hsFails_keep | apply openSession_keep | refine pair_keep (by assumption) ?_) | split | intro _ | exact ⟨fun _ => Nat.le_refl _, Nat.le_refl _, Nat.le_refl _⟩

theorem execFinish_keep {fr : List Part} {s0 : State} (k : SessId) (frame : List Byte) (s : State) (hs : Keep fr s0 s) (hp : sub [.sys, .log, .sec, .mon, .can, .hl, .apu, .dma] fr = true := by exact sub_of ‹sub _ _ = true› rfl) : ∃ t, execFinish k frame s = .next t ∧ Keep fr s0 t := by
  unfold execFinish
  try dsimp only
  repeat' first | exact sub_of hp rfl | (with_reducible first | assumption | apply malformed_keep | apply rxFinish_keep | refine pair_keep (by assumption) ?_) | split | refine ⟨_, rfl, ?_⟩ | exact fun _ h => h | intro _

theorem execHandshakeTimeout_keep {fr : List Part} {s0 : State} (k : SessId) (s : State) (hs : Keep fr s0 s) (hp : sub [.sys, .log, .sec, .mon, .can, .hl] fr = true := by exact sub_of ‹sub _ _ = true› rfl) : ∃ t, execHandshakeTimeout k s = .next t ∧ Keep fr s0 t := by
  unfold execHandshakeTimeout
  refine ⟨_, rfl, ?_⟩
  try dsimp only
  repeat' first | exact sub_of hp rfl | (with_reducible first | assumption | apply hsFails_keep | refine pair_keep (by assumption) ?_) | split | intro _

theorem execClose_keep {fr : List Part} {s0 : State} (k : SessId) (s : State) (hs : Keep fr s0 s) (hp : sub [.sys, .log, .sec, .mon, .can, .hl, .apu, .dma] fr = true := by exact sub_of ‹sub _ _ = true› rfl) : ∃ t, execClose k s = .next t ∧ Keep fr s0 t := by
  unfold execClose
  refine ⟨_, rfl, ?_⟩
  try dsimp only
  repeat' first | exact sub_of hp rfl | (with_reducible first | assumption | apply endSession_keep | refine pair_keep (by assumption) ?_) | split | intro _

theorem execSessionLifetimeEnd_keep {fr : List Part} {s0 : State} (k : SessId) (s : State) (hs : Keep fr s0 s) (hp : sub [.sys, .log, .sec, .mon, .can, .hl, .apu, .dma] fr = true := by exact sub_of ‹sub _ _ = true› rfl) : ∃ t, execSessionLifetimeEnd k s = .next t ∧ Keep fr s0 t := by
  unfold execSessionLifetimeEnd
  refine ⟨_, rfl, ?_⟩
  try dsimp only
  repeat' first | exact sub_of hp rfl | (with_reducible first | assumption | apply endSession_keep | refine pair_keep (by assumption) ?_) | split | intro _

theorem execSessionIdleEnd_keep {fr : List Part} {s0 : State} (k : SessId) (s : State) (hs : Keep fr s0 s) (hp : sub [.sys, .log, .sec, .mon, .can, .hl, .apu, .dma] fr = true := by exact sub_of ‹sub _ _ = true› rfl) : ∃ t, execSessionIdleEnd k s = .next t ∧ Keep fr s0 t := by
  unfold execSessionIdleEnd
  refine ⟨_, rfl, ?_⟩
  try dsimp only
  repeat' first | exact sub_of hp rfl | (with_reducible first | assumption | apply endSession_keep | refine pair_keep (by assumption) ?_) | split | intro _

theorem clearKeyin_keep {fr : List Part} {s0 : State} (s : State) (k : SessId) (hs : Keep fr s0 s) (hp : sub [.sec] fr = true := by exact sub_of ‹sub _ _ = true› rfl) : Keep fr s0 (State.clearKeyin s k) := by
  unfold State.clearKeyin
  try dsimp only
  repeat' first | exact sub_of hp rfl | (with_reducible first | assumption | apply setSess_keep | refine pair_keep (by assumption) ?_) | split | intro _

theorem secGated_keep {fr : List Part} {s0 : State} (s : State) (k : SessId) (g : Status) (go : State → State × Status) (hs : Keep fr s0 s) (hgo : ∀ s, Keep fr s0 s → Keep fr s0 (go s).1) (hp : sub [.sys, .sec, .hie, .mon] fr = true := by exact sub_of ‹sub _ _ = true› rfl) : Keep fr s0 (State.secGated s k g go) := by
  unfold State.secGated
  try dsimp only
  repeat' first | exact sub_of hp rfl | (with_reducible first | assumption | apply answer_keep | apply clearKeyin_keep | apply hgo | refine pair_keep (by assumption) ?_) | split | intro _

theorem setKeySlot_keep {fr : List Part} {s0 : State} (s : State) (i : Fin 4) (f : KeySlot → KeySlot) (hs : Keep fr s0 s) (hf : s.sec.slots[i].st.code ≤ (f s.sec.slots[i]).st.code) (hp : sub [.sec] fr = true := by exact sub_of ‹sub _ _ = true› rfl) : Keep fr s0 (s.setKeySlot i f) := by
  refine ⟨fun h => have j := hs.inv h; ⟨j.1, j.2, j.3, j.4, j.5, j.6⟩, hs.pend, hs.sec.trans ⟨fun j => ?_, Nat.le_refl _, Nat.le_refl _⟩, hs.only_of (qs := _) hp (fun p h => by cases p <;> first | exact absurd (by decide) h | rfl), hs.log.trans (LogLe.same rfl rfl rfl)⟩
  show _ ≤ (upd s.sec.slots i f)[j].st.code
  rw [upd_get]
  split
  · rename_i e; subst e; exact hf
  · exact Nat.le_refl _

theorem cmdFuse_keep {fr : List Part} {s0 : State} (s : State) (i : Fin 4) (k : SessId) (hs : Keep fr s0 s) (hp : sub [.sys, .log, .sec, .mon, .can, .hl, .apu, .dma] fr = true := by exact sub_of ‹sub _ _ = true› rfl) : Keep fr s0 (s.cmdFuse i k).1 := by
  unfold State.cmdFuse
  dsimp only
  split
  · exact hs
  · rename_i h
    have h0 : s.sec.slots[i].st = .empty := by simpa using h
    have h1 := sessEmit_keep _ 0x0306 k i.val (ofLe ((s.keyin k 8).take 4)) (setKeySlot_keep s i (fun _ => { st := .enabled, hash := s.keyin k 8 }) hs (by rw [h0]; exact Nat.zero_le _))
    split
    · exact endSession_keep _ _ _ (draw_keep _ (sessEmit_keep _ _ _ _ _ h1))
    · exact h1

theorem setSlotOf_keep {fr : List Part} {s0 : State} (s : State) (x : RcpSlot) (f : SlotState → SlotState) (hs : Keep fr s0 s) (hp : sub [.rcp] fr = true := by exact sub_of ‹sub _ _ = true› rfl) : Keep fr s0 (State.setSlotOf s x f) := by
  unfold State.setSlotOf
  try dsimp only
  repeat' first | exact sub_of hp rfl | (with_reducible first | assumption | apply onRcp_keep | apply hf | refine pair_keep (by assumption) ?_) | split | intro _

theorem cmdRevoke_keep {fr : List Part} {s0 : State} (s : State) (i : Fin 4) (k : SessId) (hs : Keep fr s0 s) (hp : sub [.sys, .log, .rcp, .sec, .mon, .can, .hl, .apu, .dma] fr = true := by exact sub_of ‹sub _ _ = true› rfl) : Keep fr s0 (s.cmdRevoke i k).1 := by
  have h1 := setKeySlot_keep s i (fun x => { x with st := .revoked }) hs (by generalize s.sec.slots[i].st = x; cases x <;> exact Nat.le_of_ble_eq_true rfl)
  unfold State.cmdRevoke
  dsimp only
  split
  · dsimp only
    refine sessEmit_keep _ _ _ _ _ ?_
    generalize s.setKeySlot i _ = t at h1 ⊢
    repeat' first | exact sub_of hp rfl | (with_reducible first | assumption | apply setSlotOf_keep | apply foldl_keep | apply endSession_keep) | split | intro _
  · exact hs

theorem cmdHkey_keep {fr : List Part} {s0 : State} (s : State) (k : SessId) (hs : Keep fr s0 s) (hp : sub [.sys, .log, .sec, .mon] fr = true := by exact sub_of ‹sub _ _ = true› rfl) : Keep fr s0 (State.cmdHkey s k).1 := by
  unfold State.cmdHkey
  try dsimp only
  repeat' first | exact sub_of hp rfl | (with_reducible first | assumption | apply onSec_keep | apply sessEmit_keep | refine pair_keep (by assumption) ?_) | split | intro _ | exact ⟨fun _ => Nat.le_refl _, Nat.le_refl _, Nat.le_refl _⟩

theorem startRotation_keep {fr : List Part} {s0 : State} (s : State) (hs : Keep fr s0 s) (hp : sub [.sec] fr = true := by exact sub_of ‹sub _ _ = true› rfl) : Keep fr s0 (State.startRotation s) := by
  unfold State.startRotation
  try dsimp only
  repeat' first | exact sub_of hp rfl | (with_reducible first | assumption | apply onSec_keep | refine pair_keep (by assumption) ?_) | split | intro _ | exact ⟨fun _ => Nat.le_refl _, Nat.le_refl _, Nat.le_refl _⟩

theorem cmdRotate_keep {fr : List Part} {s0 : State} (s : State) (hs : Keep fr s0 s) (hp : sub [.sec] fr = true := by exact sub_of ‹sub _ _ = true› rfl) : Keep fr s0 (State.cmdRotate s).1 := by
  unfold State.cmdRotate
  try dsimp only
  repeat' first | exact sub_of hp rfl | (with_reducible first | assumption | apply startRotation_keep | refine pair_keep (by assumption) ?_) | split | intro _

theorem cmdAttest_keep {fr : List Part} {s0 : State} (s : State) (k : SessId) (hs : Keep fr s0 s) (hp : sub [.mem] fr = true := by exact sub_of ‹sub _ _ = true› rfl) : Keep fr s0 (s.cmdAttest k).1 := by
  unfold State.cmdAttest
  dsimp only
  split
  · exact hs
  · exact mem_keep _ _ hs (Memory.writeN_wf _ _ _)

theorem cmdChallenge_keep {fr : List Part} {s0 : State} (s : State) (hs : Keep fr s0 s) (hp : sub [.sys, .sec] fr = true := by exact sub_of ‹sub _ _ = true› rfl) : Keep fr s0 (State.cmdChallenge s).1 := by
  unfold State.cmdChallenge
  try dsimp only
  repeat' first | exact sub_of hp rfl | (with_reducible first | assumption | apply onSec_keep | apply draw_keep | refine pair_keep (by assumption) ?_) | split | intro _ | exact ⟨fun _ => Nat.le_refl _, Nat.le_refl _, Nat.le_refl _⟩

theorem cmdUnlock_keep {fr : List Part} {s0 : State} (s : State) (k : SessId) (hs : Keep fr s0 s) (hp : sub [.sys, .log, .sec, .mon, .can, .hl, .apu, .dma] fr = true := by exact sub_of ‹sub _ _ = true› rfl) : Keep fr s0 (State.cmdUnlock s k).1 := by
  unfold State.cmdUnlock
  try dsimp only
  repeat' first | exact sub_of hp rfl | (with_reducible first | assumption | apply onSec_keep | apply sessEmit_keep | apply endAll_keep | refine pair_keep (by assumption) ?_) | split | intro _ | exact ⟨fun _ => Nat.le_refl _, Nat.le_refl _, Nat.le_refl _⟩

theorem lockDebug_keep {fr : List Part} {s0 : State} (s : State) (cause : Nat) (hs : Keep fr s0 s) (hp : sub [.sys, .log, .sec, .mon] fr = true := by exact sub_of ‹sub _ _ = true› rfl) : Keep fr s0 (State.lockDebug s cause) := by
  unfold State.lockDebug
  try dsimp only
  repeat' first | exact sub_of hp rfl | (with_reducible first | assumption | apply onSec_keep | apply secEmit_keep | refine pair_keep (by assumption) ?_) | split | intro _ | exact ⟨fun _ => Nat.le_refl _, Nat.le_refl _, Nat.le_refl _⟩

theorem cmdTamperAck_keep {fr : List Part} {s0 : State} (s : State) (hs : Keep fr s0 s) (hp : sub [.sec] fr = true := by exact sub_of ‹sub _ _ = true› rfl) : Keep fr s0 (State.cmdTamperAck s).1 := by
  unfold State.cmdTamperAck
  try dsimp only
  repeat' first | exact sub_of hp rfl | (with_reducible first | assumption | apply onSec_keep | refine pair_keep (by assumption) ?_) | split | intro _ | exact ⟨fun _ => Nat.le_refl _, Nat.le_refl _, Nat.le_refl _⟩

theorem cmdRtWrite_keep {fr : List Part} {s0 : State} (s : State) (i : Fin 2) (k : SessId) (hs : Keep fr s0 s) (hp : sub [.sys, .log, .sec, .mon] fr = true := by exact sub_of ‹sub _ _ = true› rfl) : Keep fr s0 (State.cmdRtWrite s i k).1 := by
  unfold State.cmdRtWrite
  try dsimp only
  repeat' first | exact sub_of hp rfl | (with_reducible first | assumption | apply onSec_keep | apply sessEmit_keep | refine pair_keep (by assumption) ?_) | split | intro _ | exact ⟨fun _ => Nat.le_refl _, Nat.le_refl _, Nat.le_refl _⟩

theorem execFuse_keep {fr : List Part} {s0 : State} (i : Fin 4) (k : SessId) (s : State) (hs : Keep fr s0 s) (hp : sub [.sys, .log, .sec, .hie, .mon, .can, .hl, .apu, .dma] fr = true := by exact sub_of ‹sub _ _ = true› rfl) : ∃ t, execFuse i k s = .next t ∧ Keep fr s0 t := by
  unfold execFuse
  refine ⟨_, rfl, ?_⟩
  try dsimp only
  repeat' first | exact sub_of hp rfl | (with_reducible first | assumption | apply secGated_keep | apply cmdFuse_keep | refine pair_keep (by assumption) ?_) | split | intro _

theorem execRevoke_keep {fr : List Part} {s0 : State} (i : Fin 4) (k : SessId) (s : State) (hs : Keep fr s0 s) (hp : sub [.sys, .log, .rcp, .sec, .hie, .mon, .can, .hl, .apu, .dma] fr = true := by exact sub_of ‹sub _ _ = true› rfl) : ∃ t, execRevoke i k s = .next t ∧ Keep fr s0 t := by
  unfold execRevoke
  refine ⟨_, rfl, ?_⟩
  try dsimp only
  repeat' first | exact sub_of hp rfl | (with_reducible first | assumption | apply secGated_keep | apply cmdRevoke_keep | refine pair_keep (by assumption) ?_) | split | intro _

theorem execHkeyInstall_keep {fr : List Part} {s0 : State} (k : SessId) (s : State) (hs : Keep fr s0 s) (hp : sub [.sys, .log, .sec, .hie, .mon] fr = true := by exact sub_of ‹sub _ _ = true› rfl) : ∃ t, execHkeyInstall k s = .next t ∧ Keep fr s0 t := by
  unfold execHkeyInstall
  refine ⟨_, rfl, ?_⟩
  try dsimp only
  repeat' first | exact sub_of hp rfl | (with_reducible first | assumption | apply secGated_keep | apply cmdHkey_keep | refine pair_keep (by assumption) ?_) | split | intro _

theorem execRotate_keep {fr : List Part} {s0 : State} (k : SessId) (s : State) (hs : Keep fr s0 s) (hp : sub [.sys, .sec, .hie, .mon] fr = true := by exact sub_of ‹sub _ _ = true› rfl) : ∃ t, execRotate k s = .next t ∧ Keep fr s0 t := by
  unfold execRotate
  refine ⟨_, rfl, ?_⟩
  try dsimp only
  repeat' first | exact sub_of hp rfl | (with_reducible first | assumption | apply secGated_keep | apply cmdRotate_keep | refine pair_keep (by assumption) ?_) | split | intro _

theorem execAttest_keep {fr : List Part} {s0 : State} (k : SessId) (s : State) (hs : Keep fr s0 s) (hp : sub [.sys, .sec, .hie, .mon, .mem] fr = true := by exact sub_of ‹sub _ _ = true› rfl) : ∃ t, execAttest k s = .next t ∧ Keep fr s0 t := by
  unfold execAttest
  refine ⟨_, rfl, ?_⟩
  try dsimp only
  repeat' first | exact sub_of hp rfl | (with_reducible first | assumption | apply secGated_keep | apply cmdAttest_keep | refine pair_keep (by assumption) ?_) | split | intro _

theorem execDbgChallenge_keep {fr : List Part} {s0 : State} (k : SessId) (s : State) (hs : Keep fr s0 s) (hp : sub [.sys, .sec, .hie, .mon] fr = true := by exact sub_of ‹sub _ _ = true› rfl) : ∃ t, execDbgChallenge k s = .next t ∧ Keep fr s0 t := by
  unfold execDbgChallenge
  refine ⟨_, rfl, ?_⟩
  try dsimp only
  repeat' first | exact sub_of hp rfl | (with_reducible first | assumption | apply secGated_keep | apply cmdChallenge_keep | refine pair_keep (by assumption) ?_) | split | intro _

theorem execDbgUnlock_keep {fr : List Part} {s0 : State} (k : SessId) (s : State) (hs : Keep fr s0 s) (hp : sub [.sys, .log, .sec, .hie, .mon, .can, .hl, .apu, .dma] fr = true := by exact sub_of ‹sub _ _ = true› rfl) : ∃ t, execDbgUnlock k s = .next t ∧ Keep fr s0 t := by
  unfold execDbgUnlock
  refine ⟨_, rfl, ?_⟩
  try dsimp only
  repeat' first | exact sub_of hp rfl | (with_reducible first | assumption | apply secGated_keep | apply cmdUnlock_keep | refine pair_keep (by assumption) ?_) | split | intro _

theorem execDbgLock_keep {fr : List Part} {s0 : State} (k : SessId) (s : State) (hs : Keep fr s0 s) (hp : sub [.sys, .log, .sec, .hie, .mon] fr = true := by exact sub_of ‹sub _ _ = true› rfl) : ∃ t, execDbgLock k s = .next t ∧ Keep fr s0 t := by
  unfold execDbgLock
  refine ⟨_, rfl, ?_⟩
  try dsimp only
  repeat' first | exact sub_of hp rfl | (with_reducible first | assumption | apply secGated_keep | apply lockDebug_keep | refine pair_keep (by assumption) ?_) | split | intro _

theorem execTamperAck_keep {fr : List Part} {s0 : State} (k : SessId) (s : State) (hs : Keep fr s0 s) (hp : sub [.sys, .sec, .hie, .mon] fr = true := by exact sub_of ‹sub _ _ = true› rfl) : ∃ t, execTamperAck k s = .next t ∧ Keep fr s0 t := by
  unfold execTamperAck
  refine ⟨_, rfl, ?_⟩
  try dsimp only
  repeat' first | exact sub_of hp rfl | (with_reducible first | assumption | apply secGated_keep | apply cmdTamperAck_keep | refine pair_keep (by assumption) ?_) | split | intro _

theorem execRtWrite_keep {fr : List Part} {s0 : State} (i : Fin 2) (k : SessId) (s : State) (hs : Keep fr s0 s) (hp : sub [.sys, .log, .sec, .hie, .mon] fr = true := by exact sub_of ‹sub _ _ = true› rfl) : ∃ t, execRtWrite i k s = .next t ∧ Keep fr s0 t := by
  unfold execRtWrite
  refine ⟨_, rfl, ?_⟩
  try dsimp only
  repeat' first | exact sub_of hp rfl | (with_reducible first | assumption | apply secGated_keep | apply cmdRtWrite_keep | refine pair_keep (by assumption) ?_) | split | intro _

theorem cmdClose_keep {fr : List Part} {s0 : State} (s : State) (k : SessId) (hs : Keep fr s0 s) (hp : sub [.sys, .log, .sec, .mon, .can, .hl, .apu, .dma] fr = true := by exact sub_of ‹sub _ _ = true› rfl) : Keep fr s0 (State.cmdClose s k).1 := by
  unfold State.cmdClose
  try dsimp only
  repeat' first | exact sub_of hp rfl | (with_reducible first | assumption | apply endSession_keep | refine pair_keep (by assumption) ?_) | split | intro _

theorem execSecClose_keep {fr : List Part} {s0 : State} (k : SessId) (s : State) (hs : Keep fr s0 s) (hp : sub [.sys, .log, .sec, .hie, .mon, .can, .hl, .apu, .dma] fr = true := by exact sub_of ‹sub _ _ = true› rfl) : ∃ t, execSecClose k s = .next t ∧ Keep fr s0 t := by
  unfold execSecClose
  refine ⟨_, rfl, ?_⟩
  try dsimp only
  repeat' first | exact sub_of hp rfl | (with_reducible first | assumption | apply answer_keep | apply cmdClose_keep | refine pair_keep (by assumption) ?_) | split | intro _

theorem execEpochRotationDue_keep {fr : List Part} {s0 : State} (s : State) (hs : Keep fr s0 s) (hp : sub [.sec] fr = true := by exact sub_of ‹sub _ _ = true› rfl) : ∃ t, execEpochRotationDue s = .next t ∧ Keep fr s0 t := by
  unfold execEpochRotationDue
  refine ⟨_, rfl, ?_⟩
  try dsimp only
  repeat' first | exact sub_of hp rfl | (with_reducible first | assumption | apply startRotation_keep | refine pair_keep (by assumption) ?_) | split | intro _

theorem rxRotate_keep {fr : List Part} {s0 : State} (s : State) (sender : Nat) (b : List Byte) (hs : Keep fr s0 s) (hp : sub [.sec] fr = true := by exact sub_of ‹sub _ _ = true› rfl) : Keep fr s0 (State.rxRotate s sender b) := by
  unfold State.rxRotate
  try dsimp only
  repeat' first | exact sub_of hp rfl | (with_reducible first | assumption | apply onSec_keep | refine pair_keep (by assumption) ?_) | split | intro _ | exact ⟨fun _ => Nat.le_refl _, Nat.le_refl _, Nat.le_refl _⟩

theorem execKeyRotate_keep {fr : List Part} {s0 : State} (sender : Nat) (b : List Byte) (s : State) (hs : Keep fr s0 s) (hp : sub [.sys, .log, .sec, .hie, .mon] fr = true := by exact sub_of ‹sub _ _ = true› rfl) : ∃ t, execKeyRotate sender b s = .next t ∧ Keep fr s0 t := by
  unfold execKeyRotate
  refine ⟨_, rfl, ?_⟩
  try dsimp only
  repeat' first | exact sub_of hp rfl | (with_reducible first | assumption | apply fromKnown_keep | apply rxRotate_keep | refine pair_keep (by assumption) ?_) | split | intro _

theorem execEpochActivation_keep {fr : List Part} {s0 : State} (s : State) (hs : Keep fr s0 s) (hp : sub [.sys, .log, .sec, .mon] fr = true := by exact sub_of ‹sub _ _ = true› rfl) : ∃ t, execEpochActivation s = .next t ∧ Keep fr s0 t := by
  unfold execEpochActivation
  refine ⟨_, rfl, ?_⟩
  try dsimp only
  repeat' first | exact sub_of hp rfl | (with_reducible first | assumption | apply onSec_keep | apply secEmit_keep | refine pair_keep (by assumption) ?_) | split | intro _ | exact ⟨fun _ => Nat.le_refl _, Nat.le_refl _, Nat.le_refl _⟩

theorem execKeyStale_keep {fr : List Part} {s0 : State} (s : State) (hs : Keep fr s0 s) (hp : sub [.sys, .log, .sec, .mon] fr = true := by exact sub_of ‹sub _ _ = true› rfl) : ∃ t, execKeyStale s = .next t ∧ Keep fr s0 t := by
  unfold execKeyStale
  refine ⟨_, rfl, ?_⟩
  try dsimp only
  repeat' first | exact sub_of hp rfl | (with_reducible first | assumption | apply onSec_keep | apply secEmit_keep | refine pair_keep (by assumption) ?_) | split | intro _ | exact ⟨fun _ => Nat.le_refl _, Nat.le_refl _, Nat.le_refl _⟩

theorem execCounterFloorWrite_keep {fr : List Part} {s0 : State} (s : State) (hs : Keep fr s0 s) (hp : sub [.sec] fr = true := by exact sub_of ‹sub _ _ = true› rfl) : ∃ t, execCounterFloorWrite s = .next t ∧ Keep fr s0 t := by
  unfold execCounterFloorWrite
  refine ⟨_, rfl, ?_⟩
  try dsimp only
  repeat' first | exact sub_of hp rfl | (with_reducible first | assumption | apply onSec_keep | refine pair_keep (by assumption) ?_) | split | intro _ | exact ⟨fun _ => Nat.le_refl _, Nat.le_refl _, Nat.le_refl _⟩

theorem execDebugDurationEnd_keep {fr : List Part} {s0 : State} (s : State) (hs : Keep fr s0 s) (hp : sub [.sys, .log, .sec, .mon] fr = true := by exact sub_of ‹sub _ _ = true› rfl) : ∃ t, execDebugDurationEnd s = .next t ∧ Keep fr s0 t := by
  unfold execDebugDurationEnd
  refine ⟨_, rfl, ?_⟩
  try dsimp only
  repeat' first | exact sub_of hp rfl | (with_reducible first | assumption | apply lockDebug_keep | refine pair_keep (by assumption) ?_) | split | intro _

theorem execChallengeExpiry_keep {fr : List Part} {s0 : State} (s : State) (hs : Keep fr s0 s) (hp : sub [.sec] fr = true := by exact sub_of ‹sub _ _ = true› rfl) : ∃ t, execChallengeExpiry s = .next t ∧ Keep fr s0 t := by
  unfold execChallengeExpiry
  refine ⟨_, rfl, ?_⟩
  try dsimp only
  repeat' first | exact sub_of hp rfl | (with_reducible first | assumption | apply onSec_keep | refine pair_keep (by assumption) ?_) | split | intro _ | exact ⟨fun _ => Nat.le_refl _, Nat.le_refl _, Nat.le_refl _⟩

theorem tamperActs_keep {fr : List Part} {s0 : State} (s : State) (cause : Nat) (hs : Keep fr s0 s) (hp : sub [.sys, .log, .sec, .mon, .can, .hl, .apu, .dma] fr = true := by exact sub_of ‹sub _ _ = true› rfl) : Keep fr s0 (State.tamperActs s cause) := by
  unfold State.tamperActs
  try dsimp only
  repeat' first | exact sub_of hp rfl | (with_reducible first | assumption | apply onSec_keep | apply secEmit_keep | apply endAll_keep | refine pair_keep (by assumption) ?_) | split | intro _ | exact ⟨fun _ => Nat.le_refl _, Nat.le_refl _, Nat.le_refl _⟩

theorem execTamperDetected_keep {fr : List Part} {s0 : State} (short : Bool) (s : State) (hs : Keep fr s0 s) (hp : sub [.sys, .log, .sec, .mon, .can, .hl, .apu, .dma] fr = true := by exact sub_of ‹sub _ _ = true› rfl) : ∃ t, execTamperDetected short s = .next t ∧ Keep fr s0 t := by
  unfold execTamperDetected
  try dsimp only
  repeat' first | exact sub_of hp rfl | (with_reducible first | assumption | apply onSec_keep | apply tamperActs_keep | refine pair_keep (by assumption) ?_) | split | refine ⟨_, rfl, ?_⟩ | exact fun _ h => h | intro _ | exact ⟨fun _ => Nat.le_refl _, Nat.le_refl _, Nat.le_refl _⟩

theorem execRollbackFloorRaise_keep {fr : List Part} {s0 : State} (s : State) (hs : Keep fr s0 s) (hp : sub [.sec] fr = true := by exact sub_of ‹sub _ _ = true› rfl) : ∃ t, execRollbackFloorRaise s = .next t ∧ Keep fr s0 t := by
  refine ⟨_, rfl, ?_⟩
  split
  · exact onSec_keep _ _ hs fun x => ⟨fun _ => Nat.le_refl _, Nat.le_refl _, Nat.le_max_left _ _⟩
  · exact hs

theorem pushQ9_keep {fr : List Part} {s0 : State} (s : State) (q : SeqId) (kind fifth st : Nat) (hs : Keep fr s0 s) (hp : sub [.sys, .seq] fr = true := by exact sub_of ‹sub _ _ = true› rfl) : Keep fr s0 (s.pushQ9 q kind fifth st) := by
  unfold State.pushQ9
  dsimp only
  split
  · rename_i h
    refine noteFill_keep _ _ _ ?_
    exact ⟨fun i => have j := hs.inv i; ⟨j.1, j.2, by simp only [State.onSeq_seq, List.length_append, List.length_singleton]; omega, j.4, j.5, j.6⟩, hs.pend, hs.sec, hs.only_of (qs := _) hp (fun p h => by cases p <;> first | exact absurd (by decide) h | rfl), hs.log.trans (LogLe.same rfl rfl rfl)⟩
  · exact noteOvf_keep _ _ hs

theorem seqPort_keep {fr : List Part} {s0 : State} (s : State) (src : Src) (p : PortId) (op : Nat) (dur : Nat) (hs : Keep fr s0 s) (hp : sub [.sys, .ports, .sol, .log, .hie, .mon] fr = true := by exact sub_of ‹sub _ _ = true› rfl) : Keep fr s0 (State.seqPort s src p op dur).1 := by
  unfold State.seqPort
  try dsimp only
  repeat' first | exact sub_of hp rfl | (with_reducible first | assumption | apply presentOn_keep | apply presentOff_keep | apply presented_keep | refine pair_keep (by assumption) ?_) | split | intro _

theorem seqMode_keep {fr : List Part} {s0 : State} (s : State) (src : Src) (n : SlotId) (req : Nat) (hs : Keep fr s0 s) (hp : sub [.sys, .hie, .mon, .eng] fr = true := by exact sub_of ‹sub _ _ = true› rfl) : Keep fr s0 (State.seqMode s src n req).1 := by
  unfold State.seqMode
  try dsimp only
  repeat' first | exact sub_of hp rfl | (with_reducible first | assumption | apply modeRequest_keep | refine pair_keep (by assumption) ?_) | split | intro _

theorem seqSp_keep {fr : List Part} {s0 : State} (s : State) (q : SeqId) (n : SlotId) (v : Word) (hs : Keep fr s0 s) (hp : sub [.eng] fr = true := by exact sub_of ‹sub _ _ = true› rfl) : Keep fr s0 (State.seqSp s q n v).1 := by
  unfold State.seqSp
  try dsimp only
  repeat' first | exact sub_of hp rfl | (with_reducible first | assumption | apply setSlot_keep | refine pair_keep (by assumption) ?_) | split | intro _

theorem seqLg_keep {fr : List Part} {s0 : State} (s : State) (g : LgId) (start : Bool) (hs : Keep fr s0 s) (hp : sub [.sys, .ports, .log, .hie, .mon] fr = true := by exact sub_of ‹sub _ _ = true› rfl) : Keep fr s0 (State.seqLg s g start).1 := by
  unfold State.seqLg
  try dsimp only
  repeat' first | exact sub_of hp rfl | (with_reducible first | assumption | apply cmdLgStart_keep | apply cmdLgStop_keep | refine pair_keep (by assumption) ?_) | split | intro _

theorem seqAction_keep {fr : List Part} {s0 : State} (s : State) (q : SeqId) (i : Nat) (a : Word) (b : Word) (hs : Keep fr s0 s) (hp : sub [.sys, .ports, .sol, .log, .hie, .mon, .eng, .seq] fr = true := by exact sub_of ‹sub _ _ = true› rfl) : Keep fr s0 (State.seqAction s q i a b).1 := by
  unfold State.seqAction
  try dsimp only
  repeat' first | exact sub_of hp rfl | (with_reducible first | assumption | apply setSeq_keep | apply emit_keep | apply seqPort_keep | apply seqMode_keep | apply seqSp_keep | apply seqLg_keep | refine pair_keep (by assumption) ?_) | split | intro _

theorem seqStatus_keep {fr : List Part} {s0 : State} (s : State) (q : SeqId) (i : Fin 8) (st : Status) (hs : Keep fr s0 s) (hp : sub [.sys, .log, .mon, .seq] fr = true := by exact sub_of ‹sub _ _ = true› rfl) : Keep fr s0 (State.seqStatus s q i st) := by
  unfold State.seqStatus
  try dsimp only
  repeat' first | exact sub_of hp rfl | (with_reducible first | assumption | apply setSeq_keep | apply count_keep | apply emit_keep | apply pushQ9_keep | refine pair_keep (by assumption) ?_) | split | intro _

theorem seqActions_keep {fr : List Part} {s0 : State} (s : State) (q : SeqId) (hs : Keep fr s0 s) (hp : sub [.sys, .ports, .sol, .log, .hie, .mon, .eng, .seq] fr = true := by exact sub_of ‹sub _ _ = true› rfl) : Keep fr s0 (State.seqActions s q) := by
  unfold State.seqActions
  try dsimp only
  repeat' first | exact sub_of hp rfl | (with_reducible first | assumption | apply seqAction_keep | apply seqStatus_keep | apply foldl_keep | apply foldl_fst_keep | refine pair_keep (by assumption) ?_) | split | intro _

theorem seqTo_keep {fr : List Part} {s0 : State} (s : State) (q : SeqId) (k : Nat) (taken : Nat) (es : List (State → Ev)) (hs : Keep fr s0 s) (hp : sub [.sys, .log, .mon, .seq] fr = true := by exact sub_of ‹sub _ _ = true› rfl) : Keep fr s0 (State.seqTo s q k taken es) := by
  unfold State.seqTo
  try dsimp only
  repeat' first | exact sub_of hp rfl | (with_reducible first | assumption | apply onMon_keep | apply setSeq_keep | apply count_keep | apply emitAll_keep | apply pushQ9_keep | apply hes | refine pair_keep (by assumption) ?_) | split | intro _

theorem seqState_keep {fr : List Part} {s0 : State} (s : State) (q : SeqId) (st : SeqSt) (hs : Keep fr s0 s) (hp : sub [.sys, .seq] fr = true := by exact sub_of ‹sub _ _ = true› rfl) : Keep fr s0 (State.seqState s q st) := by
  unfold State.seqState
  try dsimp only
  repeat' first | exact sub_of hp rfl | (with_reducible first | assumption | apply setSeq_keep | apply pushQ9_keep | refine pair_keep (by assumption) ?_) | split | intro _

theorem seqStarts_keep {fr : List Part} {s0 : State} (s : State) (q : SeqId) (hs : Keep fr s0 s) (hp : sub [.sys, .ports, .sol, .log, .hie, .mon, .eng, .seq] fr = true := by exact sub_of ‹sub _ _ = true› rfl) : Keep fr s0 (State.seqStarts s q) := by
  unfold State.seqStarts
  try dsimp only
  repeat' first | exact sub_of hp rfl | (with_reducible first | assumption | apply seqActions_keep | apply seqTo_keep | apply seqState_keep | refine pair_keep (by assumption) ?_) | split | intro _

theorem seqStops_keep {fr : List Part} {s0 : State} (s : State) (q : SeqId) (hs : Keep fr s0 s) (hp : sub [.sys, .ports, .sol, .log, .hie, .mon, .eng, .seq] fr = true := by exact sub_of ‹sub _ _ = true› rfl) : Keep fr s0 (State.seqStops s q) := by
  unfold State.seqStops
  try dsimp only
  repeat' first | exact sub_of hp rfl | (with_reducible first | assumption | apply setSeq_keep | apply seqActions_keep | apply seqTo_keep | apply seqState_keep | refine pair_keep (by assumption) ?_) | split | intro _

theorem seqApply_keep {fr : List Part} {s0 : State} (s : State) (q : SeqId) (op : SeqOp) (hs : Keep fr s0 s) (hp : sub [.sys, .ports, .sol, .log, .hie, .mon, .eng, .seq] fr = true := by exact sub_of ‹sub _ _ = true› rfl) : Keep fr s0 (State.seqApply s q op).1 := by
  unfold State.seqApply
  try dsimp only
  repeat' first | exact sub_of hp rfl | (with_reducible first | assumption | apply setSeq_keep | apply emit_keep | apply seqState_keep | apply seqStarts_keep | apply seqStops_keep | refine pair_keep (by assumption) ?_) | split | intro _

theorem seqTake_keep {fr : List Part} {s0 : State} (s : State) (q : SeqId) (hs : Keep fr s0 s) (hp : sub [.sys, .ports, .sol, .log, .hie, .mon, .eng, .seq] fr = true := by exact sub_of ‹sub _ _ = true› rfl) : Keep fr s0 (State.seqTake s q) := by
  unfold State.seqTake
  try dsimp only
  repeat' first | exact sub_of hp rfl | (with_reducible first | assumption | apply setSeq_keep | apply count_keep | apply seqActions_keep | apply seqTo_keep | refine pair_keep (by assumption) ?_) | split | intro _

theorem seqHold_keep {fr : List Part} {s0 : State} (s : State) (q : SeqId) (hs : Keep fr s0 s) (hp : sub [.sys, .seq] fr = true := by exact sub_of ‹sub _ _ = true› rfl) : Keep fr s0 (State.seqHold s q) := by
  unfold State.seqHold
  try dsimp only
  repeat' first | exact sub_of hp rfl | (with_reducible first | assumption | apply setSeq_keep | apply seqState_keep | refine pair_keep (by assumption) ?_) | split | intro _

theorem seqRequests_keep {fr : List Part} {s0 : State} (s : State) (q : SeqId) (hs : Keep fr s0 s) (hp : sub [.sys, .ports, .sol, .log, .hie, .mon, .eng, .seq] fr = true := by exact sub_of ‹sub _ _ = true› rfl) : Keep fr s0 (State.seqRequests s q).1 := by
  unfold State.seqRequests
  try dsimp only
  repeat' first | exact sub_of hp rfl | (with_reducible first | assumption | apply setSeq_keep | apply answer_keep | apply seqStarts_keep | apply seqApply_keep | refine pair_keep (by assumption) ?_) | split | intro _

theorem execSeqEvaluation_keep {fr : List Part} {s0 : State} (q : SeqId) (s : State) (hs : Keep fr s0 s) (hp : sub [.sys, .ports, .sol, .log, .hie, .mon, .eng, .seq] fr = true := by exact sub_of ‹sub _ _ = true› rfl) : ∃ t, execSeqEvaluation q s = .next t ∧ Keep fr s0 t := by
  unfold execSeqEvaluation
  refine ⟨_, rfl, ?_⟩
  try dsimp only
  repeat' first | exact sub_of hp rfl | (with_reducible first | assumption | apply setSeq_keep | apply seqTake_keep | apply seqHold_keep | apply seqRequests_keep | refine pair_keep (by assumption) ?_) | split | intro _

theorem seqRequest_keep {fr : List Part} {s0 : State} (s : State) (q : SeqId) (op : SeqOp) (k : SessId) (hs : Keep fr s0 s) (hp : sub [.sys, .hie, .mon, .seq] fr = true := by exact sub_of ‹sub _ _ = true› rfl) : Keep fr s0 (State.seqRequest s q op k).1 := by
  unfold State.seqRequest
  try dsimp only
  repeat' first | exact sub_of hp rfl | (with_reducible first | assumption | apply setSeq_keep | apply answer_keep | refine pair_keep (by assumption) ?_) | split | intro _

theorem seqCmd_keep {fr : List Part} {s0 : State} (s : State) (q : SeqId) (op : SeqOp) (k : SessId) (hs : Keep fr s0 s) (hp : sub [.sys, .hie, .mon, .seq] fr = true := by exact sub_of ‹sub _ _ = true› rfl) : Keep fr s0 (State.seqCmd s q op k) := by
  unfold State.seqCmd
  try dsimp only
  repeat' first | exact sub_of hp rfl | (with_reducible first | assumption | apply answer_keep | apply seqRequest_keep | refine pair_keep (by assumption) ?_) | split | intro _

theorem execSeqStart_keep {fr : List Part} {s0 : State} (q : SeqId) (k : SessId) (s : State) (hs : Keep fr s0 s) (hp : sub [.sys, .hie, .mon, .seq] fr = true := by exact sub_of ‹sub _ _ = true› rfl) : ∃ t, execSeqStart q k s = .next t ∧ Keep fr s0 t := by
  unfold execSeqStart
  refine ⟨_, rfl, ?_⟩
  try dsimp only
  repeat' first | exact sub_of hp rfl | (with_reducible first | assumption | apply seqCmd_keep | refine pair_keep (by assumption) ?_) | split | intro _

theorem execSeqStop_keep {fr : List Part} {s0 : State} (q : SeqId) (k : SessId) (s : State) (hs : Keep fr s0 s) (hp : sub [.sys, .hie, .mon, .seq] fr = true := by exact sub_of ‹sub _ _ = true› rfl) : ∃ t, execSeqStop q k s = .next t ∧ Keep fr s0 t := by
  unfold execSeqStop
  refine ⟨_, rfl, ?_⟩
  try dsimp only
  repeat' first | exact sub_of hp rfl | (with_reducible first | assumption | apply seqCmd_keep | refine pair_keep (by assumption) ?_) | split | intro _

theorem execSeqPause_keep {fr : List Part} {s0 : State} (q : SeqId) (k : SessId) (s : State) (hs : Keep fr s0 s) (hp : sub [.sys, .hie, .mon, .seq] fr = true := by exact sub_of ‹sub _ _ = true› rfl) : ∃ t, execSeqPause q k s = .next t ∧ Keep fr s0 t := by
  unfold execSeqPause
  refine ⟨_, rfl, ?_⟩
  try dsimp only
  repeat' first | exact sub_of hp rfl | (with_reducible first | assumption | apply seqCmd_keep | refine pair_keep (by assumption) ?_) | split | intro _

theorem execSeqResume_keep {fr : List Part} {s0 : State} (q : SeqId) (k : SessId) (s : State) (hs : Keep fr s0 s) (hp : sub [.sys, .hie, .mon, .seq] fr = true := by exact sub_of ‹sub _ _ = true› rfl) : ∃ t, execSeqResume q k s = .next t ∧ Keep fr s0 t := by
  unfold execSeqResume
  refine ⟨_, rfl, ?_⟩
  try dsimp only
  repeat' first | exact sub_of hp rfl | (with_reducible first | assumption | apply seqCmd_keep | refine pair_keep (by assumption) ?_) | split | intro _

theorem writeHcmd_keep {fr : List Part} {s0 : State} (s : State) (q : SeqId) (v : Word) (hs : Keep fr s0 s) (hp : sub [.seq] fr = true := by exact sub_of ‹sub _ _ = true› rfl) : Keep fr s0 (State.writeHcmd s q v).1 := by
  unfold State.writeHcmd
  try dsimp only
  repeat' first | exact sub_of hp rfl | (with_reducible first | assumption | apply setSeq_keep | refine pair_keep (by assumption) ?_) | split | intro _

theorem execSeqHcmdWrite_keep {fr : List Part} {s0 : State} (q : SeqId) (v : Word) (k : SessId) (s : State) (hs : Keep fr s0 s) (hp : sub [.sys, .hie, .mon, .seq] fr = true := by exact sub_of ‹sub _ _ = true› rfl) : ∃ t, execSeqHcmdWrite q v k s = .next t ∧ Keep fr s0 t := by
  unfold execSeqHcmdWrite
  refine ⟨_, rfl, ?_⟩
  try dsimp only
  repeat' first | exact sub_of hp rfl | (with_reducible first | assumption | apply answer_keep | apply gated_keep | apply writeHcmd_keep | refine pair_keep (by assumption) ?_) | split | intro _

theorem seqFresh_keep {fr : List Part} {s0 : State} (s : State) (hs : Keep fr s0 s) (hp : sub [.seq] fr = true := by exact sub_of ‹sub _ _ = true› rfl) : Keep fr s0 (State.seqFresh s) := by
  unfold State.seqFresh
  try dsimp only
  repeat' first | exact sub_of hp rfl | (with_reducible first | assumption | apply onSeq_keep | refine pair_keep (by assumption) ?_) | split | intro _ | exact fun x hx => hx

theorem seqRelease_keep {fr : List Part} {s0 : State} (s : State) (q : SeqId) (hs : Keep fr s0 s) (hp : sub [.sys, .seq] fr = true := by exact sub_of ‹sub _ _ = true› rfl) : Keep fr s0 (State.seqRelease s q) := by
  unfold State.seqRelease
  try dsimp only
  repeat' first | exact sub_of hp rfl | (with_reducible first | assumption | apply setSeq_keep | apply seqState_keep | refine pair_keep (by assumption) ?_) | split | intro _

theorem execEndOfStroke_keep {fr : List Part} {s0 : State} (p : PortId) (delay : Nat) (vbank : Nat) (s : State) (hs : Keep fr s0 s) (hp : sub [.sys, .ports, .sol, .log, .hie, .mon] fr = true := by exact sub_of ‹sub _ _ = true› rfl) : ∃ t, execEndOfStroke p delay vbank s = .next t ∧ Keep fr s0 t := by
  unfold execEndOfStroke
  refine ⟨_, rfl, ?_⟩
  try dsimp only
  repeat' first | exact sub_of hp rfl | (with_reducible first | assumption | apply setPort_keep | apply setSol_keep | apply finishOpen_keep | apply delayNews_keep | refine pair_keep (by assumption) ?_) | split | intro _

theorem leaveHit_keep {fr : List Part} {s0 : State} (s : State) (p : PortId) (hs : Keep fr s0 s) (hp : sub [.sys, .ports, .sol, .hie, .mon] fr = true := by exact sub_of ‹sub _ _ = true› rfl) : Keep fr s0 (State.leaveHit s p) := by
  unfold State.leaveHit
  try dsimp only
  repeat' first | exact sub_of hp rfl | (with_reducible first | assumption | apply enterPhase_keep | apply toRelease_keep | apply toHold_keep | apply dropPend_keep | refine pair_keep (by assumption) ?_) | split | intro _

theorem execHitEnd_keep {fr : List Part} {s0 : State} (p : PortId) (s : State) (hs : Keep fr s0 s) (hp : sub [.sys, .ports, .sol, .log, .hie, .mon] fr = true := by exact sub_of ‹sub _ _ = true› rfl) : ∃ t, execHitEnd p s = .next t ∧ Keep fr s0 t := by
  unfold execHitEnd
  refine ⟨_, rfl, ?_⟩
  try dsimp only
  repeat' first | exact sub_of hp rfl | (with_reducible first | assumption | apply finishOpen_keep | apply endActive_keep | apply leaveHit_keep | refine pair_keep (by assumption) ?_) | split | intro _

theorem execBridgeEnd_keep {fr : List Part} {s0 : State} (p : PortId) (s : State) (hs : Keep fr s0 s) (hp : sub [.ports, .sol] fr = true := by exact sub_of ‹sub _ _ = true› rfl) : ∃ t, execBridgeEnd p s = .next t ∧ Keep fr s0 t := by
  unfold execBridgeEnd
  refine ⟨_, rfl, ?_⟩
  try dsimp only
  repeat' first | exact sub_of hp rfl | (with_reducible first | assumption | apply toHold_keep | refine pair_keep (by assumption) ?_) | split | intro _

theorem execHoldEnd_keep {fr : List Part} {s0 : State} (p : PortId) (s : State) (hs : Keep fr s0 s) (hp : sub [.ports, .sol] fr = true := by exact sub_of ‹sub _ _ = true› rfl) : ∃ t, execHoldEnd p s = .next t ∧ Keep fr s0 t := by
  unfold execHoldEnd
  refine ⟨_, rfl, ?_⟩
  try dsimp only
  repeat' first | exact sub_of hp rfl | (with_reducible first | assumption | apply setSol_keep | apply toRelease_keep | refine pair_keep (by assumption) ?_) | split | intro _

theorem execEndOfTravel_keep {fr : List Part} {s0 : State} (p : PortId) (delay : Nat) (vbank : Nat) (s : State) (hs : Keep fr s0 s) (hp : sub [.sys, .ports, .sol, .log, .hie, .mon] fr = true := by exact sub_of ‹sub _ _ = true› rfl) : ∃ t, execEndOfTravel p delay vbank s = .next t ∧ Keep fr s0 t := by
  unfold execEndOfTravel
  refine ⟨_, rfl, ?_⟩
  try dsimp only
  repeat' first | exact sub_of hp rfl | (with_reducible first | assumption | apply setPort_keep | apply finishClose_keep | apply delayNews_keep | refine pair_keep (by assumption) ?_) | split | intro _

theorem execReleaseEnd_keep {fr : List Part} {s0 : State} (p : PortId) (i : Int) (s : State) (hs : Keep fr s0 s) (hp : sub [.sys, .ports, .sol, .log, .mon] fr = true := by exact sub_of ‹sub _ _ = true› rfl) : ∃ t, execReleaseEnd p i s = .next t ∧ Keep fr s0 t := by
  unfold execReleaseEnd
  refine ⟨_, rfl, ?_⟩
  try dsimp only
  repeat' first | exact sub_of hp rfl | (with_reducible first | assumption | apply setPort_keep | apply toIdle_keep | refine pair_keep (by assumption) ?_) | split | intro _

theorem execReleaseTimeout_keep {fr : List Part} {s0 : State} (p : PortId) (i : Int) (s : State) (hs : Keep fr s0 s) (hp : sub [.sys, .ports, .sol, .log, .mon] fr = true := by exact sub_of ‹sub _ _ = true› rfl) : ∃ t, execReleaseTimeout p i s = .next t ∧ Keep fr s0 t := by
  unfold execReleaseTimeout
  refine ⟨_, rfl, ?_⟩
  try dsimp only
  repeat' first | exact sub_of hp rfl | (with_reducible first | assumption | apply emit_keep | apply setPort_keep | apply toIdle_keep | refine pair_keep (by assumption) ?_) | split | intro _

theorem startWaiting_keep {fr : List Part} {s0 : State} (s : State) (p : PortId) (hs : Keep fr s0 s) (hp : sub [.sys, .ports, .sol, .log, .hie, .mon] fr = true := by exact sub_of ‹sub _ _ = true› rfl) : Keep fr s0 (State.startWaiting s p) := by
  unfold State.startWaiting
  try dsimp only
  repeat' first | exact sub_of hp rfl | (with_reducible first | assumption | apply startHit_keep | apply dropPend_keep | apply solOn_keep | refine pair_keep (by assumption) ?_) | split | intro _

theorem execDeferredHitStart_keep {fr : List Part} {s0 : State} (g : GroupId) (s : State) (hs : Keep fr s0 s) (hp : sub [.sys, .ports, .sol, .log, .hie, .mon] fr = true := by exact sub_of ‹sub _ _ = true› rfl) : ∃ t, execDeferredHitStart g s = .next t ∧ Keep fr s0 t := by
  unfold execDeferredHitStart
  refine ⟨_, rfl, ?_⟩
  try dsimp only
  repeat' first | exact sub_of hp rfl | (with_reducible first | assumption | apply startWaiting_keep | refine pair_keep (by assumption) ?_) | split | intro _

theorem execHitDeferredTimeout_keep {fr : List Part} {s0 : State} (g : GroupId) (s : State) (hs : Keep fr s0 s) (hp : sub [.sys, .ports, .sol, .log, .hie, .mon] fr = true := by exact sub_of ‹sub _ _ = true› rfl) : ∃ t, execHitDeferredTimeout g s = .next t ∧ Keep fr s0 t := by
  unfold execHitDeferredTimeout
  refine ⟨_, rfl, ?_⟩
  try dsimp only
  repeat' first | exact sub_of hp rfl | (with_reducible first | assumption | apply emit_keep | apply answer_keep | apply setSol_keep | apply onGroup_keep | apply dropPend_keep | apply startWaiting_keep | refine pair_keep (by assumption) ?_) | split | intro _

theorem judgeCoil_keep {fr : List Part} {s0 : State} (s : State) (p : PortId) (hs : Keep fr s0 s) (hp : sub [.sys, .sol, .log, .mon] fr = true := by exact sub_of ‹sub _ _ = true› rfl) : Keep fr s0 (State.judgeCoil s p) := by
  unfold State.judgeCoil
  try dsimp only
  repeat' first | exact sub_of hp rfl | (with_reducible first | assumption | apply emitAll_keep | apply setSol_keep | refine pair_keep (by assumption) ?_) | split | intro _

theorem execCoilModelUpdate_keep {fr : List Part} {s0 : State} (p : PortId) (irmsSq : Nat) (housing : Int) (s : State) (hs : Keep fr s0 s) (hp : sub [.sys, .sol, .log, .hie, .mon] fr = true := by exact sub_of ‹sub _ _ = true› rfl) : ∃ t, execCoilModelUpdate p irmsSq housing s = .next t ∧ Keep fr s0 t := by
  unfold execCoilModelUpdate
  refine ⟨_, rfl, ?_⟩
  try dsimp only
  repeat' first | exact sub_of hp rfl | (with_reducible first | assumption | apply onSys_keep | apply setSol_keep | apply delayNews_keep | apply judgeCoil_keep | refine pair_keep (by assumption) ?_) | split | intro _

theorem execWindingResistanceWindow_keep {fr : List Part} {s0 : State} (p : PortId) (v : Nat) (i : Nat) (least : Nat) (steady : Bool) (s : State) (hs : Keep fr s0 s) (hp : sub [.sys, .sol, .log, .hie, .mon] fr = true := by exact sub_of ‹sub _ _ = true› rfl) : ∃ t, execWindingResistanceWindow p v i least steady s = .next t ∧ Keep fr s0 t := by
  unfold execWindingResistanceWindow
  refine ⟨_, rfl, ?_⟩
  try dsimp only
  repeat' first | exact sub_of hp rfl | (with_reducible first | assumption | apply setSol_keep | apply delayNews_keep | apply judgeCoil_keep | refine pair_keep (by assumption) ?_) | split | intro _

theorem saveDelays_keep {fr : List Part} {s0 : State} (s : State) (hs : Keep fr s0 s) (hp : sub [.sol] fr = true := by exact sub_of ‹sub _ _ = true› rfl) : Keep fr s0 (State.saveDelays s) := by
  unfold State.saveDelays
  try dsimp only
  repeat' first | exact sub_of hp rfl | (with_reducible first | assumption | apply onSol_keep | refine pair_keep (by assumption) ?_) | split | intro _

theorem execDelayTableSave_keep {fr : List Part} {s0 : State} (s : State) (hs : Keep fr s0 s) (hp : sub [.sol] fr = true := by exact sub_of ‹sub _ _ = true› rfl) : ∃ t, execDelayTableSave s = .next t ∧ Keep fr s0 t := by
  unfold execDelayTableSave
  try dsimp only
  repeat' first | exact sub_of hp rfl | (with_reducible first | assumption | apply saveDelays_keep | refine pair_keep (by assumption) ?_) | split | refine ⟨_, rfl, ?_⟩ | exact fun _ h => h | intro _

theorem writeDsel_keep {fr : List Part} {s0 : State} (s : State) (v : Word) (hs : Keep fr s0 s) (hp : sub [.sol] fr = true := by exact sub_of ‹sub _ _ = true› rfl) : Keep fr s0 (State.writeDsel s v).1 := by
  unfold State.writeDsel
  try dsimp only
  repeat' first | exact sub_of hp rfl | (with_reducible first | assumption | apply onSol_keep | refine pair_keep (by assumption) ?_) | split | intro _

theorem execSolDselWrite_keep {fr : List Part} {s0 : State} (v : Word) (k : SessId) (s : State) (hs : Keep fr s0 s) (hp : sub [.sys, .sol, .hie, .mon] fr = true := by exact sub_of ‹sub _ _ = true› rfl) : ∃ t, execSolDselWrite v k s = .next t ∧ Keep fr s0 t := by
  unfold execSolDselWrite
  refine ⟨_, rfl, ?_⟩
  try dsimp only
  repeat' first | exact sub_of hp rfl | (with_reducible first | assumption | apply gated_keep | apply writeDsel_keep | refine pair_keep (by assumption) ?_) | split | intro _

theorem clearDelays_keep {fr : List Part} {s0 : State} (s : State) (p : PortId) (bands : Nat) (cause : Nat) (hs : Keep fr s0 s) (hp : sub [.sys, .sol, .log, .mon] fr = true := by exact sub_of ‹sub _ _ = true› rfl) : Keep fr s0 (State.clearDelays s p bands cause) := by
  unfold State.clearDelays
  try dsimp only
  repeat' first | exact sub_of hp rfl | (with_reducible first | assumption | apply emit_keep | apply setSol_keep | refine pair_keep (by assumption) ?_) | split | intro _

theorem writeDclr_keep {fr : List Part} {s0 : State} (s : State) (v : Word) (hs : Keep fr s0 s) (hp : sub [.sys, .sol, .log, .hie, .mon] fr = true := by exact sub_of ‹sub _ _ = true› rfl) : Keep fr s0 (State.writeDclr s v).1 := by
  unfold State.writeDclr
  try dsimp only
  repeat' first | exact sub_of hp rfl | (with_reducible first | assumption | apply onSol_keep | apply delayNews_keep | apply clearDelays_keep | refine pair_keep (by assumption) ?_) | split | intro _

theorem execSolDclr_keep {fr : List Part} {s0 : State} (v : Word) (k : SessId) (s : State) (hs : Keep fr s0 s) (hp : sub [.sys, .sol, .log, .hie, .mon] fr = true := by exact sub_of ‹sub _ _ = true› rfl) : ∃ t, execSolDclr v k s = .next t ∧ Keep fr s0 t := by
  unfold execSolDclr
  refine ⟨_, rfl, ?_⟩
  try dsimp only
  repeat' first | exact sub_of hp rfl | (with_reducible first | assumption | apply gated_keep | apply writeDclr_keep | refine pair_keep (by assumption) ?_) | split | intro _

theorem portDown_keep {fr : List Part} {s0 : State} (s : State) (p : PortId) (hs : Keep fr s0 s) (hp : sub [.sys, .ports, .sol, .log, .hie, .mon] fr = true := by exact sub_of ‹sub _ _ = true› rfl) : Keep fr s0 (State.portDown s p) := by
  unfold State.portDown
  try dsimp only
  repeat' first | exact sub_of hp rfl | (with_reducible first | assumption | apply setSol_keep | apply endProfile_keep | refine pair_keep (by assumption) ?_) | split | intro _

theorem bankDown_keep {fr : List Part} {s0 : State} (s : State) (b : BankId) (hs : Keep fr s0 s) (hp : sub [.sys, .ports, .banks, .sol, .log, .hie, .mon] fr = true := by exact sub_of ‹sub _ _ = true› rfl) : Keep fr s0 (State.bankDown s b) := by
  unfold State.bankDown
  try dsimp only
  repeat' first | exact sub_of hp rfl | (with_reducible first | assumption | apply onHie_keep | apply setPorts_keep | apply setBank_keep | apply portDown_keep | apply foldl_keep | apply foldl_fst_keep | refine pair_keep (by assumption) ?_) | split | intro _ | exact fun x hx => hx

theorem portUp_keep {fr : List Part} {s0 : State} (s : State) (p : PortId) (hs : Keep fr s0 s) (hp : sub [.ports] fr = true := by exact sub_of ‹sub _ _ = true› rfl) : Keep fr s0 (State.portUp s p) := by
  unfold State.portUp
  try dsimp only
  repeat' first | exact sub_of hp rfl | (with_reducible first | assumption | apply setPort_keep | refine pair_keep (by assumption) ?_) | split | intro _

theorem bankUp_keep {fr : List Part} {s0 : State} (s : State) (b : BankId) (hs : Keep fr s0 s) (hp : sub [.sys, .ports, .sol, .log, .hie, .mon] fr = true := by exact sub_of ‹sub _ _ = true› rfl) : Keep fr s0 (State.bankUp s b) := by
  unfold State.bankUp
  try dsimp only
  repeat' first | exact sub_of hp rfl | (with_reducible first | assumption | apply settle_keep | apply interlock_keep | apply portUp_keep | apply foldl_keep | apply foldl_fst_keep | refine pair_keep (by assumption) ?_) | split | intro _

theorem loadCarrier_keep {fr : List Part} {s0 : State} (s : State) (p : PortId) (hs : Keep fr s0 s) (hp : sub [.ports] fr = true := by exact sub_of ‹sub _ _ = true› rfl) : Keep fr s0 (State.loadCarrier s p) := by
  unfold State.loadCarrier
  try dsimp only
  repeat' first | exact sub_of hp rfl | (with_reducible first | assumption | apply setPort_keep | refine pair_keep (by assumption) ?_) | split | intro _

theorem loadImages_keep {fr : List Part} {s0 : State} (s : State) (h : RcpHead) (rs : List Rec) (hs : Keep fr s0 s) (hp : sub [.ports, .rcp, .tmb, .mon, .sct] fr = true := by exact sub_of ‹sub _ _ = true› rfl) : Keep fr s0 (State.loadImages s h rs) := by
  unfold State.loadImages
  try dsimp only
  repeat' first | exact sub_of hp rfl | (with_reducible first | assumption | apply onRcp_keep | apply onTmb_keep | apply onMon_keep | apply onSct_keep | apply loadCarrier_keep | apply foldl_keep | apply foldl_fst_keep | refine pair_keep (by assumption) ?_) | split | intro _

theorem coilStart_keep {fr : List Part} {s0 : State} (s : State) (p : PortId) (hs : Keep fr s0 s) (hp : sub [.sol] fr = true := by exact sub_of ‹sub _ _ = true› rfl) : Keep fr s0 (State.coilStart s p) := by
  unfold State.coilStart
  try dsimp only
  repeat' first | exact sub_of hp rfl | (with_reducible first | assumption | apply setSol_keep | refine pair_keep (by assumption) ?_) | split | intro _

theorem restoreDelays_keep {fr : List Part} {s0 : State} (s : State) (p : PortId) (hs : Keep fr s0 s) (hp : sub [.sys, .sol, .log, .mon] fr = true := by exact sub_of ‹sub _ _ = true› rfl) : Keep fr s0 (State.restoreDelays s p) := by
  unfold State.restoreDelays
  try dsimp only
  repeat' first | exact sub_of hp rfl | (with_reducible first | assumption | apply setSol_keep | apply clearDelays_keep | refine pair_keep (by assumption) ?_) | split | intro _

theorem restoreAge_keep {fr : List Part} {s0 : State} (s : State) (f : FanId) (hs : Keep fr s0 s) (hp : sub [.sys, .log, .mon, .fan] fr = true := by exact sub_of ‹sub _ _ = true› rfl) : Keep fr s0 (State.restoreAge s f) := by
  unfold State.restoreAge
  try dsimp only
  repeat' first | exact sub_of hp rfl | (with_reducible first | assumption | apply setFan_keep | apply clearAge_keep | refine pair_keep (by assumption) ?_) | split | intro _

theorem fanAuto_keep {fr : List Part} {s0 : State} (s : State) (f : FanId) (hs : Keep fr s0 s) (hp : sub [.sys, .ports, .sol, .log, .hie, .mon, .fan] fr = true := by exact sub_of ‹sub _ _ = true› rfl) : Keep fr s0 (State.fanAuto s f) := by
  unfold State.fanAuto
  try dsimp only
  repeat' first | exact sub_of hp rfl | (with_reducible first | assumption | apply fanEnable_keep | refine pair_keep (by assumption) ?_) | split | intro _

theorem applyRecipe_keep {fr : List Part} {s0 : State} (s : State) (above : List Nat) (hs : Keep fr s0 s) (hp : sub [.sys, .ports, .sol, .log, .rcp, .gns, .hie, .mon, .fan, .eng, .can, .seq] fr = true := by exact sub_of ‹sub _ _ = true› rfl) : Keep fr s0 (s.applyRecipe above) := by
  unfold State.applyRecipe
  dsimp only
  refine seqFresh_keep _ ?_
  have h1 := onSys_keep s (fun x => { x with request := (Mode.ofCode s.rcp.head.dflt).getD .boil, current := (Mode.ofCode s.rcp.head.dflt).getD .boil, pipeB := (Mode.ofCode s.rcp.head.dflt).getD .boil == .sear }) hs
  have h2 := foldl_keep (l := idx 8) (foldl_keep (l := idx 32) (foldl_keep (l := idx 32) h1 fun s a h => coilStart_keep s a h) fun s a h => restoreDelays_keep s a h) fun s a h => restoreAge_keep s a h
  have key : ∀ x f, Keep fr s0 x → Keep fr s0 (List.foldl State.fanAuto (List.foldl State.bankUp (((x.onRcp fun r => { r with applied := true }).onMon fun m => { m with running := true }).onEng f) (idx 4)) (idx 8)) := fun x f hx =>
    foldl_keep (foldl_keep (onEng_keep _ _ (onMon_keep _ _ (onRcp_keep _ _ hx))) fun s a h => bankUp_keep s a h) fun s a h => fanAuto_keep s a h
  split
  · exact gnssStart_keep _ _ _ (key _ _ (mk_can_keep _ _ h2))
  · exact key _ _ (mk_can_keep _ _ h2)

theorem tryRecipe_keep {fr : List Part} {s0 : State} (s : State) (x : RcpSlot) (hs : Keep fr s0 s) (hp : sub [.sys, .log, .rcp, .mon] fr = true := by exact sub_of ‹sub _ _ = true› rfl) : Keep fr s0 (State.tryRecipe s x).1 := by
  unfold State.tryRecipe
  try dsimp only
  repeat' first | exact sub_of hp rfl | (with_reducible first | assumption | apply onRcp_keep | apply emit_keep | apply setSlotOf_keep | refine pair_keep (by assumption) ?_) | split | intro _

theorem cutWrite_keep {fr : List Part} {s0 : State} (s : State) (x : RcpSlot) (hs : Keep fr s0 s) (hp : sub [.sys, .log, .rcp, .mon] fr = true := by exact sub_of ‹sub _ _ = true› rfl) : Keep fr s0 (State.cutWrite s x) := by
  unfold State.cutWrite
  try dsimp only
  repeat' first | exact sub_of hp rfl | (with_reducible first | assumption | apply draw_keep | apply emit_keep | apply setSlotOf_keep | refine pair_keep (by assumption) ?_) | split | intro _

theorem selectRecipe_keep {fr : List Part} {s0 : State} (s : State) (hs : Keep fr s0 s) (hp : sub [.sys, .log, .rcp, .mon] fr = true := by exact sub_of ‹sub _ _ = true› rfl) : Keep fr s0 (State.selectRecipe s).1 := by
  unfold State.selectRecipe
  try dsimp only
  repeat' first | exact sub_of hp rfl | (with_reducible first | assumption | apply emit_keep | apply tryRecipe_keep | apply cutWrite_keep | refine pair_keep (by assumption) ?_) | split | intro _

theorem chooseRecipe_keep {fr : List Part} {s0 : State} (s : State) (x : RcpSlot) (h : RcpHead) (rs : List Rec) (hs : Keep fr s0 s) (hp : sub [.ports, .rcp, .tmb, .mon, .sct] fr = true := by exact sub_of ‹sub _ _ = true› rfl) : Keep fr s0 (State.chooseRecipe s x h rs) := by
  unfold State.chooseRecipe
  try dsimp only
  repeat' first | exact sub_of hp rfl | (with_reducible first | assumption | apply onRcp_keep | apply setSlotOf_keep | apply loadImages_keep | refine pair_keep (by assumption) ?_) | split | intro _

theorem cmdRcpWrite_keep {fr : List Part} {s0 : State} (s : State) (x : RcpSlot) (k : SessId) (hs : Keep fr s0 s) (hp : sub [.rcp] fr = true := by exact sub_of ‹sub _ _ = true› rfl) : Keep fr s0 (State.cmdRcpWrite s x k).1 := by
  unfold State.cmdRcpWrite
  try dsimp only
  repeat' first | exact sub_of hp rfl | (with_reducible first | assumption | apply onRcp_keep | apply setSlotOf_keep | refine pair_keep (by assumption) ?_) | split | intro _

theorem cmdDiscard_keep {fr : List Part} {s0 : State} (s : State) (k : SessId) (hs : Keep fr s0 s) (hp : sub [.rcp] fr = true := by exact sub_of ‹sub _ _ = true› rfl) : Keep fr s0 (State.cmdDiscard s k).1 := by
  unfold State.cmdDiscard
  try dsimp only
  repeat' first | exact sub_of hp rfl | (with_reducible first | assumption | apply onRcp_keep | refine pair_keep (by assumption) ?_) | split | intro _

theorem asReloaded_keep {fr : List Part} {s0 : State} (s : State) (h : RcpHead) (rs : List Rec) (hs : Keep fr s0 s) (hp : sub [.ports, .rcp, .eng] fr = true := by exact sub_of ‹sub _ _ = true› rfl) : Keep fr s0 (State.asReloaded s h rs) := by
  unfold State.asReloaded
  try dsimp only
  repeat' first | exact sub_of hp rfl | (with_reducible first | assumption | apply onRcp_keep | apply onEng_keep | apply loadCarrier_keep | apply foldl_keep | apply foldl_fst_keep | refine pair_keep (by assumption) ?_) | split | intro _

theorem cmdReload_keep {fr : List Part} {s0 : State} (s : State) (hs : Keep fr s0 s) (hp : sub [.sys, .ports, .log, .rcp, .mon, .eng, .seq] fr = true := by exact sub_of ‹sub _ _ = true› rfl) : Keep fr s0 (State.cmdReload s).1 := by
  unfold State.cmdReload
  try dsimp only
  repeat' first | exact sub_of hp rfl | (with_reducible first | assumption | apply onRcp_keep | apply onSeq_keep | apply emit_keep | apply asReloaded_keep | refine pair_keep (by assumption) ?_) | split | intro _ | exact fun x hx => hx

theorem rcpGated_keep {fr : List Part} {s0 : State} (s : State) (k : SessId) (warned : Bool) (go : State → State × Option Status) (hs : Keep fr s0 s) (hgo : ∀ s, Keep fr s0 s → Keep fr s0 (go s).1) (hp : sub [.sys, .hie, .mon] fr = true := by exact sub_of ‹sub _ _ = true› rfl) : Keep fr s0 (State.rcpGated s k warned go) := by
  unfold State.rcpGated
  try dsimp only
  repeat' first | exact sub_of hp rfl | (with_reducible first | assumption | apply answer_keep | apply hgo | refine pair_keep (by assumption) ?_) | split | intro _

theorem execWrite_keep {fr : List Part} {s0 : State} (x : RcpSlot) (k : SessId) (s : State) (hs : Keep fr s0 s) (hp : sub [.sys, .rcp, .hie, .mon] fr = true := by exact sub_of ‹sub _ _ = true› rfl) : ∃ t, execWrite x k s = .next t ∧ Keep fr s0 t := by
  unfold execWrite
  refine ⟨_, rfl, ?_⟩
  try dsimp only
  repeat' first | exact sub_of hp rfl | (with_reducible first | assumption | apply cmdRcpWrite_keep | apply rcpGated_keep | refine pair_keep (by assumption) ?_) | split | intro _

theorem execDiscard_keep {fr : List Part} {s0 : State} (k : SessId) (s : State) (hs : Keep fr s0 s) (hp : sub [.sys, .rcp, .hie, .mon] fr = true := by exact sub_of ‹sub _ _ = true› rfl) : ∃ t, execDiscard k s = .next t ∧ Keep fr s0 t := by
  unfold execDiscard
  refine ⟨_, rfl, ?_⟩
  try dsimp only
  repeat' first | exact sub_of hp rfl | (with_reducible first | assumption | apply cmdDiscard_keep | apply rcpGated_keep | refine pair_keep (by assumption) ?_) | split | intro _

theorem execReload_keep {fr : List Part} {s0 : State} (k : SessId) (s : State) (hs : Keep fr s0 s) (hp : sub [.sys, .ports, .log, .rcp, .hie, .mon, .eng, .seq] fr = true := by exact sub_of ‹sub _ _ = true› rfl) : ∃ t, execReload k s = .next t ∧ Keep fr s0 t := by
  unfold execReload
  refine ⟨_, rfl, ?_⟩
  try dsimp only
  repeat' first | exact sub_of hp rfl | (with_reducible first | assumption | apply atOnce_keep | apply cmdReload_keep | apply rcpGated_keep | refine pair_keep (by assumption) ?_) | split | intro _

theorem rcpDone_keep {fr : List Part} {s0 : State} (s : State) (st : Status) (hs : Keep fr s0 s) (hp : sub [.sys, .rcp, .hie, .mon] fr = true := by exact sub_of ‹sub _ _ = true› rfl) : Keep fr s0 (State.rcpDone s st) := by
  unfold State.rcpDone
  try dsimp only
  repeat' first | exact sub_of hp rfl | (with_reducible first | assumption | apply onRcp_keep | apply answer_keep | refine pair_keep (by assumption) ?_) | split | intro _

theorem execRecipeWritten_keep {fr : List Part} {s0 : State} (bad : Option (Nat × Nat)) (s : State) (hs : Keep fr s0 s) (hp : sub [.sys, .log, .rcp, .hie, .mon] fr = true := by exact sub_of ‹sub _ _ = true› rfl) : ∃ t, execRecipeWritten bad s = .next t ∧ Keep fr s0 t := by
  unfold execRecipeWritten
  refine ⟨_, rfl, ?_⟩
  try dsimp only
  repeat' first | exact sub_of hp rfl | (with_reducible first | assumption | apply onRcp_keep | apply emit_keep | apply setSlotOf_keep | apply rcpDone_keep | refine pair_keep (by assumption) ?_) | split | intro _

theorem execSlotErased_keep {fr : List Part} {s0 : State} (s : State) (hs : Keep fr s0 s) (hp : sub [.sys, .rcp, .hie, .mon] fr = true := by exact sub_of ‹sub _ _ = true› rfl) : ∃ t, execSlotErased s = .next t ∧ Keep fr s0 t := by
  unfold execSlotErased
  refine ⟨_, rfl, ?_⟩
  try dsimp only
  repeat' first | exact sub_of hp rfl | (with_reducible first | assumption | apply setSlotOf_keep | apply rcpDone_keep | refine pair_keep (by assumption) ?_) | split | intro _

theorem keepPort_keep {fr : List Part} {s0 : State} (old : State) (s : State) (p : PortId) (hs : Keep fr s0 s) (hp : sub [.sys, .sol, .log, .hie, .mon] fr = true := by exact sub_of ‹sub _ _ = true› rfl) : Keep fr s0 (State.keepPort old s p) := by
  unfold State.keepPort
  try dsimp only
  repeat' first | exact sub_of hp rfl | (with_reducible first | assumption | apply delayNews_keep | apply clearDelays_keep | apply coilStart_keep | refine pair_keep (by assumption) ?_) | split | intro _

theorem restartFan_keep {fr : List Part} {s0 : State} (old : State) (s : State) (f : FanId) (hs : Keep fr s0 s) (hp : sub [.sys, .ports, .sol, .log, .hie, .mon, .fan] fr = true := by exact sub_of ‹sub _ _ = true› rfl) : Keep fr s0 (State.restartFan old s f) := by
  unfold State.restartFan
  try dsimp only
  repeat' first | exact sub_of hp rfl | (with_reducible first | assumption | apply setFan_keep | apply clearAge_keep | apply fanAuto_keep | refine pair_keep (by assumption) ?_) | split | intro _

theorem reloadBank_keep {fr : List Part} {s0 : State} (s : State) (b : BankId) (hs : Keep fr s0 s) (hp : sub [.sys, .ports, .banks, .sol, .log, .rcp, .hie, .mon, .fan, .sct] fr = true := by exact sub_of ‹sub _ _ = true› rfl) : Keep fr s0 (State.reloadBank s b) := by
  unfold State.reloadBank
  try dsimp only
  repeat' first | exact sub_of hp rfl | (with_reducible first | assumption | apply onRcp_keep | apply draw_keep | apply emit_keep | apply emitAll_keep | apply setPorts_keep | apply sectsOff_keep | apply bankDown_keep | apply bankUp_keep | apply loadCarrier_keep | apply keepPort_keep | apply restartFan_keep | apply foldl_keep | apply foldl_fst_keep | refine pair_keep (by assumption) ?_) | split | intro _

theorem reloadIdleSlots_keep {fr : List Part} {s0 : State} (s : State) (hs : Keep fr s0 s) (hp : sub [.sys, .log, .rcp, .hie, .mon, .eng] fr = true := by exact sub_of ‹sub _ _ = true› rfl) : Keep fr s0 (State.reloadIdleSlots s) := by
  unfold State.reloadIdleSlots
  try dsimp only
  repeat' first | exact sub_of hp rfl | (with_reducible first | assumption | apply takeUnit_keep | apply foldl_keep | apply foldl_fst_keep | refine pair_keep (by assumption) ?_) | split | intro _

theorem execReloadCommit_keep {fr : List Part} {s0 : State} (s : State) (hs : Keep fr s0 s) (hp : sub [.sys, .ports, .banks, .sol, .log, .rcp, .hie, .mon, .fan, .eng, .sct] fr = true := by exact sub_of ‹sub _ _ = true› rfl) : ∃ t, execReloadCommit s = .next t ∧ Keep fr s0 t := by
  unfold execReloadCommit
  refine ⟨_, rfl, ?_⟩
  try dsimp only
  repeat' first | exact sub_of hp rfl | (with_reducible first | assumption | apply onRcp_keep | apply reloadBank_keep | apply reloadIdleSlots_keep | apply foldl_keep | apply foldl_fst_keep | refine pair_keep (by assumption) ?_) | split | intro _

theorem reloadSeq_keep {fr : List Part} {s0 : State} (s : State) (q : SeqId) (hs : Keep fr s0 s) (hp : sub [.sys, .log, .rcp, .mon, .seq] fr = true := by exact sub_of ‹sub _ _ = true› rfl) : Keep fr s0 (State.reloadSeq s q) := by
  unfold State.reloadSeq
  try dsimp only
  repeat' first | exact sub_of hp rfl | (with_reducible first | assumption | apply onRcp_keep | apply emit_keep | apply seqRelease_keep | refine pair_keep (by assumption) ?_) | split | intro _

theorem execReloadDone_keep {fr : List Part} {s0 : State} (s : State) (hs : Keep fr s0 s) (hp : sub [.sys, .log, .rcp, .mon, .seq] fr = true := by exact sub_of ‹sub _ _ = true› rfl) : ∃ t, execReloadDone s = .next t ∧ Keep fr s0 t := by
  unfold execReloadDone
  refine ⟨_, rfl, ?_⟩
  try dsimp only
  repeat' first | exact sub_of hp rfl | (with_reducible first | assumption | apply onRcp_keep | apply emit_keep | apply setSlotOf_keep | apply reloadSeq_keep | apply foldl_keep | apply foldl_fst_keep | refine pair_keep (by assumption) ?_) | split | intro _

theorem execReloadAborted_keep {fr : List Part} {s0 : State} (s : State) (hs : Keep fr s0 s) (hp : sub [.sys, .log, .rcp, .mon, .seq] fr = true := by exact sub_of ‹sub _ _ = true› rfl) : ∃ t, execReloadAborted s = .next t ∧ Keep fr s0 t := by
  unfold execReloadAborted
  refine ⟨_, rfl, ?_⟩
  try dsimp only
  repeat' first | exact sub_of hp rfl | (with_reducible first | assumption | apply onRcp_keep | apply setSeq_keep | apply emit_keep | apply seqState_keep | apply foldl_keep | apply foldl_fst_keep | refine pair_keep (by assumption) ?_) | split | intro _

theorem ofLe_le4 (n : Nat) (l : List Byte) : ofLe (((le 4 n ++ l).drop 0).take 4) = n % 2 ^ 32 := by
  simp only [le, List.cons_append, List.nil_append, List.drop_zero, List.take_succ_cons, List.take_zero, ofLe, BitVec.toNat_ofNat]
  omega

theorem record_seq (s : State) (e : Q8Entry) (kept : Bool) (p : Nat) (h : List Byte) : RecSlot.seq { pos := p, bytes := recBytes (s.recBody e kept) h } = s.log.nextSeq % 2 ^ 32 := by
  unfold RecSlot.seq RecSlot.num recBytes State.recBody
  simp only [List.append_assoc]
  exact ofLe_le4 _ _

theorem putRecord_keep {fr : List Part} {s0 : State} (s : State) (bytes : List Byte) (h : List Byte) (kept : Bool) (hs : Keep fr s0 s)
    (hb : ∀ p, RecSlot.seq { pos := p, bytes := bytes } = s.log.nextSeq % 2 ^ 32) (hk : kept = true → s.log.keep.length < keepSize) (hp : sub [.log] fr = true := by exact sub_of ‹sub _ _ = true› rfl) : Keep fr s0 (State.putRecord s bytes h kept) := by
  unfold State.putRecord
  refine onLog_keep _ _ hs (fun x hx => hx) ?_ (sub_of hp rfl)
  refine ⟨⟨[{ pos := s.log.nextPos, bytes := bytes }], ?_, ?_, ?_⟩, ?_⟩
  · dsimp only
    rw [List.take_take, Nat.min_self]; rfl
  · dsimp only
    rw [Nat.mod_mod]; rfl
  · intro j r hr
    cases j with
    | zero => cases hr; exact hb _
    | succ j => simp at hr
  · cases kept with
    | true => exact ⟨_, rfl, Or.inr (by have := hk rfl; dsimp only; rw [if_pos rfl, List.length_append]; simp; omega)⟩
    | false => exact ⟨[], (List.append_nil _).symm, Or.inl rfl⟩

theorem record_keep {fr : List Part} {s0 : State} (s : State) (e : Q8Entry) (hs : Keep fr s0 s) (hp : sub [.sys, .log, .mon] fr = true := by exact sub_of ‹sub _ _ = true› rfl) : Keep fr s0 (State.record s e) := by
  unfold State.record
  dsimp only
  have h : Keep fr s0 (s.putRecord (recBytes (s.recBody e (s.keeps e)) (chainOf s.log.chainBefore (s.recBody e (s.keeps e)))) (chainOf s.log.chainBefore (s.recBody e (s.keeps e))) (s.keeps e)) :=
    putRecord_keep _ _ _ _ hs (fun p => record_seq _ _ _ _ _) (fun q => by
      unfold State.keeps at q
      simp only [Bool.and_eq_true, decide_eq_true_eq] at q
      exact q.2) (sub_of hp rfl)
  split
  · exact emit_keep _ _ (onLog_keep _ _ (count_keep _ _ _ h (sub_of hp rfl)) (fun x hx => hx) (LogLe.same rfl rfl rfl) (sub_of hp rfl)) hp
  · exact count_keep _ _ _ h (sub_of hp rfl)

theorem commit_keep {fr : List Part} {s0 : State} (s : State) (e : Q8Entry) (hs : Keep fr s0 s) (hp : sub [.sys, .log, .mon] fr = true := by exact sub_of ‹sub _ _ = true› rfl) : Keep fr s0 (s.commit e) :=
  record_keep _ _ (onLog_keep _ _ hs fun x h => by simp only [List.length_drop]; omega)

theorem execRecordCommit_keep {fr : List Part} {s0 : State} (s : State) (hs : Keep fr s0 s) (hp : sub [.sys, .log, .mon] fr = true := by exact sub_of ‹sub _ _ = true› rfl) : ∃ t, execRecordCommit s = .next t ∧ Keep fr s0 t := by
  unfold execRecordCommit
  refine ⟨_, rfl, ?_⟩
  try dsimp only
  repeat' first | exact sub_of hp rfl | (with_reducible first | assumption | apply commit_keep | refine pair_keep (by assumption) ?_) | split | intro _

theorem execLostEvents_keep {fr : List Part} {s0 : State} (s : State) (hs : Keep fr s0 s) (hp : sub [.sys, .log] fr = true := by exact sub_of ‹sub _ _ = true› rfl) : ∃ t, execLostEvents s = .next t ∧ Keep fr s0 t := by
  refine ⟨_, rfl, ?_⟩
  split
  · exact hs
  · rename_i h
    split
    · exact hs
    · refine pushQ8_keep _ _ (setBucket_keep _ _ _ hs) ?_
      show s.log.q8.length < 64
      omega

theorem recover_keep {fr : List Part} {s0 : State} (s : State) (torn : Bool) (hs : Keep fr s0 s) (hp : sub [.sys, .log, .mon] fr = true := by exact sub_of ‹sub _ _ = true› rfl) : Keep fr s0 (State.recover s torn) := by
  unfold State.recover
  dsimp only
  refine foldl_keep ?_ fun s e h => record_keep s e h hp
  refine onLog_keep _ _ hs (fun x hx => hx) ?_ (sub_of hp rfl)
  refine ⟨⟨[], rfl, rfl, fun j r h => by simp at h⟩, ?_⟩
  dsimp only
  split
  · split
    · exact ⟨_, rfl, Or.inr (by rw [List.length_append]; simp; omega)⟩
    · exact ⟨[], (List.append_nil _).symm, Or.inl rfl⟩
  · exact ⟨[], (List.append_nil _).symm, Or.inl rfl⟩

theorem execRecorderStart_keep {fr : List Part} {s0 : State} (torn : Bool) (s : State) (hs : Keep fr s0 s) (hp : sub [.sys, .log, .mon] fr = true := by exact sub_of ‹sub _ _ = true› rfl) : ∃ t, execRecorderStart torn s = .next t ∧ Keep fr s0 t := by
  unfold execRecorderStart
  refine ⟨_, rfl, ?_⟩
  try dsimp only
  repeat' first | exact sub_of hp rfl | (with_reducible first | assumption | apply recover_keep | refine pair_keep (by assumption) ?_) | split | intro _

theorem flushQ8_keep' {fr : List Part} {s0 : State} (n : Nat) (hp : sub [.sys, .log, .mon] fr = true) : ∀ s : State, Keep fr s0 s → Keep fr s0 (State.flushQ8 n s) := by
  induction n with
  | zero => intro s hs; exact hs
  | succ n ih =>
    intro s hs
    unfold State.flushQ8
    split
    · exact ih _ (commit_keep _ _ hs)
    · exact hs

theorem flushQ8_keep {fr : List Part} {s0 : State} (n : Nat) (s : State) (h0 : Keep fr s0 s) (hp : sub [.sys, .log, .mon] fr = true := by exact sub_of ‹sub _ _ = true› rfl) : Keep fr s0 (State.flushQ8 n s) := flushQ8_keep' n hp s h0

theorem saveOps_keep {fr : List Part} {s0 : State} (s : State) (hs : Keep fr s0 s) (hp : sub [.log] fr = true := by exact sub_of ‹sub _ _ = true› rfl) : Keep fr s0 (State.saveOps s) := by
  unfold State.saveOps
  try dsimp only
  repeat' first | exact sub_of hp rfl | exact LogLe.same rfl rfl rfl | (with_reducible first | assumption | apply onLog_keep | refine pair_keep (by assumption) ?_) | split | intro _ | exact fun x hx => hx

theorem execOpsSSave_keep {fr : List Part} {s0 : State} (s : State) (hs : Keep fr s0 s) (hp : sub [.log] fr = true := by exact sub_of ‹sub _ _ = true› rfl) : ∃ t, execOpsSSave s = .next t ∧ Keep fr s0 t := by
  unfold execOpsSSave
  try dsimp only
  repeat' first | exact sub_of hp rfl | (with_reducible first | assumption | apply saveOps_keep | refine pair_keep (by assumption) ?_) | split | refine ⟨_, rfl, ?_⟩ | exact fun _ h => h | intro _

theorem readWinseq_keep {fr : List Part} {s0 : State} (s : State) (hs : Keep fr s0 s) (hp : sub [.log, .gns, .eng, .dma] fr = true := by exact sub_of ‹sub _ _ = true› rfl) : Keep fr s0 s.readWinseq.1 := by
  unfold State.readWinseq
  split
  · refine onLog_keep _ _ hs (fun x h => ?_) ?_ (sub_of hp rfl)
    · unfold RecState.advance
      (repeat' split) <;> exact h
    · unfold RecState.advance
      (repeat' split) <;> exact LogLe.same rfl rfl rfl
  · exact hs

theorem readResult_keep {fr : List Part} {s0 : State} (s : State) (r : Except Status Word) (hs : Keep fr s0 s) (hp : sub [.sys] fr = true := by exact sub_of ‹sub _ _ = true› rfl) : Keep fr s0 (s.readResult r).1 := by
  unfold State.readResult
  split
  · exact returns_keep _ hs
  · exact hs

theorem execRecWindowRead_keep {fr : List Part} {s0 : State} (w : Fin 16) (k : SessId) (s : State) (hs : Keep fr s0 s) (hp : sub [.sys, .hie, .mon] fr = true := by exact sub_of ‹sub _ _ = true› rfl) : ∃ t, execRecWindowRead w k s = .next t ∧ Keep fr s0 t := by
  unfold execRecWindowRead
  refine ⟨_, rfl, ?_⟩
  try dsimp only
  repeat' first | exact sub_of hp rfl | (with_reducible first | assumption | apply gated_keep | apply readResult_keep | refine pair_keep (by assumption) ?_) | split | intro _

theorem execRecWinseqRead_keep {fr : List Part} {s0 : State} (k : SessId) (s : State) (hs : Keep fr s0 s) (hp : sub [.sys, .log, .gns, .hie, .mon, .eng, .dma] fr = true := by exact sub_of ‹sub _ _ = true› rfl) : ∃ t, execRecWinseqRead k s = .next t ∧ Keep fr s0 t := by
  unfold execRecWinseqRead
  refine ⟨_, rfl, ?_⟩
  try dsimp only
  repeat' first | exact sub_of hp rfl | (with_reducible first | assumption | apply gated_keep | apply readWinseq_keep | apply readResult_keep | refine pair_keep (by assumption) ?_) | split | intro _

theorem closePeriod_keep {fr : List Part} {s0 : State} (s : State) (cause : Nat) (hs : Keep fr s0 s) (hp : sub [.mon] fr = true := by exact sub_of ‹sub _ _ = true› rfl) : Keep fr s0 (State.closePeriod s cause) := by
  unfold State.closePeriod
  try dsimp only
  repeat' first | exact sub_of hp rfl | (with_reducible first | assumption | apply onMon_keep | refine pair_keep (by assumption) ?_) | split | intro _

theorem execPeriodBoundary_keep {fr : List Part} {s0 : State} (sec : Bool) (step : Bool) (beacon : Bool) (s : State) (hs : Keep fr s0 s) (hp : sub [.mon] fr = true := by exact sub_of ‹sub _ _ = true› rfl) : ∃ t, execPeriodBoundary sec step beacon s = .next t ∧ Keep fr s0 t := by
  unfold execPeriodBoundary
  refine ⟨_, rfl, ?_⟩
  try dsimp only
  repeat' first | exact sub_of hp rfl | (with_reducible first | assumption | apply closePeriod_keep | refine pair_keep (by assumption) ?_) | split | intro _

theorem execMonCounterSat_keep {fr : List Part} {s0 : State} (n : MonId) (s : State) (hs : Keep fr s0 s) (hp : sub [.sys, .log, .mon] fr = true := by exact sub_of ‹sub _ _ = true› rfl) : ∃ t, execMonCounterSat n s = .next t ∧ Keep fr s0 t := by
  unfold execMonCounterSat
  refine ⟨_, rfl, ?_⟩
  try dsimp only
  repeat' first | exact sub_of hp rfl | (with_reducible first | assumption | apply onMon_keep | apply emit_keep | refine pair_keep (by assumption) ?_) | split | intro _

theorem execLatch_keep {fr : List Part} {s0 : State} (k : SessId) (s : State) (hs : Keep fr s0 s) (hp : sub [.sys, .hie, .mon] fr = true := by exact sub_of ‹sub _ _ = true› rfl) : ∃ t, execLatch k s = .next t ∧ Keep fr s0 t := by
  unfold execLatch
  refine ⟨_, rfl, ?_⟩
  try dsimp only
  repeat' first | exact sub_of hp rfl | (with_reducible first | assumption | apply gated_keep | apply closePeriod_keep | refine pair_keep (by assumption) ?_) | split | intro _

theorem writePcfg_keep {fr : List Part} {s0 : State} (s : State) (v : Word) (hs : Keep fr s0 s) (hp : sub [.mon] fr = true := by exact sub_of ‹sub _ _ = true› rfl) : Keep fr s0 (State.writePcfg s v).1 := by
  unfold State.writePcfg
  try dsimp only
  repeat' first | exact sub_of hp rfl | (with_reducible first | assumption | apply onMon_keep | refine pair_keep (by assumption) ?_) | split | intro _

theorem writePcfg2_keep {fr : List Part} {s0 : State} (s : State) (v : Word) (hs : Keep fr s0 s) (hp : sub [.mon] fr = true := by exact sub_of ‹sub _ _ = true› rfl) : Keep fr s0 (State.writePcfg2 s v).1 := by
  unfold State.writePcfg2
  try dsimp only
  repeat' first | exact sub_of hp rfl | (with_reducible first | assumption | apply onMon_keep | refine pair_keep (by assumption) ?_) | split | intro _

theorem execMonPcfgWrite_keep {fr : List Part} {s0 : State} (second : Bool) (v : Word) (k : SessId) (s : State) (hs : Keep fr s0 s) (hp : sub [.sys, .hie, .mon] fr = true := by exact sub_of ‹sub _ _ = true› rfl) : ∃ t, execMonPcfgWrite second v k s = .next t ∧ Keep fr s0 t := by
  unfold execMonPcfgWrite
  refine ⟨_, rfl, ?_⟩
  try dsimp only
  repeat' first | exact sub_of hp rfl | (with_reducible first | assumption | apply gated_keep | apply writePcfg_keep | apply writePcfg2_keep | refine pair_keep (by assumption) ?_) | split | intro _

theorem readLivel_keep {fr : List Part} {s0 : State} (s : State) (n : MonId) (hs : Keep fr s0 s) (hp : sub [.mon] fr = true := by exact sub_of ‹sub _ _ = true› rfl) : Keep fr s0 (State.readLivel s n).1 := by
  unfold State.readLivel
  try dsimp only
  repeat' first | exact sub_of hp rfl | (with_reducible first | assumption | apply onMon_keep | refine pair_keep (by assumption) ?_) | split | intro _

theorem execMonLivelRead_keep {fr : List Part} {s0 : State} (n : MonId) (k : SessId) (s : State) (hs : Keep fr s0 s) (hp : sub [.sys, .hie, .mon] fr = true := by exact sub_of ‹sub _ _ = true› rfl) : ∃ t, execMonLivelRead n k s = .next t ∧ Keep fr s0 t := by
  unfold execMonLivelRead
  refine ⟨_, rfl, ?_⟩
  try dsimp only
  repeat' first | exact sub_of hp rfl | (with_reducible first | assumption | apply onSys_keep | apply gated_keep | apply readLivel_keep | refine pair_keep (by assumption) ?_) | split | intro _

theorem writeCalU_keep {fr : List Part} {s0 : State} (s : State) (i : Fin 33) (c : Fin 8) (v : Word) (k : SessId) (hs : Keep fr s0 s) (hp : sub [.sys, .log, .mon, .cal] fr = true := by exact sub_of ‹sub _ _ = true› rfl) : Keep fr s0 (State.writeCalU s i c v k).1 := by
  unfold State.writeCalU
  try dsimp only
  repeat' first | exact sub_of hp rfl | (with_reducible first | assumption | apply onCal_keep | apply emit_keep | refine pair_keep (by assumption) ?_) | split | intro _

theorem execCalUserSet_keep {fr : List Part} {s0 : State} (i : Fin 33) (c : Fin 8) (v : Word) (k : SessId) (s : State) (hs : Keep fr s0 s) (hp : sub [.sys, .log, .hie, .mon, .cal] fr = true := by exact sub_of ‹sub _ _ = true› rfl) : ∃ t, execCalUserSet i c v k s = .next t ∧ Keep fr s0 t := by
  unfold execCalUserSet
  refine ⟨_, rfl, ?_⟩
  try dsimp only
  repeat' first | exact sub_of hp rfl | (with_reducible first | assumption | apply gated_keep | apply writeCalU_keep | refine pair_keep (by assumption) ?_) | split | intro _

theorem execCalUserStore_keep {fr : List Part} {s0 : State} (s : State) (hs : Keep fr s0 s) (hp : sub [.cal] fr = true := by exact sub_of ‹sub _ _ = true› rfl) : ∃ t, execCalUserStore s = .next t ∧ Keep fr s0 t := by
  unfold execCalUserStore
  refine ⟨_, rfl, ?_⟩
  try dsimp only
  repeat' first | exact sub_of hp rfl | (with_reducible first | assumption | apply onCal_keep | refine pair_keep (by assumption) ?_) | split | intro _

theorem writeCalCmd_keep {fr : List Part} {s0 : State} (s : State) (v : Word) (k : SessId) (hs : Keep fr s0 s) (hp : sub [.sys, .log, .mon, .cal] fr = true := by exact sub_of ‹sub _ _ = true› rfl) : Keep fr s0 (State.writeCalCmd s v k).1 := by
  unfold State.writeCalCmd
  try dsimp only
  repeat' first | exact sub_of hp rfl | (with_reducible first | assumption | apply onCal_keep | apply emit_keep | refine pair_keep (by assumption) ?_) | split | intro _

theorem execCalClr_keep {fr : List Part} {s0 : State} (v : Word) (k : SessId) (s : State) (hs : Keep fr s0 s) (hp : sub [.sys, .log, .hie, .mon, .cal] fr = true := by exact sub_of ‹sub _ _ = true› rfl) : ∃ t, execCalClr v k s = .next t ∧ Keep fr s0 t := by
  unfold execCalClr
  refine ⟨_, rfl, ?_⟩
  try dsimp only
  repeat' first | exact sub_of hp rfl | (with_reducible first | assumption | apply gated_keep | apply writeCalCmd_keep | refine pair_keep (by assumption) ?_) | split | intro _

theorem powerOff_keep {fr : List Part} {s0 : State} (s : State) (hs : Keep fr s0 s) (hp : sub [.sys, .ports, .banks, .sol, .log, .rcp, .sec, .pwr, .tmb, .gns, .hie, .mon, .cal, .fan, .eng, .sct, .can, .hl, .apu, .dma, .seq, .mem] fr = true := by exact sub_of ‹sub _ _ = true› rfl) : Keep fr s0 s.powerOff :=
  ⟨fun i => ⟨rfl, Nat.zero_le _, Nat.zero_le _, Nat.zero_le _, Nat.zero_le _, Nat.zero_le _⟩, hs.pend, hs.sec.trans ⟨fun _ => Nat.le_refl _, Nat.le_refl _, Nat.le_refl _⟩, hs.only_of (qs := _) hp (fun p h => by cases p <;> first | exact absurd (by decide) h | rfl), hs.log.trans (LogLe.same rfl rfl rfl)⟩

theorem chipReset_keep {fr : List Part} {s0 : State} (s : State) (kind : ResetKind) (detail : Nat) (hs : Keep fr s0 s) (hp : sub [.sys, .ports, .banks, .sol, .log, .rcp, .sec, .pwr, .tmb, .gns, .hie, .mon, .cal, .fan, .eng, .sct, .can, .hl, .apu, .dma, .seq, .mem] fr = true := by exact sub_of ‹sub _ _ = true› rfl) : Keep fr s0 (State.chipReset s kind detail) := by
  unfold State.chipReset
  try dsimp only
  repeat' first | exact sub_of hp rfl | (with_reducible first | assumption | apply onPwr_keep | apply powerOff_keep | refine pair_keep (by assumption) ?_) | split | intro _

theorem tripOff_keep {fr : List Part} {s0 : State} (s : State) (hs : Keep fr s0 s) (hp : sub [.pwr, .fan] fr = true := by exact sub_of ‹sub _ _ = true› rfl) : Keep fr s0 (State.tripOff s) := by
  unfold State.tripOff
  try dsimp only
  repeat' first | exact sub_of hp rfl | (with_reducible first | assumption | apply onPwr_keep | apply onFan_keep | refine pair_keep (by assumption) ?_) | split | intro _

theorem execPllLoss_keep {fr : List Part} {s0 : State} (s : State) (hs : Keep fr s0 s) (hp : sub [.sys, .ports, .banks, .sol, .log, .rcp, .sec, .pwr, .tmb, .gns, .hie, .mon, .cal, .fan, .eng, .sct, .can, .hl, .apu, .dma, .seq, .mem] fr = true := by exact sub_of ‹sub _ _ = true› rfl) : ∃ t, execPllLoss s = .next t ∧ Keep fr s0 t := by
  unfold execPllLoss
  refine ⟨_, rfl, ?_⟩
  try dsimp only
  repeat' first | exact sub_of hp rfl | (with_reducible first | assumption | apply chipReset_keep | refine pair_keep (by assumption) ?_) | split | intro _

theorem execLockstepMismatch_keep {fr : List Part} {s0 : State} (pair : Nat) (s : State) (hs : Keep fr s0 s) (hp : sub [.sys, .ports, .banks, .sol, .log, .rcp, .sec, .pwr, .tmb, .gns, .hie, .mon, .cal, .fan, .eng, .sct, .can, .hl, .apu, .dma, .seq, .mem] fr = true := by exact sub_of ‹sub _ _ = true› rfl) : ∃ t, execLockstepMismatch pair s = .next t ∧ Keep fr s0 t := by
  unfold execLockstepMismatch
  refine ⟨_, rfl, ?_⟩
  try dsimp only
  repeat' first | exact sub_of hp rfl | (with_reducible first | assumption | apply chipReset_keep | refine pair_keep (by assumption) ?_) | split | intro _

theorem execWatchdog_keep {fr : List Part} {s0 : State} (pair : Nat) (s : State) (hs : Keep fr s0 s) (hp : sub [.sys, .ports, .banks, .sol, .log, .rcp, .sec, .pwr, .tmb, .gns, .hie, .mon, .cal, .fan, .eng, .sct, .can, .hl, .apu, .dma, .seq, .mem] fr = true := by exact sub_of ‹sub _ _ = true› rfl) : ∃ t, execWatchdog pair s = .next t ∧ Keep fr s0 t := by
  unfold execWatchdog
  refine ⟨_, rfl, ?_⟩
  try dsimp only
  repeat' first | exact sub_of hp rfl | (with_reducible first | assumption | apply chipReset_keep | refine pair_keep (by assumption) ?_) | split | intro _

theorem execBrownout_keep {fr : List Part} {s0 : State} (s : State) (hs : Keep fr s0 s) (hp : sub [.sys, .ports, .banks, .sol, .log, .rcp, .sec, .pwr, .tmb, .gns, .hie, .mon, .cal, .fan, .eng, .sct, .can, .hl, .apu, .dma, .seq, .mem] fr = true := by exact sub_of ‹sub _ _ = true› rfl) : ∃ t, execBrownout s = .next t ∧ Keep fr s0 t := by
  unfold execBrownout
  refine ⟨_, rfl, ?_⟩
  try dsimp only
  repeat' first | exact sub_of hp rfl | (with_reducible first | assumption | apply onPwr_keep | apply chipReset_keep | apply tripOff_keep | refine pair_keep (by assumption) ?_) | split | intro _

theorem cmdRestart_keep {fr : List Part} {s0 : State} (s : State) (k : SessId) (hs : Keep fr s0 s) (hp : sub [.sys, .ports, .banks, .sol, .log, .rcp, .sec, .pwr, .tmb, .gns, .hie, .mon, .cal, .fan, .eng, .sct, .can, .hl, .apu, .dma, .seq, .mem] fr = true := by exact sub_of ‹sub _ _ = true› rfl) : Keep fr s0 (State.cmdRestart s k) := by
  unfold State.cmdRestart
  try dsimp only
  repeat' first | exact sub_of hp rfl | (with_reducible first | assumption | apply answer_keep | apply chipReset_keep | refine pair_keep (by assumption) ?_) | split | intro _

theorem execRecipeRestart_keep {fr : List Part} {s0 : State} (k : SessId) (s : State) (hs : Keep fr s0 s) (hp : sub [.sys, .ports, .banks, .sol, .log, .rcp, .sec, .pwr, .tmb, .gns, .hie, .mon, .cal, .fan, .eng, .sct, .can, .hl, .apu, .dma, .seq, .mem] fr = true := by exact sub_of ‹sub _ _ = true› rfl) : ∃ t, execRecipeRestart k s = .next t ∧ Keep fr s0 t := by
  unfold execRecipeRestart
  refine ⟨_, rfl, ?_⟩
  try dsimp only
  repeat' first | exact sub_of hp rfl | (with_reducible first | assumption | apply cmdRestart_keep | refine pair_keep (by assumption) ?_) | split | intro _

theorem execD0SupplyLost_keep {fr : List Part} {s0 : State} (s : State) (hs : Keep fr s0 s) (hp : sub [.sec, .pwr, .tmb] fr = true := by exact sub_of ‹sub _ _ = true› rfl) : ∃ t, execD0SupplyLost s = .next t ∧ Keep fr s0 t := by
  unfold execD0SupplyLost
  refine ⟨_, rfl, ?_⟩
  try dsimp only
  repeat' first | exact sub_of hp rfl | (with_reducible first | assumption | apply onSec_keep | apply onPwr_keep | apply onTmb_keep | refine pair_keep (by assumption) ?_) | split | intro _ | exact ⟨fun _ => Nat.le_refl _, Nat.le_refl _, Nat.le_refl _⟩

theorem startKindRow_keep {fr : List Part} {s0 : State} (s : State) (addr : Nat) (housing : Int) (hs : Keep fr s0 s) (hp : sub [.sys, .log, .sec, .pwr] fr = true := by exact sub_of ‹sub _ _ = true› rfl) : Keep fr s0 (State.startKindRow s addr housing) := by
  unfold State.startKindRow
  try dsimp only
  repeat' first | exact sub_of hp rfl | exact LogLe.same rfl rfl rfl | (with_reducible first | assumption | apply onSys_keep | apply onLog_keep | apply onSec_keep | apply onPwr_keep | refine pair_keep (by assumption) ?_) | split | intro _ | exact fun x hx => hx | exact ⟨fun _ => Nat.le_refl _, Nat.le_refl _, Nat.le_refl _⟩

theorem resetCause_keep {fr : List Part} {s0 : State} (s : State) (down : Nat) (hs : Keep fr s0 s) (hp : sub [.sys, .log, .mon] fr = true := by exact sub_of ‹sub _ _ = true› rfl) : Keep fr s0 (State.resetCause s down) := by
  unfold State.resetCause
  try dsimp only
  repeat' first | exact sub_of hp rfl | (with_reducible first | assumption | apply emit_keep | refine pair_keep (by assumption) ?_) | split | intro _

theorem startCores_keep {fr : List Part} {s0 : State} (s : State) (hs : Keep fr s0 s) (hp : sub [.sys, .log, .sec, .pwr, .mon, .can, .hl, .apu, .dma] fr = true := by exact sub_of ‹sub _ _ = true› rfl) : Keep fr s0 (State.startCores s) := by
  unfold State.startCores
  try dsimp only
  repeat' first | exact sub_of hp rfl | (with_reducible first | assumption | apply onSec_keep | apply onPwr_keep | apply tamperActs_keep | refine pair_keep (by assumption) ?_) | split | intro _ | exact ⟨fun _ => Nat.le_refl _, Nat.le_refl _, Nat.le_refl _⟩

theorem stopAt_keep {fr : List Part} {s0 : State} (s : State) (row : Nat) (hs : Keep fr s0 s) (hp : sub [.pwr] fr = true := by exact sub_of ‹sub _ _ = true› rfl) : Keep fr s0 (State.stopAt s row) := by
  unfold State.stopAt
  try dsimp only
  repeat' first | exact sub_of hp rfl | (with_reducible first | assumption | apply onPwr_keep | refine pair_keep (by assumption) ?_) | split | intro _

theorem startRecipe_keep {fr : List Part} {s0 : State} (s : State) (above : List Nat) (hs : Keep fr s0 s) (hp : sub [.sys, .ports, .sol, .log, .rcp, .pwr, .tmb, .gns, .hie, .mon, .fan, .eng, .sct, .can, .seq] fr = true := by exact sub_of ‹sub _ _ = true› rfl) : Keep fr s0 (State.startRecipe s above) := by
  unfold State.startRecipe
  try dsimp only
  repeat' first | exact sub_of hp rfl | (with_reducible first | assumption | apply onPwr_keep | apply emit_keep | apply hieEmit_keep | apply applyRecipe_keep | apply selectRecipe_keep | apply chooseRecipe_keep | apply stopAt_keep | refine pair_keep (by assumption) ?_) | split | intro _

theorem execStart_keep {fr : List Part} {s0 : State} (addr : Nat) (rom : Bool) (page : Nat) (housing : Int) (down : Nat) (above : List Nat) (s : State) (hs : Keep fr s0 s) (hp : sub [.sys, .ports, .sol, .log, .rcp, .sec, .pwr, .tmb, .gns, .hie, .mon, .cal, .fan, .eng, .sct, .can, .hl, .apu, .dma, .seq] fr = true := by exact sub_of ‹sub _ _ = true› rfl) : ∃ t, execStart addr rom page housing down above s = .next t ∧ Keep fr s0 t := by
  unfold execStart
  refine ⟨_, rfl, ?_⟩
  try dsimp only
  repeat' first | exact sub_of hp rfl | (with_reducible first | assumption | apply onCal_keep | apply emit_keep | apply canEmit_keep | apply startKindRow_keep | apply resetCause_keep | apply startCores_keep | apply stopAt_keep | apply startRecipe_keep | refine pair_keep (by assumption) ?_) | split | intro _

theorem supplyDip_keep {fr : List Part} {s0 : State} (s : State) (hs : Keep fr s0 s) (hp : sub [.sys, .log, .pwr, .mon] fr = true := by exact sub_of ‹sub _ _ = true› rfl) : Keep fr s0 (State.supplyDip s) := by
  unfold State.supplyDip
  try dsimp only
  repeat' first | exact sub_of hp rfl | (with_reducible first | assumption | apply onPwr_keep | apply emit_keep | refine pair_keep (by assumption) ?_) | split | intro _

theorem execSupplyWarning_keep {fr : List Part} {s0 : State} (mv : Nat) (s : State) (hs : Keep fr s0 s) (hp : sub [.sys, .ports, .sol, .log, .pwr, .hie, .mon] fr = true := by exact sub_of ‹sub _ _ = true› rfl) : ∃ t, execSupplyWarning mv s = .next t ∧ Keep fr s0 t := by
  unfold execSupplyWarning
  refine ⟨_, rfl, ?_⟩
  try dsimp only
  repeat' first | exact sub_of hp rfl | (with_reducible first | assumption | apply onPwr_keep | apply mapSols_keep | apply interlock_keep | apply supplyDip_keep | refine pair_keep (by assumption) ?_) | split | intro _

theorem orderlySaves_keep {fr : List Part} {s0 : State} (s : State) (hs : Keep fr s0 s) (hp : sub [.sol, .log, .tmb, .gns, .fan] fr = true := by exact sub_of ‹sub _ _ = true› rfl) : Keep fr s0 (State.orderlySaves s) := by
  unfold State.orderlySaves
  try dsimp only
  repeat' first | exact sub_of hp rfl | (with_reducible first | assumption | apply onTmb_keep | apply onGns_keep | apply saveRtc_keep | apply saveAge_keep | apply saveDelays_keep | apply saveOps_keep | refine pair_keep (by assumption) ?_) | split | intro _

theorem execOrderlyPowerDown_keep {fr : List Part} {s0 : State} (s : State) (hs : Keep fr s0 s) (hp : sub [.sol, .log, .pwr, .tmb, .gns, .fan] fr = true := by exact sub_of ‹sub _ _ = true› rfl) : ∃ t, execOrderlyPowerDown s = .next t ∧ Keep fr s0 t := by
  unfold execOrderlyPowerDown
  refine ⟨_, rfl, ?_⟩
  try dsimp only
  repeat' first | exact sub_of hp rfl | (with_reducible first | assumption | apply onPwr_keep | apply orderlySaves_keep | refine pair_keep (by assumption) ?_) | split | intro _

theorem execSupplyWarningEnd_keep {fr : List Part} {s0 : State} (least : Nat) (s : State) (hs : Keep fr s0 s) (hp : sub [.sys, .ports, .sol, .log, .pwr, .hie, .mon] fr = true := by exact sub_of ‹sub _ _ = true› rfl) : ∃ t, execSupplyWarningEnd least s = .next t ∧ Keep fr s0 t := by
  unfold execSupplyWarningEnd
  refine ⟨_, rfl, ?_⟩
  try dsimp only
  repeat' first | exact sub_of hp rfl | (with_reducible first | assumption | apply onPwr_keep | apply interlock_keep | apply supplyDip_keep | refine pair_keep (by assumption) ?_) | split | intro _

theorem dropLate_keep {fr : List Part} {s0 : State} (s : State) (p : PortId) (d : Pend) (hs : Keep fr s0 s) (hp : sub [.sys, .sol, .log, .pwr, .hie, .mon, .sct] fr = true := by exact sub_of ‹sub _ _ = true› rfl) : Keep fr s0 (State.dropLate s p d) := by
  unfold State.dropLate
  try dsimp only
  repeat' first | exact sub_of hp rfl | (with_reducible first | assumption | apply onPwr_keep | apply dropPend_keep | apply sectRefused_keep | refine pair_keep (by assumption) ?_) | split | intro _

theorem goOn_keep {fr : List Part} {s0 : State} (s : State) (p : PortId) (d : Pend) (hs : Keep fr s0 s) (hp : sub [.sys, .ports, .sol, .log, .pwr, .hie, .mon] fr = true := by exact sub_of ‹sub _ _ = true› rfl) : Keep fr s0 (State.goOn s p d) := by
  unfold State.goOn
  try dsimp only
  repeat' first | exact sub_of hp rfl | (with_reducible first | assumption | apply onPwr_keep | apply count_keep | apply setSol_keep | apply onGroup_keep | apply startWaiting_keep | refine pair_keep (by assumption) ?_) | split | intro _

theorem execDeferredOnRelease_keep {fr : List Part} {s0 : State} (s : State) (hs : Keep fr s0 s) (hp : sub [.sys, .ports, .sol, .log, .pwr, .hie, .mon, .sct] fr = true := by exact sub_of ‹sub _ _ = true› rfl) : ∃ t, execDeferredOnRelease s = .next t ∧ Keep fr s0 t := by
  unfold execDeferredOnRelease
  refine ⟨_, rfl, ?_⟩
  try dsimp only
  repeat' first | exact sub_of hp rfl | (with_reducible first | assumption | apply supplyDip_keep | apply dropLate_keep | apply goOn_keep | refine pair_keep (by assumption) ?_) | split | intro _

theorem holdBank_keep {fr : List Part} {s0 : State} (s : State) (b : BankId) (hs : Keep fr s0 s) (hp : sub [.sys, .ports, .banks, .sol, .log, .hie, .mon] fr = true := by exact sub_of ‹sub _ _ = true› rfl) : Keep fr s0 (State.holdBank s b) := by
  unfold State.holdBank
  try dsimp only
  repeat' first | exact sub_of hp rfl | (with_reducible first | assumption | apply setBank_keep | apply bankDown_keep | refine pair_keep (by assumption) ?_) | split | intro _

theorem bankFault_keep {fr : List Part} {s0 : State} (s : State) (b : BankId) (cause : Fin 3) (mv : Nat) (hs : Keep fr s0 s) (hp : sub [.sys, .ports, .banks, .sol, .log, .pwr, .hie, .mon] fr = true := by exact sub_of ‹sub _ _ = true› rfl) : Keep fr s0 (State.bankFault s b cause mv) := by
  unfold State.bankFault
  try dsimp only
  repeat' first | exact sub_of hp rfl | (with_reducible first | assumption | apply onPwr_keep | apply emit_keep | apply interlock_keep | apply holdBank_keep | refine pair_keep (by assumption) ?_) | split | intro _

theorem execBankSupplyFault_keep {fr : List Part} {s0 : State} (b : BankId) (above : Bool) (mv : Nat) (s : State) (hs : Keep fr s0 s) (hp : sub [.sys, .ports, .banks, .sol, .log, .pwr, .hie, .mon] fr = true := by exact sub_of ‹sub _ _ = true› rfl) : ∃ t, execBankSupplyFault b above mv s = .next t ∧ Keep fr s0 t := by
  unfold execBankSupplyFault
  refine ⟨_, rfl, ?_⟩
  try dsimp only
  repeat' first | exact sub_of hp rfl | (with_reducible first | assumption | apply bankFault_keep | refine pair_keep (by assumption) ?_) | split | intro _

theorem execBankSupplyOk_keep {fr : List Part} {s0 : State} (b : BankId) (c : Fin 3) (mv : Nat) (s : State) (hs : Keep fr s0 s) (hp : sub [.sys, .ports, .banks, .sol, .log, .pwr, .hie, .mon] fr = true := by exact sub_of ‹sub _ _ = true› rfl) : ∃ t, execBankSupplyOk b c mv s = .next t ∧ Keep fr s0 t := by
  unfold execBankSupplyOk
  refine ⟨_, rfl, ?_⟩
  try dsimp only
  repeat' first | exact sub_of hp rfl | (with_reducible first | assumption | apply onPwr_keep | apply emit_keep | apply setBank_keep | apply bankUp_keep | refine pair_keep (by assumption) ?_) | split | intro _

theorem execDomainPowerFail_keep {fr : List Part} {s0 : State} (d : Fin 12) (mv : Nat) (s : State) (hs : Keep fr s0 s) (hp : sub [.sys, .ports, .banks, .sol, .log, .rcp, .sec, .pwr, .tmb, .gns, .hie, .mon, .cal, .fan, .eng, .sct, .can, .hl, .apu, .dma, .seq, .mem] fr = true := by exact sub_of ‹sub _ _ = true› rfl) : ∃ t, execDomainPowerFail d mv s = .next t ∧ Keep fr s0 t := by
  unfold execDomainPowerFail
  refine ⟨_, rfl, ?_⟩
  try dsimp only
  repeat' first | exact sub_of hp rfl | (with_reducible first | assumption | apply chipReset_keep | apply bankFault_keep | refine pair_keep (by assumption) ?_) | split | intro _

theorem execDomainReset_keep {fr : List Part} {s0 : State} (d : Fin 12) (s : State) (hs : Keep fr s0 s) (hp : sub [.ports, .pwr] fr = true := by exact sub_of ‹sub _ _ = true› rfl) : ∃ t, execDomainReset d s = .next t ∧ Keep fr s0 t := by
  unfold execDomainReset
  refine ⟨_, rfl, ?_⟩
  try dsimp only
  repeat' first | exact sub_of hp rfl | (with_reducible first | assumption | apply onPwr_keep | apply setPorts_keep | refine pair_keep (by assumption) ?_) | split | intro _

theorem enterLow_keep {fr : List Part} {s0 : State} (s : State) (sleep : Bool) (k : SessId) (hs : Keep fr s0 s) (hp : sub [.sys, .ports, .banks, .sol, .log, .rcp, .sec, .pwr, .tmb, .gns, .hie, .mon, .cal, .fan, .eng, .sct, .can, .hl, .apu, .dma, .seq, .mem] fr = true := by exact sub_of ‹sub _ _ = true› rfl) : Keep fr s0 (State.enterLow s sleep k) := by
  unfold State.enterLow
  try dsimp only
  repeat' first | exact sub_of hp rfl | (with_reducible first | assumption | apply onPwr_keep | apply emit_keep | apply answer_keep | apply endAll_keep | apply bankDown_keep | apply flushQ8_keep | apply powerOff_keep | apply tripOff_keep | apply orderlySaves_keep | apply foldl_keep | apply foldl_fst_keep | refine pair_keep (by assumption) ?_) | split | intro _

theorem cmdLow_keep {fr : List Part} {s0 : State} (s : State) (sleep : Bool) (k : SessId) (hs : Keep fr s0 s) (hp : sub [.sys, .ports, .banks, .sol, .log, .rcp, .sec, .pwr, .tmb, .gns, .hie, .mon, .cal, .fan, .eng, .sct, .can, .hl, .apu, .dma, .seq, .mem] fr = true := by exact sub_of ‹sub _ _ = true› rfl) : Keep fr s0 (State.cmdLow s sleep k) := by
  unfold State.cmdLow
  try dsimp only
  repeat' first | exact sub_of hp rfl | (with_reducible first | assumption | apply answer_keep | apply enterLow_keep | refine pair_keep (by assumption) ?_) | split | intro _

theorem execStandby_keep {fr : List Part} {s0 : State} (k : SessId) (s : State) (hs : Keep fr s0 s) (hp : sub [.sys, .ports, .banks, .sol, .log, .rcp, .sec, .pwr, .tmb, .gns, .hie, .mon, .cal, .fan, .eng, .sct, .can, .hl, .apu, .dma, .seq, .mem] fr = true := by exact sub_of ‹sub _ _ = true› rfl) : ∃ t, execStandby k s = .next t ∧ Keep fr s0 t := by
  unfold execStandby
  refine ⟨_, rfl, ?_⟩
  try dsimp only
  repeat' first | exact sub_of hp rfl | (with_reducible first | assumption | apply cmdLow_keep | refine pair_keep (by assumption) ?_) | split | intro _

theorem execSleep_keep {fr : List Part} {s0 : State} (k : SessId) (s : State) (hs : Keep fr s0 s) (hp : sub [.sys, .ports, .banks, .sol, .log, .rcp, .sec, .pwr, .tmb, .gns, .hie, .mon, .cal, .fan, .eng, .sct, .can, .hl, .apu, .dma, .seq, .mem] fr = true := by exact sub_of ‹sub _ _ = true› rfl) : ∃ t, execSleep k s = .next t ∧ Keep fr s0 t := by
  unfold execSleep
  refine ⟨_, rfl, ?_⟩
  try dsimp only
  repeat' first | exact sub_of hp rfl | (with_reducible first | assumption | apply cmdLow_keep | refine pair_keep (by assumption) ?_) | split | intro _

theorem wake_keep {fr : List Part} {s0 : State} (s : State) (src : Nat) (high : Bool) (hs : Keep fr s0 s) (hp : sub [.pwr] fr = true := by exact sub_of ‹sub _ _ = true› rfl) : Keep fr s0 (State.wake s src high) := by
  unfold State.wake
  try dsimp only
  repeat' first | exact sub_of hp rfl | (with_reducible first | assumption | apply onPwr_keep | refine pair_keep (by assumption) ?_) | split | intro _

theorem execWakePin_keep {fr : List Part} {s0 : State} (high : Bool) (s : State) (hs : Keep fr s0 s) (hp : sub [.pwr] fr = true := by exact sub_of ‹sub _ _ = true› rfl) : ∃ t, execWakePin high s = .next t ∧ Keep fr s0 t := by
  unfold execWakePin
  refine ⟨_, rfl, ?_⟩
  try dsimp only
  repeat' first | exact sub_of hp rfl | (with_reducible first | assumption | apply wake_keep | refine pair_keep (by assumption) ?_) | split | intro _

theorem execRtcAlarm_keep {fr : List Part} {s0 : State} (high : Bool) (s : State) (hs : Keep fr s0 s) (hp : sub [.pwr, .tmb] fr = true := by exact sub_of ‹sub _ _ = true› rfl) : ∃ t, execRtcAlarm high s = .next t ∧ Keep fr s0 t := by
  unfold execRtcAlarm
  refine ⟨_, rfl, ?_⟩
  try dsimp only
  repeat' first | exact sub_of hp rfl | (with_reducible first | assumption | apply onTmb_keep | apply wake_keep | refine pair_keep (by assumption) ?_) | split | intro _

theorem execCanWake_keep {fr : List Part} {s0 : State} (high : Bool) (s : State) (hs : Keep fr s0 s) (hp : sub [.pwr] fr = true := by exact sub_of ‹sub _ _ = true› rfl) : ∃ t, execCanWake high s = .next t ∧ Keep fr s0 t := by
  unfold execCanWake
  refine ⟨_, rfl, ?_⟩
  try dsimp only
  repeat' first | exact sub_of hp rfl | (with_reducible first | assumption | apply wake_keep | refine pair_keep (by assumption) ?_) | split | intro _

theorem execLogicWake_keep {fr : List Part} {s0 : State} (s : State) (hs : Keep fr s0 s) (hp : sub [.pwr] fr = true := by exact sub_of ‹sub _ _ = true› rfl) : ∃ t, execLogicWake s = .next t ∧ Keep fr s0 t := by
  unfold execLogicWake
  refine ⟨_, rfl, ?_⟩
  try dsimp only
  repeat' first | exact sub_of hp rfl | (with_reducible first | assumption | apply wake_keep | refine pair_keep (by assumption) ?_) | split | intro _

theorem execWakeDetectorResume_keep {fr : List Part} {s0 : State} (s : State) (hs : Keep fr s0 s) (hp : sub [.pwr] fr = true := by exact sub_of ‹sub _ _ = true› rfl) : ∃ t, execWakeDetectorResume s = .next t ∧ Keep fr s0 t := by
  unfold execWakeDetectorResume
  refine ⟨_, rfl, ?_⟩
  try dsimp only
  repeat' first | exact sub_of hp rfl | (with_reducible first | assumption | apply onPwr_keep | refine pair_keep (by assumption) ?_) | split | intro _

theorem readRtcl_keep {fr : List Part} {s0 : State} (s : State) (hs : Keep fr s0 s) (hp : sub [.pwr] fr = true := by exact sub_of ‹sub _ _ = true› rfl) : Keep fr s0 (State.readRtcl s).1 := by
  unfold State.readRtcl
  try dsimp only
  repeat' first | exact sub_of hp rfl | (with_reducible first | assumption | apply onPwr_keep | refine pair_keep (by assumption) ?_) | split | intro _

theorem execPwrRtclRead_keep {fr : List Part} {s0 : State} (k : SessId) (s : State) (hs : Keep fr s0 s) (hp : sub [.sys, .pwr, .hie, .mon] fr = true := by exact sub_of ‹sub _ _ = true› rfl) : ∃ t, execPwrRtclRead k s = .next t ∧ Keep fr s0 t := by
  unfold execPwrRtclRead
  refine ⟨_, rfl, ?_⟩
  try dsimp only
  repeat' first | exact sub_of hp rfl | (with_reducible first | assumption | apply gated_keep | apply returns_keep | apply readRtcl_keep | refine pair_keep (by assumption) ?_) | split | intro _

theorem writePwrCfg_keep {fr : List Part} {s0 : State} (s : State) (v : Word) (hs : Keep fr s0 s) (hp : sub [.pwr] fr = true := by exact sub_of ‹sub _ _ = true› rfl) : Keep fr s0 (State.writePwrCfg s v).1 := by
  unfold State.writePwrCfg
  try dsimp only
  repeat' first | exact sub_of hp rfl | (with_reducible first | assumption | apply onPwr_keep | refine pair_keep (by assumption) ?_) | split | intro _

theorem execPwrCfgWrite_keep {fr : List Part} {s0 : State} (v : Word) (k : SessId) (s : State) (hs : Keep fr s0 s) (hp : sub [.sys, .pwr, .hie, .mon] fr = true := by exact sub_of ‹sub _ _ = true› rfl) : ∃ t, execPwrCfgWrite v k s = .next t ∧ Keep fr s0 t := by
  unfold execPwrCfgWrite
  refine ⟨_, rfl, ?_⟩
  try dsimp only
  repeat' first | exact sub_of hp rfl | (with_reducible first | assumption | apply gated_keep | apply writePwrCfg_keep | refine pair_keep (by assumption) ?_) | split | intro _

theorem execTcxoCount_keep {fr : List Part} {s0 : State} (n : Nat) (s : State) (hs : Keep fr s0 s) (hp : sub [.pwr] fr = true := by exact sub_of ‹sub _ _ = true› rfl) : ∃ t, execTcxoCount n s = .next t ∧ Keep fr s0 t := by
  unfold execTcxoCount
  refine ⟨_, rfl, ?_⟩
  try dsimp only
  repeat' first | exact sub_of hp rfl | (with_reducible first | assumption | apply onPwr_keep | refine pair_keep (by assumption) ?_) | split | intro _

theorem execAonEdgeMissing_keep {fr : List Part} {s0 : State} (s : State) (hs : Keep fr s0 s) (hp : sub [.pwr, .tmb] fr = true := by exact sub_of ‹sub _ _ = true› rfl) : ∃ t, execAonEdgeMissing s = .next t ∧ Keep fr s0 t := by
  unfold execAonEdgeMissing
  refine ⟨_, rfl, ?_⟩
  try dsimp only
  repeat' first | exact sub_of hp rfl | (with_reducible first | assumption | apply onPwr_keep | apply onTmb_keep | refine pair_keep (by assumption) ?_) | split | intro _

theorem clearCrossings_keep {fr : List Part} {s0 : State} (s : State) (hs : Keep fr s0 s) (hp : sub [.pwr] fr = true := by exact sub_of ‹sub _ _ = true› rfl) : Keep fr s0 (State.clearCrossings s) := by
  unfold State.clearCrossings
  try dsimp only
  repeat' first | exact sub_of hp rfl | (with_reducible first | assumption | apply onPwr_keep | refine pair_keep (by assumption) ?_) | split | intro _

theorem execXclr_keep {fr : List Part} {s0 : State} (k : SessId) (s : State) (hs : Keep fr s0 s) (hp : sub [.sys, .pwr, .hie, .mon] fr = true := by exact sub_of ‹sub _ _ = true› rfl) : ∃ t, execXclr k s = .next t ∧ Keep fr s0 t := by
  unfold execXclr
  refine ⟨_, rfl, ?_⟩
  try dsimp only
  repeat' first | exact sub_of hp rfl | (with_reducible first | assumption | apply gated_keep | apply clearCrossings_keep | refine pair_keep (by assumption) ?_) | split | intro _

theorem execSnapshotFallback_keep {fr : List Part} {s0 : State} (p : Fin 13) (s : State) (hs : Keep fr s0 s) (hp : sub [.pwr] fr = true := by exact sub_of ‹sub _ _ = true› rfl) : ∃ t, execSnapshotFallback p s = .next t ∧ Keep fr s0 t := by
  unfold execSnapshotFallback
  refine ⟨_, rfl, ?_⟩
  try dsimp only
  repeat' first | exact sub_of hp rfl | (with_reducible first | assumption | apply onPwr_keep | refine pair_keep (by assumption) ?_) | split | intro _

theorem hwmRst_keep {fr : List Part} {s0 : State} (s : State) (q : Fin 16) (hs : Keep fr s0 s) (hp : sub [.sys] fr = true := by exact sub_of ‹sub _ _ = true› rfl) : Keep fr s0 (State.hwmRst s q) := by
  unfold State.hwmRst
  try dsimp only
  repeat' first | exact sub_of hp rfl | (with_reducible first | assumption | apply onSys_keep | refine pair_keep (by assumption) ?_) | split | intro _

theorem ovfClr_keep {fr : List Part} {s0 : State} (s : State) (q : Fin 16) (hs : Keep fr s0 s) (hp : sub [.sys] fr = true := by exact sub_of ‹sub _ _ = true› rfl) : Keep fr s0 (State.ovfClr s q) := by
  unfold State.ovfClr
  try dsimp only
  repeat' first | exact sub_of hp rfl | (with_reducible first | assumption | apply onSys_keep | refine pair_keep (by assumption) ?_) | split | intro _

theorem writeQstat_keep {fr : List Part} {s0 : State} (s : State) (q : Fin 16) (v : Word) (hs : Keep fr s0 s) (hp : sub [.sys] fr = true := by exact sub_of ‹sub _ _ = true› rfl) : Keep fr s0 (State.writeQstat s q v).1 := by
  unfold State.writeQstat
  try dsimp only
  repeat' first | exact sub_of hp rfl | (with_reducible first | assumption | apply hwmRst_keep | apply ovfClr_keep | refine pair_keep (by assumption) ?_) | split | intro _

theorem execHwmRst_keep {fr : List Part} {s0 : State} (q : Fin 16) (k : SessId) (s : State) (hs : Keep fr s0 s) (hp : sub [.sys, .hie, .mon] fr = true := by exact sub_of ‹sub _ _ = true› rfl) : ∃ t, execHwmRst q k s = .next t ∧ Keep fr s0 t := by
  unfold execHwmRst
  refine ⟨_, rfl, ?_⟩
  try dsimp only
  repeat' first | exact sub_of hp rfl | (with_reducible first | assumption | apply gated_keep | apply hwmRst_keep | refine pair_keep (by assumption) ?_) | split | intro _

theorem execOvfClr_keep {fr : List Part} {s0 : State} (q : Fin 16) (k : SessId) (s : State) (hs : Keep fr s0 s) (hp : sub [.sys, .hie, .mon] fr = true := by exact sub_of ‹sub _ _ = true› rfl) : ∃ t, execOvfClr q k s = .next t ∧ Keep fr s0 t := by
  unfold execOvfClr
  refine ⟨_, rfl, ?_⟩
  try dsimp only
  repeat' first | exact sub_of hp rfl | (with_reducible first | assumption | apply gated_keep | apply ovfClr_keep | refine pair_keep (by assumption) ?_) | split | intro _

theorem writeReqMode_keep {fr : List Part} {s0 : State} (s : State) (v : Word) (k : SessId) (hs : Keep fr s0 s) (hp : sub [.sys] fr = true := by exact sub_of ‹sub _ _ = true› rfl) : Keep fr s0 (State.writeReqMode s v k).1 := by
  unfold State.writeReqMode
  try dsimp only
  repeat' first | exact sub_of hp rfl | (with_reducible first | assumption | apply onSys_keep | refine pair_keep (by assumption) ?_) | split | intro _

theorem execModeRequest_keep {fr : List Part} {s0 : State} (v : Word) (k : SessId) (s : State) (hs : Keep fr s0 s) (hp : sub [.sys, .hie, .mon] fr = true := by exact sub_of ‹sub _ _ = true› rfl) : ∃ t, execModeRequest v k s = .next t ∧ Keep fr s0 t := by
  unfold execModeRequest
  refine ⟨_, rfl, ?_⟩
  try dsimp only
  repeat' first | exact sub_of hp rfl | (with_reducible first | assumption | apply gated_keep | apply writeReqMode_keep | refine pair_keep (by assumption) ?_) | split | intro _

theorem execPipelineBUp_keep {fr : List Part} {s0 : State} (s : State) (hs : Keep fr s0 s) (hp : sub [.sys] fr = true := by exact sub_of ‹sub _ _ = true› rfl) : ∃ t, execPipelineBUp s = .next t ∧ Keep fr s0 t := by
  unfold execPipelineBUp
  refine ⟨_, rfl, ?_⟩
  try dsimp only
  repeat' first | exact sub_of hp rfl | (with_reducible first | assumption | apply onSys_keep | refine pair_keep (by assumption) ?_) | split | intro _

theorem execModeSwitchEdge_keep {fr : List Part} {s0 : State} (s : State) (hs : Keep fr s0 s) (hp : sub [.sys, .log, .mon] fr = true := by exact sub_of ‹sub _ _ = true› rfl) : ∃ t, execModeSwitchEdge s = .next t ∧ Keep fr s0 t := by
  unfold execModeSwitchEdge
  refine ⟨_, rfl, ?_⟩
  try dsimp only
  repeat' first | exact sub_of hp rfl | (with_reducible first | assumption | apply onSys_keep | apply emit_keep | apply settlePipeB_keep | refine pair_keep (by assumption) ?_) | split | intro _

end Sys2Proof.Machine
end

