-- ==== Sys2Proof/Laws/KeepReg.lean ====
section
/-! SUPPORT. What every operation keeps, of the registers. -/

namespace Sys2Proof.Machine

set_option linter.all false
set_option Elab.async false

open Sys2Proof

theorem hlEmit_keep {fr : List Part} {s0 : State} (s : State) (code : Nat) (k : Option SessId) (a : Nat) (b : Nat) (hs : Keep fr s0 s) (hp : sub [.sys, .log, .mon] fr = true := by exact sub_of ‹sub _ _ = true› rfl) : Keep fr s0 (State.hlEmit s code k a b) := by
  unfold State.hlEmit
  try dsimp only
  repeat' first | exact sub_of hp rfl | (with_reducible first | assumption | apply emit_keep | refine pair_keep (by assumption) ?_) | split | intro _

theorem saveNet_keep {fr : List Part} {s0 : State} (s : State) (k : SessId) (hs : Keep fr s0 s) (hp : sub [.sys, .log, .mon, .hl] fr = true := by exact sub_of ‹sub _ _ = true› rfl) : Keep fr s0 (State.saveNet s k).1 := by
  unfold State.saveNet
  try dsimp only
  repeat' first | exact sub_of hp rfl | (with_reducible first | assumption | apply onHl_keep | apply hlEmit_keep | refine pair_keep (by assumption) ?_) | split | intro _

theorem execSave_keep {fr : List Part} {s0 : State} (k : SessId) (s : State) (hs : Keep fr s0 s) (hp : sub [.sys, .log, .hie, .mon, .hl] fr = true := by exact sub_of ‹sub _ _ = true› rfl) : ∃ t, execSave k s = .next t ∧ Keep fr s0 t := by
  unfold execSave
  refine ⟨_, rfl, ?_⟩
  try dsimp only
  repeat' first | exact sub_of hp rfl | (with_reducible first | assumption | apply gated_keep | apply saveNet_keep | refine pair_keep (by assumption) ?_) | split | intro _

theorem execHostLinkDown_keep {fr : List Part} {s0 : State} (up : Bool) (s : State) (hs : Keep fr s0 s) (hp : sub [.sys, .log, .mon, .hl] fr = true := by exact sub_of ‹sub _ _ = true› rfl) : ∃ t, execHostLinkDown up s = .next t ∧ Keep fr s0 t := by
  unfold execHostLinkDown
  refine ⟨_, rfl, ?_⟩
  try dsimp only
  repeat' first | exact sub_of hp rfl | (with_reducible first | assumption | apply onHl_keep | apply hlEmit_keep | refine pair_keep (by assumption) ?_) | split | intro _

theorem noOp_keep {fr : List Part} {s0 : State} (gate : SessId → State → Status) (st : Status) (k : SessId) (s : State) (hs : Keep fr s0 s) (hp : sub [.sys, .hie, .mon] fr = true := by exact sub_of ‹sub _ _ = true› rfl) : ∃ t, noOp gate st k s = .next t ∧ Keep fr s0 t := by
  unfold noOp
  refine ⟨_, rfl, ?_⟩
  try dsimp only
  repeat' first | exact sub_of hp rfl | (with_reducible first | assumption | apply gated_keep | apply hgate | refine pair_keep (by assumption) ?_) | split | intro _

/-- Every part. -/
def allParts : List Part := [.sys, .ports, .banks, .sol, .log, .rcp, .sec, .pwr, .tmb, .gns, .hie, .mon, .cal, .fan, .eng, .sct, .can, .hl, .apu, .dma, .seq, .mem]

/-- The write and the read of a register keep what every operation keeps. -/
structure RegKeep (r : Reg) : Prop where
  wr : ∀ f, r.wr = some f → ∀ k v (fr : List Part) s0 s, sub allParts fr = true → Keep fr s0 s → Keep fr s0 (f k v s)
  rd : ∀ f, r.rd = some f → ∀ k (fr : List Part) s0 s, sub allParts fr = true → Keep fr s0 s → Keep fr s0 (f k s).1

/-- The same of a register that may be absent. -/
def ORegKeep (o : Option Reg) : Prop := ∀ r, o = some r → RegKeep r

theorem stateOf_keep {s0 s : State} {o : Out} (h : ∃ t, o = .next t ∧ Keep fr s0 t) : Keep fr s0 (stateOf s o) := by obtain ⟨t, rfl, ht⟩ := h; exact ht

theorem plain_rk (r : Reg) (h1 : r.wr = none) (h2 : r.rd = none) : RegKeep r := ⟨fun f h => absurd (h1.symm.trans h) nofun, fun f h => absurd (h2.symm.trans h) nofun⟩
theorem ro_rk (v : Nat) : RegKeep (.ro v) := plain_rk _ rfl rfl
theorem recipe_rk (v : Word) (m : Nat) : RegKeep (.recipe v m) := plain_rk _ rfl rfl
theorem idle_rk : RegKeep .idle := plain_rk _ rfl rfl
theorem val_rk (v : Word) (m : Nat) : RegKeep { val := v, rs := m } := plain_rk _ rfl rfl
theorem cmd_rk (v : Word) (f : SessId → Word → State → Out) (h : ∀ k w (fr : List Part) s0 s, sub allParts fr = true → Keep fr s0 s → ∃ t, f k w s = .next t ∧ Keep fr s0 t) : RegKeep (.cmd v f) :=
  ⟨fun g e k w fr s0 s hp hs => by cases e; obtain ⟨t, e, ht⟩ := h k w fr s0 s hp hs; show Keep fr s0 (stateOf s (f k w s)); rw [e]; exact ht, fun g e => by cases e⟩
theorem rw_rk (v : Word) (gate : SessId → State → Status) (f : Word → State → State × Status) (h : ∀ w (fr : List Part) s0 s, sub allParts fr = true → Keep fr s0 s → Keep fr s0 (f w s).1) : RegKeep (.rw v gate f) :=
  ⟨fun g e k w fr s0 s hp hs => by cases e; exact gated_keep _ _ _ _ hs fun s h' => h w fr s0 s hp h', fun g e => by cases e⟩
theorem wr_rk (r : Reg) (f : SessId → Word → State → State) (h1 : r.wr = some f) (h2 : r.rd = none) (h : ∀ k v (fr : List Part) s0 s, sub allParts fr = true → Keep fr s0 s → Keep fr s0 (f k v s)) : RegKeep r :=
  ⟨fun g e => Option.some.inj (h1.symm.trans e) ▸ h, fun g e => absurd (h2.symm.trans e) nofun⟩
theorem rd_rk (r : Reg) (f : SessId → State → State × Except Status Word) (h1 : r.wr = none) (h2 : r.rd = some f) (h : ∀ k (fr : List Part) s0 s, sub allParts fr = true → Keep fr s0 s → Keep fr s0 (f k s).1) : RegKeep r :=
  ⟨fun g e => absurd (h1.symm.trans e) nofun, fun g e => Option.some.inj (h2.symm.trans e) ▸ h⟩
theorem denied_rk (r : Reg) (h : RegKeep r) : RegKeep r.denied := ⟨fun f e k v fr s0 s hp hs => by cases e; exact answer_keep _ _ _ hs, h.rd⟩
theorem own_rk (g : SessId) (r : Reg) (h : RegKeep r) : RegKeep (r.own g) :=
  ⟨fun f e k v fr s0 s hp hs => by
    cases e
    cases hw : r.wr with
    | none => exact answer_keep _ _ _ hs
    | some f => dsimp only; split <;> first | exact h.wr f hw k v fr s0 s hp hs | exact answer_keep _ _ _ hs,
   fun f e k fr s0 s hp hs => by cases e; exact hs⟩
theorem none_rk : ORegKeep none := fun _ e => by cases e
theorem some_rk (r : Reg) (h : RegKeep r) : ORegKeep (some r) := fun _ e => by cases e; exact h
theorem map_rk (o : Option Reg) (f : Reg → Reg) (h : ORegKeep o) (hf : ∀ r, RegKeep r → RegKeep (f r)) : ORegKeep (o.map f) := fun r e => by
  cases o with
  | none => cases e
  | some x => cases e; exact hf _ (h _ rfl)
theorem when_rk (u : Bool) (o : Option Reg) (h : ORegKeep o) : ORegKeep (Reg.when u o) := by
  unfold Reg.when
  split
  · exact h
  · exact map_rk _ _ h fun _ _ => idle_rk

theorem portCmd_keep {fr : List Part} {s0 : State} (p : PortId) (k : SessId) (v : Word) (s : State) (hs : Keep fr s0 s) (hp : sub [.sys, .ports, .sol, .log, .hie, .mon] fr = true := by exact sub_of ‹sub _ _ = true› rfl) : ∃ t, portCmd p k v s = .next t ∧ Keep fr s0 t := by
  unfold portCmd
  try dsimp only
  repeat' first | exact sub_of hp rfl | (with_reducible first | assumption | apply execPortCmdOn_keep | apply execPortCmdOff_keep | apply noOp_keep | refine pair_keep (by assumption) ?_) | split | refine ⟨_, rfl, ?_⟩ | exact fun _ h => h | intro _

theorem fanCmdReg_keep {fr : List Part} {s0 : State} (f : FanId) (k : SessId) (v : Word) (s : State) (hs : Keep fr s0 s) (hp : sub [.sys, .ports, .sol, .log, .hie, .mon, .fan] fr = true := by exact sub_of ‹sub _ _ = true› rfl) : ∃ t, fanCmdReg f k v s = .next t ∧ Keep fr s0 t := by
  unfold fanCmdReg
  try dsimp only
  repeat' first | exact sub_of hp rfl | (with_reducible first | assumption | apply execEnable_keep | apply execDisable_keep | apply execTest_keep | apply execRestart_keep | apply noOp_keep | refine pair_keep (by assumption) ?_) | split | refine ⟨_, rfl, ?_⟩ | exact fun _ h => h | intro _

theorem regPort_rk (s : State) (p : PortId) (off : Nat) : ORegKeep (State.regPort s p off) := by
  unfold State.regPort
  try dsimp only
  repeat' first | exact sub_of hp rfl | exact LogLe.same rfl rfl rfl | (with_reducible first | assumption | exact sub_of ‹_› rfl | exact none_rk | apply some_rk | apply ro_rk | apply recipe_rk | apply idle_rk | apply cmd_rk | apply rw_rk | apply when_rk | apply map_rk | apply own_rk | apply denied_rk | refine plain_rk _ rfl rfl | refine rd_rk _ _ rfl rfl ?_ | refine wr_rk _ _ rfl rfl ?_ | apply stateOf_keep | apply execPortPwmPerWrite_keep | apply execPortPwmPhWrite_keep | apply execPortFaultClear_keep | apply portCmd_keep | apply onSys_keep | apply onHl_keep | apply onApu_keep | apply onTmb_keep | apply onMon_keep | apply onFan_keep | apply onPwr_keep | apply onRcp_keep | apply onSct_keep) | split | intro _ | intro _ | exact ⟨fun _ => Nat.le_refl _, Nat.le_refl _, Nat.le_refl _⟩ | exact fun x hx => hx | exact fun x => ⟨fun _ => Nat.le_refl _, Nat.le_refl _, Nat.le_refl _⟩ | apply onSec_keep | apply onLog_keep | exact ⟨_, rfl, by assumption⟩

theorem regSolPort_rk (s : State) (p : PortId) (off : Nat) : ORegKeep (State.regSolPort s p off) := by
  unfold State.regSolPort
  try dsimp only
  repeat' first | exact sub_of hp rfl | exact LogLe.same rfl rfl rfl | (with_reducible first | assumption | exact sub_of ‹_› rfl | exact none_rk | apply some_rk | apply ro_rk | apply recipe_rk | apply idle_rk | apply cmd_rk | apply rw_rk | apply when_rk | apply map_rk | apply own_rk | apply denied_rk | refine plain_rk _ rfl rfl | refine rd_rk _ _ rfl rfl ?_ | refine wr_rk _ _ rfl rfl ?_ | apply stateOf_keep | apply onSys_keep | apply onHl_keep | apply onApu_keep | apply onTmb_keep | apply onMon_keep | apply onFan_keep | apply onPwr_keep | apply onRcp_keep | apply onSct_keep) | split | intro _ | intro _ | exact ⟨fun _ => Nat.le_refl _, Nat.le_refl _, Nat.le_refl _⟩ | exact fun x hx => hx | exact fun x => ⟨fun _ => Nat.le_refl _, Nat.le_refl _, Nat.le_refl _⟩ | apply onSec_keep | apply onLog_keep | exact ⟨_, rfl, by assumption⟩

theorem regGroup_rk (s : State) (g : GroupId) (off : Nat) : ORegKeep (State.regGroup s g off) := by
  unfold State.regGroup
  try dsimp only
  repeat' first | exact sub_of hp rfl | exact LogLe.same rfl rfl rfl | (with_reducible first | assumption | exact sub_of ‹_› rfl | exact none_rk | apply some_rk | apply ro_rk | apply recipe_rk | apply idle_rk | apply cmd_rk | apply rw_rk | apply when_rk | apply map_rk | apply own_rk | apply denied_rk | refine plain_rk _ rfl rfl | refine rd_rk _ _ rfl rfl ?_ | refine wr_rk _ _ rfl rfl ?_ | apply stateOf_keep | apply onSys_keep | apply onHl_keep | apply onApu_keep | apply onTmb_keep | apply onMon_keep | apply onFan_keep | apply onPwr_keep | apply onRcp_keep | apply onSct_keep) | split | intro _ | intro _ | exact ⟨fun _ => Nat.le_refl _, Nat.le_refl _, Nat.le_refl _⟩ | exact fun x hx => hx | exact fun x => ⟨fun _ => Nat.le_refl _, Nat.le_refl _, Nat.le_refl _⟩ | apply onSec_keep | apply onLog_keep | exact ⟨_, rfl, by assumption⟩

theorem regTemplate_rk (s : State) (m : Nat) (off : Nat) : ORegKeep (State.regTemplate s m off) := by
  unfold State.regTemplate
  try dsimp only
  repeat' first | exact sub_of hp rfl | exact LogLe.same rfl rfl rfl | (with_reducible first | assumption | exact sub_of ‹_› rfl | exact none_rk | apply some_rk | apply ro_rk | apply recipe_rk | apply idle_rk | apply cmd_rk | apply rw_rk | apply when_rk | apply map_rk | apply own_rk | apply denied_rk | refine plain_rk _ rfl rfl | refine rd_rk _ _ rfl rfl ?_ | refine wr_rk _ _ rfl rfl ?_ | apply stateOf_keep | apply onSys_keep | apply onHl_keep | apply onApu_keep | apply onTmb_keep | apply onMon_keep | apply onFan_keep | apply onPwr_keep | apply onRcp_keep | apply onSct_keep) | split | intro _ | intro _ | exact ⟨fun _ => Nat.le_refl _, Nat.le_refl _, Nat.le_refl _⟩ | exact fun x hx => hx | exact fun x => ⟨fun _ => Nat.le_refl _, Nat.le_refl _, Nat.le_refl _⟩ | apply onSec_keep | apply onLog_keep | exact ⟨_, rfl, by assumption⟩

theorem regSol_rk (s : State) (a : Nat) : ORegKeep (State.regSol s a) := by
  unfold State.regSol
  try dsimp only
  repeat' first | exact sub_of hp rfl | exact LogLe.same rfl rfl rfl | (with_reducible first | assumption | exact sub_of ‹_› rfl | exact none_rk | apply some_rk | apply regSolPort_rk | apply regGroup_rk | apply regTemplate_rk | apply ro_rk | apply recipe_rk | apply idle_rk | apply cmd_rk | apply rw_rk | apply when_rk | apply map_rk | apply own_rk | apply denied_rk | refine plain_rk _ rfl rfl | refine rd_rk _ _ rfl rfl ?_ | refine wr_rk _ _ rfl rfl ?_ | apply stateOf_keep | apply execSolDselWrite_keep | apply execSolDclr_keep | apply onSys_keep | apply onHl_keep | apply onApu_keep | apply onTmb_keep | apply onMon_keep | apply onFan_keep | apply onPwr_keep | apply onRcp_keep | apply onSct_keep) | split | intro _ | intro _ | exact ⟨fun _ => Nat.le_refl _, Nat.le_refl _, Nat.le_refl _⟩ | exact fun x hx => hx | exact fun x => ⟨fun _ => Nat.le_refl _, Nat.le_refl _, Nat.le_refl _⟩ | apply onSec_keep | apply onLog_keep | exact ⟨_, rfl, by assumption⟩

theorem regFanAt_rk (s : State) (f : FanId) (off : Nat) : ORegKeep (State.regFanAt s f off) := by
  unfold State.regFanAt
  try dsimp only
  repeat' first | exact sub_of hp rfl | exact LogLe.same rfl rfl rfl | (with_reducible first | assumption | exact sub_of ‹_› rfl | exact none_rk | apply some_rk | apply ro_rk | apply recipe_rk | apply idle_rk | apply cmd_rk | apply rw_rk | apply when_rk | apply map_rk | apply own_rk | apply denied_rk | refine plain_rk _ rfl rfl | refine rd_rk _ _ rfl rfl ?_ | refine wr_rk _ _ rfl rfl ?_ | apply stateOf_keep | apply execFanMdutyWrite_keep | apply execFanHtempWrite_keep | apply execFanAgeclr_keep | apply fanCmdReg_keep | apply onSys_keep | apply onHl_keep | apply onApu_keep | apply onTmb_keep | apply onMon_keep | apply onFan_keep | apply onPwr_keep | apply onRcp_keep | apply onSct_keep) | split | intro _ | intro _ | exact ⟨fun _ => Nat.le_refl _, Nat.le_refl _, Nat.le_refl _⟩ | exact fun x hx => hx | exact fun x => ⟨fun _ => Nat.le_refl _, Nat.le_refl _, Nat.le_refl _⟩ | apply onSec_keep | apply onLog_keep | exact ⟨_, rfl, by assumption⟩

theorem regFan_rk (s : State) (a : Nat) : ORegKeep (State.regFan s a) := by
  unfold State.regFan
  try dsimp only
  repeat' first | exact sub_of hp rfl | exact LogLe.same rfl rfl rfl | (with_reducible first | assumption | exact sub_of ‹_› rfl | exact none_rk | apply some_rk | apply regFanAt_rk | apply ro_rk | apply recipe_rk | apply idle_rk | apply cmd_rk | apply rw_rk | apply when_rk | apply map_rk | apply own_rk | apply denied_rk | refine plain_rk _ rfl rfl | refine rd_rk _ _ rfl rfl ?_ | refine wr_rk _ _ rfl rfl ?_ | apply stateOf_keep | apply onSys_keep | apply onHl_keep | apply onApu_keep | apply onTmb_keep | apply onMon_keep | apply onFan_keep | apply onPwr_keep | apply onRcp_keep | apply onSct_keep) | split | intro _ | intro _ | exact ⟨fun _ => Nat.le_refl _, Nat.le_refl _, Nat.le_refl _⟩ | exact fun x hx => hx | exact fun x => ⟨fun _ => Nat.le_refl _, Nat.le_refl _, Nat.le_refl _⟩ | apply onSec_keep | apply onLog_keep | exact ⟨_, rfl, by assumption⟩

theorem slotCmdReg_keep {fr : List Part} {s0 : State} (n : SlotId) (k : SessId) (v : Word) (s : State) (hs : Keep fr s0 s) (hp : sub [.sys, .log, .hie, .mon, .eng] fr = true := by exact sub_of ‹sub _ _ = true› rfl) : ∃ t, slotCmdReg n k v s = .next t ∧ Keep fr s0 t := by
  unfold slotCmdReg
  try dsimp only
  repeat' first | exact sub_of hp rfl | (with_reducible first | assumption | apply slotCmd_keep | apply execSwap_keep | apply execClrflt_keep | apply execRstats_keep | refine pair_keep (by assumption) ?_) | split | refine ⟨_, rfl, ?_⟩ | exact fun _ h => h | intro _

theorem writeFlag_keep {fr : List Part} {s0 : State} (s : State) (n : SlotId) (v : Word) (hs : Keep fr s0 s) (hp : sub [.eng] fr = true := by exact sub_of ‹sub _ _ = true› rfl) : Keep fr s0 (State.writeFlag s n v).1 := by
  unfold State.writeFlag
  try dsimp only
  repeat' first | exact sub_of hp rfl | (with_reducible first | assumption | apply setSlot_keep | refine pair_keep (by assumption) ?_) | split | intro _

theorem seqCmdReg_keep {fr : List Part} {s0 : State} (q : SeqId) (k : SessId) (v : Word) (s : State) (hs : Keep fr s0 s) (hp : sub [.sys, .hie, .mon, .seq] fr = true := by exact sub_of ‹sub _ _ = true› rfl) : ∃ t, seqCmdReg q k v s = .next t ∧ Keep fr s0 t := by
  unfold seqCmdReg
  try dsimp only
  repeat' first | exact sub_of hp rfl | (with_reducible first | assumption | apply execSeqStart_keep | apply execSeqStop_keep | apply execSeqPause_keep | apply execSeqResume_keep | apply noOp_keep | refine pair_keep (by assumption) ?_) | split | refine ⟨_, rfl, ?_⟩ | exact fun _ h => h | intro _

theorem monCmdReg_keep {fr : List Part} {s0 : State} (k : SessId) (v : Word) (s : State) (hs : Keep fr s0 s) (hp : sub [.sys, .hie, .mon] fr = true := by exact sub_of ‹sub _ _ = true› rfl) : ∃ t, monCmdReg k v s = .next t ∧ Keep fr s0 t := by
  unfold monCmdReg
  try dsimp only
  repeat' first | exact sub_of hp rfl | (with_reducible first | assumption | apply execLatch_keep | apply noOp_keep | refine pair_keep (by assumption) ?_) | split | refine ⟨_, rfl, ?_⟩ | exact fun _ h => h | intro _

theorem regSlotAt_rk (s : State) (n : SlotId) (off : Nat) : ORegKeep (State.regSlotAt s n off) := by
  unfold State.regSlotAt
  try dsimp only
  repeat' first | exact sub_of hp rfl | exact LogLe.same rfl rfl rfl | (with_reducible first | assumption | exact sub_of ‹_› rfl | exact none_rk | apply some_rk | apply ro_rk | apply recipe_rk | apply idle_rk | apply cmd_rk | apply rw_rk | apply when_rk | apply map_rk | apply own_rk | apply denied_rk | refine plain_rk _ rfl rfl | refine rd_rk _ _ rfl rfl ?_ | refine wr_rk _ _ rfl rfl ?_ | apply stateOf_keep | apply execSlotModeRequest_keep | apply execSlotSpWrite_keep | apply execSlotManoutWrite_keep | apply execSlotBankWordWrite_keep | apply slotCmdReg_keep | apply writeFlag_keep | apply onSys_keep | apply onHl_keep | apply onApu_keep | apply onTmb_keep | apply onMon_keep | apply onFan_keep | apply onPwr_keep | apply onRcp_keep | apply onSct_keep) | split | intro _ | intro _ | exact ⟨fun _ => Nat.le_refl _, Nat.le_refl _, Nat.le_refl _⟩ | exact fun x hx => hx | exact fun x => ⟨fun _ => Nat.le_refl _, Nat.le_refl _, Nat.le_refl _⟩ | apply onSec_keep | apply onLog_keep | exact ⟨_, rfl, by assumption⟩

theorem regSlot_rk (s : State) (n : SlotId) (off : Nat) : ORegKeep (State.regSlot s n off) := by
  unfold State.regSlot
  try dsimp only
  repeat' first | exact sub_of hp rfl | exact LogLe.same rfl rfl rfl | (with_reducible first | assumption | exact sub_of ‹_› rfl | exact none_rk | apply some_rk | apply regSlotAt_rk | apply ro_rk | apply recipe_rk | apply idle_rk | apply cmd_rk | apply rw_rk | apply when_rk | apply map_rk | apply own_rk | apply denied_rk | refine plain_rk _ rfl rfl | refine rd_rk _ _ rfl rfl ?_ | refine wr_rk _ _ rfl rfl ?_ | apply stateOf_keep | apply onSys_keep | apply onHl_keep | apply onApu_keep | apply onTmb_keep | apply onMon_keep | apply onFan_keep | apply onPwr_keep | apply onRcp_keep | apply onSct_keep) | split | intro _ | intro _ | exact ⟨fun _ => Nat.le_refl _, Nat.le_refl _, Nat.le_refl _⟩ | exact fun x hx => hx | exact fun x => ⟨fun _ => Nat.le_refl _, Nat.le_refl _, Nat.le_refl _⟩ | apply onSec_keep | apply onLog_keep | exact ⟨_, rfl, by assumption⟩

theorem regTake_rk (s : State) (a : Nat) : ORegKeep (State.regTake s a) := by
  unfold State.regTake
  try dsimp only
  repeat' first | exact sub_of hp rfl | exact LogLe.same rfl rfl rfl | (with_reducible first | assumption | exact sub_of ‹_› rfl | exact none_rk | apply some_rk | apply ro_rk | apply recipe_rk | apply idle_rk | apply cmd_rk | apply rw_rk | apply when_rk | apply map_rk | apply own_rk | apply denied_rk | refine plain_rk _ rfl rfl | refine rd_rk _ _ rfl rfl ?_ | refine wr_rk _ _ rfl rfl ?_ | apply stateOf_keep | apply count_keep | apply setTake_keep | apply takeCmd_keep | apply onSys_keep | apply onHl_keep | apply onApu_keep | apply onTmb_keep | apply onMon_keep | apply onFan_keep | apply onPwr_keep | apply onRcp_keep | apply onSct_keep) | split | intro _ | intro _ | exact ⟨fun _ => Nat.le_refl _, Nat.le_refl _, Nat.le_refl _⟩ | exact fun x hx => hx | exact fun x => ⟨fun _ => Nat.le_refl _, Nat.le_refl _, Nat.le_refl _⟩ | apply onSec_keep | apply onLog_keep | exact ⟨_, rfl, by assumption⟩

theorem regCen_rk (s : State) (a : Nat) : ORegKeep (State.regCen s a) := by
  unfold State.regCen
  try dsimp only
  repeat' first | exact sub_of hp rfl | exact LogLe.same rfl rfl rfl | (with_reducible first | assumption | exact sub_of ‹_› rfl | exact none_rk | apply some_rk | apply regSlot_rk | apply regTake_rk | apply ro_rk | apply recipe_rk | apply idle_rk | apply cmd_rk | apply rw_rk | apply when_rk | apply map_rk | apply own_rk | apply denied_rk | refine plain_rk _ rfl rfl | refine rd_rk _ _ rfl rfl ?_ | refine wr_rk _ _ rfl rfl ?_ | apply stateOf_keep | apply onSys_keep | apply onHl_keep | apply onApu_keep | apply onTmb_keep | apply onMon_keep | apply onFan_keep | apply onPwr_keep | apply onRcp_keep | apply onSct_keep) | split | intro _ | intro _ | exact ⟨fun _ => Nat.le_refl _, Nat.le_refl _, Nat.le_refl _⟩ | exact fun x hx => hx | exact fun x => ⟨fun _ => Nat.le_refl _, Nat.le_refl _, Nat.le_refl _⟩ | apply onSec_keep | apply onLog_keep | exact ⟨_, rfl, by assumption⟩

theorem regSeqAt_rk (s : State) (q : SeqId) (off : Nat) : ORegKeep (State.regSeqAt s q off) := by
  unfold State.regSeqAt
  try dsimp only
  repeat' first | exact sub_of hp rfl | exact LogLe.same rfl rfl rfl | (with_reducible first | assumption | exact sub_of ‹_› rfl | exact none_rk | apply some_rk | apply ro_rk | apply recipe_rk | apply idle_rk | apply cmd_rk | apply rw_rk | apply when_rk | apply map_rk | apply own_rk | apply denied_rk | refine plain_rk _ rfl rfl | refine rd_rk _ _ rfl rfl ?_ | refine wr_rk _ _ rfl rfl ?_ | apply stateOf_keep | apply execSeqHcmdWrite_keep | apply seqCmdReg_keep | apply onSys_keep | apply onHl_keep | apply onApu_keep | apply onTmb_keep | apply onMon_keep | apply onFan_keep | apply onPwr_keep | apply onRcp_keep | apply onSct_keep) | split | intro _ | intro _ | exact ⟨fun _ => Nat.le_refl _, Nat.le_refl _, Nat.le_refl _⟩ | exact fun x hx => hx | exact fun x => ⟨fun _ => Nat.le_refl _, Nat.le_refl _, Nat.le_refl _⟩ | apply onSec_keep | apply onLog_keep | exact ⟨_, rfl, by assumption⟩

theorem regSeq_rk (s : State) (a : Nat) : ORegKeep (State.regSeq s a) := by
  unfold State.regSeq
  try dsimp only
  repeat' first | exact sub_of hp rfl | exact LogLe.same rfl rfl rfl | (with_reducible first | assumption | exact sub_of ‹_› rfl | exact none_rk | apply some_rk | apply regSeqAt_rk | apply ro_rk | apply recipe_rk | apply idle_rk | apply cmd_rk | apply rw_rk | apply when_rk | apply map_rk | apply own_rk | apply denied_rk | refine plain_rk _ rfl rfl | refine rd_rk _ _ rfl rfl ?_ | refine wr_rk _ _ rfl rfl ?_ | apply stateOf_keep | apply onSys_keep | apply onHl_keep | apply onApu_keep | apply onTmb_keep | apply onMon_keep | apply onFan_keep | apply onPwr_keep | apply onRcp_keep | apply onSct_keep) | split | intro _ | intro _ | exact ⟨fun _ => Nat.le_refl _, Nat.le_refl _, Nat.le_refl _⟩ | exact fun x hx => hx | exact fun x => ⟨fun _ => Nat.le_refl _, Nat.le_refl _, Nat.le_refl _⟩ | apply onSec_keep | apply onLog_keep | exact ⟨_, rfl, by assumption⟩

theorem regCounter_rk (s : State) (n : MonId) (off : Nat) : ORegKeep (State.regCounter s n off) := by
  unfold State.regCounter
  try dsimp only
  repeat' first | exact sub_of hp rfl | exact LogLe.same rfl rfl rfl | (with_reducible first | assumption | exact sub_of ‹_› rfl | exact none_rk | apply some_rk | apply ro_rk | apply recipe_rk | apply idle_rk | apply cmd_rk | apply rw_rk | apply when_rk | apply map_rk | apply own_rk | apply denied_rk | refine plain_rk _ rfl rfl | refine rd_rk _ _ rfl rfl ?_ | refine wr_rk _ _ rfl rfl ?_ | apply stateOf_keep | apply readLivel_keep | apply onSys_keep | apply onHl_keep | apply onApu_keep | apply onTmb_keep | apply onMon_keep | apply onFan_keep | apply onPwr_keep | apply onRcp_keep | apply onSct_keep) | split | intro _ | intro _ | exact ⟨fun _ => Nat.le_refl _, Nat.le_refl _, Nat.le_refl _⟩ | exact fun x hx => hx | exact fun x => ⟨fun _ => Nat.le_refl _, Nat.le_refl _, Nat.le_refl _⟩ | apply onSec_keep | apply onLog_keep | exact ⟨_, rfl, by assumption⟩

theorem regGauge_rk (s : State) (g : Fin 16) (off : Nat) : ORegKeep (State.regGauge s g off) := by
  unfold State.regGauge
  try dsimp only
  repeat' first | exact sub_of hp rfl | exact LogLe.same rfl rfl rfl | (with_reducible first | assumption | exact sub_of ‹_› rfl | exact none_rk | apply some_rk | apply ro_rk | apply recipe_rk | apply idle_rk | apply cmd_rk | apply rw_rk | apply when_rk | apply map_rk | apply own_rk | apply denied_rk | refine plain_rk _ rfl rfl | refine rd_rk _ _ rfl rfl ?_ | refine wr_rk _ _ rfl rfl ?_ | apply stateOf_keep | apply onSys_keep | apply onHl_keep | apply onApu_keep | apply onTmb_keep | apply onMon_keep | apply onFan_keep | apply onPwr_keep | apply onRcp_keep | apply onSct_keep) | split | intro _ | intro _ | exact ⟨fun _ => Nat.le_refl _, Nat.le_refl _, Nat.le_refl _⟩ | exact fun x hx => hx | exact fun x => ⟨fun _ => Nat.le_refl _, Nat.le_refl _, Nat.le_refl _⟩ | apply onSec_keep | apply onLog_keep | exact ⟨_, rfl, by assumption⟩

theorem regMon_rk (s : State) (a : Nat) : ORegKeep (State.regMon s a) := by
  unfold State.regMon
  try dsimp only
  repeat' first | exact sub_of hp rfl | exact LogLe.same rfl rfl rfl | (with_reducible first | assumption | exact sub_of ‹_› rfl | exact none_rk | apply some_rk | apply regCounter_rk | apply regGauge_rk | apply ro_rk | apply recipe_rk | apply idle_rk | apply cmd_rk | apply rw_rk | apply when_rk | apply map_rk | apply own_rk | apply denied_rk | refine plain_rk _ rfl rfl | refine rd_rk _ _ rfl rfl ?_ | refine wr_rk _ _ rfl rfl ?_ | apply stateOf_keep | apply execMonPcfgWrite_keep | apply monCmdReg_keep | apply onSys_keep | apply onHl_keep | apply onApu_keep | apply onTmb_keep | apply onMon_keep | apply onFan_keep | apply onPwr_keep | apply onRcp_keep | apply onSct_keep) | split | intro _ | intro _ | exact ⟨fun _ => Nat.le_refl _, Nat.le_refl _, Nat.le_refl _⟩ | exact fun x hx => hx | exact fun x => ⟨fun _ => Nat.le_refl _, Nat.le_refl _, Nat.le_refl _⟩ | apply onSec_keep | apply onLog_keep | exact ⟨_, rfl, by assumption⟩

theorem regChan_rk (s : State) (i : Fin 33) (c : Fin 8) (off : Nat) : ORegKeep (State.regChan s i c off) := by
  unfold State.regChan
  try dsimp only
  repeat' first | exact sub_of hp rfl | exact LogLe.same rfl rfl rfl | (with_reducible first | assumption | exact sub_of ‹_› rfl | exact none_rk | apply some_rk | apply ro_rk | apply recipe_rk | apply idle_rk | apply cmd_rk | apply rw_rk | apply when_rk | apply map_rk | apply own_rk | apply denied_rk | refine plain_rk _ rfl rfl | refine rd_rk _ _ rfl rfl ?_ | refine wr_rk _ _ rfl rfl ?_ | apply stateOf_keep | apply execCalUserSet_keep | apply onSys_keep | apply onHl_keep | apply onApu_keep | apply onTmb_keep | apply onMon_keep | apply onFan_keep | apply onPwr_keep | apply onRcp_keep | apply onSct_keep) | split | intro _ | intro _ | exact ⟨fun _ => Nat.le_refl _, Nat.le_refl _, Nat.le_refl _⟩ | exact fun x hx => hx | exact fun x => ⟨fun _ => Nat.le_refl _, Nat.le_refl _, Nat.le_refl _⟩ | apply onSec_keep | apply onLog_keep | exact ⟨_, rfl, by assumption⟩

theorem regCal_rk (s : State) (a : Nat) : ORegKeep (State.regCal s a) := by
  unfold State.regCal
  try dsimp only
  repeat' first | exact sub_of hp rfl | exact LogLe.same rfl rfl rfl | (with_reducible first | assumption | exact sub_of ‹_› rfl | exact none_rk | apply some_rk | apply regChan_rk | apply ro_rk | apply recipe_rk | apply idle_rk | apply cmd_rk | apply rw_rk | apply when_rk | apply map_rk | apply own_rk | apply denied_rk | refine plain_rk _ rfl rfl | refine rd_rk _ _ rfl rfl ?_ | refine wr_rk _ _ rfl rfl ?_ | apply stateOf_keep | apply execCalClr_keep | apply onSys_keep | apply onHl_keep | apply onApu_keep | apply onTmb_keep | apply onMon_keep | apply onFan_keep | apply onPwr_keep | apply onRcp_keep | apply onSct_keep) | split | intro _ | intro _ | exact ⟨fun _ => Nat.le_refl _, Nat.le_refl _, Nat.le_refl _⟩ | exact fun x hx => hx | exact fun x => ⟨fun _ => Nat.le_refl _, Nat.le_refl _, Nat.le_refl _⟩ | apply onSec_keep | apply onLog_keep | exact ⟨_, rfl, by assumption⟩

theorem freeBool_keep {fr : List Part} {s0 : State} (s : State) (hs : Keep fr s0 s) (hp : sub [.sys] fr = true := by exact sub_of ‹sub _ _ = true› rfl) : Keep fr s0 (State.freeBool s).1 := by
  unfold State.freeBool
  try dsimp only
  repeat' first | exact sub_of hp rfl | (with_reducible first | assumption | apply draw_keep | refine pair_keep (by assumption) ?_) | split | intro _

theorem tmbCmdReg_keep {fr : List Part} {s0 : State} (k : SessId) (v : Word) (s : State) (hs : Keep fr s0 s) (hp : sub [.sys, .log, .tmb, .hie, .mon] fr = true := by exact sub_of ‹sub _ _ = true› rfl) : ∃ t, tmbCmdReg k v s = .next t ∧ Keep fr s0 t := by
  unfold tmbCmdReg
  try dsimp only
  repeat' first | exact sub_of hp rfl | (with_reducible first | assumption | apply cmdResteer_keep | apply execSet_keep | apply execResteer_keep | apply noOp_keep | apply freeBool_keep | refine pair_keep (by assumption) ?_) | split | refine ⟨_, rfl, ?_⟩ | exact fun _ h => h | intro _

theorem gnsCmdReg_keep {fr : List Part} {s0 : State} (k : SessId) (v : Word) (s : State) (hs : Keep fr s0 s) (hp : sub [.sys, .gns, .hie, .mon] fr = true := by exact sub_of ‹sub _ _ = true› rfl) : ∃ t, gnsCmdReg k v s = .next t ∧ Keep fr s0 t := by
  unfold gnsCmdReg
  try dsimp only
  repeat' first | exact sub_of hp rfl | (with_reducible first | assumption | apply draw_keep | apply execGnssRestart_keep | apply execGnssCold_keep | apply noOp_keep | refine pair_keep (by assumption) ?_) | split | refine ⟨_, rfl, ?_⟩ | exact fun _ h => h | intro _

theorem sctCmdReg_keep {fr : List Part} {s0 : State} (k : SessId) (v : Word) (s : State) (hs : Keep fr s0 s) (hp : sub [.sys, .log, .hie, .mon, .sct] fr = true := by exact sub_of ‹sub _ _ = true› rfl) : ∃ t, sctCmdReg k v s = .next t ∧ Keep fr s0 t := by
  unfold sctCmdReg
  try dsimp only
  repeat' first | exact sub_of hp rfl | (with_reducible first | assumption | apply execEngage_keep | apply execEngageExt_keep | apply execDisengage_keep | apply execSetOn_keep | apply execSetOff_keep | apply execBcheck_keep | apply execSectionClrflt_keep | apply noOp_keep | refine pair_keep (by assumption) ?_) | split | refine ⟨_, rfl, ?_⟩ | exact fun _ h => h | intro _

theorem regTmb_rk (s : State) (a : Nat) : ORegKeep (State.regTmb s a) := by
  unfold State.regTmb
  try dsimp only
  repeat' first | exact sub_of hp rfl | exact LogLe.same rfl rfl rfl | (with_reducible first | assumption | exact sub_of ‹_› rfl | exact none_rk | apply some_rk | apply ro_rk | apply recipe_rk | apply idle_rk | apply cmd_rk | apply rw_rk | apply when_rk | apply map_rk | apply own_rk | apply denied_rk | refine plain_rk _ rfl rfl | refine rd_rk _ _ rfl rfl ?_ | refine wr_rk _ _ rfl rfl ?_ | apply stateOf_keep | apply onTmb_keep | apply readFrac_keep | apply readRatel_keep | apply tmbCmdReg_keep | apply onSys_keep | apply onHl_keep | apply onApu_keep | apply onTmb_keep | apply onMon_keep | apply onFan_keep | apply onPwr_keep | apply onRcp_keep | apply onSct_keep) | split | intro _ | intro _ | exact ⟨fun _ => Nat.le_refl _, Nat.le_refl _, Nat.le_refl _⟩ | exact fun x hx => hx | exact fun x => ⟨fun _ => Nat.le_refl _, Nat.le_refl _, Nat.le_refl _⟩ | apply onSec_keep | apply onLog_keep | exact ⟨_, rfl, by assumption⟩

theorem regGns_rk (s : State) (a : Nat) : ORegKeep (State.regGns s a) := by
  unfold State.regGns
  try dsimp only
  repeat' first | exact sub_of hp rfl | exact LogLe.same rfl rfl rfl | (with_reducible first | assumption | exact sub_of ‹_› rfl | exact none_rk | apply some_rk | apply ro_rk | apply recipe_rk | apply idle_rk | apply cmd_rk | apply rw_rk | apply when_rk | apply map_rk | apply own_rk | apply denied_rk | refine plain_rk _ rfl rfl | refine rd_rk _ _ rfl rfl ?_ | refine wr_rk _ _ rfl rfl ?_ | apply stateOf_keep | apply execGnssRateWrite_keep | apply gnsCmdReg_keep | apply onSys_keep | apply onHl_keep | apply onApu_keep | apply onTmb_keep | apply onMon_keep | apply onFan_keep | apply onPwr_keep | apply onRcp_keep | apply onSct_keep) | split | intro _ | intro _ | exact ⟨fun _ => Nat.le_refl _, Nat.le_refl _, Nat.le_refl _⟩ | exact fun x hx => hx | exact fun x => ⟨fun _ => Nat.le_refl _, Nat.le_refl _, Nat.le_refl _⟩ | apply onSec_keep | apply onLog_keep | exact ⟨_, rfl, by assumption⟩

theorem regSect_rk (s : State) (i : SectId) (off : Nat) : ORegKeep (State.regSect s i off) := by
  unfold State.regSect
  try dsimp only
  repeat' first | exact sub_of hp rfl | exact LogLe.same rfl rfl rfl | (with_reducible first | assumption | exact sub_of ‹_› rfl | exact none_rk | apply some_rk | apply ro_rk | apply recipe_rk | apply idle_rk | apply cmd_rk | apply rw_rk | apply when_rk | apply map_rk | apply own_rk | apply denied_rk | refine plain_rk _ rfl rfl | refine rd_rk _ _ rfl rfl ?_ | refine wr_rk _ _ rfl rfl ?_ | apply stateOf_keep | apply onSys_keep | apply onHl_keep | apply onApu_keep | apply onTmb_keep | apply onMon_keep | apply onFan_keep | apply onPwr_keep | apply onRcp_keep | apply onSct_keep) | split | intro _ | intro _ | exact ⟨fun _ => Nat.le_refl _, Nat.le_refl _, Nat.le_refl _⟩ | exact fun x hx => hx | exact fun x => ⟨fun _ => Nat.le_refl _, Nat.le_refl _, Nat.le_refl _⟩ | apply onSec_keep | apply onLog_keep | exact ⟨_, rfl, by assumption⟩

theorem regSctHere_rk (s : State) (a : Nat) : ORegKeep (State.regSctHere s a) := by
  unfold State.regSctHere
  try dsimp only
  repeat' first | exact sub_of hp rfl | exact LogLe.same rfl rfl rfl | (with_reducible first | assumption | exact sub_of ‹_› rfl | exact none_rk | apply some_rk | apply regSect_rk | apply ro_rk | apply recipe_rk | apply idle_rk | apply cmd_rk | apply rw_rk | apply when_rk | apply map_rk | apply own_rk | apply denied_rk | refine plain_rk _ rfl rfl | refine rd_rk _ _ rfl rfl ?_ | refine wr_rk _ _ rfl rfl ?_ | apply stateOf_keep | apply onSct_keep | apply execBoundaryWrite_keep | apply sctCmdReg_keep | apply onSys_keep | apply onHl_keep | apply onApu_keep | apply onTmb_keep | apply onMon_keep | apply onFan_keep | apply onPwr_keep | apply onRcp_keep | apply onSct_keep) | split | intro _ | intro _ | exact ⟨fun _ => Nat.le_refl _, Nat.le_refl _, Nat.le_refl _⟩ | exact fun x hx => hx | exact fun x => ⟨fun _ => Nat.le_refl _, Nat.le_refl _, Nat.le_refl _⟩ | apply onSec_keep | apply onLog_keep | exact ⟨_, rfl, by assumption⟩

theorem regSct_rk (s : State) (a : Nat) : ORegKeep (State.regSct s a) := by
  unfold State.regSct
  try dsimp only
  repeat' first | exact sub_of hp rfl | exact LogLe.same rfl rfl rfl | (with_reducible first | assumption | exact sub_of ‹_› rfl | exact none_rk | apply some_rk | apply regSctHere_rk | apply ro_rk | apply recipe_rk | apply idle_rk | apply cmd_rk | apply rw_rk | apply when_rk | apply map_rk | apply own_rk | apply denied_rk | refine plain_rk _ rfl rfl | refine rd_rk _ _ rfl rfl ?_ | refine wr_rk _ _ rfl rfl ?_ | apply stateOf_keep | apply answer_keep | apply onSys_keep | apply onHl_keep | apply onApu_keep | apply onTmb_keep | apply onMon_keep | apply onFan_keep | apply onPwr_keep | apply onRcp_keep | apply onSct_keep) | split | intro _ | intro _ | exact ⟨fun _ => Nat.le_refl _, Nat.le_refl _, Nat.le_refl _⟩ | exact fun x hx => hx | exact fun x => ⟨fun _ => Nat.le_refl _, Nat.le_refl _, Nat.le_refl _⟩ | apply onSec_keep | apply onLog_keep | exact ⟨_, rfl, by assumption⟩

theorem hieCmdReg_keep {fr : List Part} {s0 : State} (k : SessId) (v : Word) (s : State) (hs : Keep fr s0 s) (hp : sub [.sys, .log, .hie, .mon] fr = true := by exact sub_of ‹sub _ _ = true› rfl) : ∃ t, hieCmdReg k v s = .next t ∧ Keep fr s0 t := by
  unfold hieCmdReg
  try dsimp only
  repeat' first | exact sub_of hp rfl | (with_reducible first | assumption | apply execHieRelease_keep | apply noOp_keep | refine pair_keep (by assumption) ?_) | split | refine ⟨_, rfl, ?_⟩ | exact fun _ h => h | intro _

theorem lgCmdReg_keep {fr : List Part} {s0 : State} (g : LgId) (k : SessId) (v : Word) (s : State) (hs : Keep fr s0 s) (hp : sub [.sys, .ports, .log, .hie, .mon] fr = true := by exact sub_of ‹sub _ _ = true› rfl) : ∃ t, lgCmdReg g k v s = .next t ∧ Keep fr s0 t := by
  unfold lgCmdReg
  try dsimp only
  repeat' first | exact sub_of hp rfl | (with_reducible first | assumption | apply execLgStart_keep | apply execLgStopCmd_keep | apply noOp_keep | refine pair_keep (by assumption) ?_) | split | refine ⟨_, rfl, ?_⟩ | exact fun _ h => h | intro _

theorem writeCanCtrl_keep {fr : List Part} {s0 : State} (s : State) (c : CanId) (v : Word) (hs : Keep fr s0 s) (hp : sub [.sys, .can] fr = true := by exact sub_of ‹sub _ _ = true› rfl) : Keep fr s0 (State.writeCanCtrl s c v).1 := by
  unfold State.writeCanCtrl
  try dsimp only
  repeat' first | exact sub_of hp rfl | (with_reducible first | assumption | apply cmdRecover_keep | apply cmdClrcnt_keep | apply cmdOpmode_keep | apply freeBool_keep | refine pair_keep (by assumption) ?_) | split | intro _

theorem txCmdReg_keep {fr : List Part} {s0 : State} (c : CanId) (g : SessId) (k : SessId) (v : Word) (s : State) (hs : Keep fr s0 s) (hp : sub [.sys, .log, .hie, .mon, .can, .hl] fr = true := by exact sub_of ‹sub _ _ = true› rfl) : ∃ t, txCmdReg c g k v s = .next t ∧ Keep fr s0 t := by
  unfold txCmdReg
  try dsimp only
  repeat' first | exact sub_of hp rfl | (with_reducible first | assumption | apply answer_keep | apply execEnqueue_keep | apply execAbort_keep | apply execAbortAll_keep | apply execAbortEnq_keep | apply noOp_keep | refine pair_keep (by assumption) ?_) | split | refine ⟨_, rfl, ?_⟩ | exact fun _ h => h | intro _

theorem setStage_keep {fr : List Part} {s0 : State} (s : State) (c : CanId) (g : SessId) (f : Stage → Stage) (hs : Keep fr s0 s) (hp : sub [.can] fr = true := by exact sub_of ‹sub _ _ = true› rfl) : Keep fr s0 (State.setStage s c g f).1 := by
  unfold State.setStage
  try dsimp only
  repeat' first | exact sub_of hp rfl | (with_reducible first | assumption | apply setCan_keep | refine pair_keep (by assumption) ?_) | split | intro _

theorem clearRx_keep {fr : List Part} {s0 : State} (s : State) (c : CanId) (ovw : Bool) (high : Bool) (v : Word) (hs : Keep fr s0 s) (hp : sub [.can] fr = true := by exact sub_of ‹sub _ _ = true› rfl) : Keep fr s0 (State.clearRx s c ovw high v).1 := by
  unfold State.clearRx
  try dsimp only
  repeat' first | exact sub_of hp rfl | (with_reducible first | assumption | apply setCan_keep | refine pair_keep (by assumption) ?_) | split | intro _

theorem regLgAt_rk (s : State) (g : LgId) (off : Nat) : ORegKeep (State.regLgAt s g off) := by
  unfold State.regLgAt
  try dsimp only
  repeat' first | exact sub_of hp rfl | exact LogLe.same rfl rfl rfl | (with_reducible first | assumption | exact sub_of ‹_› rfl | exact none_rk | apply some_rk | apply ro_rk | apply recipe_rk | apply idle_rk | apply cmd_rk | apply rw_rk | apply when_rk | apply map_rk | apply own_rk | apply denied_rk | refine plain_rk _ rfl rfl | refine rd_rk _ _ rfl rfl ?_ | refine wr_rk _ _ rfl rfl ?_ | apply stateOf_keep | apply lgCmdReg_keep | apply onSys_keep | apply onHl_keep | apply onApu_keep | apply onTmb_keep | apply onMon_keep | apply onFan_keep | apply onPwr_keep | apply onRcp_keep | apply onSct_keep) | split | intro _ | intro _ | exact ⟨fun _ => Nat.le_refl _, Nat.le_refl _, Nat.le_refl _⟩ | exact fun x hx => hx | exact fun x => ⟨fun _ => Nat.le_refl _, Nat.le_refl _, Nat.le_refl _⟩ | apply onSec_keep | apply onLog_keep | exact ⟨_, rfl, by assumption⟩

theorem regLg_rk (s : State) (g : LgId) (off : Nat) : ORegKeep (State.regLg s g off) := by
  unfold State.regLg
  try dsimp only
  repeat' first | exact sub_of hp rfl | exact LogLe.same rfl rfl rfl | (with_reducible first | assumption | exact sub_of ‹_› rfl | exact none_rk | apply some_rk | apply regLgAt_rk | apply ro_rk | apply recipe_rk | apply idle_rk | apply cmd_rk | apply rw_rk | apply when_rk | apply map_rk | apply own_rk | apply denied_rk | refine plain_rk _ rfl rfl | refine rd_rk _ _ rfl rfl ?_ | refine wr_rk _ _ rfl rfl ?_ | apply stateOf_keep | apply answer_keep | apply onSys_keep | apply onHl_keep | apply onApu_keep | apply onTmb_keep | apply onMon_keep | apply onFan_keep | apply onPwr_keep | apply onRcp_keep | apply onSct_keep) | split | intro _ | intro _ | exact ⟨fun _ => Nat.le_refl _, Nat.le_refl _, Nat.le_refl _⟩ | exact fun x hx => hx | exact fun x => ⟨fun _ => Nat.le_refl _, Nat.le_refl _, Nat.le_refl _⟩ | apply onSec_keep | apply onLog_keep | exact ⟨_, rfl, by assumption⟩

theorem regHie_rk (s : State) (a : Nat) : ORegKeep (State.regHie s a) := by
  unfold State.regHie
  try dsimp only
  repeat' first | exact sub_of hp rfl | exact LogLe.same rfl rfl rfl | (with_reducible first | assumption | exact sub_of ‹_› rfl | exact none_rk | apply some_rk | apply regLg_rk | apply ro_rk | apply recipe_rk | apply idle_rk | apply cmd_rk | apply rw_rk | apply when_rk | apply map_rk | apply own_rk | apply denied_rk | refine plain_rk _ rfl rfl | refine rd_rk _ _ rfl rfl ?_ | refine wr_rk _ _ rfl rfl ?_ | apply stateOf_keep | apply hieCmdReg_keep | apply onSys_keep | apply onHl_keep | apply onApu_keep | apply onTmb_keep | apply onMon_keep | apply onFan_keep | apply onPwr_keep | apply onRcp_keep | apply onSct_keep) | split | intro _ | intro _ | exact ⟨fun _ => Nat.le_refl _, Nat.le_refl _, Nat.le_refl _⟩ | exact fun x hx => hx | exact fun x => ⟨fun _ => Nat.le_refl _, Nat.le_refl _, Nat.le_refl _⟩ | apply onSec_keep | apply onLog_keep | exact ⟨_, rfl, by assumption⟩

theorem regClp_rk (s : State) (a : Nat) : ORegKeep (State.regClp s a) := by
  unfold State.regClp
  try dsimp only
  repeat' first | exact sub_of hp rfl | exact LogLe.same rfl rfl rfl | (with_reducible first | assumption | exact sub_of ‹_› rfl | exact none_rk | apply some_rk | apply ro_rk | apply recipe_rk | apply idle_rk | apply cmd_rk | apply rw_rk | apply when_rk | apply map_rk | apply own_rk | apply denied_rk | refine plain_rk _ rfl rfl | refine rd_rk _ _ rfl rfl ?_ | refine wr_rk _ _ rfl rfl ?_ | apply stateOf_keep | apply onSys_keep | apply onHl_keep | apply onApu_keep | apply onTmb_keep | apply onMon_keep | apply onFan_keep | apply onPwr_keep | apply onRcp_keep | apply onSct_keep) | split | intro _ | intro _ | exact ⟨fun _ => Nat.le_refl _, Nat.le_refl _, Nat.le_refl _⟩ | exact fun x hx => hx | exact fun x => ⟨fun _ => Nat.le_refl _, Nat.le_refl _, Nat.le_refl _⟩ | apply onSec_keep | apply onLog_keep | exact ⟨_, rfl, by assumption⟩

theorem regStageAt_rk (s : State) (c : CanId) (g : SessId) (off : Nat) : ORegKeep (State.regStageAt s c g off) := by
  unfold State.regStageAt
  try dsimp only
  repeat' first | exact sub_of hp rfl | exact LogLe.same rfl rfl rfl | (with_reducible first | assumption | exact sub_of ‹_› rfl | exact none_rk | apply some_rk | apply ro_rk | apply recipe_rk | apply idle_rk | apply cmd_rk | apply rw_rk | apply when_rk | apply map_rk | apply own_rk | apply denied_rk | refine plain_rk _ rfl rfl | refine rd_rk _ _ rfl rfl ?_ | refine wr_rk _ _ rfl rfl ?_ | apply stateOf_keep | apply txCmdReg_keep | apply setStage_keep | apply onSys_keep | apply onHl_keep | apply onApu_keep | apply onTmb_keep | apply onMon_keep | apply onFan_keep | apply onPwr_keep | apply onRcp_keep | apply onSct_keep) | split | intro _ | intro _ | exact ⟨fun _ => Nat.le_refl _, Nat.le_refl _, Nat.le_refl _⟩ | exact fun x hx => hx | exact fun x => ⟨fun _ => Nat.le_refl _, Nat.le_refl _, Nat.le_refl _⟩ | apply onSec_keep | apply onLog_keep | exact ⟨_, rfl, by assumption⟩

theorem regStage_rk (s : State) (c : CanId) (g : SessId) (off : Nat) : ORegKeep (s.regStage c g off) :=
  map_rk _ _ (regStageAt_rk s c g off) fun r hr =>
    ⟨fun f e k v fr s0 s hp hs => by
      cases e
      cases hw : r.wr with
      | none => exact answer_keep _ _ _ hs
      | some f => dsimp only; split <;> first | exact hr.wr f hw k v fr s0 s hp hs | exact answer_keep _ _ _ hs,
     fun f e k fr s0 s hp hs => by cases e; exact hs⟩

theorem RxBuf_reg_rk (b : RxBuf) (off : Nat) : ORegKeep (RxBuf.reg b off) := by
  unfold RxBuf.reg
  try dsimp only
  repeat' first | exact sub_of hp rfl | exact LogLe.same rfl rfl rfl | (with_reducible first | assumption | exact sub_of ‹_› rfl | exact none_rk | apply some_rk | apply ro_rk | apply recipe_rk | apply idle_rk | apply cmd_rk | apply rw_rk | apply when_rk | apply map_rk | apply own_rk | apply denied_rk | refine plain_rk _ rfl rfl | refine rd_rk _ _ rfl rfl ?_ | refine wr_rk _ _ rfl rfl ?_ | apply stateOf_keep | apply onSys_keep | apply onHl_keep | apply onApu_keep | apply onTmb_keep | apply onMon_keep | apply onFan_keep | apply onPwr_keep | apply onRcp_keep | apply onSct_keep) | split | intro _ | intro _ | exact ⟨fun _ => Nat.le_refl _, Nat.le_refl _, Nat.le_refl _⟩ | exact fun x hx => hx | exact fun x => ⟨fun _ => Nat.le_refl _, Nat.le_refl _, Nat.le_refl _⟩ | apply onSec_keep | apply onLog_keep | exact ⟨_, rfl, by assumption⟩

theorem regCanAt_rk (s : State) (c : CanId) (off : Nat) : ORegKeep (State.regCanAt s c off) := by
  unfold State.regCanAt
  try dsimp only
  repeat' first | exact sub_of hp rfl | exact LogLe.same rfl rfl rfl | (with_reducible first | assumption | exact sub_of ‹_› rfl | exact none_rk | apply some_rk | apply regStage_rk | apply RxBuf_reg_rk | apply ro_rk | apply recipe_rk | apply idle_rk | apply cmd_rk | apply rw_rk | apply when_rk | apply map_rk | apply own_rk | apply denied_rk | refine plain_rk _ rfl rfl | refine rd_rk _ _ rfl rfl ?_ | refine wr_rk _ _ rfl rfl ?_ | apply stateOf_keep | apply execCanEwlWrite_keep | apply execCanMsgrel_keep | apply writeCanCtrl_keep | apply clearRx_keep | apply onSys_keep | apply onHl_keep | apply onApu_keep | apply onTmb_keep | apply onMon_keep | apply onFan_keep | apply onPwr_keep | apply onRcp_keep | apply onSct_keep) | split | intro _ | intro _ | exact ⟨fun _ => Nat.le_refl _, Nat.le_refl _, Nat.le_refl _⟩ | exact fun x hx => hx | exact fun x => ⟨fun _ => Nat.le_refl _, Nat.le_refl _, Nat.le_refl _⟩ | apply onSec_keep | apply onLog_keep | exact ⟨_, rfl, by assumption⟩

theorem regCan_rk (s : State) (a : Nat) : ORegKeep (State.regCan s a) := by
  unfold State.regCan
  try dsimp only
  repeat' first | exact sub_of hp rfl | exact LogLe.same rfl rfl rfl | (with_reducible first | assumption | exact sub_of ‹_› rfl | exact none_rk | apply some_rk | apply regCanAt_rk | apply ro_rk | apply recipe_rk | apply idle_rk | apply cmd_rk | apply rw_rk | apply when_rk | apply map_rk | apply own_rk | apply denied_rk | refine plain_rk _ rfl rfl | refine rd_rk _ _ rfl rfl ?_ | refine wr_rk _ _ rfl rfl ?_ | apply stateOf_keep | apply onSys_keep | apply onHl_keep | apply onApu_keep | apply onTmb_keep | apply onMon_keep | apply onFan_keep | apply onPwr_keep | apply onRcp_keep | apply onSct_keep) | split | intro _ | intro _ | exact ⟨fun _ => Nat.le_refl _, Nat.le_refl _, Nat.le_refl _⟩ | exact fun x hx => hx | exact fun x => ⟨fun _ => Nat.le_refl _, Nat.le_refl _, Nat.le_refl _⟩ | apply onSec_keep | apply onLog_keep | exact ⟨_, rfl, by assumption⟩

theorem pwrCmdReg_keep {fr : List Part} {s0 : State} (k : SessId) (v : Word) (s : State) (hs : Keep fr s0 s) (hp : sub [.sys, .ports, .banks, .sol, .log, .rcp, .sec, .pwr, .tmb, .gns, .hie, .mon, .cal, .fan, .eng, .sct, .can, .hl, .apu, .dma, .seq, .mem] fr = true := by exact sub_of ‹sub _ _ = true› rfl) : ∃ t, pwrCmdReg k v s = .next t ∧ Keep fr s0 t := by
  unfold pwrCmdReg
  try dsimp only
  repeat' first | exact sub_of hp rfl | (with_reducible first | assumption | apply execStandby_keep | apply execSleep_keep | apply noOp_keep | refine pair_keep (by assumption) ?_) | split | refine ⟨_, rfl, ?_⟩ | exact fun _ h => h | intro _

theorem xclrReg_keep {fr : List Part} {s0 : State} (k : SessId) (v : Word) (s : State) (hs : Keep fr s0 s) (hp : sub [.sys, .pwr, .hie, .mon] fr = true := by exact sub_of ‹sub _ _ = true› rfl) : ∃ t, xclrReg k v s = .next t ∧ Keep fr s0 t := by
  unfold xclrReg
  try dsimp only
  repeat' first | exact sub_of hp rfl | (with_reducible first | assumption | apply execXclr_keep | apply noOp_keep | refine pair_keep (by assumption) ?_) | split | refine ⟨_, rfl, ?_⟩ | exact fun _ h => h | intro _

theorem rcpCmdReg_keep {fr : List Part} {s0 : State} (k : SessId) (v : Word) (s : State) (hs : Keep fr s0 s) (hp : sub [.sys, .ports, .banks, .sol, .log, .rcp, .sec, .pwr, .tmb, .gns, .hie, .mon, .cal, .fan, .eng, .sct, .can, .hl, .apu, .dma, .seq, .mem] fr = true := by exact sub_of ‹sub _ _ = true› rfl) : ∃ t, rcpCmdReg k v s = .next t ∧ Keep fr s0 t := by
  unfold rcpCmdReg
  try dsimp only
  repeat' first | exact sub_of hp rfl | (with_reducible first | assumption | apply execWrite_keep | apply execDiscard_keep | apply execReload_keep | apply execRecipeRestart_keep | apply noOp_keep | refine pair_keep (by assumption) ?_) | split | refine ⟨_, rfl, ?_⟩ | exact fun _ h => h | intro _

theorem secCmdReg_keep {fr : List Part} {s0 : State} (k : SessId) (v : Word) (s : State) (hs : Keep fr s0 s) (hp : sub [.sys, .log, .rcp, .sec, .hie, .mon, .can, .hl, .apu, .dma, .mem] fr = true := by exact sub_of ‹sub _ _ = true› rfl) : ∃ t, secCmdReg k v s = .next t ∧ Keep fr s0 t := by
  unfold secCmdReg
  try dsimp only
  repeat' first | exact sub_of hp rfl | (with_reducible first | assumption | apply execFuse_keep | apply execRevoke_keep | apply execHkeyInstall_keep | apply execRotate_keep | apply execAttest_keep | apply execDbgChallenge_keep | apply execDbgUnlock_keep | apply execDbgLock_keep | apply execTamperAck_keep | apply execRtWrite_keep | apply execSecClose_keep | apply noOp_keep | refine pair_keep (by assumption) ?_) | split | refine ⟨_, rfl, ?_⟩ | exact fun _ h => h | intro _

theorem hlkCmdReg_keep {fr : List Part} {s0 : State} (k : SessId) (v : Word) (s : State) (hs : Keep fr s0 s) (hp : sub [.sys, .log, .hie, .mon, .hl] fr = true := by exact sub_of ‹sub _ _ = true› rfl) : ∃ t, hlkCmdReg k v s = .next t ∧ Keep fr s0 t := by
  unfold hlkCmdReg
  try dsimp only
  repeat' first | exact sub_of hp rfl | (with_reducible first | assumption | apply noOp_keep | apply execSave_keep | refine pair_keep (by assumption) ?_) | split | refine ⟨_, rfl, ?_⟩ | exact fun _ h => h | intro _

theorem setNet_keep {fr : List Part} {s0 : State} (s : State) (f : NetCfg → NetCfg) (hs : Keep fr s0 s) (hp : sub [.hl] fr = true := by exact sub_of ‹sub _ _ = true› rfl) : Keep fr s0 (State.setNet s f).1 := by
  unfold State.setNet
  try dsimp only
  repeat' first | exact sub_of hp rfl | (with_reducible first | assumption | apply onHl_keep | refine pair_keep (by assumption) ?_) | split | intro _

theorem apuCmdReg_keep {fr : List Part} {s0 : State} (k : SessId) (v : Word) (s : State) (hs : Keep fr s0 s) (hp : sub [.sys, .hie, .mon, .apu] fr = true := by exact sub_of ‹sub _ _ = true› rfl) : ∃ t, apuCmdReg k v s = .next t ∧ Keep fr s0 t := by
  unfold apuCmdReg
  try dsimp only
  repeat' first | exact sub_of hp rfl | (with_reducible first | assumption | apply execGrant_keep | apply execFree_keep | apply execFreeall_keep | apply noOp_keep | refine pair_keep (by assumption) ?_) | split | refine ⟨_, rfl, ?_⟩ | exact fun _ h => h | intro _

theorem dmaCmdReg_keep {fr : List Part} {s0 : State} (n : ChId) (k : SessId) (v : Word) (s : State) (hs : Keep fr s0 s) (hp : sub [.sys, .log, .hie, .mon, .apu, .dma] fr = true := by exact sub_of ‹sub _ _ = true› rfl) : ∃ t, dmaCmdReg n k v s = .next t ∧ Keep fr s0 t := by
  unfold dmaCmdReg
  try dsimp only
  repeat' first | exact sub_of hp rfl | (with_reducible first | assumption | apply execClaim_keep | apply execDmaRelease_keep | apply execDmaStart_keep | apply execDmaAbort_keep | apply noOp_keep | refine pair_keep (by assumption) ?_) | split | refine ⟨_, rfl, ?_⟩ | exact fun _ h => h | intro _

theorem dmaGoReg_keep {fr : List Part} {s0 : State} (n : ChId) (k : SessId) (v : Word) (s : State) (hs : Keep fr s0 s) (hp : sub [.sys, .log, .hie, .mon, .dma] fr = true := by exact sub_of ‹sub _ _ = true› rfl) : ∃ t, dmaGoReg n k v s = .next t ∧ Keep fr s0 t := by
  unfold dmaGoReg
  try dsimp only
  repeat' first | exact sub_of hp rfl | (with_reducible first | assumption | apply execResume_keep | apply noOp_keep | refine pair_keep (by assumption) ?_) | split | refine ⟨_, rfl, ?_⟩ | exact fun _ h => h | intro _

theorem wordAt_rk (bs : List Byte) (k : Nat) : RegKeep (wordAt bs k) := by
  unfold wordAt
  try dsimp only
  repeat' first | exact sub_of hp rfl | exact LogLe.same rfl rfl rfl | (with_reducible first | assumption | exact sub_of ‹_› rfl | exact none_rk | apply some_rk | apply ro_rk | apply recipe_rk | apply idle_rk | apply cmd_rk | apply rw_rk | apply when_rk | apply map_rk | apply own_rk | apply denied_rk | refine plain_rk _ rfl rfl | refine rd_rk _ _ rfl rfl ?_ | refine wr_rk _ _ rfl rfl ?_ | apply stateOf_keep | apply onSys_keep | apply onHl_keep | apply onApu_keep | apply onTmb_keep | apply onMon_keep | apply onFan_keep | apply onPwr_keep | apply onRcp_keep | apply onSct_keep) | split | intro _ | intro _ | exact ⟨fun _ => Nat.le_refl _, Nat.le_refl _, Nat.le_refl _⟩ | exact fun x hx => hx | exact fun x => ⟨fun _ => Nat.le_refl _, Nat.le_refl _, Nat.le_refl _⟩ | apply onSec_keep | apply onLog_keep | exact ⟨_, rfl, by assumption⟩

theorem regSystem_rk (s : State) (a : Nat) : ORegKeep (State.regSystem s a) := by
  unfold State.regSystem
  try dsimp only
  repeat' first | exact sub_of hp rfl | exact LogLe.same rfl rfl rfl | (with_reducible first | assumption | exact sub_of ‹_› rfl | exact none_rk | apply some_rk | apply ro_rk | apply recipe_rk | apply idle_rk | apply cmd_rk | apply rw_rk | apply when_rk | apply map_rk | apply own_rk | apply denied_rk | refine plain_rk _ rfl rfl | refine rd_rk _ _ rfl rfl ?_ | refine wr_rk _ _ rfl rfl ?_ | apply stateOf_keep | apply writeQstat_keep | apply execModeRequest_keep | apply onSys_keep | apply onHl_keep | apply onApu_keep | apply onTmb_keep | apply onMon_keep | apply onFan_keep | apply onPwr_keep | apply onRcp_keep | apply onSct_keep) | split | intro _ | intro _ | exact ⟨fun _ => Nat.le_refl _, Nat.le_refl _, Nat.le_refl _⟩ | exact fun x hx => hx | exact fun x => ⟨fun _ => Nat.le_refl _, Nat.le_refl _, Nat.le_refl _⟩ | apply onSec_keep | apply onLog_keep | exact ⟨_, rfl, by assumption⟩

theorem regPwr_rk (s : State) (a : Nat) : ORegKeep (State.regPwr s a) := by
  unfold State.regPwr
  try dsimp only
  repeat' first | exact sub_of hp rfl | exact LogLe.same rfl rfl rfl | (with_reducible first | assumption | exact sub_of ‹_› rfl | exact none_rk | apply some_rk | apply ro_rk | apply recipe_rk | apply idle_rk | apply cmd_rk | apply rw_rk | apply when_rk | apply map_rk | apply own_rk | apply denied_rk | refine plain_rk _ rfl rfl | refine rd_rk _ _ rfl rfl ?_ | refine wr_rk _ _ rfl rfl ?_ | apply stateOf_keep | apply onPwr_keep | apply readRtcl_keep | apply execPwrCfgWrite_keep | apply pwrCmdReg_keep | apply onSys_keep | apply onHl_keep | apply onApu_keep | apply onTmb_keep | apply onMon_keep | apply onFan_keep | apply onPwr_keep | apply onRcp_keep | apply onSct_keep) | split | intro _ | intro _ | exact ⟨fun _ => Nat.le_refl _, Nat.le_refl _, Nat.le_refl _⟩ | exact fun x hx => hx | exact fun x => ⟨fun _ => Nat.le_refl _, Nat.le_refl _, Nat.le_refl _⟩ | apply onSec_keep | apply onLog_keep | exact ⟨_, rfl, by assumption⟩

theorem regClk_rk (s : State) (a : Nat) : ORegKeep (State.regClk s a) := by
  unfold State.regClk
  try dsimp only
  repeat' first | exact sub_of hp rfl | exact LogLe.same rfl rfl rfl | (with_reducible first | assumption | exact sub_of ‹_› rfl | exact none_rk | apply some_rk | apply ro_rk | apply recipe_rk | apply idle_rk | apply cmd_rk | apply rw_rk | apply when_rk | apply map_rk | apply own_rk | apply denied_rk | refine plain_rk _ rfl rfl | refine rd_rk _ _ rfl rfl ?_ | refine wr_rk _ _ rfl rfl ?_ | apply stateOf_keep | apply xclrReg_keep | apply onSys_keep | apply onHl_keep | apply onApu_keep | apply onTmb_keep | apply onMon_keep | apply onFan_keep | apply onPwr_keep | apply onRcp_keep | apply onSct_keep) | split | intro _ | intro _ | exact ⟨fun _ => Nat.le_refl _, Nat.le_refl _, Nat.le_refl _⟩ | exact fun x hx => hx | exact fun x => ⟨fun _ => Nat.le_refl _, Nat.le_refl _, Nat.le_refl _⟩ | apply onSec_keep | apply onLog_keep | exact ⟨_, rfl, by assumption⟩

theorem Slotreg_rk (x : SlotState) (off : Nat) : ORegKeep (SlotState.reg x off) := by
  unfold SlotState.reg
  try dsimp only
  repeat' first | exact sub_of hp rfl | exact LogLe.same rfl rfl rfl | (with_reducible first | assumption | exact sub_of ‹_› rfl | exact none_rk | apply some_rk | apply RxBuf_reg_rk | apply wordAt_rk | apply ro_rk | apply recipe_rk | apply idle_rk | apply cmd_rk | apply rw_rk | apply when_rk | apply map_rk | apply own_rk | apply denied_rk | refine plain_rk _ rfl rfl | refine rd_rk _ _ rfl rfl ?_ | refine wr_rk _ _ rfl rfl ?_ | apply stateOf_keep | apply onSys_keep | apply onHl_keep | apply onApu_keep | apply onTmb_keep | apply onMon_keep | apply onFan_keep | apply onPwr_keep | apply onRcp_keep | apply onSct_keep) | split | intro _ | intro _ | exact ⟨fun _ => Nat.le_refl _, Nat.le_refl _, Nat.le_refl _⟩ | exact fun x hx => hx | exact fun x => ⟨fun _ => Nat.le_refl _, Nat.le_refl _, Nat.le_refl _⟩ | apply onSec_keep | apply onLog_keep | exact ⟨_, rfl, by assumption⟩

theorem regRcp_rk (s : State) (a : Nat) : ORegKeep (State.regRcp s a) := by
  unfold State.regRcp
  try dsimp only
  repeat' first | exact sub_of hp rfl | exact LogLe.same rfl rfl rfl | (with_reducible first | assumption | exact sub_of ‹_› rfl | exact none_rk | apply some_rk | apply RxBuf_reg_rk | apply Slotreg_rk | apply ro_rk | apply recipe_rk | apply idle_rk | apply cmd_rk | apply rw_rk | apply when_rk | apply map_rk | apply own_rk | apply denied_rk | refine plain_rk _ rfl rfl | refine rd_rk _ _ rfl rfl ?_ | refine wr_rk _ _ rfl rfl ?_ | apply stateOf_keep | apply onRcp_keep | apply rcpCmdReg_keep | apply onSys_keep | apply onHl_keep | apply onApu_keep | apply onTmb_keep | apply onMon_keep | apply onFan_keep | apply onPwr_keep | apply onRcp_keep | apply onSct_keep) | split | intro _ | intro _ | exact ⟨fun _ => Nat.le_refl _, Nat.le_refl _, Nat.le_refl _⟩ | exact fun x hx => hx | exact fun x => ⟨fun _ => Nat.le_refl _, Nat.le_refl _, Nat.le_refl _⟩ | apply onSec_keep | apply onLog_keep | exact ⟨_, rfl, by assumption⟩

theorem regSess_rk (s : State) (k : SessId) (off : Nat) : ORegKeep (State.regSess s k off) := by
  unfold State.regSess
  try dsimp only
  repeat' first | exact sub_of hp rfl | exact LogLe.same rfl rfl rfl | (with_reducible first | assumption | exact sub_of ‹_› rfl | exact none_rk | apply some_rk | apply ro_rk | apply recipe_rk | apply idle_rk | apply cmd_rk | apply rw_rk | apply when_rk | apply map_rk | apply own_rk | apply denied_rk | refine plain_rk _ rfl rfl | refine rd_rk _ _ rfl rfl ?_ | refine wr_rk _ _ rfl rfl ?_ | apply stateOf_keep | apply onSys_keep | apply onHl_keep | apply onApu_keep | apply onTmb_keep | apply onMon_keep | apply onFan_keep | apply onPwr_keep | apply onRcp_keep | apply onSct_keep) | split | intro _ | intro _ | exact ⟨fun _ => Nat.le_refl _, Nat.le_refl _, Nat.le_refl _⟩ | exact fun x hx => hx | exact fun x => ⟨fun _ => Nat.le_refl _, Nat.le_refl _, Nat.le_refl _⟩ | apply onSec_keep | apply onLog_keep | exact ⟨_, rfl, by assumption⟩

theorem regSec_rk (s : State) (a : Nat) : ORegKeep (State.regSec s a) := by
  unfold State.regSec
  try dsimp only
  repeat' first | exact sub_of hp rfl | exact LogLe.same rfl rfl rfl | (with_reducible first | assumption | exact sub_of ‹_› rfl | exact none_rk | apply some_rk | apply wordAt_rk | apply regSess_rk | apply ro_rk | apply recipe_rk | apply idle_rk | apply cmd_rk | apply rw_rk | apply when_rk | apply map_rk | apply own_rk | apply denied_rk | refine plain_rk _ rfl rfl | refine rd_rk _ _ rfl rfl ?_ | refine wr_rk _ _ rfl rfl ?_ | apply stateOf_keep | apply onSec_keep | apply setSess_keep | apply gated_keep | apply secCmdReg_keep | apply onSys_keep | apply onHl_keep | apply onApu_keep | apply onTmb_keep | apply onMon_keep | apply onFan_keep | apply onPwr_keep | apply onRcp_keep | apply onSct_keep) | split | intro _ | intro _ | exact ⟨fun _ => Nat.le_refl _, Nat.le_refl _, Nat.le_refl _⟩ | exact fun x hx => hx | exact fun x => ⟨fun _ => Nat.le_refl _, Nat.le_refl _, Nat.le_refl _⟩ | apply onSec_keep | apply onLog_keep | exact ⟨_, rfl, by assumption⟩

theorem regHlk_rk (s : State) (a : Nat) : ORegKeep (State.regHlk s a) := by
  unfold State.regHlk
  try dsimp only
  repeat' first | exact sub_of hp rfl | exact LogLe.same rfl rfl rfl | (with_reducible first | assumption | exact sub_of ‹_› rfl | exact none_rk | apply some_rk | apply ro_rk | apply recipe_rk | apply idle_rk | apply cmd_rk | apply rw_rk | apply when_rk | apply map_rk | apply own_rk | apply denied_rk | refine plain_rk _ rfl rfl | refine rd_rk _ _ rfl rfl ?_ | refine wr_rk _ _ rfl rfl ?_ | apply stateOf_keep | apply hlkCmdReg_keep | apply setNet_keep | apply onSys_keep | apply onHl_keep | apply onApu_keep | apply onTmb_keep | apply onMon_keep | apply onFan_keep | apply onPwr_keep | apply onRcp_keep | apply onSct_keep) | split | intro _ | intro _ | exact ⟨fun _ => Nat.le_refl _, Nat.le_refl _, Nat.le_refl _⟩ | exact fun x hx => hx | exact fun x => ⟨fun _ => Nat.le_refl _, Nat.le_refl _, Nat.le_refl _⟩ | apply onSec_keep | apply onLog_keep | exact ⟨_, rfl, by assumption⟩

theorem regReq_rk (s : State) (g : SessId) (off : Nat) : ORegKeep (State.regReq s g off) := by
  unfold State.regReq
  try dsimp only
  repeat' first | exact sub_of hp rfl | exact LogLe.same rfl rfl rfl | (with_reducible first | assumption | exact sub_of ‹_› rfl | exact none_rk | apply some_rk | apply ro_rk | apply recipe_rk | apply idle_rk | apply cmd_rk | apply rw_rk | apply when_rk | apply map_rk | apply own_rk | apply denied_rk | refine plain_rk _ rfl rfl | refine rd_rk _ _ rfl rfl ?_ | refine wr_rk _ _ rfl rfl ?_ | apply stateOf_keep | apply setReq_keep | apply apuCmdReg_keep | apply onSys_keep | apply onHl_keep | apply onApu_keep | apply onTmb_keep | apply onMon_keep | apply onFan_keep | apply onPwr_keep | apply onRcp_keep | apply onSct_keep) | split | intro _ | intro _ | exact ⟨fun _ => Nat.le_refl _, Nat.le_refl _, Nat.le_refl _⟩ | exact fun x hx => hx | exact fun x => ⟨fun _ => Nat.le_refl _, Nat.le_refl _, Nat.le_refl _⟩ | apply onSec_keep | apply onLog_keep | exact ⟨_, rfl, by assumption⟩

theorem regApu_rk (s : State) (a : Nat) : ORegKeep (State.regApu s a) := by
  unfold State.regApu
  try dsimp only
  repeat' first | exact sub_of hp rfl | exact LogLe.same rfl rfl rfl | (with_reducible first | assumption | exact sub_of ‹_› rfl | exact none_rk | apply some_rk | apply regReq_rk | apply ro_rk | apply recipe_rk | apply idle_rk | apply cmd_rk | apply rw_rk | apply when_rk | apply map_rk | apply own_rk | apply denied_rk | refine plain_rk _ rfl rfl | refine rd_rk _ _ rfl rfl ?_ | refine wr_rk _ _ rfl rfl ?_ | apply stateOf_keep | apply onSys_keep | apply onHl_keep | apply onApu_keep | apply onTmb_keep | apply onMon_keep | apply onFan_keep | apply onPwr_keep | apply onRcp_keep | apply onSct_keep) | split | intro _ | intro _ | exact ⟨fun _ => Nat.le_refl _, Nat.le_refl _, Nat.le_refl _⟩ | exact fun x hx => hx | exact fun x => ⟨fun _ => Nat.le_refl _, Nat.le_refl _, Nat.le_refl _⟩ | apply onSec_keep | apply onLog_keep | exact ⟨_, rfl, by assumption⟩

theorem regCh_rk (s : State) (n : ChId) (off : Nat) : ORegKeep (State.regCh s n off) := by
  unfold State.regCh
  try dsimp only
  repeat' first | exact sub_of hp rfl | exact LogLe.same rfl rfl rfl | (with_reducible first | assumption | exact sub_of ‹_› rfl | exact none_rk | apply some_rk | apply ro_rk | apply recipe_rk | apply idle_rk | apply cmd_rk | apply rw_rk | apply when_rk | apply map_rk | apply own_rk | apply denied_rk | refine plain_rk _ rfl rfl | refine rd_rk _ _ rfl rfl ?_ | refine wr_rk _ _ rfl rfl ?_ | apply stateOf_keep | apply setCh_keep | apply execRdptrWrite_keep | apply dmaCmdReg_keep | apply dmaGoReg_keep | apply onSys_keep | apply onHl_keep | apply onApu_keep | apply onTmb_keep | apply onMon_keep | apply onFan_keep | apply onPwr_keep | apply onRcp_keep | apply onSct_keep) | split | intro _ | intro _ | exact ⟨fun _ => Nat.le_refl _, Nat.le_refl _, Nat.le_refl _⟩ | exact fun x hx => hx | exact fun x => ⟨fun _ => Nat.le_refl _, Nat.le_refl _, Nat.le_refl _⟩ | apply onSec_keep | apply onLog_keep | exact ⟨_, rfl, by assumption⟩

theorem regDma_rk (s : State) (a : Nat) : ORegKeep (State.regDma s a) := by
  unfold State.regDma
  try dsimp only
  repeat' first | exact sub_of hp rfl | exact LogLe.same rfl rfl rfl | (with_reducible first | assumption | exact sub_of ‹_› rfl | exact none_rk | apply some_rk | apply regCh_rk | apply ro_rk | apply recipe_rk | apply idle_rk | apply cmd_rk | apply rw_rk | apply when_rk | apply map_rk | apply own_rk | apply denied_rk | refine plain_rk _ rfl rfl | refine rd_rk _ _ rfl rfl ?_ | refine wr_rk _ _ rfl rfl ?_ | apply stateOf_keep | apply onSys_keep | apply onHl_keep | apply onApu_keep | apply onTmb_keep | apply onMon_keep | apply onFan_keep | apply onPwr_keep | apply onRcp_keep | apply onSct_keep) | split | intro _ | intro _ | exact ⟨fun _ => Nat.le_refl _, Nat.le_refl _, Nat.le_refl _⟩ | exact fun x hx => hx | exact fun x => ⟨fun _ => Nat.le_refl _, Nat.le_refl _, Nat.le_refl _⟩ | apply onSec_keep | apply onLog_keep | exact ⟨_, rfl, by assumption⟩

theorem regRec_rk (s : State) (a : Nat) : ORegKeep (State.regRec s a) := by
  unfold State.regRec
  try dsimp only
  repeat' first | exact sub_of hp rfl | exact LogLe.same rfl rfl rfl | (with_reducible first | assumption | exact sub_of ‹_› rfl | exact none_rk | apply some_rk | apply wordAt_rk | apply ro_rk | apply recipe_rk | apply idle_rk | apply cmd_rk | apply rw_rk | apply when_rk | apply map_rk | apply own_rk | apply denied_rk | refine plain_rk _ rfl rfl | refine rd_rk _ _ rfl rfl ?_ | refine wr_rk _ _ rfl rfl ?_ | apply stateOf_keep | apply onLog_keep | apply readWinseq_keep | apply onSys_keep | apply onHl_keep | apply onApu_keep | apply onTmb_keep | apply onMon_keep | apply onFan_keep | apply onPwr_keep | apply onRcp_keep | apply onSct_keep) | split | intro _ | intro _ | exact ⟨fun _ => Nat.le_refl _, Nat.le_refl _, Nat.le_refl _⟩ | exact fun x hx => hx | exact fun x => ⟨fun _ => Nat.le_refl _, Nat.le_refl _, Nat.le_refl _⟩ | apply onSec_keep | apply onLog_keep | exact ⟨_, rfl, by assumption⟩

theorem ite_rk {p : Prop} [Decidable p] {a b : Option Reg} (ha : ORegKeep a) (hb : ORegKeep b) : ORegKeep (if p then a else b) := by split <;> assumption

theorem regAt_rk (s : State) (a : Nat) : ORegKeep (s.regAt a) := by
  unfold State.regAt
  refine ite_rk (regSystem_rk s a) ?_
  refine ite_rk (regPwr_rk s a) ?_
  refine ite_rk (regClk_rk s a) ?_
  refine ite_rk (regRcp_rk s a) ?_
  refine ite_rk (regSec_rk s a) ?_
  refine ite_rk (regHlk_rk s a) ?_
  refine ite_rk (regApu_rk s a) ?_
  refine ite_rk (regDma_rk s a) ?_
  refine ite_rk (by split <;> first | exact regPort_rk _ _ _ | exact none_rk) ?_
  refine ite_rk (regSol_rk s a) ?_
  refine ite_rk (regFan_rk s a) ?_
  refine ite_rk (regCen_rk s a) ?_
  refine ite_rk (regTmb_rk s a) ?_
  refine ite_rk (regGns_rk s a) ?_
  refine ite_rk (regHie_rk s a) ?_
  refine ite_rk (regClp_rk s a) ?_
  refine ite_rk (regCan_rk s a) ?_
  refine ite_rk (regSct_rk s a) ?_
  refine ite_rk (regSeq_rk s a) ?_
  refine ite_rk (regRec_rk s a) ?_
  refine ite_rk (regMon_rk s a) ?_
  refine ite_rk (regCal_rk s a) ?_
  exact none_rk

theorem writeAdmitted_keep {fr : List Part} {s0 : State} (s : State) (k : SessId) (r : Reg) (v : Word) (hs : Keep fr s0 s) (hr : RegKeep r) (hp : sub [.sys, .ports, .banks, .sol, .log, .rcp, .sec, .pwr, .tmb, .gns, .hie, .mon, .cal, .fan, .eng, .sct, .can, .hl, .apu, .dma, .seq, .mem] fr = true := by exact sub_of ‹sub _ _ = true› rfl) : Keep fr s0 (s.writeAdmitted k r v) := by
  unfold State.writeAdmitted
  split
  · exact answer_keep _ _ _ hs
  · split
    · rename_i f h
      exact hr.wr f h k v fr s0 s hp hs
    · exact answer_keep _ _ _ hs

theorem writeWord_keep {fr : List Part} {s0 : State} (s : State) (k : SessId) (a : Nat) (v : Word) (hs : Keep fr s0 s) (hp : sub [.sys, .ports, .banks, .sol, .log, .rcp, .sec, .pwr, .tmb, .gns, .hie, .mon, .cal, .fan, .eng, .sct, .can, .hl, .apu, .dma, .seq, .mem] fr = true := by exact sub_of ‹sub _ _ = true› rfl) : Keep fr s0 (s.writeWord k a v) := by
  unfold State.writeWord
  split
  · exact answer_keep _ _ _ hs
  · split
    · split
      · exact answer_keep _ _ _ (storeWord_keep _ _ _ hs)
      · exact answer_keep _ _ _ hs
    · split
      · exact answer_keep _ _ _ hs
      · rename_i r h
        split
        · exact answer_keep _ _ _ hs
        · split
          · exact writeAdmitted_keep _ _ _ _ hs (regAt_rk s a r h)
          · exact answer_keep _ _ _ hs

theorem readWord_keep {fr : List Part} {s0 : State} (s : State) (k : SessId) (a : Nat) (hs : Keep fr s0 s) (hp : sub [.sys, .ports, .banks, .sol, .log, .rcp, .sec, .pwr, .tmb, .gns, .hie, .mon, .cal, .fan, .eng, .sct, .can, .hl, .apu, .dma, .seq, .mem] fr = true := by exact sub_of ‹sub _ _ = true› rfl) : Keep fr s0 (s.readWord k a).1 := by
  unfold State.readWord
  split
  · exact hs
  · split
    · split
      · split
        · exact eccEmit_keep _ _ _ _ _ _ hs
        · exact hs
      · exact hs
    · split
      · exact hs
      · rename_i r h
        split
        · split
          · rename_i f hf
            exact (regAt_rk s a r h).rd f hf k fr s0 s hp hs
          · exact hs
        · exact hs

theorem execRegisterWrite_keep {fr : List Part} {s0 : State} (a : Nat) (v : Word) (k : SessId) (s : State) (hs : Keep fr s0 s) (hp : sub [.sys, .ports, .banks, .sol, .log, .rcp, .sec, .pwr, .tmb, .gns, .hie, .mon, .cal, .fan, .eng, .sct, .can, .hl, .apu, .dma, .seq, .mem] fr = true := by exact sub_of ‹sub _ _ = true› rfl) : ∃ t, execRegisterWrite a v k s = .next t ∧ Keep fr s0 t := by
  unfold execRegisterWrite
  refine ⟨_, rfl, ?_⟩
  try dsimp only
  repeat' first | exact sub_of hp rfl | (with_reducible first | assumption | apply writeWord_keep | refine pair_keep (by assumption) ?_) | split | intro _

end Sys2Proof.Machine
end

