-- ==== Sys2Proof/Laws/KeepHost.lean ====
section
/-! SUPPORT. What every operation keeps, of the host link and the idle tick. -/

namespace Sys2Proof.Machine

set_option linter.all false
set_option Elab.async false

open Sys2Proof

theorem blockFault_keep {fr : List Part} {s0 : State} (s : State) (k : SessId) (cause : DmaCause) (prog : Nat) (a : Nat) (hs : Keep fr s0 s) (hp : sub [.sys, .log, .mon, .dma] fr = true := by exact sub_of ‹sub _ _ = true› rfl) : Keep fr s0 (State.blockFault s k cause prog a) := by
  unfold State.blockFault
  try dsimp only
  repeat' first | exact sub_of hp rfl | (with_reducible first | assumption | apply count_keep | apply emit_keep | apply setCh_keep | apply eccEmit_keep | refine pair_keep (by assumption) ?_) | split | intro _

theorem blockRead_keep {fr : List Part} {s0 : State} (s : State) (k : SessId) (prog : Nat) (a : Nat) (hs : Keep fr s0 s) (hp : sub [.sys, .log, .mon, .dma] fr = true := by exact sub_of ‹sub _ _ = true› rfl) : Keep fr s0 (State.blockRead s k prog a).1 := by
  unfold State.blockRead
  try dsimp only
  repeat' first | exact sub_of hp rfl | (with_reducible first | assumption | apply blockFault_keep | refine pair_keep (by assumption) ?_) | split | intro _

theorem blockWrite_keep {fr : List Part} {s0 : State} (s : State) (k : SessId) (prog : Nat) (a : Nat) (w : Word) (hs : Keep fr s0 s) (hp : sub [.sys, .log, .mon, .dma, .mem] fr = true := by exact sub_of ‹sub _ _ = true› rfl) : Keep fr s0 (State.blockWrite s k prog a w).1 := by
  unfold State.blockWrite
  try dsimp only
  repeat' first | exact sub_of hp rfl | (with_reducible first | assumption | apply storeWord_keep | apply blockFault_keep | refine pair_keep (by assumption) ?_) | split | intro _

theorem readRun_keep' {fr : List Part} {s0 : State} (k : SessId) (n : Nat) (hp : sub [.sys, .ports, .banks, .sol, .log, .rcp, .sec, .pwr, .tmb, .gns, .hie, .mon, .cal, .fan, .eng, .sct, .can, .hl, .apu, .dma, .seq, .mem] fr = true) : ∀ (s : State) (c : HostCmd), Keep fr s0 s → Keep fr s0 (s.readRun k c n).1 := by
  induction n with
  | zero => intro s c hs; exact hs
  | succ n ih =>
    intro s c hs
    have h : Keep fr s0 (if c.block then s.blockRead k c.done c.at_ else s.readWord k c.at_).1 := by
      split
      · exact blockRead_keep _ _ _ _ hs
      · exact readWord_keep _ _ _ hs
    unfold State.readRun
    dsimp only
    split
    · exact ih _ _ h
    · exact h

theorem readRun_keep {fr : List Part} {s0 : State} (k : SessId) (n : Nat) (s : State) (c : HostCmd) (h0 : Keep fr s0 s) (hp : sub [.sys, .ports, .banks, .sol, .log, .rcp, .sec, .pwr, .tmb, .gns, .hie, .mon, .cal, .fan, .eng, .sct, .can, .hl, .apu, .dma, .seq, .mem] fr = true := by exact sub_of ‹sub _ _ = true› rfl) : Keep fr s0 (s.readRun k c n).1 := readRun_keep' k n hp s c h0

theorem hostWord_keep {fr : List Part} {s0 : State} (s : State) (k : SessId) (a : Nat) (w : Word) (hs : Keep fr s0 s) (hp : sub [.sys, .ports, .banks, .sol, .log, .rcp, .sec, .pwr, .tmb, .gns, .hie, .mon, .cal, .fan, .eng, .sct, .can, .hl, .apu, .dma, .seq, .mem] fr = true := by exact sub_of ‹sub _ _ = true› rfl) : Keep fr s0 (State.hostWord s k a w).1 := by
  unfold State.hostWord
  try dsimp only
  repeat' first | exact sub_of hp rfl | (with_reducible first | assumption | apply onSys_keep | apply onHl_keep | apply writeWord_keep | refine pair_keep (by assumption) ?_) | split | intro _

theorem leaveFirst_keep {fr : List Part} {s0 : State} (s : State) (k : SessId) (c : HostCmd) (w : Word) (hs : Keep fr s0 s) (hp : sub [.sys, .log, .sec, .mon, .can, .hl, .apu, .dma] fr = true := by exact sub_of ‹sub _ _ = true› rfl) : Keep fr s0 (State.leaveFirst s k c w) := by
  unfold State.leaveFirst
  try dsimp only
  repeat' first | exact sub_of hp rfl | (with_reducible first | assumption | apply sessSend_keep | refine pair_keep (by assumption) ?_) | split | intro _

theorem writeRun_keep' {fr : List Part} {s0 : State} (k : SessId) (ws : List Word) (hp : sub [.sys, .ports, .banks, .sol, .log, .rcp, .sec, .pwr, .tmb, .gns, .hie, .mon, .cal, .fan, .eng, .sct, .can, .hl, .apu, .dma, .seq, .mem] fr = true) : ∀ (s : State) (c : HostCmd), Keep fr s0 s → Keep fr s0 (s.writeRun k c ws).1 := by
  induction ws with
  | nil => intro s c hs; exact hs
  | cons w ws ih =>
    intro s c hs
    unfold State.writeRun
    dsimp only
    have h1 := blockWrite_keep s k c.done c.at_ w hs
    have h2 := hostWord_keep _ k c.at_ w (leaveFirst_keep s k c w hs)
    split
    · split
      · exact ih _ _ h1
      · exact h1
    · split
      · exact h2
      · split
        · exact ih _ _ h2
        · exact h2
        · exact h2

theorem writeRun_keep {fr : List Part} {s0 : State} (k : SessId) (ws : List Word) (s : State) (c : HostCmd) (h0 : Keep fr s0 s) (hp : sub [.sys, .ports, .banks, .sol, .log, .rcp, .sec, .pwr, .tmb, .gns, .hie, .mon, .cal, .fan, .eng, .sct, .can, .hl, .apu, .dma, .seq, .mem] fr = true := by exact sub_of ‹sub _ _ = true› rfl) : Keep fr s0 (s.writeRun k c ws).1 := writeRun_keep' k ws hp s c h0

theorem respond_keep {fr : List Part} {s0 : State} (s : State) (k : SessId) (bytes : List Byte) (hs : Keep fr s0 s) (hp : sub [.sys, .hl] fr = true := by exact sub_of ‹sub _ _ = true› rfl) : Keep fr s0 (State.respond s k bytes) := by
  unfold State.respond
  try dsimp only
  repeat' first | exact sub_of hp rfl | (with_reducible first | assumption | apply onHl_keep | apply noteFill_keep | refine pair_keep (by assumption) ?_) | split | intro _

theorem setRun_keep {fr : List Part} {s0 : State} (s : State) (k : SessId) (c : Option HostCmd) (hs : Keep fr s0 s) (hp : sub [.hl] fr = true := by exact sub_of ‹sub _ _ = true› rfl) : Keep fr s0 (State.setRun s k c) := by
  unfold State.setRun
  try dsimp only
  repeat' first | exact sub_of hp rfl | (with_reducible first | assumption | apply onHl_keep | refine pair_keep (by assumption) ?_) | split | intro _

theorem conclude_keep {fr : List Part} {s0 : State} (s : State) (k : SessId) (c : HostCmd) (st : Option Status) (hs : Keep fr s0 s) (hp : sub [.sys, .hl] fr = true := by exact sub_of ‹sub _ _ = true› rfl) : Keep fr s0 (State.conclude s k c st) := by
  unfold State.conclude
  try dsimp only
  repeat' first | exact sub_of hp rfl | (with_reducible first | assumption | apply respond_keep | apply setRun_keep | refine pair_keep (by assumption) ?_) | split | intro _

theorem runCmd_keep {fr : List Part} {s0 : State} (s : State) (k : SessId) (c : HostCmd) (hs : Keep fr s0 s) (hp : sub [.sys, .ports, .banks, .sol, .log, .rcp, .sec, .pwr, .tmb, .gns, .hie, .mon, .cal, .fan, .eng, .sct, .can, .hl, .apu, .dma, .seq, .mem] fr = true := by exact sub_of ‹sub _ _ = true› rfl) : Keep fr s0 (s.runCmd k c) := by
  unfold State.runCmd
  split
  · exact conclude_keep _ _ _ _ hs
  · exact conclude_keep _ _ _ _ hs
  · exact conclude_keep _ _ _ _ (readRun_keep _ _ _ _ hs)
  · exact conclude_keep _ _ _ _ (writeRun_keep _ _ _ _ hs)

theorem startCmds_keep' {fr : List Part} {s0 : State} (k : SessId) (n : Nat) (hp : sub [.sys, .ports, .banks, .sol, .log, .rcp, .sec, .pwr, .tmb, .gns, .hie, .mon, .cal, .fan, .eng, .sct, .can, .hl, .apu, .dma, .seq, .mem] fr = true) : ∀ s : State, Keep fr s0 s → Keep fr s0 (s.startCmds k n) := by
  induction n with
  | zero => intro s hs; exact hs
  | succ n ih =>
    intro s hs
    unfold State.startCmds
    split
    · exact hs
    · split
      · exact hs
      · exact ih _ (runCmd_keep _ _ _ (onHl_keep _ _ hs))

theorem startCmds_keep {fr : List Part} {s0 : State} (k : SessId) (n : Nat) (s : State) (h0 : Keep fr s0 s) (hp : sub [.sys, .ports, .banks, .sol, .log, .rcp, .sec, .pwr, .tmb, .gns, .hie, .mon, .cal, .fan, .eng, .sct, .can, .hl, .apu, .dma, .seq, .mem] fr = true := by exact sub_of ‹sub _ _ = true› rfl) : Keep fr s0 (s.startCmds k n) := startCmds_keep' k n hp s h0

theorem accept_keep {fr : List Part} {s0 : State} (s : State) (k : SessId) (c : HostCmd) (hs : Keep fr s0 s) (hp : sub [.sys, .ports, .banks, .sol, .log, .rcp, .sec, .pwr, .tmb, .gns, .hie, .mon, .cal, .fan, .eng, .sct, .can, .hl, .apu, .dma, .seq, .mem] fr = true := by exact sub_of ‹sub _ _ = true› rfl) : Keep fr s0 (State.accept s k c) := by
  unfold State.accept
  try dsimp only
  repeat' first | exact sub_of hp rfl | (with_reducible first | assumption | apply onHl_keep | apply noteFill_keep | apply sessSend_keep | apply respond_keep | apply startCmds_keep | refine pair_keep (by assumption) ?_) | split | intro _

theorem resumeCmd_keep {fr : List Part} {s0 : State} (s : State) (k : SessId) (c : HostCmd) (st : Status) (hs : Keep fr s0 s) (hp : sub [.sys, .ports, .banks, .sol, .log, .rcp, .sec, .pwr, .tmb, .gns, .hie, .mon, .cal, .fan, .eng, .sct, .can, .hl, .apu, .dma, .seq, .mem] fr = true := by exact sub_of ‹sub _ _ = true› rfl) : Keep fr s0 (State.resumeCmd s k c st) := by
  unfold State.resumeCmd
  try dsimp only
  repeat' first | exact sub_of hp rfl | (with_reducible first | assumption | apply onHl_keep | apply conclude_keep | apply runCmd_keep | apply startCmds_keep | refine pair_keep (by assumption) ?_) | split | intro _

theorem resumeAll_keep {fr : List Part} {s0 : State} (s : State) (k : SessId) (hs : Keep fr s0 s) (hp : sub [.sys, .ports, .banks, .sol, .log, .rcp, .sec, .pwr, .tmb, .gns, .hie, .mon, .cal, .fan, .eng, .sct, .can, .hl, .apu, .dma, .seq, .mem] fr = true := by exact sub_of ‹sub _ _ = true› rfl) : Keep fr s0 (State.resumeAll s k) := by
  unfold State.resumeAll
  try dsimp only
  repeat' first | exact sub_of hp rfl | (with_reducible first | assumption | apply resumeCmd_keep | apply foldl_keep | apply foldl_fst_keep | refine pair_keep (by assumption) ?_) | split | intro _

theorem execRead_keep {fr : List Part} {s0 : State} (k : SessId) (fence : Bool) (tag : Nat) (addr : Nat) (count : Nat) (s : State) (hs : Keep fr s0 s) (hp : sub [.sys, .ports, .banks, .sol, .log, .rcp, .sec, .pwr, .tmb, .gns, .hie, .mon, .cal, .fan, .eng, .sct, .can, .hl, .apu, .dma, .seq, .mem] fr = true := by exact sub_of ‹sub _ _ = true› rfl) : ∃ t, execRead k fence tag addr count s = .next t ∧ Keep fr s0 t := by
  unfold execRead
  refine ⟨_, rfl, ?_⟩
  try dsimp only
  repeat' first | exact sub_of hp rfl | (with_reducible first | assumption | apply accept_keep | refine pair_keep (by assumption) ?_) | split | intro _

theorem execHostWrite_keep {fr : List Part} {s0 : State} (k : SessId) (fence : Bool) (tag : Nat) (addr : Nat) (ws : List Word) (s : State) (hs : Keep fr s0 s) (hp : sub [.sys, .ports, .banks, .sol, .log, .rcp, .sec, .pwr, .tmb, .gns, .hie, .mon, .cal, .fan, .eng, .sct, .can, .hl, .apu, .dma, .seq, .mem] fr = true := by exact sub_of ‹sub _ _ = true› rfl) : ∃ t, execHostWrite k fence tag addr ws s = .next t ∧ Keep fr s0 t := by
  unfold execHostWrite
  refine ⟨_, rfl, ?_⟩
  try dsimp only
  repeat' first | exact sub_of hp rfl | (with_reducible first | assumption | apply accept_keep | refine pair_keep (by assumption) ?_) | split | intro _

theorem execPing_keep {fr : List Part} {s0 : State} (k : SessId) (fence : Bool) (tag : Nat) (addr : Nat) (s : State) (hs : Keep fr s0 s) (hp : sub [.sys, .ports, .banks, .sol, .log, .rcp, .sec, .pwr, .tmb, .gns, .hie, .mon, .cal, .fan, .eng, .sct, .can, .hl, .apu, .dma, .seq, .mem] fr = true := by exact sub_of ‹sub _ _ = true› rfl) : ∃ t, execPing k fence tag addr s = .next t ∧ Keep fr s0 t := by
  unfold execPing
  refine ⟨_, rfl, ?_⟩
  try dsimp only
  repeat' first | exact sub_of hp rfl | (with_reducible first | assumption | apply accept_keep | refine pair_keep (by assumption) ?_) | split | intro _

theorem frameAccepted_keep {fr : List Part} {s0 : State} (s : State) (k : SessId) (p : Peer) (ctr : Nat) (hs : Keep fr s0 s) (hp : sub [.sec, .mon] fr = true := by exact sub_of ‹sub _ _ = true› rfl) : Keep fr s0 (State.frameAccepted s k p ctr) := by
  unfold State.frameAccepted
  try dsimp only
  repeat' first | exact sub_of hp rfl | (with_reducible first | assumption | apply setSess_keep | apply count_keep | refine pair_keep (by assumption) ?_) | split | intro _

theorem rxSession_keep {fr : List Part} {s0 : State} (s : State) (p : Peer) (k : SessId) (kind : Nat) (head : List Byte) (rest : List Byte) (len : Nat) (hs : Keep fr s0 s) (hp : sub [.sys, .ports, .banks, .sol, .log, .rcp, .sec, .pwr, .tmb, .gns, .hie, .mon, .cal, .fan, .eng, .sct, .can, .hl, .apu, .dma, .seq, .mem] fr = true := by exact sub_of ‹sub _ _ = true› rfl) : Keep fr s0 (State.rxSession s p k kind head rest len) := by
  unfold State.rxSession
  try dsimp only
  repeat' first | exact sub_of hp rfl | (with_reducible first | assumption | apply endSession_keep | apply frameFails_keep | apply accept_keep | apply frameAccepted_keep | refine pair_keep (by assumption) ?_) | split | intro _

theorem rxRalar_keep {fr : List Part} {s0 : State} (s : State) (p : Peer) (frame : List Byte) (hs : Keep fr s0 s) (hp : sub [.sys, .ports, .banks, .sol, .log, .rcp, .sec, .pwr, .tmb, .gns, .hie, .mon, .cal, .fan, .eng, .sct, .can, .hl, .apu, .dma, .seq, .mem] fr = true := by exact sub_of ‹sub _ _ = true› rfl) : Keep fr s0 (State.rxRalar s p frame) := by
  unfold State.rxRalar
  try dsimp only
  repeat' first | exact sub_of hp rfl | (with_reducible first | assumption | apply onHl_keep | apply malformed_keep | apply rxHello_keep | apply rxFinish_keep | apply rxSession_keep | refine pair_keep (by assumption) ?_) | split | intro _

theorem discard_keep {fr : List Part} {s0 : State} (s : State) (hs : Keep fr s0 s) (hp : sub [.hl] fr = true := by exact sub_of ‹sub _ _ = true› rfl) : Keep fr s0 (State.discard s) := by
  unfold State.discard
  try dsimp only
  repeat' first | exact sub_of hp rfl | (with_reducible first | assumption | apply onHl_keep | refine pair_keep (by assumption) ?_) | split | intro _

theorem learnArp_keep {fr : List Part} {s0 : State} (s : State) (ip : Nat) (mac : Nat) (hs : Keep fr s0 s) (hp : sub [.hl] fr = true := by exact sub_of ‹sub _ _ = true› rfl) : Keep fr s0 (State.learnArp s ip mac) := by
  unfold State.learnArp
  try dsimp only
  repeat' first | exact sub_of hp rfl | (with_reducible first | assumption | apply onHl_keep | refine pair_keep (by assumption) ?_) | split | intro _

theorem rxArp_keep {fr : List Part} {s0 : State} (s : State) (b : List Byte) (hs : Keep fr s0 s) (hp : sub [.hl] fr = true := by exact sub_of ‹sub _ _ = true› rfl) : Keep fr s0 (State.rxArp s b) := by
  unfold State.rxArp
  try dsimp only
  repeat' first | exact sub_of hp rfl | (with_reducible first | assumption | apply onHl_keep | apply discard_keep | apply learnArp_keep | refine pair_keep (by assumption) ?_) | split | intro _

theorem answerEcho_keep {fr : List Part} {s0 : State} (s : State) (n : Nat) (at_ : Nat) (frame : List Byte) (hs : Keep fr s0 s) (hp : sub [.hl] fr = true := by exact sub_of ‹sub _ _ = true› rfl) : Keep fr s0 (State.answerEcho s n at_ frame) := by
  unfold State.answerEcho
  try dsimp only
  repeat' first | exact sub_of hp rfl | (with_reducible first | assumption | apply onHl_keep | refine pair_keep (by assumption) ?_) | split | intro _

theorem rxEcho_keep {fr : List Part} {s0 : State} (s : State) (b : List Byte) (len : Nat) (hs : Keep fr s0 s) (hp : sub [.hl] fr = true := by exact sub_of ‹sub _ _ = true› rfl) : Keep fr s0 (State.rxEcho s b len) := by
  unfold State.rxEcho
  try dsimp only
  repeat' first | exact sub_of hp rfl | (with_reducible first | assumption | apply discard_keep | apply answerEcho_keep | refine pair_keep (by assumption) ?_) | split | intro _

theorem rxUdp_keep {fr : List Part} {s0 : State} (s : State) (b : List Byte) (len : Nat) (hs : Keep fr s0 s) (hp : sub [.sys, .ports, .banks, .sol, .log, .rcp, .sec, .pwr, .tmb, .gns, .hie, .mon, .cal, .fan, .eng, .sct, .can, .hl, .apu, .dma, .seq, .mem] fr = true := by exact sub_of ‹sub _ _ = true› rfl) : Keep fr s0 (State.rxUdp s b len) := by
  unfold State.rxUdp
  try dsimp only
  repeat' first | exact sub_of hp rfl | (with_reducible first | assumption | apply rxRalar_keep | apply discard_keep | refine pair_keep (by assumption) ?_) | split | intro _

theorem rxIp_keep {fr : List Part} {s0 : State} (s : State) (b : List Byte) (hs : Keep fr s0 s) (hp : sub [.sys, .ports, .banks, .sol, .log, .rcp, .sec, .pwr, .tmb, .gns, .hie, .mon, .cal, .fan, .eng, .sct, .can, .hl, .apu, .dma, .seq, .mem] fr = true := by exact sub_of ‹sub _ _ = true› rfl) : Keep fr s0 (State.rxIp s b) := by
  unfold State.rxIp
  try dsimp only
  repeat' first | exact sub_of hp rfl | (with_reducible first | assumption | apply discard_keep | apply rxEcho_keep | apply rxUdp_keep | refine pair_keep (by assumption) ?_) | split | intro _

theorem execEthernetFrameRx_keep {fr : List Part} {s0 : State} (b : List Byte) (s : State) (hs : Keep fr s0 s) (hp : sub [.sys, .ports, .banks, .sol, .log, .rcp, .sec, .pwr, .tmb, .gns, .hie, .mon, .cal, .fan, .eng, .sct, .can, .hl, .apu, .dma, .seq, .mem] fr = true := by exact sub_of ‹sub _ _ = true› rfl) : ∃ t, execEthernetFrameRx b s = .next t ∧ Keep fr s0 t := by
  unfold execEthernetFrameRx
  refine ⟨_, rfl, ?_⟩
  try dsimp only
  repeat' first | exact sub_of hp rfl | (with_reducible first | assumption | apply discard_keep | apply rxArp_keep | apply rxIp_keep | refine pair_keep (by assumption) ?_) | split | intro _

theorem dropSeg_keep {fr : List Part} {s0 : State} (s : State) (hs : Keep fr s0 s) (hp : sub [.hl] fr = true := by exact sub_of ‹sub _ _ = true› rfl) : Keep fr s0 (State.dropSeg s) := by
  unfold State.dropSeg
  try dsimp only
  repeat' first | exact sub_of hp rfl | (with_reducible first | assumption | apply onHl_keep | refine pair_keep (by assumption) ?_) | split | intro _

theorem expireSeg_keep {fr : List Part} {s0 : State} (s : State) (h : Fin 4) (hs : Keep fr s0 s) (hp : sub [.hl] fr = true := by exact sub_of ‹sub _ _ = true› rfl) : Keep fr s0 (State.expireSeg s h) := by
  unfold State.expireSeg
  try dsimp only
  repeat' first | exact sub_of hp rfl | (with_reducible first | assumption | apply onHl_keep | apply dropSeg_keep | refine pair_keep (by assumption) ?_) | split | intro _

theorem rxSeg_keep {fr : List Part} {s0 : State} (s : State) (h : Fin 4) (data : List Byte) (hs : Keep fr s0 s) (hp : sub [.sys, .ports, .banks, .sol, .log, .rcp, .sec, .pwr, .tmb, .gns, .hie, .mon, .cal, .fan, .eng, .sct, .can, .hl, .apu, .dma, .seq, .mem] fr = true := by exact sub_of ‹sub _ _ = true› rfl) : Keep fr s0 (State.rxSeg s h data) := by
  unfold State.rxSeg
  try dsimp only
  repeat' first | exact sub_of hp rfl | (with_reducible first | assumption | apply onHl_keep | apply rxRalar_keep | apply dropSeg_keep | apply expireSeg_keep | refine pair_keep (by assumption) ?_) | split | intro _

theorem execCan0Segment_keep {fr : List Part} {s0 : State} (h : Fin 4) (data : List Byte) (s : State) (hs : Keep fr s0 s) (hp : sub [.sys, .ports, .banks, .sol, .log, .rcp, .sec, .pwr, .tmb, .gns, .hie, .mon, .cal, .fan, .eng, .sct, .can, .hl, .apu, .dma, .seq, .mem] fr = true := by exact sub_of ‹sub _ _ = true› rfl) : ∃ t, execCan0Segment h data s = .next t ∧ Keep fr s0 t := by
  unfold execCan0Segment
  refine ⟨_, rfl, ?_⟩
  try dsimp only
  repeat' first | exact sub_of hp rfl | (with_reducible first | assumption | apply rxSeg_keep | refine pair_keep (by assumption) ?_) | split | intro _

theorem setAsm_keep {fr : List Part} {s0 : State} (s : State) (a : Nat) (p : Option Partial) (hs : Keep fr s0 s) (hp : sub [.hie] fr = true := by exact sub_of ‹sub _ _ = true› rfl) : Keep fr s0 (State.setAsm s a p) := by
  unfold State.setAsm
  try dsimp only
  repeat' first | exact sub_of hp rfl | (with_reducible first | assumption | apply onHie_keep | refine pair_keep (by assumption) ?_) | split | intro _ | exact fun x hx => hx

theorem expireAsm_keep {fr : List Part} {s0 : State} (s : State) (a : Nat) (hs : Keep fr s0 s) (hp : sub [.hie, .hl] fr = true := by exact sub_of ‹sub _ _ = true› rfl) : Keep fr s0 (State.expireAsm s a) := by
  unfold State.expireAsm
  try dsimp only
  repeat' first | exact sub_of hp rfl | (with_reducible first | assumption | apply dropSeg_keep | apply setAsm_keep | refine pair_keep (by assumption) ?_) | split | intro _

theorem addSeg_keep {fr : List Part} {s0 : State} (s : State) (a : Nat) (bytes : List Byte) (seq : Nat) (last : Bool) (hs : Keep fr s0 s) (hp : sub [.sys, .log, .sec, .hie, .mon, .hl] fr = true := by exact sub_of ‹sub _ _ = true› rfl) : Keep fr s0 (State.addSeg s a bytes seq last) := by
  unfold State.addSeg
  try dsimp only
  repeat' first | exact sub_of hp rfl | (with_reducible first | assumption | apply rxHier_keep | apply dropSeg_keep | apply setAsm_keep | refine pair_keep (by assumption) ?_) | split | intro _

theorem rxSeg3_keep {fr : List Part} {s0 : State} (s : State) (a : Nat) (data : List Byte) (hs : Keep fr s0 s) (hp : sub [.sys, .log, .sec, .hie, .mon, .hl] fr = true := by exact sub_of ‹sub _ _ = true› rfl) : Keep fr s0 (State.rxSeg3 s a data) := by
  unfold State.rxSeg3
  try dsimp only
  repeat' first | exact sub_of hp rfl | (with_reducible first | assumption | apply dropSeg_keep | apply setAsm_keep | apply expireAsm_keep | apply addSeg_keep | refine pair_keep (by assumption) ?_) | split | intro _

theorem execCan3Segment_keep {fr : List Part} {s0 : State} (sender : Nat) (data : List Byte) (s : State) (hs : Keep fr s0 s) (hp : sub [.sys, .log, .sec, .hie, .mon, .hl] fr = true := by exact sub_of ‹sub _ _ = true› rfl) : ∃ t, execCan3Segment sender data s = .next t ∧ Keep fr s0 t := by
  unfold execCan3Segment
  refine ⟨_, rfl, ?_⟩
  try dsimp only
  repeat' first | exact sub_of hp rfl | (with_reducible first | assumption | apply rxSeg3_keep | refine pair_keep (by assumption) ?_) | split | intro _

theorem takeData_keep {fr : List Part} {s0 : State} (s : State) (from_ : Side) (som : Bool) (eom : Bool) (payload : List Byte) (hs : Keep fr s0 s) (hp : sub [.sys, .log, .sec, .hie, .mon] fr = true := by exact sub_of ‹sub _ _ = true› rfl) : Keep fr s0 (State.takeData s from_ som eom payload) := by
  unfold State.takeData
  try dsimp only
  repeat' first | exact sub_of hp rfl | (with_reducible first | assumption | apply onHie_keep | apply rxHier_keep | refine pair_keep (by assumption) ?_) | split | intro _ | exact fun x hx => hx

theorem execData_keep {fr : List Part} {s0 : State} (from_ : Side) (dst : Nat) (som : Bool) (eom : Bool) (payload : List Byte) (crc : Nat) (s : State) (hs : Keep fr s0 s) (hp : sub [.sys, .log, .sec, .hie, .mon] fr = true := by exact sub_of ‹sub _ _ = true› rfl) : ∃ t, execData from_ dst som eom payload crc s = .next t ∧ Keep fr s0 t := by
  unfold execData
  refine ⟨_, rfl, ?_⟩
  try dsimp only
  repeat' first | exact sub_of hp rfl | (with_reducible first | assumption | apply badFrame_keep | apply transmit_keep | apply takeData_keep | refine pair_keep (by assumption) ?_) | split | intro _

theorem toBuffer_keep {fr : List Part} {s0 : State} (s : State) (c : CanId) (b : Fin 64) (flt : Nat) (x : CanFrame) (sof : Nat) (hs : Keep fr s0 s) (hp : sub [.sys, .log, .mon, .can] fr = true := by exact sub_of ‹sub _ _ = true› rfl) : Keep fr s0 (State.toBuffer s c b flt x sof) := by
  unfold State.toBuffer
  try dsimp only
  repeat' first | exact sub_of hp rfl | (with_reducible first | assumption | apply setCan_keep | apply count_keep | apply canEmit_keep | refine pair_keep (by assumption) ?_) | split | intro _

theorem toRuntime_keep {fr : List Part} {s0 : State} (s : State) (c : CanId) (x : CanFrame) (hs : Keep fr s0 s) (hp : sub [.sys, .ports, .banks, .sol, .log, .rcp, .sec, .pwr, .tmb, .gns, .hie, .mon, .cal, .fan, .eng, .sct, .can, .hl, .apu, .dma, .seq, .mem] fr = true := by exact sub_of ‹sub _ _ = true› rfl) : Keep fr s0 (State.toRuntime s c x) := by
  unfold State.toRuntime
  try dsimp only
  repeat' first | exact sub_of hp rfl | (with_reducible first | assumption | apply count_keep | apply rxSeg_keep | apply rxSeg3_keep | refine pair_keep (by assumption) ?_) | split | intro _

theorem goodRx_keep {fr : List Part} {s0 : State} (s : State) (c : CanId) (hs : Keep fr s0 s) (hp : sub [.sys, .log, .mon, .can, .hl] fr = true := by exact sub_of ‹sub _ _ = true› rfl) : Keep fr s0 (State.goodRx s c) := by
  unfold State.goodRx
  try dsimp only
  repeat' first | exact sub_of hp rfl | (with_reducible first | assumption | apply setCan_keep | apply draw_keep | apply judgeState_keep | refine pair_keep (by assumption) ?_) | split | intro _

theorem execCanFrameRx_keep {fr : List Part} {s0 : State} (c : CanId) (x : CanFrame) (sof : Nat) (s : State) (hs : Keep fr s0 s) (hp : sub [.sys, .ports, .banks, .sol, .log, .rcp, .sec, .pwr, .tmb, .gns, .hie, .mon, .cal, .fan, .eng, .sct, .can, .hl, .apu, .dma, .seq, .mem] fr = true := by exact sub_of ‹sub _ _ = true› rfl) : ∃ t, execCanFrameRx c x sof s = .next t ∧ Keep fr s0 t := by
  unfold execCanFrameRx
  refine ⟨_, rfl, ?_⟩
  try dsimp only
  repeat' first | exact sub_of hp rfl | (with_reducible first | assumption | apply setCan_keep | apply frameEnd_keep | apply toBuffer_keep | apply toRuntime_keep | apply goodRx_keep | refine pair_keep (by assumption) ?_) | split | intro _

theorem clock_keep {fr : List Part} {s0 : State} (s : State) (hs : Keep fr s0 s) (hp : sub [.sys, .log, .tmb] fr = true := by exact sub_of ‹sub _ _ = true› rfl) : Keep fr s0 (State.clock s) := by
  unfold State.clock
  try dsimp only
  repeat' first | exact sub_of hp rfl | exact LogLe.same rfl rfl rfl | (with_reducible first | assumption | apply onSys_keep | apply onLog_keep | apply advanceT_keep | refine pair_keep (by assumption) ?_) | split | intro _ | exact fun x hx => hx

theorem tickCounters_keep {fr : List Part} {s0 : State} (s : State) (ms : Bool) (hs : Keep fr s0 s) (hp : sub [.mon] fr = true := by exact sub_of ‹sub _ _ = true› rfl) : Keep fr s0 (State.tickCounters s ms) := by
  unfold State.tickCounters
  try dsimp only
  repeat' first | exact sub_of hp rfl | (with_reducible first | assumption | apply onMon_keep | refine pair_keep (by assumption) ?_) | split | intro _

theorem tickGauges_keep {fr : List Part} {s0 : State} (s : State) (hs : Keep fr s0 s) (hp : sub [.mon] fr = true := by exact sub_of ‹sub _ _ = true› rfl) : Keep fr s0 (State.tickGauges s) := by
  unfold State.tickGauges
  try dsimp only
  repeat' first | exact sub_of hp rfl | (with_reducible first | assumption | apply onMon_keep | refine pair_keep (by assumption) ?_) | split | intro _

theorem stepBoundary_keep {fr : List Part} {s0 : State} (s : State) (hs : Keep fr s0 s) (hp : sub [.mon] fr = true := by exact sub_of ‹sub _ _ = true› rfl) : Keep fr s0 (State.stepBoundary s) := by
  unfold State.stepBoundary
  try dsimp only
  repeat' first | exact sub_of hp rfl | (with_reducible first | assumption | apply onMon_keep | apply closePeriod_keep | refine pair_keep (by assumption) ?_) | split | intro _

theorem takeQ9_keep {fr : List Part} {s0 : State} (s : State) (hs : Keep fr s0 s) (hp : sub [.seq] fr = true := by exact sub_of ‹sub _ _ = true› rfl) : Keep fr s0 s.takeQ9 :=
  onSeq_keep _ _ hs fun x h => by simp only [List.length_drop]; omega

theorem takeQ11_keep {fr : List Part} {s0 : State} (s : State) (hs : Keep fr s0 s) (hp : sub [.gns] fr = true := by exact sub_of ‹sub _ _ = true› rfl) : Keep fr s0 (State.takeQ11 s) := by
  unfold State.takeQ11
  try dsimp only
  repeat' first | exact sub_of hp rfl | (with_reducible first | assumption | apply onGns_keep | refine pair_keep (by assumption) ?_) | split | intro _

theorem handle_keep {fr : List Part} {s0 : State} (s : State) (m : Msg) (hs : Keep fr s0 s) (hp : sub [.sys, .ports, .sol, .log, .sec, .hie, .mon, .sct] fr = true := by exact sub_of ‹sub _ _ = true› rfl) : Keep fr s0 (State.handle s m) := by
  unfold State.handle
  try dsimp only
  repeat' first | exact sub_of hp rfl | (with_reducible first | assumption | apply fromKnown_keep | apply rxHeartbeat_keep | apply rxTimed_keep | apply rxReserve_keep | apply rxDesc_keep | apply rxStop_keep | apply rxDone_keep | apply rxDelay_keep | apply rxRelease_keep | apply rxRotate_keep | refine pair_keep (by assumption) ?_) | split | intro _

theorem takeQ13_keep {fr : List Part} {s0 : State} (s : State) (hs : Keep fr s0 s) (hp : sub [.sys, .ports, .sol, .log, .sec, .hie, .mon, .sct] fr = true := by exact sub_of ‹sub _ _ = true› rfl) : Keep fr s0 s.takeQ13 := by
  unfold State.takeQ13
  split
  · exact hs
  · rename_i e
    exact handle_keep _ _ ⟨fun i => have j := hs.inv i; ⟨j.1, j.2, j.3, by have := j.4; rw [e] at this; exact Nat.le_of_succ_le this, j.5, j.6⟩, hs.pend, hs.sec, hs.only_of (qs := [.hie]) (sub_of hp rfl) (fun p h => by cases p <;> first | exact absurd (by decide) h | rfl), hs.log.trans (LogLe.same rfl rfl rfl)⟩

theorem clapperSend_keep {fr : List Part} {s0 : State} (s : State) (dst : Nat) (bytes : List Byte) (hs : Keep fr s0 s) (hp : sub [.hie] fr = true := by exact sub_of ‹sub _ _ = true› rfl) : Keep fr s0 (State.clapperSend s dst bytes) := by
  unfold State.clapperSend
  try dsimp only
  repeat' first | exact sub_of hp rfl | (with_reducible first | assumption | apply transmit_keep | apply foldl_keep | apply foldl_fst_keep | refine pair_keep (by assumption) ?_) | split | intro _

theorem sendHier_keep {fr : List Part} {s0 : State} (s : State) (m : Msg) (hs : Keep fr s0 s) (hp : sub [.sec, .hie, .can] fr = true := by exact sub_of ‹sub _ _ = true› rfl) : Keep fr s0 (State.sendHier s m) := by
  unfold State.sendHier
  try dsimp only
  repeat' first | exact sub_of hp rfl | (with_reducible first | assumption | apply onSec_keep | apply segSend_keep | apply clapperSend_keep | refine pair_keep (by assumption) ?_) | split | intro _ | exact ⟨fun _ => Nat.le_refl _, Nat.le_refl _, Nat.le_refl _⟩

theorem takeQ14_keep {fr : List Part} {s0 : State} (s : State) (hs : Keep fr s0 s) (hp : sub [.sec, .hie, .can] fr = true := by exact sub_of ‹sub _ _ = true› rfl) : Keep fr s0 s.takeQ14 := by
  unfold State.takeQ14
  split
  · exact hs
  · rename_i e
    exact sendHier_keep _ _ ⟨fun i => have j := hs.inv i; ⟨j.1, j.2, j.3, j.4, by have := j.5; rw [e] at this; exact Nat.le_of_succ_le this, j.6⟩, hs.pend, hs.sec, hs.only_of (qs := [.hie]) (sub_of hp rfl) (fun p h => by cases p <;> first | exact absurd (by decide) h | rfl), hs.log.trans (LogLe.same rfl rfl rfl)⟩

theorem notifyFault_keep {fr : List Part} {s0 : State} (s : State) (r : List Byte) (hs : Keep fr s0 s) (hp : sub [.sys, .hl] fr = true := by exact sub_of ‹sub _ _ = true› rfl) : Keep fr s0 (State.notifyFault s r) := by
  unfold State.notifyFault
  try dsimp only
  repeat' first | exact sub_of hp rfl | (with_reducible first | assumption | apply notify_keep | apply foldl_keep | apply foldl_fst_keep | refine pair_keep (by assumption) ?_) | split | intro _

theorem takeQ15_keep {fr : List Part} {s0 : State} (s : State) (hs : Keep fr s0 s) (hp : sub [.sys, .hl, .dma] fr = true := by exact sub_of ‹sub _ _ = true› rfl) : Keep fr s0 s.takeQ15 := by
  unfold State.takeQ15
  split
  · exact hs
  · rename_i e
    exact notifyFault_keep _ _ ⟨fun i => have j := hs.inv i; ⟨j.1, j.2, j.3, j.4, j.5, by have := j.6; rw [e] at this; exact Nat.le_of_succ_le this⟩, hs.pend, hs.sec, hs.only_of (qs := [.dma]) (sub_of hp rfl) (fun p h => by cases p <;> first | exact absurd (by decide) h | rfl), hs.log.trans (LogLe.same rfl rfl rfl)⟩

theorem takeOut_keep {fr : List Part} {s0 : State} (s : State) (k : SessId) (hs : Keep fr s0 s) (hp : sub [.sys, .log, .sec, .mon, .can, .hl, .apu, .dma] fr = true := by exact sub_of ‹sub _ _ = true› rfl) : Keep fr s0 (State.takeOut s k) := by
  unfold State.takeOut
  try dsimp only
  repeat' first | exact sub_of hp rfl | (with_reducible first | assumption | apply onHl_keep | apply sessSend_keep | refine pair_keep (by assumption) ?_) | split | intro _

theorem announceRotation_keep {fr : List Part} {s0 : State} (s : State) (hs : Keep fr s0 s) (hp : sub [.sys, .sec, .tmb, .hie, .mon] fr = true := by exact sub_of ‹sub _ _ = true› rfl) : Keep fr s0 (State.announceRotation s) := by
  unfold State.announceRotation
  try dsimp only
  repeat' first | exact sub_of hp rfl | (with_reducible first | assumption | apply onSec_keep | apply send_keep | apply announce_keep | refine pair_keep (by assumption) ?_) | split | intro _ | exact ⟨fun _ => Nat.le_refl _, Nat.le_refl _, Nat.le_refl _⟩

theorem secondOfFails_keep {fr : List Part} {s0 : State} (s : State) (k : SessId) (hs : Keep fr s0 s) (hp : sub [.sys, .log, .sec, .mon] fr = true := by exact sub_of ‹sub _ _ = true› rfl) : Keep fr s0 (State.secondOfFails s k) := by
  unfold State.secondOfFails
  try dsimp only
  repeat' first | exact sub_of hp rfl | (with_reducible first | assumption | apply flushFails_keep | refine pair_keep (by assumption) ?_) | split | intro _

theorem forSessions_keep {fr : List Part} {s0 : State} (s : State) (f : State → SessId → State) (hs : Keep fr s0 s) (hf : ∀ s k, Keep fr s0 s → Keep fr s0 (f s k)) (hp : sub [] fr = true := by exact sub_of ‹sub _ _ = true› rfl) : Keep fr s0 (State.forSessions s f) := by
  unfold State.forSessions
  try dsimp only
  repeat' first | exact sub_of hp rfl | (with_reducible first | assumption | apply hf | apply foldl_keep | apply foldl_fst_keep | refine pair_keep (by assumption) ?_) | split | intro _

theorem expireAll_keep {fr : List Part} {s0 : State} (s : State) (hs : Keep fr s0 s) (hp : sub [.hie, .hl] fr = true := by exact sub_of ‹sub _ _ = true› rfl) : Keep fr s0 (State.expireAll s) := by
  unfold State.expireAll
  try dsimp only
  repeat' first | exact sub_of hp rfl | (with_reducible first | assumption | apply expireSeg_keep | apply expireAsm_keep | apply foldl_keep | apply foldl_fst_keep | refine pair_keep (by assumption) ?_) | split | intro _

theorem tickClocks_keep {fr : List Part} {s0 : State} (s : State) (hs : Keep fr s0 s) (hp : sub [.sys, .ports, .sol, .log, .pwr, .tmb, .hie, .mon] fr = true := by exact sub_of ‹sub _ _ = true› rfl) : Keep fr s0 (State.tickClocks s) := by
  unfold State.tickClocks
  try dsimp only
  repeat' first | exact sub_of hp rfl | (with_reducible first | assumption | apply onPwr_keep | apply interlock_keep | apply clock_keep | apply tickCounters_keep | apply tickGauges_keep | apply stepBoundary_keep | refine pair_keep (by assumption) ?_) | split | intro _

theorem tickQueues_keep {fr : List Part} {s0 : State} (s : State) (hs : Keep fr s0 s) (hp : sub [.sys, .ports, .sol, .log, .sec, .gns, .hie, .mon, .sct, .can, .hl, .apu, .dma, .seq] fr = true := by exact sub_of ‹sub _ _ = true› rfl) : Keep fr s0 (State.tickQueues s) := by
  unfold State.tickQueues
  try dsimp only
  repeat' first | exact sub_of hp rfl | (with_reducible first | assumption | apply pumpSegs_keep | apply takeQ9_keep | apply takeQ11_keep | apply takeQ13_keep | apply takeQ14_keep | apply takeQ15_keep | apply takeOut_keep | apply forSessions_keep | refine pair_keep (by assumption) ?_) | split | intro _

theorem fabricTick_keep {fr : List Part} {s0 : State} (s : State) (hs : Keep fr s0 s) (hp : sub [.sys, .ports, .banks, .sol, .log, .rcp, .sec, .pwr, .tmb, .gns, .hie, .mon, .cal, .fan, .eng, .sct, .can, .hl, .apu, .dma, .seq, .mem] fr = true := by exact sub_of ‹sub _ _ = true› rfl) : Keep fr s0 (State.fabricTick s) := by
  unfold State.fabricTick
  try dsimp only
  repeat' first | exact sub_of hp rfl | (with_reducible first | assumption | apply resumeAll_keep | apply announceRotation_keep | apply secondOfFails_keep | apply forSessions_keep | apply expireAll_keep | apply tickClocks_keep | apply tickQueues_keep | refine pair_keep (by assumption) ?_) | split | intro _

theorem idle_keep {fr : List Part} {s0 : State} (s : State) (hs : Keep fr s0 s) (hp : sub [.sys, .ports, .banks, .sol, .log, .rcp, .sec, .pwr, .tmb, .gns, .hie, .mon, .cal, .fan, .eng, .sct, .can, .hl, .apu, .dma, .seq, .mem] fr = true := by exact sub_of ‹sub _ _ = true› rfl) : Keep fr s0 (State.idle s) := by
  unfold State.idle
  try dsimp only
  repeat' first | exact sub_of hp rfl | (with_reducible first | assumption | apply fabricTick_keep | refine pair_keep (by assumption) ?_) | split | intro _

end Sys2Proof.Machine
end

