-- ==== Sys2Proof/Laws/Frames.lean ====
section
/-! SUPPORT. The parts of the state that the operations used everywhere leave as they are. -/

namespace Sys2Proof.Machine

set_option linter.all false
set_option Elab.async false

open Sys2Proof

theorem Keep.toOnly {fr : List Part} {s t : State} (h : Keep fr s t) : State.Only fr s t := ⟨h.pend, h.only⟩

/-- The frame of a command, from what its meaning keeps. -/
theorem next_only {fr : List Part} {o : Out} {s t : State} (h : ∃ u, o = .next u ∧ Keep fr s u) (e : o = .next t) : State.Only fr s t := by
  obtain ⟨u, hu, hk⟩ := h
  rw [hu] at e
  cases e
  exact hk.toOnly

theorem setPorts_get (s : State) (l : List PortId) (f : Port → Port) (q : PortId) : (s.setPorts l f).ports[q] = if l.contains q then f s.ports[q] else s.ports[q] := updAll_get _ _ _

theorem setPort_get (s : State) (p : PortId) (f : Port → Port) (q : PortId) : (s.setPort p f).ports[q] = if p = q then f s.ports[p] else s.ports[q] := upd_get _ _ _ _

/-- Settling a port changes STATE alone, and in its paralleled group alone. -/
theorem settle_get (s : State) (p q : PortId) : ∃ st, (s.settle p).ports[q] = { s.ports[q] with status := st } ∧ (q ∉ s.members p → st = s.ports[q].status) := by
  unfold State.settle
  dsimp only
  rw [setPorts_get]
  split
  · rename_i h
    have h' : q ∈ s.members p := by simpa using h
    split
    · exact ⟨_, rfl, fun n => absurd h' n⟩
    · exact ⟨s.ports[q].status, rfl, fun _ => rfl⟩
  · exact ⟨s.ports[q].status, rfl, fun _ => rfl⟩

theorem send_answers (s : State) (c d : Nat) (b : List Byte) : (s.send c d b).1.sys.answers = s.sys.answers := by
  unfold State.send
  split
  · simp only [State.noteFill, State.onHie]
  · simp only [State.noteOvf]

/-- The status given to a source is the newest of the answers. -/
theorem answer_answers (s : State) (src : Src) (st : Status) : (s.answer src st).sys.answers = ⟨src, st⟩ :: s.sys.answers := by
  unfold State.answer
  dsimp only
  refine congrArg (List.cons _) ?_
  have e : (if st = .interlock then s.count 6 1 else s).sys.answers = s.sys.answers := by
    split
    · rw [State.count_sys]
    · rfl
  generalize (if st = .interlock then s.count 6 1 else s) = u at e ⊢
  split
  · exact (send_answers u _ _ _).trans e
  · exact e

@[simp] theorem draw_ports (s : State) : (State.draw s).ports = s.ports := (draw_keep s (Keep.refl s) rfl : Keep [.sys] s _).only .ports (by decide)
@[simp] theorem draw_banks (s : State) : (State.draw s).banks = s.banks := (draw_keep s (Keep.refl s) rfl : Keep [.sys] s _).only .banks (by decide)
@[simp] theorem draw_sol (s : State) : (State.draw s).sol = s.sol := (draw_keep s (Keep.refl s) rfl : Keep [.sys] s _).only .sol (by decide)
@[simp] theorem draw_log (s : State) : (State.draw s).log = s.log := (draw_keep s (Keep.refl s) rfl : Keep [.sys] s _).only .log (by decide)
@[simp] theorem draw_rcp (s : State) : (State.draw s).rcp = s.rcp := (draw_keep s (Keep.refl s) rfl : Keep [.sys] s _).only .rcp (by decide)
@[simp] theorem draw_sec (s : State) : (State.draw s).sec = s.sec := (draw_keep s (Keep.refl s) rfl : Keep [.sys] s _).only .sec (by decide)
@[simp] theorem draw_pwr (s : State) : (State.draw s).pwr = s.pwr := (draw_keep s (Keep.refl s) rfl : Keep [.sys] s _).only .pwr (by decide)
@[simp] theorem draw_tmb (s : State) : (State.draw s).tmb = s.tmb := (draw_keep s (Keep.refl s) rfl : Keep [.sys] s _).only .tmb (by decide)
@[simp] theorem draw_gns (s : State) : (State.draw s).gns = s.gns := (draw_keep s (Keep.refl s) rfl : Keep [.sys] s _).only .gns (by decide)
@[simp] theorem draw_hie (s : State) : (State.draw s).hie = s.hie := (draw_keep s (Keep.refl s) rfl : Keep [.sys] s _).only .hie (by decide)
@[simp] theorem draw_mon (s : State) : (State.draw s).mon = s.mon := (draw_keep s (Keep.refl s) rfl : Keep [.sys] s _).only .mon (by decide)
@[simp] theorem draw_cal (s : State) : (State.draw s).cal = s.cal := (draw_keep s (Keep.refl s) rfl : Keep [.sys] s _).only .cal (by decide)
@[simp] theorem draw_fan (s : State) : (State.draw s).fan = s.fan := (draw_keep s (Keep.refl s) rfl : Keep [.sys] s _).only .fan (by decide)
@[simp] theorem draw_eng (s : State) : (State.draw s).eng = s.eng := (draw_keep s (Keep.refl s) rfl : Keep [.sys] s _).only .eng (by decide)
@[simp] theorem draw_sct (s : State) : (State.draw s).sct = s.sct := (draw_keep s (Keep.refl s) rfl : Keep [.sys] s _).only .sct (by decide)
@[simp] theorem draw_can (s : State) : (State.draw s).can = s.can := (draw_keep s (Keep.refl s) rfl : Keep [.sys] s _).only .can (by decide)
@[simp] theorem draw_hl (s : State) : (State.draw s).hl = s.hl := (draw_keep s (Keep.refl s) rfl : Keep [.sys] s _).only .hl (by decide)
@[simp] theorem draw_apu (s : State) : (State.draw s).apu = s.apu := (draw_keep s (Keep.refl s) rfl : Keep [.sys] s _).only .apu (by decide)
@[simp] theorem draw_dma (s : State) : (State.draw s).dma = s.dma := (draw_keep s (Keep.refl s) rfl : Keep [.sys] s _).only .dma (by decide)
@[simp] theorem draw_seq (s : State) : (State.draw s).seq = s.seq := (draw_keep s (Keep.refl s) rfl : Keep [.sys] s _).only .seq (by decide)
@[simp] theorem draw_mem (s : State) : (State.draw s).mem = s.mem := (draw_keep s (Keep.refl s) rfl : Keep [.sys] s _).only .mem (by decide)
@[simp] theorem setBucket_sys (s : State) (k : Nat) (b : Bucket) : (State.setBucket s k b).sys = s.sys := (setBucket_keep s k b (Keep.refl s) rfl : Keep [.log] s _).only .sys (by decide)
@[simp] theorem setBucket_ports (s : State) (k : Nat) (b : Bucket) : (State.setBucket s k b).ports = s.ports := (setBucket_keep s k b (Keep.refl s) rfl : Keep [.log] s _).only .ports (by decide)
@[simp] theorem setBucket_banks (s : State) (k : Nat) (b : Bucket) : (State.setBucket s k b).banks = s.banks := (setBucket_keep s k b (Keep.refl s) rfl : Keep [.log] s _).only .banks (by decide)
@[simp] theorem setBucket_sol (s : State) (k : Nat) (b : Bucket) : (State.setBucket s k b).sol = s.sol := (setBucket_keep s k b (Keep.refl s) rfl : Keep [.log] s _).only .sol (by decide)
@[simp] theorem setBucket_rcp (s : State) (k : Nat) (b : Bucket) : (State.setBucket s k b).rcp = s.rcp := (setBucket_keep s k b (Keep.refl s) rfl : Keep [.log] s _).only .rcp (by decide)
@[simp] theorem setBucket_sec (s : State) (k : Nat) (b : Bucket) : (State.setBucket s k b).sec = s.sec := (setBucket_keep s k b (Keep.refl s) rfl : Keep [.log] s _).only .sec (by decide)
@[simp] theorem setBucket_pwr (s : State) (k : Nat) (b : Bucket) : (State.setBucket s k b).pwr = s.pwr := (setBucket_keep s k b (Keep.refl s) rfl : Keep [.log] s _).only .pwr (by decide)
@[simp] theorem setBucket_tmb (s : State) (k : Nat) (b : Bucket) : (State.setBucket s k b).tmb = s.tmb := (setBucket_keep s k b (Keep.refl s) rfl : Keep [.log] s _).only .tmb (by decide)
@[simp] theorem setBucket_gns (s : State) (k : Nat) (b : Bucket) : (State.setBucket s k b).gns = s.gns := (setBucket_keep s k b (Keep.refl s) rfl : Keep [.log] s _).only .gns (by decide)
@[simp] theorem setBucket_hie (s : State) (k : Nat) (b : Bucket) : (State.setBucket s k b).hie = s.hie := (setBucket_keep s k b (Keep.refl s) rfl : Keep [.log] s _).only .hie (by decide)
@[simp] theorem setBucket_mon (s : State) (k : Nat) (b : Bucket) : (State.setBucket s k b).mon = s.mon := (setBucket_keep s k b (Keep.refl s) rfl : Keep [.log] s _).only .mon (by decide)
@[simp] theorem setBucket_cal (s : State) (k : Nat) (b : Bucket) : (State.setBucket s k b).cal = s.cal := (setBucket_keep s k b (Keep.refl s) rfl : Keep [.log] s _).only .cal (by decide)
@[simp] theorem setBucket_fan (s : State) (k : Nat) (b : Bucket) : (State.setBucket s k b).fan = s.fan := (setBucket_keep s k b (Keep.refl s) rfl : Keep [.log] s _).only .fan (by decide)
@[simp] theorem setBucket_eng (s : State) (k : Nat) (b : Bucket) : (State.setBucket s k b).eng = s.eng := (setBucket_keep s k b (Keep.refl s) rfl : Keep [.log] s _).only .eng (by decide)
@[simp] theorem setBucket_sct (s : State) (k : Nat) (b : Bucket) : (State.setBucket s k b).sct = s.sct := (setBucket_keep s k b (Keep.refl s) rfl : Keep [.log] s _).only .sct (by decide)
@[simp] theorem setBucket_can (s : State) (k : Nat) (b : Bucket) : (State.setBucket s k b).can = s.can := (setBucket_keep s k b (Keep.refl s) rfl : Keep [.log] s _).only .can (by decide)
@[simp] theorem setBucket_hl (s : State) (k : Nat) (b : Bucket) : (State.setBucket s k b).hl = s.hl := (setBucket_keep s k b (Keep.refl s) rfl : Keep [.log] s _).only .hl (by decide)
@[simp] theorem setBucket_apu (s : State) (k : Nat) (b : Bucket) : (State.setBucket s k b).apu = s.apu := (setBucket_keep s k b (Keep.refl s) rfl : Keep [.log] s _).only .apu (by decide)
@[simp] theorem setBucket_dma (s : State) (k : Nat) (b : Bucket) : (State.setBucket s k b).dma = s.dma := (setBucket_keep s k b (Keep.refl s) rfl : Keep [.log] s _).only .dma (by decide)
@[simp] theorem setBucket_seq (s : State) (k : Nat) (b : Bucket) : (State.setBucket s k b).seq = s.seq := (setBucket_keep s k b (Keep.refl s) rfl : Keep [.log] s _).only .seq (by decide)
@[simp] theorem setBucket_mem (s : State) (k : Nat) (b : Bucket) : (State.setBucket s k b).mem = s.mem := (setBucket_keep s k b (Keep.refl s) rfl : Keep [.log] s _).only .mem (by decide)
@[simp] theorem emit_ports (s : State) (e : Ev) : (State.emit s e).ports = s.ports := (emit_keep s e (Keep.refl s) rfl : Keep [.sys, .log, .mon] s _).only .ports (by decide)
@[simp] theorem emit_banks (s : State) (e : Ev) : (State.emit s e).banks = s.banks := (emit_keep s e (Keep.refl s) rfl : Keep [.sys, .log, .mon] s _).only .banks (by decide)
@[simp] theorem emit_sol (s : State) (e : Ev) : (State.emit s e).sol = s.sol := (emit_keep s e (Keep.refl s) rfl : Keep [.sys, .log, .mon] s _).only .sol (by decide)
@[simp] theorem emit_rcp (s : State) (e : Ev) : (State.emit s e).rcp = s.rcp := (emit_keep s e (Keep.refl s) rfl : Keep [.sys, .log, .mon] s _).only .rcp (by decide)
@[simp] theorem emit_sec (s : State) (e : Ev) : (State.emit s e).sec = s.sec := (emit_keep s e (Keep.refl s) rfl : Keep [.sys, .log, .mon] s _).only .sec (by decide)
@[simp] theorem emit_pwr (s : State) (e : Ev) : (State.emit s e).pwr = s.pwr := (emit_keep s e (Keep.refl s) rfl : Keep [.sys, .log, .mon] s _).only .pwr (by decide)
@[simp] theorem emit_tmb (s : State) (e : Ev) : (State.emit s e).tmb = s.tmb := (emit_keep s e (Keep.refl s) rfl : Keep [.sys, .log, .mon] s _).only .tmb (by decide)
@[simp] theorem emit_gns (s : State) (e : Ev) : (State.emit s e).gns = s.gns := (emit_keep s e (Keep.refl s) rfl : Keep [.sys, .log, .mon] s _).only .gns (by decide)
@[simp] theorem emit_hie (s : State) (e : Ev) : (State.emit s e).hie = s.hie := (emit_keep s e (Keep.refl s) rfl : Keep [.sys, .log, .mon] s _).only .hie (by decide)
@[simp] theorem emit_cal (s : State) (e : Ev) : (State.emit s e).cal = s.cal := (emit_keep s e (Keep.refl s) rfl : Keep [.sys, .log, .mon] s _).only .cal (by decide)
@[simp] theorem emit_fan (s : State) (e : Ev) : (State.emit s e).fan = s.fan := (emit_keep s e (Keep.refl s) rfl : Keep [.sys, .log, .mon] s _).only .fan (by decide)
@[simp] theorem emit_eng (s : State) (e : Ev) : (State.emit s e).eng = s.eng := (emit_keep s e (Keep.refl s) rfl : Keep [.sys, .log, .mon] s _).only .eng (by decide)
@[simp] theorem emit_sct (s : State) (e : Ev) : (State.emit s e).sct = s.sct := (emit_keep s e (Keep.refl s) rfl : Keep [.sys, .log, .mon] s _).only .sct (by decide)
@[simp] theorem emit_can (s : State) (e : Ev) : (State.emit s e).can = s.can := (emit_keep s e (Keep.refl s) rfl : Keep [.sys, .log, .mon] s _).only .can (by decide)
@[simp] theorem emit_hl (s : State) (e : Ev) : (State.emit s e).hl = s.hl := (emit_keep s e (Keep.refl s) rfl : Keep [.sys, .log, .mon] s _).only .hl (by decide)
@[simp] theorem emit_apu (s : State) (e : Ev) : (State.emit s e).apu = s.apu := (emit_keep s e (Keep.refl s) rfl : Keep [.sys, .log, .mon] s _).only .apu (by decide)
@[simp] theorem emit_dma (s : State) (e : Ev) : (State.emit s e).dma = s.dma := (emit_keep s e (Keep.refl s) rfl : Keep [.sys, .log, .mon] s _).only .dma (by decide)
@[simp] theorem emit_seq (s : State) (e : Ev) : (State.emit s e).seq = s.seq := (emit_keep s e (Keep.refl s) rfl : Keep [.sys, .log, .mon] s _).only .seq (by decide)
@[simp] theorem emit_mem (s : State) (e : Ev) : (State.emit s e).mem = s.mem := (emit_keep s e (Keep.refl s) rfl : Keep [.sys, .log, .mon] s _).only .mem (by decide)
@[simp] theorem emitAll_ports (s : State) (es : List Ev) : (State.emitAll s es).ports = s.ports := (emitAll_keep s es (Keep.refl s) rfl : Keep [.sys, .log, .mon] s _).only .ports (by decide)
@[simp] theorem emitAll_banks (s : State) (es : List Ev) : (State.emitAll s es).banks = s.banks := (emitAll_keep s es (Keep.refl s) rfl : Keep [.sys, .log, .mon] s _).only .banks (by decide)
@[simp] theorem emitAll_sol (s : State) (es : List Ev) : (State.emitAll s es).sol = s.sol := (emitAll_keep s es (Keep.refl s) rfl : Keep [.sys, .log, .mon] s _).only .sol (by decide)
@[simp] theorem emitAll_rcp (s : State) (es : List Ev) : (State.emitAll s es).rcp = s.rcp := (emitAll_keep s es (Keep.refl s) rfl : Keep [.sys, .log, .mon] s _).only .rcp (by decide)
@[simp] theorem emitAll_sec (s : State) (es : List Ev) : (State.emitAll s es).sec = s.sec := (emitAll_keep s es (Keep.refl s) rfl : Keep [.sys, .log, .mon] s _).only .sec (by decide)
@[simp] theorem emitAll_pwr (s : State) (es : List Ev) : (State.emitAll s es).pwr = s.pwr := (emitAll_keep s es (Keep.refl s) rfl : Keep [.sys, .log, .mon] s _).only .pwr (by decide)
@[simp] theorem emitAll_tmb (s : State) (es : List Ev) : (State.emitAll s es).tmb = s.tmb := (emitAll_keep s es (Keep.refl s) rfl : Keep [.sys, .log, .mon] s _).only .tmb (by decide)
@[simp] theorem emitAll_gns (s : State) (es : List Ev) : (State.emitAll s es).gns = s.gns := (emitAll_keep s es (Keep.refl s) rfl : Keep [.sys, .log, .mon] s _).only .gns (by decide)
@[simp] theorem emitAll_hie (s : State) (es : List Ev) : (State.emitAll s es).hie = s.hie := (emitAll_keep s es (Keep.refl s) rfl : Keep [.sys, .log, .mon] s _).only .hie (by decide)
@[simp] theorem emitAll_cal (s : State) (es : List Ev) : (State.emitAll s es).cal = s.cal := (emitAll_keep s es (Keep.refl s) rfl : Keep [.sys, .log, .mon] s _).only .cal (by decide)
@[simp] theorem emitAll_fan (s : State) (es : List Ev) : (State.emitAll s es).fan = s.fan := (emitAll_keep s es (Keep.refl s) rfl : Keep [.sys, .log, .mon] s _).only .fan (by decide)
@[simp] theorem emitAll_eng (s : State) (es : List Ev) : (State.emitAll s es).eng = s.eng := (emitAll_keep s es (Keep.refl s) rfl : Keep [.sys, .log, .mon] s _).only .eng (by decide)
@[simp] theorem emitAll_sct (s : State) (es : List Ev) : (State.emitAll s es).sct = s.sct := (emitAll_keep s es (Keep.refl s) rfl : Keep [.sys, .log, .mon] s _).only .sct (by decide)
@[simp] theorem emitAll_can (s : State) (es : List Ev) : (State.emitAll s es).can = s.can := (emitAll_keep s es (Keep.refl s) rfl : Keep [.sys, .log, .mon] s _).only .can (by decide)
@[simp] theorem emitAll_hl (s : State) (es : List Ev) : (State.emitAll s es).hl = s.hl := (emitAll_keep s es (Keep.refl s) rfl : Keep [.sys, .log, .mon] s _).only .hl (by decide)
@[simp] theorem emitAll_apu (s : State) (es : List Ev) : (State.emitAll s es).apu = s.apu := (emitAll_keep s es (Keep.refl s) rfl : Keep [.sys, .log, .mon] s _).only .apu (by decide)
@[simp] theorem emitAll_dma (s : State) (es : List Ev) : (State.emitAll s es).dma = s.dma := (emitAll_keep s es (Keep.refl s) rfl : Keep [.sys, .log, .mon] s _).only .dma (by decide)
@[simp] theorem emitAll_seq (s : State) (es : List Ev) : (State.emitAll s es).seq = s.seq := (emitAll_keep s es (Keep.refl s) rfl : Keep [.sys, .log, .mon] s _).only .seq (by decide)
@[simp] theorem emitAll_mem (s : State) (es : List Ev) : (State.emitAll s es).mem = s.mem := (emitAll_keep s es (Keep.refl s) rfl : Keep [.sys, .log, .mon] s _).only .mem (by decide)
@[simp] theorem answer_ports (s : State) (src : Src) (st : Status) : (State.answer s src st).ports = s.ports := (answer_keep s src st (Keep.refl s) rfl : Keep [.sys, .hie, .mon] s _).only .ports (by decide)
@[simp] theorem answer_banks (s : State) (src : Src) (st : Status) : (State.answer s src st).banks = s.banks := (answer_keep s src st (Keep.refl s) rfl : Keep [.sys, .hie, .mon] s _).only .banks (by decide)
@[simp] theorem answer_sol (s : State) (src : Src) (st : Status) : (State.answer s src st).sol = s.sol := (answer_keep s src st (Keep.refl s) rfl : Keep [.sys, .hie, .mon] s _).only .sol (by decide)
@[simp] theorem answer_log (s : State) (src : Src) (st : Status) : (State.answer s src st).log = s.log := (answer_keep s src st (Keep.refl s) rfl : Keep [.sys, .hie, .mon] s _).only .log (by decide)
@[simp] theorem answer_rcp (s : State) (src : Src) (st : Status) : (State.answer s src st).rcp = s.rcp := (answer_keep s src st (Keep.refl s) rfl : Keep [.sys, .hie, .mon] s _).only .rcp (by decide)
@[simp] theorem answer_sec (s : State) (src : Src) (st : Status) : (State.answer s src st).sec = s.sec := (answer_keep s src st (Keep.refl s) rfl : Keep [.sys, .hie, .mon] s _).only .sec (by decide)
@[simp] theorem answer_pwr (s : State) (src : Src) (st : Status) : (State.answer s src st).pwr = s.pwr := (answer_keep s src st (Keep.refl s) rfl : Keep [.sys, .hie, .mon] s _).only .pwr (by decide)
@[simp] theorem answer_tmb (s : State) (src : Src) (st : Status) : (State.answer s src st).tmb = s.tmb := (answer_keep s src st (Keep.refl s) rfl : Keep [.sys, .hie, .mon] s _).only .tmb (by decide)
@[simp] theorem answer_gns (s : State) (src : Src) (st : Status) : (State.answer s src st).gns = s.gns := (answer_keep s src st (Keep.refl s) rfl : Keep [.sys, .hie, .mon] s _).only .gns (by decide)
@[simp] theorem answer_cal (s : State) (src : Src) (st : Status) : (State.answer s src st).cal = s.cal := (answer_keep s src st (Keep.refl s) rfl : Keep [.sys, .hie, .mon] s _).only .cal (by decide)
@[simp] theorem answer_fan (s : State) (src : Src) (st : Status) : (State.answer s src st).fan = s.fan := (answer_keep s src st (Keep.refl s) rfl : Keep [.sys, .hie, .mon] s _).only .fan (by decide)
@[simp] theorem answer_eng (s : State) (src : Src) (st : Status) : (State.answer s src st).eng = s.eng := (answer_keep s src st (Keep.refl s) rfl : Keep [.sys, .hie, .mon] s _).only .eng (by decide)
@[simp] theorem answer_sct (s : State) (src : Src) (st : Status) : (State.answer s src st).sct = s.sct := (answer_keep s src st (Keep.refl s) rfl : Keep [.sys, .hie, .mon] s _).only .sct (by decide)
@[simp] theorem answer_can (s : State) (src : Src) (st : Status) : (State.answer s src st).can = s.can := (answer_keep s src st (Keep.refl s) rfl : Keep [.sys, .hie, .mon] s _).only .can (by decide)
@[simp] theorem answer_hl (s : State) (src : Src) (st : Status) : (State.answer s src st).hl = s.hl := (answer_keep s src st (Keep.refl s) rfl : Keep [.sys, .hie, .mon] s _).only .hl (by decide)
@[simp] theorem answer_apu (s : State) (src : Src) (st : Status) : (State.answer s src st).apu = s.apu := (answer_keep s src st (Keep.refl s) rfl : Keep [.sys, .hie, .mon] s _).only .apu (by decide)
@[simp] theorem answer_dma (s : State) (src : Src) (st : Status) : (State.answer s src st).dma = s.dma := (answer_keep s src st (Keep.refl s) rfl : Keep [.sys, .hie, .mon] s _).only .dma (by decide)
@[simp] theorem answer_seq (s : State) (src : Src) (st : Status) : (State.answer s src st).seq = s.seq := (answer_keep s src st (Keep.refl s) rfl : Keep [.sys, .hie, .mon] s _).only .seq (by decide)
@[simp] theorem answer_mem (s : State) (src : Src) (st : Status) : (State.answer s src st).mem = s.mem := (answer_keep s src st (Keep.refl s) rfl : Keep [.sys, .hie, .mon] s _).only .mem (by decide)
@[simp] theorem setPort_sys (s : State) (p : PortId) (f : Port → Port) : (State.setPort s p f).sys = s.sys := (setPort_keep s p f (Keep.refl s) rfl : Keep [.ports] s _).only .sys (by decide)
@[simp] theorem setPort_banks (s : State) (p : PortId) (f : Port → Port) : (State.setPort s p f).banks = s.banks := (setPort_keep s p f (Keep.refl s) rfl : Keep [.ports] s _).only .banks (by decide)
@[simp] theorem setPort_sol (s : State) (p : PortId) (f : Port → Port) : (State.setPort s p f).sol = s.sol := (setPort_keep s p f (Keep.refl s) rfl : Keep [.ports] s _).only .sol (by decide)
@[simp] theorem setPort_log (s : State) (p : PortId) (f : Port → Port) : (State.setPort s p f).log = s.log := (setPort_keep s p f (Keep.refl s) rfl : Keep [.ports] s _).only .log (by decide)
@[simp] theorem setPort_rcp (s : State) (p : PortId) (f : Port → Port) : (State.setPort s p f).rcp = s.rcp := (setPort_keep s p f (Keep.refl s) rfl : Keep [.ports] s _).only .rcp (by decide)
@[simp] theorem setPort_sec (s : State) (p : PortId) (f : Port → Port) : (State.setPort s p f).sec = s.sec := (setPort_keep s p f (Keep.refl s) rfl : Keep [.ports] s _).only .sec (by decide)
@[simp] theorem setPort_pwr (s : State) (p : PortId) (f : Port → Port) : (State.setPort s p f).pwr = s.pwr := (setPort_keep s p f (Keep.refl s) rfl : Keep [.ports] s _).only .pwr (by decide)
@[simp] theorem setPort_tmb (s : State) (p : PortId) (f : Port → Port) : (State.setPort s p f).tmb = s.tmb := (setPort_keep s p f (Keep.refl s) rfl : Keep [.ports] s _).only .tmb (by decide)
@[simp] theorem setPort_gns (s : State) (p : PortId) (f : Port → Port) : (State.setPort s p f).gns = s.gns := (setPort_keep s p f (Keep.refl s) rfl : Keep [.ports] s _).only .gns (by decide)
@[simp] theorem setPort_hie (s : State) (p : PortId) (f : Port → Port) : (State.setPort s p f).hie = s.hie := (setPort_keep s p f (Keep.refl s) rfl : Keep [.ports] s _).only .hie (by decide)
@[simp] theorem setPort_mon (s : State) (p : PortId) (f : Port → Port) : (State.setPort s p f).mon = s.mon := (setPort_keep s p f (Keep.refl s) rfl : Keep [.ports] s _).only .mon (by decide)
@[simp] theorem setPort_cal (s : State) (p : PortId) (f : Port → Port) : (State.setPort s p f).cal = s.cal := (setPort_keep s p f (Keep.refl s) rfl : Keep [.ports] s _).only .cal (by decide)
@[simp] theorem setPort_fan (s : State) (p : PortId) (f : Port → Port) : (State.setPort s p f).fan = s.fan := (setPort_keep s p f (Keep.refl s) rfl : Keep [.ports] s _).only .fan (by decide)
@[simp] theorem setPort_eng (s : State) (p : PortId) (f : Port → Port) : (State.setPort s p f).eng = s.eng := (setPort_keep s p f (Keep.refl s) rfl : Keep [.ports] s _).only .eng (by decide)
@[simp] theorem setPort_sct (s : State) (p : PortId) (f : Port → Port) : (State.setPort s p f).sct = s.sct := (setPort_keep s p f (Keep.refl s) rfl : Keep [.ports] s _).only .sct (by decide)
@[simp] theorem setPort_can (s : State) (p : PortId) (f : Port → Port) : (State.setPort s p f).can = s.can := (setPort_keep s p f (Keep.refl s) rfl : Keep [.ports] s _).only .can (by decide)
@[simp] theorem setPort_hl (s : State) (p : PortId) (f : Port → Port) : (State.setPort s p f).hl = s.hl := (setPort_keep s p f (Keep.refl s) rfl : Keep [.ports] s _).only .hl (by decide)
@[simp] theorem setPort_apu (s : State) (p : PortId) (f : Port → Port) : (State.setPort s p f).apu = s.apu := (setPort_keep s p f (Keep.refl s) rfl : Keep [.ports] s _).only .apu (by decide)
@[simp] theorem setPort_dma (s : State) (p : PortId) (f : Port → Port) : (State.setPort s p f).dma = s.dma := (setPort_keep s p f (Keep.refl s) rfl : Keep [.ports] s _).only .dma (by decide)
@[simp] theorem setPort_seq (s : State) (p : PortId) (f : Port → Port) : (State.setPort s p f).seq = s.seq := (setPort_keep s p f (Keep.refl s) rfl : Keep [.ports] s _).only .seq (by decide)
@[simp] theorem setPort_mem (s : State) (p : PortId) (f : Port → Port) : (State.setPort s p f).mem = s.mem := (setPort_keep s p f (Keep.refl s) rfl : Keep [.ports] s _).only .mem (by decide)
@[simp] theorem setPorts_sys (s : State) (ps : List PortId) (f : Port → Port) : (State.setPorts s ps f).sys = s.sys := (setPorts_keep s ps f (Keep.refl s) rfl : Keep [.ports] s _).only .sys (by decide)
@[simp] theorem setPorts_banks (s : State) (ps : List PortId) (f : Port → Port) : (State.setPorts s ps f).banks = s.banks := (setPorts_keep s ps f (Keep.refl s) rfl : Keep [.ports] s _).only .banks (by decide)
@[simp] theorem setPorts_sol (s : State) (ps : List PortId) (f : Port → Port) : (State.setPorts s ps f).sol = s.sol := (setPorts_keep s ps f (Keep.refl s) rfl : Keep [.ports] s _).only .sol (by decide)
@[simp] theorem setPorts_log (s : State) (ps : List PortId) (f : Port → Port) : (State.setPorts s ps f).log = s.log := (setPorts_keep s ps f (Keep.refl s) rfl : Keep [.ports] s _).only .log (by decide)
@[simp] theorem setPorts_rcp (s : State) (ps : List PortId) (f : Port → Port) : (State.setPorts s ps f).rcp = s.rcp := (setPorts_keep s ps f (Keep.refl s) rfl : Keep [.ports] s _).only .rcp (by decide)
@[simp] theorem setPorts_sec (s : State) (ps : List PortId) (f : Port → Port) : (State.setPorts s ps f).sec = s.sec := (setPorts_keep s ps f (Keep.refl s) rfl : Keep [.ports] s _).only .sec (by decide)
@[simp] theorem setPorts_pwr (s : State) (ps : List PortId) (f : Port → Port) : (State.setPorts s ps f).pwr = s.pwr := (setPorts_keep s ps f (Keep.refl s) rfl : Keep [.ports] s _).only .pwr (by decide)
@[simp] theorem setPorts_tmb (s : State) (ps : List PortId) (f : Port → Port) : (State.setPorts s ps f).tmb = s.tmb := (setPorts_keep s ps f (Keep.refl s) rfl : Keep [.ports] s _).only .tmb (by decide)
@[simp] theorem setPorts_gns (s : State) (ps : List PortId) (f : Port → Port) : (State.setPorts s ps f).gns = s.gns := (setPorts_keep s ps f (Keep.refl s) rfl : Keep [.ports] s _).only .gns (by decide)
@[simp] theorem setPorts_hie (s : State) (ps : List PortId) (f : Port → Port) : (State.setPorts s ps f).hie = s.hie := (setPorts_keep s ps f (Keep.refl s) rfl : Keep [.ports] s _).only .hie (by decide)
@[simp] theorem setPorts_mon (s : State) (ps : List PortId) (f : Port → Port) : (State.setPorts s ps f).mon = s.mon := (setPorts_keep s ps f (Keep.refl s) rfl : Keep [.ports] s _).only .mon (by decide)
@[simp] theorem setPorts_cal (s : State) (ps : List PortId) (f : Port → Port) : (State.setPorts s ps f).cal = s.cal := (setPorts_keep s ps f (Keep.refl s) rfl : Keep [.ports] s _).only .cal (by decide)
@[simp] theorem setPorts_fan (s : State) (ps : List PortId) (f : Port → Port) : (State.setPorts s ps f).fan = s.fan := (setPorts_keep s ps f (Keep.refl s) rfl : Keep [.ports] s _).only .fan (by decide)
@[simp] theorem setPorts_eng (s : State) (ps : List PortId) (f : Port → Port) : (State.setPorts s ps f).eng = s.eng := (setPorts_keep s ps f (Keep.refl s) rfl : Keep [.ports] s _).only .eng (by decide)
@[simp] theorem setPorts_sct (s : State) (ps : List PortId) (f : Port → Port) : (State.setPorts s ps f).sct = s.sct := (setPorts_keep s ps f (Keep.refl s) rfl : Keep [.ports] s _).only .sct (by decide)
@[simp] theorem setPorts_can (s : State) (ps : List PortId) (f : Port → Port) : (State.setPorts s ps f).can = s.can := (setPorts_keep s ps f (Keep.refl s) rfl : Keep [.ports] s _).only .can (by decide)
@[simp] theorem setPorts_hl (s : State) (ps : List PortId) (f : Port → Port) : (State.setPorts s ps f).hl = s.hl := (setPorts_keep s ps f (Keep.refl s) rfl : Keep [.ports] s _).only .hl (by decide)
@[simp] theorem setPorts_apu (s : State) (ps : List PortId) (f : Port → Port) : (State.setPorts s ps f).apu = s.apu := (setPorts_keep s ps f (Keep.refl s) rfl : Keep [.ports] s _).only .apu (by decide)
@[simp] theorem setPorts_dma (s : State) (ps : List PortId) (f : Port → Port) : (State.setPorts s ps f).dma = s.dma := (setPorts_keep s ps f (Keep.refl s) rfl : Keep [.ports] s _).only .dma (by decide)
@[simp] theorem setPorts_seq (s : State) (ps : List PortId) (f : Port → Port) : (State.setPorts s ps f).seq = s.seq := (setPorts_keep s ps f (Keep.refl s) rfl : Keep [.ports] s _).only .seq (by decide)
@[simp] theorem setPorts_mem (s : State) (ps : List PortId) (f : Port → Port) : (State.setPorts s ps f).mem = s.mem := (setPorts_keep s ps f (Keep.refl s) rfl : Keep [.ports] s _).only .mem (by decide)
@[simp] theorem setBank_sys (s : State) (b : BankId) (f : Bank → Bank) : (State.setBank s b f).sys = s.sys := (setBank_keep s b f (Keep.refl s) rfl : Keep [.banks] s _).only .sys (by decide)
@[simp] theorem setBank_ports (s : State) (b : BankId) (f : Bank → Bank) : (State.setBank s b f).ports = s.ports := (setBank_keep s b f (Keep.refl s) rfl : Keep [.banks] s _).only .ports (by decide)
@[simp] theorem setBank_sol (s : State) (b : BankId) (f : Bank → Bank) : (State.setBank s b f).sol = s.sol := (setBank_keep s b f (Keep.refl s) rfl : Keep [.banks] s _).only .sol (by decide)
@[simp] theorem setBank_log (s : State) (b : BankId) (f : Bank → Bank) : (State.setBank s b f).log = s.log := (setBank_keep s b f (Keep.refl s) rfl : Keep [.banks] s _).only .log (by decide)
@[simp] theorem setBank_rcp (s : State) (b : BankId) (f : Bank → Bank) : (State.setBank s b f).rcp = s.rcp := (setBank_keep s b f (Keep.refl s) rfl : Keep [.banks] s _).only .rcp (by decide)
@[simp] theorem setBank_sec (s : State) (b : BankId) (f : Bank → Bank) : (State.setBank s b f).sec = s.sec := (setBank_keep s b f (Keep.refl s) rfl : Keep [.banks] s _).only .sec (by decide)
@[simp] theorem setBank_pwr (s : State) (b : BankId) (f : Bank → Bank) : (State.setBank s b f).pwr = s.pwr := (setBank_keep s b f (Keep.refl s) rfl : Keep [.banks] s _).only .pwr (by decide)
@[simp] theorem setBank_tmb (s : State) (b : BankId) (f : Bank → Bank) : (State.setBank s b f).tmb = s.tmb := (setBank_keep s b f (Keep.refl s) rfl : Keep [.banks] s _).only .tmb (by decide)
@[simp] theorem setBank_gns (s : State) (b : BankId) (f : Bank → Bank) : (State.setBank s b f).gns = s.gns := (setBank_keep s b f (Keep.refl s) rfl : Keep [.banks] s _).only .gns (by decide)
@[simp] theorem setBank_hie (s : State) (b : BankId) (f : Bank → Bank) : (State.setBank s b f).hie = s.hie := (setBank_keep s b f (Keep.refl s) rfl : Keep [.banks] s _).only .hie (by decide)
@[simp] theorem setBank_mon (s : State) (b : BankId) (f : Bank → Bank) : (State.setBank s b f).mon = s.mon := (setBank_keep s b f (Keep.refl s) rfl : Keep [.banks] s _).only .mon (by decide)
@[simp] theorem setBank_cal (s : State) (b : BankId) (f : Bank → Bank) : (State.setBank s b f).cal = s.cal := (setBank_keep s b f (Keep.refl s) rfl : Keep [.banks] s _).only .cal (by decide)
@[simp] theorem setBank_fan (s : State) (b : BankId) (f : Bank → Bank) : (State.setBank s b f).fan = s.fan := (setBank_keep s b f (Keep.refl s) rfl : Keep [.banks] s _).only .fan (by decide)
@[simp] theorem setBank_eng (s : State) (b : BankId) (f : Bank → Bank) : (State.setBank s b f).eng = s.eng := (setBank_keep s b f (Keep.refl s) rfl : Keep [.banks] s _).only .eng (by decide)
@[simp] theorem setBank_sct (s : State) (b : BankId) (f : Bank → Bank) : (State.setBank s b f).sct = s.sct := (setBank_keep s b f (Keep.refl s) rfl : Keep [.banks] s _).only .sct (by decide)
@[simp] theorem setBank_can (s : State) (b : BankId) (f : Bank → Bank) : (State.setBank s b f).can = s.can := (setBank_keep s b f (Keep.refl s) rfl : Keep [.banks] s _).only .can (by decide)
@[simp] theorem setBank_hl (s : State) (b : BankId) (f : Bank → Bank) : (State.setBank s b f).hl = s.hl := (setBank_keep s b f (Keep.refl s) rfl : Keep [.banks] s _).only .hl (by decide)
@[simp] theorem setBank_apu (s : State) (b : BankId) (f : Bank → Bank) : (State.setBank s b f).apu = s.apu := (setBank_keep s b f (Keep.refl s) rfl : Keep [.banks] s _).only .apu (by decide)
@[simp] theorem setBank_dma (s : State) (b : BankId) (f : Bank → Bank) : (State.setBank s b f).dma = s.dma := (setBank_keep s b f (Keep.refl s) rfl : Keep [.banks] s _).only .dma (by decide)
@[simp] theorem setBank_seq (s : State) (b : BankId) (f : Bank → Bank) : (State.setBank s b f).seq = s.seq := (setBank_keep s b f (Keep.refl s) rfl : Keep [.banks] s _).only .seq (by decide)
@[simp] theorem setBank_mem (s : State) (b : BankId) (f : Bank → Bank) : (State.setBank s b f).mem = s.mem := (setBank_keep s b f (Keep.refl s) rfl : Keep [.banks] s _).only .mem (by decide)
@[simp] theorem setSol_sys (s : State) (p : PortId) (f : SolPort → SolPort) : (State.setSol s p f).sys = s.sys := (setSol_keep s p f (Keep.refl s) rfl : Keep [.sol] s _).only .sys (by decide)
@[simp] theorem setSol_ports (s : State) (p : PortId) (f : SolPort → SolPort) : (State.setSol s p f).ports = s.ports := (setSol_keep s p f (Keep.refl s) rfl : Keep [.sol] s _).only .ports (by decide)
@[simp] theorem setSol_banks (s : State) (p : PortId) (f : SolPort → SolPort) : (State.setSol s p f).banks = s.banks := (setSol_keep s p f (Keep.refl s) rfl : Keep [.sol] s _).only .banks (by decide)
@[simp] theorem setSol_log (s : State) (p : PortId) (f : SolPort → SolPort) : (State.setSol s p f).log = s.log := (setSol_keep s p f (Keep.refl s) rfl : Keep [.sol] s _).only .log (by decide)
@[simp] theorem setSol_rcp (s : State) (p : PortId) (f : SolPort → SolPort) : (State.setSol s p f).rcp = s.rcp := (setSol_keep s p f (Keep.refl s) rfl : Keep [.sol] s _).only .rcp (by decide)
@[simp] theorem setSol_sec (s : State) (p : PortId) (f : SolPort → SolPort) : (State.setSol s p f).sec = s.sec := (setSol_keep s p f (Keep.refl s) rfl : Keep [.sol] s _).only .sec (by decide)
@[simp] theorem setSol_pwr (s : State) (p : PortId) (f : SolPort → SolPort) : (State.setSol s p f).pwr = s.pwr := (setSol_keep s p f (Keep.refl s) rfl : Keep [.sol] s _).only .pwr (by decide)
@[simp] theorem setSol_tmb (s : State) (p : PortId) (f : SolPort → SolPort) : (State.setSol s p f).tmb = s.tmb := (setSol_keep s p f (Keep.refl s) rfl : Keep [.sol] s _).only .tmb (by decide)
@[simp] theorem setSol_gns (s : State) (p : PortId) (f : SolPort → SolPort) : (State.setSol s p f).gns = s.gns := (setSol_keep s p f (Keep.refl s) rfl : Keep [.sol] s _).only .gns (by decide)
@[simp] theorem setSol_hie (s : State) (p : PortId) (f : SolPort → SolPort) : (State.setSol s p f).hie = s.hie := (setSol_keep s p f (Keep.refl s) rfl : Keep [.sol] s _).only .hie (by decide)
@[simp] theorem setSol_mon (s : State) (p : PortId) (f : SolPort → SolPort) : (State.setSol s p f).mon = s.mon := (setSol_keep s p f (Keep.refl s) rfl : Keep [.sol] s _).only .mon (by decide)
@[simp] theorem setSol_cal (s : State) (p : PortId) (f : SolPort → SolPort) : (State.setSol s p f).cal = s.cal := (setSol_keep s p f (Keep.refl s) rfl : Keep [.sol] s _).only .cal (by decide)
@[simp] theorem setSol_fan (s : State) (p : PortId) (f : SolPort → SolPort) : (State.setSol s p f).fan = s.fan := (setSol_keep s p f (Keep.refl s) rfl : Keep [.sol] s _).only .fan (by decide)
@[simp] theorem setSol_eng (s : State) (p : PortId) (f : SolPort → SolPort) : (State.setSol s p f).eng = s.eng := (setSol_keep s p f (Keep.refl s) rfl : Keep [.sol] s _).only .eng (by decide)
@[simp] theorem setSol_sct (s : State) (p : PortId) (f : SolPort → SolPort) : (State.setSol s p f).sct = s.sct := (setSol_keep s p f (Keep.refl s) rfl : Keep [.sol] s _).only .sct (by decide)
@[simp] theorem setSol_can (s : State) (p : PortId) (f : SolPort → SolPort) : (State.setSol s p f).can = s.can := (setSol_keep s p f (Keep.refl s) rfl : Keep [.sol] s _).only .can (by decide)
@[simp] theorem setSol_hl (s : State) (p : PortId) (f : SolPort → SolPort) : (State.setSol s p f).hl = s.hl := (setSol_keep s p f (Keep.refl s) rfl : Keep [.sol] s _).only .hl (by decide)
@[simp] theorem setSol_apu (s : State) (p : PortId) (f : SolPort → SolPort) : (State.setSol s p f).apu = s.apu := (setSol_keep s p f (Keep.refl s) rfl : Keep [.sol] s _).only .apu (by decide)
@[simp] theorem setSol_dma (s : State) (p : PortId) (f : SolPort → SolPort) : (State.setSol s p f).dma = s.dma := (setSol_keep s p f (Keep.refl s) rfl : Keep [.sol] s _).only .dma (by decide)
@[simp] theorem setSol_seq (s : State) (p : PortId) (f : SolPort → SolPort) : (State.setSol s p f).seq = s.seq := (setSol_keep s p f (Keep.refl s) rfl : Keep [.sol] s _).only .seq (by decide)
@[simp] theorem setSol_mem (s : State) (p : PortId) (f : SolPort → SolPort) : (State.setSol s p f).mem = s.mem := (setSol_keep s p f (Keep.refl s) rfl : Keep [.sol] s _).only .mem (by decide)
@[simp] theorem mapSols_sys (s : State) (f : PortId → SolPort → SolPort) : (State.mapSols s f).sys = s.sys := (mapSols_keep s f (Keep.refl s) rfl : Keep [.sol] s _).only .sys (by decide)
@[simp] theorem mapSols_ports (s : State) (f : PortId → SolPort → SolPort) : (State.mapSols s f).ports = s.ports := (mapSols_keep s f (Keep.refl s) rfl : Keep [.sol] s _).only .ports (by decide)
@[simp] theorem mapSols_banks (s : State) (f : PortId → SolPort → SolPort) : (State.mapSols s f).banks = s.banks := (mapSols_keep s f (Keep.refl s) rfl : Keep [.sol] s _).only .banks (by decide)
@[simp] theorem mapSols_log (s : State) (f : PortId → SolPort → SolPort) : (State.mapSols s f).log = s.log := (mapSols_keep s f (Keep.refl s) rfl : Keep [.sol] s _).only .log (by decide)
@[simp] theorem mapSols_rcp (s : State) (f : PortId → SolPort → SolPort) : (State.mapSols s f).rcp = s.rcp := (mapSols_keep s f (Keep.refl s) rfl : Keep [.sol] s _).only .rcp (by decide)
@[simp] theorem mapSols_sec (s : State) (f : PortId → SolPort → SolPort) : (State.mapSols s f).sec = s.sec := (mapSols_keep s f (Keep.refl s) rfl : Keep [.sol] s _).only .sec (by decide)
@[simp] theorem mapSols_pwr (s : State) (f : PortId → SolPort → SolPort) : (State.mapSols s f).pwr = s.pwr := (mapSols_keep s f (Keep.refl s) rfl : Keep [.sol] s _).only .pwr (by decide)
@[simp] theorem mapSols_tmb (s : State) (f : PortId → SolPort → SolPort) : (State.mapSols s f).tmb = s.tmb := (mapSols_keep s f (Keep.refl s) rfl : Keep [.sol] s _).only .tmb (by decide)
@[simp] theorem mapSols_gns (s : State) (f : PortId → SolPort → SolPort) : (State.mapSols s f).gns = s.gns := (mapSols_keep s f (Keep.refl s) rfl : Keep [.sol] s _).only .gns (by decide)
@[simp] theorem mapSols_hie (s : State) (f : PortId → SolPort → SolPort) : (State.mapSols s f).hie = s.hie := (mapSols_keep s f (Keep.refl s) rfl : Keep [.sol] s _).only .hie (by decide)
@[simp] theorem mapSols_mon (s : State) (f : PortId → SolPort → SolPort) : (State.mapSols s f).mon = s.mon := (mapSols_keep s f (Keep.refl s) rfl : Keep [.sol] s _).only .mon (by decide)
@[simp] theorem mapSols_cal (s : State) (f : PortId → SolPort → SolPort) : (State.mapSols s f).cal = s.cal := (mapSols_keep s f (Keep.refl s) rfl : Keep [.sol] s _).only .cal (by decide)
@[simp] theorem mapSols_fan (s : State) (f : PortId → SolPort → SolPort) : (State.mapSols s f).fan = s.fan := (mapSols_keep s f (Keep.refl s) rfl : Keep [.sol] s _).only .fan (by decide)
@[simp] theorem mapSols_eng (s : State) (f : PortId → SolPort → SolPort) : (State.mapSols s f).eng = s.eng := (mapSols_keep s f (Keep.refl s) rfl : Keep [.sol] s _).only .eng (by decide)
@[simp] theorem mapSols_sct (s : State) (f : PortId → SolPort → SolPort) : (State.mapSols s f).sct = s.sct := (mapSols_keep s f (Keep.refl s) rfl : Keep [.sol] s _).only .sct (by decide)
@[simp] theorem mapSols_can (s : State) (f : PortId → SolPort → SolPort) : (State.mapSols s f).can = s.can := (mapSols_keep s f (Keep.refl s) rfl : Keep [.sol] s _).only .can (by decide)
@[simp] theorem mapSols_hl (s : State) (f : PortId → SolPort → SolPort) : (State.mapSols s f).hl = s.hl := (mapSols_keep s f (Keep.refl s) rfl : Keep [.sol] s _).only .hl (by decide)
@[simp] theorem mapSols_apu (s : State) (f : PortId → SolPort → SolPort) : (State.mapSols s f).apu = s.apu := (mapSols_keep s f (Keep.refl s) rfl : Keep [.sol] s _).only .apu (by decide)
@[simp] theorem mapSols_dma (s : State) (f : PortId → SolPort → SolPort) : (State.mapSols s f).dma = s.dma := (mapSols_keep s f (Keep.refl s) rfl : Keep [.sol] s _).only .dma (by decide)
@[simp] theorem mapSols_seq (s : State) (f : PortId → SolPort → SolPort) : (State.mapSols s f).seq = s.seq := (mapSols_keep s f (Keep.refl s) rfl : Keep [.sol] s _).only .seq (by decide)
@[simp] theorem mapSols_mem (s : State) (f : PortId → SolPort → SolPort) : (State.mapSols s f).mem = s.mem := (mapSols_keep s f (Keep.refl s) rfl : Keep [.sol] s _).only .mem (by decide)
@[simp] theorem settle_sys (s : State) (p : PortId) : (State.settle s p).sys = s.sys := (settle_keep s p (Keep.refl s) rfl : Keep [.ports] s _).only .sys (by decide)
@[simp] theorem settle_banks (s : State) (p : PortId) : (State.settle s p).banks = s.banks := (settle_keep s p (Keep.refl s) rfl : Keep [.ports] s _).only .banks (by decide)
@[simp] theorem settle_sol (s : State) (p : PortId) : (State.settle s p).sol = s.sol := (settle_keep s p (Keep.refl s) rfl : Keep [.ports] s _).only .sol (by decide)
@[simp] theorem settle_log (s : State) (p : PortId) : (State.settle s p).log = s.log := (settle_keep s p (Keep.refl s) rfl : Keep [.ports] s _).only .log (by decide)
@[simp] theorem settle_rcp (s : State) (p : PortId) : (State.settle s p).rcp = s.rcp := (settle_keep s p (Keep.refl s) rfl : Keep [.ports] s _).only .rcp (by decide)
@[simp] theorem settle_sec (s : State) (p : PortId) : (State.settle s p).sec = s.sec := (settle_keep s p (Keep.refl s) rfl : Keep [.ports] s _).only .sec (by decide)
@[simp] theorem settle_pwr (s : State) (p : PortId) : (State.settle s p).pwr = s.pwr := (settle_keep s p (Keep.refl s) rfl : Keep [.ports] s _).only .pwr (by decide)
@[simp] theorem settle_tmb (s : State) (p : PortId) : (State.settle s p).tmb = s.tmb := (settle_keep s p (Keep.refl s) rfl : Keep [.ports] s _).only .tmb (by decide)
@[simp] theorem settle_gns (s : State) (p : PortId) : (State.settle s p).gns = s.gns := (settle_keep s p (Keep.refl s) rfl : Keep [.ports] s _).only .gns (by decide)
@[simp] theorem settle_hie (s : State) (p : PortId) : (State.settle s p).hie = s.hie := (settle_keep s p (Keep.refl s) rfl : Keep [.ports] s _).only .hie (by decide)
@[simp] theorem settle_mon (s : State) (p : PortId) : (State.settle s p).mon = s.mon := (settle_keep s p (Keep.refl s) rfl : Keep [.ports] s _).only .mon (by decide)
@[simp] theorem settle_cal (s : State) (p : PortId) : (State.settle s p).cal = s.cal := (settle_keep s p (Keep.refl s) rfl : Keep [.ports] s _).only .cal (by decide)
@[simp] theorem settle_fan (s : State) (p : PortId) : (State.settle s p).fan = s.fan := (settle_keep s p (Keep.refl s) rfl : Keep [.ports] s _).only .fan (by decide)
@[simp] theorem settle_eng (s : State) (p : PortId) : (State.settle s p).eng = s.eng := (settle_keep s p (Keep.refl s) rfl : Keep [.ports] s _).only .eng (by decide)
@[simp] theorem settle_sct (s : State) (p : PortId) : (State.settle s p).sct = s.sct := (settle_keep s p (Keep.refl s) rfl : Keep [.ports] s _).only .sct (by decide)
@[simp] theorem settle_can (s : State) (p : PortId) : (State.settle s p).can = s.can := (settle_keep s p (Keep.refl s) rfl : Keep [.ports] s _).only .can (by decide)
@[simp] theorem settle_hl (s : State) (p : PortId) : (State.settle s p).hl = s.hl := (settle_keep s p (Keep.refl s) rfl : Keep [.ports] s _).only .hl (by decide)
@[simp] theorem settle_apu (s : State) (p : PortId) : (State.settle s p).apu = s.apu := (settle_keep s p (Keep.refl s) rfl : Keep [.ports] s _).only .apu (by decide)
@[simp] theorem settle_dma (s : State) (p : PortId) : (State.settle s p).dma = s.dma := (settle_keep s p (Keep.refl s) rfl : Keep [.ports] s _).only .dma (by decide)
@[simp] theorem settle_seq (s : State) (p : PortId) : (State.settle s p).seq = s.seq := (settle_keep s p (Keep.refl s) rfl : Keep [.ports] s _).only .seq (by decide)
@[simp] theorem settle_mem (s : State) (p : PortId) : (State.settle s p).mem = s.mem := (settle_keep s p (Keep.refl s) rfl : Keep [.ports] s _).only .mem (by decide)
@[simp] theorem countEdge_sys (s : State) (p : PortId) : (State.countEdge s p).sys = s.sys := (countEdge_keep s p (Keep.refl s) rfl : Keep [.sct] s _).only .sys (by decide)
@[simp] theorem countEdge_ports (s : State) (p : PortId) : (State.countEdge s p).ports = s.ports := (countEdge_keep s p (Keep.refl s) rfl : Keep [.sct] s _).only .ports (by decide)
@[simp] theorem countEdge_banks (s : State) (p : PortId) : (State.countEdge s p).banks = s.banks := (countEdge_keep s p (Keep.refl s) rfl : Keep [.sct] s _).only .banks (by decide)
@[simp] theorem countEdge_sol (s : State) (p : PortId) : (State.countEdge s p).sol = s.sol := (countEdge_keep s p (Keep.refl s) rfl : Keep [.sct] s _).only .sol (by decide)
@[simp] theorem countEdge_log (s : State) (p : PortId) : (State.countEdge s p).log = s.log := (countEdge_keep s p (Keep.refl s) rfl : Keep [.sct] s _).only .log (by decide)
@[simp] theorem countEdge_rcp (s : State) (p : PortId) : (State.countEdge s p).rcp = s.rcp := (countEdge_keep s p (Keep.refl s) rfl : Keep [.sct] s _).only .rcp (by decide)
@[simp] theorem countEdge_sec (s : State) (p : PortId) : (State.countEdge s p).sec = s.sec := (countEdge_keep s p (Keep.refl s) rfl : Keep [.sct] s _).only .sec (by decide)
@[simp] theorem countEdge_pwr (s : State) (p : PortId) : (State.countEdge s p).pwr = s.pwr := (countEdge_keep s p (Keep.refl s) rfl : Keep [.sct] s _).only .pwr (by decide)
@[simp] theorem countEdge_tmb (s : State) (p : PortId) : (State.countEdge s p).tmb = s.tmb := (countEdge_keep s p (Keep.refl s) rfl : Keep [.sct] s _).only .tmb (by decide)
@[simp] theorem countEdge_gns (s : State) (p : PortId) : (State.countEdge s p).gns = s.gns := (countEdge_keep s p (Keep.refl s) rfl : Keep [.sct] s _).only .gns (by decide)
@[simp] theorem countEdge_hie (s : State) (p : PortId) : (State.countEdge s p).hie = s.hie := (countEdge_keep s p (Keep.refl s) rfl : Keep [.sct] s _).only .hie (by decide)
@[simp] theorem countEdge_mon (s : State) (p : PortId) : (State.countEdge s p).mon = s.mon := (countEdge_keep s p (Keep.refl s) rfl : Keep [.sct] s _).only .mon (by decide)
@[simp] theorem countEdge_cal (s : State) (p : PortId) : (State.countEdge s p).cal = s.cal := (countEdge_keep s p (Keep.refl s) rfl : Keep [.sct] s _).only .cal (by decide)
@[simp] theorem countEdge_fan (s : State) (p : PortId) : (State.countEdge s p).fan = s.fan := (countEdge_keep s p (Keep.refl s) rfl : Keep [.sct] s _).only .fan (by decide)
@[simp] theorem countEdge_eng (s : State) (p : PortId) : (State.countEdge s p).eng = s.eng := (countEdge_keep s p (Keep.refl s) rfl : Keep [.sct] s _).only .eng (by decide)
@[simp] theorem countEdge_can (s : State) (p : PortId) : (State.countEdge s p).can = s.can := (countEdge_keep s p (Keep.refl s) rfl : Keep [.sct] s _).only .can (by decide)
@[simp] theorem countEdge_hl (s : State) (p : PortId) : (State.countEdge s p).hl = s.hl := (countEdge_keep s p (Keep.refl s) rfl : Keep [.sct] s _).only .hl (by decide)
@[simp] theorem countEdge_apu (s : State) (p : PortId) : (State.countEdge s p).apu = s.apu := (countEdge_keep s p (Keep.refl s) rfl : Keep [.sct] s _).only .apu (by decide)
@[simp] theorem countEdge_dma (s : State) (p : PortId) : (State.countEdge s p).dma = s.dma := (countEdge_keep s p (Keep.refl s) rfl : Keep [.sct] s _).only .dma (by decide)
@[simp] theorem countEdge_seq (s : State) (p : PortId) : (State.countEdge s p).seq = s.seq := (countEdge_keep s p (Keep.refl s) rfl : Keep [.sct] s _).only .seq (by decide)
@[simp] theorem countEdge_mem (s : State) (p : PortId) : (State.countEdge s p).mem = s.mem := (countEdge_keep s p (Keep.refl s) rfl : Keep [.sct] s _).only .mem (by decide)
@[simp] theorem finishOpen_ports (s : State) (p : PortId) (seen : Option Nat) (cut : Bool) : (State.finishOpen s p seen cut).ports = s.ports := (finishOpen_keep s p seen cut (Keep.refl s) rfl : Keep [.sys, .sol, .log, .mon] s _).only .ports (by decide)
@[simp] theorem finishOpen_banks (s : State) (p : PortId) (seen : Option Nat) (cut : Bool) : (State.finishOpen s p seen cut).banks = s.banks := (finishOpen_keep s p seen cut (Keep.refl s) rfl : Keep [.sys, .sol, .log, .mon] s _).only .banks (by decide)
@[simp] theorem finishOpen_rcp (s : State) (p : PortId) (seen : Option Nat) (cut : Bool) : (State.finishOpen s p seen cut).rcp = s.rcp := (finishOpen_keep s p seen cut (Keep.refl s) rfl : Keep [.sys, .sol, .log, .mon] s _).only .rcp (by decide)
@[simp] theorem finishOpen_sec (s : State) (p : PortId) (seen : Option Nat) (cut : Bool) : (State.finishOpen s p seen cut).sec = s.sec := (finishOpen_keep s p seen cut (Keep.refl s) rfl : Keep [.sys, .sol, .log, .mon] s _).only .sec (by decide)
@[simp] theorem finishOpen_pwr (s : State) (p : PortId) (seen : Option Nat) (cut : Bool) : (State.finishOpen s p seen cut).pwr = s.pwr := (finishOpen_keep s p seen cut (Keep.refl s) rfl : Keep [.sys, .sol, .log, .mon] s _).only .pwr (by decide)
@[simp] theorem finishOpen_tmb (s : State) (p : PortId) (seen : Option Nat) (cut : Bool) : (State.finishOpen s p seen cut).tmb = s.tmb := (finishOpen_keep s p seen cut (Keep.refl s) rfl : Keep [.sys, .sol, .log, .mon] s _).only .tmb (by decide)
@[simp] theorem finishOpen_gns (s : State) (p : PortId) (seen : Option Nat) (cut : Bool) : (State.finishOpen s p seen cut).gns = s.gns := (finishOpen_keep s p seen cut (Keep.refl s) rfl : Keep [.sys, .sol, .log, .mon] s _).only .gns (by decide)
@[simp] theorem finishOpen_hie (s : State) (p : PortId) (seen : Option Nat) (cut : Bool) : (State.finishOpen s p seen cut).hie = s.hie := (finishOpen_keep s p seen cut (Keep.refl s) rfl : Keep [.sys, .sol, .log, .mon] s _).only .hie (by decide)
@[simp] theorem finishOpen_cal (s : State) (p : PortId) (seen : Option Nat) (cut : Bool) : (State.finishOpen s p seen cut).cal = s.cal := (finishOpen_keep s p seen cut (Keep.refl s) rfl : Keep [.sys, .sol, .log, .mon] s _).only .cal (by decide)
@[simp] theorem finishOpen_fan (s : State) (p : PortId) (seen : Option Nat) (cut : Bool) : (State.finishOpen s p seen cut).fan = s.fan := (finishOpen_keep s p seen cut (Keep.refl s) rfl : Keep [.sys, .sol, .log, .mon] s _).only .fan (by decide)
@[simp] theorem finishOpen_eng (s : State) (p : PortId) (seen : Option Nat) (cut : Bool) : (State.finishOpen s p seen cut).eng = s.eng := (finishOpen_keep s p seen cut (Keep.refl s) rfl : Keep [.sys, .sol, .log, .mon] s _).only .eng (by decide)
@[simp] theorem finishOpen_sct (s : State) (p : PortId) (seen : Option Nat) (cut : Bool) : (State.finishOpen s p seen cut).sct = s.sct := (finishOpen_keep s p seen cut (Keep.refl s) rfl : Keep [.sys, .sol, .log, .mon] s _).only .sct (by decide)
@[simp] theorem finishOpen_can (s : State) (p : PortId) (seen : Option Nat) (cut : Bool) : (State.finishOpen s p seen cut).can = s.can := (finishOpen_keep s p seen cut (Keep.refl s) rfl : Keep [.sys, .sol, .log, .mon] s _).only .can (by decide)
@[simp] theorem finishOpen_hl (s : State) (p : PortId) (seen : Option Nat) (cut : Bool) : (State.finishOpen s p seen cut).hl = s.hl := (finishOpen_keep s p seen cut (Keep.refl s) rfl : Keep [.sys, .sol, .log, .mon] s _).only .hl (by decide)
@[simp] theorem finishOpen_apu (s : State) (p : PortId) (seen : Option Nat) (cut : Bool) : (State.finishOpen s p seen cut).apu = s.apu := (finishOpen_keep s p seen cut (Keep.refl s) rfl : Keep [.sys, .sol, .log, .mon] s _).only .apu (by decide)
@[simp] theorem finishOpen_dma (s : State) (p : PortId) (seen : Option Nat) (cut : Bool) : (State.finishOpen s p seen cut).dma = s.dma := (finishOpen_keep s p seen cut (Keep.refl s) rfl : Keep [.sys, .sol, .log, .mon] s _).only .dma (by decide)
@[simp] theorem finishOpen_seq (s : State) (p : PortId) (seen : Option Nat) (cut : Bool) : (State.finishOpen s p seen cut).seq = s.seq := (finishOpen_keep s p seen cut (Keep.refl s) rfl : Keep [.sys, .sol, .log, .mon] s _).only .seq (by decide)
@[simp] theorem finishOpen_mem (s : State) (p : PortId) (seen : Option Nat) (cut : Bool) : (State.finishOpen s p seen cut).mem = s.mem := (finishOpen_keep s p seen cut (Keep.refl s) rfl : Keep [.sys, .sol, .log, .mon] s _).only .mem (by decide)
@[simp] theorem finishClose_ports (s : State) (p : PortId) (seen : Option Nat) (cut : Bool) : (State.finishClose s p seen cut).ports = s.ports := (finishClose_keep s p seen cut (Keep.refl s) rfl : Keep [.sys, .sol, .log, .mon] s _).only .ports (by decide)
@[simp] theorem finishClose_banks (s : State) (p : PortId) (seen : Option Nat) (cut : Bool) : (State.finishClose s p seen cut).banks = s.banks := (finishClose_keep s p seen cut (Keep.refl s) rfl : Keep [.sys, .sol, .log, .mon] s _).only .banks (by decide)
@[simp] theorem finishClose_rcp (s : State) (p : PortId) (seen : Option Nat) (cut : Bool) : (State.finishClose s p seen cut).rcp = s.rcp := (finishClose_keep s p seen cut (Keep.refl s) rfl : Keep [.sys, .sol, .log, .mon] s _).only .rcp (by decide)
@[simp] theorem finishClose_sec (s : State) (p : PortId) (seen : Option Nat) (cut : Bool) : (State.finishClose s p seen cut).sec = s.sec := (finishClose_keep s p seen cut (Keep.refl s) rfl : Keep [.sys, .sol, .log, .mon] s _).only .sec (by decide)
@[simp] theorem finishClose_pwr (s : State) (p : PortId) (seen : Option Nat) (cut : Bool) : (State.finishClose s p seen cut).pwr = s.pwr := (finishClose_keep s p seen cut (Keep.refl s) rfl : Keep [.sys, .sol, .log, .mon] s _).only .pwr (by decide)
@[simp] theorem finishClose_tmb (s : State) (p : PortId) (seen : Option Nat) (cut : Bool) : (State.finishClose s p seen cut).tmb = s.tmb := (finishClose_keep s p seen cut (Keep.refl s) rfl : Keep [.sys, .sol, .log, .mon] s _).only .tmb (by decide)
@[simp] theorem finishClose_gns (s : State) (p : PortId) (seen : Option Nat) (cut : Bool) : (State.finishClose s p seen cut).gns = s.gns := (finishClose_keep s p seen cut (Keep.refl s) rfl : Keep [.sys, .sol, .log, .mon] s _).only .gns (by decide)
@[simp] theorem finishClose_hie (s : State) (p : PortId) (seen : Option Nat) (cut : Bool) : (State.finishClose s p seen cut).hie = s.hie := (finishClose_keep s p seen cut (Keep.refl s) rfl : Keep [.sys, .sol, .log, .mon] s _).only .hie (by decide)
@[simp] theorem finishClose_cal (s : State) (p : PortId) (seen : Option Nat) (cut : Bool) : (State.finishClose s p seen cut).cal = s.cal := (finishClose_keep s p seen cut (Keep.refl s) rfl : Keep [.sys, .sol, .log, .mon] s _).only .cal (by decide)
@[simp] theorem finishClose_fan (s : State) (p : PortId) (seen : Option Nat) (cut : Bool) : (State.finishClose s p seen cut).fan = s.fan := (finishClose_keep s p seen cut (Keep.refl s) rfl : Keep [.sys, .sol, .log, .mon] s _).only .fan (by decide)
@[simp] theorem finishClose_eng (s : State) (p : PortId) (seen : Option Nat) (cut : Bool) : (State.finishClose s p seen cut).eng = s.eng := (finishClose_keep s p seen cut (Keep.refl s) rfl : Keep [.sys, .sol, .log, .mon] s _).only .eng (by decide)
@[simp] theorem finishClose_sct (s : State) (p : PortId) (seen : Option Nat) (cut : Bool) : (State.finishClose s p seen cut).sct = s.sct := (finishClose_keep s p seen cut (Keep.refl s) rfl : Keep [.sys, .sol, .log, .mon] s _).only .sct (by decide)
@[simp] theorem finishClose_can (s : State) (p : PortId) (seen : Option Nat) (cut : Bool) : (State.finishClose s p seen cut).can = s.can := (finishClose_keep s p seen cut (Keep.refl s) rfl : Keep [.sys, .sol, .log, .mon] s _).only .can (by decide)
@[simp] theorem finishClose_hl (s : State) (p : PortId) (seen : Option Nat) (cut : Bool) : (State.finishClose s p seen cut).hl = s.hl := (finishClose_keep s p seen cut (Keep.refl s) rfl : Keep [.sys, .sol, .log, .mon] s _).only .hl (by decide)
@[simp] theorem finishClose_apu (s : State) (p : PortId) (seen : Option Nat) (cut : Bool) : (State.finishClose s p seen cut).apu = s.apu := (finishClose_keep s p seen cut (Keep.refl s) rfl : Keep [.sys, .sol, .log, .mon] s _).only .apu (by decide)
@[simp] theorem finishClose_dma (s : State) (p : PortId) (seen : Option Nat) (cut : Bool) : (State.finishClose s p seen cut).dma = s.dma := (finishClose_keep s p seen cut (Keep.refl s) rfl : Keep [.sys, .sol, .log, .mon] s _).only .dma (by decide)
@[simp] theorem finishClose_seq (s : State) (p : PortId) (seen : Option Nat) (cut : Bool) : (State.finishClose s p seen cut).seq = s.seq := (finishClose_keep s p seen cut (Keep.refl s) rfl : Keep [.sys, .sol, .log, .mon] s _).only .seq (by decide)
@[simp] theorem finishClose_mem (s : State) (p : PortId) (seen : Option Nat) (cut : Bool) : (State.finishClose s p seen cut).mem = s.mem := (finishClose_keep s p seen cut (Keep.refl s) rfl : Keep [.sys, .sol, .log, .mon] s _).only .mem (by decide)
@[simp] theorem onGroup_sys (s : State) (g : GroupId) (f : Group → Group) : (State.onGroup s g f).sys = s.sys := (onGroup_keep s g f (Keep.refl s) rfl : Keep [.sol] s _).only .sys (by decide)
@[simp] theorem onGroup_ports (s : State) (g : GroupId) (f : Group → Group) : (State.onGroup s g f).ports = s.ports := (onGroup_keep s g f (Keep.refl s) rfl : Keep [.sol] s _).only .ports (by decide)
@[simp] theorem onGroup_banks (s : State) (g : GroupId) (f : Group → Group) : (State.onGroup s g f).banks = s.banks := (onGroup_keep s g f (Keep.refl s) rfl : Keep [.sol] s _).only .banks (by decide)
@[simp] theorem onGroup_log (s : State) (g : GroupId) (f : Group → Group) : (State.onGroup s g f).log = s.log := (onGroup_keep s g f (Keep.refl s) rfl : Keep [.sol] s _).only .log (by decide)
@[simp] theorem onGroup_rcp (s : State) (g : GroupId) (f : Group → Group) : (State.onGroup s g f).rcp = s.rcp := (onGroup_keep s g f (Keep.refl s) rfl : Keep [.sol] s _).only .rcp (by decide)
@[simp] theorem onGroup_sec (s : State) (g : GroupId) (f : Group → Group) : (State.onGroup s g f).sec = s.sec := (onGroup_keep s g f (Keep.refl s) rfl : Keep [.sol] s _).only .sec (by decide)
@[simp] theorem onGroup_pwr (s : State) (g : GroupId) (f : Group → Group) : (State.onGroup s g f).pwr = s.pwr := (onGroup_keep s g f (Keep.refl s) rfl : Keep [.sol] s _).only .pwr (by decide)
@[simp] theorem onGroup_tmb (s : State) (g : GroupId) (f : Group → Group) : (State.onGroup s g f).tmb = s.tmb := (onGroup_keep s g f (Keep.refl s) rfl : Keep [.sol] s _).only .tmb (by decide)
@[simp] theorem onGroup_gns (s : State) (g : GroupId) (f : Group → Group) : (State.onGroup s g f).gns = s.gns := (onGroup_keep s g f (Keep.refl s) rfl : Keep [.sol] s _).only .gns (by decide)
@[simp] theorem onGroup_hie (s : State) (g : GroupId) (f : Group → Group) : (State.onGroup s g f).hie = s.hie := (onGroup_keep s g f (Keep.refl s) rfl : Keep [.sol] s _).only .hie (by decide)
@[simp] theorem onGroup_mon (s : State) (g : GroupId) (f : Group → Group) : (State.onGroup s g f).mon = s.mon := (onGroup_keep s g f (Keep.refl s) rfl : Keep [.sol] s _).only .mon (by decide)
@[simp] theorem onGroup_cal (s : State) (g : GroupId) (f : Group → Group) : (State.onGroup s g f).cal = s.cal := (onGroup_keep s g f (Keep.refl s) rfl : Keep [.sol] s _).only .cal (by decide)
@[simp] theorem onGroup_fan (s : State) (g : GroupId) (f : Group → Group) : (State.onGroup s g f).fan = s.fan := (onGroup_keep s g f (Keep.refl s) rfl : Keep [.sol] s _).only .fan (by decide)
@[simp] theorem onGroup_eng (s : State) (g : GroupId) (f : Group → Group) : (State.onGroup s g f).eng = s.eng := (onGroup_keep s g f (Keep.refl s) rfl : Keep [.sol] s _).only .eng (by decide)
@[simp] theorem onGroup_sct (s : State) (g : GroupId) (f : Group → Group) : (State.onGroup s g f).sct = s.sct := (onGroup_keep s g f (Keep.refl s) rfl : Keep [.sol] s _).only .sct (by decide)
@[simp] theorem onGroup_can (s : State) (g : GroupId) (f : Group → Group) : (State.onGroup s g f).can = s.can := (onGroup_keep s g f (Keep.refl s) rfl : Keep [.sol] s _).only .can (by decide)
@[simp] theorem onGroup_hl (s : State) (g : GroupId) (f : Group → Group) : (State.onGroup s g f).hl = s.hl := (onGroup_keep s g f (Keep.refl s) rfl : Keep [.sol] s _).only .hl (by decide)
@[simp] theorem onGroup_apu (s : State) (g : GroupId) (f : Group → Group) : (State.onGroup s g f).apu = s.apu := (onGroup_keep s g f (Keep.refl s) rfl : Keep [.sol] s _).only .apu (by decide)
@[simp] theorem onGroup_dma (s : State) (g : GroupId) (f : Group → Group) : (State.onGroup s g f).dma = s.dma := (onGroup_keep s g f (Keep.refl s) rfl : Keep [.sol] s _).only .dma (by decide)
@[simp] theorem onGroup_seq (s : State) (g : GroupId) (f : Group → Group) : (State.onGroup s g f).seq = s.seq := (onGroup_keep s g f (Keep.refl s) rfl : Keep [.sol] s _).only .seq (by decide)
@[simp] theorem onGroup_mem (s : State) (g : GroupId) (f : Group → Group) : (State.onGroup s g f).mem = s.mem := (onGroup_keep s g f (Keep.refl s) rfl : Keep [.sol] s _).only .mem (by decide)
@[simp] theorem dirtyMates_sys (s : State) (p : PortId) : (State.dirtyMates s p).sys = s.sys := (dirtyMates_keep s p (Keep.refl s) rfl : Keep [.sol] s _).only .sys (by decide)
@[simp] theorem dirtyMates_ports (s : State) (p : PortId) : (State.dirtyMates s p).ports = s.ports := (dirtyMates_keep s p (Keep.refl s) rfl : Keep [.sol] s _).only .ports (by decide)
@[simp] theorem dirtyMates_banks (s : State) (p : PortId) : (State.dirtyMates s p).banks = s.banks := (dirtyMates_keep s p (Keep.refl s) rfl : Keep [.sol] s _).only .banks (by decide)
@[simp] theorem dirtyMates_log (s : State) (p : PortId) : (State.dirtyMates s p).log = s.log := (dirtyMates_keep s p (Keep.refl s) rfl : Keep [.sol] s _).only .log (by decide)
@[simp] theorem dirtyMates_rcp (s : State) (p : PortId) : (State.dirtyMates s p).rcp = s.rcp := (dirtyMates_keep s p (Keep.refl s) rfl : Keep [.sol] s _).only .rcp (by decide)
@[simp] theorem dirtyMates_sec (s : State) (p : PortId) : (State.dirtyMates s p).sec = s.sec := (dirtyMates_keep s p (Keep.refl s) rfl : Keep [.sol] s _).only .sec (by decide)
@[simp] theorem dirtyMates_pwr (s : State) (p : PortId) : (State.dirtyMates s p).pwr = s.pwr := (dirtyMates_keep s p (Keep.refl s) rfl : Keep [.sol] s _).only .pwr (by decide)
@[simp] theorem dirtyMates_tmb (s : State) (p : PortId) : (State.dirtyMates s p).tmb = s.tmb := (dirtyMates_keep s p (Keep.refl s) rfl : Keep [.sol] s _).only .tmb (by decide)
@[simp] theorem dirtyMates_gns (s : State) (p : PortId) : (State.dirtyMates s p).gns = s.gns := (dirtyMates_keep s p (Keep.refl s) rfl : Keep [.sol] s _).only .gns (by decide)
@[simp] theorem dirtyMates_hie (s : State) (p : PortId) : (State.dirtyMates s p).hie = s.hie := (dirtyMates_keep s p (Keep.refl s) rfl : Keep [.sol] s _).only .hie (by decide)
@[simp] theorem dirtyMates_mon (s : State) (p : PortId) : (State.dirtyMates s p).mon = s.mon := (dirtyMates_keep s p (Keep.refl s) rfl : Keep [.sol] s _).only .mon (by decide)
@[simp] theorem dirtyMates_cal (s : State) (p : PortId) : (State.dirtyMates s p).cal = s.cal := (dirtyMates_keep s p (Keep.refl s) rfl : Keep [.sol] s _).only .cal (by decide)
@[simp] theorem dirtyMates_fan (s : State) (p : PortId) : (State.dirtyMates s p).fan = s.fan := (dirtyMates_keep s p (Keep.refl s) rfl : Keep [.sol] s _).only .fan (by decide)
@[simp] theorem dirtyMates_eng (s : State) (p : PortId) : (State.dirtyMates s p).eng = s.eng := (dirtyMates_keep s p (Keep.refl s) rfl : Keep [.sol] s _).only .eng (by decide)
@[simp] theorem dirtyMates_sct (s : State) (p : PortId) : (State.dirtyMates s p).sct = s.sct := (dirtyMates_keep s p (Keep.refl s) rfl : Keep [.sol] s _).only .sct (by decide)
@[simp] theorem dirtyMates_can (s : State) (p : PortId) : (State.dirtyMates s p).can = s.can := (dirtyMates_keep s p (Keep.refl s) rfl : Keep [.sol] s _).only .can (by decide)
@[simp] theorem dirtyMates_hl (s : State) (p : PortId) : (State.dirtyMates s p).hl = s.hl := (dirtyMates_keep s p (Keep.refl s) rfl : Keep [.sol] s _).only .hl (by decide)
@[simp] theorem dirtyMates_apu (s : State) (p : PortId) : (State.dirtyMates s p).apu = s.apu := (dirtyMates_keep s p (Keep.refl s) rfl : Keep [.sol] s _).only .apu (by decide)
@[simp] theorem dirtyMates_dma (s : State) (p : PortId) : (State.dirtyMates s p).dma = s.dma := (dirtyMates_keep s p (Keep.refl s) rfl : Keep [.sol] s _).only .dma (by decide)
@[simp] theorem dirtyMates_seq (s : State) (p : PortId) : (State.dirtyMates s p).seq = s.seq := (dirtyMates_keep s p (Keep.refl s) rfl : Keep [.sol] s _).only .seq (by decide)
@[simp] theorem dirtyMates_mem (s : State) (p : PortId) : (State.dirtyMates s p).mem = s.mem := (dirtyMates_keep s p (Keep.refl s) rfl : Keep [.sol] s _).only .mem (by decide)
@[simp] theorem headFollows_sys (s : State) (p : PortId) : (State.headFollows s p).sys = s.sys := (headFollows_keep s p (Keep.refl s) rfl : Keep [.ports, .sol] s _).only .sys (by decide)
@[simp] theorem headFollows_banks (s : State) (p : PortId) : (State.headFollows s p).banks = s.banks := (headFollows_keep s p (Keep.refl s) rfl : Keep [.ports, .sol] s _).only .banks (by decide)
@[simp] theorem headFollows_log (s : State) (p : PortId) : (State.headFollows s p).log = s.log := (headFollows_keep s p (Keep.refl s) rfl : Keep [.ports, .sol] s _).only .log (by decide)
@[simp] theorem headFollows_rcp (s : State) (p : PortId) : (State.headFollows s p).rcp = s.rcp := (headFollows_keep s p (Keep.refl s) rfl : Keep [.ports, .sol] s _).only .rcp (by decide)
@[simp] theorem headFollows_sec (s : State) (p : PortId) : (State.headFollows s p).sec = s.sec := (headFollows_keep s p (Keep.refl s) rfl : Keep [.ports, .sol] s _).only .sec (by decide)
@[simp] theorem headFollows_pwr (s : State) (p : PortId) : (State.headFollows s p).pwr = s.pwr := (headFollows_keep s p (Keep.refl s) rfl : Keep [.ports, .sol] s _).only .pwr (by decide)
@[simp] theorem headFollows_tmb (s : State) (p : PortId) : (State.headFollows s p).tmb = s.tmb := (headFollows_keep s p (Keep.refl s) rfl : Keep [.ports, .sol] s _).only .tmb (by decide)
@[simp] theorem headFollows_gns (s : State) (p : PortId) : (State.headFollows s p).gns = s.gns := (headFollows_keep s p (Keep.refl s) rfl : Keep [.ports, .sol] s _).only .gns (by decide)
@[simp] theorem headFollows_hie (s : State) (p : PortId) : (State.headFollows s p).hie = s.hie := (headFollows_keep s p (Keep.refl s) rfl : Keep [.ports, .sol] s _).only .hie (by decide)
@[simp] theorem headFollows_mon (s : State) (p : PortId) : (State.headFollows s p).mon = s.mon := (headFollows_keep s p (Keep.refl s) rfl : Keep [.ports, .sol] s _).only .mon (by decide)
@[simp] theorem headFollows_cal (s : State) (p : PortId) : (State.headFollows s p).cal = s.cal := (headFollows_keep s p (Keep.refl s) rfl : Keep [.ports, .sol] s _).only .cal (by decide)
@[simp] theorem headFollows_fan (s : State) (p : PortId) : (State.headFollows s p).fan = s.fan := (headFollows_keep s p (Keep.refl s) rfl : Keep [.ports, .sol] s _).only .fan (by decide)
@[simp] theorem headFollows_eng (s : State) (p : PortId) : (State.headFollows s p).eng = s.eng := (headFollows_keep s p (Keep.refl s) rfl : Keep [.ports, .sol] s _).only .eng (by decide)
@[simp] theorem headFollows_sct (s : State) (p : PortId) : (State.headFollows s p).sct = s.sct := (headFollows_keep s p (Keep.refl s) rfl : Keep [.ports, .sol] s _).only .sct (by decide)
@[simp] theorem headFollows_can (s : State) (p : PortId) : (State.headFollows s p).can = s.can := (headFollows_keep s p (Keep.refl s) rfl : Keep [.ports, .sol] s _).only .can (by decide)
@[simp] theorem headFollows_hl (s : State) (p : PortId) : (State.headFollows s p).hl = s.hl := (headFollows_keep s p (Keep.refl s) rfl : Keep [.ports, .sol] s _).only .hl (by decide)
@[simp] theorem headFollows_apu (s : State) (p : PortId) : (State.headFollows s p).apu = s.apu := (headFollows_keep s p (Keep.refl s) rfl : Keep [.ports, .sol] s _).only .apu (by decide)
@[simp] theorem headFollows_dma (s : State) (p : PortId) : (State.headFollows s p).dma = s.dma := (headFollows_keep s p (Keep.refl s) rfl : Keep [.ports, .sol] s _).only .dma (by decide)
@[simp] theorem headFollows_seq (s : State) (p : PortId) : (State.headFollows s p).seq = s.seq := (headFollows_keep s p (Keep.refl s) rfl : Keep [.ports, .sol] s _).only .seq (by decide)
@[simp] theorem headFollows_mem (s : State) (p : PortId) : (State.headFollows s p).mem = s.mem := (headFollows_keep s p (Keep.refl s) rfl : Keep [.ports, .sol] s _).only .mem (by decide)
@[simp] theorem enterPhase_sys (s : State) (p : PortId) (ph : Phase) (tick : Nat) : (State.enterPhase s p ph tick).sys = s.sys := (enterPhase_keep s p ph tick (Keep.refl s) rfl : Keep [.ports, .sol] s _).only .sys (by decide)
@[simp] theorem enterPhase_banks (s : State) (p : PortId) (ph : Phase) (tick : Nat) : (State.enterPhase s p ph tick).banks = s.banks := (enterPhase_keep s p ph tick (Keep.refl s) rfl : Keep [.ports, .sol] s _).only .banks (by decide)
@[simp] theorem enterPhase_log (s : State) (p : PortId) (ph : Phase) (tick : Nat) : (State.enterPhase s p ph tick).log = s.log := (enterPhase_keep s p ph tick (Keep.refl s) rfl : Keep [.ports, .sol] s _).only .log (by decide)
@[simp] theorem enterPhase_rcp (s : State) (p : PortId) (ph : Phase) (tick : Nat) : (State.enterPhase s p ph tick).rcp = s.rcp := (enterPhase_keep s p ph tick (Keep.refl s) rfl : Keep [.ports, .sol] s _).only .rcp (by decide)
@[simp] theorem enterPhase_sec (s : State) (p : PortId) (ph : Phase) (tick : Nat) : (State.enterPhase s p ph tick).sec = s.sec := (enterPhase_keep s p ph tick (Keep.refl s) rfl : Keep [.ports, .sol] s _).only .sec (by decide)
@[simp] theorem enterPhase_pwr (s : State) (p : PortId) (ph : Phase) (tick : Nat) : (State.enterPhase s p ph tick).pwr = s.pwr := (enterPhase_keep s p ph tick (Keep.refl s) rfl : Keep [.ports, .sol] s _).only .pwr (by decide)
@[simp] theorem enterPhase_tmb (s : State) (p : PortId) (ph : Phase) (tick : Nat) : (State.enterPhase s p ph tick).tmb = s.tmb := (enterPhase_keep s p ph tick (Keep.refl s) rfl : Keep [.ports, .sol] s _).only .tmb (by decide)
@[simp] theorem enterPhase_gns (s : State) (p : PortId) (ph : Phase) (tick : Nat) : (State.enterPhase s p ph tick).gns = s.gns := (enterPhase_keep s p ph tick (Keep.refl s) rfl : Keep [.ports, .sol] s _).only .gns (by decide)
@[simp] theorem enterPhase_hie (s : State) (p : PortId) (ph : Phase) (tick : Nat) : (State.enterPhase s p ph tick).hie = s.hie := (enterPhase_keep s p ph tick (Keep.refl s) rfl : Keep [.ports, .sol] s _).only .hie (by decide)
@[simp] theorem enterPhase_mon (s : State) (p : PortId) (ph : Phase) (tick : Nat) : (State.enterPhase s p ph tick).mon = s.mon := (enterPhase_keep s p ph tick (Keep.refl s) rfl : Keep [.ports, .sol] s _).only .mon (by decide)
@[simp] theorem enterPhase_cal (s : State) (p : PortId) (ph : Phase) (tick : Nat) : (State.enterPhase s p ph tick).cal = s.cal := (enterPhase_keep s p ph tick (Keep.refl s) rfl : Keep [.ports, .sol] s _).only .cal (by decide)
@[simp] theorem enterPhase_fan (s : State) (p : PortId) (ph : Phase) (tick : Nat) : (State.enterPhase s p ph tick).fan = s.fan := (enterPhase_keep s p ph tick (Keep.refl s) rfl : Keep [.ports, .sol] s _).only .fan (by decide)
@[simp] theorem enterPhase_eng (s : State) (p : PortId) (ph : Phase) (tick : Nat) : (State.enterPhase s p ph tick).eng = s.eng := (enterPhase_keep s p ph tick (Keep.refl s) rfl : Keep [.ports, .sol] s _).only .eng (by decide)
@[simp] theorem enterPhase_sct (s : State) (p : PortId) (ph : Phase) (tick : Nat) : (State.enterPhase s p ph tick).sct = s.sct := (enterPhase_keep s p ph tick (Keep.refl s) rfl : Keep [.ports, .sol] s _).only .sct (by decide)
@[simp] theorem enterPhase_can (s : State) (p : PortId) (ph : Phase) (tick : Nat) : (State.enterPhase s p ph tick).can = s.can := (enterPhase_keep s p ph tick (Keep.refl s) rfl : Keep [.ports, .sol] s _).only .can (by decide)
@[simp] theorem enterPhase_hl (s : State) (p : PortId) (ph : Phase) (tick : Nat) : (State.enterPhase s p ph tick).hl = s.hl := (enterPhase_keep s p ph tick (Keep.refl s) rfl : Keep [.ports, .sol] s _).only .hl (by decide)
@[simp] theorem enterPhase_apu (s : State) (p : PortId) (ph : Phase) (tick : Nat) : (State.enterPhase s p ph tick).apu = s.apu := (enterPhase_keep s p ph tick (Keep.refl s) rfl : Keep [.ports, .sol] s _).only .apu (by decide)
@[simp] theorem enterPhase_dma (s : State) (p : PortId) (ph : Phase) (tick : Nat) : (State.enterPhase s p ph tick).dma = s.dma := (enterPhase_keep s p ph tick (Keep.refl s) rfl : Keep [.ports, .sol] s _).only .dma (by decide)
@[simp] theorem enterPhase_seq (s : State) (p : PortId) (ph : Phase) (tick : Nat) : (State.enterPhase s p ph tick).seq = s.seq := (enterPhase_keep s p ph tick (Keep.refl s) rfl : Keep [.ports, .sol] s _).only .seq (by decide)
@[simp] theorem enterPhase_mem (s : State) (p : PortId) (ph : Phase) (tick : Nat) : (State.enterPhase s p ph tick).mem = s.mem := (enterPhase_keep s p ph tick (Keep.refl s) rfl : Keep [.ports, .sol] s _).only .mem (by decide)
@[simp] theorem startHit_banks (s : State) (p : PortId) (src : Option Src) (dur : Nat) (keep : Option (Option Nat)) : (State.startHit s p src dur keep).banks = s.banks := (startHit_keep s p src dur keep (Keep.refl s) rfl : Keep [.sys, .ports, .sol, .log, .mon] s _).only .banks (by decide)
@[simp] theorem startHit_rcp (s : State) (p : PortId) (src : Option Src) (dur : Nat) (keep : Option (Option Nat)) : (State.startHit s p src dur keep).rcp = s.rcp := (startHit_keep s p src dur keep (Keep.refl s) rfl : Keep [.sys, .ports, .sol, .log, .mon] s _).only .rcp (by decide)
@[simp] theorem startHit_sec (s : State) (p : PortId) (src : Option Src) (dur : Nat) (keep : Option (Option Nat)) : (State.startHit s p src dur keep).sec = s.sec := (startHit_keep s p src dur keep (Keep.refl s) rfl : Keep [.sys, .ports, .sol, .log, .mon] s _).only .sec (by decide)
@[simp] theorem startHit_pwr (s : State) (p : PortId) (src : Option Src) (dur : Nat) (keep : Option (Option Nat)) : (State.startHit s p src dur keep).pwr = s.pwr := (startHit_keep s p src dur keep (Keep.refl s) rfl : Keep [.sys, .ports, .sol, .log, .mon] s _).only .pwr (by decide)
@[simp] theorem startHit_tmb (s : State) (p : PortId) (src : Option Src) (dur : Nat) (keep : Option (Option Nat)) : (State.startHit s p src dur keep).tmb = s.tmb := (startHit_keep s p src dur keep (Keep.refl s) rfl : Keep [.sys, .ports, .sol, .log, .mon] s _).only .tmb (by decide)
@[simp] theorem startHit_gns (s : State) (p : PortId) (src : Option Src) (dur : Nat) (keep : Option (Option Nat)) : (State.startHit s p src dur keep).gns = s.gns := (startHit_keep s p src dur keep (Keep.refl s) rfl : Keep [.sys, .ports, .sol, .log, .mon] s _).only .gns (by decide)
@[simp] theorem startHit_hie (s : State) (p : PortId) (src : Option Src) (dur : Nat) (keep : Option (Option Nat)) : (State.startHit s p src dur keep).hie = s.hie := (startHit_keep s p src dur keep (Keep.refl s) rfl : Keep [.sys, .ports, .sol, .log, .mon] s _).only .hie (by decide)
@[simp] theorem startHit_cal (s : State) (p : PortId) (src : Option Src) (dur : Nat) (keep : Option (Option Nat)) : (State.startHit s p src dur keep).cal = s.cal := (startHit_keep s p src dur keep (Keep.refl s) rfl : Keep [.sys, .ports, .sol, .log, .mon] s _).only .cal (by decide)
@[simp] theorem startHit_fan (s : State) (p : PortId) (src : Option Src) (dur : Nat) (keep : Option (Option Nat)) : (State.startHit s p src dur keep).fan = s.fan := (startHit_keep s p src dur keep (Keep.refl s) rfl : Keep [.sys, .ports, .sol, .log, .mon] s _).only .fan (by decide)
@[simp] theorem startHit_eng (s : State) (p : PortId) (src : Option Src) (dur : Nat) (keep : Option (Option Nat)) : (State.startHit s p src dur keep).eng = s.eng := (startHit_keep s p src dur keep (Keep.refl s) rfl : Keep [.sys, .ports, .sol, .log, .mon] s _).only .eng (by decide)
@[simp] theorem startHit_sct (s : State) (p : PortId) (src : Option Src) (dur : Nat) (keep : Option (Option Nat)) : (State.startHit s p src dur keep).sct = s.sct := (startHit_keep s p src dur keep (Keep.refl s) rfl : Keep [.sys, .ports, .sol, .log, .mon] s _).only .sct (by decide)
@[simp] theorem startHit_can (s : State) (p : PortId) (src : Option Src) (dur : Nat) (keep : Option (Option Nat)) : (State.startHit s p src dur keep).can = s.can := (startHit_keep s p src dur keep (Keep.refl s) rfl : Keep [.sys, .ports, .sol, .log, .mon] s _).only .can (by decide)
@[simp] theorem startHit_hl (s : State) (p : PortId) (src : Option Src) (dur : Nat) (keep : Option (Option Nat)) : (State.startHit s p src dur keep).hl = s.hl := (startHit_keep s p src dur keep (Keep.refl s) rfl : Keep [.sys, .ports, .sol, .log, .mon] s _).only .hl (by decide)
@[simp] theorem startHit_apu (s : State) (p : PortId) (src : Option Src) (dur : Nat) (keep : Option (Option Nat)) : (State.startHit s p src dur keep).apu = s.apu := (startHit_keep s p src dur keep (Keep.refl s) rfl : Keep [.sys, .ports, .sol, .log, .mon] s _).only .apu (by decide)
@[simp] theorem startHit_dma (s : State) (p : PortId) (src : Option Src) (dur : Nat) (keep : Option (Option Nat)) : (State.startHit s p src dur keep).dma = s.dma := (startHit_keep s p src dur keep (Keep.refl s) rfl : Keep [.sys, .ports, .sol, .log, .mon] s _).only .dma (by decide)
@[simp] theorem startHit_seq (s : State) (p : PortId) (src : Option Src) (dur : Nat) (keep : Option (Option Nat)) : (State.startHit s p src dur keep).seq = s.seq := (startHit_keep s p src dur keep (Keep.refl s) rfl : Keep [.sys, .ports, .sol, .log, .mon] s _).only .seq (by decide)
@[simp] theorem startHit_mem (s : State) (p : PortId) (src : Option Src) (dur : Nat) (keep : Option (Option Nat)) : (State.startHit s p src dur keep).mem = s.mem := (startHit_keep s p src dur keep (Keep.refl s) rfl : Keep [.sys, .ports, .sol, .log, .mon] s _).only .mem (by decide)
@[simp] theorem toRelease_sys (s : State) (p : PortId) : (State.toRelease s p).sys = s.sys := (toRelease_keep s p (Keep.refl s) rfl : Keep [.ports, .sol] s _).only .sys (by decide)
@[simp] theorem toRelease_banks (s : State) (p : PortId) : (State.toRelease s p).banks = s.banks := (toRelease_keep s p (Keep.refl s) rfl : Keep [.ports, .sol] s _).only .banks (by decide)
@[simp] theorem toRelease_log (s : State) (p : PortId) : (State.toRelease s p).log = s.log := (toRelease_keep s p (Keep.refl s) rfl : Keep [.ports, .sol] s _).only .log (by decide)
@[simp] theorem toRelease_rcp (s : State) (p : PortId) : (State.toRelease s p).rcp = s.rcp := (toRelease_keep s p (Keep.refl s) rfl : Keep [.ports, .sol] s _).only .rcp (by decide)
@[simp] theorem toRelease_sec (s : State) (p : PortId) : (State.toRelease s p).sec = s.sec := (toRelease_keep s p (Keep.refl s) rfl : Keep [.ports, .sol] s _).only .sec (by decide)
@[simp] theorem toRelease_pwr (s : State) (p : PortId) : (State.toRelease s p).pwr = s.pwr := (toRelease_keep s p (Keep.refl s) rfl : Keep [.ports, .sol] s _).only .pwr (by decide)
@[simp] theorem toRelease_tmb (s : State) (p : PortId) : (State.toRelease s p).tmb = s.tmb := (toRelease_keep s p (Keep.refl s) rfl : Keep [.ports, .sol] s _).only .tmb (by decide)
@[simp] theorem toRelease_gns (s : State) (p : PortId) : (State.toRelease s p).gns = s.gns := (toRelease_keep s p (Keep.refl s) rfl : Keep [.ports, .sol] s _).only .gns (by decide)
@[simp] theorem toRelease_hie (s : State) (p : PortId) : (State.toRelease s p).hie = s.hie := (toRelease_keep s p (Keep.refl s) rfl : Keep [.ports, .sol] s _).only .hie (by decide)
@[simp] theorem toRelease_mon (s : State) (p : PortId) : (State.toRelease s p).mon = s.mon := (toRelease_keep s p (Keep.refl s) rfl : Keep [.ports, .sol] s _).only .mon (by decide)
@[simp] theorem toRelease_cal (s : State) (p : PortId) : (State.toRelease s p).cal = s.cal := (toRelease_keep s p (Keep.refl s) rfl : Keep [.ports, .sol] s _).only .cal (by decide)
@[simp] theorem toRelease_fan (s : State) (p : PortId) : (State.toRelease s p).fan = s.fan := (toRelease_keep s p (Keep.refl s) rfl : Keep [.ports, .sol] s _).only .fan (by decide)
@[simp] theorem toRelease_eng (s : State) (p : PortId) : (State.toRelease s p).eng = s.eng := (toRelease_keep s p (Keep.refl s) rfl : Keep [.ports, .sol] s _).only .eng (by decide)
@[simp] theorem toRelease_sct (s : State) (p : PortId) : (State.toRelease s p).sct = s.sct := (toRelease_keep s p (Keep.refl s) rfl : Keep [.ports, .sol] s _).only .sct (by decide)
@[simp] theorem toRelease_can (s : State) (p : PortId) : (State.toRelease s p).can = s.can := (toRelease_keep s p (Keep.refl s) rfl : Keep [.ports, .sol] s _).only .can (by decide)
@[simp] theorem toRelease_hl (s : State) (p : PortId) : (State.toRelease s p).hl = s.hl := (toRelease_keep s p (Keep.refl s) rfl : Keep [.ports, .sol] s _).only .hl (by decide)
@[simp] theorem toRelease_apu (s : State) (p : PortId) : (State.toRelease s p).apu = s.apu := (toRelease_keep s p (Keep.refl s) rfl : Keep [.ports, .sol] s _).only .apu (by decide)
@[simp] theorem toRelease_dma (s : State) (p : PortId) : (State.toRelease s p).dma = s.dma := (toRelease_keep s p (Keep.refl s) rfl : Keep [.ports, .sol] s _).only .dma (by decide)
@[simp] theorem toRelease_seq (s : State) (p : PortId) : (State.toRelease s p).seq = s.seq := (toRelease_keep s p (Keep.refl s) rfl : Keep [.ports, .sol] s _).only .seq (by decide)
@[simp] theorem toRelease_mem (s : State) (p : PortId) : (State.toRelease s p).mem = s.mem := (toRelease_keep s p (Keep.refl s) rfl : Keep [.ports, .sol] s _).only .mem (by decide)
@[simp] theorem toHold_sys (s : State) (p : PortId) : (State.toHold s p).sys = s.sys := (toHold_keep s p (Keep.refl s) rfl : Keep [.ports, .sol] s _).only .sys (by decide)
@[simp] theorem toHold_banks (s : State) (p : PortId) : (State.toHold s p).banks = s.banks := (toHold_keep s p (Keep.refl s) rfl : Keep [.ports, .sol] s _).only .banks (by decide)
@[simp] theorem toHold_log (s : State) (p : PortId) : (State.toHold s p).log = s.log := (toHold_keep s p (Keep.refl s) rfl : Keep [.ports, .sol] s _).only .log (by decide)
@[simp] theorem toHold_rcp (s : State) (p : PortId) : (State.toHold s p).rcp = s.rcp := (toHold_keep s p (Keep.refl s) rfl : Keep [.ports, .sol] s _).only .rcp (by decide)
@[simp] theorem toHold_sec (s : State) (p : PortId) : (State.toHold s p).sec = s.sec := (toHold_keep s p (Keep.refl s) rfl : Keep [.ports, .sol] s _).only .sec (by decide)
@[simp] theorem toHold_pwr (s : State) (p : PortId) : (State.toHold s p).pwr = s.pwr := (toHold_keep s p (Keep.refl s) rfl : Keep [.ports, .sol] s _).only .pwr (by decide)
@[simp] theorem toHold_tmb (s : State) (p : PortId) : (State.toHold s p).tmb = s.tmb := (toHold_keep s p (Keep.refl s) rfl : Keep [.ports, .sol] s _).only .tmb (by decide)
@[simp] theorem toHold_gns (s : State) (p : PortId) : (State.toHold s p).gns = s.gns := (toHold_keep s p (Keep.refl s) rfl : Keep [.ports, .sol] s _).only .gns (by decide)
@[simp] theorem toHold_hie (s : State) (p : PortId) : (State.toHold s p).hie = s.hie := (toHold_keep s p (Keep.refl s) rfl : Keep [.ports, .sol] s _).only .hie (by decide)
@[simp] theorem toHold_mon (s : State) (p : PortId) : (State.toHold s p).mon = s.mon := (toHold_keep s p (Keep.refl s) rfl : Keep [.ports, .sol] s _).only .mon (by decide)
@[simp] theorem toHold_cal (s : State) (p : PortId) : (State.toHold s p).cal = s.cal := (toHold_keep s p (Keep.refl s) rfl : Keep [.ports, .sol] s _).only .cal (by decide)
@[simp] theorem toHold_fan (s : State) (p : PortId) : (State.toHold s p).fan = s.fan := (toHold_keep s p (Keep.refl s) rfl : Keep [.ports, .sol] s _).only .fan (by decide)
@[simp] theorem toHold_eng (s : State) (p : PortId) : (State.toHold s p).eng = s.eng := (toHold_keep s p (Keep.refl s) rfl : Keep [.ports, .sol] s _).only .eng (by decide)
@[simp] theorem toHold_sct (s : State) (p : PortId) : (State.toHold s p).sct = s.sct := (toHold_keep s p (Keep.refl s) rfl : Keep [.ports, .sol] s _).only .sct (by decide)
@[simp] theorem toHold_can (s : State) (p : PortId) : (State.toHold s p).can = s.can := (toHold_keep s p (Keep.refl s) rfl : Keep [.ports, .sol] s _).only .can (by decide)
@[simp] theorem toHold_hl (s : State) (p : PortId) : (State.toHold s p).hl = s.hl := (toHold_keep s p (Keep.refl s) rfl : Keep [.ports, .sol] s _).only .hl (by decide)
@[simp] theorem toHold_apu (s : State) (p : PortId) : (State.toHold s p).apu = s.apu := (toHold_keep s p (Keep.refl s) rfl : Keep [.ports, .sol] s _).only .apu (by decide)
@[simp] theorem toHold_dma (s : State) (p : PortId) : (State.toHold s p).dma = s.dma := (toHold_keep s p (Keep.refl s) rfl : Keep [.ports, .sol] s _).only .dma (by decide)
@[simp] theorem toHold_seq (s : State) (p : PortId) : (State.toHold s p).seq = s.seq := (toHold_keep s p (Keep.refl s) rfl : Keep [.ports, .sol] s _).only .seq (by decide)
@[simp] theorem toHold_mem (s : State) (p : PortId) : (State.toHold s p).mem = s.mem := (toHold_keep s p (Keep.refl s) rfl : Keep [.ports, .sol] s _).only .mem (by decide)
@[simp] theorem toIdle_banks (s : State) (p : PortId) : (State.toIdle s p).banks = s.banks := (toIdle_keep s p (Keep.refl s) rfl : Keep [.sys, .ports, .sol, .log, .mon] s _).only .banks (by decide)
@[simp] theorem toIdle_rcp (s : State) (p : PortId) : (State.toIdle s p).rcp = s.rcp := (toIdle_keep s p (Keep.refl s) rfl : Keep [.sys, .ports, .sol, .log, .mon] s _).only .rcp (by decide)
@[simp] theorem toIdle_sec (s : State) (p : PortId) : (State.toIdle s p).sec = s.sec := (toIdle_keep s p (Keep.refl s) rfl : Keep [.sys, .ports, .sol, .log, .mon] s _).only .sec (by decide)
@[simp] theorem toIdle_pwr (s : State) (p : PortId) : (State.toIdle s p).pwr = s.pwr := (toIdle_keep s p (Keep.refl s) rfl : Keep [.sys, .ports, .sol, .log, .mon] s _).only .pwr (by decide)
@[simp] theorem toIdle_tmb (s : State) (p : PortId) : (State.toIdle s p).tmb = s.tmb := (toIdle_keep s p (Keep.refl s) rfl : Keep [.sys, .ports, .sol, .log, .mon] s _).only .tmb (by decide)
@[simp] theorem toIdle_gns (s : State) (p : PortId) : (State.toIdle s p).gns = s.gns := (toIdle_keep s p (Keep.refl s) rfl : Keep [.sys, .ports, .sol, .log, .mon] s _).only .gns (by decide)
@[simp] theorem toIdle_hie (s : State) (p : PortId) : (State.toIdle s p).hie = s.hie := (toIdle_keep s p (Keep.refl s) rfl : Keep [.sys, .ports, .sol, .log, .mon] s _).only .hie (by decide)
@[simp] theorem toIdle_cal (s : State) (p : PortId) : (State.toIdle s p).cal = s.cal := (toIdle_keep s p (Keep.refl s) rfl : Keep [.sys, .ports, .sol, .log, .mon] s _).only .cal (by decide)
@[simp] theorem toIdle_fan (s : State) (p : PortId) : (State.toIdle s p).fan = s.fan := (toIdle_keep s p (Keep.refl s) rfl : Keep [.sys, .ports, .sol, .log, .mon] s _).only .fan (by decide)
@[simp] theorem toIdle_eng (s : State) (p : PortId) : (State.toIdle s p).eng = s.eng := (toIdle_keep s p (Keep.refl s) rfl : Keep [.sys, .ports, .sol, .log, .mon] s _).only .eng (by decide)
@[simp] theorem toIdle_sct (s : State) (p : PortId) : (State.toIdle s p).sct = s.sct := (toIdle_keep s p (Keep.refl s) rfl : Keep [.sys, .ports, .sol, .log, .mon] s _).only .sct (by decide)
@[simp] theorem toIdle_can (s : State) (p : PortId) : (State.toIdle s p).can = s.can := (toIdle_keep s p (Keep.refl s) rfl : Keep [.sys, .ports, .sol, .log, .mon] s _).only .can (by decide)
@[simp] theorem toIdle_hl (s : State) (p : PortId) : (State.toIdle s p).hl = s.hl := (toIdle_keep s p (Keep.refl s) rfl : Keep [.sys, .ports, .sol, .log, .mon] s _).only .hl (by decide)
@[simp] theorem toIdle_apu (s : State) (p : PortId) : (State.toIdle s p).apu = s.apu := (toIdle_keep s p (Keep.refl s) rfl : Keep [.sys, .ports, .sol, .log, .mon] s _).only .apu (by decide)
@[simp] theorem toIdle_dma (s : State) (p : PortId) : (State.toIdle s p).dma = s.dma := (toIdle_keep s p (Keep.refl s) rfl : Keep [.sys, .ports, .sol, .log, .mon] s _).only .dma (by decide)
@[simp] theorem toIdle_seq (s : State) (p : PortId) : (State.toIdle s p).seq = s.seq := (toIdle_keep s p (Keep.refl s) rfl : Keep [.sys, .ports, .sol, .log, .mon] s _).only .seq (by decide)
@[simp] theorem toIdle_mem (s : State) (p : PortId) : (State.toIdle s p).mem = s.mem := (toIdle_keep s p (Keep.refl s) rfl : Keep [.sys, .ports, .sol, .log, .mon] s _).only .mem (by decide)
@[simp] theorem complete_ports (s : State) (src : Option Src) (st : Status) : (State.complete s src st).ports = s.ports := (complete_keep s src st (Keep.refl s) rfl : Keep [.sys, .hie, .mon] s _).only .ports (by decide)
@[simp] theorem complete_banks (s : State) (src : Option Src) (st : Status) : (State.complete s src st).banks = s.banks := (complete_keep s src st (Keep.refl s) rfl : Keep [.sys, .hie, .mon] s _).only .banks (by decide)
@[simp] theorem complete_sol (s : State) (src : Option Src) (st : Status) : (State.complete s src st).sol = s.sol := (complete_keep s src st (Keep.refl s) rfl : Keep [.sys, .hie, .mon] s _).only .sol (by decide)
@[simp] theorem complete_log (s : State) (src : Option Src) (st : Status) : (State.complete s src st).log = s.log := (complete_keep s src st (Keep.refl s) rfl : Keep [.sys, .hie, .mon] s _).only .log (by decide)
@[simp] theorem complete_rcp (s : State) (src : Option Src) (st : Status) : (State.complete s src st).rcp = s.rcp := (complete_keep s src st (Keep.refl s) rfl : Keep [.sys, .hie, .mon] s _).only .rcp (by decide)
@[simp] theorem complete_sec (s : State) (src : Option Src) (st : Status) : (State.complete s src st).sec = s.sec := (complete_keep s src st (Keep.refl s) rfl : Keep [.sys, .hie, .mon] s _).only .sec (by decide)
@[simp] theorem complete_pwr (s : State) (src : Option Src) (st : Status) : (State.complete s src st).pwr = s.pwr := (complete_keep s src st (Keep.refl s) rfl : Keep [.sys, .hie, .mon] s _).only .pwr (by decide)
@[simp] theorem complete_tmb (s : State) (src : Option Src) (st : Status) : (State.complete s src st).tmb = s.tmb := (complete_keep s src st (Keep.refl s) rfl : Keep [.sys, .hie, .mon] s _).only .tmb (by decide)
@[simp] theorem complete_gns (s : State) (src : Option Src) (st : Status) : (State.complete s src st).gns = s.gns := (complete_keep s src st (Keep.refl s) rfl : Keep [.sys, .hie, .mon] s _).only .gns (by decide)
@[simp] theorem complete_cal (s : State) (src : Option Src) (st : Status) : (State.complete s src st).cal = s.cal := (complete_keep s src st (Keep.refl s) rfl : Keep [.sys, .hie, .mon] s _).only .cal (by decide)
@[simp] theorem complete_fan (s : State) (src : Option Src) (st : Status) : (State.complete s src st).fan = s.fan := (complete_keep s src st (Keep.refl s) rfl : Keep [.sys, .hie, .mon] s _).only .fan (by decide)
@[simp] theorem complete_eng (s : State) (src : Option Src) (st : Status) : (State.complete s src st).eng = s.eng := (complete_keep s src st (Keep.refl s) rfl : Keep [.sys, .hie, .mon] s _).only .eng (by decide)
@[simp] theorem complete_sct (s : State) (src : Option Src) (st : Status) : (State.complete s src st).sct = s.sct := (complete_keep s src st (Keep.refl s) rfl : Keep [.sys, .hie, .mon] s _).only .sct (by decide)
@[simp] theorem complete_can (s : State) (src : Option Src) (st : Status) : (State.complete s src st).can = s.can := (complete_keep s src st (Keep.refl s) rfl : Keep [.sys, .hie, .mon] s _).only .can (by decide)
@[simp] theorem complete_hl (s : State) (src : Option Src) (st : Status) : (State.complete s src st).hl = s.hl := (complete_keep s src st (Keep.refl s) rfl : Keep [.sys, .hie, .mon] s _).only .hl (by decide)
@[simp] theorem complete_apu (s : State) (src : Option Src) (st : Status) : (State.complete s src st).apu = s.apu := (complete_keep s src st (Keep.refl s) rfl : Keep [.sys, .hie, .mon] s _).only .apu (by decide)
@[simp] theorem complete_dma (s : State) (src : Option Src) (st : Status) : (State.complete s src st).dma = s.dma := (complete_keep s src st (Keep.refl s) rfl : Keep [.sys, .hie, .mon] s _).only .dma (by decide)
@[simp] theorem complete_seq (s : State) (src : Option Src) (st : Status) : (State.complete s src st).seq = s.seq := (complete_keep s src st (Keep.refl s) rfl : Keep [.sys, .hie, .mon] s _).only .seq (by decide)
@[simp] theorem complete_mem (s : State) (src : Option Src) (st : Status) : (State.complete s src st).mem = s.mem := (complete_keep s src st (Keep.refl s) rfl : Keep [.sys, .hie, .mon] s _).only .mem (by decide)
@[simp] theorem dropPend_ports (s : State) (p : PortId) (st : Status) : (State.dropPend s p st).ports = s.ports := (dropPend_keep s p st (Keep.refl s) rfl : Keep [.sys, .sol, .hie, .mon] s _).only .ports (by decide)
@[simp] theorem dropPend_banks (s : State) (p : PortId) (st : Status) : (State.dropPend s p st).banks = s.banks := (dropPend_keep s p st (Keep.refl s) rfl : Keep [.sys, .sol, .hie, .mon] s _).only .banks (by decide)
@[simp] theorem dropPend_log (s : State) (p : PortId) (st : Status) : (State.dropPend s p st).log = s.log := (dropPend_keep s p st (Keep.refl s) rfl : Keep [.sys, .sol, .hie, .mon] s _).only .log (by decide)
@[simp] theorem dropPend_rcp (s : State) (p : PortId) (st : Status) : (State.dropPend s p st).rcp = s.rcp := (dropPend_keep s p st (Keep.refl s) rfl : Keep [.sys, .sol, .hie, .mon] s _).only .rcp (by decide)
@[simp] theorem dropPend_sec (s : State) (p : PortId) (st : Status) : (State.dropPend s p st).sec = s.sec := (dropPend_keep s p st (Keep.refl s) rfl : Keep [.sys, .sol, .hie, .mon] s _).only .sec (by decide)
@[simp] theorem dropPend_pwr (s : State) (p : PortId) (st : Status) : (State.dropPend s p st).pwr = s.pwr := (dropPend_keep s p st (Keep.refl s) rfl : Keep [.sys, .sol, .hie, .mon] s _).only .pwr (by decide)
@[simp] theorem dropPend_tmb (s : State) (p : PortId) (st : Status) : (State.dropPend s p st).tmb = s.tmb := (dropPend_keep s p st (Keep.refl s) rfl : Keep [.sys, .sol, .hie, .mon] s _).only .tmb (by decide)
@[simp] theorem dropPend_gns (s : State) (p : PortId) (st : Status) : (State.dropPend s p st).gns = s.gns := (dropPend_keep s p st (Keep.refl s) rfl : Keep [.sys, .sol, .hie, .mon] s _).only .gns (by decide)
@[simp] theorem dropPend_cal (s : State) (p : PortId) (st : Status) : (State.dropPend s p st).cal = s.cal := (dropPend_keep s p st (Keep.refl s) rfl : Keep [.sys, .sol, .hie, .mon] s _).only .cal (by decide)
@[simp] theorem dropPend_fan (s : State) (p : PortId) (st : Status) : (State.dropPend s p st).fan = s.fan := (dropPend_keep s p st (Keep.refl s) rfl : Keep [.sys, .sol, .hie, .mon] s _).only .fan (by decide)
@[simp] theorem dropPend_eng (s : State) (p : PortId) (st : Status) : (State.dropPend s p st).eng = s.eng := (dropPend_keep s p st (Keep.refl s) rfl : Keep [.sys, .sol, .hie, .mon] s _).only .eng (by decide)
@[simp] theorem dropPend_sct (s : State) (p : PortId) (st : Status) : (State.dropPend s p st).sct = s.sct := (dropPend_keep s p st (Keep.refl s) rfl : Keep [.sys, .sol, .hie, .mon] s _).only .sct (by decide)
@[simp] theorem dropPend_can (s : State) (p : PortId) (st : Status) : (State.dropPend s p st).can = s.can := (dropPend_keep s p st (Keep.refl s) rfl : Keep [.sys, .sol, .hie, .mon] s _).only .can (by decide)
@[simp] theorem dropPend_hl (s : State) (p : PortId) (st : Status) : (State.dropPend s p st).hl = s.hl := (dropPend_keep s p st (Keep.refl s) rfl : Keep [.sys, .sol, .hie, .mon] s _).only .hl (by decide)
@[simp] theorem dropPend_apu (s : State) (p : PortId) (st : Status) : (State.dropPend s p st).apu = s.apu := (dropPend_keep s p st (Keep.refl s) rfl : Keep [.sys, .sol, .hie, .mon] s _).only .apu (by decide)
@[simp] theorem dropPend_dma (s : State) (p : PortId) (st : Status) : (State.dropPend s p st).dma = s.dma := (dropPend_keep s p st (Keep.refl s) rfl : Keep [.sys, .sol, .hie, .mon] s _).only .dma (by decide)
@[simp] theorem dropPend_seq (s : State) (p : PortId) (st : Status) : (State.dropPend s p st).seq = s.seq := (dropPend_keep s p st (Keep.refl s) rfl : Keep [.sys, .sol, .hie, .mon] s _).only .seq (by decide)
@[simp] theorem dropPend_mem (s : State) (p : PortId) (st : Status) : (State.dropPend s p st).mem = s.mem := (dropPend_keep s p st (Keep.refl s) rfl : Keep [.sys, .sol, .hie, .mon] s _).only .mem (by decide)
@[simp] theorem endActive_ports (s : State) (p : PortId) (st : Status) : (State.endActive s p st).ports = s.ports := (endActive_keep s p st (Keep.refl s) rfl : Keep [.sys, .sol, .hie, .mon] s _).only .ports (by decide)
@[simp] theorem endActive_banks (s : State) (p : PortId) (st : Status) : (State.endActive s p st).banks = s.banks := (endActive_keep s p st (Keep.refl s) rfl : Keep [.sys, .sol, .hie, .mon] s _).only .banks (by decide)
@[simp] theorem endActive_log (s : State) (p : PortId) (st : Status) : (State.endActive s p st).log = s.log := (endActive_keep s p st (Keep.refl s) rfl : Keep [.sys, .sol, .hie, .mon] s _).only .log (by decide)
@[simp] theorem endActive_rcp (s : State) (p : PortId) (st : Status) : (State.endActive s p st).rcp = s.rcp := (endActive_keep s p st (Keep.refl s) rfl : Keep [.sys, .sol, .hie, .mon] s _).only .rcp (by decide)
@[simp] theorem endActive_sec (s : State) (p : PortId) (st : Status) : (State.endActive s p st).sec = s.sec := (endActive_keep s p st (Keep.refl s) rfl : Keep [.sys, .sol, .hie, .mon] s _).only .sec (by decide)
@[simp] theorem endActive_pwr (s : State) (p : PortId) (st : Status) : (State.endActive s p st).pwr = s.pwr := (endActive_keep s p st (Keep.refl s) rfl : Keep [.sys, .sol, .hie, .mon] s _).only .pwr (by decide)
@[simp] theorem endActive_tmb (s : State) (p : PortId) (st : Status) : (State.endActive s p st).tmb = s.tmb := (endActive_keep s p st (Keep.refl s) rfl : Keep [.sys, .sol, .hie, .mon] s _).only .tmb (by decide)
@[simp] theorem endActive_gns (s : State) (p : PortId) (st : Status) : (State.endActive s p st).gns = s.gns := (endActive_keep s p st (Keep.refl s) rfl : Keep [.sys, .sol, .hie, .mon] s _).only .gns (by decide)
@[simp] theorem endActive_cal (s : State) (p : PortId) (st : Status) : (State.endActive s p st).cal = s.cal := (endActive_keep s p st (Keep.refl s) rfl : Keep [.sys, .sol, .hie, .mon] s _).only .cal (by decide)
@[simp] theorem endActive_fan (s : State) (p : PortId) (st : Status) : (State.endActive s p st).fan = s.fan := (endActive_keep s p st (Keep.refl s) rfl : Keep [.sys, .sol, .hie, .mon] s _).only .fan (by decide)
@[simp] theorem endActive_eng (s : State) (p : PortId) (st : Status) : (State.endActive s p st).eng = s.eng := (endActive_keep s p st (Keep.refl s) rfl : Keep [.sys, .sol, .hie, .mon] s _).only .eng (by decide)
@[simp] theorem endActive_sct (s : State) (p : PortId) (st : Status) : (State.endActive s p st).sct = s.sct := (endActive_keep s p st (Keep.refl s) rfl : Keep [.sys, .sol, .hie, .mon] s _).only .sct (by decide)
@[simp] theorem endActive_can (s : State) (p : PortId) (st : Status) : (State.endActive s p st).can = s.can := (endActive_keep s p st (Keep.refl s) rfl : Keep [.sys, .sol, .hie, .mon] s _).only .can (by decide)
@[simp] theorem endActive_hl (s : State) (p : PortId) (st : Status) : (State.endActive s p st).hl = s.hl := (endActive_keep s p st (Keep.refl s) rfl : Keep [.sys, .sol, .hie, .mon] s _).only .hl (by decide)
@[simp] theorem endActive_apu (s : State) (p : PortId) (st : Status) : (State.endActive s p st).apu = s.apu := (endActive_keep s p st (Keep.refl s) rfl : Keep [.sys, .sol, .hie, .mon] s _).only .apu (by decide)
@[simp] theorem endActive_dma (s : State) (p : PortId) (st : Status) : (State.endActive s p st).dma = s.dma := (endActive_keep s p st (Keep.refl s) rfl : Keep [.sys, .sol, .hie, .mon] s _).only .dma (by decide)
@[simp] theorem endActive_seq (s : State) (p : PortId) (st : Status) : (State.endActive s p st).seq = s.seq := (endActive_keep s p st (Keep.refl s) rfl : Keep [.sys, .sol, .hie, .mon] s _).only .seq (by decide)
@[simp] theorem endActive_mem (s : State) (p : PortId) (st : Status) : (State.endActive s p st).mem = s.mem := (endActive_keep s p st (Keep.refl s) rfl : Keep [.sys, .sol, .hie, .mon] s _).only .mem (by decide)
@[simp] theorem endProfile_banks (s : State) (p : PortId) (st : Status) : (State.endProfile s p st).banks = s.banks := (endProfile_keep s p st (Keep.refl s) rfl : Keep [.sys, .ports, .sol, .log, .hie, .mon] s _).only .banks (by decide)
@[simp] theorem endProfile_rcp (s : State) (p : PortId) (st : Status) : (State.endProfile s p st).rcp = s.rcp := (endProfile_keep s p st (Keep.refl s) rfl : Keep [.sys, .ports, .sol, .log, .hie, .mon] s _).only .rcp (by decide)
@[simp] theorem endProfile_sec (s : State) (p : PortId) (st : Status) : (State.endProfile s p st).sec = s.sec := (endProfile_keep s p st (Keep.refl s) rfl : Keep [.sys, .ports, .sol, .log, .hie, .mon] s _).only .sec (by decide)
@[simp] theorem endProfile_pwr (s : State) (p : PortId) (st : Status) : (State.endProfile s p st).pwr = s.pwr := (endProfile_keep s p st (Keep.refl s) rfl : Keep [.sys, .ports, .sol, .log, .hie, .mon] s _).only .pwr (by decide)
@[simp] theorem endProfile_tmb (s : State) (p : PortId) (st : Status) : (State.endProfile s p st).tmb = s.tmb := (endProfile_keep s p st (Keep.refl s) rfl : Keep [.sys, .ports, .sol, .log, .hie, .mon] s _).only .tmb (by decide)
@[simp] theorem endProfile_gns (s : State) (p : PortId) (st : Status) : (State.endProfile s p st).gns = s.gns := (endProfile_keep s p st (Keep.refl s) rfl : Keep [.sys, .ports, .sol, .log, .hie, .mon] s _).only .gns (by decide)
@[simp] theorem endProfile_cal (s : State) (p : PortId) (st : Status) : (State.endProfile s p st).cal = s.cal := (endProfile_keep s p st (Keep.refl s) rfl : Keep [.sys, .ports, .sol, .log, .hie, .mon] s _).only .cal (by decide)
@[simp] theorem endProfile_fan (s : State) (p : PortId) (st : Status) : (State.endProfile s p st).fan = s.fan := (endProfile_keep s p st (Keep.refl s) rfl : Keep [.sys, .ports, .sol, .log, .hie, .mon] s _).only .fan (by decide)
@[simp] theorem endProfile_eng (s : State) (p : PortId) (st : Status) : (State.endProfile s p st).eng = s.eng := (endProfile_keep s p st (Keep.refl s) rfl : Keep [.sys, .ports, .sol, .log, .hie, .mon] s _).only .eng (by decide)
@[simp] theorem endProfile_sct (s : State) (p : PortId) (st : Status) : (State.endProfile s p st).sct = s.sct := (endProfile_keep s p st (Keep.refl s) rfl : Keep [.sys, .ports, .sol, .log, .hie, .mon] s _).only .sct (by decide)
@[simp] theorem endProfile_can (s : State) (p : PortId) (st : Status) : (State.endProfile s p st).can = s.can := (endProfile_keep s p st (Keep.refl s) rfl : Keep [.sys, .ports, .sol, .log, .hie, .mon] s _).only .can (by decide)
@[simp] theorem endProfile_hl (s : State) (p : PortId) (st : Status) : (State.endProfile s p st).hl = s.hl := (endProfile_keep s p st (Keep.refl s) rfl : Keep [.sys, .ports, .sol, .log, .hie, .mon] s _).only .hl (by decide)
@[simp] theorem endProfile_apu (s : State) (p : PortId) (st : Status) : (State.endProfile s p st).apu = s.apu := (endProfile_keep s p st (Keep.refl s) rfl : Keep [.sys, .ports, .sol, .log, .hie, .mon] s _).only .apu (by decide)
@[simp] theorem endProfile_dma (s : State) (p : PortId) (st : Status) : (State.endProfile s p st).dma = s.dma := (endProfile_keep s p st (Keep.refl s) rfl : Keep [.sys, .ports, .sol, .log, .hie, .mon] s _).only .dma (by decide)
@[simp] theorem endProfile_seq (s : State) (p : PortId) (st : Status) : (State.endProfile s p st).seq = s.seq := (endProfile_keep s p st (Keep.refl s) rfl : Keep [.sys, .ports, .sol, .log, .hie, .mon] s _).only .seq (by decide)
@[simp] theorem endProfile_mem (s : State) (p : PortId) (st : Status) : (State.endProfile s p st).mem = s.mem := (endProfile_keep s p st (Keep.refl s) rfl : Keep [.sys, .ports, .sol, .log, .hie, .mon] s _).only .mem (by decide)
@[simp] theorem freshHit_banks (s : State) (p : PortId) (src : Src) (dur : Nat) (keep : Option (Option Nat)) : (State.freshHit s p src dur keep).1.banks = s.banks := (freshHit_keep s p src dur keep (Keep.refl s) rfl : Keep [.sys, .ports, .sol, .log, .hie, .mon] s _).only .banks (by decide)
@[simp] theorem freshHit_rcp (s : State) (p : PortId) (src : Src) (dur : Nat) (keep : Option (Option Nat)) : (State.freshHit s p src dur keep).1.rcp = s.rcp := (freshHit_keep s p src dur keep (Keep.refl s) rfl : Keep [.sys, .ports, .sol, .log, .hie, .mon] s _).only .rcp (by decide)
@[simp] theorem freshHit_sec (s : State) (p : PortId) (src : Src) (dur : Nat) (keep : Option (Option Nat)) : (State.freshHit s p src dur keep).1.sec = s.sec := (freshHit_keep s p src dur keep (Keep.refl s) rfl : Keep [.sys, .ports, .sol, .log, .hie, .mon] s _).only .sec (by decide)
@[simp] theorem freshHit_pwr (s : State) (p : PortId) (src : Src) (dur : Nat) (keep : Option (Option Nat)) : (State.freshHit s p src dur keep).1.pwr = s.pwr := (freshHit_keep s p src dur keep (Keep.refl s) rfl : Keep [.sys, .ports, .sol, .log, .hie, .mon] s _).only .pwr (by decide)
@[simp] theorem freshHit_tmb (s : State) (p : PortId) (src : Src) (dur : Nat) (keep : Option (Option Nat)) : (State.freshHit s p src dur keep).1.tmb = s.tmb := (freshHit_keep s p src dur keep (Keep.refl s) rfl : Keep [.sys, .ports, .sol, .log, .hie, .mon] s _).only .tmb (by decide)
@[simp] theorem freshHit_gns (s : State) (p : PortId) (src : Src) (dur : Nat) (keep : Option (Option Nat)) : (State.freshHit s p src dur keep).1.gns = s.gns := (freshHit_keep s p src dur keep (Keep.refl s) rfl : Keep [.sys, .ports, .sol, .log, .hie, .mon] s _).only .gns (by decide)
@[simp] theorem freshHit_cal (s : State) (p : PortId) (src : Src) (dur : Nat) (keep : Option (Option Nat)) : (State.freshHit s p src dur keep).1.cal = s.cal := (freshHit_keep s p src dur keep (Keep.refl s) rfl : Keep [.sys, .ports, .sol, .log, .hie, .mon] s _).only .cal (by decide)
@[simp] theorem freshHit_fan (s : State) (p : PortId) (src : Src) (dur : Nat) (keep : Option (Option Nat)) : (State.freshHit s p src dur keep).1.fan = s.fan := (freshHit_keep s p src dur keep (Keep.refl s) rfl : Keep [.sys, .ports, .sol, .log, .hie, .mon] s _).only .fan (by decide)
@[simp] theorem freshHit_eng (s : State) (p : PortId) (src : Src) (dur : Nat) (keep : Option (Option Nat)) : (State.freshHit s p src dur keep).1.eng = s.eng := (freshHit_keep s p src dur keep (Keep.refl s) rfl : Keep [.sys, .ports, .sol, .log, .hie, .mon] s _).only .eng (by decide)
@[simp] theorem freshHit_sct (s : State) (p : PortId) (src : Src) (dur : Nat) (keep : Option (Option Nat)) : (State.freshHit s p src dur keep).1.sct = s.sct := (freshHit_keep s p src dur keep (Keep.refl s) rfl : Keep [.sys, .ports, .sol, .log, .hie, .mon] s _).only .sct (by decide)
@[simp] theorem freshHit_can (s : State) (p : PortId) (src : Src) (dur : Nat) (keep : Option (Option Nat)) : (State.freshHit s p src dur keep).1.can = s.can := (freshHit_keep s p src dur keep (Keep.refl s) rfl : Keep [.sys, .ports, .sol, .log, .hie, .mon] s _).only .can (by decide)
@[simp] theorem freshHit_hl (s : State) (p : PortId) (src : Src) (dur : Nat) (keep : Option (Option Nat)) : (State.freshHit s p src dur keep).1.hl = s.hl := (freshHit_keep s p src dur keep (Keep.refl s) rfl : Keep [.sys, .ports, .sol, .log, .hie, .mon] s _).only .hl (by decide)
@[simp] theorem freshHit_apu (s : State) (p : PortId) (src : Src) (dur : Nat) (keep : Option (Option Nat)) : (State.freshHit s p src dur keep).1.apu = s.apu := (freshHit_keep s p src dur keep (Keep.refl s) rfl : Keep [.sys, .ports, .sol, .log, .hie, .mon] s _).only .apu (by decide)
@[simp] theorem freshHit_dma (s : State) (p : PortId) (src : Src) (dur : Nat) (keep : Option (Option Nat)) : (State.freshHit s p src dur keep).1.dma = s.dma := (freshHit_keep s p src dur keep (Keep.refl s) rfl : Keep [.sys, .ports, .sol, .log, .hie, .mon] s _).only .dma (by decide)
@[simp] theorem freshHit_seq (s : State) (p : PortId) (src : Src) (dur : Nat) (keep : Option (Option Nat)) : (State.freshHit s p src dur keep).1.seq = s.seq := (freshHit_keep s p src dur keep (Keep.refl s) rfl : Keep [.sys, .ports, .sol, .log, .hie, .mon] s _).only .seq (by decide)
@[simp] theorem freshHit_mem (s : State) (p : PortId) (src : Src) (dur : Nat) (keep : Option (Option Nat)) : (State.freshHit s p src dur keep).1.mem = s.mem := (freshHit_keep s p src dur keep (Keep.refl s) rfl : Keep [.sys, .ports, .sol, .log, .hie, .mon] s _).only .mem (by decide)
@[simp] theorem solOn_banks (s : State) (p : PortId) (src : Src) (dur : Nat) (keep : Option (Option Nat)) : (State.solOn s p src dur keep).1.banks = s.banks := (solOn_keep s p src dur keep (Keep.refl s) rfl : Keep [.sys, .ports, .sol, .log, .hie, .mon] s _).only .banks (by decide)
@[simp] theorem solOn_rcp (s : State) (p : PortId) (src : Src) (dur : Nat) (keep : Option (Option Nat)) : (State.solOn s p src dur keep).1.rcp = s.rcp := (solOn_keep s p src dur keep (Keep.refl s) rfl : Keep [.sys, .ports, .sol, .log, .hie, .mon] s _).only .rcp (by decide)
@[simp] theorem solOn_sec (s : State) (p : PortId) (src : Src) (dur : Nat) (keep : Option (Option Nat)) : (State.solOn s p src dur keep).1.sec = s.sec := (solOn_keep s p src dur keep (Keep.refl s) rfl : Keep [.sys, .ports, .sol, .log, .hie, .mon] s _).only .sec (by decide)
@[simp] theorem solOn_pwr (s : State) (p : PortId) (src : Src) (dur : Nat) (keep : Option (Option Nat)) : (State.solOn s p src dur keep).1.pwr = s.pwr := (solOn_keep s p src dur keep (Keep.refl s) rfl : Keep [.sys, .ports, .sol, .log, .hie, .mon] s _).only .pwr (by decide)
@[simp] theorem solOn_tmb (s : State) (p : PortId) (src : Src) (dur : Nat) (keep : Option (Option Nat)) : (State.solOn s p src dur keep).1.tmb = s.tmb := (solOn_keep s p src dur keep (Keep.refl s) rfl : Keep [.sys, .ports, .sol, .log, .hie, .mon] s _).only .tmb (by decide)
@[simp] theorem solOn_gns (s : State) (p : PortId) (src : Src) (dur : Nat) (keep : Option (Option Nat)) : (State.solOn s p src dur keep).1.gns = s.gns := (solOn_keep s p src dur keep (Keep.refl s) rfl : Keep [.sys, .ports, .sol, .log, .hie, .mon] s _).only .gns (by decide)
@[simp] theorem solOn_cal (s : State) (p : PortId) (src : Src) (dur : Nat) (keep : Option (Option Nat)) : (State.solOn s p src dur keep).1.cal = s.cal := (solOn_keep s p src dur keep (Keep.refl s) rfl : Keep [.sys, .ports, .sol, .log, .hie, .mon] s _).only .cal (by decide)
@[simp] theorem solOn_fan (s : State) (p : PortId) (src : Src) (dur : Nat) (keep : Option (Option Nat)) : (State.solOn s p src dur keep).1.fan = s.fan := (solOn_keep s p src dur keep (Keep.refl s) rfl : Keep [.sys, .ports, .sol, .log, .hie, .mon] s _).only .fan (by decide)
@[simp] theorem solOn_eng (s : State) (p : PortId) (src : Src) (dur : Nat) (keep : Option (Option Nat)) : (State.solOn s p src dur keep).1.eng = s.eng := (solOn_keep s p src dur keep (Keep.refl s) rfl : Keep [.sys, .ports, .sol, .log, .hie, .mon] s _).only .eng (by decide)
@[simp] theorem solOn_sct (s : State) (p : PortId) (src : Src) (dur : Nat) (keep : Option (Option Nat)) : (State.solOn s p src dur keep).1.sct = s.sct := (solOn_keep s p src dur keep (Keep.refl s) rfl : Keep [.sys, .ports, .sol, .log, .hie, .mon] s _).only .sct (by decide)
@[simp] theorem solOn_can (s : State) (p : PortId) (src : Src) (dur : Nat) (keep : Option (Option Nat)) : (State.solOn s p src dur keep).1.can = s.can := (solOn_keep s p src dur keep (Keep.refl s) rfl : Keep [.sys, .ports, .sol, .log, .hie, .mon] s _).only .can (by decide)
@[simp] theorem solOn_hl (s : State) (p : PortId) (src : Src) (dur : Nat) (keep : Option (Option Nat)) : (State.solOn s p src dur keep).1.hl = s.hl := (solOn_keep s p src dur keep (Keep.refl s) rfl : Keep [.sys, .ports, .sol, .log, .hie, .mon] s _).only .hl (by decide)
@[simp] theorem solOn_apu (s : State) (p : PortId) (src : Src) (dur : Nat) (keep : Option (Option Nat)) : (State.solOn s p src dur keep).1.apu = s.apu := (solOn_keep s p src dur keep (Keep.refl s) rfl : Keep [.sys, .ports, .sol, .log, .hie, .mon] s _).only .apu (by decide)
@[simp] theorem solOn_dma (s : State) (p : PortId) (src : Src) (dur : Nat) (keep : Option (Option Nat)) : (State.solOn s p src dur keep).1.dma = s.dma := (solOn_keep s p src dur keep (Keep.refl s) rfl : Keep [.sys, .ports, .sol, .log, .hie, .mon] s _).only .dma (by decide)
@[simp] theorem solOn_seq (s : State) (p : PortId) (src : Src) (dur : Nat) (keep : Option (Option Nat)) : (State.solOn s p src dur keep).1.seq = s.seq := (solOn_keep s p src dur keep (Keep.refl s) rfl : Keep [.sys, .ports, .sol, .log, .hie, .mon] s _).only .seq (by decide)
@[simp] theorem solOn_mem (s : State) (p : PortId) (src : Src) (dur : Nat) (keep : Option (Option Nat)) : (State.solOn s p src dur keep).1.mem = s.mem := (solOn_keep s p src dur keep (Keep.refl s) rfl : Keep [.sys, .ports, .sol, .log, .hie, .mon] s _).only .mem (by decide)
@[simp] theorem present_sys (s : State) (src : Nat) (v : Int) : (State.present s src v).sys = s.sys := (present_keep s src v (Keep.refl s) rfl : Keep [.mon] s _).only .sys (by decide)
@[simp] theorem present_ports (s : State) (src : Nat) (v : Int) : (State.present s src v).ports = s.ports := (present_keep s src v (Keep.refl s) rfl : Keep [.mon] s _).only .ports (by decide)
@[simp] theorem present_banks (s : State) (src : Nat) (v : Int) : (State.present s src v).banks = s.banks := (present_keep s src v (Keep.refl s) rfl : Keep [.mon] s _).only .banks (by decide)
@[simp] theorem present_sol (s : State) (src : Nat) (v : Int) : (State.present s src v).sol = s.sol := (present_keep s src v (Keep.refl s) rfl : Keep [.mon] s _).only .sol (by decide)
@[simp] theorem present_log (s : State) (src : Nat) (v : Int) : (State.present s src v).log = s.log := (present_keep s src v (Keep.refl s) rfl : Keep [.mon] s _).only .log (by decide)
@[simp] theorem present_rcp (s : State) (src : Nat) (v : Int) : (State.present s src v).rcp = s.rcp := (present_keep s src v (Keep.refl s) rfl : Keep [.mon] s _).only .rcp (by decide)
@[simp] theorem present_sec (s : State) (src : Nat) (v : Int) : (State.present s src v).sec = s.sec := (present_keep s src v (Keep.refl s) rfl : Keep [.mon] s _).only .sec (by decide)
@[simp] theorem present_pwr (s : State) (src : Nat) (v : Int) : (State.present s src v).pwr = s.pwr := (present_keep s src v (Keep.refl s) rfl : Keep [.mon] s _).only .pwr (by decide)
@[simp] theorem present_tmb (s : State) (src : Nat) (v : Int) : (State.present s src v).tmb = s.tmb := (present_keep s src v (Keep.refl s) rfl : Keep [.mon] s _).only .tmb (by decide)
@[simp] theorem present_gns (s : State) (src : Nat) (v : Int) : (State.present s src v).gns = s.gns := (present_keep s src v (Keep.refl s) rfl : Keep [.mon] s _).only .gns (by decide)
@[simp] theorem present_hie (s : State) (src : Nat) (v : Int) : (State.present s src v).hie = s.hie := (present_keep s src v (Keep.refl s) rfl : Keep [.mon] s _).only .hie (by decide)
@[simp] theorem present_cal (s : State) (src : Nat) (v : Int) : (State.present s src v).cal = s.cal := (present_keep s src v (Keep.refl s) rfl : Keep [.mon] s _).only .cal (by decide)
@[simp] theorem present_fan (s : State) (src : Nat) (v : Int) : (State.present s src v).fan = s.fan := (present_keep s src v (Keep.refl s) rfl : Keep [.mon] s _).only .fan (by decide)
@[simp] theorem present_eng (s : State) (src : Nat) (v : Int) : (State.present s src v).eng = s.eng := (present_keep s src v (Keep.refl s) rfl : Keep [.mon] s _).only .eng (by decide)
@[simp] theorem present_sct (s : State) (src : Nat) (v : Int) : (State.present s src v).sct = s.sct := (present_keep s src v (Keep.refl s) rfl : Keep [.mon] s _).only .sct (by decide)
@[simp] theorem present_can (s : State) (src : Nat) (v : Int) : (State.present s src v).can = s.can := (present_keep s src v (Keep.refl s) rfl : Keep [.mon] s _).only .can (by decide)
@[simp] theorem present_hl (s : State) (src : Nat) (v : Int) : (State.present s src v).hl = s.hl := (present_keep s src v (Keep.refl s) rfl : Keep [.mon] s _).only .hl (by decide)
@[simp] theorem present_apu (s : State) (src : Nat) (v : Int) : (State.present s src v).apu = s.apu := (present_keep s src v (Keep.refl s) rfl : Keep [.mon] s _).only .apu (by decide)
@[simp] theorem present_dma (s : State) (src : Nat) (v : Int) : (State.present s src v).dma = s.dma := (present_keep s src v (Keep.refl s) rfl : Keep [.mon] s _).only .dma (by decide)
@[simp] theorem present_seq (s : State) (src : Nat) (v : Int) : (State.present s src v).seq = s.seq := (present_keep s src v (Keep.refl s) rfl : Keep [.mon] s _).only .seq (by decide)
@[simp] theorem present_mem (s : State) (src : Nat) (v : Int) : (State.present s src v).mem = s.mem := (present_keep s src v (Keep.refl s) rfl : Keep [.mon] s _).only .mem (by decide)
@[simp] theorem presentOn_banks (s : State) (p : PortId) (src : Src) (dur : Nat) : (State.presentOn s p src dur).1.banks = s.banks := (presentOn_keep s p src dur (Keep.refl s) rfl : Keep [.sys, .ports, .sol, .log, .hie, .mon] s _).only .banks (by decide)
@[simp] theorem presentOn_rcp (s : State) (p : PortId) (src : Src) (dur : Nat) : (State.presentOn s p src dur).1.rcp = s.rcp := (presentOn_keep s p src dur (Keep.refl s) rfl : Keep [.sys, .ports, .sol, .log, .hie, .mon] s _).only .rcp (by decide)
@[simp] theorem presentOn_sec (s : State) (p : PortId) (src : Src) (dur : Nat) : (State.presentOn s p src dur).1.sec = s.sec := (presentOn_keep s p src dur (Keep.refl s) rfl : Keep [.sys, .ports, .sol, .log, .hie, .mon] s _).only .sec (by decide)
@[simp] theorem presentOn_pwr (s : State) (p : PortId) (src : Src) (dur : Nat) : (State.presentOn s p src dur).1.pwr = s.pwr := (presentOn_keep s p src dur (Keep.refl s) rfl : Keep [.sys, .ports, .sol, .log, .hie, .mon] s _).only .pwr (by decide)
@[simp] theorem presentOn_tmb (s : State) (p : PortId) (src : Src) (dur : Nat) : (State.presentOn s p src dur).1.tmb = s.tmb := (presentOn_keep s p src dur (Keep.refl s) rfl : Keep [.sys, .ports, .sol, .log, .hie, .mon] s _).only .tmb (by decide)
@[simp] theorem presentOn_gns (s : State) (p : PortId) (src : Src) (dur : Nat) : (State.presentOn s p src dur).1.gns = s.gns := (presentOn_keep s p src dur (Keep.refl s) rfl : Keep [.sys, .ports, .sol, .log, .hie, .mon] s _).only .gns (by decide)
@[simp] theorem presentOn_cal (s : State) (p : PortId) (src : Src) (dur : Nat) : (State.presentOn s p src dur).1.cal = s.cal := (presentOn_keep s p src dur (Keep.refl s) rfl : Keep [.sys, .ports, .sol, .log, .hie, .mon] s _).only .cal (by decide)
@[simp] theorem presentOn_fan (s : State) (p : PortId) (src : Src) (dur : Nat) : (State.presentOn s p src dur).1.fan = s.fan := (presentOn_keep s p src dur (Keep.refl s) rfl : Keep [.sys, .ports, .sol, .log, .hie, .mon] s _).only .fan (by decide)
@[simp] theorem presentOn_eng (s : State) (p : PortId) (src : Src) (dur : Nat) : (State.presentOn s p src dur).1.eng = s.eng := (presentOn_keep s p src dur (Keep.refl s) rfl : Keep [.sys, .ports, .sol, .log, .hie, .mon] s _).only .eng (by decide)
@[simp] theorem presentOn_sct (s : State) (p : PortId) (src : Src) (dur : Nat) : (State.presentOn s p src dur).1.sct = s.sct := (presentOn_keep s p src dur (Keep.refl s) rfl : Keep [.sys, .ports, .sol, .log, .hie, .mon] s _).only .sct (by decide)
@[simp] theorem presentOn_can (s : State) (p : PortId) (src : Src) (dur : Nat) : (State.presentOn s p src dur).1.can = s.can := (presentOn_keep s p src dur (Keep.refl s) rfl : Keep [.sys, .ports, .sol, .log, .hie, .mon] s _).only .can (by decide)
@[simp] theorem presentOn_hl (s : State) (p : PortId) (src : Src) (dur : Nat) : (State.presentOn s p src dur).1.hl = s.hl := (presentOn_keep s p src dur (Keep.refl s) rfl : Keep [.sys, .ports, .sol, .log, .hie, .mon] s _).only .hl (by decide)
@[simp] theorem presentOn_apu (s : State) (p : PortId) (src : Src) (dur : Nat) : (State.presentOn s p src dur).1.apu = s.apu := (presentOn_keep s p src dur (Keep.refl s) rfl : Keep [.sys, .ports, .sol, .log, .hie, .mon] s _).only .apu (by decide)
@[simp] theorem presentOn_dma (s : State) (p : PortId) (src : Src) (dur : Nat) : (State.presentOn s p src dur).1.dma = s.dma := (presentOn_keep s p src dur (Keep.refl s) rfl : Keep [.sys, .ports, .sol, .log, .hie, .mon] s _).only .dma (by decide)
@[simp] theorem presentOn_seq (s : State) (p : PortId) (src : Src) (dur : Nat) : (State.presentOn s p src dur).1.seq = s.seq := (presentOn_keep s p src dur (Keep.refl s) rfl : Keep [.sys, .ports, .sol, .log, .hie, .mon] s _).only .seq (by decide)
@[simp] theorem presentOn_mem (s : State) (p : PortId) (src : Src) (dur : Nat) : (State.presentOn s p src dur).1.mem = s.mem := (presentOn_keep s p src dur (Keep.refl s) rfl : Keep [.sys, .ports, .sol, .log, .hie, .mon] s _).only .mem (by decide)
@[simp] theorem presentOff_banks (s : State) (p : PortId) (src : Src) : (State.presentOff s p src).1.banks = s.banks := (presentOff_keep s p src (Keep.refl s) rfl : Keep [.sys, .ports, .sol, .hie, .mon] s _).only .banks (by decide)
@[simp] theorem presentOff_log (s : State) (p : PortId) (src : Src) : (State.presentOff s p src).1.log = s.log := (presentOff_keep s p src (Keep.refl s) rfl : Keep [.sys, .ports, .sol, .hie, .mon] s _).only .log (by decide)
@[simp] theorem presentOff_rcp (s : State) (p : PortId) (src : Src) : (State.presentOff s p src).1.rcp = s.rcp := (presentOff_keep s p src (Keep.refl s) rfl : Keep [.sys, .ports, .sol, .hie, .mon] s _).only .rcp (by decide)
@[simp] theorem presentOff_sec (s : State) (p : PortId) (src : Src) : (State.presentOff s p src).1.sec = s.sec := (presentOff_keep s p src (Keep.refl s) rfl : Keep [.sys, .ports, .sol, .hie, .mon] s _).only .sec (by decide)
@[simp] theorem presentOff_pwr (s : State) (p : PortId) (src : Src) : (State.presentOff s p src).1.pwr = s.pwr := (presentOff_keep s p src (Keep.refl s) rfl : Keep [.sys, .ports, .sol, .hie, .mon] s _).only .pwr (by decide)
@[simp] theorem presentOff_tmb (s : State) (p : PortId) (src : Src) : (State.presentOff s p src).1.tmb = s.tmb := (presentOff_keep s p src (Keep.refl s) rfl : Keep [.sys, .ports, .sol, .hie, .mon] s _).only .tmb (by decide)
@[simp] theorem presentOff_gns (s : State) (p : PortId) (src : Src) : (State.presentOff s p src).1.gns = s.gns := (presentOff_keep s p src (Keep.refl s) rfl : Keep [.sys, .ports, .sol, .hie, .mon] s _).only .gns (by decide)
@[simp] theorem presentOff_cal (s : State) (p : PortId) (src : Src) : (State.presentOff s p src).1.cal = s.cal := (presentOff_keep s p src (Keep.refl s) rfl : Keep [.sys, .ports, .sol, .hie, .mon] s _).only .cal (by decide)
@[simp] theorem presentOff_fan (s : State) (p : PortId) (src : Src) : (State.presentOff s p src).1.fan = s.fan := (presentOff_keep s p src (Keep.refl s) rfl : Keep [.sys, .ports, .sol, .hie, .mon] s _).only .fan (by decide)
@[simp] theorem presentOff_eng (s : State) (p : PortId) (src : Src) : (State.presentOff s p src).1.eng = s.eng := (presentOff_keep s p src (Keep.refl s) rfl : Keep [.sys, .ports, .sol, .hie, .mon] s _).only .eng (by decide)
@[simp] theorem presentOff_sct (s : State) (p : PortId) (src : Src) : (State.presentOff s p src).1.sct = s.sct := (presentOff_keep s p src (Keep.refl s) rfl : Keep [.sys, .ports, .sol, .hie, .mon] s _).only .sct (by decide)
@[simp] theorem presentOff_can (s : State) (p : PortId) (src : Src) : (State.presentOff s p src).1.can = s.can := (presentOff_keep s p src (Keep.refl s) rfl : Keep [.sys, .ports, .sol, .hie, .mon] s _).only .can (by decide)
@[simp] theorem presentOff_hl (s : State) (p : PortId) (src : Src) : (State.presentOff s p src).1.hl = s.hl := (presentOff_keep s p src (Keep.refl s) rfl : Keep [.sys, .ports, .sol, .hie, .mon] s _).only .hl (by decide)
@[simp] theorem presentOff_apu (s : State) (p : PortId) (src : Src) : (State.presentOff s p src).1.apu = s.apu := (presentOff_keep s p src (Keep.refl s) rfl : Keep [.sys, .ports, .sol, .hie, .mon] s _).only .apu (by decide)
@[simp] theorem presentOff_dma (s : State) (p : PortId) (src : Src) : (State.presentOff s p src).1.dma = s.dma := (presentOff_keep s p src (Keep.refl s) rfl : Keep [.sys, .ports, .sol, .hie, .mon] s _).only .dma (by decide)
@[simp] theorem presentOff_seq (s : State) (p : PortId) (src : Src) : (State.presentOff s p src).1.seq = s.seq := (presentOff_keep s p src (Keep.refl s) rfl : Keep [.sys, .ports, .sol, .hie, .mon] s _).only .seq (by decide)
@[simp] theorem presentOff_mem (s : State) (p : PortId) (src : Src) : (State.presentOff s p src).1.mem = s.mem := (presentOff_keep s p src (Keep.refl s) rfl : Keep [.sys, .ports, .sol, .hie, .mon] s _).only .mem (by decide)
@[simp] theorem sense_sys (s : State) (p : PortId) (m : Sense) : (State.sense s p m).sys = s.sys := (sense_keep s p m (Keep.refl s) rfl : Keep [.ports, .mon] s _).only .sys (by decide)
@[simp] theorem sense_banks (s : State) (p : PortId) (m : Sense) : (State.sense s p m).banks = s.banks := (sense_keep s p m (Keep.refl s) rfl : Keep [.ports, .mon] s _).only .banks (by decide)
@[simp] theorem sense_sol (s : State) (p : PortId) (m : Sense) : (State.sense s p m).sol = s.sol := (sense_keep s p m (Keep.refl s) rfl : Keep [.ports, .mon] s _).only .sol (by decide)
@[simp] theorem sense_log (s : State) (p : PortId) (m : Sense) : (State.sense s p m).log = s.log := (sense_keep s p m (Keep.refl s) rfl : Keep [.ports, .mon] s _).only .log (by decide)
@[simp] theorem sense_rcp (s : State) (p : PortId) (m : Sense) : (State.sense s p m).rcp = s.rcp := (sense_keep s p m (Keep.refl s) rfl : Keep [.ports, .mon] s _).only .rcp (by decide)
@[simp] theorem sense_sec (s : State) (p : PortId) (m : Sense) : (State.sense s p m).sec = s.sec := (sense_keep s p m (Keep.refl s) rfl : Keep [.ports, .mon] s _).only .sec (by decide)
@[simp] theorem sense_pwr (s : State) (p : PortId) (m : Sense) : (State.sense s p m).pwr = s.pwr := (sense_keep s p m (Keep.refl s) rfl : Keep [.ports, .mon] s _).only .pwr (by decide)
@[simp] theorem sense_tmb (s : State) (p : PortId) (m : Sense) : (State.sense s p m).tmb = s.tmb := (sense_keep s p m (Keep.refl s) rfl : Keep [.ports, .mon] s _).only .tmb (by decide)
@[simp] theorem sense_gns (s : State) (p : PortId) (m : Sense) : (State.sense s p m).gns = s.gns := (sense_keep s p m (Keep.refl s) rfl : Keep [.ports, .mon] s _).only .gns (by decide)
@[simp] theorem sense_hie (s : State) (p : PortId) (m : Sense) : (State.sense s p m).hie = s.hie := (sense_keep s p m (Keep.refl s) rfl : Keep [.ports, .mon] s _).only .hie (by decide)
@[simp] theorem sense_cal (s : State) (p : PortId) (m : Sense) : (State.sense s p m).cal = s.cal := (sense_keep s p m (Keep.refl s) rfl : Keep [.ports, .mon] s _).only .cal (by decide)
@[simp] theorem sense_fan (s : State) (p : PortId) (m : Sense) : (State.sense s p m).fan = s.fan := (sense_keep s p m (Keep.refl s) rfl : Keep [.ports, .mon] s _).only .fan (by decide)
@[simp] theorem sense_eng (s : State) (p : PortId) (m : Sense) : (State.sense s p m).eng = s.eng := (sense_keep s p m (Keep.refl s) rfl : Keep [.ports, .mon] s _).only .eng (by decide)
@[simp] theorem sense_sct (s : State) (p : PortId) (m : Sense) : (State.sense s p m).sct = s.sct := (sense_keep s p m (Keep.refl s) rfl : Keep [.ports, .mon] s _).only .sct (by decide)
@[simp] theorem sense_can (s : State) (p : PortId) (m : Sense) : (State.sense s p m).can = s.can := (sense_keep s p m (Keep.refl s) rfl : Keep [.ports, .mon] s _).only .can (by decide)
@[simp] theorem sense_hl (s : State) (p : PortId) (m : Sense) : (State.sense s p m).hl = s.hl := (sense_keep s p m (Keep.refl s) rfl : Keep [.ports, .mon] s _).only .hl (by decide)
@[simp] theorem sense_apu (s : State) (p : PortId) (m : Sense) : (State.sense s p m).apu = s.apu := (sense_keep s p m (Keep.refl s) rfl : Keep [.ports, .mon] s _).only .apu (by decide)
@[simp] theorem sense_dma (s : State) (p : PortId) (m : Sense) : (State.sense s p m).dma = s.dma := (sense_keep s p m (Keep.refl s) rfl : Keep [.ports, .mon] s _).only .dma (by decide)
@[simp] theorem sense_seq (s : State) (p : PortId) (m : Sense) : (State.sense s p m).seq = s.seq := (sense_keep s p m (Keep.refl s) rfl : Keep [.ports, .mon] s _).only .seq (by decide)
@[simp] theorem sense_mem (s : State) (p : PortId) (m : Sense) : (State.sense s p m).mem = s.mem := (sense_keep s p m (Keep.refl s) rfl : Keep [.ports, .mon] s _).only .mem (by decide)
@[simp] theorem faultStop_banks (s : State) (p : PortId) : (State.faultStop s p).banks = s.banks := (faultStop_keep s p (Keep.refl s) rfl : Keep [.sys, .ports, .sol, .log, .hie, .mon] s _).only .banks (by decide)
@[simp] theorem faultStop_rcp (s : State) (p : PortId) : (State.faultStop s p).rcp = s.rcp := (faultStop_keep s p (Keep.refl s) rfl : Keep [.sys, .ports, .sol, .log, .hie, .mon] s _).only .rcp (by decide)
@[simp] theorem faultStop_sec (s : State) (p : PortId) : (State.faultStop s p).sec = s.sec := (faultStop_keep s p (Keep.refl s) rfl : Keep [.sys, .ports, .sol, .log, .hie, .mon] s _).only .sec (by decide)
@[simp] theorem faultStop_pwr (s : State) (p : PortId) : (State.faultStop s p).pwr = s.pwr := (faultStop_keep s p (Keep.refl s) rfl : Keep [.sys, .ports, .sol, .log, .hie, .mon] s _).only .pwr (by decide)
@[simp] theorem faultStop_tmb (s : State) (p : PortId) : (State.faultStop s p).tmb = s.tmb := (faultStop_keep s p (Keep.refl s) rfl : Keep [.sys, .ports, .sol, .log, .hie, .mon] s _).only .tmb (by decide)
@[simp] theorem faultStop_gns (s : State) (p : PortId) : (State.faultStop s p).gns = s.gns := (faultStop_keep s p (Keep.refl s) rfl : Keep [.sys, .ports, .sol, .log, .hie, .mon] s _).only .gns (by decide)
@[simp] theorem faultStop_cal (s : State) (p : PortId) : (State.faultStop s p).cal = s.cal := (faultStop_keep s p (Keep.refl s) rfl : Keep [.sys, .ports, .sol, .log, .hie, .mon] s _).only .cal (by decide)
@[simp] theorem faultStop_fan (s : State) (p : PortId) : (State.faultStop s p).fan = s.fan := (faultStop_keep s p (Keep.refl s) rfl : Keep [.sys, .ports, .sol, .log, .hie, .mon] s _).only .fan (by decide)
@[simp] theorem faultStop_eng (s : State) (p : PortId) : (State.faultStop s p).eng = s.eng := (faultStop_keep s p (Keep.refl s) rfl : Keep [.sys, .ports, .sol, .log, .hie, .mon] s _).only .eng (by decide)
@[simp] theorem faultStop_sct (s : State) (p : PortId) : (State.faultStop s p).sct = s.sct := (faultStop_keep s p (Keep.refl s) rfl : Keep [.sys, .ports, .sol, .log, .hie, .mon] s _).only .sct (by decide)
@[simp] theorem faultStop_can (s : State) (p : PortId) : (State.faultStop s p).can = s.can := (faultStop_keep s p (Keep.refl s) rfl : Keep [.sys, .ports, .sol, .log, .hie, .mon] s _).only .can (by decide)
@[simp] theorem faultStop_hl (s : State) (p : PortId) : (State.faultStop s p).hl = s.hl := (faultStop_keep s p (Keep.refl s) rfl : Keep [.sys, .ports, .sol, .log, .hie, .mon] s _).only .hl (by decide)
@[simp] theorem faultStop_apu (s : State) (p : PortId) : (State.faultStop s p).apu = s.apu := (faultStop_keep s p (Keep.refl s) rfl : Keep [.sys, .ports, .sol, .log, .hie, .mon] s _).only .apu (by decide)
@[simp] theorem faultStop_dma (s : State) (p : PortId) : (State.faultStop s p).dma = s.dma := (faultStop_keep s p (Keep.refl s) rfl : Keep [.sys, .ports, .sol, .log, .hie, .mon] s _).only .dma (by decide)
@[simp] theorem faultStop_seq (s : State) (p : PortId) : (State.faultStop s p).seq = s.seq := (faultStop_keep s p (Keep.refl s) rfl : Keep [.sys, .ports, .sol, .log, .hie, .mon] s _).only .seq (by decide)
@[simp] theorem faultStop_mem (s : State) (p : PortId) : (State.faultStop s p).mem = s.mem := (faultStop_keep s p (Keep.refl s) rfl : Keep [.sys, .ports, .sol, .log, .hie, .mon] s _).only .mem (by decide)
@[simp] theorem faultEnter_banks (s : State) (p : PortId) (latch : Bool) : (State.faultEnter s p latch).banks = s.banks := (faultEnter_keep s p latch (Keep.refl s) rfl : Keep [.sys, .ports, .sol, .log, .hie, .mon] s _).only .banks (by decide)
@[simp] theorem faultEnter_rcp (s : State) (p : PortId) (latch : Bool) : (State.faultEnter s p latch).rcp = s.rcp := (faultEnter_keep s p latch (Keep.refl s) rfl : Keep [.sys, .ports, .sol, .log, .hie, .mon] s _).only .rcp (by decide)
@[simp] theorem faultEnter_sec (s : State) (p : PortId) (latch : Bool) : (State.faultEnter s p latch).sec = s.sec := (faultEnter_keep s p latch (Keep.refl s) rfl : Keep [.sys, .ports, .sol, .log, .hie, .mon] s _).only .sec (by decide)
@[simp] theorem faultEnter_pwr (s : State) (p : PortId) (latch : Bool) : (State.faultEnter s p latch).pwr = s.pwr := (faultEnter_keep s p latch (Keep.refl s) rfl : Keep [.sys, .ports, .sol, .log, .hie, .mon] s _).only .pwr (by decide)
@[simp] theorem faultEnter_tmb (s : State) (p : PortId) (latch : Bool) : (State.faultEnter s p latch).tmb = s.tmb := (faultEnter_keep s p latch (Keep.refl s) rfl : Keep [.sys, .ports, .sol, .log, .hie, .mon] s _).only .tmb (by decide)
@[simp] theorem faultEnter_gns (s : State) (p : PortId) (latch : Bool) : (State.faultEnter s p latch).gns = s.gns := (faultEnter_keep s p latch (Keep.refl s) rfl : Keep [.sys, .ports, .sol, .log, .hie, .mon] s _).only .gns (by decide)
@[simp] theorem faultEnter_cal (s : State) (p : PortId) (latch : Bool) : (State.faultEnter s p latch).cal = s.cal := (faultEnter_keep s p latch (Keep.refl s) rfl : Keep [.sys, .ports, .sol, .log, .hie, .mon] s _).only .cal (by decide)
@[simp] theorem faultEnter_fan (s : State) (p : PortId) (latch : Bool) : (State.faultEnter s p latch).fan = s.fan := (faultEnter_keep s p latch (Keep.refl s) rfl : Keep [.sys, .ports, .sol, .log, .hie, .mon] s _).only .fan (by decide)
@[simp] theorem faultEnter_eng (s : State) (p : PortId) (latch : Bool) : (State.faultEnter s p latch).eng = s.eng := (faultEnter_keep s p latch (Keep.refl s) rfl : Keep [.sys, .ports, .sol, .log, .hie, .mon] s _).only .eng (by decide)
@[simp] theorem faultEnter_sct (s : State) (p : PortId) (latch : Bool) : (State.faultEnter s p latch).sct = s.sct := (faultEnter_keep s p latch (Keep.refl s) rfl : Keep [.sys, .ports, .sol, .log, .hie, .mon] s _).only .sct (by decide)
@[simp] theorem faultEnter_can (s : State) (p : PortId) (latch : Bool) : (State.faultEnter s p latch).can = s.can := (faultEnter_keep s p latch (Keep.refl s) rfl : Keep [.sys, .ports, .sol, .log, .hie, .mon] s _).only .can (by decide)
@[simp] theorem faultEnter_hl (s : State) (p : PortId) (latch : Bool) : (State.faultEnter s p latch).hl = s.hl := (faultEnter_keep s p latch (Keep.refl s) rfl : Keep [.sys, .ports, .sol, .log, .hie, .mon] s _).only .hl (by decide)
@[simp] theorem faultEnter_apu (s : State) (p : PortId) (latch : Bool) : (State.faultEnter s p latch).apu = s.apu := (faultEnter_keep s p latch (Keep.refl s) rfl : Keep [.sys, .ports, .sol, .log, .hie, .mon] s _).only .apu (by decide)
@[simp] theorem faultEnter_dma (s : State) (p : PortId) (latch : Bool) : (State.faultEnter s p latch).dma = s.dma := (faultEnter_keep s p latch (Keep.refl s) rfl : Keep [.sys, .ports, .sol, .log, .hie, .mon] s _).only .dma (by decide)
@[simp] theorem faultEnter_seq (s : State) (p : PortId) (latch : Bool) : (State.faultEnter s p latch).seq = s.seq := (faultEnter_keep s p latch (Keep.refl s) rfl : Keep [.sys, .ports, .sol, .log, .hie, .mon] s _).only .seq (by decide)
@[simp] theorem faultEnter_mem (s : State) (p : PortId) (latch : Bool) : (State.faultEnter s p latch).mem = s.mem := (faultEnter_keep s p latch (Keep.refl s) rfl : Keep [.sys, .ports, .sol, .log, .hie, .mon] s _).only .mem (by decide)
@[simp] theorem faultAt_banks (s : State) (p : PortId) (b : FaultBit) (code : Nat) (v : Int) : (State.faultAt s p b code v).banks = s.banks := (faultAt_keep s p b code v (Keep.refl s) rfl : Keep [.sys, .ports, .sol, .log, .hie, .mon] s _).only .banks (by decide)
@[simp] theorem faultAt_rcp (s : State) (p : PortId) (b : FaultBit) (code : Nat) (v : Int) : (State.faultAt s p b code v).rcp = s.rcp := (faultAt_keep s p b code v (Keep.refl s) rfl : Keep [.sys, .ports, .sol, .log, .hie, .mon] s _).only .rcp (by decide)
@[simp] theorem faultAt_sec (s : State) (p : PortId) (b : FaultBit) (code : Nat) (v : Int) : (State.faultAt s p b code v).sec = s.sec := (faultAt_keep s p b code v (Keep.refl s) rfl : Keep [.sys, .ports, .sol, .log, .hie, .mon] s _).only .sec (by decide)
@[simp] theorem faultAt_pwr (s : State) (p : PortId) (b : FaultBit) (code : Nat) (v : Int) : (State.faultAt s p b code v).pwr = s.pwr := (faultAt_keep s p b code v (Keep.refl s) rfl : Keep [.sys, .ports, .sol, .log, .hie, .mon] s _).only .pwr (by decide)
@[simp] theorem faultAt_tmb (s : State) (p : PortId) (b : FaultBit) (code : Nat) (v : Int) : (State.faultAt s p b code v).tmb = s.tmb := (faultAt_keep s p b code v (Keep.refl s) rfl : Keep [.sys, .ports, .sol, .log, .hie, .mon] s _).only .tmb (by decide)
@[simp] theorem faultAt_gns (s : State) (p : PortId) (b : FaultBit) (code : Nat) (v : Int) : (State.faultAt s p b code v).gns = s.gns := (faultAt_keep s p b code v (Keep.refl s) rfl : Keep [.sys, .ports, .sol, .log, .hie, .mon] s _).only .gns (by decide)
@[simp] theorem faultAt_cal (s : State) (p : PortId) (b : FaultBit) (code : Nat) (v : Int) : (State.faultAt s p b code v).cal = s.cal := (faultAt_keep s p b code v (Keep.refl s) rfl : Keep [.sys, .ports, .sol, .log, .hie, .mon] s _).only .cal (by decide)
@[simp] theorem faultAt_fan (s : State) (p : PortId) (b : FaultBit) (code : Nat) (v : Int) : (State.faultAt s p b code v).fan = s.fan := (faultAt_keep s p b code v (Keep.refl s) rfl : Keep [.sys, .ports, .sol, .log, .hie, .mon] s _).only .fan (by decide)
@[simp] theorem faultAt_eng (s : State) (p : PortId) (b : FaultBit) (code : Nat) (v : Int) : (State.faultAt s p b code v).eng = s.eng := (faultAt_keep s p b code v (Keep.refl s) rfl : Keep [.sys, .ports, .sol, .log, .hie, .mon] s _).only .eng (by decide)
@[simp] theorem faultAt_sct (s : State) (p : PortId) (b : FaultBit) (code : Nat) (v : Int) : (State.faultAt s p b code v).sct = s.sct := (faultAt_keep s p b code v (Keep.refl s) rfl : Keep [.sys, .ports, .sol, .log, .hie, .mon] s _).only .sct (by decide)
@[simp] theorem faultAt_can (s : State) (p : PortId) (b : FaultBit) (code : Nat) (v : Int) : (State.faultAt s p b code v).can = s.can := (faultAt_keep s p b code v (Keep.refl s) rfl : Keep [.sys, .ports, .sol, .log, .hie, .mon] s _).only .can (by decide)
@[simp] theorem faultAt_hl (s : State) (p : PortId) (b : FaultBit) (code : Nat) (v : Int) : (State.faultAt s p b code v).hl = s.hl := (faultAt_keep s p b code v (Keep.refl s) rfl : Keep [.sys, .ports, .sol, .log, .hie, .mon] s _).only .hl (by decide)
@[simp] theorem faultAt_apu (s : State) (p : PortId) (b : FaultBit) (code : Nat) (v : Int) : (State.faultAt s p b code v).apu = s.apu := (faultAt_keep s p b code v (Keep.refl s) rfl : Keep [.sys, .ports, .sol, .log, .hie, .mon] s _).only .apu (by decide)
@[simp] theorem faultAt_dma (s : State) (p : PortId) (b : FaultBit) (code : Nat) (v : Int) : (State.faultAt s p b code v).dma = s.dma := (faultAt_keep s p b code v (Keep.refl s) rfl : Keep [.sys, .ports, .sol, .log, .hie, .mon] s _).only .dma (by decide)
@[simp] theorem faultAt_seq (s : State) (p : PortId) (b : FaultBit) (code : Nat) (v : Int) : (State.faultAt s p b code v).seq = s.seq := (faultAt_keep s p b code v (Keep.refl s) rfl : Keep [.sys, .ports, .sol, .log, .hie, .mon] s _).only .seq (by decide)
@[simp] theorem faultAt_mem (s : State) (p : PortId) (b : FaultBit) (code : Nat) (v : Int) : (State.faultAt s p b code v).mem = s.mem := (faultAt_keep s p b code v (Keep.refl s) rfl : Keep [.sys, .ports, .sol, .log, .hie, .mon] s _).only .mem (by decide)
@[simp] theorem staleAll_ports (s : State) : (State.staleAll s).ports = s.ports := (staleAll_keep s (Keep.refl s) rfl : Keep [.sys, .log, .hie, .mon, .sct] s _).only .ports (by decide)
@[simp] theorem staleAll_banks (s : State) : (State.staleAll s).banks = s.banks := (staleAll_keep s (Keep.refl s) rfl : Keep [.sys, .log, .hie, .mon, .sct] s _).only .banks (by decide)
@[simp] theorem staleAll_sol (s : State) : (State.staleAll s).sol = s.sol := (staleAll_keep s (Keep.refl s) rfl : Keep [.sys, .log, .hie, .mon, .sct] s _).only .sol (by decide)
@[simp] theorem staleAll_rcp (s : State) : (State.staleAll s).rcp = s.rcp := (staleAll_keep s (Keep.refl s) rfl : Keep [.sys, .log, .hie, .mon, .sct] s _).only .rcp (by decide)
@[simp] theorem staleAll_sec (s : State) : (State.staleAll s).sec = s.sec := (staleAll_keep s (Keep.refl s) rfl : Keep [.sys, .log, .hie, .mon, .sct] s _).only .sec (by decide)
@[simp] theorem staleAll_pwr (s : State) : (State.staleAll s).pwr = s.pwr := (staleAll_keep s (Keep.refl s) rfl : Keep [.sys, .log, .hie, .mon, .sct] s _).only .pwr (by decide)
@[simp] theorem staleAll_tmb (s : State) : (State.staleAll s).tmb = s.tmb := (staleAll_keep s (Keep.refl s) rfl : Keep [.sys, .log, .hie, .mon, .sct] s _).only .tmb (by decide)
@[simp] theorem staleAll_gns (s : State) : (State.staleAll s).gns = s.gns := (staleAll_keep s (Keep.refl s) rfl : Keep [.sys, .log, .hie, .mon, .sct] s _).only .gns (by decide)
@[simp] theorem staleAll_cal (s : State) : (State.staleAll s).cal = s.cal := (staleAll_keep s (Keep.refl s) rfl : Keep [.sys, .log, .hie, .mon, .sct] s _).only .cal (by decide)
@[simp] theorem staleAll_fan (s : State) : (State.staleAll s).fan = s.fan := (staleAll_keep s (Keep.refl s) rfl : Keep [.sys, .log, .hie, .mon, .sct] s _).only .fan (by decide)
@[simp] theorem staleAll_eng (s : State) : (State.staleAll s).eng = s.eng := (staleAll_keep s (Keep.refl s) rfl : Keep [.sys, .log, .hie, .mon, .sct] s _).only .eng (by decide)
@[simp] theorem staleAll_can (s : State) : (State.staleAll s).can = s.can := (staleAll_keep s (Keep.refl s) rfl : Keep [.sys, .log, .hie, .mon, .sct] s _).only .can (by decide)
@[simp] theorem staleAll_hl (s : State) : (State.staleAll s).hl = s.hl := (staleAll_keep s (Keep.refl s) rfl : Keep [.sys, .log, .hie, .mon, .sct] s _).only .hl (by decide)
@[simp] theorem staleAll_apu (s : State) : (State.staleAll s).apu = s.apu := (staleAll_keep s (Keep.refl s) rfl : Keep [.sys, .log, .hie, .mon, .sct] s _).only .apu (by decide)
@[simp] theorem staleAll_dma (s : State) : (State.staleAll s).dma = s.dma := (staleAll_keep s (Keep.refl s) rfl : Keep [.sys, .log, .hie, .mon, .sct] s _).only .dma (by decide)
@[simp] theorem staleAll_seq (s : State) : (State.staleAll s).seq = s.seq := (staleAll_keep s (Keep.refl s) rfl : Keep [.sys, .log, .hie, .mon, .sct] s _).only .seq (by decide)
@[simp] theorem staleAll_mem (s : State) : (State.staleAll s).mem = s.mem := (staleAll_keep s (Keep.refl s) rfl : Keep [.sys, .log, .hie, .mon, .sct] s _).only .mem (by decide)
@[simp] theorem sendTables_ports (s : State) : (State.sendTables s).ports = s.ports := (sendTables_keep s (Keep.refl s) rfl : Keep [.sys, .hie, .mon] s _).only .ports (by decide)
@[simp] theorem sendTables_banks (s : State) : (State.sendTables s).banks = s.banks := (sendTables_keep s (Keep.refl s) rfl : Keep [.sys, .hie, .mon] s _).only .banks (by decide)
@[simp] theorem sendTables_sol (s : State) : (State.sendTables s).sol = s.sol := (sendTables_keep s (Keep.refl s) rfl : Keep [.sys, .hie, .mon] s _).only .sol (by decide)
@[simp] theorem sendTables_log (s : State) : (State.sendTables s).log = s.log := (sendTables_keep s (Keep.refl s) rfl : Keep [.sys, .hie, .mon] s _).only .log (by decide)
@[simp] theorem sendTables_rcp (s : State) : (State.sendTables s).rcp = s.rcp := (sendTables_keep s (Keep.refl s) rfl : Keep [.sys, .hie, .mon] s _).only .rcp (by decide)
@[simp] theorem sendTables_sec (s : State) : (State.sendTables s).sec = s.sec := (sendTables_keep s (Keep.refl s) rfl : Keep [.sys, .hie, .mon] s _).only .sec (by decide)
@[simp] theorem sendTables_pwr (s : State) : (State.sendTables s).pwr = s.pwr := (sendTables_keep s (Keep.refl s) rfl : Keep [.sys, .hie, .mon] s _).only .pwr (by decide)
@[simp] theorem sendTables_tmb (s : State) : (State.sendTables s).tmb = s.tmb := (sendTables_keep s (Keep.refl s) rfl : Keep [.sys, .hie, .mon] s _).only .tmb (by decide)
@[simp] theorem sendTables_gns (s : State) : (State.sendTables s).gns = s.gns := (sendTables_keep s (Keep.refl s) rfl : Keep [.sys, .hie, .mon] s _).only .gns (by decide)
@[simp] theorem sendTables_cal (s : State) : (State.sendTables s).cal = s.cal := (sendTables_keep s (Keep.refl s) rfl : Keep [.sys, .hie, .mon] s _).only .cal (by decide)
@[simp] theorem sendTables_fan (s : State) : (State.sendTables s).fan = s.fan := (sendTables_keep s (Keep.refl s) rfl : Keep [.sys, .hie, .mon] s _).only .fan (by decide)
@[simp] theorem sendTables_eng (s : State) : (State.sendTables s).eng = s.eng := (sendTables_keep s (Keep.refl s) rfl : Keep [.sys, .hie, .mon] s _).only .eng (by decide)
@[simp] theorem sendTables_sct (s : State) : (State.sendTables s).sct = s.sct := (sendTables_keep s (Keep.refl s) rfl : Keep [.sys, .hie, .mon] s _).only .sct (by decide)
@[simp] theorem sendTables_can (s : State) : (State.sendTables s).can = s.can := (sendTables_keep s (Keep.refl s) rfl : Keep [.sys, .hie, .mon] s _).only .can (by decide)
@[simp] theorem sendTables_hl (s : State) : (State.sendTables s).hl = s.hl := (sendTables_keep s (Keep.refl s) rfl : Keep [.sys, .hie, .mon] s _).only .hl (by decide)
@[simp] theorem sendTables_apu (s : State) : (State.sendTables s).apu = s.apu := (sendTables_keep s (Keep.refl s) rfl : Keep [.sys, .hie, .mon] s _).only .apu (by decide)
@[simp] theorem sendTables_dma (s : State) : (State.sendTables s).dma = s.dma := (sendTables_keep s (Keep.refl s) rfl : Keep [.sys, .hie, .mon] s _).only .dma (by decide)
@[simp] theorem sendTables_seq (s : State) : (State.sendTables s).seq = s.seq := (sendTables_keep s (Keep.refl s) rfl : Keep [.sys, .hie, .mon] s _).only .seq (by decide)
@[simp] theorem sendTables_mem (s : State) : (State.sendTables s).mem = s.mem := (sendTables_keep s (Keep.refl s) rfl : Keep [.sys, .hie, .mon] s _).only .mem (by decide)
@[simp] theorem delayNews_ports (old : State) (s : State) (p : PortId) : (State.delayNews old s p).ports = s.ports := (delayNews_keep old s p (Keep.refl s) rfl : Keep [.sys, .hie, .mon] s _).only .ports (by decide)
@[simp] theorem delayNews_banks (old : State) (s : State) (p : PortId) : (State.delayNews old s p).banks = s.banks := (delayNews_keep old s p (Keep.refl s) rfl : Keep [.sys, .hie, .mon] s _).only .banks (by decide)
@[simp] theorem delayNews_sol (old : State) (s : State) (p : PortId) : (State.delayNews old s p).sol = s.sol := (delayNews_keep old s p (Keep.refl s) rfl : Keep [.sys, .hie, .mon] s _).only .sol (by decide)
@[simp] theorem delayNews_log (old : State) (s : State) (p : PortId) : (State.delayNews old s p).log = s.log := (delayNews_keep old s p (Keep.refl s) rfl : Keep [.sys, .hie, .mon] s _).only .log (by decide)
@[simp] theorem delayNews_rcp (old : State) (s : State) (p : PortId) : (State.delayNews old s p).rcp = s.rcp := (delayNews_keep old s p (Keep.refl s) rfl : Keep [.sys, .hie, .mon] s _).only .rcp (by decide)
@[simp] theorem delayNews_sec (old : State) (s : State) (p : PortId) : (State.delayNews old s p).sec = s.sec := (delayNews_keep old s p (Keep.refl s) rfl : Keep [.sys, .hie, .mon] s _).only .sec (by decide)
@[simp] theorem delayNews_pwr (old : State) (s : State) (p : PortId) : (State.delayNews old s p).pwr = s.pwr := (delayNews_keep old s p (Keep.refl s) rfl : Keep [.sys, .hie, .mon] s _).only .pwr (by decide)
@[simp] theorem delayNews_tmb (old : State) (s : State) (p : PortId) : (State.delayNews old s p).tmb = s.tmb := (delayNews_keep old s p (Keep.refl s) rfl : Keep [.sys, .hie, .mon] s _).only .tmb (by decide)
@[simp] theorem delayNews_gns (old : State) (s : State) (p : PortId) : (State.delayNews old s p).gns = s.gns := (delayNews_keep old s p (Keep.refl s) rfl : Keep [.sys, .hie, .mon] s _).only .gns (by decide)
@[simp] theorem delayNews_cal (old : State) (s : State) (p : PortId) : (State.delayNews old s p).cal = s.cal := (delayNews_keep old s p (Keep.refl s) rfl : Keep [.sys, .hie, .mon] s _).only .cal (by decide)
@[simp] theorem delayNews_fan (old : State) (s : State) (p : PortId) : (State.delayNews old s p).fan = s.fan := (delayNews_keep old s p (Keep.refl s) rfl : Keep [.sys, .hie, .mon] s _).only .fan (by decide)
@[simp] theorem delayNews_eng (old : State) (s : State) (p : PortId) : (State.delayNews old s p).eng = s.eng := (delayNews_keep old s p (Keep.refl s) rfl : Keep [.sys, .hie, .mon] s _).only .eng (by decide)
@[simp] theorem delayNews_sct (old : State) (s : State) (p : PortId) : (State.delayNews old s p).sct = s.sct := (delayNews_keep old s p (Keep.refl s) rfl : Keep [.sys, .hie, .mon] s _).only .sct (by decide)
@[simp] theorem delayNews_can (old : State) (s : State) (p : PortId) : (State.delayNews old s p).can = s.can := (delayNews_keep old s p (Keep.refl s) rfl : Keep [.sys, .hie, .mon] s _).only .can (by decide)
@[simp] theorem delayNews_hl (old : State) (s : State) (p : PortId) : (State.delayNews old s p).hl = s.hl := (delayNews_keep old s p (Keep.refl s) rfl : Keep [.sys, .hie, .mon] s _).only .hl (by decide)
@[simp] theorem delayNews_apu (old : State) (s : State) (p : PortId) : (State.delayNews old s p).apu = s.apu := (delayNews_keep old s p (Keep.refl s) rfl : Keep [.sys, .hie, .mon] s _).only .apu (by decide)
@[simp] theorem delayNews_dma (old : State) (s : State) (p : PortId) : (State.delayNews old s p).dma = s.dma := (delayNews_keep old s p (Keep.refl s) rfl : Keep [.sys, .hie, .mon] s _).only .dma (by decide)
@[simp] theorem delayNews_seq (old : State) (s : State) (p : PortId) : (State.delayNews old s p).seq = s.seq := (delayNews_keep old s p (Keep.refl s) rfl : Keep [.sys, .hie, .mon] s _).only .seq (by decide)
@[simp] theorem delayNews_mem (old : State) (s : State) (p : PortId) : (State.delayNews old s p).mem = s.mem := (delayNews_keep old s p (Keep.refl s) rfl : Keep [.sys, .hie, .mon] s _).only .mem (by decide)
@[simp] theorem timeEmit_ports (s : State) (code : Nat) (before : Qual) (b3 : Nat) (a : Int) (b : Int) : (State.timeEmit s code before b3 a b).ports = s.ports := (timeEmit_keep s code before b3 a b (Keep.refl s) rfl : Keep [.sys, .log, .mon] s _).only .ports (by decide)
@[simp] theorem timeEmit_banks (s : State) (code : Nat) (before : Qual) (b3 : Nat) (a : Int) (b : Int) : (State.timeEmit s code before b3 a b).banks = s.banks := (timeEmit_keep s code before b3 a b (Keep.refl s) rfl : Keep [.sys, .log, .mon] s _).only .banks (by decide)
@[simp] theorem timeEmit_sol (s : State) (code : Nat) (before : Qual) (b3 : Nat) (a : Int) (b : Int) : (State.timeEmit s code before b3 a b).sol = s.sol := (timeEmit_keep s code before b3 a b (Keep.refl s) rfl : Keep [.sys, .log, .mon] s _).only .sol (by decide)
@[simp] theorem timeEmit_rcp (s : State) (code : Nat) (before : Qual) (b3 : Nat) (a : Int) (b : Int) : (State.timeEmit s code before b3 a b).rcp = s.rcp := (timeEmit_keep s code before b3 a b (Keep.refl s) rfl : Keep [.sys, .log, .mon] s _).only .rcp (by decide)
@[simp] theorem timeEmit_sec (s : State) (code : Nat) (before : Qual) (b3 : Nat) (a : Int) (b : Int) : (State.timeEmit s code before b3 a b).sec = s.sec := (timeEmit_keep s code before b3 a b (Keep.refl s) rfl : Keep [.sys, .log, .mon] s _).only .sec (by decide)
@[simp] theorem timeEmit_pwr (s : State) (code : Nat) (before : Qual) (b3 : Nat) (a : Int) (b : Int) : (State.timeEmit s code before b3 a b).pwr = s.pwr := (timeEmit_keep s code before b3 a b (Keep.refl s) rfl : Keep [.sys, .log, .mon] s _).only .pwr (by decide)
@[simp] theorem timeEmit_tmb (s : State) (code : Nat) (before : Qual) (b3 : Nat) (a : Int) (b : Int) : (State.timeEmit s code before b3 a b).tmb = s.tmb := (timeEmit_keep s code before b3 a b (Keep.refl s) rfl : Keep [.sys, .log, .mon] s _).only .tmb (by decide)
@[simp] theorem timeEmit_gns (s : State) (code : Nat) (before : Qual) (b3 : Nat) (a : Int) (b : Int) : (State.timeEmit s code before b3 a b).gns = s.gns := (timeEmit_keep s code before b3 a b (Keep.refl s) rfl : Keep [.sys, .log, .mon] s _).only .gns (by decide)
@[simp] theorem timeEmit_hie (s : State) (code : Nat) (before : Qual) (b3 : Nat) (a : Int) (b : Int) : (State.timeEmit s code before b3 a b).hie = s.hie := (timeEmit_keep s code before b3 a b (Keep.refl s) rfl : Keep [.sys, .log, .mon] s _).only .hie (by decide)
@[simp] theorem timeEmit_cal (s : State) (code : Nat) (before : Qual) (b3 : Nat) (a : Int) (b : Int) : (State.timeEmit s code before b3 a b).cal = s.cal := (timeEmit_keep s code before b3 a b (Keep.refl s) rfl : Keep [.sys, .log, .mon] s _).only .cal (by decide)
@[simp] theorem timeEmit_fan (s : State) (code : Nat) (before : Qual) (b3 : Nat) (a : Int) (b : Int) : (State.timeEmit s code before b3 a b).fan = s.fan := (timeEmit_keep s code before b3 a b (Keep.refl s) rfl : Keep [.sys, .log, .mon] s _).only .fan (by decide)
@[simp] theorem timeEmit_eng (s : State) (code : Nat) (before : Qual) (b3 : Nat) (a : Int) (b : Int) : (State.timeEmit s code before b3 a b).eng = s.eng := (timeEmit_keep s code before b3 a b (Keep.refl s) rfl : Keep [.sys, .log, .mon] s _).only .eng (by decide)
@[simp] theorem timeEmit_sct (s : State) (code : Nat) (before : Qual) (b3 : Nat) (a : Int) (b : Int) : (State.timeEmit s code before b3 a b).sct = s.sct := (timeEmit_keep s code before b3 a b (Keep.refl s) rfl : Keep [.sys, .log, .mon] s _).only .sct (by decide)
@[simp] theorem timeEmit_can (s : State) (code : Nat) (before : Qual) (b3 : Nat) (a : Int) (b : Int) : (State.timeEmit s code before b3 a b).can = s.can := (timeEmit_keep s code before b3 a b (Keep.refl s) rfl : Keep [.sys, .log, .mon] s _).only .can (by decide)
@[simp] theorem timeEmit_hl (s : State) (code : Nat) (before : Qual) (b3 : Nat) (a : Int) (b : Int) : (State.timeEmit s code before b3 a b).hl = s.hl := (timeEmit_keep s code before b3 a b (Keep.refl s) rfl : Keep [.sys, .log, .mon] s _).only .hl (by decide)
@[simp] theorem timeEmit_apu (s : State) (code : Nat) (before : Qual) (b3 : Nat) (a : Int) (b : Int) : (State.timeEmit s code before b3 a b).apu = s.apu := (timeEmit_keep s code before b3 a b (Keep.refl s) rfl : Keep [.sys, .log, .mon] s _).only .apu (by decide)
@[simp] theorem timeEmit_dma (s : State) (code : Nat) (before : Qual) (b3 : Nat) (a : Int) (b : Int) : (State.timeEmit s code before b3 a b).dma = s.dma := (timeEmit_keep s code before b3 a b (Keep.refl s) rfl : Keep [.sys, .log, .mon] s _).only .dma (by decide)
@[simp] theorem timeEmit_seq (s : State) (code : Nat) (before : Qual) (b3 : Nat) (a : Int) (b : Int) : (State.timeEmit s code before b3 a b).seq = s.seq := (timeEmit_keep s code before b3 a b (Keep.refl s) rfl : Keep [.sys, .log, .mon] s _).only .seq (by decide)
@[simp] theorem timeEmit_mem (s : State) (code : Nat) (before : Qual) (b3 : Nat) (a : Int) (b : Int) : (State.timeEmit s code before b3 a b).mem = s.mem := (timeEmit_keep s code before b3 a b (Keep.refl s) rfl : Keep [.sys, .log, .mon] s _).only .mem (by decide)
@[simp] theorem tpSettle_ports (s : State) (before : Qual) : (State.tpSettle s before).ports = s.ports := (tpSettle_keep s before (Keep.refl s) rfl : Keep [.sys, .log, .tmb, .mon] s _).only .ports (by decide)
@[simp] theorem tpSettle_banks (s : State) (before : Qual) : (State.tpSettle s before).banks = s.banks := (tpSettle_keep s before (Keep.refl s) rfl : Keep [.sys, .log, .tmb, .mon] s _).only .banks (by decide)
@[simp] theorem tpSettle_sol (s : State) (before : Qual) : (State.tpSettle s before).sol = s.sol := (tpSettle_keep s before (Keep.refl s) rfl : Keep [.sys, .log, .tmb, .mon] s _).only .sol (by decide)
@[simp] theorem tpSettle_rcp (s : State) (before : Qual) : (State.tpSettle s before).rcp = s.rcp := (tpSettle_keep s before (Keep.refl s) rfl : Keep [.sys, .log, .tmb, .mon] s _).only .rcp (by decide)
@[simp] theorem tpSettle_sec (s : State) (before : Qual) : (State.tpSettle s before).sec = s.sec := (tpSettle_keep s before (Keep.refl s) rfl : Keep [.sys, .log, .tmb, .mon] s _).only .sec (by decide)
@[simp] theorem tpSettle_pwr (s : State) (before : Qual) : (State.tpSettle s before).pwr = s.pwr := (tpSettle_keep s before (Keep.refl s) rfl : Keep [.sys, .log, .tmb, .mon] s _).only .pwr (by decide)
@[simp] theorem tpSettle_gns (s : State) (before : Qual) : (State.tpSettle s before).gns = s.gns := (tpSettle_keep s before (Keep.refl s) rfl : Keep [.sys, .log, .tmb, .mon] s _).only .gns (by decide)
@[simp] theorem tpSettle_hie (s : State) (before : Qual) : (State.tpSettle s before).hie = s.hie := (tpSettle_keep s before (Keep.refl s) rfl : Keep [.sys, .log, .tmb, .mon] s _).only .hie (by decide)
@[simp] theorem tpSettle_cal (s : State) (before : Qual) : (State.tpSettle s before).cal = s.cal := (tpSettle_keep s before (Keep.refl s) rfl : Keep [.sys, .log, .tmb, .mon] s _).only .cal (by decide)
@[simp] theorem tpSettle_fan (s : State) (before : Qual) : (State.tpSettle s before).fan = s.fan := (tpSettle_keep s before (Keep.refl s) rfl : Keep [.sys, .log, .tmb, .mon] s _).only .fan (by decide)
@[simp] theorem tpSettle_eng (s : State) (before : Qual) : (State.tpSettle s before).eng = s.eng := (tpSettle_keep s before (Keep.refl s) rfl : Keep [.sys, .log, .tmb, .mon] s _).only .eng (by decide)
@[simp] theorem tpSettle_sct (s : State) (before : Qual) : (State.tpSettle s before).sct = s.sct := (tpSettle_keep s before (Keep.refl s) rfl : Keep [.sys, .log, .tmb, .mon] s _).only .sct (by decide)
@[simp] theorem tpSettle_can (s : State) (before : Qual) : (State.tpSettle s before).can = s.can := (tpSettle_keep s before (Keep.refl s) rfl : Keep [.sys, .log, .tmb, .mon] s _).only .can (by decide)
@[simp] theorem tpSettle_hl (s : State) (before : Qual) : (State.tpSettle s before).hl = s.hl := (tpSettle_keep s before (Keep.refl s) rfl : Keep [.sys, .log, .tmb, .mon] s _).only .hl (by decide)
@[simp] theorem tpSettle_apu (s : State) (before : Qual) : (State.tpSettle s before).apu = s.apu := (tpSettle_keep s before (Keep.refl s) rfl : Keep [.sys, .log, .tmb, .mon] s _).only .apu (by decide)
@[simp] theorem tpSettle_dma (s : State) (before : Qual) : (State.tpSettle s before).dma = s.dma := (tpSettle_keep s before (Keep.refl s) rfl : Keep [.sys, .log, .tmb, .mon] s _).only .dma (by decide)
@[simp] theorem tpSettle_seq (s : State) (before : Qual) : (State.tpSettle s before).seq = s.seq := (tpSettle_keep s before (Keep.refl s) rfl : Keep [.sys, .log, .tmb, .mon] s _).only .seq (by decide)
@[simp] theorem tpSettle_mem (s : State) (before : Qual) : (State.tpSettle s before).mem = s.mem := (tpSettle_keep s before (Keep.refl s) rfl : Keep [.sys, .log, .tmb, .mon] s _).only .mem (by decide)
@[simp] theorem dropSetting_ports (s : State) : (State.dropSetting s).ports = s.ports := (dropSetting_keep s (Keep.refl s) rfl : Keep [.sys, .tmb, .hie, .mon] s _).only .ports (by decide)
@[simp] theorem dropSetting_banks (s : State) : (State.dropSetting s).banks = s.banks := (dropSetting_keep s (Keep.refl s) rfl : Keep [.sys, .tmb, .hie, .mon] s _).only .banks (by decide)
@[simp] theorem dropSetting_sol (s : State) : (State.dropSetting s).sol = s.sol := (dropSetting_keep s (Keep.refl s) rfl : Keep [.sys, .tmb, .hie, .mon] s _).only .sol (by decide)
@[simp] theorem dropSetting_log (s : State) : (State.dropSetting s).log = s.log := (dropSetting_keep s (Keep.refl s) rfl : Keep [.sys, .tmb, .hie, .mon] s _).only .log (by decide)
@[simp] theorem dropSetting_rcp (s : State) : (State.dropSetting s).rcp = s.rcp := (dropSetting_keep s (Keep.refl s) rfl : Keep [.sys, .tmb, .hie, .mon] s _).only .rcp (by decide)
@[simp] theorem dropSetting_sec (s : State) : (State.dropSetting s).sec = s.sec := (dropSetting_keep s (Keep.refl s) rfl : Keep [.sys, .tmb, .hie, .mon] s _).only .sec (by decide)
@[simp] theorem dropSetting_pwr (s : State) : (State.dropSetting s).pwr = s.pwr := (dropSetting_keep s (Keep.refl s) rfl : Keep [.sys, .tmb, .hie, .mon] s _).only .pwr (by decide)
@[simp] theorem dropSetting_gns (s : State) : (State.dropSetting s).gns = s.gns := (dropSetting_keep s (Keep.refl s) rfl : Keep [.sys, .tmb, .hie, .mon] s _).only .gns (by decide)
@[simp] theorem dropSetting_cal (s : State) : (State.dropSetting s).cal = s.cal := (dropSetting_keep s (Keep.refl s) rfl : Keep [.sys, .tmb, .hie, .mon] s _).only .cal (by decide)
@[simp] theorem dropSetting_fan (s : State) : (State.dropSetting s).fan = s.fan := (dropSetting_keep s (Keep.refl s) rfl : Keep [.sys, .tmb, .hie, .mon] s _).only .fan (by decide)
@[simp] theorem dropSetting_eng (s : State) : (State.dropSetting s).eng = s.eng := (dropSetting_keep s (Keep.refl s) rfl : Keep [.sys, .tmb, .hie, .mon] s _).only .eng (by decide)
@[simp] theorem dropSetting_sct (s : State) : (State.dropSetting s).sct = s.sct := (dropSetting_keep s (Keep.refl s) rfl : Keep [.sys, .tmb, .hie, .mon] s _).only .sct (by decide)
@[simp] theorem dropSetting_can (s : State) : (State.dropSetting s).can = s.can := (dropSetting_keep s (Keep.refl s) rfl : Keep [.sys, .tmb, .hie, .mon] s _).only .can (by decide)
@[simp] theorem dropSetting_hl (s : State) : (State.dropSetting s).hl = s.hl := (dropSetting_keep s (Keep.refl s) rfl : Keep [.sys, .tmb, .hie, .mon] s _).only .hl (by decide)
@[simp] theorem dropSetting_apu (s : State) : (State.dropSetting s).apu = s.apu := (dropSetting_keep s (Keep.refl s) rfl : Keep [.sys, .tmb, .hie, .mon] s _).only .apu (by decide)
@[simp] theorem dropSetting_dma (s : State) : (State.dropSetting s).dma = s.dma := (dropSetting_keep s (Keep.refl s) rfl : Keep [.sys, .tmb, .hie, .mon] s _).only .dma (by decide)
@[simp] theorem dropSetting_seq (s : State) : (State.dropSetting s).seq = s.seq := (dropSetting_keep s (Keep.refl s) rfl : Keep [.sys, .tmb, .hie, .mon] s _).only .seq (by decide)
@[simp] theorem dropSetting_mem (s : State) : (State.dropSetting s).mem = s.mem := (dropSetting_keep s (Keep.refl s) rfl : Keep [.sys, .tmb, .hie, .mon] s _).only .mem (by decide)
@[simp] theorem notify_ports (s : State) (k : SessId) (kind : Nat) (content : List Byte) : (State.notify s k kind content).ports = s.ports := (notify_keep s k kind content (Keep.refl s) rfl : Keep [.sys, .hl] s _).only .ports (by decide)
@[simp] theorem notify_banks (s : State) (k : SessId) (kind : Nat) (content : List Byte) : (State.notify s k kind content).banks = s.banks := (notify_keep s k kind content (Keep.refl s) rfl : Keep [.sys, .hl] s _).only .banks (by decide)
@[simp] theorem notify_sol (s : State) (k : SessId) (kind : Nat) (content : List Byte) : (State.notify s k kind content).sol = s.sol := (notify_keep s k kind content (Keep.refl s) rfl : Keep [.sys, .hl] s _).only .sol (by decide)
@[simp] theorem notify_log (s : State) (k : SessId) (kind : Nat) (content : List Byte) : (State.notify s k kind content).log = s.log := (notify_keep s k kind content (Keep.refl s) rfl : Keep [.sys, .hl] s _).only .log (by decide)
@[simp] theorem notify_rcp (s : State) (k : SessId) (kind : Nat) (content : List Byte) : (State.notify s k kind content).rcp = s.rcp := (notify_keep s k kind content (Keep.refl s) rfl : Keep [.sys, .hl] s _).only .rcp (by decide)
@[simp] theorem notify_sec (s : State) (k : SessId) (kind : Nat) (content : List Byte) : (State.notify s k kind content).sec = s.sec := (notify_keep s k kind content (Keep.refl s) rfl : Keep [.sys, .hl] s _).only .sec (by decide)
@[simp] theorem notify_pwr (s : State) (k : SessId) (kind : Nat) (content : List Byte) : (State.notify s k kind content).pwr = s.pwr := (notify_keep s k kind content (Keep.refl s) rfl : Keep [.sys, .hl] s _).only .pwr (by decide)
@[simp] theorem notify_tmb (s : State) (k : SessId) (kind : Nat) (content : List Byte) : (State.notify s k kind content).tmb = s.tmb := (notify_keep s k kind content (Keep.refl s) rfl : Keep [.sys, .hl] s _).only .tmb (by decide)
@[simp] theorem notify_gns (s : State) (k : SessId) (kind : Nat) (content : List Byte) : (State.notify s k kind content).gns = s.gns := (notify_keep s k kind content (Keep.refl s) rfl : Keep [.sys, .hl] s _).only .gns (by decide)
@[simp] theorem notify_hie (s : State) (k : SessId) (kind : Nat) (content : List Byte) : (State.notify s k kind content).hie = s.hie := (notify_keep s k kind content (Keep.refl s) rfl : Keep [.sys, .hl] s _).only .hie (by decide)
@[simp] theorem notify_mon (s : State) (k : SessId) (kind : Nat) (content : List Byte) : (State.notify s k kind content).mon = s.mon := (notify_keep s k kind content (Keep.refl s) rfl : Keep [.sys, .hl] s _).only .mon (by decide)
@[simp] theorem notify_cal (s : State) (k : SessId) (kind : Nat) (content : List Byte) : (State.notify s k kind content).cal = s.cal := (notify_keep s k kind content (Keep.refl s) rfl : Keep [.sys, .hl] s _).only .cal (by decide)
@[simp] theorem notify_fan (s : State) (k : SessId) (kind : Nat) (content : List Byte) : (State.notify s k kind content).fan = s.fan := (notify_keep s k kind content (Keep.refl s) rfl : Keep [.sys, .hl] s _).only .fan (by decide)
@[simp] theorem notify_eng (s : State) (k : SessId) (kind : Nat) (content : List Byte) : (State.notify s k kind content).eng = s.eng := (notify_keep s k kind content (Keep.refl s) rfl : Keep [.sys, .hl] s _).only .eng (by decide)
@[simp] theorem notify_sct (s : State) (k : SessId) (kind : Nat) (content : List Byte) : (State.notify s k kind content).sct = s.sct := (notify_keep s k kind content (Keep.refl s) rfl : Keep [.sys, .hl] s _).only .sct (by decide)
@[simp] theorem notify_can (s : State) (k : SessId) (kind : Nat) (content : List Byte) : (State.notify s k kind content).can = s.can := (notify_keep s k kind content (Keep.refl s) rfl : Keep [.sys, .hl] s _).only .can (by decide)
@[simp] theorem notify_apu (s : State) (k : SessId) (kind : Nat) (content : List Byte) : (State.notify s k kind content).apu = s.apu := (notify_keep s k kind content (Keep.refl s) rfl : Keep [.sys, .hl] s _).only .apu (by decide)
@[simp] theorem notify_dma (s : State) (k : SessId) (kind : Nat) (content : List Byte) : (State.notify s k kind content).dma = s.dma := (notify_keep s k kind content (Keep.refl s) rfl : Keep [.sys, .hl] s _).only .dma (by decide)
@[simp] theorem notify_seq (s : State) (k : SessId) (kind : Nat) (content : List Byte) : (State.notify s k kind content).seq = s.seq := (notify_keep s k kind content (Keep.refl s) rfl : Keep [.sys, .hl] s _).only .seq (by decide)
@[simp] theorem notify_mem (s : State) (k : SessId) (kind : Nat) (content : List Byte) : (State.notify s k kind content).mem = s.mem := (notify_keep s k kind content (Keep.refl s) rfl : Keep [.sys, .hl] s _).only .mem (by decide)
@[simp] theorem canEmit_ports (s : State) (c : CanId) (code : Nat) (a : Nat) (b : Nat) : (State.canEmit s c code a b).ports = s.ports := (canEmit_keep s c code a b (Keep.refl s) rfl : Keep [.sys, .log, .mon] s _).only .ports (by decide)
@[simp] theorem canEmit_banks (s : State) (c : CanId) (code : Nat) (a : Nat) (b : Nat) : (State.canEmit s c code a b).banks = s.banks := (canEmit_keep s c code a b (Keep.refl s) rfl : Keep [.sys, .log, .mon] s _).only .banks (by decide)
@[simp] theorem canEmit_sol (s : State) (c : CanId) (code : Nat) (a : Nat) (b : Nat) : (State.canEmit s c code a b).sol = s.sol := (canEmit_keep s c code a b (Keep.refl s) rfl : Keep [.sys, .log, .mon] s _).only .sol (by decide)
@[simp] theorem canEmit_rcp (s : State) (c : CanId) (code : Nat) (a : Nat) (b : Nat) : (State.canEmit s c code a b).rcp = s.rcp := (canEmit_keep s c code a b (Keep.refl s) rfl : Keep [.sys, .log, .mon] s _).only .rcp (by decide)
@[simp] theorem canEmit_sec (s : State) (c : CanId) (code : Nat) (a : Nat) (b : Nat) : (State.canEmit s c code a b).sec = s.sec := (canEmit_keep s c code a b (Keep.refl s) rfl : Keep [.sys, .log, .mon] s _).only .sec (by decide)
@[simp] theorem canEmit_pwr (s : State) (c : CanId) (code : Nat) (a : Nat) (b : Nat) : (State.canEmit s c code a b).pwr = s.pwr := (canEmit_keep s c code a b (Keep.refl s) rfl : Keep [.sys, .log, .mon] s _).only .pwr (by decide)
@[simp] theorem canEmit_tmb (s : State) (c : CanId) (code : Nat) (a : Nat) (b : Nat) : (State.canEmit s c code a b).tmb = s.tmb := (canEmit_keep s c code a b (Keep.refl s) rfl : Keep [.sys, .log, .mon] s _).only .tmb (by decide)
@[simp] theorem canEmit_gns (s : State) (c : CanId) (code : Nat) (a : Nat) (b : Nat) : (State.canEmit s c code a b).gns = s.gns := (canEmit_keep s c code a b (Keep.refl s) rfl : Keep [.sys, .log, .mon] s _).only .gns (by decide)
@[simp] theorem canEmit_hie (s : State) (c : CanId) (code : Nat) (a : Nat) (b : Nat) : (State.canEmit s c code a b).hie = s.hie := (canEmit_keep s c code a b (Keep.refl s) rfl : Keep [.sys, .log, .mon] s _).only .hie (by decide)
@[simp] theorem canEmit_cal (s : State) (c : CanId) (code : Nat) (a : Nat) (b : Nat) : (State.canEmit s c code a b).cal = s.cal := (canEmit_keep s c code a b (Keep.refl s) rfl : Keep [.sys, .log, .mon] s _).only .cal (by decide)
@[simp] theorem canEmit_fan (s : State) (c : CanId) (code : Nat) (a : Nat) (b : Nat) : (State.canEmit s c code a b).fan = s.fan := (canEmit_keep s c code a b (Keep.refl s) rfl : Keep [.sys, .log, .mon] s _).only .fan (by decide)
@[simp] theorem canEmit_eng (s : State) (c : CanId) (code : Nat) (a : Nat) (b : Nat) : (State.canEmit s c code a b).eng = s.eng := (canEmit_keep s c code a b (Keep.refl s) rfl : Keep [.sys, .log, .mon] s _).only .eng (by decide)
@[simp] theorem canEmit_sct (s : State) (c : CanId) (code : Nat) (a : Nat) (b : Nat) : (State.canEmit s c code a b).sct = s.sct := (canEmit_keep s c code a b (Keep.refl s) rfl : Keep [.sys, .log, .mon] s _).only .sct (by decide)
@[simp] theorem canEmit_can (s : State) (c : CanId) (code : Nat) (a : Nat) (b : Nat) : (State.canEmit s c code a b).can = s.can := (canEmit_keep s c code a b (Keep.refl s) rfl : Keep [.sys, .log, .mon] s _).only .can (by decide)
@[simp] theorem canEmit_hl (s : State) (c : CanId) (code : Nat) (a : Nat) (b : Nat) : (State.canEmit s c code a b).hl = s.hl := (canEmit_keep s c code a b (Keep.refl s) rfl : Keep [.sys, .log, .mon] s _).only .hl (by decide)
@[simp] theorem canEmit_apu (s : State) (c : CanId) (code : Nat) (a : Nat) (b : Nat) : (State.canEmit s c code a b).apu = s.apu := (canEmit_keep s c code a b (Keep.refl s) rfl : Keep [.sys, .log, .mon] s _).only .apu (by decide)
@[simp] theorem canEmit_dma (s : State) (c : CanId) (code : Nat) (a : Nat) (b : Nat) : (State.canEmit s c code a b).dma = s.dma := (canEmit_keep s c code a b (Keep.refl s) rfl : Keep [.sys, .log, .mon] s _).only .dma (by decide)
@[simp] theorem canEmit_seq (s : State) (c : CanId) (code : Nat) (a : Nat) (b : Nat) : (State.canEmit s c code a b).seq = s.seq := (canEmit_keep s c code a b (Keep.refl s) rfl : Keep [.sys, .log, .mon] s _).only .seq (by decide)
@[simp] theorem canEmit_mem (s : State) (c : CanId) (code : Nat) (a : Nat) (b : Nat) : (State.canEmit s c code a b).mem = s.mem := (canEmit_keep s c code a b (Keep.refl s) rfl : Keep [.sys, .log, .mon] s _).only .mem (by decide)
@[simp] theorem rtSend_sys (s : State) (c : CanId) (f : CanFrame) (rlim : Nat) (age : Nat) : (State.rtSend s c f rlim age).1.sys = s.sys := (rtSend_keep s c f rlim age (Keep.refl s) rfl : Keep [.can] s _).only .sys (by decide)
@[simp] theorem rtSend_ports (s : State) (c : CanId) (f : CanFrame) (rlim : Nat) (age : Nat) : (State.rtSend s c f rlim age).1.ports = s.ports := (rtSend_keep s c f rlim age (Keep.refl s) rfl : Keep [.can] s _).only .ports (by decide)
@[simp] theorem rtSend_banks (s : State) (c : CanId) (f : CanFrame) (rlim : Nat) (age : Nat) : (State.rtSend s c f rlim age).1.banks = s.banks := (rtSend_keep s c f rlim age (Keep.refl s) rfl : Keep [.can] s _).only .banks (by decide)
@[simp] theorem rtSend_sol (s : State) (c : CanId) (f : CanFrame) (rlim : Nat) (age : Nat) : (State.rtSend s c f rlim age).1.sol = s.sol := (rtSend_keep s c f rlim age (Keep.refl s) rfl : Keep [.can] s _).only .sol (by decide)
@[simp] theorem rtSend_log (s : State) (c : CanId) (f : CanFrame) (rlim : Nat) (age : Nat) : (State.rtSend s c f rlim age).1.log = s.log := (rtSend_keep s c f rlim age (Keep.refl s) rfl : Keep [.can] s _).only .log (by decide)
@[simp] theorem rtSend_rcp (s : State) (c : CanId) (f : CanFrame) (rlim : Nat) (age : Nat) : (State.rtSend s c f rlim age).1.rcp = s.rcp := (rtSend_keep s c f rlim age (Keep.refl s) rfl : Keep [.can] s _).only .rcp (by decide)
@[simp] theorem rtSend_sec (s : State) (c : CanId) (f : CanFrame) (rlim : Nat) (age : Nat) : (State.rtSend s c f rlim age).1.sec = s.sec := (rtSend_keep s c f rlim age (Keep.refl s) rfl : Keep [.can] s _).only .sec (by decide)
@[simp] theorem rtSend_pwr (s : State) (c : CanId) (f : CanFrame) (rlim : Nat) (age : Nat) : (State.rtSend s c f rlim age).1.pwr = s.pwr := (rtSend_keep s c f rlim age (Keep.refl s) rfl : Keep [.can] s _).only .pwr (by decide)
@[simp] theorem rtSend_tmb (s : State) (c : CanId) (f : CanFrame) (rlim : Nat) (age : Nat) : (State.rtSend s c f rlim age).1.tmb = s.tmb := (rtSend_keep s c f rlim age (Keep.refl s) rfl : Keep [.can] s _).only .tmb (by decide)
@[simp] theorem rtSend_gns (s : State) (c : CanId) (f : CanFrame) (rlim : Nat) (age : Nat) : (State.rtSend s c f rlim age).1.gns = s.gns := (rtSend_keep s c f rlim age (Keep.refl s) rfl : Keep [.can] s _).only .gns (by decide)
@[simp] theorem rtSend_hie (s : State) (c : CanId) (f : CanFrame) (rlim : Nat) (age : Nat) : (State.rtSend s c f rlim age).1.hie = s.hie := (rtSend_keep s c f rlim age (Keep.refl s) rfl : Keep [.can] s _).only .hie (by decide)
@[simp] theorem rtSend_mon (s : State) (c : CanId) (f : CanFrame) (rlim : Nat) (age : Nat) : (State.rtSend s c f rlim age).1.mon = s.mon := (rtSend_keep s c f rlim age (Keep.refl s) rfl : Keep [.can] s _).only .mon (by decide)
@[simp] theorem rtSend_cal (s : State) (c : CanId) (f : CanFrame) (rlim : Nat) (age : Nat) : (State.rtSend s c f rlim age).1.cal = s.cal := (rtSend_keep s c f rlim age (Keep.refl s) rfl : Keep [.can] s _).only .cal (by decide)
@[simp] theorem rtSend_fan (s : State) (c : CanId) (f : CanFrame) (rlim : Nat) (age : Nat) : (State.rtSend s c f rlim age).1.fan = s.fan := (rtSend_keep s c f rlim age (Keep.refl s) rfl : Keep [.can] s _).only .fan (by decide)
@[simp] theorem rtSend_eng (s : State) (c : CanId) (f : CanFrame) (rlim : Nat) (age : Nat) : (State.rtSend s c f rlim age).1.eng = s.eng := (rtSend_keep s c f rlim age (Keep.refl s) rfl : Keep [.can] s _).only .eng (by decide)
@[simp] theorem rtSend_sct (s : State) (c : CanId) (f : CanFrame) (rlim : Nat) (age : Nat) : (State.rtSend s c f rlim age).1.sct = s.sct := (rtSend_keep s c f rlim age (Keep.refl s) rfl : Keep [.can] s _).only .sct (by decide)
@[simp] theorem rtSend_hl (s : State) (c : CanId) (f : CanFrame) (rlim : Nat) (age : Nat) : (State.rtSend s c f rlim age).1.hl = s.hl := (rtSend_keep s c f rlim age (Keep.refl s) rfl : Keep [.can] s _).only .hl (by decide)
@[simp] theorem rtSend_apu (s : State) (c : CanId) (f : CanFrame) (rlim : Nat) (age : Nat) : (State.rtSend s c f rlim age).1.apu = s.apu := (rtSend_keep s c f rlim age (Keep.refl s) rfl : Keep [.can] s _).only .apu (by decide)
@[simp] theorem rtSend_dma (s : State) (c : CanId) (f : CanFrame) (rlim : Nat) (age : Nat) : (State.rtSend s c f rlim age).1.dma = s.dma := (rtSend_keep s c f rlim age (Keep.refl s) rfl : Keep [.can] s _).only .dma (by decide)
@[simp] theorem rtSend_seq (s : State) (c : CanId) (f : CanFrame) (rlim : Nat) (age : Nat) : (State.rtSend s c f rlim age).1.seq = s.seq := (rtSend_keep s c f rlim age (Keep.refl s) rfl : Keep [.can] s _).only .seq (by decide)
@[simp] theorem rtSend_mem (s : State) (c : CanId) (f : CanFrame) (rlim : Nat) (age : Nat) : (State.rtSend s c f rlim age).1.mem = s.mem := (rtSend_keep s c f rlim age (Keep.refl s) rfl : Keep [.can] s _).only .mem (by decide)
@[simp] theorem addEntry_sys (s : State) (e : ApuEntry) : (State.addEntry s e).1.sys = s.sys := (addEntry_keep s e (Keep.refl s) rfl : Keep [.apu] s _).only .sys (by decide)
@[simp] theorem addEntry_ports (s : State) (e : ApuEntry) : (State.addEntry s e).1.ports = s.ports := (addEntry_keep s e (Keep.refl s) rfl : Keep [.apu] s _).only .ports (by decide)
@[simp] theorem addEntry_banks (s : State) (e : ApuEntry) : (State.addEntry s e).1.banks = s.banks := (addEntry_keep s e (Keep.refl s) rfl : Keep [.apu] s _).only .banks (by decide)
@[simp] theorem addEntry_sol (s : State) (e : ApuEntry) : (State.addEntry s e).1.sol = s.sol := (addEntry_keep s e (Keep.refl s) rfl : Keep [.apu] s _).only .sol (by decide)
@[simp] theorem addEntry_log (s : State) (e : ApuEntry) : (State.addEntry s e).1.log = s.log := (addEntry_keep s e (Keep.refl s) rfl : Keep [.apu] s _).only .log (by decide)
@[simp] theorem addEntry_rcp (s : State) (e : ApuEntry) : (State.addEntry s e).1.rcp = s.rcp := (addEntry_keep s e (Keep.refl s) rfl : Keep [.apu] s _).only .rcp (by decide)
@[simp] theorem addEntry_sec (s : State) (e : ApuEntry) : (State.addEntry s e).1.sec = s.sec := (addEntry_keep s e (Keep.refl s) rfl : Keep [.apu] s _).only .sec (by decide)
@[simp] theorem addEntry_pwr (s : State) (e : ApuEntry) : (State.addEntry s e).1.pwr = s.pwr := (addEntry_keep s e (Keep.refl s) rfl : Keep [.apu] s _).only .pwr (by decide)
@[simp] theorem addEntry_tmb (s : State) (e : ApuEntry) : (State.addEntry s e).1.tmb = s.tmb := (addEntry_keep s e (Keep.refl s) rfl : Keep [.apu] s _).only .tmb (by decide)
@[simp] theorem addEntry_gns (s : State) (e : ApuEntry) : (State.addEntry s e).1.gns = s.gns := (addEntry_keep s e (Keep.refl s) rfl : Keep [.apu] s _).only .gns (by decide)
@[simp] theorem addEntry_hie (s : State) (e : ApuEntry) : (State.addEntry s e).1.hie = s.hie := (addEntry_keep s e (Keep.refl s) rfl : Keep [.apu] s _).only .hie (by decide)
@[simp] theorem addEntry_mon (s : State) (e : ApuEntry) : (State.addEntry s e).1.mon = s.mon := (addEntry_keep s e (Keep.refl s) rfl : Keep [.apu] s _).only .mon (by decide)
@[simp] theorem addEntry_cal (s : State) (e : ApuEntry) : (State.addEntry s e).1.cal = s.cal := (addEntry_keep s e (Keep.refl s) rfl : Keep [.apu] s _).only .cal (by decide)
@[simp] theorem addEntry_fan (s : State) (e : ApuEntry) : (State.addEntry s e).1.fan = s.fan := (addEntry_keep s e (Keep.refl s) rfl : Keep [.apu] s _).only .fan (by decide)
@[simp] theorem addEntry_eng (s : State) (e : ApuEntry) : (State.addEntry s e).1.eng = s.eng := (addEntry_keep s e (Keep.refl s) rfl : Keep [.apu] s _).only .eng (by decide)
@[simp] theorem addEntry_sct (s : State) (e : ApuEntry) : (State.addEntry s e).1.sct = s.sct := (addEntry_keep s e (Keep.refl s) rfl : Keep [.apu] s _).only .sct (by decide)
@[simp] theorem addEntry_can (s : State) (e : ApuEntry) : (State.addEntry s e).1.can = s.can := (addEntry_keep s e (Keep.refl s) rfl : Keep [.apu] s _).only .can (by decide)
@[simp] theorem addEntry_hl (s : State) (e : ApuEntry) : (State.addEntry s e).1.hl = s.hl := (addEntry_keep s e (Keep.refl s) rfl : Keep [.apu] s _).only .hl (by decide)
@[simp] theorem addEntry_dma (s : State) (e : ApuEntry) : (State.addEntry s e).1.dma = s.dma := (addEntry_keep s e (Keep.refl s) rfl : Keep [.apu] s _).only .dma (by decide)
@[simp] theorem addEntry_seq (s : State) (e : ApuEntry) : (State.addEntry s e).1.seq = s.seq := (addEntry_keep s e (Keep.refl s) rfl : Keep [.apu] s _).only .seq (by decide)
@[simp] theorem addEntry_mem (s : State) (e : ApuEntry) : (State.addEntry s e).1.mem = s.mem := (addEntry_keep s e (Keep.refl s) rfl : Keep [.apu] s _).only .mem (by decide)
@[simp] theorem dropEntries_sys (s : State) (ctx : Nat) : (State.dropEntries s ctx).sys = s.sys := (dropEntries_keep s ctx (Keep.refl s) rfl : Keep [.apu] s _).only .sys (by decide)
@[simp] theorem dropEntries_ports (s : State) (ctx : Nat) : (State.dropEntries s ctx).ports = s.ports := (dropEntries_keep s ctx (Keep.refl s) rfl : Keep [.apu] s _).only .ports (by decide)
@[simp] theorem dropEntries_banks (s : State) (ctx : Nat) : (State.dropEntries s ctx).banks = s.banks := (dropEntries_keep s ctx (Keep.refl s) rfl : Keep [.apu] s _).only .banks (by decide)
@[simp] theorem dropEntries_sol (s : State) (ctx : Nat) : (State.dropEntries s ctx).sol = s.sol := (dropEntries_keep s ctx (Keep.refl s) rfl : Keep [.apu] s _).only .sol (by decide)
@[simp] theorem dropEntries_log (s : State) (ctx : Nat) : (State.dropEntries s ctx).log = s.log := (dropEntries_keep s ctx (Keep.refl s) rfl : Keep [.apu] s _).only .log (by decide)
@[simp] theorem dropEntries_rcp (s : State) (ctx : Nat) : (State.dropEntries s ctx).rcp = s.rcp := (dropEntries_keep s ctx (Keep.refl s) rfl : Keep [.apu] s _).only .rcp (by decide)
@[simp] theorem dropEntries_sec (s : State) (ctx : Nat) : (State.dropEntries s ctx).sec = s.sec := (dropEntries_keep s ctx (Keep.refl s) rfl : Keep [.apu] s _).only .sec (by decide)
@[simp] theorem dropEntries_pwr (s : State) (ctx : Nat) : (State.dropEntries s ctx).pwr = s.pwr := (dropEntries_keep s ctx (Keep.refl s) rfl : Keep [.apu] s _).only .pwr (by decide)
@[simp] theorem dropEntries_tmb (s : State) (ctx : Nat) : (State.dropEntries s ctx).tmb = s.tmb := (dropEntries_keep s ctx (Keep.refl s) rfl : Keep [.apu] s _).only .tmb (by decide)
@[simp] theorem dropEntries_gns (s : State) (ctx : Nat) : (State.dropEntries s ctx).gns = s.gns := (dropEntries_keep s ctx (Keep.refl s) rfl : Keep [.apu] s _).only .gns (by decide)
@[simp] theorem dropEntries_hie (s : State) (ctx : Nat) : (State.dropEntries s ctx).hie = s.hie := (dropEntries_keep s ctx (Keep.refl s) rfl : Keep [.apu] s _).only .hie (by decide)
@[simp] theorem dropEntries_mon (s : State) (ctx : Nat) : (State.dropEntries s ctx).mon = s.mon := (dropEntries_keep s ctx (Keep.refl s) rfl : Keep [.apu] s _).only .mon (by decide)
@[simp] theorem dropEntries_cal (s : State) (ctx : Nat) : (State.dropEntries s ctx).cal = s.cal := (dropEntries_keep s ctx (Keep.refl s) rfl : Keep [.apu] s _).only .cal (by decide)
@[simp] theorem dropEntries_fan (s : State) (ctx : Nat) : (State.dropEntries s ctx).fan = s.fan := (dropEntries_keep s ctx (Keep.refl s) rfl : Keep [.apu] s _).only .fan (by decide)
@[simp] theorem dropEntries_eng (s : State) (ctx : Nat) : (State.dropEntries s ctx).eng = s.eng := (dropEntries_keep s ctx (Keep.refl s) rfl : Keep [.apu] s _).only .eng (by decide)
@[simp] theorem dropEntries_sct (s : State) (ctx : Nat) : (State.dropEntries s ctx).sct = s.sct := (dropEntries_keep s ctx (Keep.refl s) rfl : Keep [.apu] s _).only .sct (by decide)
@[simp] theorem dropEntries_can (s : State) (ctx : Nat) : (State.dropEntries s ctx).can = s.can := (dropEntries_keep s ctx (Keep.refl s) rfl : Keep [.apu] s _).only .can (by decide)
@[simp] theorem dropEntries_hl (s : State) (ctx : Nat) : (State.dropEntries s ctx).hl = s.hl := (dropEntries_keep s ctx (Keep.refl s) rfl : Keep [.apu] s _).only .hl (by decide)
@[simp] theorem dropEntries_dma (s : State) (ctx : Nat) : (State.dropEntries s ctx).dma = s.dma := (dropEntries_keep s ctx (Keep.refl s) rfl : Keep [.apu] s _).only .dma (by decide)
@[simp] theorem dropEntries_seq (s : State) (ctx : Nat) : (State.dropEntries s ctx).seq = s.seq := (dropEntries_keep s ctx (Keep.refl s) rfl : Keep [.apu] s _).only .seq (by decide)
@[simp] theorem dropEntries_mem (s : State) (ctx : Nat) : (State.dropEntries s ctx).mem = s.mem := (dropEntries_keep s ctx (Keep.refl s) rfl : Keep [.apu] s _).only .mem (by decide)
@[simp] theorem isoSend_sys (s : State) (c : CanId) (prio : Nat) (pf : Nat) (ps : Nat) (sa : Nat) (data : List Byte) : (State.isoSend s c prio pf ps sa data).sys = s.sys := (isoSend_keep s c prio pf ps sa data (Keep.refl s) rfl : Keep [.can] s _).only .sys (by decide)
@[simp] theorem isoSend_ports (s : State) (c : CanId) (prio : Nat) (pf : Nat) (ps : Nat) (sa : Nat) (data : List Byte) : (State.isoSend s c prio pf ps sa data).ports = s.ports := (isoSend_keep s c prio pf ps sa data (Keep.refl s) rfl : Keep [.can] s _).only .ports (by decide)
@[simp] theorem isoSend_banks (s : State) (c : CanId) (prio : Nat) (pf : Nat) (ps : Nat) (sa : Nat) (data : List Byte) : (State.isoSend s c prio pf ps sa data).banks = s.banks := (isoSend_keep s c prio pf ps sa data (Keep.refl s) rfl : Keep [.can] s _).only .banks (by decide)
@[simp] theorem isoSend_sol (s : State) (c : CanId) (prio : Nat) (pf : Nat) (ps : Nat) (sa : Nat) (data : List Byte) : (State.isoSend s c prio pf ps sa data).sol = s.sol := (isoSend_keep s c prio pf ps sa data (Keep.refl s) rfl : Keep [.can] s _).only .sol (by decide)
@[simp] theorem isoSend_log (s : State) (c : CanId) (prio : Nat) (pf : Nat) (ps : Nat) (sa : Nat) (data : List Byte) : (State.isoSend s c prio pf ps sa data).log = s.log := (isoSend_keep s c prio pf ps sa data (Keep.refl s) rfl : Keep [.can] s _).only .log (by decide)
@[simp] theorem isoSend_rcp (s : State) (c : CanId) (prio : Nat) (pf : Nat) (ps : Nat) (sa : Nat) (data : List Byte) : (State.isoSend s c prio pf ps sa data).rcp = s.rcp := (isoSend_keep s c prio pf ps sa data (Keep.refl s) rfl : Keep [.can] s _).only .rcp (by decide)
@[simp] theorem isoSend_sec (s : State) (c : CanId) (prio : Nat) (pf : Nat) (ps : Nat) (sa : Nat) (data : List Byte) : (State.isoSend s c prio pf ps sa data).sec = s.sec := (isoSend_keep s c prio pf ps sa data (Keep.refl s) rfl : Keep [.can] s _).only .sec (by decide)
@[simp] theorem isoSend_pwr (s : State) (c : CanId) (prio : Nat) (pf : Nat) (ps : Nat) (sa : Nat) (data : List Byte) : (State.isoSend s c prio pf ps sa data).pwr = s.pwr := (isoSend_keep s c prio pf ps sa data (Keep.refl s) rfl : Keep [.can] s _).only .pwr (by decide)
@[simp] theorem isoSend_tmb (s : State) (c : CanId) (prio : Nat) (pf : Nat) (ps : Nat) (sa : Nat) (data : List Byte) : (State.isoSend s c prio pf ps sa data).tmb = s.tmb := (isoSend_keep s c prio pf ps sa data (Keep.refl s) rfl : Keep [.can] s _).only .tmb (by decide)
@[simp] theorem isoSend_gns (s : State) (c : CanId) (prio : Nat) (pf : Nat) (ps : Nat) (sa : Nat) (data : List Byte) : (State.isoSend s c prio pf ps sa data).gns = s.gns := (isoSend_keep s c prio pf ps sa data (Keep.refl s) rfl : Keep [.can] s _).only .gns (by decide)
@[simp] theorem isoSend_hie (s : State) (c : CanId) (prio : Nat) (pf : Nat) (ps : Nat) (sa : Nat) (data : List Byte) : (State.isoSend s c prio pf ps sa data).hie = s.hie := (isoSend_keep s c prio pf ps sa data (Keep.refl s) rfl : Keep [.can] s _).only .hie (by decide)
@[simp] theorem isoSend_mon (s : State) (c : CanId) (prio : Nat) (pf : Nat) (ps : Nat) (sa : Nat) (data : List Byte) : (State.isoSend s c prio pf ps sa data).mon = s.mon := (isoSend_keep s c prio pf ps sa data (Keep.refl s) rfl : Keep [.can] s _).only .mon (by decide)
@[simp] theorem isoSend_cal (s : State) (c : CanId) (prio : Nat) (pf : Nat) (ps : Nat) (sa : Nat) (data : List Byte) : (State.isoSend s c prio pf ps sa data).cal = s.cal := (isoSend_keep s c prio pf ps sa data (Keep.refl s) rfl : Keep [.can] s _).only .cal (by decide)
@[simp] theorem isoSend_fan (s : State) (c : CanId) (prio : Nat) (pf : Nat) (ps : Nat) (sa : Nat) (data : List Byte) : (State.isoSend s c prio pf ps sa data).fan = s.fan := (isoSend_keep s c prio pf ps sa data (Keep.refl s) rfl : Keep [.can] s _).only .fan (by decide)
@[simp] theorem isoSend_eng (s : State) (c : CanId) (prio : Nat) (pf : Nat) (ps : Nat) (sa : Nat) (data : List Byte) : (State.isoSend s c prio pf ps sa data).eng = s.eng := (isoSend_keep s c prio pf ps sa data (Keep.refl s) rfl : Keep [.can] s _).only .eng (by decide)
@[simp] theorem isoSend_sct (s : State) (c : CanId) (prio : Nat) (pf : Nat) (ps : Nat) (sa : Nat) (data : List Byte) : (State.isoSend s c prio pf ps sa data).sct = s.sct := (isoSend_keep s c prio pf ps sa data (Keep.refl s) rfl : Keep [.can] s _).only .sct (by decide)
@[simp] theorem isoSend_hl (s : State) (c : CanId) (prio : Nat) (pf : Nat) (ps : Nat) (sa : Nat) (data : List Byte) : (State.isoSend s c prio pf ps sa data).hl = s.hl := (isoSend_keep s c prio pf ps sa data (Keep.refl s) rfl : Keep [.can] s _).only .hl (by decide)
@[simp] theorem isoSend_apu (s : State) (c : CanId) (prio : Nat) (pf : Nat) (ps : Nat) (sa : Nat) (data : List Byte) : (State.isoSend s c prio pf ps sa data).apu = s.apu := (isoSend_keep s c prio pf ps sa data (Keep.refl s) rfl : Keep [.can] s _).only .apu (by decide)
@[simp] theorem isoSend_dma (s : State) (c : CanId) (prio : Nat) (pf : Nat) (ps : Nat) (sa : Nat) (data : List Byte) : (State.isoSend s c prio pf ps sa data).dma = s.dma := (isoSend_keep s c prio pf ps sa data (Keep.refl s) rfl : Keep [.can] s _).only .dma (by decide)
@[simp] theorem isoSend_seq (s : State) (c : CanId) (prio : Nat) (pf : Nat) (ps : Nat) (sa : Nat) (data : List Byte) : (State.isoSend s c prio pf ps sa data).seq = s.seq := (isoSend_keep s c prio pf ps sa data (Keep.refl s) rfl : Keep [.can] s _).only .seq (by decide)
@[simp] theorem isoSend_mem (s : State) (c : CanId) (prio : Nat) (pf : Nat) (ps : Nat) (sa : Nat) (data : List Byte) : (State.isoSend s c prio pf ps sa data).mem = s.mem := (isoSend_keep s c prio pf ps sa data (Keep.refl s) rfl : Keep [.can] s _).only .mem (by decide)
@[simp] theorem sendClaim_sys (s : State) (c : CanId) (a : Nat) : (State.sendClaim s c a).sys = s.sys := (sendClaim_keep s c a (Keep.refl s) rfl : Keep [.can] s _).only .sys (by decide)
@[simp] theorem sendClaim_ports (s : State) (c : CanId) (a : Nat) : (State.sendClaim s c a).ports = s.ports := (sendClaim_keep s c a (Keep.refl s) rfl : Keep [.can] s _).only .ports (by decide)
@[simp] theorem sendClaim_banks (s : State) (c : CanId) (a : Nat) : (State.sendClaim s c a).banks = s.banks := (sendClaim_keep s c a (Keep.refl s) rfl : Keep [.can] s _).only .banks (by decide)
@[simp] theorem sendClaim_sol (s : State) (c : CanId) (a : Nat) : (State.sendClaim s c a).sol = s.sol := (sendClaim_keep s c a (Keep.refl s) rfl : Keep [.can] s _).only .sol (by decide)
@[simp] theorem sendClaim_log (s : State) (c : CanId) (a : Nat) : (State.sendClaim s c a).log = s.log := (sendClaim_keep s c a (Keep.refl s) rfl : Keep [.can] s _).only .log (by decide)
@[simp] theorem sendClaim_rcp (s : State) (c : CanId) (a : Nat) : (State.sendClaim s c a).rcp = s.rcp := (sendClaim_keep s c a (Keep.refl s) rfl : Keep [.can] s _).only .rcp (by decide)
@[simp] theorem sendClaim_sec (s : State) (c : CanId) (a : Nat) : (State.sendClaim s c a).sec = s.sec := (sendClaim_keep s c a (Keep.refl s) rfl : Keep [.can] s _).only .sec (by decide)
@[simp] theorem sendClaim_pwr (s : State) (c : CanId) (a : Nat) : (State.sendClaim s c a).pwr = s.pwr := (sendClaim_keep s c a (Keep.refl s) rfl : Keep [.can] s _).only .pwr (by decide)
@[simp] theorem sendClaim_tmb (s : State) (c : CanId) (a : Nat) : (State.sendClaim s c a).tmb = s.tmb := (sendClaim_keep s c a (Keep.refl s) rfl : Keep [.can] s _).only .tmb (by decide)
@[simp] theorem sendClaim_gns (s : State) (c : CanId) (a : Nat) : (State.sendClaim s c a).gns = s.gns := (sendClaim_keep s c a (Keep.refl s) rfl : Keep [.can] s _).only .gns (by decide)
@[simp] theorem sendClaim_hie (s : State) (c : CanId) (a : Nat) : (State.sendClaim s c a).hie = s.hie := (sendClaim_keep s c a (Keep.refl s) rfl : Keep [.can] s _).only .hie (by decide)
@[simp] theorem sendClaim_mon (s : State) (c : CanId) (a : Nat) : (State.sendClaim s c a).mon = s.mon := (sendClaim_keep s c a (Keep.refl s) rfl : Keep [.can] s _).only .mon (by decide)
@[simp] theorem sendClaim_cal (s : State) (c : CanId) (a : Nat) : (State.sendClaim s c a).cal = s.cal := (sendClaim_keep s c a (Keep.refl s) rfl : Keep [.can] s _).only .cal (by decide)
@[simp] theorem sendClaim_fan (s : State) (c : CanId) (a : Nat) : (State.sendClaim s c a).fan = s.fan := (sendClaim_keep s c a (Keep.refl s) rfl : Keep [.can] s _).only .fan (by decide)
@[simp] theorem sendClaim_eng (s : State) (c : CanId) (a : Nat) : (State.sendClaim s c a).eng = s.eng := (sendClaim_keep s c a (Keep.refl s) rfl : Keep [.can] s _).only .eng (by decide)
@[simp] theorem sendClaim_sct (s : State) (c : CanId) (a : Nat) : (State.sendClaim s c a).sct = s.sct := (sendClaim_keep s c a (Keep.refl s) rfl : Keep [.can] s _).only .sct (by decide)
@[simp] theorem sendClaim_hl (s : State) (c : CanId) (a : Nat) : (State.sendClaim s c a).hl = s.hl := (sendClaim_keep s c a (Keep.refl s) rfl : Keep [.can] s _).only .hl (by decide)
@[simp] theorem sendClaim_apu (s : State) (c : CanId) (a : Nat) : (State.sendClaim s c a).apu = s.apu := (sendClaim_keep s c a (Keep.refl s) rfl : Keep [.can] s _).only .apu (by decide)
@[simp] theorem sendClaim_dma (s : State) (c : CanId) (a : Nat) : (State.sendClaim s c a).dma = s.dma := (sendClaim_keep s c a (Keep.refl s) rfl : Keep [.can] s _).only .dma (by decide)
@[simp] theorem sendClaim_seq (s : State) (c : CanId) (a : Nat) : (State.sendClaim s c a).seq = s.seq := (sendClaim_keep s c a (Keep.refl s) rfl : Keep [.can] s _).only .seq (by decide)
@[simp] theorem sendClaim_mem (s : State) (c : CanId) (a : Nat) : (State.sendClaim s c a).mem = s.mem := (sendClaim_keep s c a (Keep.refl s) rfl : Keep [.can] s _).only .mem (by decide)
@[simp] theorem fanDrive_sys (s : State) (f : FanId) : (State.fanDrive s f).sys = s.sys := (fanDrive_keep s f (Keep.refl s) rfl : Keep [.ports] s _).only .sys (by decide)
@[simp] theorem fanDrive_banks (s : State) (f : FanId) : (State.fanDrive s f).banks = s.banks := (fanDrive_keep s f (Keep.refl s) rfl : Keep [.ports] s _).only .banks (by decide)
@[simp] theorem fanDrive_sol (s : State) (f : FanId) : (State.fanDrive s f).sol = s.sol := (fanDrive_keep s f (Keep.refl s) rfl : Keep [.ports] s _).only .sol (by decide)
@[simp] theorem fanDrive_log (s : State) (f : FanId) : (State.fanDrive s f).log = s.log := (fanDrive_keep s f (Keep.refl s) rfl : Keep [.ports] s _).only .log (by decide)
@[simp] theorem fanDrive_rcp (s : State) (f : FanId) : (State.fanDrive s f).rcp = s.rcp := (fanDrive_keep s f (Keep.refl s) rfl : Keep [.ports] s _).only .rcp (by decide)
@[simp] theorem fanDrive_sec (s : State) (f : FanId) : (State.fanDrive s f).sec = s.sec := (fanDrive_keep s f (Keep.refl s) rfl : Keep [.ports] s _).only .sec (by decide)
@[simp] theorem fanDrive_pwr (s : State) (f : FanId) : (State.fanDrive s f).pwr = s.pwr := (fanDrive_keep s f (Keep.refl s) rfl : Keep [.ports] s _).only .pwr (by decide)
@[simp] theorem fanDrive_tmb (s : State) (f : FanId) : (State.fanDrive s f).tmb = s.tmb := (fanDrive_keep s f (Keep.refl s) rfl : Keep [.ports] s _).only .tmb (by decide)
@[simp] theorem fanDrive_gns (s : State) (f : FanId) : (State.fanDrive s f).gns = s.gns := (fanDrive_keep s f (Keep.refl s) rfl : Keep [.ports] s _).only .gns (by decide)
@[simp] theorem fanDrive_hie (s : State) (f : FanId) : (State.fanDrive s f).hie = s.hie := (fanDrive_keep s f (Keep.refl s) rfl : Keep [.ports] s _).only .hie (by decide)
@[simp] theorem fanDrive_mon (s : State) (f : FanId) : (State.fanDrive s f).mon = s.mon := (fanDrive_keep s f (Keep.refl s) rfl : Keep [.ports] s _).only .mon (by decide)
@[simp] theorem fanDrive_cal (s : State) (f : FanId) : (State.fanDrive s f).cal = s.cal := (fanDrive_keep s f (Keep.refl s) rfl : Keep [.ports] s _).only .cal (by decide)
@[simp] theorem fanDrive_fan (s : State) (f : FanId) : (State.fanDrive s f).fan = s.fan := (fanDrive_keep s f (Keep.refl s) rfl : Keep [.ports] s _).only .fan (by decide)
@[simp] theorem fanDrive_eng (s : State) (f : FanId) : (State.fanDrive s f).eng = s.eng := (fanDrive_keep s f (Keep.refl s) rfl : Keep [.ports] s _).only .eng (by decide)
@[simp] theorem fanDrive_sct (s : State) (f : FanId) : (State.fanDrive s f).sct = s.sct := (fanDrive_keep s f (Keep.refl s) rfl : Keep [.ports] s _).only .sct (by decide)
@[simp] theorem fanDrive_can (s : State) (f : FanId) : (State.fanDrive s f).can = s.can := (fanDrive_keep s f (Keep.refl s) rfl : Keep [.ports] s _).only .can (by decide)
@[simp] theorem fanDrive_hl (s : State) (f : FanId) : (State.fanDrive s f).hl = s.hl := (fanDrive_keep s f (Keep.refl s) rfl : Keep [.ports] s _).only .hl (by decide)
@[simp] theorem fanDrive_apu (s : State) (f : FanId) : (State.fanDrive s f).apu = s.apu := (fanDrive_keep s f (Keep.refl s) rfl : Keep [.ports] s _).only .apu (by decide)
@[simp] theorem fanDrive_dma (s : State) (f : FanId) : (State.fanDrive s f).dma = s.dma := (fanDrive_keep s f (Keep.refl s) rfl : Keep [.ports] s _).only .dma (by decide)
@[simp] theorem fanDrive_seq (s : State) (f : FanId) : (State.fanDrive s f).seq = s.seq := (fanDrive_keep s f (Keep.refl s) rfl : Keep [.ports] s _).only .seq (by decide)
@[simp] theorem fanDrive_mem (s : State) (f : FanId) : (State.fanDrive s f).mem = s.mem := (fanDrive_keep s f (Keep.refl s) rfl : Keep [.ports] s _).only .mem (by decide)
@[simp] theorem fanIssueOff_banks (s : State) (f : FanId) : (State.fanIssueOff s f).banks = s.banks := (fanIssueOff_keep s f (Keep.refl s) rfl : Keep [.sys, .ports, .sol, .hie, .mon] s _).only .banks (by decide)
@[simp] theorem fanIssueOff_log (s : State) (f : FanId) : (State.fanIssueOff s f).log = s.log := (fanIssueOff_keep s f (Keep.refl s) rfl : Keep [.sys, .ports, .sol, .hie, .mon] s _).only .log (by decide)
@[simp] theorem fanIssueOff_rcp (s : State) (f : FanId) : (State.fanIssueOff s f).rcp = s.rcp := (fanIssueOff_keep s f (Keep.refl s) rfl : Keep [.sys, .ports, .sol, .hie, .mon] s _).only .rcp (by decide)
@[simp] theorem fanIssueOff_sec (s : State) (f : FanId) : (State.fanIssueOff s f).sec = s.sec := (fanIssueOff_keep s f (Keep.refl s) rfl : Keep [.sys, .ports, .sol, .hie, .mon] s _).only .sec (by decide)
@[simp] theorem fanIssueOff_pwr (s : State) (f : FanId) : (State.fanIssueOff s f).pwr = s.pwr := (fanIssueOff_keep s f (Keep.refl s) rfl : Keep [.sys, .ports, .sol, .hie, .mon] s _).only .pwr (by decide)
@[simp] theorem fanIssueOff_tmb (s : State) (f : FanId) : (State.fanIssueOff s f).tmb = s.tmb := (fanIssueOff_keep s f (Keep.refl s) rfl : Keep [.sys, .ports, .sol, .hie, .mon] s _).only .tmb (by decide)
@[simp] theorem fanIssueOff_gns (s : State) (f : FanId) : (State.fanIssueOff s f).gns = s.gns := (fanIssueOff_keep s f (Keep.refl s) rfl : Keep [.sys, .ports, .sol, .hie, .mon] s _).only .gns (by decide)
@[simp] theorem fanIssueOff_cal (s : State) (f : FanId) : (State.fanIssueOff s f).cal = s.cal := (fanIssueOff_keep s f (Keep.refl s) rfl : Keep [.sys, .ports, .sol, .hie, .mon] s _).only .cal (by decide)
@[simp] theorem fanIssueOff_fan (s : State) (f : FanId) : (State.fanIssueOff s f).fan = s.fan := (fanIssueOff_keep s f (Keep.refl s) rfl : Keep [.sys, .ports, .sol, .hie, .mon] s _).only .fan (by decide)
@[simp] theorem fanIssueOff_eng (s : State) (f : FanId) : (State.fanIssueOff s f).eng = s.eng := (fanIssueOff_keep s f (Keep.refl s) rfl : Keep [.sys, .ports, .sol, .hie, .mon] s _).only .eng (by decide)
@[simp] theorem fanIssueOff_sct (s : State) (f : FanId) : (State.fanIssueOff s f).sct = s.sct := (fanIssueOff_keep s f (Keep.refl s) rfl : Keep [.sys, .ports, .sol, .hie, .mon] s _).only .sct (by decide)
@[simp] theorem fanIssueOff_can (s : State) (f : FanId) : (State.fanIssueOff s f).can = s.can := (fanIssueOff_keep s f (Keep.refl s) rfl : Keep [.sys, .ports, .sol, .hie, .mon] s _).only .can (by decide)
@[simp] theorem fanIssueOff_hl (s : State) (f : FanId) : (State.fanIssueOff s f).hl = s.hl := (fanIssueOff_keep s f (Keep.refl s) rfl : Keep [.sys, .ports, .sol, .hie, .mon] s _).only .hl (by decide)
@[simp] theorem fanIssueOff_apu (s : State) (f : FanId) : (State.fanIssueOff s f).apu = s.apu := (fanIssueOff_keep s f (Keep.refl s) rfl : Keep [.sys, .ports, .sol, .hie, .mon] s _).only .apu (by decide)
@[simp] theorem fanIssueOff_dma (s : State) (f : FanId) : (State.fanIssueOff s f).dma = s.dma := (fanIssueOff_keep s f (Keep.refl s) rfl : Keep [.sys, .ports, .sol, .hie, .mon] s _).only .dma (by decide)
@[simp] theorem fanIssueOff_seq (s : State) (f : FanId) : (State.fanIssueOff s f).seq = s.seq := (fanIssueOff_keep s f (Keep.refl s) rfl : Keep [.sys, .ports, .sol, .hie, .mon] s _).only .seq (by decide)
@[simp] theorem fanIssueOff_mem (s : State) (f : FanId) : (State.fanIssueOff s f).mem = s.mem := (fanIssueOff_keep s f (Keep.refl s) rfl : Keep [.sys, .ports, .sol, .hie, .mon] s _).only .mem (by decide)
@[simp] theorem fanOn_banks (s : State) (f : FanId) : (State.fanOn s f).1.banks = s.banks := (fanOn_keep s f (Keep.refl s) rfl : Keep [.sys, .ports, .sol, .log, .hie, .mon] s _).only .banks (by decide)
@[simp] theorem fanOn_rcp (s : State) (f : FanId) : (State.fanOn s f).1.rcp = s.rcp := (fanOn_keep s f (Keep.refl s) rfl : Keep [.sys, .ports, .sol, .log, .hie, .mon] s _).only .rcp (by decide)
@[simp] theorem fanOn_sec (s : State) (f : FanId) : (State.fanOn s f).1.sec = s.sec := (fanOn_keep s f (Keep.refl s) rfl : Keep [.sys, .ports, .sol, .log, .hie, .mon] s _).only .sec (by decide)
@[simp] theorem fanOn_pwr (s : State) (f : FanId) : (State.fanOn s f).1.pwr = s.pwr := (fanOn_keep s f (Keep.refl s) rfl : Keep [.sys, .ports, .sol, .log, .hie, .mon] s _).only .pwr (by decide)
@[simp] theorem fanOn_tmb (s : State) (f : FanId) : (State.fanOn s f).1.tmb = s.tmb := (fanOn_keep s f (Keep.refl s) rfl : Keep [.sys, .ports, .sol, .log, .hie, .mon] s _).only .tmb (by decide)
@[simp] theorem fanOn_gns (s : State) (f : FanId) : (State.fanOn s f).1.gns = s.gns := (fanOn_keep s f (Keep.refl s) rfl : Keep [.sys, .ports, .sol, .log, .hie, .mon] s _).only .gns (by decide)
@[simp] theorem fanOn_cal (s : State) (f : FanId) : (State.fanOn s f).1.cal = s.cal := (fanOn_keep s f (Keep.refl s) rfl : Keep [.sys, .ports, .sol, .log, .hie, .mon] s _).only .cal (by decide)
@[simp] theorem fanOn_fan (s : State) (f : FanId) : (State.fanOn s f).1.fan = s.fan := (fanOn_keep s f (Keep.refl s) rfl : Keep [.sys, .ports, .sol, .log, .hie, .mon] s _).only .fan (by decide)
@[simp] theorem fanOn_eng (s : State) (f : FanId) : (State.fanOn s f).1.eng = s.eng := (fanOn_keep s f (Keep.refl s) rfl : Keep [.sys, .ports, .sol, .log, .hie, .mon] s _).only .eng (by decide)
@[simp] theorem fanOn_sct (s : State) (f : FanId) : (State.fanOn s f).1.sct = s.sct := (fanOn_keep s f (Keep.refl s) rfl : Keep [.sys, .ports, .sol, .log, .hie, .mon] s _).only .sct (by decide)
@[simp] theorem fanOn_can (s : State) (f : FanId) : (State.fanOn s f).1.can = s.can := (fanOn_keep s f (Keep.refl s) rfl : Keep [.sys, .ports, .sol, .log, .hie, .mon] s _).only .can (by decide)
@[simp] theorem fanOn_hl (s : State) (f : FanId) : (State.fanOn s f).1.hl = s.hl := (fanOn_keep s f (Keep.refl s) rfl : Keep [.sys, .ports, .sol, .log, .hie, .mon] s _).only .hl (by decide)
@[simp] theorem fanOn_apu (s : State) (f : FanId) : (State.fanOn s f).1.apu = s.apu := (fanOn_keep s f (Keep.refl s) rfl : Keep [.sys, .ports, .sol, .log, .hie, .mon] s _).only .apu (by decide)
@[simp] theorem fanOn_dma (s : State) (f : FanId) : (State.fanOn s f).1.dma = s.dma := (fanOn_keep s f (Keep.refl s) rfl : Keep [.sys, .ports, .sol, .log, .hie, .mon] s _).only .dma (by decide)
@[simp] theorem fanOn_seq (s : State) (f : FanId) : (State.fanOn s f).1.seq = s.seq := (fanOn_keep s f (Keep.refl s) rfl : Keep [.sys, .ports, .sol, .log, .hie, .mon] s _).only .seq (by decide)
@[simp] theorem fanOn_mem (s : State) (f : FanId) : (State.fanOn s f).1.mem = s.mem := (fanOn_keep s f (Keep.refl s) rfl : Keep [.sys, .ports, .sol, .log, .hie, .mon] s _).only .mem (by decide)
@[simp] theorem sessEmit_ports (s : State) (code : Nat) (k : SessId) (a : Nat) (b : Nat) : (State.sessEmit s code k a b).ports = s.ports := (sessEmit_keep s code k a b (Keep.refl s) rfl : Keep [.sys, .log, .mon] s _).only .ports (by decide)
@[simp] theorem sessEmit_banks (s : State) (code : Nat) (k : SessId) (a : Nat) (b : Nat) : (State.sessEmit s code k a b).banks = s.banks := (sessEmit_keep s code k a b (Keep.refl s) rfl : Keep [.sys, .log, .mon] s _).only .banks (by decide)
@[simp] theorem sessEmit_sol (s : State) (code : Nat) (k : SessId) (a : Nat) (b : Nat) : (State.sessEmit s code k a b).sol = s.sol := (sessEmit_keep s code k a b (Keep.refl s) rfl : Keep [.sys, .log, .mon] s _).only .sol (by decide)
@[simp] theorem sessEmit_rcp (s : State) (code : Nat) (k : SessId) (a : Nat) (b : Nat) : (State.sessEmit s code k a b).rcp = s.rcp := (sessEmit_keep s code k a b (Keep.refl s) rfl : Keep [.sys, .log, .mon] s _).only .rcp (by decide)
@[simp] theorem sessEmit_sec (s : State) (code : Nat) (k : SessId) (a : Nat) (b : Nat) : (State.sessEmit s code k a b).sec = s.sec := (sessEmit_keep s code k a b (Keep.refl s) rfl : Keep [.sys, .log, .mon] s _).only .sec (by decide)
@[simp] theorem sessEmit_pwr (s : State) (code : Nat) (k : SessId) (a : Nat) (b : Nat) : (State.sessEmit s code k a b).pwr = s.pwr := (sessEmit_keep s code k a b (Keep.refl s) rfl : Keep [.sys, .log, .mon] s _).only .pwr (by decide)
@[simp] theorem sessEmit_tmb (s : State) (code : Nat) (k : SessId) (a : Nat) (b : Nat) : (State.sessEmit s code k a b).tmb = s.tmb := (sessEmit_keep s code k a b (Keep.refl s) rfl : Keep [.sys, .log, .mon] s _).only .tmb (by decide)
@[simp] theorem sessEmit_gns (s : State) (code : Nat) (k : SessId) (a : Nat) (b : Nat) : (State.sessEmit s code k a b).gns = s.gns := (sessEmit_keep s code k a b (Keep.refl s) rfl : Keep [.sys, .log, .mon] s _).only .gns (by decide)
@[simp] theorem sessEmit_hie (s : State) (code : Nat) (k : SessId) (a : Nat) (b : Nat) : (State.sessEmit s code k a b).hie = s.hie := (sessEmit_keep s code k a b (Keep.refl s) rfl : Keep [.sys, .log, .mon] s _).only .hie (by decide)
@[simp] theorem sessEmit_cal (s : State) (code : Nat) (k : SessId) (a : Nat) (b : Nat) : (State.sessEmit s code k a b).cal = s.cal := (sessEmit_keep s code k a b (Keep.refl s) rfl : Keep [.sys, .log, .mon] s _).only .cal (by decide)
@[simp] theorem sessEmit_fan (s : State) (code : Nat) (k : SessId) (a : Nat) (b : Nat) : (State.sessEmit s code k a b).fan = s.fan := (sessEmit_keep s code k a b (Keep.refl s) rfl : Keep [.sys, .log, .mon] s _).only .fan (by decide)
@[simp] theorem sessEmit_eng (s : State) (code : Nat) (k : SessId) (a : Nat) (b : Nat) : (State.sessEmit s code k a b).eng = s.eng := (sessEmit_keep s code k a b (Keep.refl s) rfl : Keep [.sys, .log, .mon] s _).only .eng (by decide)
@[simp] theorem sessEmit_sct (s : State) (code : Nat) (k : SessId) (a : Nat) (b : Nat) : (State.sessEmit s code k a b).sct = s.sct := (sessEmit_keep s code k a b (Keep.refl s) rfl : Keep [.sys, .log, .mon] s _).only .sct (by decide)
@[simp] theorem sessEmit_can (s : State) (code : Nat) (k : SessId) (a : Nat) (b : Nat) : (State.sessEmit s code k a b).can = s.can := (sessEmit_keep s code k a b (Keep.refl s) rfl : Keep [.sys, .log, .mon] s _).only .can (by decide)
@[simp] theorem sessEmit_hl (s : State) (code : Nat) (k : SessId) (a : Nat) (b : Nat) : (State.sessEmit s code k a b).hl = s.hl := (sessEmit_keep s code k a b (Keep.refl s) rfl : Keep [.sys, .log, .mon] s _).only .hl (by decide)
@[simp] theorem sessEmit_apu (s : State) (code : Nat) (k : SessId) (a : Nat) (b : Nat) : (State.sessEmit s code k a b).apu = s.apu := (sessEmit_keep s code k a b (Keep.refl s) rfl : Keep [.sys, .log, .mon] s _).only .apu (by decide)
@[simp] theorem sessEmit_dma (s : State) (code : Nat) (k : SessId) (a : Nat) (b : Nat) : (State.sessEmit s code k a b).dma = s.dma := (sessEmit_keep s code k a b (Keep.refl s) rfl : Keep [.sys, .log, .mon] s _).only .dma (by decide)
@[simp] theorem sessEmit_seq (s : State) (code : Nat) (k : SessId) (a : Nat) (b : Nat) : (State.sessEmit s code k a b).seq = s.seq := (sessEmit_keep s code k a b (Keep.refl s) rfl : Keep [.sys, .log, .mon] s _).only .seq (by decide)
@[simp] theorem sessEmit_mem (s : State) (code : Nat) (k : SessId) (a : Nat) (b : Nat) : (State.sessEmit s code k a b).mem = s.mem := (sessEmit_keep s code k a b (Keep.refl s) rfl : Keep [.sys, .log, .mon] s _).only .mem (by decide)

theorem rw_of {s t : State} (h : t.rcp = s.rcp) (a b c d : Nat) : t.rw a b c d = s.rw a b c d := by simp only [State.rw, h]
theorem func_of {s t : State} (h : t.rcp = s.rcp) (p : PortId) : t.func p = s.func p := by simp only [State.func, State.portCfg, rw_of h]
theorem lead_of {s t : State} (h : t.rcp = s.rcp) (p : PortId) : t.lead p = s.lead p := by
  have e1 : t.parSize p = s.parSize p := by simp only [State.parSize, State.portCfg, rw_of h]
  have e2 : t.parPos p = s.parPos p := by simp only [State.parPos, State.portCfg, rw_of h]
  unfold State.lead
  rw [e1, e2]
theorem members_of {s t : State} (h : t.rcp = s.rcp) (p : PortId) : t.members p = s.members p := by simp only [State.members, lead_of h]

/-- A group set and settled: each member has the new value but for STATE, and no other port has changed. -/
theorem settle_setPorts_get (s : State) (p q : PortId) (f : Port → Port) : ∃ x, ((s.setPorts (s.members p) f).settle p).ports[q] = (if q ∈ s.members p then { f s.ports[q] with status := x } else s.ports[q]) := by
  obtain ⟨x, h, h'⟩ := settle_get (s.setPorts (s.members p) f) p q
  rw [members_of (setPorts_rcp s _ _)] at h'
  rw [setPorts_get] at h h'
  refine ⟨x, ?_⟩
  split
  · rename_i hq
    rw [h, if_pos (by simpa using hq)]
  · rename_i hq
    rw [h, h' hq, if_neg (by simpa using hq)]

/-- A command that passes its gate acts, and is answered with the status of its effect. -/
theorem gated_ok (s : State) (k : SessId) (g : Status) (go : State → State × Status) (h : g = .ok) : s.gated k g go = (go s).1.answer (s.me k) (go s).2 := by
  rw [h]; rfl

/-- A command that its gate turns away is answered with the gate's status, and nothing else happens. -/
theorem gated_refused (s : State) (k : SessId) (g : Status) (go : State → State × Status) (h : g ≠ .ok) : s.gated k g go = s.answer (s.me k) g := by
  cases g <;> first | exact absurd rfl h | rfl

/-- A command of a session that passes its gate and acts: what has changed is what its effect changes, and its answer is OK. -/
theorem gated_acts {fr : List Part} {s u : State} {k : SessId} {g : Status} {go : State → State × Status} (hg : g = .ok) (hr : go s = (u, .ok)) (hk : Keep fr s u) (hp : Part.sys ∈ fr) :
    s.gated k g go = { u with sys := { u.sys with answers := ⟨s.me k, .ok⟩ :: u.sys.answers } } ∧
    State.Only fr s { u with sys := { u.sys with answers := ⟨s.me k, .ok⟩ :: u.sys.answers } } := by
  refine ⟨?_, hk.pend, fun p hn => ?_⟩
  · rw [gated_ok s k g go hg, hr]; rfl
  · have h := hk.only p hn
    cases p <;> first | exact absurd hp hn | exact h

/-! What no operation on a queue, a counter or an answer changes: the fabric tick. -/
theorem count_ticks (s : State) (a n : Nat) : (s.count a n).sys.ticks = s.sys.ticks := by rw [State.count_sys]
theorem emit_ticks (s : State) (e : Ev) : (s.emit e).sys.ticks = s.sys.ticks := by
  have hl : ∀ (t : State) e k b, (t.loseEvent e k b).sys.ticks = t.sys.ticks := fun t e k b => by
    unfold State.loseEvent
    show (State.count _ _ _).sys.ticks = _
    rw [State.count_sys]; rfl
  have hs : ∀ (t : State) k b, (t.suppress k b).sys.ticks = t.sys.ticks := fun t k b => by
    unfold State.suppress
    show (State.count _ _ _).sys.ticks = _
    rw [State.count_sys]; rfl
  unfold State.emit
  dsimp only
  split
  · split
    · rfl
    · exact hl _ _ _ _
  · split
    · exact hs _ _ _
    · split
      · rfl
      · exact hl _ _ _ _
theorem emitAll_ticks (s : State) (l : List Ev) : (s.emitAll l).sys.ticks = s.sys.ticks := by
  unfold State.emitAll
  generalize evSort l = m
  induction m generalizing s with
  | nil => rfl
  | cons e m ih => exact (ih _).trans (emit_ticks s e)
theorem send_ticks (s : State) (c d : Nat) (b : List Byte) : (s.send c d b).1.sys.ticks = s.sys.ticks := by
  unfold State.send
  split
  · simp only [State.noteFill, State.onHie]
  · simp only [State.noteOvf]
theorem answer_ticks (s : State) (src : Src) (st : Status) : (s.answer src st).sys.ticks = s.sys.ticks := by
  unfold State.answer
  dsimp only
  have e : (if st = .interlock then s.count 6 1 else s).sys.ticks = s.sys.ticks := by
    split
    · rw [State.count_sys]
    · rfl
  generalize (if st = .interlock then s.count 6 1 else s) = u at e ⊢
  split
  · exact (send_ticks u _ _ _).trans e
  · exact e
theorem complete_ticks (s : State) (src : Option Src) (st : Status) : (s.complete src st).sys.ticks = s.sys.ticks := by
  unfold State.complete
  split
  · rfl
  · rfl
  · rfl
  · exact answer_ticks _ _ _
theorem emit_answers (s : State) (e : Ev) : (s.emit e).sys.answers = s.sys.answers := by
  have hl : ∀ (t : State) e k b, (t.loseEvent e k b).sys.answers = t.sys.answers := fun t e k b => by
    unfold State.loseEvent
    show (State.count _ _ _).sys.answers = _
    rw [State.count_sys]; rfl
  have hs : ∀ (t : State) k b, (t.suppress k b).sys.answers = t.sys.answers := fun t k b => by
    unfold State.suppress
    show (State.count _ _ _).sys.answers = _
    rw [State.count_sys]; rfl
  unfold State.emit
  dsimp only
  split
  · split
    · rfl
    · exact hl _ _ _ _
  · split
    · exact hs _ _ _
    · split
      · rfl
      · exact hl _ _ _ _
theorem emitAll_answers (s : State) (l : List Ev) : (s.emitAll l).sys.answers = s.sys.answers := by
  unfold State.emitAll
  generalize evSort l = m
  induction m generalizing s with
  | nil => rfl
  | cons e m ih => exact (ih _).trans (emit_answers s e)

/-- A queue's marks apart, an event changes nothing of the system registers. -/
theorem emit_sys (s : State) (e : Ev) : ∃ q, (s.emit e).sys = { s.sys with qstat := q } := by
  have hl : ∀ (t : State) e k b, ∃ q, (t.loseEvent e k b).sys = { t.sys with qstat := q } := fun t e k b => by
    unfold State.loseEvent
    show ∃ q, (State.count _ _ _).sys = _
    rw [State.count_sys]; exact ⟨_, rfl⟩
  have hs : ∀ (t : State) k b, ∃ q, (t.suppress k b).sys = { t.sys with qstat := q } := fun t k b => by
    unfold State.suppress
    show ∃ q, (State.count _ _ _).sys = _
    rw [State.count_sys]; exact ⟨_, rfl⟩
  unfold State.emit
  dsimp only
  split
  · split
    · exact ⟨_, rfl⟩
    · exact hl _ _ _ _
  · split
    · exact hs _ _ _
    · split
      · exact ⟨_, rfl⟩
      · exact hl _ _ _ _
theorem emitAll_sys (s : State) (l : List Ev) : ∃ q, (s.emitAll l).sys = { s.sys with qstat := q } := by
  unfold State.emitAll
  generalize evSort l = m
  induction m generalizing s with
  | nil => exact ⟨_, rfl⟩
  | cons e m ih =>
    obtain ⟨q, h⟩ := ih (s.emit e)
    obtain ⟨r, h'⟩ := emit_sys s e
    exact ⟨q, by rw [List.foldl_cons, h, h']⟩
theorem send_sys (s : State) (c d : Nat) (b : List Byte) : ∃ q, (s.send c d b).1.sys = { s.sys with qstat := q } := by
  unfold State.send
  split
  · exact ⟨_, rfl⟩
  · exact ⟨_, rfl⟩

end Sys2Proof.Machine
end

