-- ==== Sys2Proof/WellFormed.lean ====
section
/-! DEFINITION. When the operands of a command lie in the ranges that the manual gives their registers and fields. -/

namespace Sys2Proof

/-- A number below a bound. -/
def below (n v : Nat) : Bool := decide (v < n)
/-- An integer of magnitude below a bound. -/
def within (n : Nat) (v : Int) : Bool := decide (v.natAbs < n)
/-- An instant of T in 2^-32 s: 48 bits of seconds and 32 of fraction (R4). -/
def instants : Nat := 2 ^ 80
/-- A time in 2^-72 s. -/
def instants72 : Nat := 2 ^ 120
/-- Seconds of T (R4). -/
def seconds : Nat := 2 ^ 48
/-- An instant in 0.25 ns. -/
def edges : Nat := 2 ^ 48 * 4000000000
/-- A current in 1/256 A, as converters give it (R37). -/
def amps (i : Int) : Bool := within 32768 i
/-- An address of the space of 4 GB (R5). -/
def addr32 (a : Nat) : Bool := below 4294967296 a
/-- An ADDR of the hierarchy (R225): 0 to 62. -/
def hierAddr (a : Nat) : Bool := below 63 a
/-- A PRN of GPS. -/
def satellite (p : Nat) : Bool := decide (1 ≤ p) && below 33 p
/-- A list of at least `a` and at most `b` items. -/
def lenIn {α : Type} (a b : Nat) (l : List α) : Bool := decide (a ≤ l.length) && decide (l.length ≤ b)

/-- The readings of a port cell (R37). -/
def senseOk (m : Sense) : Bool := amps m.iMean && below 32768 m.iPeak && below 65536 m.vbank && below 65536 m.vpin && below 256 m.tj

/-- A solution: latitude and longitude on the earth, heading in 0.01 degree (R192). -/
def fixOk (v : Fix) : Bool :=
  below instants v.instant && decide (v.lat.natAbs ≤ 900000000) && decide (v.lon.natAbs ≤ 1800000000) && below 36000 v.hdg

/-- A frame whose identifier and data length fit its format (R254). -/
def frameOk (x : CanFrame) : Bool :=
  below (if x.xtd then 536870912 else 2048) x.id && below 16 x.dlc && lenIn 0 (if x.fdf then 64 else 8) x.data && !(x.rtr && x.fdf)

/-- A verification failure: an ERRC and a section ID (R291). -/
def errOk (b : Option (Nat × Nat)) : Bool := match b with | some (e, s) => below 256 e && below 256 s | none => true

/-- The address of a peer. -/
def peerOk (p : Peer) : Bool := match p with | .eth ip port => below 4294967296 ip && below 65536 port | .can _ => true

/-- The operands of a command lie in their ranges. -/
def wellFormed (i : Instr) : Bool :=
  match i with
  | .registerWrite a _ _ => addr32 a
  | .interlockInputChange => true
  | .timedCommandExecute _ => true
  | .hwmRst _ _ => true
  | .ovfClr _ _ => true
  | .modeRequest _ _ => true
  | .pipelineBUp => true
  | .modeSwitchEdge => true
  | .portCmdOn _ dur _ => below 65536 dur
  | .portCmdOff _ _ => true
  | .portPwmPerWrite _ _ _ => true
  | .portPwmPhWrite _ _ _ => true
  | .portFaultClear _ _ _ => true
  | .carrierInstant _ => true
  | .regulatorUpdate _ m => senseOk m
  | .inputUpdate _ mean instant => within 0x80000000 mean && below instants instant
  | .tachEdge _ instant => below instants instant
  | .tachStale _ => true
  | .digitalOutputDurEnd _ => true
  | .shortDetect _ _ i => amps i
  | .overcurrentDetect _ i => amps i
  | .timeOverLimit _ i => amps i
  | .overtempDetect _ tj => below 256 tj
  | .openLoadDetect _ i => amps i
  | .shareImbalance _ i => amps i
  | .inputFaultDetect _ _ => true
  | .inputFaultEnd _ _ => true
  | .burdenReconnect _ => true
  | .bankOverload _ load => amps load
  | .bankTrip _ load => amps load
  | .bankOverloadEnd _ load => amps load
  | .portRetry _ => true
  | .retryCountReset _ => true
  | .endOfStroke _ delay vbank => below 16777216 delay && below 65536 vbank
  | .hitEnd _ => true
  | .bridgeEnd _ => true
  | .holdEnd _ => true
  | .endOfTravel _ delay vbank => below 16777216 delay && below 65536 vbank
  | .releaseEnd _ i => amps i
  | .releaseTimeout _ i => amps i
  | .deferredHitStart _ => true
  | .hitDeferredTimeout _ => true
  | .coilModelUpdate _ irmsSq housing => below 4294967296 irmsSq && within 1000000 housing
  | .windingResistanceWindow _ v i least _ => below 65536 v && below 32768 i && below 32768 least
  | .delayTableSave => true
  | .solDselWrite _ _ => true
  | .solDclr _ _ => true
  | .fanEvaluation _ => true
  | .fanKickTimeout _ mean => amps mean
  | .fanPauseEnd _ => true
  | .fanStall _ => true
  | .tachJudgement _ mean => amps mean
  | .fanTachRestored _ => true
  | .fanTempFault _ => true
  | .enable _ _ => true
  | .disable _ _ => true
  | .test _ _ => true
  | .restart _ _ => true
  | .fanMdutyWrite _ _ _ => true
  | .fanHtempWrite _ _ _ => true
  | .ageingSample _ vbank freq _ => below 65536 vbank && below 4294967296 freq
  | .fanAgeSave => true
  | .fanAgeclr _ _ _ => true
  | .thermTrip _ _ sensor => within 4096 sensor
  | .slotTrigger _ instant latency _ xs => below instants instant && below 4294967296 latency && xs.all fun x => below 4294967296 x.1
  | .followingError _ => true
  | .feedbackLost _ => true
  | .setpointLost _ => true
  | .swap _ _ => true
  | .clrflt _ _ => true
  | .rstats _ _ => true
  | .slotModeRequest _ _ _ => true
  | .slotSpWrite _ _ _ => true
  | .slotManoutWrite _ _ _ => true
  | .slotBankWordWrite _ _ _ _ _ => true
  | .takeStart _ => true
  | .takeAbort _ => true
  | .ratemUpdate milliC _ => within 1000000 milliC
  | .offsetMeasurement bias _ => within instants72 bias
  | .judgement mean _ => within instants72 mean
  | .judgementAfresh mean _ => within instants72 mean
  | .timeStep => true
  | .timeLocked => true
  | .lockLost => true
  | .timeHoldover => true
  | .timeHoldoverExpired => true
  | .gnssSolutionTimeout => true
  | .rtcLoad secs => below seconds secs
  | .rtcSave => true
  | .tpPulse => true
  | .tmbFracRead _ => true
  | .tmbRatelRead _ => true
  | .set _ => true
  | .resteer _ _ => true
  | .oscillatorModelSave => true
  | .gnssRestart above _ => above.all satellite
  | .gnssCold _ => true
  | .gnssRateWrite _ _ => true
  | .channelAssign _ prn => satellite prn
  | .searchEnd _ _ => true
  | .pullinEnd _ _ => true
  | .bitSync _ => true
  | .preambleConfirmed _ _ => true
  | .reacqEntry _ => true
  | .reacqEnd _ _ => true
  | .gnssChannelFault _ => true
  | .gnssAntFault _ i v => below 65536 i && below 65536 v
  | .antBiasRetry i v => below 65536 i && below 65536 v
  | .dutyWindow _ => true
  | .measurementEpoch ms => decide (ms.map GnsMeas.chan).Nodup
  | .navWord _ w => below 11 w.number && below 8 w.subframe && below instants w.instant
  | .pvtSolution v => fixOk v
  | .gnssFixLost => true
  | .sectionEvaluation _ => true
  | .sectRefusePauseEnd _ => true
  | .engage _ => true
  | .engageExt _ => true
  | .disengage _ => true
  | .setOn _ => true
  | .setOff _ => true
  | .bcheck _ => true
  | .sectionClrflt _ => true
  | .boundaryWrite a _ _ => addr32 a
  | .extPositionFrame _ name => below 18446744073709551616 name
  | .sectPosLost => true
  | .speedDisagree => true
  | .speedDisagreeEnd => true
  | .tcSetpoint d _ => below 8 d
  | .tcLost => true
  | .strapChange addr => hierAddr addr
  | .bmark edge => below edges edge
  | .beacon hop cum ms sec q _ n _ _ => below 64 hop && below 16777216 cum && below 1000 ms && below seconds sec && below 8 q && below 16 n
  | .beaconSend => true
  | .ereq => true
  | .echoRequest edge => below edges edge
  | .ersp tat crc edge => below 4096 tat && below 256 crc && below edges edge
  | .echoFail => true
  | .linkDown _ => true
  | .linkUp _ => true
  | .flag _ orig idx _ crc => below 64 orig && below 64 idx && below 256 crc
  | .flagSend _ => true
  | .xflagFailed _ => true
  | .hopfail _ rep _ crc => below 64 rep && below 256 crc
  | .data _ dst _ _ payload crc => below 64 dst && lenIn 1 32 payload && below 65536 crc
  | .can3Segment sender data => hierAddr sender && lenIn 1 64 data
  | .heartbeatSend => true
  | .heartbeat sender b => hierAddr sender && lenIn 1 2028 b
  | .timedCmd sender b => hierAddr sender && lenIn 1 2028 b
  | .cmdDone sender b => hierAddr sender && lenIn 1 2028 b
  | .reserve sender b => hierAddr sender && lenIn 1 2028 b
  | .lgDesc sender b => hierAddr sender && lenIn 1 2028 b
  | .lgStop sender b => hierAddr sender && lenIn 1 2028 b
  | .delayTab sender b => hierAddr sender && lenIn 1 2028 b
  | .release sender b => hierAddr sender && lenIn 1 2028 b
  | .workerLost _ => true
  | .managerLost => true
  | .workerRelease _ => true
  | .hieRelease _ _ => true
  | .orphanRampStep => true
  | .lgStart _ _ => true
  | .lgStopCmd _ _ => true
  | .lgStarted _ => true
  | .lgStopped _ => true
  | .lgMemberPlace _ _ => true
  | .lgMemberJoined _ _ => true
  | .canIntegrated _ => true
  | .enqueue _ _ => true
  | .abort _ h _ => below 65536 h
  | .abortAll _ _ => true
  | .abortEnq _ _ => true
  | .txAttempt _ => true
  | .txAttemptEnd _ _ tdcv => (tdcv.getD 0 < 128)
  | .canFrameRx _ x sof => frameOk x && below instants sof
  | .canError _ _ _ => true
  | .canBusOffRecovered _ => true
  | .recover _ _ => true
  | .clrcnt _ _ => true
  | .opmodeWrite _ m _ _ => below 4 m
  | .canEwlWrite _ _ _ => true
  | .canMsgrel _ _ _ => true
  | .isoAddrClaim _ _ => true
  | .isoTpPacket _ src dst _ => below 256 src && below 256 dst
  | .isoTpTimeout _ _ => true
  | .canWake _ => true
  | .write _ _ => true
  | .recipeWritten bad => errOk bad
  | .discard _ => true
  | .recipeRestart _ => true
  | .reload _ => true
  | .reloadCommit => true
  | .reloadDone => true
  | .reloadAborted => true
  | .hello p body => peerOk p && lenIn 0 1024 body
  | .finish _ frame => lenIn 12 1052 frame
  | .handshakeTimeout _ => true
  | .read _ _ tag addr count => below 65536 tag && addr32 addr && below 65536 count
  | .hostWrite _ _ tag addr ws => below 65536 tag && addr32 addr && lenIn 0 65535 ws
  | .ping _ _ tag addr => below 65536 tag && addr32 addr
  | .close _ => true
  | .sessionLifetimeEnd _ => true
  | .sessionIdleEnd _ => true
  | .fuse _ _ => true
  | .revoke _ _ => true
  | .hkeyInstall _ => true
  | .rotate _ => true
  | .epochRotationDue => true
  | .keyRotate sender b => hierAddr sender && lenIn 1 2028 b
  | .epochActivation => true
  | .keyStale => true
  | .counterFloorWrite => true
  | .attest _ => true
  | .dbgChallenge _ => true
  | .dbgUnlock _ => true
  | .dbgLock _ => true
  | .debugDurationEnd => true
  | .challengeExpiry => true
  | .tamperAck _ => true
  | .rtWrite _ _ => true
  | .secClose _ => true
  | .tamperDetected _ => true
  | .rollbackFloorRaise => true
  | .ethernetFrameRx b => lenIn 0 1518 b
  | .hostLinkDown _ => true
  | .save _ => true
  | .can0Segment _ data => lenIn 1 64 data
  | .grant _ => true
  | .free _ _ => true
  | .freeall _ => true
  | .claim _ _ => true
  | .dmaRelease _ _ => true
  | .dmaStart _ _ => true
  | .dmaAbort _ _ => true
  | .resume _ _ => true
  | .rdptrWrite _ _ _ => true
  | .dmaBurst => true
  | .descriptorDone _ => true
  | .dmaFault _ k ecc => below 64 k && addr32 (ecc.getD 0)
  | .faultRecordQueued _ => true
  | .seqEvaluation _ => true
  | .seqStart _ _ => true
  | .seqStop _ _ => true
  | .seqPause _ _ => true
  | .seqResume _ _ => true
  | .seqHcmdWrite _ _ _ => true
  | .recordCommit => true
  | .lostEvents => true
  | .recorderStart _ => true
  | .recWindowRead _ _ => true
  | .recWinseqRead _ => true
  | .periodBoundary _ _ _ => true
  | .monCounterSat _ => true
  | .latch _ => true
  | .monPcfgWrite _ _ _ => true
  | .monLivelRead _ _ => true
  | .calUserSet _ _ _ _ => true
  | .calUserStore => true
  | .calClr _ _ => true
  | .pllLoss => true
  | .tcxoCount n => below 33554432 n
  | .aonEdgeMissing => true
  | .xclr _ => true
  | .snapshotFallback _ => true
  | .domainReset _ => true
  | .supplyWarning mv => below 65536 mv
  | .orderlyPowerDown => true
  | .supplyWarningEnd least => below 65536 least
  | .deferredOnRelease => true
  | .brownout => true
  | .lockstepMismatch pair => below 4 pair
  | .watchdog pair => below 4 pair
  | .domainPowerFail _ mv => below 65536 mv
  | .start addr _ page housing down above => hierAddr addr && below 4 page && within 1000000 housing && below 4294967296 down && above.all satellite
  | .bankSupplyFault _ _ mv => below 65536 mv
  | .bankSupplyOk _ _ mv => below 65536 mv
  | .standby _ => true
  | .sleep _ => true
  | .wakePin _ => true
  | .rtcAlarm _ => true
  | .logicWake => true
  | .pwrRtclRead _ => true
  | .pwrCfgWrite _ _ => true
  | .gnssPositionSave => true
  | .opsSSave => true
  | .delayTabPeriodicSend => true
  | .gnssAntFaultEnded i v => below 65536 i && below 65536 v
  | .d0SupplyLost => true
  | .slotErased => true
  | .wakeDetectorResume => true

end Sys2Proof
end

