-- ==== Sys2Proof/Tests/Slice0.lean ====
section
/-! SUPPORT. States that meet the hypotheses of the statements, clause by clause; terms that are not well formed; and single steps
against values of the manual. -/

set_option linter.all false
set_option Elab.async false

open Sys2Proof Sys2Proof.Machine

namespace Sys2Proof.Tests

/-- A record of the Recipe. -/
def tRec (sec typ i : Nat) (ws : List Nat) : Rec := { sec := sec, typ := typ, idx := i, words := ws.map (BitVec.ofNat 32) }
/-- Session 0 open for an OWNER that holds every right, session 1 for an OPERATOR without rights. -/
def tSec : SecState := { sessions := upd (upd (Vector.replicate 4 {}) (0 : Fin 4) fun _ => { st := .opened, role := .owner, rights := 0xFFF }) (1 : Fin 4) fun _ => { st := .opened } }
/-- A running device under a Recipe of the records given. -/
def tRun (rs : List Rec) : State := { State.reset with pwr := { phase := .run, runtime := true, d0Lost := false }, sec := tSec, rcp := { applied := true, chosen := true, recs := rs } }
/-- The PORTMAP record of port 0 with a function. -/
def tPort (f : Nat) : List Rec := [tRec 1 1 0 [f]]
/-- The HIER record that switches GNSS on. -/
def tGns : List Rec := [tRec 11 5 0 [0, 0, 0, 0x80000000, 0]]
/-- A descriptor at the start of the SRAM windows: FILL of one word. -/
def tMem : Memory := Memory.writeN [] 0x40000000 ([0x82000000, 4, 7, 0x40001000].flatMap fun w => le 4 w)

/-- A state whose first waiting command is PING. -/
theorem witness_step_runs_the_front_command : ∃ (c : Instr) (rest : List Instr) (s : State), s.pending = c :: rest := ⟨.ping 0 false 1 0, [], { tRun [] with pending := [.ping 0 false 1 0] }, rfl⟩

/-- A device without supply and one that runs, with no command waiting. -/
theorem witness_step_without_a_command_is_a_tick_or_nothing : (∃ s : State, s.pending = [] ∧ s.pwr.phase ≠ .run) ∧ (∃ s : State, s.pending = [] ∧ s.pwr.phase = .run) :=
  ⟨⟨State.reset, rfl, by decide⟩, ⟨tRun [], rfl, rfl⟩⟩

/-- A state that meets the invariant, and the state after its step. -/
theorem witness_every_step_keeps_the_invariant : ∃ s t : State, s.Inv ∧ step s = .next t := ⟨State.reset, State.reset, ⟨rfl, Nat.zero_le _, Nat.zero_le _, Nat.zero_le _, Nat.zero_le _, Nat.zero_le _⟩, rfl⟩

/-- A command and a step that lead to a next state. -/
theorem witness_commands_leave_the_queue : (∃ (c : Instr) (s t : State), exec c s = .next t) ∧ (∃ s t : State, step s = .next t) := ⟨⟨.close 0, State.reset, State.reset, rfl⟩, ⟨State.reset, State.reset, rfl⟩⟩

/-- A state with a revoked slot and an enabled one, and the state after its step. -/
theorem witness_key_slots_and_floors_only_advance : ∃ s t : State, step s = .next t ∧ s.sec.slots[(0 : Fin 4)].st = .revoked ∧ s.sec.slots[(1 : Fin 4)].st ≠ .empty :=
  ⟨{ State.reset with sec := { slots := upd (upd (Vector.replicate 4 {}) (0 : Fin 4) fun _ => { st := .revoked }) (1 : Fin 4) fun _ => { st := .enabled } } }, _, rfl, by decide⟩

/-- A state and the state after its step. -/
theorem witness_records_are_only_added : ∃ s t : State, step s = .next t := ⟨State.reset, State.reset, rfl⟩

/-- A state and the state after its step. -/
theorem witness_keep_slots_are_never_overwritten : ∃ s t : State, step s = .next t := ⟨State.reset, State.reset, rfl⟩

/-- An unaligned address, and an address of no register. -/
theorem witness_addresses_without_a_register_are_refused : (∃ (k : SessId) (a : Nat) (w : Word) (s : State), a % 4 ≠ 0) ∧ (∃ (k : SessId) (a : Nat) (w : Word) (s : State), isSram a = false ∧ s.regAt a = none) :=
  ⟨⟨0, 0x41, 0, tRun [], by decide⟩, ⟨0, 0x44, 0, tRun [], rfl, rfl⟩⟩

/-- A section in AUTO and a WRITE of an image, each with a page of session 0 that they block; and an entry that lets it read. -/
theorem witness_blocked_pages_refuse_writes_only : (∃ (a : Nat) (s : State), (s.apuEntry 0 a).isSome = true ∧ s.sct.sects[(0 : SectId)].mode = .auto ∧
      (0x40000000 + bits (s.sctWord 3) 28 4 * 0x100000) / 4096 ≤ a / 4096 ∧ a / 4096 < (0x40000000 + bits (s.sctWord 3) 28 4 * 0x100000) / 4096 + 256 ∧ s.lowPower = false ∧ s.sec.sessions[(0 : SessId)].isOpen = true) ∧
    (∃ (a : Nat) (s : State), (s.apuEntry 0 a).isSome = true ∧ s.rcp.op = .write ∧ 0 < s.rcp.wlen ∧ s.rcp.waddr.toNat / 4096 ≤ a / 4096 ∧ a / 4096 ≤ (s.rcp.waddr.toNat + s.rcp.wlen - 1) / 4096) ∧
    (∃ (a : Nat) (s : State), (s.apuEntry 0 a).any (fun e => e.r) = true) :=
  ⟨⟨0x400FF000, { tRun [] with apu := { ents := upd (Vector.replicate 256 none) (0 : Fin 256) fun _ => some { ctx := 0, r := true, w := true, sys := false, pages := 256, win := 0x40000, tgt := 0x40000 } }, sct := { sects := upd (Vector.replicate 128 {}) (0 : Fin 128) fun _ => { mode := .auto } } }, by decide +kernel⟩,
   ⟨0x40000000, { tRun [] with apu := { ents := upd (Vector.replicate 256 none) (0 : Fin 256) fun _ => some { ctx := 0, r := true, w := true, sys := false, pages := 256, win := 0x40000, tgt := 0x40000 } }, rcp := { op := .write, waddr := 0x40000000, wlen := 4096 } }, by decide +kernel⟩,
   ⟨0x40000000, { tRun [] with apu := { ents := upd (Vector.replicate 256 none) (0 : Fin 256) fun _ => some { ctx := 0, r := true, w := true, sys := false, pages := 256, win := 0x40000, tgt := 0x40000 } } }, by decide +kernel⟩⟩

/-- Sessions that the gates turn away, one for each clause. -/
theorem witness_commands_without_their_right_are_turned_away : (∃ (k : SessId) (s : State), s.lowPower = false ∧ s.rtOnly = false ∧ s.sec.sessions[k].isOpen = false) ∧
    (∃ (k : SessId) (r : Nat) (s : State), s.lowPower = false ∧ s.rtOnly = false ∧ s.sec.sessions[k].isOpen = true ∧ s.hasRight k r = false) ∧
    (∃ (k : SessId) (r : Nat) (s : State), s.lowPower = false ∧ s.rtOnly = false ∧ s.sec.sessions[k].isOpen = true ∧ s.hasRight k r = true) ∧ (∃ s : State, s.lowPower = true) ∧
    (∃ (k : SessId) (s : State), s.gate k rightPARAM ≠ .ok) ∧
    (∃ (k : SessId) (s : State), s.gate k rightCOMMAND ≠ .ok) ∧
    (∃ (k : SessId) (s : State), s.gateRws k rightSERVICE ≠ .ok) ∧
    (∃ (k : SessId) (s : State), s.gateRws k rightTAKE ≠ .ok) ∧
    (∃ (k : SessId) (s : State), s.gate k rightREAD ≠ .ok) ∧
    (∃ (k : SessId) (s : State), s.gate k rightCANTX ≠ .ok) ∧
    (∃ (k : SessId) (s : State), s.gate k rightDMA ≠ .ok) ∧
    (∃ (k : SessId) (s : State), s.gate k rightRECORD ≠ .ok) :=
  ⟨⟨2, tRun [], by decide⟩, ⟨1, rightDMA, tRun [], by decide⟩, ⟨0, rightDMA, tRun [], by decide⟩, ⟨{ State.reset with pwr := { phase := .sleep } }, by decide⟩,
   ⟨1, tRun [], by decide⟩, ⟨1, tRun [], by decide⟩, ⟨1, tRun [], by decide⟩, ⟨1, tRun [], by decide⟩, ⟨1, tRun [], by decide⟩, ⟨1, tRun [], by decide⟩, ⟨1, tRun [], by decide⟩, ⟨1, tRun [], by decide⟩⟩

/-- States and operands that meet the hypotheses of PortCommandsActUnderTheirFunction, clause by clause. -/
theorem witness_port_commands_act_under_their_function : (∃ (p : PortId) (dur : Nat) (src : Src) (s : State), s.srcGate src = .ok ∧ s.cmdGate p = .ok ∧ s.checkOn src p dur = .ok ∧ isOutFunc (s.func p) = true) ∧
    (∃ (p : PortId) (dur : Nat) (src : Src) (s : State), s.srcGate src = .ok ∧ s.cmdGate p = .ok ∧ s.checkOn src p dur = .ok ∧ s.func p = 4) ∧
    (∃ (p : PortId) (src : Src) (s : State), s.srcGate src = .ok ∧ s.cmdGate p = .ok ∧ s.checkOff src p = .ok ∧ isOutFunc (s.func p) = true) ∧
    (∃ (p : PortId) (src : Src) (s : State), s.srcGate src = .ok ∧ s.cmdGate p = .ok ∧ s.checkOff src p = .ok ∧ s.func p = 4) ∧
    (∃ (p : PortId) (s : State), s.ports[p].durEnd.isSome = true) :=
  ⟨⟨0, 0, (.host 0 0), { tRun (tRec 2 2 0 [0x7] :: tPort 0x0C) with ports := upd (Vector.replicate 32 {}) (0 : Fin 32) fun x => { x with status := .off } }, by decide⟩,
   ⟨0, 0, (.host 0 0), { tRun (tRec 2 2 0 [0x7] :: tPort 0x04) with ports := upd (Vector.replicate 32 {}) (0 : Fin 32) fun x => { x with status := .off } }, by decide⟩,
   ⟨0, (.host 0 0), { tRun (tRec 2 2 0 [0x7] :: tPort 0x0C) with ports := upd (Vector.replicate 32 {}) (0 : Fin 32) fun x => { x with status := .off } }, by decide⟩,
   ⟨0, (.host 0 0), { tRun (tRec 2 2 0 [0x7] :: tPort 0x04) with ports := upd (Vector.replicate 32 {}) (0 : Fin 32) fun x => { x with status := .off } }, by decide⟩,
   ⟨0, { tRun (tRec 2 2 0 [0x7] :: tPort 0x0C) with ports := upd (Vector.replicate 32 {}) (0 : Fin 32) fun x => { x with status := .off, durEnd := some 5 } }, by decide⟩⟩

/-- States and operands that meet the hypotheses of PortProtectionSwitchesOff, clause by clause. -/
theorem witness_port_protection_switches_off : (∃ (p : PortId) (i : Int) (s : State), isDriveFunc (s.func p) = true ∧ s.lead (s.lead p) = s.lead p ∧ s.ports[p].status ≠ .passive) ∧
    (∃ (p : PortId) (i : Int) (s : State), isDriveFunc (s.func p) = true ∧ s.lead (s.lead p) = s.lead p ∧ s.ports[p].status ≠ .passive ∧ s.parSize (s.lead p) ≠ 0) ∧
    (∃ (p : PortId) (i : Int) (s : State), isDriveFunc (s.func p) = true ∧ (s.ports[p].status = .drive ∧ s.openOn p = true ∨ s.ports[p].status = .off ∧ s.openOff p = true)) :=
  ⟨⟨0, 0, { tRun (tRec 2 2 0 [0x7] :: tPort 0x0C) with ports := upd (Vector.replicate 32 {}) (0 : Fin 32) fun x => { x with status := .drive } }, by decide⟩,
   ⟨0, 0, { tRun [tRec 1 1 0 [0x10000C], tRec 1 1 1 [0x14000C]] with ports := Vector.replicate 32 { status := .drive } }, by decide⟩,
   ⟨0, 0, { tRun [tRec 1 1 0 [0x0C, 0x80]] with ports := Vector.replicate 32 { status := .drive } }, by decide⟩⟩

/-- States and operands that meet the hypotheses of PortCarrierAndPwmRegisters, clause by clause. -/
theorem witness_port_carrier_and_pwm_registers : (∃ (p : PortId) (v : Word) (k : SessId) (s : State), s.gate k rightPARAM = .ok ∧ s.isFollower p = false ∧ s.ownerKind p ≠ 3 ∧ isSolFunc (s.func p) = false ∧ s.func p ≠ 3 ∧ s.perOk p s.sys.current v.toNat = true ∧ s.sys.switching = false) ∧
    (∃ (p : PortId) (v : Word) (k : SessId) (s : State), s.gate k rightPARAM = .ok ∧ s.isFollower p = false ∧ s.ownerKind p ≠ 3 ∧ s.func p ≠ 3) ∧
    (∃ (p : PortId) (s : State), s.isFollower p = false ∧ s.carrierPer p ≠ 0 ∧ s.faulted p = false ∧ s.ports[p].status ≠ .passive) :=
  ⟨⟨0, 1000000, 0, { tRun (tPort 0x0C) with sys := { current := .boil } }, by decide⟩,
   ⟨0, 1000000, 0, tRun (tPort 0x0C), by decide⟩,
   ⟨0, { tRun (tPort 0x04) with ports := Vector.replicate 32 { status := .off, per := 1000000 } }, by decide⟩⟩

/-- States and operands that meet the hypotheses of PortInputsTakeTheirValues, clause by clause. -/
theorem witness_port_inputs_take_their_values : (∃ (p : PortId) (mean : Int) (instant : Nat) (s : State), isUpdateFunc (s.func p) = true ∧ s.ports[p].status ≠ .passive) ∧
    (∃ (p : PortId) (instant : Nat) (s : State), s.func p = 5 ∧ s.ports[p].status ≠ .passive) ∧
    (∃ (p : PortId) (s : State), s.func p = 5) ∧
    (∃ (p : PortId) (b : FaultBit) (s : State), detects (s.func p) b = true ∧ s.ports[p].status ≠ .passive) ∧
    (∃ (p : PortId) (b : FaultBit) (s : State), detects (s.func p) b = true ∧ ¬ (s.func p = 7 ∧ b = .sensShort)) ∧
    (∃ (p : PortId) (s : State), s.ports[p].burdenOff = true) :=
  ⟨⟨0, 0, 0, { tRun (tPort 0x06) with ports := Vector.replicate 32 { status := .input } }, by decide⟩,
   ⟨0, 0, { tRun (tPort 0x05) with ports := Vector.replicate 32 { status := .input } }, by decide⟩,
   ⟨0, tRun (tPort 0x05), by decide⟩,
   ⟨0, .sensShort, { tRun (tPort 0x08) with ports := Vector.replicate 32 { status := .input } }, by decide⟩,
   ⟨0, .sensShort, tRun (tPort 0x08), by decide⟩,
   ⟨0, { State.reset with ports := Vector.replicate 32 { burdenOff := true } }, by decide⟩⟩

/-- States and operands that meet the hypotheses of BankLoadRetryAndFaultClear, clause by clause. -/
theorem witness_bank_load_retry_and_fault_clear : (∃ (b : BankId) (load : Int) (s : State), s.banks[b].excursion = true ∧ s.banks[b].tripped = false) ∧
    (∃ (p : PortId) (s : State), s.ports[p].status = .retry ∧ s.isFollower p = false) ∧
    (∃ (p : PortId) (s : State), s.ports[p].retryWatch = true ∧ s.faulted p = false) ∧
    (∃ (p : PortId) (v : Word) (k : SessId) (s : State), s.gate k rightPARAM = .ok ∧ BitVec.ofNat 10 v.toNat &&& s.presentAt p = 0 ∧ BitVec.ofNat 10 v.toNat &&& s.ports[p].fault ≠ 0) :=
  ⟨⟨0, 0, { State.reset with banks := Vector.replicate 4 { excursion := true } }, by decide⟩,
   ⟨0, { State.reset with ports := Vector.replicate 32 { status := .retry } }, by decide⟩,
   ⟨0, { State.reset with ports := Vector.replicate 32 { retryWatch := true } }, by decide⟩,
   ⟨0, 1, 0, { tRun [] with ports := Vector.replicate 32 { fault := 1 } }, by decide⟩⟩

/-- States and operands that meet the hypotheses of TimeBaseMeasuresAndJudges, clause by clause. -/
theorem witness_time_base_measures_and_judges : (∃ (m : Int) (s : State), s.tmb.resflt = false) ∧
    (∃ (bias : Int) (s : State), s.timeSrc ≠ 0 ∧ (s.isWorker = true → s.hie.ds ≠ [])) ∧
    (∃ (m : Int) (s : State), s.timeSrc ≠ 0 ∧ s.tmb.resflt = false ∧ s.tmb.qual.tracks = false ∧ s.isWorker = false) ∧
    (∃ (m : Int) (s : State), s.timeSrc ≠ 0 ∧ s.tmb.resflt = false ∧ s.tmb.qual.tracks = true ∧ s.isWorker = false ∧ s.hie.ds ≠ []) ∧
    (∃ (k : SessId) (s : State), s.gateRws k rightSERVICE = .ok ∧ s.tmb.qual ≠ .acq ∧ s.tmb.qual ≠ .locked ∧ s.tmb.qual ≠ .holdover) ∧
    (∃ (k : SessId) (s : State), s.gateRws k rightSERVICE = .ok ∧ s.tmb.resflt = true) :=
  ⟨⟨0, State.reset, by decide⟩,
   ⟨0, tRun tGns, by decide⟩,
   ⟨0, { tRun tGns with tmb := { qual := .host } }, by decide⟩,
   ⟨0, { tRun tGns with tmb := { qual := .acq }, hie := { ds := [1 / 2] } }, by decide⟩,
   ⟨0, tRun [], by decide⟩,
   ⟨0, { tRun [] with tmb := { resflt := true } }, by decide⟩⟩

/-- States and operands that meet the hypotheses of TimeBaseQualityAndSteps, clause by clause. -/
theorem witness_time_base_quality_and_steps : (∃ (k : SessId) (ref secs : Nat) (s : State), s.tmb.pending = some (.host k ref secs)) ∧
    (∃ (dj : Rat) (a : Bool) (s : State), s.tmb.pending = some (.judged dj a)) ∧
    (∃ s : State, s.tmb.qual = .acq ∧ s.tmb.pending = none) ∧
    (∃ s : State, s.tmb.qual = .locked) ∧
    (∃ s : State, s.tmb.qual.tracks = true) ∧
    (∃ s : State, s.timeSrc = 1 ∧ s.tmb.qual.tracks = true) ∧
    (∃ s : State, s.tmb.qual = .holdover) ∧
    (∃ (secs : Nat) (s : State), s.tmb.qual = .none ∧ s.tmb.rtcValid = true) ∧
    (∃ s : State, (s.tmb.qual = .host ∨ s.tmb.qual = .acq ∨ s.tmb.qual = .locked ∨ s.tmb.qual = .holdover)) ∧
    (∃ s : State, s.tpAllowed = true ∧ s.tmb.pending = none ∧ s.tmb.tpAt = none ∧ s.rcp.applied = true) ∧
    (∃ (k : SessId) (s : State), s.gate k rightREAD = .ok) ∧
    (∃ (k : SessId) (s : State), s.gate k rightREAD = .ok) :=
  ⟨⟨0, 0, 5, { State.reset with tmb := { pending := some (.host 0 0 5) } }, by decide⟩,
   ⟨0, false, { State.reset with tmb := { pending := some (.judged 0 false) } }, by decide⟩,
   ⟨{ State.reset with tmb := { qual := .acq } }, by decide⟩,
   ⟨{ State.reset with tmb := { qual := .locked } }, by decide⟩,
   ⟨{ State.reset with tmb := { qual := .locked } }, by decide⟩,
   ⟨{ tRun tGns with tmb := { qual := .acq } }, by decide⟩,
   ⟨{ State.reset with tmb := { qual := .holdover } }, by decide⟩,
   ⟨5, { State.reset with tmb := { rtcValid := true } }, by decide⟩,
   ⟨{ State.reset with tmb := { qual := .host } }, by decide⟩,
   ⟨{ tRun [tRec 11 5 0 [0, 0x80000000]] with tmb := { qual := .locked } }, by decide⟩,
   ⟨0, tRun [], by decide⟩,
   ⟨0, tRun [], by decide⟩⟩

/-- States and operands that meet the hypotheses of CanQueueCommands, clause by clause. -/
theorem witness_can_queue_commands : (∃ (c : CanId) (k : SessId) (s : State), s.gate k rightCANTX = .ok ∧ s.enqChecks c k = .ok ∧ s.hostFill c < 28) ∧
    (∃ (c : CanId) (h : Nat) (k : SessId) (s : State) (e : TxEntry), s.gate k rightCANTX = .ok ∧ s.can[c].queue.find? (fun e => e.handle == h && e.owner == some k) = some e ∧ s.inAttempt c e = false) ∧
    (∃ (c : CanId) (k : SessId) (s : State), s.gate k rightCANTX = .ok ∧ s.can[c].queue.find? (fun e => e.handle == 0 && e.owner == some k) = none) ∧
    (∃ (c : CanId) (k : SessId) (s : State), s.gate k rightCANTX = .ok ∧ (s.can[c].queue.filter fun e => e.owner == some k) = []) ∧
    (∃ (c : CanId) (k : SessId) (s : State), s.gate k rightCANTX = .ok ∧ s.enqChecks c k = .ok ∧ s.hostFill c < 28 ∧ (s.can[c].queue.filter fun e => e.owner == some k) = []) ∧
    (∃ (c : CanId) (s : State) (e : TxEntry) (q : List TxEntry), s.maySend c = true ∧ s.can[c].queue = e :: q ∧ s.headEnds c e = none ∧ s.canIso c = false) ∧
    (∃ (c : CanId) (s : State) (e : TxEntry) (q : List TxEntry), s.can[c].inTx = true ∧ s.can[c].queue = e :: q ∧ e.rlim = 31 ∧ e.abort = false) :=
  ⟨⟨1, 0, { tRun [tRec 12 1 1 [0x400000]] with can := upd (Vector.replicate 4 {}) (1 : Fin 4) fun _ => { st := .active } }, by decide⟩,
   ⟨1, 7, 0, { tRun [] with can := upd (Vector.replicate 4 {}) (1 : Fin 4) fun _ => { st := .active, queue := [{ frame := { id := 5, dlc := 0 }, rlim := 0, age := 0, owner := some 0, handle := 7, tick := 0 }] } }, { frame := { id := 5, dlc := 0 }, rlim := 0, age := 0, owner := some 0, handle := 7, tick := 0 }, by decide⟩,
   ⟨1, 0, tRun [], by decide⟩,
   ⟨1, 0, tRun [], by decide⟩,
   ⟨1, 0, { tRun [tRec 12 1 1 [0x400000]] with can := upd (Vector.replicate 4 {}) (1 : Fin 4) fun _ => { st := .active } }, by decide⟩,
   ⟨1, { tRun [] with can := upd (Vector.replicate 4 {}) (1 : Fin 4) fun _ => { st := .active, queue := [{ frame := { id := 5, dlc := 0 }, rlim := 0, age := 0, owner := some 0, handle := 7, tick := 0 }] } }, { frame := { id := 5, dlc := 0 }, rlim := 0, age := 0, owner := some 0, handle := 7, tick := 0 }, [], by decide⟩,
   ⟨1, { tRun [] with can := upd (Vector.replicate 4 {}) (1 : Fin 4) fun _ => { st := .active, inTx := true, queue := [{ frame := { id := 5, dlc := 0 }, rlim := 31, age := 0, owner := some 0, handle := 7, tick := 0 }] } }, { frame := { id := 5, dlc := 0 }, rlim := 31, age := 0, owner := some 0, handle := 7, tick := 0 }, [], by decide⟩⟩

/-- States and operands that meet the hypotheses of CanErrorStateCommands, clause by clause. -/
theorem witness_can_error_state_commands : (∃ (c : CanId) (s : State), s.can[c].st = .integrating) ∧
    (∃ (c : CanId) (e : CanErr) (r : CanRise) (s : State), (s.can[c].st = .active ∨ s.can[c].st = .passive) ∧ e ≠ .pxe ∧ s.can[c].op = false) ∧
    (∃ (c : CanId) (s : State), s.can[c].st = .busOff ∧ s.can[c].recPend = true) ∧
    (∃ (c : CanId) (k : SessId) (s : State), s.gate k rightCOMMAND = .ok ∧ s.can[c].st = .busOff ∧ s.can[c].recPend = false) ∧
    (∃ (c : CanId) (k : SessId) (s : State), s.gate k rightCOMMAND = .ok) ∧
    (∃ (c : CanId) (m : Nat) (k : SessId) (s : State), s.gate k rightCOMMAND = .ok ∧ m ≤ 1 ∧ s.inHier = false ∧ s.can[c].inTx = false) ∧
    (∃ (v : Word) (k : SessId) (s : State), s.gateRws k rightSERVICE = .ok ∧ bits v 0 8 ≠ 0 ∧ bits v 8 8 ≠ 0) ∧
    (∃ (c : CanId) (v : Word) (k : SessId) (s : State), c ≠ 3) :=
  ⟨⟨1, { State.reset with can := upd (Vector.replicate 4 {}) (1 : Fin 4) fun _ => { st := .integrating } }, by decide⟩,
   ⟨1, .ack, .tec8, { State.reset with can := upd (Vector.replicate 4 {}) (1 : Fin 4) fun _ => { st := .active, tec := 250 } }, by decide⟩,
   ⟨1, { State.reset with can := upd (Vector.replicate 4 {}) (1 : Fin 4) fun _ => { st := .busOff, recPend := true } }, by decide⟩,
   ⟨1, 0, { tRun [] with can := upd (Vector.replicate 4 {}) (1 : Fin 4) fun _ => { st := .busOff } }, by decide⟩,
   ⟨1, 0, tRun [], by decide⟩,
   ⟨1, 1, 0, tRun [], by decide⟩,
   ⟨0x0101, 0, tRun [], by decide⟩,
   ⟨1, 0, 0, tRun [], by decide⟩⟩

/-- States and operands that meet the hypotheses of IsoAddressAndTransport, clause by clause. -/
theorem witness_iso_address_and_transport : (∃ (c : CanId) (s : State), s.canIso c = true ∧ s.canLive c = true ∧ s.can[c].addr = none ∧ s.can[c].claim = none ∧ s.can[c].cannot = false) ∧
    (∃ (c : CanId) (a : Nat) (s : State), s.canIso c = true ∧ s.canLive c = true ∧ s.can[c].claim = some a) ∧
    (∃ (c : CanId) (a name : Nat) (s : State), s.canIso c = true ∧ s.canLive c = true ∧ s.can[c].ownAddr ≠ some a) ∧
    (∃ (c : CanId) (src pgn len : Nat) (i : CtxId) (s : State), s.canIso c = true ∧ s.canLive c = true ∧ (∀ j : CtxId, s.can[c].tp[j].busy = false) ∧ s.freeCtx c .bam len = some i) ∧
    (∃ (c : CanId) (i : CtxId) (s : State), s.can[c].tp[i].busy = true ∧ s.can[c].tp[i].kind = .bam) ∧
    (∃ (c : CanId) (v : Word) (k : SessId) (s : State), s.gate k rightPARAM = .ok) :=
  ⟨⟨1, { tRun [tRec 12 1 1 [0x20000000, 0, 0, 0, 0x80FE8000]] with can := upd (Vector.replicate 4 {}) (1 : Fin 4) fun _ => { st := .active } }, by decide⟩,
   ⟨1, 128, { tRun [tRec 12 1 1 [0x20000000, 0, 0, 0, 0x80FE8000]] with can := upd (Vector.replicate 4 {}) (1 : Fin 4) fun _ => { st := .active, claim := some 128 } }, by decide⟩,
   ⟨1, 129, 5, { tRun [tRec 12 1 1 [0x20000000, 0, 0, 0, 0x80FE8000]] with can := upd (Vector.replicate 4 {}) (1 : Fin 4) fun _ => { st := .active, addr := some 128 } }, by decide⟩,
   ⟨1, 3, 5, 1785, 0, { tRun [tRec 12 1 1 [0x20000000, 0, 0, 0, 0x80FE8000]] with can := upd (Vector.replicate 4 {}) (1 : Fin 4) fun _ => { st := .active } }, by decide⟩,
   ⟨1, 7, { State.reset with can := upd (Vector.replicate 4 {}) (1 : Fin 4) fun _ => { tp := Vector.replicate 8 { busy := true } } }, by decide⟩,
   ⟨1, 0xFF, 0, tRun [], by decide⟩⟩

/-- States and operands that meet the hypotheses of ApertureAndChannelCommands, clause by clause. -/
theorem witness_aperture_and_channel_commands : (∃ (k : SessId) (i : EntId) (s : State), s.gate k rightDMA = .ok ∧ s.ownsCh k s.apu.reqs[k].chan = true ∧ 1 ≤ s.apu.reqs[k].entry.pages ∧ s.apu.reqs[k].entry.pages ≤ 4096 ∧ inSram s.apu.reqs[k].entry.win s.apu.reqs[k].entry.pages = true ∧ inSram s.apu.reqs[k].entry.tgt s.apu.reqs[k].entry.pages = true ∧ s.sessionHolds k s.apu.reqs[k].entry.tgt s.apu.reqs[k].entry.r s.apu.reqs[k].entry.w s.apu.reqs[k].entry.pages = true ∧ (s.apu.ents.toList.filterMap id).any (fun x => x.meets s.apu.reqs[k].entry) = false ∧ (idx 256).find? (fun i => s.apu.ents[i].isNone) = some i) ∧
    (∃ (i : EntId) (k : SessId) (e : ApuEntry) (s : State), s.gate k rightDMA = .ok ∧ s.apu.ents[i] = some e ∧ 4 ≤ e.ctx ∧ s.ownsCh k (e.ctx - 4) = true) ∧
    (∃ (k : SessId) (s : State), s.gate k rightDMA = .ok ∧ s.ownsCh k s.apu.reqs[k].chan = true) ∧
    (∃ (n : ChId) (k : SessId) (s : State), s.gate k rightDMA = .ok ∧ n.val < 6 ∧ s.dma.ch[n].owner = none) ∧
    (∃ (n : ChId) (k : SessId) (s : State), s.gate k rightDMA = .ok ∧ s.owns k n = true ∧ s.dma.ch[n].st = .idle) ∧
    (∃ (n : ChId) (k : SessId) (ws : List Word) (s : State), s.gate k rightDMA = .ok ∧ s.owns k n = true ∧ s.dma.ch[n].st = .idle ∧ s.dma.ch[n].descA.toNat % 32 = 0 ∧ s.readDesc n s.dma.ch[n].descA.toNat 8 [] = .ok ws ∧ bit (ws.getD 0 0) 31 = true ∧ s.descBad n (descOf ws) = false) ∧
    (∃ (n : ChId) (k : SessId) (s : State), s.gate k rightDMA = .ok ∧ s.owns k n = true ∧ s.dma.ch[n].st ≠ .idle) ∧
    (∃ (n : ChId) (k : SessId) (ws : List Word) (s : State), s.gate k rightDMA = .ok ∧ s.owns k n = true ∧ s.dma.ch[n].st = .fault ∧ s.dma.ch[n].recQ = true ∧ s.readDesc n s.dma.ch[n].cur 8 [] = .ok ws ∧ bit (ws.getD 0 0) 31 = true ∧ s.descBad n (descOf ws) = false) ∧
    (∃ (n : ChId) (v : Word) (k : SessId) (s : State), s.gate k rightDMA = .ok ∧ n.val < 6 ∧ bits v 0 24 % 32 = 0 ∧ (s.dma.ch[n].st = .run → bits v 0 24 < s.dma.ch[n].desc.len)) ∧
    (∃ (n : ChId) (r : List Byte) (s : State), s.dma.ch[n].held = some r ∧ s.dma.q15.length < 64) :=
  ⟨⟨0, 1, { tRun [] with dma := { ch := upd (Vector.replicate 8 {}) (0 : Fin 8) fun _ => { owner := some 0 } }, apu := { ents := upd (Vector.replicate 256 none) (0 : Fin 256) fun _ => some { ctx := 0, r := true, w := true, sys := true, pages := 4096, win := 0x40000, tgt := 0x40000 }, reqs := Vector.replicate 4 { ctl := 0x00C00001, win := 0x40000000, tgt := 0x40000000 } } }, by decide⟩,
   ⟨5, 0, { ctx := 4, r := true, w := true, sys := false, pages := 1, win := 0x40000, tgt := 0x40000 }, { tRun [] with dma := { ch := upd (Vector.replicate 8 {}) (0 : Fin 8) fun _ => { owner := some 0 } }, apu := { ents := upd (Vector.replicate 256 none) (5 : Fin 256) fun _ => some { ctx := 4, r := true, w := true, sys := false, pages := 1, win := 0x40000, tgt := 0x40000 } } }, by decide⟩,
   ⟨0, { tRun [] with dma := { ch := upd (Vector.replicate 8 {}) (0 : Fin 8) fun _ => { owner := some 0 } } }, by decide⟩,
   ⟨5, 0, tRun [], by decide⟩,
   ⟨0, 0, { tRun [] with dma := { ch := upd (Vector.replicate 8 {}) (0 : Fin 8) fun _ => { owner := some 0 } } }, by decide⟩,
   ⟨0, 0, [0x82000000, 4, 7, 0x40001000, 0, 0, 0, 0], { tRun [] with dma := { ch := upd (Vector.replicate 8 {}) (0 : Fin 8) fun _ => { owner := some 0, descA := 0x40000000 } }, apu := { ents := upd (Vector.replicate 256 none) (0 : Fin 256) fun _ => some { ctx := 4, r := true, w := true, sys := false, pages := 4096, win := 0x40000, tgt := 0x40000 } }, mem := tMem }, by exact ⟨by decide, by decide, by decide, by decide, by rfl, by decide, by decide⟩⟩,
   ⟨0, 0, { tRun [] with dma := { ch := upd (Vector.replicate 8 {}) (0 : Fin 8) fun _ => { owner := some 0, st := .run } } }, by decide⟩,
   ⟨0, 0, [0x82000000, 4, 7, 0x40001000, 0, 0, 0, 0], { tRun [] with dma := { ch := upd (Vector.replicate 8 {}) (0 : Fin 8) fun _ => { owner := some 0, cur := 0x40000000, st := .fault, recQ := true } }, apu := { ents := upd (Vector.replicate 256 none) (0 : Fin 256) fun _ => some { ctx := 4, r := true, w := true, sys := false, pages := 4096, win := 0x40000, tgt := 0x40000 } }, mem := tMem }, by exact ⟨by decide, by decide, by decide, by decide, by rfl, by decide, by decide⟩⟩,
   ⟨5, 32, 0, tRun [], by decide⟩,
   ⟨0, [1], { State.reset with dma := { ch := upd (Vector.replicate 8 {}) (0 : Fin 8) fun _ => { held := some [1] } } }, by decide⟩⟩

/-- States and operands that meet the hypotheses of DmaMovesWordsAndCompletes, clause by clause. -/
theorem witness_dma_moves_words_and_completes : (∃ (n : ChId) (a : Nat) (s : State), s.Inv ∧ s.nextCh true = none ∧ s.nextCh false = some n ∧ s.dma.ch[n].st = .run ∧ s.dma.ch[n].desc.op = 2 ∧ s.dma.ch[n].desc.wrap = false ∧ s.dma.ch[n].fin = false ∧ 4 * (s.dma.ch[n].prog + s.dma.ch[n].burstLen) ≤ s.dma.ch[n].desc.len ∧ (∀ j, j < s.dma.ch[n].burstLen → s.translate (ctxOfCh n) (s.dma.ch[n].desc.dst + 4 * (s.dma.ch[n].prog + j)) true = .ok (a + 4 * j))) ∧
    (∃ (n : ChId) (a : Nat) (s : State), isSram a = true ∧ s.dma.ch[n].st = .run ∧ s.dma.ch[n].desc.op = 1 ∧ s.dma.ch[n].complete = false ∧ 0 < s.dma.ch[n].burstLen ∧ s.translate (ctxOfCh n) (s.dma.ch[n].desc.src + 4 * s.dma.ch[n].prog) false = .ok a) ∧
    (∃ (n : ChId) (a : Nat) (s : State), s.Inv ∧ s.dma.ch[n].st = .run ∧ s.dma.ch[n].complete = true ∧ s.dma.ch[n].desc.next = 0 ∧ (∀ j, j = 0 ∨ j = 20 ∨ j = 24 ∨ j = 28 → s.translate (ctxOfCh n) (s.dma.ch[n].cur + j) true = .ok (a + j))) :=
  ⟨⟨0, 0x400010FC, { State.reset with dma := { ch := upd (Vector.replicate 8 {}) (0 : Fin 8) fun _ => { st := .run, desc := { ctrl := 0x82000000, len := 4, src := 7, dst := 0x400010FC } } }, apu := { ents := upd (Vector.replicate 256 none) (0 : Fin 256) fun _ => some { ctx := 4, r := true, w := true, sys := false, pages := 4096, win := 0x40000, tgt := 0x40000 } } }, by exact ⟨⟨by decide, by decide, by decide, by decide, by decide, by decide⟩, by decide, by decide, by decide, by decide, by decide, by decide, by decide, fun j h => by have e : j = 0 := Nat.lt_one_iff.mp h; subst e; rfl⟩⟩,
   ⟨0, 0x40000000, { State.reset with dma := { ch := upd (Vector.replicate 8 {}) (0 : Fin 8) fun _ => { st := .run, desc := { ctrl := 0x81000000, len := 4, src := 0x40000000, dst := 0x400010FC } } }, apu := { ents := upd (Vector.replicate 256 none) (0 : Fin 256) fun _ => some { ctx := 4, r := true, w := true, sys := false, pages := 4096, win := 0x40000, tgt := 0x40000 } } }, by exact ⟨by decide, by decide, by decide, by decide, by decide, by rfl⟩⟩,
   ⟨0, 0x40000000, { State.reset with dma := { ch := upd (Vector.replicate 8 {}) (0 : Fin 8) fun _ => { st := .run, cur := 0x40000000, prog := 1, desc := { ctrl := 0x82000000, len := 4, src := 7, dst := 0x400010FC } } }, apu := { ents := upd (Vector.replicate 256 none) (0 : Fin 256) fun _ => some { ctx := 4, r := true, w := true, sys := false, pages := 4096, win := 0x40000, tgt := 0x40000 } } }, by exact ⟨⟨by decide, by decide, by decide, by decide, by decide, by decide⟩, by decide, by decide, by decide, fun j h => by rcases h with h | h | h | h <;> subst h <;> rfl⟩⟩⟩

/-- States and operands that meet the hypotheses of SolenoidPhasesFollowOneAnother, clause by clause. -/
theorem witness_solenoid_phases_follow_one_another : (∃ (p : PortId) (s : State), s.sol.ports[p].phase = .bridge) ∧
    (∃ (p : PortId) (e : Nat) (s : State), s.sol.ports[p].holdEnd = some e ∧ (s.sol.ports[p].phase = .hold ∨ s.sol.ports[p].phase = .bridge)) ∧
    (∃ (p : PortId) (e : Nat) (s : State), s.sol.ports[p].holdEnd = some e ∧ s.sol.ports[p].phase = .hit) ∧
    (∃ (p : PortId) (s : State), s.sol.ports[p].phase = .hit ∧ s.sol.ports[p].pend = none) ∧
    (∃ (p : PortId) (i : Int) (s : State), s.sol.ports[p].phase = .release) ∧
    (∃ (p : PortId) (i : Int) (s : State), s.sol.ports[p].phase = .release) ∧
    (∃ (p : PortId) (delay vbank : Nat) (s : State), s.sol.ports[p].phase = .hit ∧ s.sol.ports[p].reached = false ∧ s.sol.ports[p].stroke = false ∧ s.sol.ports[p].openCtx.done = false) ∧
    (∃ (p : PortId) (delay vbank : Nat) (s : State), s.sol.ports[p].phase = .release ∧ s.rdet p = true ∧ s.sol.ports[p].closeCtx.done = false) :=
  ⟨⟨31, { State.reset with sol := { ports := Vector.replicate 32 { phase := .bridge } } }, by decide⟩,
   ⟨0, 5, { State.reset with sol := { ports := Vector.replicate 32 { phase := .hold, holdEnd := some 5 } } }, by decide⟩,
   ⟨0, 5, { State.reset with sol := { ports := Vector.replicate 32 { phase := .hit, holdEnd := some 5 } } }, by decide⟩,
   ⟨0, { State.reset with sol := { ports := Vector.replicate 32 { phase := .hit } } }, by decide⟩,
   ⟨0, 5, { State.reset with sol := { ports := Vector.replicate 32 { phase := .release } } }, by decide⟩,
   ⟨0, 5, { State.reset with sol := { ports := Vector.replicate 32 { phase := .release } } }, by decide⟩,
   ⟨0, 5, 5, { State.reset with sol := { ports := Vector.replicate 32 { phase := .hit, openCtx := { done := false } } } }, by decide⟩,
   ⟨0, 5, 5, { tRun [tRec 5 1 0 [0, 0, 0, 2]] with sol := { ports := Vector.replicate 32 { phase := .release, closeCtx := { done := false } } } }, by decide⟩⟩

/-- States and operands that meet the hypotheses of SolenoidBudgetCoilsAndTables, clause by clause. -/
theorem witness_solenoid_budget_coils_and_tables : (∃ (g : GroupId) (p : PortId) (d : Pend) (s : State), s.queueHead g = some p ∧ s.pwr.warning = false ∧ s.fits g p = true ∧ s.sol.ports[p].pend = some d ∧ (d.src = .forced ∨ s.recheckOn p = .ok)) ∧
    (∃ (g : GroupId) (p : PortId) (k : SessId) (r : Nat) (d : Pend) (s : State), s.queueHead g = some p ∧ s.pwr.warning = false ∧ s.fits g p = false ∧ s.sol.ports[p].pend = some d ∧ d.src = .host k r ∧ d.forced = false) ∧
    (∃ (p : PortId) (v i least : Nat) (s : State), s.sol.ports[p].phase = .hold ∧ s.sol.ports[p].windowDirty = false ∧ 100 * 256 ≤ 1000 * least ∧ 0 < i) ∧
    (∃ (p : PortId) (v i least : Nat) (s : State), s.sol.ports[p].phase = .hold) ∧
    (∃ (v : Word) (k : SessId) (s : State), s.gate k rightPARAM = .ok ∧ bits v 0 4 < 10) ∧
    (∃ (v : Word) (k : SessId) (s : State), s.gateRws k rightSERVICE = .ok ∧ bit v 0 = true) ∧
    (∃ (v : Word) (k : SessId) (s : State), s.gateRws k rightSERVICE = .ok ∧ bit v 0 = false) :=
  ⟨⟨0, 0, { kind := .budget, src := .host 0 0 }, { tRun [tRec 1 1 0 [0x8001], tRec 1 3 0 [0xFF000100], tRec 2 2 0 [7]] with ports := Vector.replicate 32 { status := .off }, sol := { ports := upd (Vector.replicate 32 {}) (0 : Fin 32) fun _ => { pend := some { kind := .budget, src := .host 0 0 } } } }, by decide⟩,
   ⟨0, 0, 0, 0, { kind := .budget, src := .host 0 0 }, { tRun [tRec 1 1 0 [0x8001, 0, 0, 0, 0, 0, 0x01000000], tRec 5 1 1 [0xFF000000], tRec 1 3 0 [0x00000100]] with sol := { ports := upd (Vector.replicate 32 {}) (0 : Fin 32) fun _ => { pend := some { kind := .budget, src := .host 0 0 } } } }, by decide⟩,
   ⟨0, 0, 256, 26, { State.reset with sol := { ports := upd (Vector.replicate 32 {}) (0 : Fin 32) fun _ => { phase := .hold, windowDirty := false } } }, by decide⟩,
   ⟨0, 0, 0, 0, { State.reset with sol := { ports := upd (Vector.replicate 32 {}) (0 : Fin 32) fun _ => { phase := .hold } } }, by decide⟩,
   ⟨0x1F09, 0, tRun [], by decide⟩,
   ⟨1, 0, tRun [], by decide⟩,
   ⟨0, 0, tRun [], by decide⟩⟩

/-- States and operands that meet the hypotheses of FanStatesFollowMotorAndCommands, clause by clause. -/
theorem witness_fan_states_follow_motor_and_commands : (∃ (f : FanId) (m : Int) (s : State), s.fan.fans[f].status = .kick ∧ (s.fanImot f : Int) ≤ m ∧ s.fan.fans[f].tacho = false ∧ s.fan.fans[f].attempt < 4) ∧
    (∃ (f : FanId) (m : Int) (s : State), s.fan.fans[f].status = .kick ∧ (s.fanImot f : Int) ≤ m ∧ s.fan.fans[f].tacho = false ∧ 4 ≤ s.fan.fans[f].attempt) ∧
    (∃ (f : FanId) (m : Int) (s : State), s.fan.fans[f].status = .kick ∧ m < (s.fanImot f : Int)) ∧
    (∃ (f : FanId) (s : State), s.fan.fans[f].status = .pause) ∧
    (∃ (f : FanId) (s : State), s.fan.fans[f].status = .run ∧ s.fan.fans[f].tacho = false ∧ s.ports[s.fanTach f].stale = false ∧ s.freq (s.fanTach f) < s.fanFmin f ∧ s.fanDmin f ≤ s.fan.fans[f].duty) ∧
    (∃ (f : FanId) (m : Int) (s : State), s.fan.fans[f].status = .run ∧ s.fan.fans[f].tacho = false ∧ s.ports[s.fanTach f].stale = true ∧ s.fanDmin f ≤ s.fan.fans[f].duty) ∧
    (∃ (f : FanId) (s : State), s.fan.fans[f].tacho = true ∧ s.ports[s.fanTach f].stale = false) ∧
    (∃ (f : FanId) (k : SessId) (s : State), s.fanUsed f = true ∧ s.gate k rightCOMMAND = .ok ∧ (s.presentOff (s.fanDrv f) (.fan f)).2.1 = .ok) ∧
    (∃ (f : FanId) (k : SessId) (s : State), s.fanUsed f = true ∧ s.gate k rightCOMMAND = .ok ∧ s.fan.fans[f].status = .off ∧ (s.fanOn f).2 = .ok) ∧
    (∃ (f : FanId) (k : SessId) (s : State), s.fanUsed f = true ∧ s.gate k rightCOMMAND = .ok ∧ s.fan.fans[f].status = .off ∧ (s.fanOn f).2 = .ok) ∧
    (∃ (f : FanId) (k : SessId) (s : State), s.fanUsed f = true ∧ s.gate k rightCOMMAND = .ok ∧ (s.fan.fans[f].status = .blocked ∨ s.fan.fans[f].status = .motorOpen) ∧ (s.fanOn f).2 = .ok) :=
  ⟨⟨7, 0, { State.reset with fan := { fans := Vector.replicate 8 { status := .kick, attempt := 3 } } }, by decide⟩,
   ⟨0, 0, { State.reset with fan := { fans := Vector.replicate 8 { status := .kick, attempt := 4 } } }, by decide⟩,
   ⟨0, -1, { State.reset with fan := { fans := Vector.replicate 8 { status := .kick } } }, by decide⟩,
   ⟨0, { State.reset with fan := { fans := Vector.replicate 8 { status := .pause, attempt := 1 } } }, by decide⟩,
   ⟨0, { tRun [tRec 6 1 0 [0, 0, 0, 0x00010000]] with fan := { fans := Vector.replicate 8 { status := .run } }, ports := Vector.replicate 32 { stale := false } }, by decide⟩,
   ⟨0, 0, { State.reset with fan := { fans := Vector.replicate 8 { status := .run } } }, by decide⟩,
   ⟨0, { State.reset with fan := { fans := Vector.replicate 8 { tacho := true } }, ports := Vector.replicate 32 { stale := false } }, by decide⟩,
   ⟨0, 0, { tRun [tRec 6 1 0 [0], tRec 1 1 0 [4], tRec 2 2 0 [0x20000000]] with ports := Vector.replicate 32 { status := .off }, fan := { fans := Vector.replicate 8 { status := .run } } }, by decide⟩,
   ⟨0, 0, { tRun [tRec 6 1 0 [0], tRec 1 1 0 [4], tRec 2 2 0 [0x20000000]] with ports := Vector.replicate 32 { status := .off }, fan := { fans := Vector.replicate 8 { status := .off } } }, by decide⟩,
   ⟨0, 0, { tRun [tRec 6 1 0 [0], tRec 1 1 0 [4], tRec 2 2 0 [0x20000000]] with ports := Vector.replicate 32 { status := .off }, fan := { fans := Vector.replicate 8 { status := .off } } }, by decide⟩,
   ⟨0, 0, { tRun [tRec 6 1 0 [0], tRec 1 1 0 [4], tRec 2 2 0 [0x20000000]] with ports := Vector.replicate 32 { status := .off }, fan := { fans := Vector.replicate 8 { status := .blocked } } }, by decide⟩⟩

/-- States and operands that meet the hypotheses of FanEvaluationRegistersAndAgeing, clause by clause. -/
theorem witness_fan_evaluation_registers_and_ageing : (∃ (f : FanId) (s : State), s.fanUsed f = true ∧ s.rcp.applied = true ∧ s.fanSrcFaulted f = false ∧ s.fanHeld f = false ∧ s.fan.fans[f].status = .run ∧ s.fan.fans[f].afresh = false ∧ s.fan.fans[f].tempf = false ∧ s.fan.fans[f].man = false ∧ slewStep (s.fanSkips f) (s.fanSlew f) s.fan.fans[f].duty (edgeOf (s.fanSkips f) s.fan.fans[f].duty (s.fanD f (s.stepDown f (s.fanTemp f) 16 (s.stepUp f (s.fanTemp f) 16 s.fan.fans[f].step)))) ≠ 0) ∧
    (∃ (f : FanId) (s : State), s.fanUsed f = true ∧ s.fanSrcFaulted f = true) ∧
    (∃ (f : FanId) (v : Word) (k : SessId) (s : State), s.fanUsed f = true ∧ s.gate k rightCOMMAND = .ok ∧ s.admits (s.fanDrv f) (s.me k) = true ∧ (s.rulesAt (s.fanDrv f) = []) ∧ s.dutyMin (s.fanDrv f) ≤ bits v 0 8 * 257 ∧ bits v 0 8 * 257 ≤ s.dutyMax (s.fanDrv f) ∧ s.check4 (s.fanDrv f) false = .ok) ∧
    (∃ (f : FanId) (v : Word) (k : SessId) (s : State), s.fanUsed f = true ∧ s.gate k rightPARAM = .ok) ∧
    (∃ (f : FanId) (vbank freq : Nat) (s : State), s.fan.fans[f].status = .run ∧ s.fan.fans[f].tacho = false ∧ s.fanReff f ≠ 0 ∧ freq ≠ 0 ∧ 95 * s.fanReff f * 256 ≤ 100 * freq ∧ 100 * freq ≤ 105 * s.fanReff f * 256) ∧
    (∃ (f : FanId) (v : Word) (k : SessId) (s : State), s.fanUsed f = true ∧ s.gateRws k rightSERVICE = .ok ∧ bit v 0 = true) ∧
    (∃ (low sfault : Bool) (sensor : Int) (s : State), s.pwr.comparator = true) :=
  ⟨⟨0, { tRun [tRec 6 1 0 [0x8000, 0, 0x00640000], tRec 6 2 0 [0x64000000], tRec 2 2 0 [0x00000007]] with ports := Vector.replicate 32 { status := .off, enabled := true }, fan := { fans := Vector.replicate 8 { status := .run, afresh := false } } }, by decide⟩,
   ⟨0, tRun [tRec 6 1 0 [0xC000]], by decide⟩,
   ⟨0, 0x800000FF, 0, { tRun [tRec 6 1 0 [0x8000, 0, 0x00640000], tRec 6 2 0 [0x64000000], tRec 2 2 0 [0x00000007]] with ports := Vector.replicate 32 { status := .off, enabled := true }, fan := { fans := Vector.replicate 8 {  } } }, by decide⟩,
   ⟨0, 0, 0, { tRun [tRec 6 1 0 [0x8000, 0, 0x00640000], tRec 6 2 0 [0x64000000], tRec 2 2 0 [0x00000007]] with ports := Vector.replicate 32 { status := .off, enabled := true }, fan := { fans := Vector.replicate 8 {  } } }, by decide⟩,
   ⟨0, 0, 25600, { tRun [tRec 6 1 0 [0, 0, 0, 0, 0x00640000]] with fan := { fans := Vector.replicate 8 { status := .run } } }, by decide⟩,
   ⟨0, 1, 0, { tRun [tRec 6 1 0 [0x8000, 0, 0x00640000], tRec 6 2 0 [0x64000000], tRec 2 2 0 [0x00000007]] with ports := Vector.replicate 32 { status := .off, enabled := true }, fan := { fans := Vector.replicate 8 {  } } }, by decide⟩,
   ⟨true, false, 0, { State.reset with pwr := { comparator := true } }, by decide⟩⟩

/-- States and operands that meet the hypotheses of SlotTriggersSampleAndSupervise, clause by clause. -/
theorem witness_slot_triggers_sample_and_supervise : (∃ (n : SlotId) (i l : Nat) (c : Bool) (xs : List (Nat × Int)) (s : State), s.slotUsed n = true ∧ s.rcp.applied = true ∧ s.spLostNow n = false ∧ s.fbLostNow n = false ∧ s.overruns n = true) ∧
    (∃ (n : SlotId) (i l : Nat) (xs : List (Nat × Int)) (s : State), s.slotUsed n = true ∧ s.rcp.applied = true ∧ s.spLostNow n = false ∧ s.fbLostNow n = false ∧ s.overruns n = false ∧ s.eng.slots[n].mode = .manual ∧ s.eng.slots[n].modePend = none ∧ s.eng.slots[n].swpend = false ∧ s.eng.slots[n].ramp = false ∧ s.unitDue n = false ∧ s.takeOn n = false) ∧
    (∃ (n : SlotId) (s : State), s.eng.slots[n].mode = .auto ∧ s.eng.slots[n].feSince.isSome = true) ∧
    (∃ (n : SlotId) (s : State), s.slotUsed n = true ∧ s.fbLostNow n = true ∧ s.eng.slots[n].fbLost = false ∧ s.eng.slots[n].mode = .auto) ∧
    (∃ (n : SlotId) (s : State), s.slotUsed n = true ∧ s.fbLostNow n = true ∧ s.eng.slots[n].mode ≠ .auto ∧ s.eng.slots[n].mode ≠ .fault ∧ s.eng.slots[n].fbLost = false) ∧
    (∃ (n : SlotId) (s : State), s.slotUsed n = true ∧ s.spLostNow n = true) :=
  ⟨⟨0, 0, 0, true, [], { tRun [tRec 7 1 0 [1342242816, 0]] with eng := { slots := Vector.replicate 128 { lastTrig := some 0, presentAt := 5 } } }, by decide⟩,
   ⟨0, 0, 0, [], { tRun [tRec 7 1 0 [1342242816, 0]] with eng := { slots := Vector.replicate 128 { mode := .manual } } }, by decide⟩,
   ⟨0, { tRun [tRec 7 1 0 [268500992, 0]] with eng := { slots := Vector.replicate 128 { mode := .auto, feSince := some 0 } } }, by decide⟩,
   ⟨0, { { tRun [tRec 7 1 0 [268500992, 0]] with eng := { slots := Vector.replicate 128 { mode := .auto } } } with ports := Vector.replicate 32 { srcLost := true } }, by decide⟩,
   ⟨0, { { tRun [tRec 7 1 0 [268500992, 0]] with eng := { slots := Vector.replicate 128 { mode := .manual } } } with ports := Vector.replicate 32 { srcLost := true } }, by decide⟩,
   ⟨0, { tRun [tRec 7 1 0 [268500992, 1073741824]] with ports := Vector.replicate 32 { srcLost := true } }, by decide⟩⟩

/-- States and operands that meet the hypotheses of SlotCommandsTakeEffect, clause by clause. -/
theorem witness_slot_commands_take_effect : (∃ (n : SlotId) (k : SessId) (s : State), s.slotUsed n = true ∧ s.isTracking n = false ∧ s.gate k rightCOMMAND = .ok ∧ s.eng.slots[n].swpend = false ∧ s.bankOk n s.sys.current s.eng.slots[n].other = true ∧ s.loadOk s.sys.current (some (n, s.eng.slots[n].other[46].toNat)) = true ∧ (s.sys.switching && s.trig n == 0 && decide (s.eng.slots[n].other[46].toNat < modeMinTper s.lowerMode)) = false ∧ (s.eng.slots[n].mode = .off ∨ s.eng.slots[n].mode = .fault)) ∧
    (∃ (n : SlotId) (k : SessId) (s : State), s.slotUsed n = true ∧ s.isTracking n = false ∧ s.gate k rightCOMMAND = .ok ∧ s.eng.slots[n].swpend = false ∧ s.bankOk n s.sys.current s.eng.slots[n].other = true ∧ s.loadOk s.sys.current (some (n, s.eng.slots[n].other[46].toNat)) = true ∧ (s.sys.switching && s.trig n == 0 && decide (s.eng.slots[n].other[46].toNat < modeMinTper s.lowerMode)) = false ∧ s.eng.slots[n].mode ≠ .off ∧ s.eng.slots[n].mode ≠ .fault) ∧
    (∃ (n : SlotId) (k : SessId) (s : State), s.slotUsed n = true ∧ s.isTracking n = false ∧ s.gate k rightCOMMAND = .ok ∧ s.eng.slots[n].mode = .fault ∧ ((s.eng.slots[n].fcause = .feedback && s.fbLostNow n) || (s.eng.slots[n].fcause = .following && decide (s.emax n < (s.setpoint n - s.feedback n).natAbs))) = false) ∧
    (∃ (n : SlotId) (k : SessId) (s : State), s.slotUsed n = true ∧ s.isTracking n = false ∧ s.gate k rightCOMMAND = .ok) ∧
    (∃ (n : SlotId) (v : Word) (k : SessId) (m : SlotMode) (s : State), s.slotUsed n = true ∧ s.isTracking n = false ∧ s.gate k rightCOMMAND = .ok ∧ SlotMode.ofReq (bits v 0 3) = some m ∧ ¬ (m = .standby ∧ s.hset n = 0) ∧ s.eng.slots[n].mode ≠ .fault ∧ (m = .auto && s.fbLostNow n) = false) ∧
    (∃ (n : SlotId) (v : Word) (k : SessId) (s : State), s.slotUsed n = true ∧ s.isTracking n = false ∧ s.gate k rightCOMMAND = .ok ∧ s.spsrc n = 0 ∧ s.spInLimits n (ev v) = true) ∧
    (∃ (n : SlotId) (v : Word) (k : SessId) (s : State), s.slotUsed n = true ∧ s.isTracking n = false ∧ s.gate k rightCOMMAND = .ok ∧ s.clampOut n (ev v) = ev v) ∧
    (∃ (n : SlotId) (b : Bool) (i : Fin 48) (v : Word) (k : SessId) (s : State), s.slotUsed n = true ∧ s.isTracking n = false ∧ s.gate k rightPARAM = .ok ∧ b ≠ s.eng.slots[n].bankB ∧ s.eng.slots[n].swpend = false ∧ s.wordInLimits n i.val v = true) :=
  ⟨⟨0, 0, { tRun [tRec 7 1 0 [1342242816, 0]] with eng := { slots := Vector.replicate 128 { mode := .off } } }, by decide +kernel⟩,
   ⟨0, 0, { tRun [tRec 7 1 0 [1342242816, 0]] with eng := { slots := Vector.replicate 128 { mode := .manual } } }, by decide +kernel⟩,
   ⟨0, 0, { tRun [tRec 7 1 0 [1342242816, 0]] with eng := { slots := Vector.replicate 128 { mode := .fault } } }, by decide⟩,
   ⟨0, 0, tRun [tRec 7 1 0 [1342242816, 0]], by decide⟩,
   ⟨0, 1, 0, .manual, tRun [tRec 7 1 0 [1342242816, 0]], by decide⟩,
   ⟨0, 0, 0, tRun [tRec 7 1 0 [1342242816, 0]], by decide⟩,
   ⟨0, 0, 0, tRun [tRec 7 1 0 [1342242816, 0]], by decide⟩,
   ⟨0, true, 0, 0, 0, tRun [tRec 7 1 0 [1342242816, 0]], by decide⟩⟩

/-- States and operands that meet the hypotheses of TakesStartAndAbort, clause by clause. -/
theorem witness_takes_start_and_abort : (∃ (k : SessId) (s : State), s.gateRws k rightTAKE = .ok ∧ s.eng.take.status ≠ .running ∧ s.slotUsed (Fin.ofNat 128 (bits s.eng.take.cfg 24 7)) = true ∧ (s.eng.slots[(Fin.ofNat 128 (bits s.eng.take.cfg 24 7) : SlotId)].mode = .auto ∨ (s.eng.take.atOutput = true ∧ s.eng.slots[(Fin.ofNat 128 (bits s.eng.take.cfg 24 7) : SlotId)].mode = .manual)) ∧ (s.eng.take.sig = 2 → s.trig (Fin.ofNat 128 (bits s.eng.take.cfg 24 7)) = 0 ∧ s.law (Fin.ofNat 128 (bits s.eng.take.cfg 24 7)) ≠ lawDEMOD ∧ 1 ≤ bits s.eng.take.frq 0 16 ∧ bits s.eng.take.frq 16 16 ≤ 5000 ∧ 4 * bits s.eng.take.frq 16 16 * s.tper (Fin.ofNat 128 (bits s.eng.take.cfg 24 7)) ≤ 2 ^ 32 ∧ bits s.eng.take.frq 0 16 < bits s.eng.take.frq 16 16)) ∧
    (∃ (k : SessId) (s : State), s.gateRws k rightTAKE = .ok ∧ s.eng.take.status = .running) :=
  ⟨⟨0, { tRun [tRec 7 1 0 [1342242816, 0]] with eng := { slots := Vector.replicate 128 { mode := .auto } } }, by decide⟩,
   ⟨0, { tRun [tRec 7 1 0 [1342242816, 0]] with eng := { take := { status := .running } } }, by decide⟩⟩

/-- States and operands that meet the hypotheses of GnssChannelsFollowTheirSignals, clause by clause. -/
theorem witness_gnss_channels_follow_their_signals : (∃ (c : GnsCh) (prn : Nat) (s : State), s.gnssOn = true ∧ s.gns.chans[c].st = .idle ∧ s.gns.chans[c].barred = false ∧ (∀ a l, s.gns.chans[c].faults = a :: l → a + 120000000 ≤ s.tick) ∧ 1 ≤ prn ∧ prn ≤ 32) ∧
    (∃ (c : GnsCh) (b : Bool) (s : State), s.gns.chans[c].st = .search) ∧
    (∃ (c : GnsCh) (b : Bool) (s : State), s.gns.chans[c].st = .pullin) ∧
    (∃ (c : GnsCh) (s : State), s.gns.chans[c].st = .track) ∧
    (∃ (c : GnsCh) (b : Bool) (s : State), (s.gns.chans[c].st = .bitsync ∨ s.gns.chans[c].st = .nav)) ∧
    (∃ (c : GnsCh) (s : State), s.gns.chans[c].tracks = true) ∧
    (∃ (c : GnsCh) (b : Bool) (s : State), s.gns.chans[c].st = .reacq) ∧
    (∃ (c : GnsCh) (s : State), s.gnssOn = true ∧ (s.slotFaulted (codeSlot c) || s.slotFaulted (carrierSlot c)) = true) :=
  ⟨⟨0, 1, tRun tGns, by exact ⟨by decide, by decide, by decide, fun _ _ h => (nomatch h : False).elim, by decide, by decide⟩⟩,
   ⟨0, true, { tRun tGns with gns := { chans := Vector.replicate 32 { st := .search } } }, by decide⟩,
   ⟨0, true, { tRun tGns with gns := { chans := Vector.replicate 32 { st := .pullin } } }, by decide⟩,
   ⟨0, { tRun tGns with gns := { chans := Vector.replicate 32 { st := .track } } }, by decide⟩,
   ⟨0, true, { tRun tGns with gns := { chans := Vector.replicate 32 { st := .nav } } }, by decide⟩,
   ⟨0, { tRun tGns with gns := { chans := Vector.replicate 32 { st := .nav } } }, by decide⟩,
   ⟨0, false, { tRun tGns with gns := { chans := Vector.replicate 32 { st := .reacq } } }, by decide⟩,
   ⟨0, { tRun tGns with eng := { slots := Vector.replicate 128 { mode := .fault } } }, by decide⟩⟩

/-- States and operands that meet the hypotheses of GnssStartsAntennaAndRate, clause by clause. -/
theorem witness_gnss_starts_antenna_and_rate : (∃ (l : List Nat) (k : SessId) (s : State), s.gateRws k rightSERVICE = .ok ∧ s.gnssOn = true) ∧
    (∃ (k : SessId) (s : State), s.gateRws k rightSERVICE = .ok ∧ s.gnssOn = true) ∧
    (∃ (v : Word) (k : SessId) (s : State), s.gate k rightPARAM = .ok ∧ bits v 0 3 ≤ 4) ∧
    (∃ (b : Bool) (i v : Nat) (s : State), s.gnssOn = true) ∧
    (∃ (i v : Nat) (s : State), s.gns.ant = .short) ∧
    (∃ (i v : Nat) (s : State), s.gns.ant = .open) :=
  ⟨⟨[], 0, tRun tGns, by decide⟩,
   ⟨0, tRun tGns, by decide⟩,
   ⟨4, 0, tRun tGns, by decide⟩,
   ⟨true, 0, 0, { tRun tGns with tmb := { qual := .locked } }, by decide⟩,
   ⟨0, 0, { tRun tGns with gns := { ant := .short } }, by decide⟩,
   ⟨0, 0, { tRun tGns with gns := { ant := .open } }, by decide⟩⟩

/-- States and operands that meet the hypotheses of GnssMeasurementsWordsAndFixes, clause by clause. -/
theorem witness_gnss_measurements_words_and_fixes : (∃ (ms : List GnsMeas) (s : State), s.gnssOn = true ∧ s.gns.q11.length + (ms.filter fun m => s.gns.chans[m.chan].tracks && !s.gns.asleep).length + 4 ≤ 64) ∧
    (∃ (ms : List GnsMeas) (s : State), s.gnssOn = true ∧ 64 < s.gns.q11.length + (ms.filter fun m => s.gns.chans[m.chan].tracks && !s.gns.asleep).length + 4) ∧
    (∃ (c : GnsCh) (w : NavWord) (s : State), s.gnssOn = true ∧ s.gns.chans[c].st = .nav ∧ s.gns.q11.length < 64) ∧
    (∃ (c : GnsCh) (w : NavWord) (s : State), s.gnssOn = true ∧ s.gns.chans[c].st = .nav ∧ 64 ≤ s.gns.q11.length) ∧
    (∃ (v : Fix) (s : State), s.gnssOn = true ∧ 4 ≤ (s.usable v.svs).length) ∧
    (∃ (v : Fix) (s : State), s.gnssOn = true ∧ (s.usable v.svs).length < 3) ∧
    (∃ s : State, s.gnssOn = true ∧ s.gns.lost = false) :=
  ⟨⟨[⟨0, true, true, false, 0, 0, 0, 0⟩], { tRun tGns with gns := { chans := Vector.replicate 32 { st := .nav }, q11 := List.replicate 59 [] } }, by decide⟩,
   ⟨[⟨0, true, true, false, 0, 0, 0, 0⟩], { tRun tGns with gns := { chans := Vector.replicate 32 { st := .nav }, q11 := List.replicate 60 [] } }, by decide⟩,
   ⟨0, ⟨0, false, false, 0, 0, 0, false, false, none, none⟩, { tRun tGns with gns := { chans := Vector.replicate 32 { st := .nav }, q11 := List.replicate 63 [] } }, by decide⟩,
   ⟨0, ⟨0, false, false, 0, 0, 0, false, false, none, none⟩, { tRun tGns with gns := { chans := Vector.replicate 32 { st := .nav }, q11 := List.replicate 64 [] } }, by decide⟩,
   ⟨⟨0, [(0, 90), (1, 90), (2, 90), (3, 90)], 0, 0, 0, 0, 0, 0, 0, 0, 0, 0, 0⟩, { tRun tGns with gns := { chans := Vector.replicate 32 { st := .nav, prn := 1 }, eph := [(1, 0)] } }, by decide⟩,
   ⟨⟨0, [(0, 90), (1, 90)], 0, 0, 0, 0, 0, 0, 0, 0, 0, 0, 0⟩, { tRun tGns with gns := { chans := Vector.replicate 32 { st := .nav, prn := 1 }, eph := [(1, 0)] } }, by decide⟩,
   ⟨tRun tGns, by decide⟩⟩

/-- One section selected that holds entry 0; a solution at hand. -/
def tSctA : State := { tRun [tRec 9 1 0 [1]] with sct := { sel := #v[1, 0, 0, 0], sols := [⟨0, 0, 0, none, 0, 0, 0, 1⟩] }, hie := { q10 := upd (Vector.replicate 256 {}) (0 : EntryId) fun _ => { holder := .ofSection 0 } } }
/-- The same under an active Task Controller. -/
def tSctB : State := { tRun [tRec 9 1 0 [1]] with sct := { sel := #v[1, 0, 0, 0], tcActive := true }, hie := { q10 := upd (Vector.replicate 256 {}) (0 : EntryId) fun _ => { holder := .ofSection 0 } } }
/-- States and operands that meet the hypotheses of SectionsEngageLeaveAndSet, clause by clause. -/
theorem witness_sections_engage_leave_and_set : (∃ (k : SessId) (u s : State), s.gate k rightCOMMAND = .ok ∧ s.isWorker = false ∧ s.engageCheck s.selected false = .ok ∧ s.sct.engaging = none ∧ s.reserveHere (s.selected.filter s.sctHere) = some u ∧ (s.selected.filter fun i => !s.sctHere i && s.sct.sects[i].slot.isNone) = []) ∧
    (∃ (k : SessId) (u s : State), s.gate k rightCOMMAND = .ok ∧ s.isWorker = false ∧ s.engageCheck s.selected true = .ok ∧ s.sct.engaging = none ∧ s.reserveHere (s.selected.filter s.sctHere) = some u ∧ (s.selected.filter fun i => !s.sctHere i && s.sct.sects[i].slot.isNone) = []) ∧
    (∃ (k : SessId) (s : State), s.gate k rightCOMMAND = .ok ∧ s.isWorker = false) ∧
    (∃ (k : SessId) (s : State), s.gate k rightCOMMAND = .ok ∧ s.isWorker = false ∧ (s.setSections s.selectedUsed true).2 = true) ∧
    (∃ (k : SessId) (s : State), s.gate k rightCOMMAND = .ok ∧ s.isWorker = false ∧ (s.setSections s.selectedUsed false).2 = true) ∧
    (∃ (k : SessId) (s : State), s.gate k rightCOMMAND = .ok ∧ s.isWorker = false ∧ s.sctEng = false) ∧
    (∃ (k : SessId) (s : State), s.gate k rightCOMMAND = .ok ∧ s.isWorker = false) ∧
    (∃ (a : Nat) (v : Word) (f : SctState → SctState) (k : SessId) (s : State), boundaryWord a v = some f ∧ s.gate k rightPARAM = .ok ∧ s.isWorker = false ∧ s.sctEng = false) :=
  ⟨⟨0, tSctA, tSctA, by exact ⟨by decide +kernel, by decide +kernel, by decide +kernel, by rfl, by (rw [show (tSctA).selected.filter (tSctA).sctHere = [0] by decide +kernel]; unfold State.reserveHere; rw [if_pos (show ((tSctA).sectEntry 0).isSome = true by decide +kernel)]; rfl), by decide +kernel⟩⟩,
   ⟨0, tSctB, tSctB, by exact ⟨by decide +kernel, by decide +kernel, by decide +kernel, by rfl, by (rw [show (tSctB).selected.filter (tSctB).sctHere = [0] by decide +kernel]; unfold State.reserveHere; rw [if_pos (show ((tSctB).sectEntry 0).isSome = true by decide +kernel)]; rfl), by decide +kernel⟩⟩,
   ⟨0, { tRun [tRec 9 1 0 [1]] with sct := { sel := #v[1, 0, 0, 0] } }, by decide⟩,
   ⟨0, { tRun [tRec 9 1 0 [1]] with sct := { sel := #v[1, 0, 0, 0] } }, by decide +kernel⟩,
   ⟨0, { tRun [tRec 9 1 0 [1]] with sct := { sel := #v[1, 0, 0, 0] } }, by decide +kernel⟩,
   ⟨0, { tRun [tRec 9 1 0 [1]] with sct := { sel := #v[1, 0, 0, 0] } }, by decide⟩,
   ⟨0, { tRun [tRec 9 1 0 [1]] with sct := { sel := #v[1, 0, 0, 0] } }, by decide⟩,
   ⟨0x00300020, 5, fun c => { c with orgLat := 5 }, 0, { tRun [tRec 9 1 0 [1]] with sct := { sel := #v[1, 0, 0, 0] } }, by exact ⟨rfl, by decide, by decide, by decide⟩⟩⟩

/-- States and operands that meet the hypotheses of SectionEvaluationsAndSourcesAct, clause by clause. -/
theorem witness_section_evaluations_and_sources_act : (∃ s : State, s.isWorker = false ∧ s.rcp.applied = true ∧ s.sct.fault = false) ∧
    (∃ s : State, s.isWorker = false ∧ s.rcp.applied = true ∧ s.sct.fault = false ∧ s.sct.resRun < 2) ∧
    (∃ s : State, s.isWorker = false ∧ s.rcp.applied = true ∧ s.sct.fault = false ∧ 2 ≤ s.sct.resRun) ∧
    (∃ (lat lon : Int) (s : State), s.isWorker = false ∧ s.rcp.applied = true ∧ s.posSrc = 1 ∧ s.sct.extCog = none) ∧
    (∃ (h v : Nat) (lat lon : Int) (a : Nat) (s : State), s.isWorker = false ∧ s.rcp.applied = true ∧ s.posSrc = 1 ∧ s.sct.extPos = some (lat, lon, a) ∧ a ≤ s.tick + 6000000 ∧ s.tick ≤ a + 6000000) ∧
    (∃ s : State, s.isWorker = false ∧ (s.nsectIds.filter fun i => s.sct.sects[i].mode == .auto) ≠ [] ∧ s.sct.susp = false ∧ (s.positionOk && s.speedOk) = false) ∧
    (∃ s : State, s.isWorker = false ∧ s.spdSrc = 2) ∧
    (∃ (d : Nat) (v : Word) (s : State), s.isWorker = false ∧ s.sct.tcActive = true ∧ s.rcp.applied = true) ∧
    (∃ s : State, s.isWorker = false ∧ (s.nsectIds.filter fun i => s.sct.sects[i].mode == .ext) ≠ [] ∧ s.sct.tcOk = true) :=
  ⟨⟨tRun [tRec 9 1 0 [1]], by decide⟩,
   ⟨{ tRun [tRec 9 1 0 [1]] with sct := {  } }, by decide⟩,
   ⟨{ tRun [tRec 9 1 0 [1]] with sct := { resRun := 2 } }, by decide⟩,
   ⟨0, 0, tRun [tRec 9 1 0 [1073741824]], by decide⟩,
   ⟨0, 0, 0, 0, 0, { tRun [tRec 9 1 0 [1073741824]] with sct := { extPos := some (0, 0, 0) } }, by decide⟩,
   ⟨{ tRun [tRec 9 1 0 [1]] with sct := { sects := Vector.replicate 128 { mode := .auto } } }, by decide +kernel⟩,
   ⟨tRun [tRec 9 1 0 [536870912]], by decide⟩,
   ⟨0, 0, { tRun [tRec 9 1 0 [1]] with sct := { tcActive := true } }, by decide⟩,
   ⟨{ tRun [tRec 9 1 0 [1]] with sct := { tcOk := true, sects := Vector.replicate 128 { mode := .ext } } }, by decide +kernel⟩⟩

/-- States and operands that meet the hypotheses of ClapperLinksAndEchoes, clause by clause. -/
theorem witness_clapper_links_and_echoes : (∃ (d : Side) (s : State), s.linkUsed d = true) ∧
    (∃ (d : Side) (s : State), s.linkUsed d = true) ∧
    (∃ (a : Nat) (s : State), a ≠ s.sys.addr) ∧
    (∃ s : State, s.linkUsed false = true) ∧
    (∃ (e : Nat) (s : State), s.linkUsed true = true) ∧
    (∃ s : State, s.linkUsed true = true ∧ s.hie.echoRun = 0) ∧
    (∃ s : State, s.linkUsed true = true ∧ 1 ≤ s.hie.echoRun) ∧
    (∃ (tat e0 e : Nat) (s : State), s.hie.ereqAt = some e0 ∧ tat ≤ 4000 ∧ e ≤ e0 + 12000 ∧ s.hie.dlyOk = false ∧ s.hie.samples.length < 15) ∧
    (∃ (tat c e : Nat) (s : State), s.hie.ereqAt.isSome = true ∧ c ≠ (Frame.ersp tat).crc ∧ s.linkUsed true = true ∧ s.hie.echoRun = 0) ∧
    (∃ (e : Nat) (s : State), s.linkUsed false = true ∧ s.linkUsed true = false ∧ s.hie.mark = none) ∧
    (∃ (e : Nat) (s : State), s.linkUsed false = true ∧ s.linkUsed true = true ∧ s.hie.mark = none) ∧
    (∃ s : State, s.isWorker = false ∧ s.linkUsed true = true ∧ s.rcp.applied = true) :=
  ⟨⟨true, tRun [tRec 11 1 0 [0x00000100], tRec 11 2 0 [1], tRec 11 4 0 [0x80010000]], by decide⟩,
   ⟨true, tRun [tRec 11 1 0 [0x00000100], tRec 11 2 0 [1], tRec 11 4 0 [0x80010000]], by decide⟩,
   ⟨5, State.reset, by decide⟩,
   ⟨{ tRun [tRec 11 1 0 [0x80000200], tRec 11 2 0 [0x0201], tRec 11 4 0 [0x80000000]] with sys := { addr := 1 } }, by decide⟩,
   ⟨0, tRun [tRec 11 1 0 [0x00000100], tRec 11 2 0 [1], tRec 11 4 0 [0x80010000]], by decide⟩,
   ⟨tRun [tRec 11 1 0 [0x00000100], tRec 11 2 0 [1], tRec 11 4 0 [0x80010000]], by decide⟩,
   ⟨{ tRun [tRec 11 1 0 [0x00000100], tRec 11 2 0 [1], tRec 11 4 0 [0x80010000]] with hie := { echoRun := 1 } }, by decide⟩,
   ⟨1600, 0, 3000, { tRun [tRec 11 1 0 [0x00000100], tRec 11 2 0 [1], tRec 11 4 0 [0x80010000]] with hie := { ereqAt := some 0 } }, by decide⟩,
   ⟨1600, 1000, 0, { tRun [tRec 11 1 0 [0x00000100], tRec 11 2 0 [1], tRec 11 4 0 [0x80010000]] with hie := { ereqAt := some 0 } }, by decide⟩,
   ⟨0, { tRun [tRec 11 1 0 [0x80000100], tRec 11 2 0 [1]] with sys := { addr := 1 } }, by decide⟩,
   ⟨0, { tRun [tRec 11 1 0 [0x80000200], tRec 11 2 0 [0x0201], tRec 11 4 0 [0x80000000]] with sys := { addr := 1 } }, by decide⟩,
   ⟨tRun [tRec 11 1 0 [0x00000100], tRec 11 2 0 [1], tRec 11 4 0 [0x80010000]], by decide⟩⟩

/-- States and operands that meet the hypotheses of BeaconsFlagsAndFailedHops, clause by clause. -/
theorem witness_beacons_flags_and_failed_hops : (∃ (cum ms sec q n m : Nat) (a : Option (Nat × Nat × Nat)) (s : State), s.linkUsed false = true ∧ s.hie.mark = some m ∧ (s.hie.validAt = none ∨ n = s.hie.stepCnt)) ∧
    (∃ (d : Side) (k : FlagId) (v : Bool) (s : State), s.xfUsed k = true ∧ s.xfOrig k ≠ s.sys.addr ∧ (s.link (s.sideOf (s.xfOrig k))).down = false ∧ (s.link (s.sideOf (s.xfOrig k))).failed = false) ∧
    (∃ (d : Side) (o i : Nat) (v : Bool) (c : Nat) (s : State), c ≠ (Frame.flag o i v).crc) ∧
    (∃ (k : FlagId) (s : State), s.xfUsed k = true ∧ s.xfOrig k ≠ s.sys.addr) ∧
    (∃ (d : Side) (r : Nat) (w : Bool) (s : State), s.hopNamed r w = some s.hop ∧ s.linkUsed true = true) ∧
    (∃ (d : Side) (r : Nat) (w : Bool) (a : Nat) (s : State), s.hopNamed r w = some a ∧ a + 1 = s.hop ∧ s.linkUsed false = true) ∧
    (∃ (d : Side) (r : Nat) (w : Bool) (c : Nat) (s : State), c ≠ (Frame.hopfail r w).crc) :=
  ⟨⟨0, 0, 0, 0, 0, 0, none, { tRun [tRec 11 1 0 [0x80000100], tRec 11 2 0 [1]] with sys := { addr := 1 }, hie := { mark := some 0 } }, by decide⟩,
   ⟨false, 0, true, { tRun [tRec 11 1 0 [0x80000200], tRec 11 2 0 [0x0201], tRec 11 4 0 [0x80000000]] with sys := { addr := 1 } }, by decide⟩,
   ⟨false, 0, 0, true, 1000, State.reset, by decide +kernel⟩,
   ⟨0, { tRun [tRec 11 1 0 [0x80000200], tRec 11 2 0 [0x0201], tRec 11 4 0 [0x80000000]] with sys := { addr := 1 } }, by decide⟩,
   ⟨true, 1, false, tRun [tRec 11 1 0 [0x00000100], tRec 11 2 0 [1], tRec 11 4 0 [0x80010000]], by decide⟩,
   ⟨false, 0, true, 0, { tRun [tRec 11 1 0 [0x80000200], tRec 11 2 0 [0x0201], tRec 11 4 0 [0x80000000]] with sys := { addr := 1 } }, by decide⟩,
   ⟨false, 0, true, 1000, State.reset, by decide +kernel⟩⟩

/-- States and operands that meet the hypotheses of LockGroupsStartRunAndStop, clause by clause. -/
theorem witness_lock_groups_start_run_and_stop : (∃ (g : LgId) (src : Src) (s : State), s.isWorker = false ∧ s.lgUsed g = true ∧ s.srcGate src = .ok ∧ s.hie.lgs[g].st = .stopped) ∧
    (∃ (g : LgId) (src : Src) (s : State), s.isWorker = false ∧ s.lgUsed g = true ∧ s.srcGate src = .ok ∧ s.hie.lgs[g].st = .stopping) ∧
    (∃ (g : LgId) (src : Src) (s : State), s.isWorker = false ∧ s.lgUsed g = true ∧ s.srcGate src = .ok ∧ (s.hie.lgs[g].st = .starting ∨ s.hie.lgs[g].st = .running)) ∧
    (∃ (g : LgId) (s : State), s.isWorker = false ∧ s.hie.lgs[g].st = .starting) ∧
    (∃ (g : LgId) (s : State), s.isWorker = false ∧ s.hie.lgs[g].st = .stopping ∧ s.hie.lgs[g].held = none) ∧
    (∃ (g : LgId) (m : Fin 32) (r : Running) (e : EntryId) (n : Nat) (s : State), (s.hie.runs.find? fun r => decide (r.group = g) && decide (r.idx = m) && !r.carrier) = some r ∧ r.slot = some e.val ∧ s.hie.q10[e].cmd = none ∧ r.next s.now = some n ∧ s.queueCheck (.lockGroup g) r.port true r.value = .ok) ∧
    (∃ (g : LgId) (m : Fin 32) (s : State), s.isWorker = false ∧ (s.hie.lgs[g].st = .starting ∨ s.hie.lgs[g].st = .running) ∧ s.hie.lgs[g].wait.getLsbD m.val = true ∧ s.workerReady (s.memDev g m) = true ∧ s.hie.q14.length < 64) :=
  ⟨⟨0, .host 0 0, { tRun [tRec 11 1 0 [0x00000100], tRec 11 2 0 [1], tRec 10 1 0 [0x80000000, 0, 0], tRec 10 2 0 [0x04080000, 0], tRec 1 1 0 [0x0C], tRec 2 2 0 [0x100]] with hie := { lgs := Vector.replicate 16 {  } } }, by decide⟩,
   ⟨0, .host 0 0, { tRun [tRec 11 1 0 [0x00000100], tRec 11 2 0 [1], tRec 10 1 0 [0x80000000, 0, 0], tRec 10 2 0 [0x04080000, 0], tRec 1 1 0 [0x0C], tRec 2 2 0 [0x100]] with hie := { lgs := Vector.replicate 16 { st := .stopping } } }, by decide⟩,
   ⟨0, .host 0 0, { tRun [tRec 11 1 0 [0x00000100], tRec 11 2 0 [1], tRec 10 1 0 [0x80000000, 0, 0], tRec 10 2 0 [0x04080000, 0], tRec 1 1 0 [0x0C], tRec 2 2 0 [0x100]] with hie := { lgs := Vector.replicate 16 { st := .running } } }, by decide⟩,
   ⟨0, { tRun [tRec 11 1 0 [0x00000100], tRec 11 2 0 [1], tRec 10 1 0 [0x80000000, 0, 0], tRec 10 2 0 [0x04080000, 0], tRec 1 1 0 [0x0C], tRec 2 2 0 [0x100]] with hie := { lgs := Vector.replicate 16 { st := .starting } } }, by decide⟩,
   ⟨0, { tRun [tRec 11 1 0 [0x00000100], tRec 11 2 0 [1], tRec 10 1 0 [0x80000000, 0, 0], tRec 10 2 0 [0x04080000, 0], tRec 1 1 0 [0x0C], tRec 2 2 0 [0x100]] with hie := { lgs := Vector.replicate 16 { st := .stopping } } }, by decide⟩,
   ⟨0, 0, { group := 0, idx := 0, port := 0, carrier := false, value := 0, offset := 0, per := 0, phase := 0, startB := 5, stopB := none, oneshot := false, slot := some 0, last := none }, 0, 5, { tRun [tRec 11 1 0 [0x00000100], tRec 11 2 0 [1], tRec 10 1 0 [0x80000000, 0, 0], tRec 10 2 0 [0x04080000, 0], tRec 1 1 0 [0x0C], tRec 2 2 0 [0x100]] with hie := { lgs := Vector.replicate 16 { st := .running }, runs := [{ group := 0, idx := 0, port := 0, carrier := false, value := 0, offset := 0, per := 0, phase := 0, startB := 5, stopB := none, oneshot := false, slot := some 0, last := none }] } }, by decide⟩,
   ⟨0, 0, { tRun [tRec 11 1 0 [0x00000100], tRec 11 2 0 [1], tRec 10 1 0 [0x80000000, 0, 0], tRec 10 2 0 [0x04080000, 0], tRec 1 1 0 [0x0C], tRec 2 2 0 [0x100]] with hie := { lgs := Vector.replicate 16 { st := .running, wait := 1 }, workers := Vector.replicate 64 { rel := true, qual := .locked } } }, by decide⟩⟩

/-- States and operands that meet the hypotheses of ManagersMessagesReachWorkers, clause by clause. -/
theorem witness_managers_messages_reach_workers : (∃ s : State, s.rcp.applied = true ∧ s.hie.q14.length < 64) ∧
    (∃ (a : Nat) (b : List Byte) (s : State), s.isWorker = true ∧ s.known a = true ∧ byteAt b 0 = s.sys.addr ∧ s.hie.rel = true ∧ byteAt b 2 ≤ 2 ∧ 1 ≤ byteAt b 2 ∧ s.now < s.rebuild (fieldAt b 8 4) (fieldAt b 12 4) ∧ byteAt b 16 ≠ 0xFF ∧ s.hie.q10[(Fin.ofNat 256 (byteAt b 16) : EntryId)].holder = .manager ∧ s.queueCheck (.hier (byteAt b 3 == 2) (fieldAt b 4 2) (Fin.ofNat 32 (byteAt b 1) : PortId).val (byteAt b 16) 0) (Fin.ofNat 32 (byteAt b 1)) (byteAt b 2 == 1) (fieldAt b 6 2) = .ok) ∧
    (∃ (a : Nat) (b : List Byte) (s : State), s.isWorker = true ∧ s.known a = true ∧ byteAt b 0 = s.sys.addr ∧ s.hie.rel = false ∧ s.hie.q14.length < 64) ∧
    (∃ (a : Nat) (b : List Byte) (e : EntryId) (s : State), s.isWorker = true ∧ s.known a = true ∧ byteAt b 0 = s.sys.addr ∧ s.hie.rel = true ∧ byteAt b 2 = 1 ∧ s.freeEntry 255 = some e ∧ s.hie.q14.length < 64) ∧
    (∃ (a : Nat) (b : List Byte) (s : State), s.isWorker = true ∧ s.known a = true ∧ byteAt b 0 = s.sys.addr ∧ s.hie.rel = true ∧ byteAt b 2 = 2 ∧ s.hie.q10[(Fin.ofNat 256 (byteAt b 1) : EntryId)].holder = .manager) ∧
    (∃ (a : Nat) (b : List Byte) (e : EntryId) (r : Running) (s : State), s.isWorker = true ∧ s.known a = true ∧ byteAt b 0 = s.sys.addr ∧ s.hie.rel = true ∧ byteAt b 2 = 1 ∧ r = runOf (Fin.ofNat 16 (byteAt b 1)) 0 (word (fieldAt b 24 4)) (word (fieldAt b 28 4)) (fieldAt b 4 5) (fieldAt b 12 4 * 256) (s.rebuild (fieldAt b 16 4) (fieldAt b 20 4)) false ∧ r.carrier = false ∧ s.admitsMember r = true ∧ s.freeEntry 255 = some e) ∧
    (∃ (a : Nat) (b : List Byte) (s : State), s.isWorker = true ∧ s.known a = true ∧ byteAt b 0 = s.sys.addr) ∧
    (∃ s : State, s.hie.q14.length ≤ 64) ∧
    (∃ (a : Nat) (b : List Byte) (s : State), s.isWorker = true ∧ s.known a = true ∧ byteAt b 0 = s.sys.addr ∧ byteAt b 1 = 1) ∧
    (∃ (n : Nat) (s : State), s.isWorker = true ∧ s.hie.orphan = false ∧ s.rcp.applied = true ∧ s.hie.validAt = some n) :=
  ⟨⟨tRun [], by decide⟩,
   ⟨0, [1, 0, 1, 1, 0, 0, 0, 0, 1, 0, 0, 0, 0, 0, 0, 0, 3], { tRun ([tRec 11 1 0 [0x80000200]] ++ tPort 0x0C ++ [tRec 2 2 0 [0x00000380]]) with sys := { addr := 1 }, hie := { State.reset.hie with rel := true, q10 := Vector.replicate 256 { holder := .manager } } }, by decide⟩,
   ⟨0, [1], { tRun ([tRec 11 1 0 [0x80000200]]) with sys := { addr := 1 }, hie := { State.reset.hie with rel := false } }, by decide⟩,
   ⟨0, [1, 0, 1], 0, { tRun ([tRec 11 1 0 [0x80000200]]) with sys := { addr := 1 }, hie := { State.reset.hie with rel := true } }, by decide⟩,
   ⟨0, [1, 3, 2], { tRun ([tRec 11 1 0 [0x80000200]]) with sys := { addr := 1 }, hie := { State.reset.hie with rel := true, q10 := Vector.replicate 256 { holder := .manager } } }, by decide⟩,
   ⟨0, [1, 2, 1, 0, 1, 0, 0, 0, 0, 0, 0, 0, 0, 0, 0, 0, 1, 0, 0, 0, 0, 0, 0, 0, 10, 0, 8, 0, 0, 0, 0, 0], 0, runOf 2 0 (word 0x0008000A) (word 0) 1 0 1 false, { tRun ([tRec 11 1 0 [0x80000200]] ++ tPort 0x0C ++ [tRec 2 2 0 [0x00000380]]) with sys := { addr := 1 }, hie := { State.reset.hie with rel := true } }, by decide⟩,
   ⟨0, [1, 2], { tRun ([tRec 11 1 0 [0x80000200]]) with sys := { addr := 1 }, hie := { State.reset.hie with rel := true } }, by decide⟩,
   ⟨tRun [], by decide⟩,
   ⟨0, [1, 1], { tRun ([tRec 11 1 0 [0x80000200]]) with sys := { addr := 1 }, hie := { State.reset.hie with rel := true } }, by decide⟩,
   ⟨0, { tRun ([tRec 11 1 0 [0x80000200]]) with sys := { addr := 1 }, hie := { State.reset.hie with validAt := some 0 } }, by decide⟩⟩

/-- States and operands that meet the hypotheses of WorkersMessagesReachTheManager, clause by clause. -/
theorem witness_workers_messages_reach_the_manager : (∃ (a : Fin 64) (b : List Byte) (s : State), s.isWorker = false ∧ s.known a.val = true ∧ a.val ≠ 0 ∧ fieldAt b 4 4 = s.hid.toNat) ∧
    (∃ (a : Nat) (b : List Byte) (s : State), s.known a = true ∧ fieldAt b 4 4 ≠ s.hid.toNat ∧ s.hie.hidExc.contains a = false) ∧
    (∃ (a : Nat) (b : List Byte) (i : SectId) (p : Plan) (s : State), s.isWorker = false ∧ s.known a = true ∧ byteAt b 1 ≠ 0xFF ∧ byteAt b 3 = 0 ∧ s.nsectIds.find? (fun i => s.sctDev i == a && (s.sctPort i).val == byteAt b 1) = some i ∧ s.sct.sects[i].plan = some p) ∧
    (∃ (a : Nat) (b : List Byte) (i : SectId) (s : State), s.isWorker = false ∧ s.known a = true ∧ byteAt b 1 ≠ 0xFF ∧ byteAt b 3 ≠ 0 ∧ byteAt b 3 ≠ Status.stale.code ∧ byteAt b 3 ≠ Status.superseded.code ∧ s.nsectIds.find? (fun i => s.sctDev i == a && (s.sctPort i).val == byteAt b 1) = some i) ∧
    (∃ (a : Nat) (b : List Byte) (i : SectId) (s : State), s.isWorker = false ∧ s.known a = true ∧ s.nsectIds.find? (fun i => s.sctDev i == a && (s.sctPort i).val == byteAt b 1) = some i) ∧
    (∃ (a : Fin 64) (s : State), s.isWorker = false ∧ a.val ≠ 0 ∧ s.known a.val = true ∧ s.hie.workers[a].lost = false) ∧
    (∃ (a : Fin 64) (s : State), s.isWorker = false ∧ s.autoRel = true ∧ s.hie.workers[a].rel = false ∧ s.releasable a = true ∧ s.hie.q14.length < 64) ∧
    (∃ (a : Fin 64) (k : SessId) (s : State), s.gate k rightCOMMAND = .ok ∧ s.isWorker = false ∧ s.releasable a = true ∧ s.hie.q14.length < 64) ∧
    (∃ (a : Fin 64) (k : SessId) (s : State), s.gate k rightCOMMAND = .ok ∧ s.releasable a = false) :=
  ⟨⟨1, [1, 0, 0, 0, 0, 0, 0, 0], { tRun [tRec 11 1 0 [0x40000100], tRec 11 2 0 [1], tRec 9 1 0 [1], tRec 9 2 0 [0x01020000]] with hie := { State.reset.hie with rel := false } }, by decide⟩,
   ⟨1, [1, 0, 0, 0, 5, 0, 0, 0], { tRun [tRec 11 1 0 [0x40000100], tRec 11 2 0 [1], tRec 9 1 0 [1], tRec 9 2 0 [0x01020000]] with hie := { State.reset.hie with rel := false } }, by decide⟩,
   ⟨1, [1, 2, 0, 0], 0, { on := true, at_ := 0, serves := 0, delay := 0 }, { tRun [tRec 11 1 0 [0x40000100], tRec 11 2 0 [1], tRec 9 1 0 [1], tRec 9 2 0 [0x01020000]] with hie := { State.reset.hie with rel := false }, sct := { State.reset.sct with sects := upd State.reset.sct.sects (0 : SectId) fun x => { x with plan := some { on := true, at_ := 0, serves := 0, delay := 0 } } } }, by decide⟩,
   ⟨1, [1, 2, 0, 1], 0, { tRun [tRec 11 1 0 [0x40000100], tRec 11 2 0 [1], tRec 9 1 0 [1], tRec 9 2 0 [0x01020000]] with hie := { State.reset.hie with rel := false }, sct := { State.reset.sct with sects := upd State.reset.sct.sects (0 : SectId) fun x => { x with plan := some { on := true, at_ := 0, serves := 0, delay := 0 } } } }, by decide⟩,
   ⟨1, [1, 2, 0x10, 1], 0, { tRun [tRec 11 1 0 [0x40000100], tRec 11 2 0 [1], tRec 9 1 0 [1], tRec 9 2 0 [0x01020000]] with hie := { State.reset.hie with rel := false } }, by decide⟩,
   ⟨1, { tRun [tRec 11 1 0 [0x40000100], tRec 11 2 0 [1], tRec 9 1 0 [1], tRec 9 2 0 [0x01020000]] with hie := { State.reset.hie with rel := false } }, by decide⟩,
   ⟨1, { tRun [tRec 11 1 0 [0x40000100], tRec 11 2 0 [1], tRec 9 1 0 [1], tRec 9 2 0 [0x01020000]] with hie := { State.reset.hie with dlyOk := true, workers := Vector.replicate 64 { heard := some 0, qual := .locked, upOk := true } } }, by decide⟩,
   ⟨1, 0, { tRun [tRec 11 1 0 [0x40000100], tRec 11 2 0 [1], tRec 9 1 0 [1], tRec 9 2 0 [0x01020000]] with hie := { State.reset.hie with dlyOk := true, workers := Vector.replicate 64 { heard := some 0, qual := .locked, upOk := true } } }, by decide⟩,
   ⟨1, 0, { tRun [tRec 11 1 0 [0x40000100], tRec 11 2 0 [1], tRec 9 1 0 [1], tRec 9 2 0 [0x01020000]] with hie := { State.reset.hie with rel := false } }, by decide⟩⟩

/-- States and operands that meet the hypotheses of SegmentsDataAndFramesAreReceived, clause by clause. -/
theorem witness_segments_data_and_frames_are_received : (∃ (a : Nat) (bs : List Byte) (s : State), s.canLive 3 = true ∧ assoc a s.hie.asm = none ∧ bs.length ≤ 2048) ∧
    (∃ (a : Nat) (bs : List Byte) (p : Partial) (s : State), s.canLive 3 = true ∧ assoc a s.hie.asm = some p ∧ s.tick ≤ p.tick + 10 * ticksPerMs ∧ p.seq = 0 ∧ p.bytes.length + bs.length ≤ 2048) ∧
    (∃ (d : Side) (pl : List Byte) (s : State), pl.length ≤ 2048) ∧
    (∃ (d : Side) (dst : Nat) (a b : Bool) (pl : List Byte) (c : Nat) (s : State), c ≠ (Frame.data dst a b pl).crc) ∧
    (∃ (c : CanId) (x : CanFrame) (sof f : Nat) (b : Fin 64) (s : State), s.canLive c = true ∧ (x.fdf = false ∨ s.canFden c = true) ∧ (List.range 128).find? (fun f => s.fltMatches c f x) = some f ∧ bits (s.flt c f 2) 30 2 = 1 ∧ (Fin.ofNat 64 (bits (s.flt c f 2) 0 6) : Fin 64) = b) ∧
    (∃ (c : CanId) (x : CanFrame) (sof : Nat) (s : State), s.canLive c = true ∧ (x.fdf = false ∨ s.canFden c = true) ∧ (List.range 128).find? (fun f => s.fltMatches c f x) = none) ∧
    (∃ (c : CanId) (x : CanFrame) (sof : Nat) (s : State), s.canLive c = true ∧ x.fdf = true ∧ s.canFden c = false) :=
  ⟨⟨1, [7], { State.reset with hie := State.reset.hie, can := Vector.replicate 4 { st := .active } }, by decide⟩,
   ⟨1, [7], { bytes := [1], seq := 0, tick := 0 }, { State.reset with hie := { State.reset.hie with asm := [(1, { bytes := [1], seq := 0, tick := 0 })] }, can := Vector.replicate 4 { st := .active } }, by decide⟩,
   ⟨true, [1], State.reset, by decide⟩,
   ⟨true, 63, true, true, [1], 0, State.reset, by decide +kernel⟩,
   ⟨1, { xtd := false, rtr := false, fdf := false, brs := false, id := 5, dlc := 1, data := [7] }, 0, 0, 3, { tRun [tRec 12 1 1 [0], tRec 12 2 128 [0x80000000, 0, 0x40000003]] with hie := State.reset.hie, can := Vector.replicate 4 { st := .active } }, by decide⟩,
   ⟨2, { xtd := false, rtr := false, fdf := false, brs := false, id := 5, dlc := 1, data := [7] }, 0, { tRun [tRec 12 1 1 [0], tRec 12 2 128 [0x80000000, 0, 0x40000003]] with hie := State.reset.hie, can := Vector.replicate 4 { st := .active } }, by refine ⟨rfl, Or.inl rfl, ?_⟩ <;> decide +kernel⟩,
   ⟨1, { xtd := false, rtr := false, fdf := true, brs := false, id := 5, dlc := 1, data := [7] }, 0, { tRun [tRec 12 1 1 [0], tRec 12 2 128 [0x80000000, 0, 0x40000003]] with hie := State.reset.hie, can := Vector.replicate 4 { st := .active } }, by decide⟩⟩

/-- States and operands that meet the hypotheses of QueueMarksAndModesAreSet, clause by clause. -/
theorem witness_queue_marks_and_modes_are_set : (∃ (q : Fin 16) (k : SessId) (s : State), s.gate k rightPARAM = .ok) ∧
    (∃ (q : Fin 16) (k : SessId) (s : State), s.gate k rightPARAM = .ok) ∧
    (∃ (v : Word) (m : Mode) (k : SessId) (s : State), s.gate k rightCOMMAND = .ok ∧ Mode.ofCode (bits v 0 2) = some m ∧ m ≠ s.sys.request ∧ s.pwr.warning = false ∧ s.sys.switching = false ∧ s.allowsMode m = true ∧ s.ceilingsOk m = true) ∧
    (∃ (v : Word) (m : Mode) (k : SessId) (s : State), s.gate k rightCOMMAND = .ok ∧ Mode.ofCode (bits v 0 2) = some m ∧ m ≠ s.sys.request ∧ s.pwr.warning = true) ∧
    (∃ (v : Word) (m : Mode) (k : SessId) (s : State), s.gate k rightCOMMAND = .ok ∧ Mode.ofCode (bits v 0 2) = some m ∧ m ≠ s.sys.request ∧ s.pwr.warning = false ∧ s.sys.switching = true) ∧
    (∃ (v : Word) (m : Mode) (k : SessId) (s : State), s.gate k rightCOMMAND = .ok ∧ Mode.ofCode (bits v 0 2) = some m ∧ m ≠ s.sys.request ∧ s.pwr.warning = false ∧ s.sys.switching = false ∧ s.allowsMode m = false) ∧
    (∃ s : State, s.sys.switching = true ∧ s.sys.request = .sear) ∧
    (∃ s : State, s.sys.switching = true ∧ (s.sys.request = .sear → s.sys.pipeB = true)) :=
  ⟨⟨3, 0, tRun [], by decide⟩,
   ⟨3, 0, tRun [], by decide⟩,
   ⟨0, .simmer, 0, { tRun [] with rcp := { applied := true, chosen := true, recs := [], head := { State.reset.rcp.head with allowed := 7 } } }, by decide +kernel⟩,
   ⟨0, .simmer, 0, { tRun [] with pwr := { phase := .run, runtime := true, d0Lost := false, warning := true } }, by decide⟩,
   ⟨0, .simmer, 0, { tRun [] with sys := { switching := true } }, by decide⟩,
   ⟨0, .simmer, 0, { tRun [] with rcp := { applied := true, chosen := true, recs := [], head := { State.reset.rcp.head with allowed := 2 } } }, by decide⟩,
   ⟨{ State.reset with sys := { switching := true, request := .sear } }, by decide⟩,
   ⟨{ State.reset with sys := { switching := true, request := .boil } }, by decide⟩⟩

/-- States and operands that meet the hypotheses of RulesFlagsAndTimedCommandsAct, clause by clause. -/
theorem witness_rules_flags_and_timed_commands_act : (∃ s : State, s.hie.orphan = false ∧ (∀ p : PortId, s.ports[p].forced = s.matrix.forcedAt p)) ∧
    (∃ (k : FlagId) (s : State), s.xfUsed k = true ∧ s.xfOrig k = s.sys.addr) ∧
    (∃ s : State, s.hie.orphan = true) ∧
    (∃ (i : EntryId) (c : Timed) (s : State), s.hie.q10[i].cmd = some c ∧ c.on = true ∧ s.recheckOn c.port = .ok ∧ isOutFunc (s.func c.port) = true) ∧
    (∃ (i : EntryId) (c : Timed) (s : State), s.hie.q10[i].cmd = some c ∧ (if c.on then s.recheckOn c.port else s.recheckOff c.port) ≠ .ok) :=
  ⟨⟨tRun [], by decide⟩,
   ⟨0, tRun [tRec 11 4 0 [0x80000000]], by decide⟩,
   ⟨{ State.reset with hie := { State.reset.hie with orphan := true } }, by decide⟩,
   ⟨5, { port := 0, on := true, dur := 0, src := .lockGroup 0, at_ := 0 }, { tRun (tPort 0x0C) with ports := Vector.replicate 32 { status := .off }, hie := { State.reset.hie with q10 := upd (Vector.replicate 256 {}) (5 : EntryId) fun _ => { cmd := some { port := 0, on := true, dur := 0, src := .lockGroup 0, at_ := 0 } } } }, by decide⟩,
   ⟨5, { port := 0, on := true, dur := 0, src := .lockGroup 0, at_ := 0 }, { tRun (tPort 0x0C) with ports := Vector.replicate 32 { status := .passive }, hie := { State.reset.hie with q10 := upd (Vector.replicate 256 {}) (5 : EntryId) fun _ => { cmd := some { port := 0, on := true, dur := 0, src := .lockGroup 0, at_ := 0 } } } }, by decide⟩⟩

/-- States and operands that meet the hypotheses of ClocksLowPowerStatesAndWakes, clause by clause. -/
theorem witness_clocks_low_power_states_and_wakes : (∃ (k : SessId) (s : State), s.gate k rightPARAM = .ok) ∧
    (∃ s : State, s.lowPower = true) ∧
    (∃ s : State, s.lowPower = true) ∧
    (∃ (h : Bool) (s : State), s.lowPower = false) ∧
    (∃ s : State, s.lowPower = true ∧ s.tmb.rtcValid = true ∧ s.pwr.alarm ≠ 0) ∧
    (∃ s : State, s.pwr.phase = .sleep ∧ s.pwr.canWake = true ∧ s.pwr.detectorOff = false) ∧
    (∃ (h : Bool) (s : State), (s.pwr.canWake = false ∨ s.pwr.phase = .standby)) ∧
    (∃ s : State, s.lowPower = true ∧ bit s.pwr.cfg 29 = true) ∧
    (∃ s : State, s.pwr.phase = .sleep) ∧
    (∃ (k : SessId) (s : State), s.gate k rightREAD = .ok) ∧
    (∃ (v : Word) (k : SessId) (s : State), s.gateRws k rightSERVICE = .ok) ∧
    (∃ (k : SessId) (s : State), s.gate k rightPARAM = .ok ∧ bit s.pwr.cfg 31 = true ∧ s.quiet = true) ∧
    (∃ (k : SessId) (s : State), s.gate k rightPARAM = .ok ∧ bit s.pwr.cfg 30 = true ∧ s.quiet = true) ∧
    (∃ (k : SessId) (s : State), s.gate k rightPARAM = .ok ∧ bit s.pwr.cfg 31 = false) ∧
    (∃ (k : SessId) (s : State), s.gate k rightPARAM = .ok ∧ bit s.pwr.cfg 30 = true ∧ s.quiet = false) :=
  ⟨⟨0, tRun [], by decide⟩,
   ⟨{ State.reset with pwr := { phase := .sleep } }, by decide⟩,
   ⟨{ State.reset with pwr := { phase := .standby } }, by decide⟩,
   ⟨true, tRun [], by decide⟩,
   ⟨{ State.reset with pwr := { phase := .standby, alarm := 5 }, tmb := { State.reset.tmb with rtcValid := true } }, by decide⟩,
   ⟨{ State.reset with pwr := { phase := .sleep, canWake := true } }, by decide⟩,
   ⟨true, { State.reset with pwr := { phase := .standby } }, by decide⟩,
   ⟨{ State.reset with pwr := { phase := .sleep, cfg := 0x20000000 } }, by decide⟩,
   ⟨{ State.reset with pwr := { phase := .sleep } }, by decide⟩,
   ⟨0, tRun [], by decide⟩,
   ⟨5, 0, tRun [], by decide⟩,
   ⟨0, { tRun [] with pwr := { phase := .run, runtime := true, d0Lost := false, cfg := 0x80000000 } }, by decide⟩,
   ⟨0, { tRun [] with pwr := { phase := .run, runtime := true, d0Lost := false, cfg := 0x40000000 } }, by decide⟩,
   ⟨0, { tRun [] with pwr := { phase := .run, runtime := true, d0Lost := false, cfg := 0 } }, by decide⟩,
   ⟨0, { tRun [] with pwr := { phase := .run, runtime := true, d0Lost := false, warning := true, cfg := 0x40000000 } }, by decide⟩⟩

/-- States and operands that meet the hypotheses of SupplyWarningsBanksAndDomains, clause by clause. -/
theorem witness_supply_warnings_banks_and_domains : (∃ (mv : Nat) (s : State), s.pwr.warning = false ∧ s.pwr.releasing = false) ∧
    (∃ (mv : Nat) (s : State), s.pwr.warning = true) ∧
    (∃ s : State, s.pwr.warning = true ∧ s.pwr.orderly = false) ∧
    (∃ s : State, (s.pwr.warning = false ∨ s.pwr.orderly = true)) ∧
    (∃ (v : Nat) (s : State), s.pwr.warning = true) ∧
    (∃ s : State, s.pwr.warning = false ∧ s.pwr.releasing = true ∧ s.supplyHead = none) ∧
    (∃ (p : PortId) (d : Pend) (s : State), s.pwr.warning = false ∧ s.pwr.releasing = true ∧ s.supplyHead = some p ∧ s.sol.ports[p].pend = some d ∧ d.src ≠ .forced ∧ d.forced = false ∧ (s.lateMax = 0 ∨ s.lateMax < s.tick - d.since)) ∧
    (∃ (p : PortId) (d : Pend) (s : State), s.pwr.warning = false ∧ s.pwr.releasing = true ∧ s.supplyHead = some p ∧ s.sol.ports[p].pend = some d ∧ (d.src = .forced ∨ d.forced = true ∨ (s.lateMax ≠ 0 ∧ s.tick - d.since ≤ s.lateMax))) ∧
    (∃ (b : BankId) (o : Bool) (mv : Nat) (s : State), s.pwr.bankf[b].since[(if o then 1 else 0 : Fin 3)] = none) ∧
    (∃ (b : BankId) (o : Bool) (mv : Nat) (s : State), s.pwr.bankf[b].since[(if o then 1 else 0 : Fin 3)].isSome = true) ∧
    (∃ (b : BankId) (c : Fin 3) (mv : Nat) (s : State), s.pwr.bankf[b].since[c].isSome = true) ∧
    (∃ (b : BankId) (c : Fin 3) (mv : Nat) (s : State), s.pwr.bankf[b].since[c] = none) ∧
    (∃ (d : Fin 12) (mv : Nat) (s : State), 1 ≤ d.val ∧ d.val < 8 ∧ s.pwr.phase = .run) ∧
    (∃ (d : Fin 12) (mv : Nat) (s : State), 8 ≤ d.val ∧ s.pwr.bankf[(Fin.ofNat 4 (d.val - 8) : BankId)].since[(2 : Fin 3)] = none) ∧
    (∃ (d : Fin 12) (s : State), d.val < 8) ∧
    (∃ (d : Fin 12) (s : State), 8 ≤ d.val) :=
  ⟨⟨7000, tRun [], by decide⟩,
   ⟨7000, { tRun [] with pwr := { phase := .run, runtime := true, d0Lost := false, warning := true } }, by decide⟩,
   ⟨{ tRun [] with pwr := { phase := .run, runtime := true, d0Lost := false, warning := true } }, by decide⟩,
   ⟨tRun [], by decide⟩,
   ⟨5000, { tRun [] with pwr := { phase := .run, runtime := true, d0Lost := false, warning := true } }, by decide⟩,
   ⟨{ tRun [] with pwr := { phase := .run, runtime := true, d0Lost := false, releasing := true } }, by decide⟩,
   ⟨2, { src := .ofSection 0, dur := 0, since := 0, kind := .supply, ticket := 1 }, { tRun [] with pwr := { phase := .run, runtime := true, d0Lost := false, releasing := true }, sol := { State.reset.sol with ports := upd State.reset.sol.ports (2 : PortId) fun x => { x with pend := some { src := .ofSection 0, dur := 0, since := 0, kind := .supply, ticket := 1 } } }, sys := { ticks := 5 } }, by decide⟩,
   ⟨2, { src := .ofSection 0, dur := 0, since := 0, kind := .supply, ticket := 1 }, { tRun [tRec 4 4 0 [0x10000]] with pwr := { phase := .run, runtime := true, d0Lost := false, releasing := true }, sol := { State.reset.sol with ports := upd State.reset.sol.ports (2 : PortId) fun x => { x with pend := some { src := .ofSection 0, dur := 0, since := 0, kind := .supply, ticket := 1 } } }, sys := { ticks := 120000 } }, by decide⟩,
   ⟨1, true, 5, State.reset, by decide⟩,
   ⟨1, true, 5, { State.reset with pwr := { bankf := Vector.replicate 4 { since := Vector.replicate 3 (some 0) } } }, by decide⟩,
   ⟨1, 2, 5, { State.reset with pwr := { bankf := Vector.replicate 4 { since := Vector.replicate 3 (some 0) } } }, by decide⟩,
   ⟨1, 2, 5, State.reset, by decide⟩,
   ⟨3, 0, tRun [], by decide⟩,
   ⟨9, 5, State.reset, by decide⟩,
   ⟨3, State.reset, by decide⟩,
   ⟨9, State.reset, by decide⟩⟩

/-- States and operands that meet the hypotheses of RecipeCommandsAndReloadsAct, clause by clause. -/
theorem witness_recipe_commands_and_reloads_act : (∃ (x : RcpSlot) (k : SessId) (b : List Byte) (s : State), s.rcpGate k true = .ok ∧ s.rcp.op = .none ∧ (s.rcp.chosen = false ∨ x ≠ s.rcp.inForce) ∧ s.staged k = some b) ∧
    (∃ (x : RcpSlot) (k : SessId) (s : State), s.rcpGate k true = .ok ∧ s.rcp.op ≠ .none) ∧
    (∃ (x : RcpSlot) (k : SessId) (s : State), s.rcpGate k true = .ok ∧ s.rcp.op = .none ∧ s.rcp.chosen = true ∧ x = s.rcp.inForce) ∧
    (∃ s : State, s.rcp.op = .write) ∧
    (∃ (e : Nat × Nat) (s : State), s.rcp.op = .write) ∧
    (∃ (k : SessId) (s : State), s.rcpGate k true = .ok ∧ s.rcp.op = .none) ∧
    (∃ (k : SessId) (s : State), s.rcpGate k true = .ok ∧ s.rcp.op ≠ .none) ∧
    (∃ s : State, s.rcp.op = .discard) ∧
    (∃ (k : SessId) (s : State), s.rcpGate k true = .ok ∧ s.rcp.op = .none ∧ s.sys.switching = false ∧ s.rcp.applied = true ∧ (s.slotOf s.rcp.inForce.other).status = .valid) ∧
    (∃ (k : SessId) (s : State), s.rcpGate k true = .ok ∧ (s.rcp.op ≠ .none ∨ s.sys.switching = true)) ∧
    (∃ (k : SessId) (s : State), s.rcpGate k true = .ok ∧ s.rcp.op = .none ∧ s.sys.switching = false ∧ (s.rcp.applied = false ∨ (s.slotOf s.rcp.inForce.other).status ≠ .valid)) ∧
    (∃ s : State, s.rcp.phase = .wait ∧ s.seqsHeld = true) ∧
    (∃ s : State, (s.rcp.phase ≠ .wait ∨ s.seqsHeld = false)) ∧
    (∃ s : State, s.rcp.phase = .apply ∧ s.rcp.rldBanks = 0 ∧ s.rcp.rldSlots = []) ∧
    (∃ s : State, s.rcp.phase = .wait) :=
  ⟨⟨.b, 0, [], { tRun [] with rcp := { applied := true, chosen := true, waddr := 0x40000004 } }, by decide⟩,
   ⟨.b, 0, { tRun [] with rcp := { applied := true, chosen := true, op := .write } }, by decide⟩,
   ⟨.a, 0, { tRun [] with rcp := { applied := true, chosen := true, op := .none } }, by decide⟩,
   ⟨{ tRun [] with rcp := { applied := true, chosen := true, op := .write } }, by decide⟩,
   ⟨(6, 3), { tRun [] with rcp := { applied := true, chosen := true, op := .write } }, by decide⟩,
   ⟨0, { tRun [] with rcp := { applied := true, chosen := true, op := .none } }, by decide⟩,
   ⟨0, { tRun [] with rcp := { applied := true, chosen := true, op := .write } }, by decide⟩,
   ⟨{ tRun [] with rcp := { applied := true, chosen := true, op := .discard } }, by decide⟩,
   ⟨0, { tRun [] with rcp := { applied := true, chosen := true, slots := upd (Vector.replicate 2 {}) (1 : Fin 2) fun _ => { status := .valid } } }, by decide⟩,
   ⟨0, { tRun [] with rcp := { applied := true, chosen := true, op := .reload } }, by decide⟩,
   ⟨0, { tRun [] with rcp := { applied := true, chosen := true, op := .none } }, by decide⟩,
   ⟨{ tRun [] with rcp := { applied := true, chosen := true, phase := .wait } }, by decide⟩,
   ⟨{ tRun [] with rcp := { applied := true, chosen := true, phase := .idle } }, by decide⟩,
   ⟨{ tRun [] with rcp := { applied := true, chosen := true, phase := .apply } }, by decide⟩,
   ⟨{ tRun [] with rcp := { applied := true, chosen := true, phase := .wait } }, by decide⟩⟩

/-- States and operands that meet the hypotheses of ResetsAndTheStart, clause by clause. -/
theorem witness_resets_and_the_start : (∃ s : State, s.pwr.phase = .run) ∧
    (∃ (p : Nat) (s : State), s.pwr.phase = .run) ∧
    (∃ (p : Nat) (s : State), s.pwr.phase = .run) ∧
    (∃ s : State, s.pwr.phase = .run) ∧
    (∃ (p : Nat) (s : State), s.pwr.phase ≠ .run) ∧
    (∃ s : State, s.pwr.phase = .sleep) ∧
    (∃ (k : SessId) (s : State), s.rcpGate k false = .ok) ∧
    (∃ (k : SessId) (s : State), s.rcpGate k false ≠ .ok) ∧
    (∃ (a : Nat) (r : Bool) (pg : Nat) (h : Int) (n : Nat) (w : List Nat) (s : State), s.pwr.phase = .run) ∧
    (∃ (a : Nat) (r : Bool) (pg : Nat) (h : Int) (n : Nat) (w : List Nat) (s : State), s.pwr.phase = .off) ∧
    (∃ (a : Nat) (r : Bool) (pg : Nat) (h : Int) (n : Nat) (w : List Nat) (s : State), s.pwr.phase = .off ∧ r = false) ∧
    (∃ (a : Nat) (r : Bool) (pg : Nat) (h : Int) (n : Nat) (w : List Nat) (s : State), s.pwr.phase = .off ∧ r = true ∧ s.sec.tampPend = none ∧ s.pwr.runtime = false ∧ (∀ i : Fin 2, ¬ (s.sec.images[i].ok = true ∧ s.sec.rbFloor ≤ s.sec.images[i].version))) ∧
    (∃ (c : Nat) (a : Nat) (r : Bool) (pg : Nat) (h : Int) (n : Nat) (w : List Nat) (s : State), s.pwr.phase = .off ∧ r = true ∧ s.sec.tampPend = some c) ∧
    (∃ (i : Fin 2) (a : Nat) (r : Bool) (pg : Nat) (h : Int) (n : Nat) (w : List Nat) (s : State), s.pwr.phase = .off ∧ r = true ∧ s.sec.tampPend = none ∧ (s.sec.images[i].ok = true ∧ s.sec.rbFloor ≤ s.sec.images[i].version) ∧ pg ≠ 0) ∧
    (∃ (i : Fin 2) (a : Nat) (r : Bool) (pg : Nat) (h : Int) (n : Nat) (w : List Nat) (s : State), s.pwr.phase = .off ∧ r = true ∧ s.sec.tampPend = none ∧ (s.sec.images[i].ok = true ∧ s.sec.rbFloor ≤ s.sec.images[i].version) ∧ pg = 0 ∧ s.pwr.pilot = false) :=
  ⟨⟨{ State.reset with pwr := { phase := .run } }, by decide⟩,
   ⟨3, { State.reset with pwr := { phase := .run } }, by decide⟩,
   ⟨3, { State.reset with pwr := { phase := .run } }, by decide⟩,
   ⟨{ State.reset with pwr := { phase := .run } }, by decide⟩,
   ⟨3, State.reset, by decide⟩,
   ⟨{ State.reset with pwr := { phase := .sleep } }, by decide⟩,
   ⟨0, tRun [], by decide⟩,
   ⟨0, State.reset, by decide⟩,
   ⟨0, true, 0, 0, 0, [], { State.reset with pwr := { phase := .run } }, by decide⟩,
   ⟨0, true, 0, 0, 0, [], State.reset, by decide⟩,
   ⟨0, false, 0, 0, 0, [], State.reset, by decide⟩,
   ⟨0, true, 0, 0, 0, [], { State.reset with sec := { images := Vector.replicate 2 {} } }, by decide⟩,
   ⟨1, 0, true, 0, 0, 0, [], { State.reset with sec := { tampPend := some 1 } }, by decide⟩,
   ⟨1, 0, true, 2, 0, 0, [], { State.reset with sec := { images := Vector.replicate 2 { ok := true, version := 1 } } }, by decide⟩,
   ⟨1, 0, true, 0, 0, 0, [], { State.reset with sec := { images := Vector.replicate 2 { ok := true, version := 1 } } }, by decide⟩⟩

/-- States and operands that meet the hypotheses of SessionsOpenAndEnd, clause by clause. -/
theorem witness_sessions_open_and_end : (∃ (p : Peer) (b : List Byte) (s : State), s.linked = true ∧ b.length ≠ 336) ∧
    (∃ (p : Peer) (b : List Byte) (s : State), s.linked = true ∧ b.length = 336) ∧
    (∃ (p : Peer) (b : List Byte) (s : State), s.linked = false) ∧
    (∃ (k : SessId) (f : List Byte) (s : State), s.sec.sessions[k].st = .handshake ∧ f.length = 12 + ofLe ((f.drop 10).take 2) + peerTag s.sec.sessions[k].peer) ∧
    (∃ (k : SessId) (f : List Byte) (s : State), ¬ (s.sec.sessions[k].st = .handshake ∧ f.length = 12 + ofLe ((f.drop 10).take 2) + peerTag s.sec.sessions[k].peer)) ∧
    (∃ (k : SessId) (s : State), s.sec.sessions[k].st = .handshake) ∧
    (∃ (k : SessId) (s : State), s.sec.sessions[k].st ≠ .handshake) ∧
    (∃ (k : SessId) (s : State), s.sec.sessions[k].isOpen = true) ∧
    (∃ (k : SessId) (s : State), s.sec.sessions[k].isOpen = true) ∧
    (∃ (k : SessId) (s : State), s.sec.sessions[k].isOpen = true) ∧
    (∃ (k : SessId) (s : State), s.sec.sessions[k].isOpen = true) ∧
    (∃ (k : SessId) (s : State), s.sec.sessions[k].isOpen = false) ∧
    (∃ (k : SessId) (s : State), s.sec.sessions[k].isOpen = false) :=
  ⟨⟨(.can 0), [], tRun [], by decide⟩,
   ⟨(.can 0), List.replicate 336 0, tRun [], by exact ⟨rfl, List.length_replicate⟩⟩,
   ⟨(.can 0), [], State.reset, by decide⟩,
   ⟨0, List.replicate 28 0, { State.reset with sec := { sessions := Vector.replicate 4 { st := .handshake } } }, by decide⟩,
   ⟨0, [], State.reset, by decide⟩,
   ⟨0, { State.reset with sec := { sessions := Vector.replicate 4 { st := .handshake } } }, by decide⟩,
   ⟨0, State.reset, by decide⟩,
   ⟨0, tRun [], by decide⟩,
   ⟨0, tRun [], by decide⟩,
   ⟨0, tRun [], by decide⟩,
   ⟨0, tRun [], by decide⟩,
   ⟨2, tRun [], by decide⟩,
   ⟨2, tRun [], by decide⟩⟩

/-- States and operands that meet the hypotheses of KeyCommandsAct, clause by clause. -/
theorem witness_key_commands_act : (∃ (i : Fin 4) (k : SessId) (s : State), s.gate k rightKEYS = .ok ∧ s.sec.slots[i].st = .empty ∧ s.sec.sessions[k].st ≠ .claim) ∧
    (∃ (i : Fin 4) (k : SessId) (s : State), s.gate k rightKEYS = .ok ∧ s.sec.slots[i].st = .empty ∧ s.sec.sessions[k].st = .claim) ∧
    (∃ (i : Fin 4) (k : SessId) (s : State), s.gate k rightKEYS = .ok ∧ s.sec.slots[i].st ≠ .empty) ∧
    (∃ (i : Fin 4) (k : SessId) (s : State), s.gate k rightKEYS = .ok ∧ s.sec.slots[i].st = .enabled ∧ (∃ j : Fin 4, j ≠ i ∧ s.sec.slots[j].st = .enabled) ∧ s.sec.sessions[k].kslot ≠ i.val ∧ ¬ (s.rcp.applied = true ∧ recipeKslot (s.slotOf s.rcp.inForce).bytes = i.val)) ∧
    (∃ (i : Fin 4) (k : SessId) (s : State), s.gate k rightKEYS = .ok ∧ (s.sec.slots[i].st ≠ .enabled ∨ ¬ (∃ j : Fin 4, j ≠ i ∧ s.sec.slots[j].st = .enabled))) ∧
    (∃ (i : Fin 4) (k : SessId) (s : State), s.gate k rightKEYS = .ok ∧ s.sec.slots[i].st = .enabled ∧ (∃ j : Fin 4, j ≠ i ∧ s.sec.slots[j].st = .enabled) ∧ s.sec.sessions[k].kslot = i.val) ∧
    (∃ (i : Fin 4) (k : SessId) (s : State), s.gate k rightKEYS = .ok ∧ s.sec.slots[i].st = .enabled ∧ (∃ j : Fin 4, j ≠ i ∧ s.sec.slots[j].st = .enabled) ∧ s.sec.sessions[k].kslot ≠ i.val ∧ s.rcp.applied = true ∧ recipeKslot (s.slotOf s.rcp.inForce).bytes = i.val) ∧
    (∃ (k : SessId) (s : State), s.gate k rightKEYS = .ok) ∧
    (∃ (k : SessId) (s : State), s.gate k rightKEYS = .ok ∧ s.isWorker = false) ∧
    (∃ (k : SessId) (s : State), s.gate k rightKEYS = .ok ∧ s.isWorker = true) ∧
    (∃ (r : List Byte) (s : State), s.isWorker = false ∧ s.sec.root = some r ∧ s.sec.rotation = none) ∧
    (∃ s : State, (s.isWorker = true ∨ s.sec.root = none ∨ s.sec.rotation.isSome = true)) ∧
    (∃ (b : List Byte) (s : State), s.known 0 = true ∧ s.isWorker = true) ∧
    (∃ (n : Nat) (b : List Byte) (s : State), (n ≠ 0 ∨ s.known 0 = false ∨ s.isWorker = false)) ∧
    (∃ (e n : Nat) (s : State), s.sec.rotation = some (e, n)) ∧
    (∃ s : State, s.sec.rotation = none) ∧
    (∃ (x : Nat × Nat × Nat) (s : State), s.sec.staleAt = some x ∧ s.sec.staleRec = false) ∧
    (∃ s : State, (s.sec.staleAt = none ∨ s.sec.staleRec = true)) ∧
    (∃ (i : Fin 2) (k : SessId) (b : List Byte) (s : State), s.gateRt k = .ok ∧ ¬ (s.pwr.runtime = true ∧ i = s.sec.running) ∧ s.sec.arg0.toNat % 16 = 0 ∧ s.sessRead k s.sec.arg0.toNat s.sec.arg1.toNat = some b) ∧
    (∃ (i : Fin 2) (k : SessId) (s : State), s.gateRt k = .ok ∧ s.pwr.runtime = true ∧ i = s.sec.running) ∧
    (∃ (i : Fin 2) (k : SessId) (s : State), s.gateRt k = .ok ∧ ¬ (s.pwr.runtime = true ∧ i = s.sec.running) ∧ (s.sec.arg0.toNat % 16 ≠ 0 ∨ s.sessRead k s.sec.arg0.toNat s.sec.arg1.toNat = none)) ∧
    (∃ (c : Instr) (i : Fin 4) (k : SessId) (s : State), (c = .fuse i k ∨ c = .revoke i k ∨ c = .hkeyInstall k ∨ c = .rotate k) ∧ s.gate k rightKEYS = .denied) ∧
    (∃ s : State, s.pwr.runtime = true) :=
  ⟨⟨1, 0, tRun [], by decide⟩,
   ⟨1, 0, { tRun [] with sec := { sessions := Vector.replicate 4 { st := .claim, rights := 0xFFF } } }, by decide⟩,
   ⟨1, 0, { tRun [] with sec := { tSec with slots := Vector.replicate 4 { st := .enabled } } }, by decide⟩,
   ⟨1, 0, { tRun [] with sec := { tSec with slots := Vector.replicate 4 { st := .enabled } } }, by decide⟩,
   ⟨1, 0, tRun [], by decide⟩,
   ⟨0, 0, { tRun [] with sec := { tSec with slots := Vector.replicate 4 { st := .enabled } } }, by decide⟩,
   ⟨0, 0, { tRun [] with sec := { tSec with slots := Vector.replicate 4 { st := .enabled }, sessions := upd tSec.sessions (0 : Fin 4) fun x => { x with kslot := 1 } } }, by decide⟩,
   ⟨0, tRun [], by decide⟩,
   ⟨0, tRun [], by decide⟩,
   ⟨0, { tRun [tRec 11 1 0 [0x80000200]] with sys := { addr := 1 }, sec := tSec }, by decide⟩,
   ⟨[], { State.reset with sec := { root := some [] } }, by decide⟩,
   ⟨State.reset, by decide⟩,
   ⟨[], { tRun [tRec 11 1 0 [0x80000200]] with sys := { addr := 1 } }, by decide⟩,
   ⟨1, [], State.reset, by decide⟩,
   ⟨1, 2, { State.reset with sec := { rotation := some (1, 2) } }, by decide⟩,
   ⟨State.reset, by decide⟩,
   ⟨(1, 2, 3), { State.reset with sec := { staleAt := some (1, 2, 3) } }, by decide⟩,
   ⟨State.reset, by decide⟩,
   ⟨1, 0, [], tRun [], by decide⟩,
   ⟨0, 0, tRun [], by decide⟩,
   ⟨1, 0, { tRun [] with sec := { tSec with arg0 := 1 } }, by decide⟩,
   ⟨.fuse 0 1, 0, 1, tRun [], by decide⟩,
   ⟨tRun [], by decide⟩⟩

/-- States and operands that meet the hypotheses of AttestDebugAndTamperAct, clause by clause. -/
theorem witness_attest_debug_and_tamper_act : (∃ (k : SessId) (s : State), s.gate k rightATTEST = .ok ∧ s.sec.arg1.toNat % 16 = 0 ∧ s.mayWrite k s.sec.arg1.toNat 256 = true) ∧
    (∃ (k : SessId) (s : State), s.gate k rightATTEST = .ok ∧ (s.sec.arg1.toNat % 16 ≠ 0 ∨ s.mayWrite k s.sec.arg1.toNat 256 = false)) ∧
    (∃ (k : SessId) (s : State), s.gate k rightDEBUG = .ok) ∧
    (∃ (k : SessId) (s : State), s.gate k rightDEBUG = .ok ∧ s.sessRead k s.sec.arg0.toNat 168 = none) ∧
    (∃ (k : SessId) (r : List Byte) (s : State), s.gate k rightDEBUG = .ok ∧ s.sessRead k s.sec.arg0.toNat 168 = some r) ∧
    (∃ (k : SessId) (s : State), s.gate k rightDEBUG = .ok ∧ s.sec.dbg = .unlocked) ∧
    (∃ (k : SessId) (s : State), s.gate k rightDEBUG = .ok ∧ s.sec.dbg ≠ .unlocked) ∧
    (∃ s : State, s.sec.dbg = .unlocked) ∧
    (∃ s : State, s.sec.dbg ≠ .unlocked) ∧
    (∃ (k : SessId) (s : State), s.gate k rightKEYS = .ok ∧ (s.sec.tamper = false ∨ s.sec.root.isSome = true ∧ s.sec.rerooted = true)) ∧
    (∃ (k : SessId) (s : State), s.gate k rightKEYS = .ok ∧ s.sec.tamper = true ∧ (s.sec.root = none ∨ s.sec.rerooted = false)) ∧
    (∃ (b : Bool) (s : State), s.pwr.phase = .run) ∧
    (∃ (b : Bool) (s : State), s.pwr.phase ≠ .run ∧ s.pwr.d0Lost = false) ∧
    (∃ (b : Bool) (s : State), s.pwr.phase ≠ .run ∧ s.pwr.d0Lost = true) ∧
    (∃ (c : Instr) (n : Nat) (k : SessId) (s : State), (c = .attest k ∧ n = rightATTEST ∨ c = .dbgChallenge k ∧ n = rightDEBUG ∨ c = .dbgUnlock k ∧ n = rightDEBUG ∨ c = .dbgLock k ∧ n = rightDEBUG ∨ c = .tamperAck k ∧ n = rightKEYS) ∧ s.gate k n = .denied) :=
  ⟨⟨0, { tRun [] with apu := { ents := upd (Vector.replicate 256 none) (0 : Fin 256) fun _ => some { ctx := 0, r := true, w := true, sys := false, pages := 1, win := 0x40000, tgt := 0x40000 } }, sec := { tSec with arg0 := 0x40000000, arg1 := 0x40000000 } }, by decide +kernel⟩,
   ⟨0, { tRun [] with sec := { tSec with arg1 := 1 } }, by decide⟩,
   ⟨0, tRun [], by decide⟩,
   ⟨0, tRun [], by decide⟩,
   ⟨0, List.replicate 168 0, { tRun [] with apu := { ents := upd (Vector.replicate 256 none) (0 : Fin 256) fun _ => some { ctx := 0, r := true, w := true, sys := false, pages := 1, win := 0x40000, tgt := 0x40000 } }, sec := { tSec with arg0 := 0x40000000, arg1 := 0x40000000 } }, by decide +kernel⟩,
   ⟨0, { tRun [] with sec := { tSec with dbg := .unlocked } }, by decide⟩,
   ⟨0, tRun [], by decide⟩,
   ⟨{ State.reset with sec := { dbg := .unlocked } }, by decide⟩,
   ⟨State.reset, by decide⟩,
   ⟨0, tRun [], by decide⟩,
   ⟨0, { tRun [] with sec := { tSec with tamper := true } }, by decide⟩,
   ⟨true, tRun [], by decide⟩,
   ⟨true, { State.reset with pwr := { d0Lost := false } }, by decide⟩,
   ⟨true, State.reset, by decide⟩,
   ⟨.attest 1, rightATTEST, 1, tRun [], by decide⟩⟩

/-- States and operands that meet the hypotheses of RecordsAreCommittedAndRead, clause by clause. -/
theorem witness_records_are_committed_and_read : (∃ (e : Q8Entry) (es : List Q8Entry) (s : State), s.log.ready = true ∧ s.log.q8 = e :: es) ∧
    (∃ s : State, (s.log.ready = false ∨ s.log.q8 = [])) ∧
    (∃ (n : Nat) (b : Bucket) (s : State), s.log.q8.length ≤ 48 ∧ s.lostBucket = some (n, b)) ∧
    (∃ s : State, (48 < s.log.q8.length ∨ s.lostBucket = none)) ∧
    (∃ (b : Bool) (s : State), s.log.ready = false) ∧
    (∃ (b : Bool) (s : State), s.log.ready = true) ∧
    (∃ (w : Fin 16) (k : SessId) (r : RecSlot) (s : State), s.gate k rightRECORD = .ok ∧ s.log.window = .ok r) ∧
    (∃ (w : Fin 16) (k : SessId) (st : Status) (s : State), s.gate k rightRECORD = .ok ∧ s.log.window = .error st) ∧
    (∃ (k : SessId) (r : RecSlot) (s : State), s.gate k rightRECORD = .ok ∧ s.log.window = .ok r) ∧
    (∃ (k : SessId) (st : Status) (s : State), s.gate k rightRECORD = .ok ∧ s.log.window = .error st) ∧
    (∃ (w : Fin 16) (k : SessId) (s : State), s.gate k rightRECORD ≠ .ok) ∧
    (∃ (k : SessId) (s : State), s.gate k rightRECORD ≠ .ok) :=
  ⟨⟨{ code := 0x0101 }, [], { tRun [] with log := { State.reset.log with ready := true, q8 := [{ code := 0x0101 }] } }, by decide⟩,
   ⟨State.reset, by decide⟩,
   ⟨5, { lost := 1 }, { tRun [] with log := { State.reset.log with buckets := [(5, { lost := 1 })] } }, by decide⟩,
   ⟨State.reset, by decide⟩,
   ⟨true, State.reset, by decide⟩,
   ⟨true, { tRun [] with log := { State.reset.log with ready := true } }, by decide⟩,
   ⟨0, 0, { pos := 0, bytes := [] }, { tRun [] with log := { State.reset.log with area := true, keep := [{ pos := 0, bytes := [] }] } }, by exact ⟨by decide, rfl⟩⟩,
   ⟨0, 0, .notReady, { tRun [] with log := { State.reset.log with area := true } }, by exact ⟨by decide, rfl⟩⟩,
   ⟨0, { pos := 0, bytes := [] }, { tRun [] with log := { State.reset.log with area := true, keep := [{ pos := 0, bytes := [] }] } }, by exact ⟨by decide, rfl⟩⟩,
   ⟨0, .notReady, { tRun [] with log := { State.reset.log with area := true } }, by exact ⟨by decide, rfl⟩⟩,
   ⟨0, 1, tRun [], by decide⟩,
   ⟨1, tRun [], by decide⟩⟩

/-- States and operands that meet the hypotheses of CountersGaugesAndCalibrationAct, clause by clause. -/
theorem witness_counters_gauges_and_calibration_act : (∃ (sec step bcn : Bool) (s : State), s.mon.running = true ∧ s.enabledCauses sec (step || s.mon.stepDue) bcn ≠ 0) ∧
    (∃ (sec step bcn : Bool) (s : State), (s.mon.running = false ∨ s.enabledCauses sec (step || s.mon.stepDue) bcn = 0)) ∧
    (∃ (n : MonId) (s : State), s.mon.counters[n].cnt = 2 ^ 48 - 1 ∧ s.mon.counters[n].sat = false) ∧
    (∃ (n : MonId) (s : State), (s.mon.counters[n].cnt ≠ 2 ^ 48 - 1 ∨ s.mon.counters[n].sat = true)) ∧
    (∃ (k : SessId) (s : State), s.gate k rightPARAM = .ok) ∧
    (∃ (v : Word) (k : SessId) (s : State), s.gate k rightPARAM = .ok ∧ (bit v 31 || bit v 29) = true ∧ bits v 0 16 = 0) ∧
    (∃ (v : Word) (k : SessId) (s : State), s.gate k rightPARAM = .ok ∧ ((bit v 31 || bit v 29) = false ∨ bits v 0 16 ≠ 0)) ∧
    (∃ (v : Word) (k : SessId) (s : State), s.gate k rightPARAM = .ok) ∧
    (∃ (n : MonId) (k : SessId) (s : State), s.gate k rightREAD = .ok) ∧
    (∃ (i : Fin 33) (c : Fin 8) (v : Word) (k : SessId) (s : State), s.gateRws k rightSERVICE = .ok ∧ i.val = 32 ∧ c ≠ 0) ∧
    (∃ (i : Fin 33) (v : Word) (k : SessId) (s : State), s.gateRws k rightSERVICE = .ok ∧ i.val ≠ 32) ∧
    (∃ (i : Fin 33) (c : Fin 8) (v : Word) (k : SessId) (s : State), s.gateRws k rightSERVICE = .ok ∧ (i.val = 32 → c = 0) ∧ c.val ≠ 7 ∧ (20971 < (sbits v 16 16).natAbs ∨ 20971 < (sbits v 0 16).natAbs)) ∧
    (∃ (i : Fin 33) (c : Fin 8) (v : Word) (k : SessId) (s : State), s.gateRws k rightSERVICE = .ok ∧ (i.val = 32 → c = 0) ∧ c.val ≠ 7 ∧ (sbits v 16 16).natAbs ≤ 20971 ∧ (sbits v 0 16).natAbs ≤ 20971) ∧
    (∃ (v : Word) (k : SessId) (s : State), s.gateRws k rightSERVICE = .ok ∧ bits v 4 3 = 7) ∧
    (∃ (v : Word) (k : SessId) (s : State), s.gateRws k rightSERVICE = .ok ∧ bits v 4 3 ≠ 7 ∧ bit v 0 = false) ∧
    (∃ (v : Word) (k : SessId) (s : State), s.gateRws k rightSERVICE = .ok ∧ bits v 4 3 ≠ 7 ∧ bit v 0 = true) ∧
    (∃ (c : Instr) (g : Status) (i : Fin 33) (j : Fin 8) (n : MonId) (b : Bool) (v : Word) (k : SessId) (s : State), (c = .latch k ∧ g = s.gate k rightPARAM ∨ c = .monPcfgWrite b v k ∧ g = s.gate k rightPARAM ∨ c = .monLivelRead n k ∧ g = s.gate k rightREAD ∨ c = .calUserSet i j v k ∧ g = s.gateRws k rightSERVICE ∨ c = .calClr v k ∧ g = s.gateRws k rightSERVICE) ∧ g ≠ .ok) :=
  ⟨⟨true, false, false, { tRun [] with mon := { State.reset.mon with running := true, pcfg := 0x80000001 } }, by decide⟩,
   ⟨true, false, false, State.reset, by decide⟩,
   ⟨0, { tRun [] with mon := { State.reset.mon with counters := Vector.replicate 32 { cnt := 2 ^ 48 - 1 } } }, by decide⟩,
   ⟨0, State.reset, by decide⟩,
   ⟨0, tRun [], by decide⟩,
   ⟨0x80000000, 0, tRun [], by decide⟩,
   ⟨1, 0, tRun [], by decide⟩,
   ⟨1, 0, tRun [], by decide⟩,
   ⟨1, 0, tRun [], by decide⟩,
   ⟨32, 1, 5, 0, tRun [], by decide⟩,
   ⟨3, 5, 0, tRun [], by decide⟩,
   ⟨3, 1, 0x7FFF0000, 0, tRun [], by decide⟩,
   ⟨3, 1, 5, 0, tRun [], by decide⟩,
   ⟨0x71, 0, tRun [], by decide⟩,
   ⟨0x10, 0, tRun [], by decide⟩,
   ⟨0x11, 0, tRun [], by decide⟩,
   ⟨.latch 1, .denied, 0, 0, 0, false, 0, 1, tRun [], by decide⟩⟩

/-- States and operands that meet the hypotheses of SequencersAreCommandedAndEvaluated, clause by clause. -/
theorem witness_sequencers_are_commanded_and_evaluated : (∃ (c : Instr) (op : SeqOp) (q : SeqId) (k : SessId) (s : State), (c = .seqStart q k ∧ op = .start ∨ c = .seqStop q k ∧ op = .stop ∨ c = .seqPause q k ∧ op = .pause ∨ c = .seqResume q k ∧ op = .resume) ∧ s.seqUsed q = true ∧ s.gate k rightCOMMAND = .ok ∧ ((op = .start ∨ op = .resume) → s.seq.seqs[q].mark = false ∧ s.seq.seqs[q].st ≠ .held) ∧ s.seq.seqs[q].req = none) ∧
    (∃ (c : Instr) (op o : SeqOp) (old : Src) (q : SeqId) (k : SessId) (s : State), (c = .seqStart q k ∧ op = .start ∨ c = .seqStop q k ∧ op = .stop ∨ c = .seqPause q k ∧ op = .pause ∨ c = .seqResume q k ∧ op = .resume) ∧ s.seqUsed q = true ∧ s.gate k rightCOMMAND = .ok ∧ ((op = .start ∨ op = .resume) → s.seq.seqs[q].mark = false ∧ s.seq.seqs[q].st ≠ .held) ∧ s.seq.seqs[q].req = some (o, old)) ∧
    (∃ (c : Instr) (op : SeqOp) (q : SeqId) (k : SessId) (s : State), (c = .seqStart q k ∧ op = .start ∨ c = .seqStop q k ∧ op = .stop ∨ c = .seqPause q k ∧ op = .pause ∨ c = .seqResume q k ∧ op = .resume) ∧ s.seqUsed q = true ∧ s.gate k rightCOMMAND = .ok ∧ (op = .start ∨ op = .resume) ∧ (s.seq.seqs[q].mark = true ∨ s.seq.seqs[q].st = .held)) ∧
    (∃ (c : Instr) (op : SeqOp) (q : SeqId) (k : SessId) (v : Word) (s : State), ((c = .seqStart q k ∧ op = .start ∨ c = .seqStop q k ∧ op = .stop ∨ c = .seqPause q k ∧ op = .pause ∨ c = .seqResume q k ∧ op = .resume) ∨ c = .seqHcmdWrite q v k) ∧ s.seqUsed q = false) ∧
    (∃ (c : Instr) (op : SeqOp) (q : SeqId) (k : SessId) (v : Word) (s : State), ((c = .seqStart q k ∧ op = .start ∨ c = .seqStop q k ∧ op = .stop ∨ c = .seqPause q k ∧ op = .pause ∨ c = .seqResume q k ∧ op = .resume) ∨ c = .seqHcmdWrite q v k) ∧ s.seqUsed q = true ∧ s.gate k rightCOMMAND ≠ .ok) ∧
    (∃ (q : SeqId) (v : Word) (k : SessId) (s : State), s.seqUsed q = true ∧ s.gate k rightCOMMAND = .ok) ∧
    (∃ (q : SeqId) (s : State), s.seqUsed q = false) ∧
    (∃ (q : SeqId) (s : State), s.seqUsed q = true ∧ s.seq.seqs[q].auto = true ∧ s.seq.seqs[q].req = none ∧ s.seq.seqs[q].mark = false) ∧
    (∃ (src : Src) (q : SeqId) (s : State), s.seqUsed q = true ∧ s.seq.seqs[q].auto = false ∧ s.seq.seqs[q].req = some (.start, src) ∧ s.seq.seqs[q].mark = false ∧ (s.seq.seqs[q].st = .stopped ∨ s.seq.seqs[q].st = .running ∧ s.seq.seqs[q].step = 0)) ∧
    (∃ (src : Src) (q : SeqId) (s : State), s.seqUsed q = true ∧ s.seq.seqs[q].auto = false ∧ s.seq.seqs[q].req = some (.stop, src) ∧ s.seq.seqs[q].mark = false ∧ (s.seq.seqs[q].st = .running ∨ s.seq.seqs[q].st = .paused)) ∧
    (∃ (src : Src) (q : SeqId) (s : State), s.seqUsed q = true ∧ s.seq.seqs[q].auto = false ∧ s.seq.seqs[q].req = some (.pause, src) ∧ s.seq.seqs[q].mark = false ∧ s.seq.seqs[q].st = .running) ∧
    (∃ (src : Src) (q : SeqId) (s : State), s.seqUsed q = true ∧ s.seq.seqs[q].auto = false ∧ s.seq.seqs[q].req = some (.resume, src) ∧ s.seq.seqs[q].mark = false ∧ s.seq.seqs[q].st = .paused) ∧
    (∃ (q : SeqId) (s : State), s.seqUsed q = true ∧ s.seq.seqs[q].auto = false ∧ s.seq.seqs[q].req = none ∧ s.seq.seqs[q].mark = true ∧ (s.seq.seqs[q].st = .stopped ∨ (s.seq.seqs[q].st = .running ∨ s.seq.seqs[q].st = .paused) ∧ s.seq.seqs[q].step = 0)) ∧
    (∃ (i n : Nat) (q : SeqId) (s : State), s.seqUsed q = true ∧ s.seq.seqs[q].auto = false ∧ s.seq.seqs[q].req = none ∧ s.seq.seqs[q].st = .running ∧ (s.seq.seqs[q].mark = false ∨ ¬ (s.seq.seqs[q].st = .stopped ∨ (s.seq.seqs[q].st = .running ∨ s.seq.seqs[q].st = .paused) ∧ s.seq.seqs[q].step = 0)) ∧ ((s.setSeq q Seq.pass).seqTests q).find? (fun t => (s.setSeq q Seq.pass).seqTrue q t.1) = some (i, n)) ∧
    (∃ (q : SeqId) (s : State), s.seqUsed q = true ∧ s.seq.seqs[q].auto = false ∧ s.seq.seqs[q].req = none ∧ s.seq.seqs[q].st = .running ∧ (s.seq.seqs[q].mark = false ∨ ¬ (s.seq.seqs[q].st = .stopped ∨ (s.seq.seqs[q].st = .running ∨ s.seq.seqs[q].st = .paused) ∧ s.seq.seqs[q].step = 0)) ∧ ((s.setSeq q Seq.pass).seqTests q).find? (fun t => (s.setSeq q Seq.pass).seqTrue q t.1) = none) ∧
    (∃ (q : SeqId) (s : State), s.seqUsed q = true ∧ s.seq.seqs[q].auto = false ∧ s.seq.seqs[q].req = none ∧ s.seq.seqs[q].st ≠ .running ∧ (s.seq.seqs[q].mark = false ∨ ¬ (s.seq.seqs[q].st = .stopped ∨ (s.seq.seqs[q].st = .running ∨ s.seq.seqs[q].st = .paused) ∧ s.seq.seqs[q].step = 0))) :=
  ⟨⟨.seqStart 0 0, .start, 0, 0, tRun [tRec 8 1 0 [0x80000000]], by decide⟩,
   ⟨.seqStart 0 0, .start, .start, .host 0 0, 0, 0, { tRun [tRec 8 1 0 [0x80000000]] with seq := { State.reset.seq with seqs := upd State.reset.seq.seqs (0 : SeqId) fun x => { x with req := some (.start, .host 0 0) } } }, by decide⟩,
   ⟨.seqStart 0 0, .start, 0, 0, { tRun [tRec 8 1 0 [0x80000000]] with seq := { State.reset.seq with seqs := upd State.reset.seq.seqs (0 : SeqId) fun x => { x with mark := true } } }, by decide⟩,
   ⟨.seqStart 0 0, .start, 0, 0, 0, tRun [], by decide⟩,
   ⟨.seqStart 0 1, .start, 0, 1, 0, tRun [tRec 8 1 0 [0x80000000]], by decide⟩,
   ⟨0, 3, 0, tRun [tRec 8 1 0 [0x80000000]], by decide⟩,
   ⟨0, State.reset, by decide⟩,
   ⟨0, { tRun [tRec 8 1 0 [0x80000000]] with seq := { State.reset.seq with seqs := upd State.reset.seq.seqs (0 : SeqId) fun x => { x with auto := true } } }, by decide⟩,
   ⟨.host 0 0, 0, { tRun [tRec 8 1 0 [0x80000000]] with seq := { State.reset.seq with seqs := upd State.reset.seq.seqs (0 : SeqId) fun x => { x with req := some (.start, .host 0 0) } } }, by decide⟩,
   ⟨.host 0 0, 0, { tRun [tRec 8 1 0 [0x80000000]] with seq := { State.reset.seq with seqs := upd State.reset.seq.seqs (0 : SeqId) fun x => { x with st := .running, req := some (.stop, .host 0 0) } } }, by decide⟩,
   ⟨.host 0 0, 0, { tRun [tRec 8 1 0 [0x80000000]] with seq := { State.reset.seq with seqs := upd State.reset.seq.seqs (0 : SeqId) fun x => { x with st := .running, req := some (.pause, .host 0 0) } } }, by decide⟩,
   ⟨.host 0 0, 0, { tRun [tRec 8 1 0 [0x80000000]] with seq := { State.reset.seq with seqs := upd State.reset.seq.seqs (0 : SeqId) fun x => { x with st := .paused, req := some (.resume, .host 0 0) } } }, by decide⟩,
   ⟨0, { tRun [tRec 8 1 0 [0x80000000]] with seq := { State.reset.seq with seqs := upd State.reset.seq.seqs (0 : SeqId) fun x => { x with mark := true } } }, by decide⟩,
   ⟨3, 0, 0, { tRun [tRec 8 1 0 [0x80000000], tRec 8 2 0 [0x00200018], tRec 8 4 3 [5, 0x70000000]] with seq := { State.reset.seq with seqs := upd State.reset.seq.seqs (0 : SeqId) fun x => { x with st := .running } } }, by decide⟩,
   ⟨0, { tRun [tRec 8 1 0 [0x80000000]] with seq := { State.reset.seq with seqs := upd State.reset.seq.seqs (0 : SeqId) fun x => { x with st := .running } } }, by decide⟩,
   ⟨0, tRun [tRec 8 1 0 [0x80000000]], by decide⟩⟩

/-- States and operands that meet the hypotheses of RegisterWritesAreAdmittedOrRefused, clause by clause. -/
theorem witness_register_writes_are_admitted_or_refused : (∃ (a : Nat) (v : Word) (k : SessId) (s : State), a % 4 ≠ 0) ∧
    (∃ (a : Nat) (v : Word) (k : SessId) (s : State), a % 4 = 0 ∧ isSram a = false ∧ s.regAt a = none) ∧
    (∃ (a : Nat) (v : Word) (k : SessId) (r : Reg) (s : State), a % 4 = 0 ∧ isSram a = false ∧ s.regAt a = some r ∧ r.unused = true) ∧
    (∃ (a : Nat) (v : Word) (k : SessId) (r : Reg) (s : State), a % 4 = 0 ∧ isSram a = false ∧ s.regAt a = some r ∧ r.unused = false ∧ s.aperture k a true ≠ .ok) ∧
    (∃ (a : Nat) (v : Word) (k : SessId) (r : Reg) (s : State), a % 4 = 0 ∧ isSram a = false ∧ s.regAt a = some r ∧ r.unused = false ∧ s.aperture k a true = .ok ∧ v &&& word r.rs ≠ r.val &&& word r.rs) ∧
    (∃ (a : Nat) (v : Word) (k : SessId) (r : Reg) (s : State), a % 4 = 0 ∧ isSram a = false ∧ s.regAt a = some r ∧ r.unused = false ∧ s.aperture k a true = .ok ∧ v &&& word r.rs = r.val &&& word r.rs ∧ r.wr.isNone = true) ∧
    (∃ (a : Nat) (v : Word) (k : SessId) (r : Reg) (f : SessId → Word → State → State) (s : State), a % 4 = 0 ∧ isSram a = false ∧ s.regAt a = some r ∧ r.unused = false ∧ s.aperture k a true = .ok ∧ v &&& word r.rs = r.val &&& word r.rs ∧ r.wr = some f) ∧
    (∃ (a : Nat) (v : Word) (k : SessId) (x : Nat) (s : State), a % 4 = 0 ∧ isSram a = true ∧ s.mem.wf = true ∧ s.aperture k a true = .ok ∧ (s.translate k.val a true).toOption = some x) ∧
    (∃ (a : Nat) (v : Word) (k : SessId) (s : State), a % 4 = 0 ∧ isSram a = true ∧ s.aperture k a true ≠ .ok) ∧
    (∃ (k : SessId) (s : State), s.lowPower = true) ∧
    (∃ (k : SessId) (s : State), s.aperture k 0x10004 true = .ok) ∧
    (∃ (k : SessId) (s : State), s.aperture k 0x20200 true = .ok) :=
  ⟨⟨1, 0, 0, tRun [], by decide⟩,
   ⟨0xFFC, 0, 0, tRun [], by decide⟩,
   ⟨0x150000, 0, 0, Reg.idle, tRun [], by exact ⟨rfl, rfl, by rfl, rfl⟩⟩,
   ⟨0, 0, 0, _, tRun [], by exact ⟨rfl, rfl, rfl, rfl, by decide⟩⟩,
   ⟨0x40, 0x400, 0, _, { tRun [] with apu := { ents := upd (Vector.replicate 256 none) (0 : Fin 256) fun _ => some { ctx := 0, r := true, w := true, sys := true, pages := 1, win := 0x0, tgt := 0x0 } } }, by exact ⟨rfl, rfl, rfl, rfl, by decide, by decide⟩⟩,
   ⟨0x10000, 0, 0, _, { tRun [] with apu := { ents := upd (Vector.replicate 256 none) (0 : Fin 256) fun _ => some { ctx := 0, r := true, w := true, sys := true, pages := 1, win := 0x10, tgt := 0x10 } } }, by exact ⟨rfl, rfl, rfl, rfl, by decide, by decide, rfl⟩⟩,
   ⟨0x10004, 0, 0, _, _, { tRun [] with apu := { ents := upd (Vector.replicate 256 none) (0 : Fin 256) fun _ => some { ctx := 0, r := true, w := true, sys := true, pages := 1, win := 0x10, tgt := 0x10 } } }, by exact ⟨rfl, rfl, rfl, rfl, by decide, by decide, rfl⟩⟩,
   ⟨0x40000000, 0, 0, 0x40000000, { tRun [] with apu := { ents := upd (Vector.replicate 256 none) (0 : Fin 256) fun _ => some { ctx := 0, r := true, w := true, sys := true, pages := 1, win := 0x40000, tgt := 0x40000 } } }, by decide +kernel⟩,
   ⟨0x40000000, 0, 0, tRun [], by decide⟩,
   ⟨0, { State.reset with pwr := { phase := .sleep } }, by decide⟩,
   ⟨0, { tRun [] with apu := { ents := upd (Vector.replicate 256 none) (0 : Fin 256) fun _ => some { ctx := 0, r := true, w := true, sys := true, pages := 1, win := 0x10, tgt := 0x10 } } }, by decide⟩,
   ⟨0, { tRun [] with apu := { ents := upd (Vector.replicate 256 none) (0 : Fin 256) fun _ => some { ctx := 0, r := true, w := true, sys := true, pages := 1, win := 0x20, tgt := 0x20 } } }, by decide⟩⟩

/-- States and operands that meet the hypotheses of HostCommandsAnswer, clause by clause. -/
theorem witness_host_commands_answer : (∃ (c : Instr) (k : SessId) (f : Bool) (g a n : Nat) (ws : List Word) (s : State), (c = .ping k f g a ∨ c = .read k f g a n ∨ c = .hostWrite k f g a ws) ∧ s.sec.sessions[k].isOpen = false) ∧
    (∃ (k : SessId) (f : Bool) (g a : Nat) (s : State), s.sec.sessions[k].isOpen = true ∧ 16 ≤ s.inFlight k ∧ s.hl.out[k].length + s.inFlight k < 64) ∧
    (∃ (c : Instr) (k : SessId) (f : Bool) (g a n : Nat) (ws : List Word) (s : State), (c = .ping k f g a ∨ c = .read k f g a n ∨ c = .hostWrite k f g a ws) ∧ s.sec.sessions[k].isOpen = true ∧ s.inFlight k < 16 ∧ f = true ∧ s.hl.q[k] = [] ∧ s.hl.run[k] ≠ []) ∧
    (∃ (k : SessId) (f : Bool) (g a : Nat) (s : State), s.sec.sessions[k].isOpen = true ∧ s.hl.q[k] = [] ∧ s.hl.run[k].length < 16 ∧ (f = false ∨ s.hl.run[k] = [])) ∧
    (∃ (k : SessId) (f : Bool) (g a n : Nat) (s : State), s.sec.sessions[k].isOpen = true ∧ s.hl.q[k] = [] ∧ s.hl.run[k].length < 16 ∧ (f = false ∨ s.hl.run[k] = []) ∧ (n = 0 ∨ 256 < n)) ∧
    (∃ (k : SessId) (f : Bool) (g a : Nat) (ws : List Word) (s : State), s.sec.sessions[k].isOpen = true ∧ s.hl.q[k] = [] ∧ s.hl.run[k].length < 16 ∧ (f = false ∨ s.hl.run[k] = []) ∧ (ws = [] ∨ 256 < ws.length)) ∧
    (∃ (k : SessId) (f : Bool) (g a : Nat) (r : Reg) (s : State), s.sec.sessions[k].isOpen = true ∧ s.hl.q[k] = [] ∧ s.hl.run[k].length < 16 ∧ (f = false ∨ s.hl.run[k] = []) ∧ a < 2 ^ 32 ∧ a % 4 = 0 ∧ isSram a = false ∧ (∀ u, State.Only [.sys, .hl] s u → u.regAt a = some r) ∧ r.rd.isNone = true ∧ s.aperture k a false = .ok) ∧
    (∃ (k : SessId) (f : Bool) (g a x : Nat) (s : State), s.sec.sessions[k].isOpen = true ∧ s.hl.q[k] = [] ∧ s.hl.run[k].length < 16 ∧ (f = false ∨ s.hl.run[k] = []) ∧ a < 2 ^ 32 ∧ a % 4 = 0 ∧ isSram a = true ∧ s.aperture k a false = .ok ∧ (s.translate k.val a false).toOption = some x ∧ s.dma.bad.contains (x / 4) = false) ∧
    (∃ (k : SessId) (f : Bool) (g a : Nat) (s : State), s.sec.sessions[k].isOpen = true ∧ s.hl.q[k] = [] ∧ s.hl.run[k].length < 16 ∧ (f = false ∨ s.hl.run[k] = []) ∧ a < 2 ^ 32 ∧ (a % 4 ≠ 0 ∨ isSram a = false ∧ ∀ u, State.Only [.sys, .hl] s u → u.regAt a = none)) ∧
    (∃ (k : SessId) (f : Bool) (g a : Nat) (s : State), s.sec.sessions[k].isOpen = true ∧ s.hl.q[k] = [] ∧ s.hl.run[k].length < 16 ∧ (f = false ∨ s.hl.run[k] = []) ∧ a < 2 ^ 32 ∧ a % 4 = 0 ∧ isSram a = true ∧ s.aperture k a false ≠ .ok) ∧
    (∃ (k : SessId) (f : Bool) (g a x : Nat) (w : Word) (s : State), s.sec.sessions[k].isOpen = true ∧ s.hl.q[k] = [] ∧ s.hl.run[k].length < 16 ∧ (f = false ∨ s.hl.run[k] = []) ∧ a < 2 ^ 32 ∧ a % 4 = 0 ∧ isSram a = true ∧ s.aperture k a true = .ok ∧ (s.translate k.val a true).toOption = some x) ∧
    (∃ (k : SessId) (f : Bool) (g a : Nat) (w : Word) (s : State), s.sec.sessions[k].isOpen = true ∧ s.hl.q[k] = [] ∧ s.hl.run[k].length < 16 ∧ (f = false ∨ s.hl.run[k] = []) ∧ a < 2 ^ 32 ∧ a % 4 ≠ 0) ∧
    (∃ (k : SessId) (f : Bool) (g a : Nat) (w : Word) (s : State), s.sec.sessions[k].isOpen = true ∧ s.hl.q[k] = [] ∧ s.hl.run[k].length < 16 ∧ (f = false ∨ s.hl.run[k] = []) ∧ a < 2 ^ 32 ∧ a % 4 = 0 ∧ isSram a = true ∧ s.aperture k a true ≠ .ok) :=
  ⟨⟨.ping 2 false 0 0, 2, false, 0, 0, 0, [], tRun [], by decide⟩,
   ⟨0, false, 1, 0, { tRun [] with hl := { State.reset.hl with run := upd State.reset.hl.run (0 : SessId) fun _ => List.replicate 16 { op := .ping, code := 3, fence := false, tag := 0, addr := 0, count := 0 } } }, by decide⟩,
   ⟨.ping 0 true 0 0, 0, true, 0, 0, 0, [], { tRun [] with hl := { State.reset.hl with run := upd State.reset.hl.run (0 : SessId) fun _ => [{ op := .ping, code := 3, fence := false, tag := 0, addr := 0, count := 0 }] } }, by decide⟩,
   ⟨0, false, 1, 0, tRun [], by decide⟩,
   ⟨0, false, 1, 0, 0, tRun [], by decide⟩,
   ⟨0, false, 1, 0, [], tRun [], by decide⟩,
   ⟨0, false, 1, 0x10004, .cmd 0 rcpCmdReg, { tRun [] with apu := { ents := upd (Vector.replicate 256 none) (0 : Fin 256) fun _ => some { ctx := 0, r := true, w := true, sys := true, pages := 1, win := 0x10, tgt := 0x10 } } }, by exact ⟨rfl, rfl, by decide, Or.inl rfl, by decide, rfl, rfl, fun _ _ => rfl, rfl, by decide⟩⟩,
   ⟨0, false, 1, 0x40000000, 0x40000000, { tRun [] with apu := { ents := upd (Vector.replicate 256 none) (0 : Fin 256) fun _ => some { ctx := 0, r := true, w := true, sys := true, pages := 1, win := 0x40000, tgt := 0x40000 } } }, by decide +kernel⟩,
   ⟨0, false, 1, 0x40000001, tRun [], by exact ⟨by decide, by decide, by decide, Or.inl rfl, by decide, Or.inl (by decide)⟩⟩,
   ⟨0, false, 1, 0x40000000, tRun [], by decide⟩,
   ⟨0, false, 1, 0x40000000, 0x40000000, 5, { tRun [] with apu := { ents := upd (Vector.replicate 256 none) (0 : Fin 256) fun _ => some { ctx := 0, r := true, w := true, sys := true, pages := 1, win := 0x40000, tgt := 0x40000 } } }, by decide +kernel⟩,
   ⟨0, false, 1, 0x40000001, 5, tRun [], by decide⟩,
   ⟨0, false, 1, 0x40000000, 5, tRun [], by decide⟩⟩

/-- States and operands that meet the hypotheses of HostLinkTransportsAct, clause by clause. -/
theorem witness_host_link_transports_act : (∃ (up : Bool) (s : State), up = s.hl.link) ∧
    (∃ s : State, s.hl.link = true) ∧
    (∃ s : State, s.hl.link = false) ∧
    (∃ (k : SessId) (s : State), s.gateRws k rightSERVICE = .ok) ∧
    (∃ (k : SessId) (s : State), s.gateRws k rightSERVICE ≠ .ok) ∧
    (∃ (b : List Byte) (s : State), (s.hl.link = false ∨ s.linked = false)) ∧
    (∃ (b : List Byte) (s : State), s.hl.link = true ∧ s.linked = true ∧ (b.length < 14 ∨ ¬ (b.take 6 = fit 6 Config.mac ∨ beAt b 0 6 = 0xFFFFFFFFFFFF) ∨ beAt b 12 2 ≠ 0x0806 ∧ beAt b 12 2 ≠ 0x0800)) ∧
    (∃ (b : List Byte) (s : State), s.hl.link = true ∧ s.linked = true ∧ (b.take 6 = fit 6 Config.mac ∨ beAt b 0 6 = 0xFFFFFFFFFFFF) ∧ beAt b 12 2 = 0x0806 ∧ 42 ≤ b.length ∧ beAt b 14 6 = 0x000108000604 ∧ (beAt b 20 2 = 1 ∨ beAt b 20 2 = 2) ∧ beAt b 38 4 = s.ipAct) ∧
    (∃ (b : List Byte) (s : State), s.hl.link = true ∧ s.linked = true ∧ 14 ≤ b.length ∧ (b.take 6 = fit 6 Config.mac ∨ beAt b 0 6 = 0xFFFFFFFFFFFF) ∧ beAt b 12 2 = 0x0800 ∧ ¬ (34 ≤ b.length ∧ beAt b 14 1 = 0x45 ∧ 20 ≤ beAt b 16 2 ∧ 14 + beAt b 16 2 ≤ b.length ∧ beAt b 20 2 % 0x4000 = 0 ∧ beAt b 30 4 = s.ipAct ∧ onesSum ((b.drop 14).take 20) 0 = 0xFFFF)) ∧
    (∃ (b : List Byte) (s : State), s.hl.link = true ∧ s.linked = true ∧ 14 ≤ b.length ∧ (b.take 6 = fit 6 Config.mac ∨ beAt b 0 6 = 0xFFFFFFFFFFFF) ∧ beAt b 12 2 = 0x0800 ∧ 34 ≤ b.length ∧ beAt b 14 1 = 0x45 ∧ 20 ≤ beAt b 16 2 ∧ 14 + beAt b 16 2 ≤ b.length ∧ beAt b 20 2 % 0x4000 = 0 ∧ beAt b 30 4 = s.ipAct ∧ onesSum ((b.drop 14).take 20) 0 = 0xFFFF ∧ beAt b 23 1 ≠ 1 ∧ beAt b 23 1 ≠ 17) ∧
    (∃ (b : List Byte) (s : State), s.hl.link = true ∧ s.linked = true ∧ 14 ≤ b.length ∧ (b.take 6 = fit 6 Config.mac ∨ beAt b 0 6 = 0xFFFFFFFFFFFF) ∧ beAt b 12 2 = 0x0800 ∧ 34 ≤ b.length ∧ beAt b 14 1 = 0x45 ∧ 20 ≤ beAt b 16 2 ∧ 14 + beAt b 16 2 ≤ b.length ∧ beAt b 20 2 % 0x4000 = 0 ∧ beAt b 30 4 = s.ipAct ∧ onesSum ((b.drop 14).take 20) 0 = 0xFFFF ∧ beAt b 23 1 = 1 ∧ 8 ≤ ((b.drop 34).take (beAt b 16 2 - 20)).length ∧ beAt ((b.drop 34).take (beAt b 16 2 - 20)) 0 2 = 0x0800 ∧ onesSum ((b.drop 34).take (beAt b 16 2 - 20)) 0 = 0xFFFF ∧ (bit s.hl.act.cfg 30 = true ∨ 10 ≤ s.hl.echoes ∧ s.tick < s.hl.echoAt + 120000000)) ∧
    (∃ (b : List Byte) (s : State), s.hl.link = true ∧ s.linked = true ∧ 14 ≤ b.length ∧ (b.take 6 = fit 6 Config.mac ∨ beAt b 0 6 = 0xFFFFFFFFFFFF) ∧ beAt b 12 2 = 0x0800 ∧ 34 ≤ b.length ∧ beAt b 14 1 = 0x45 ∧ 20 ≤ beAt b 16 2 ∧ 14 + beAt b 16 2 ≤ b.length ∧ beAt b 20 2 % 0x4000 = 0 ∧ beAt b 30 4 = s.ipAct ∧ onesSum ((b.drop 14).take 20) 0 = 0xFFFF ∧ beAt b 23 1 = 1 ∧ 8 ≤ ((b.drop 34).take (beAt b 16 2 - 20)).length ∧ beAt ((b.drop 34).take (beAt b 16 2 - 20)) 0 2 = 0x0800 ∧ onesSum ((b.drop 34).take (beAt b 16 2 - 20)) 0 = 0xFFFF ∧ bit s.hl.act.cfg 30 = false ∧ ¬ (10 ≤ s.hl.echoes ∧ s.tick < s.hl.echoAt + 120000000)) ∧
    (∃ (b : List Byte) (s : State), s.hl.link = true ∧ s.linked = true ∧ 14 ≤ b.length ∧ (b.take 6 = fit 6 Config.mac ∨ beAt b 0 6 = 0xFFFFFFFFFFFF) ∧ beAt b 12 2 = 0x0800 ∧ 34 ≤ b.length ∧ beAt b 14 1 = 0x45 ∧ 20 ≤ beAt b 16 2 ∧ 14 + beAt b 16 2 ≤ b.length ∧ beAt b 20 2 % 0x4000 = 0 ∧ beAt b 30 4 = s.ipAct ∧ onesSum ((b.drop 14).take 20) 0 = 0xFFFF ∧ beAt b 23 1 = 17 ∧ (¬ (8 ≤ ((b.drop 34).take (beAt b 16 2 - 20)).length ∧ beAt ((b.drop 34).take (beAt b 16 2 - 20)) 4 2 = ((b.drop 34).take (beAt b 16 2 - 20)).length ∧ beAt ((b.drop 34).take (beAt b 16 2 - 20)) 2 2 = bits s.hl.act.cfg 0 16 ∧ (beAt ((b.drop 34).take (beAt b 16 2 - 20)) 6 2 = 0 ∨ onesSum (((b.drop 26).take 8 ++ be 2 17 ++ be 2 ((b.drop 34).take (beAt b 16 2 - 20)).length) ++ ((b.drop 34).take (beAt b 16 2 - 20))) 0 = 0xFFFF)))) ∧
    (∃ (b : List Byte) (s : State), s.hl.link = true ∧ s.linked = true ∧ 14 ≤ b.length ∧ (b.take 6 = fit 6 Config.mac ∨ beAt b 0 6 = 0xFFFFFFFFFFFF) ∧ beAt b 12 2 = 0x0800 ∧ 34 ≤ b.length ∧ beAt b 14 1 = 0x45 ∧ 20 ≤ beAt b 16 2 ∧ 14 + beAt b 16 2 ≤ b.length ∧ beAt b 20 2 % 0x4000 = 0 ∧ beAt b 30 4 = s.ipAct ∧ onesSum ((b.drop 14).take 20) 0 = 0xFFFF ∧ beAt b 23 1 = 17 ∧ (8 ≤ ((b.drop 34).take (beAt b 16 2 - 20)).length ∧ beAt ((b.drop 34).take (beAt b 16 2 - 20)) 4 2 = ((b.drop 34).take (beAt b 16 2 - 20)).length ∧ beAt ((b.drop 34).take (beAt b 16 2 - 20)) 2 2 = bits s.hl.act.cfg 0 16 ∧ (beAt ((b.drop 34).take (beAt b 16 2 - 20)) 6 2 = 0 ∨ onesSum (((b.drop 26).take 8 ++ be 2 17 ++ be 2 ((b.drop 34).take (beAt b 16 2 - 20)).length) ++ ((b.drop 34).take (beAt b 16 2 - 20))) 0 = 0xFFFF)) ∧ ((b.drop 34).take (beAt b 16 2 - 20)).length < 20) ∧
    (∃ (h : Fin 4) (data : List Byte) (s : State), (s.ralar = false ∨ s.canLive 0 = false)) ∧
    (∃ (h : Fin 4) (data : List Byte) (s : State), s.ralar = true ∧ s.canLive 0 = true ∧ s.hl.asm[h] = none ∧ (data.headD 0).toNat = 128 ∧ data.length ≤ 64) ∧
    (∃ (h : Fin 4) (data : List Byte) (a : SegAsm) (s : State), s.ralar = true ∧ s.canLive 0 = true ∧ s.hl.asm[h] = some a ∧ s.tick ≤ a.tick + 50 * ticksPerMs ∧ (data.headD 0).toNat = (a.seq + 1) % 64 ∧ a.bytes.length + data.length ≤ 2048) ∧
    (∃ (h : Fin 4) (data : List Byte) (a : SegAsm) (s : State), s.ralar = true ∧ s.canLive 0 = true ∧ s.hl.asm[h] = some a ∧ (data.headD 0).toNat < 128 ∧ (a.tick + 50 * ticksPerMs < s.tick ∨ (data.headD 0).toNat % 64 ≠ (a.seq + 1) % 64)) ∧
    (∃ (h : Fin 4) (data : List Byte) (s : State), s.ralar = true ∧ s.canLive 0 = true ∧ s.hl.asm[h] = none ∧ (data.headD 0).toNat < 128) ∧
    (∃ (h : Fin 4) (data : List Byte) (s : State), s.ralar = true ∧ s.canLive 0 = true ∧ s.hl.asm[h] = none ∧ (data.headD 0).toNat = 192 ∧ data.length ≤ 12) :=
  ⟨⟨false, tRun [], by decide⟩,
   ⟨{ tRun [] with hl := { State.reset.hl with link := true } }, by decide⟩,
   ⟨tRun [], by decide⟩,
   ⟨0, tRun [], by decide⟩,
   ⟨1, tRun [], by decide⟩,
   ⟨[], tRun [], by decide⟩,
   ⟨[], { tRun [] with hl := { State.reset.hl with link := true } }, by decide⟩,
   ⟨[0xFF, 0xFF, 0xFF, 0xFF, 0xFF, 0xFF, 2, 0, 0, 0, 0, 1, 8, 6, 0, 1, 8, 0, 6, 4, 0, 1, 2, 0, 0, 0, 0, 1, 10, 0, 0, 1, 0, 0, 0, 0, 0, 0, 0xA9, 0xFE, 0x64, 1], { tRun [] with hl := { State.reset.hl with link := true } }, by exact ⟨rfl, rfl, Or.inr rfl, rfl, by decide, rfl, Or.inl rfl, rfl⟩⟩,
   ⟨[0xFF, 0xFF, 0xFF, 0xFF, 0xFF, 0xFF, 2, 0, 0, 0, 0, 1, 8, 0], { tRun [] with hl := { State.reset.hl with link := true } }, by exact ⟨rfl, rfl, by decide, Or.inr rfl, rfl, fun h => absurd h.1 (by decide)⟩⟩,
   ⟨[0xFF, 0xFF, 0xFF, 0xFF, 0xFF, 0xFF, 2, 0, 0, 0, 0, 1, 8, 0, 69, 0, 0, 20, 0, 0, 0, 0, 64, 6, 98, 228, 10, 0, 0, 1, 169, 254, 100, 1], { tRun [] with hl := { State.reset.hl with link := true } }, by exact ⟨rfl, rfl, by decide, Or.inr rfl, rfl, by decide⟩⟩,
   ⟨[0xFF, 0xFF, 0xFF, 0xFF, 0xFF, 0xFF, 2, 0, 0, 0, 0, 1, 8, 0, 69, 0, 0, 28, 0, 0, 0, 0, 64, 1, 98, 225, 10, 0, 0, 1, 169, 254, 100, 1, 8, 0, 247, 253, 0, 1, 0, 1], { tRun [] with hl := { State.reset.hl with link := true, echoes := 10 } }, by exact ⟨rfl, rfl, by decide, Or.inr rfl, rfl, by decide⟩⟩,
   ⟨[0xFF, 0xFF, 0xFF, 0xFF, 0xFF, 0xFF, 2, 0, 0, 0, 0, 1, 8, 0, 69, 0, 0, 28, 0, 0, 0, 0, 64, 1, 98, 225, 10, 0, 0, 1, 169, 254, 100, 1, 8, 0, 247, 253, 0, 1, 0, 1], { tRun [] with hl := { State.reset.hl with link := true } }, by exact ⟨rfl, rfl, by decide, Or.inr rfl, rfl, by decide⟩⟩,
   ⟨[0xFF, 0xFF, 0xFF, 0xFF, 0xFF, 0xFF, 2, 0, 0, 0, 0, 1, 8, 0, 69, 0, 0, 20, 0, 0, 0, 0, 64, 17, 98, 217, 10, 0, 0, 1, 169, 254, 100, 1], { tRun [] with hl := { State.reset.hl with link := true } }, by exact ⟨rfl, rfl, by decide, Or.inr rfl, rfl, by decide⟩⟩,
   ⟨[0xFF, 0xFF, 0xFF, 0xFF, 0xFF, 0xFF, 2, 0, 0, 0, 0, 1, 8, 0, 69, 0, 0, 30, 0, 0, 0, 0, 64, 17, 98, 207, 10, 0, 0, 1, 169, 254, 100, 1, 16, 0, 183, 184, 0, 10, 0, 0, 1, 1], { tRun [] with hl := { State.reset.hl with link := true } }, by exact ⟨rfl, rfl, by decide, Or.inr rfl, by decide⟩⟩,
   ⟨0, [], tRun [], by decide⟩,
   ⟨0, [128, 1], { tRun [tRec 12 1 0 [0x01000000]] with can := upd State.reset.can (0 : CanId) fun x => { x with st := .active } }, by decide⟩,
   ⟨0, [1, 2], { bytes := [1], seq := 0, tick := 0 }, { tRun [tRec 12 1 0 [0x01000000]] with can := upd State.reset.can (0 : CanId) fun x => { x with st := .active }, hl := { State.reset.hl with asm := upd State.reset.hl.asm (0 : Fin 4) fun _ => some { bytes := [1], seq := 0, tick := 0 } } }, by decide⟩,
   ⟨0, [5, 2], { bytes := [1], seq := 0, tick := 0 }, { tRun [tRec 12 1 0 [0x01000000]] with can := upd State.reset.can (0 : CanId) fun x => { x with st := .active }, hl := { State.reset.hl with asm := upd State.reset.hl.asm (0 : Fin 4) fun _ => some { bytes := [1], seq := 0, tick := 0 } } }, by decide⟩,
   ⟨0, [1], { tRun [tRec 12 1 0 [0x01000000]] with can := upd State.reset.can (0 : CanId) fun x => { x with st := .active } }, by decide⟩,
   ⟨0, [192, 1], { tRun [tRec 12 1 0 [0x01000000]] with can := upd State.reset.can (0 : CanId) fun x => { x with st := .active } }, by decide⟩⟩

/-- Operands out of their range are refused: addresses. -/
theorem test_ill_formed_addresses : ([.registerWrite 4294967296 0 0,
    .boundaryWrite 4294967296 0 0,
    .read 0 false 0 4294967296 0,
    .hostWrite 0 false 0 4294967296 [],
    .ping 0 false 0 4294967296] : List Instr).all (fun i => !wellFormed i) = true := by decide +kernel

/-- Operands out of their range are refused: numbers. -/
theorem test_ill_formed_numbers : ([.portCmdOn 0 65536 default,
    .inputUpdate 0 0 1208925819614629174706176,
    .tachEdge 0 1208925819614629174706176,
    .overtempDetect 0 256,
    .endOfStroke 0 16777216 0,
    .endOfStroke 0 0 65536,
    .endOfTravel 0 16777216 0,
    .endOfTravel 0 0 65536,
    .coilModelUpdate 0 4294967296 0,
    .windingResistanceWindow 0 65536 0 0 false,
    .windingResistanceWindow 0 0 32768 0 false,
    .windingResistanceWindow 0 0 0 32768 false,
    .ageingSample 0 65536 0 false,
    .ageingSample 0 0 4294967296 false,
    .slotTrigger 0 1208925819614629174706176 0 false [],
    .slotTrigger 0 0 4294967296 false [],
    .slotTrigger 0 0 0 false [(4294967296, 0)],
    .rtcLoad 281474976710656,
    .gnssAntFault false 65536 0,
    .gnssAntFault false 0 65536,
    .antBiasRetry 65536 0,
    .antBiasRetry 0 65536,
    .extPositionFrame default 18446744073709551616,
    .tcSetpoint 8 0,
    .bmark 1125899906842624000000000,
    .beacon 64 0 0 0 0 false 0 none 0,
    .beacon 0 16777216 0 0 0 false 0 none 0,
    .beacon 0 0 1000 0 0 false 0 none 0,
    .beacon 0 0 0 281474976710656 0 false 0 none 0,
    .beacon 0 0 0 0 8 false 0 none 0,
    .beacon 0 0 0 0 0 false 16 none 0] : List Instr).all (fun i => !wellFormed i) = true := by decide +kernel

/-- Operands out of their range are refused: numbers. -/
theorem test_ill_formed_numbers_2 : ([.echoRequest 1125899906842624000000000,
    .ersp 4096 0 0,
    .ersp 0 256 0,
    .ersp 0 0 1125899906842624000000000,
    .flag default 64 0 false 0,
    .flag default 0 64 false 0,
    .flag default 0 0 false 256,
    .hopfail default 64 false 0,
    .hopfail default 0 false 256,
    .data default 64 false false [] 0,
    .data default 0 false false [] 65536,
    .abort 0 65536 0,
    .canFrameRx 0 default 1208925819614629174706176,
    .opmodeWrite 0 4 false 0,
    .isoTpPacket 0 256 0 default,
    .isoTpPacket 0 0 256 default,
    .read 0 false 65536 0 0,
    .read 0 false 0 0 65536,
    .hostWrite 0 false 65536 0 [],
    .ping 0 false 65536 0,
    .dmaFault 0 64 none,
    .tcxoCount 33554432,
    .supplyWarning 65536,
    .supplyWarningEnd 65536,
    .lockstepMismatch 4,
    .watchdog 4,
    .domainPowerFail 0 65536,
    .start 0 false 4 0 0 [],
    .start 0 false 0 0 4294967296 [],
    .bankSupplyFault 0 false 65536] : List Instr).all (fun i => !wellFormed i) = true := by decide +kernel

/-- Operands out of their range are refused: numbers. -/
theorem test_ill_formed_numbers_3 : ([.bankSupplyOk 0 0 65536,
    .gnssAntFaultEnded 65536 0,
    .gnssAntFaultEnded 0 65536] : List Instr).all (fun i => !wellFormed i) = true := by decide +kernel

/-- Operands out of their range are refused: magnitudes. -/
theorem test_ill_formed_magnitudes : ([.inputUpdate 0 (-2147483648) 0,
    .coilModelUpdate 0 0 (-1000000),
    .thermTrip false false (-4096),
    .ratemUpdate (-1000000) false,
    .offsetMeasurement (-1329227995784915872903807060280344576) false,
    .judgement (-1329227995784915872903807060280344576) false,
    .judgementAfresh (-1329227995784915872903807060280344576) false,
    .start 0 false 0 (-1000000) 0 []] : List Instr).all (fun i => !wellFormed i) = true := by decide +kernel

/-- Operands out of their range are refused: currents. -/
theorem test_ill_formed_currents : ([.shortDetect 0 false 32768,
    .overcurrentDetect 0 32768,
    .timeOverLimit 0 32768,
    .openLoadDetect 0 32768,
    .shareImbalance 0 32768,
    .bankOverload 0 32768,
    .bankTrip 0 32768,
    .bankOverloadEnd 0 32768,
    .releaseEnd 0 32768,
    .releaseTimeout 0 32768,
    .fanKickTimeout 0 32768,
    .tachJudgement 0 32768] : List Instr).all (fun i => !wellFormed i) = true := by decide +kernel

/-- Operands out of their range are refused: satellite lists. -/
theorem test_ill_formed_satellite_lists : ([.gnssRestart [33] 0,
    .start 0 false 0 0 0 [33]] : List Instr).all (fun i => !wellFormed i) = true := by decide +kernel

/-- Operands out of their range are refused: satellites. -/
theorem test_ill_formed_satellites : ([.channelAssign default 33] : List Instr).all (fun i => !wellFormed i) = true := by decide +kernel

/-- Operands out of their range are refused: hierarchy addresses. -/
theorem test_ill_formed_hierarchy_addresses : ([.strapChange 63,
    .can3Segment 63 [],
    .heartbeat 63 [],
    .timedCmd 63 [],
    .cmdDone 63 [],
    .reserve 63 [],
    .lgDesc 63 [],
    .lgStop 63 [],
    .delayTab 63 [],
    .release 63 [],
    .keyRotate 63 [],
    .start 63 false 0 0 0 []] : List Instr).all (fun i => !wellFormed i) = true := by decide +kernel

/-- Operands out of their range are refused: lengths. -/
theorem test_ill_formed_lengths : ([.data default 0 false false [] 0,
    .can3Segment 0 [],
    .heartbeat 0 [],
    .timedCmd 0 [],
    .cmdDone 0 [],
    .reserve 0 [],
    .lgDesc 0 [],
    .lgStop 0 [],
    .delayTab 0 [],
    .release 0 [],
    .hello default (List.replicate 1025 0),
    .finish 0 [],
    .hostWrite 0 false 0 0 (List.replicate 65536 0),
    .keyRotate 0 [],
    .ethernetFrameRx (List.replicate 1519 0),
    .can0Segment 0 []] : List Instr).all (fun i => !wellFormed i) = true := by decide +kernel

/-- Operands out of their range are refused: sense. -/
theorem test_ill_formed_sense : ([.regulatorUpdate 0 { (default : Sense) with iMean := 32768 },
    .regulatorUpdate 0 { (default : Sense) with iPeak := 32768 },
    .regulatorUpdate 0 { (default : Sense) with vbank := 65536 },
    .regulatorUpdate 0 { (default : Sense) with vpin := 65536 },
    .regulatorUpdate 0 { (default : Sense) with tj := 256 }] : List Instr).all (fun i => !wellFormed i) = true := by decide +kernel

/-- Operands out of their range are refused: records. -/
theorem test_ill_formed_records : ([.measurementEpoch [default, default],
    .navWord 0 { (default : NavWord) with number := 11 },
    .navWord 0 { (default : NavWord) with subframe := 8 },
    .navWord 0 { (default : NavWord) with instant := 1208925819614629174706176 },
    .pvtSolution { (default : Fix) with instant := 1208925819614629174706176 },
    .pvtSolution { (default : Fix) with lat := 900000001 },
    .pvtSolution { (default : Fix) with lon := -1800000001 },
    .pvtSolution { (default : Fix) with hdg := 36000 }] : List Instr).all (fun i => !wellFormed i) = true := by decide +kernel

/-- Operands out of their range are refused: frames. -/
theorem test_ill_formed_frames : ([.canFrameRx 0 { (default : CanFrame) with id := 2048 } 0,
    .canFrameRx 0 { (default : CanFrame) with xtd := true, id := 536870912 } 0,
    .canFrameRx 0 { (default : CanFrame) with dlc := 16 } 0,
    .canFrameRx 0 { (default : CanFrame) with data := List.replicate 9 0 } 0,
    .canFrameRx 0 { (default : CanFrame) with rtr := true, fdf := true } 0,
    .recipeWritten (some (256, 0)),
    .recipeWritten (some (0, 256)),
    .hello (.eth 4294967296 0) [],
    .hello (.eth 0 65536) [],
    .dmaFault default 0 (some 4294967296),
    .txAttemptEnd 0 default (some 128)] : List Instr).all (fun i => !wellFormed i) = true := by decide +kernel

/-- Operands within their ranges are well formed. -/
theorem test_well_formed : ([.registerWrite 0x40 0 0, .channelAssign 0 32, .start 62 default 3 0 0 [1, 32], .read 3 true 65535 0xFFFFFFFF 65535] : List Instr).all wellFormed = true := by decide +kernel

/-! Single steps and operations against values of the manual. -/

/-- R68: 20 kHz, 25 kHz and 40 kHz give 214,749, 171,799 and 107,375. -/
theorem test_chopping_period : [20, 25, 40].map (fun f => (2 ^ 32 + 1000 * f - 1) / (1000 * f)) = [214749, 171799, 107375] := by decide
/-- The example of R125: KP = 2.0 is 0x4000_0010, so it doubles the EV 1.5. -/
theorem test_coefficient_example : mulCf (0x40000010 : Word) 98304 = 196608 := by decide +kernel
/-- R325: the address in force without HLK_IP is 169.254.100.(ADDR + 1). -/
theorem test_default_address : State.reset.ipAct = 169 * 2 ^ 24 + 254 * 2 ^ 16 + 100 * 2 ^ 8 + 1 := by decide
/-- R3: the low byte of a word comes first. -/
theorem test_byte_order : wordBytes 0x04030201 = [1, 2, 3, 4] := by decide
/-- R330: PING without data is answered with OP 0x83 and OK. -/
theorem test_ping : (match exec (.ping 0 false 0x1234 0) (tRun []) with | .next t => t.hl.out[(0 : SessId)].map Outb.bytes | _ => []) = [[0x83, 0x00, 0x34, 0x12, 0, 0, 0, 0, 0, 0, 0, 0]] := by decide +kernel
/-- R334: SRAM holds what was written, low byte first, and a zero written leaves nothing listed. -/
theorem test_memory : (Memory.writeN [] 0x40000000 (wordBytes 0x00020001)) = [(0x40000000, 1), (0x40000002, 2)] := by decide
/-- R358 and R363: a write that sets and clears a host command bit clears it. -/
theorem test_hcmd : (match exec (.seqHcmdWrite 0 0x00010001 0) (tRun [tRec 8 1 0 [0x80000000]]) with | .next t => t.seq.seqs[(0 : SeqId)].hpend | _ => 1) = 0 := by decide +kernel
/-- R482: a write to a controller that the Recipe does not define answers BAD_ADDR. -/
theorem test_unused_fan : (match exec (.enable 0 0) (tRun []) with | .next t => t.sys.answers.map Answer.status | _ => []) = [.badAddr] := by decide +kernel
/-- R326: a link that returns is recorded once. -/
theorem test_link_up : (match exec (.hostLinkDown true) (tRun []) with | .next t => t.log.q8.map fun e => e.code | _ => []) = [0x0406] := by decide +kernel

end Sys2Proof.Tests
end

section
/-! SUPPORT. What a step does to the commands that wait. -/

namespace Sys2Proof.Machine

open Sys2Proof

/-- Every command answers a next state, and whatever part of the state it changes, it keeps what `Keep` says: the
invariant, the commands that wait, the order of keys and floors, the records. -/
theorem exec_keep (c : Instr) (s : State) : ∃ t, exec c s = .next t ∧ Keep allParts s t :=
  have hs : Keep allParts s s := .refl s
  match c with
  | .registerWrite a v k => execRegisterWrite_keep a v k s hs rfl
  | .interlockInputChange => execInterlockInputChange_keep s hs rfl
  | .timedCommandExecute i' => execTimedCommandExecute_keep i' s hs rfl
  | .hwmRst q k => execHwmRst_keep q k s hs rfl
  | .ovfClr q k => execOvfClr_keep q k s hs rfl
  | .modeRequest v k => execModeRequest_keep v k s hs rfl
  | .pipelineBUp => execPipelineBUp_keep s hs rfl
  | .modeSwitchEdge => execModeSwitchEdge_keep s hs rfl
  | .portCmdOn p dur src => execPortCmdOn_keep p dur src s hs rfl
  | .portCmdOff p src => execPortCmdOff_keep p src s hs rfl
  | .portPwmPerWrite p v k => execPortPwmPerWrite_keep p v k s hs rfl
  | .portPwmPhWrite p v k => execPortPwmPhWrite_keep p v k s hs rfl
  | .portFaultClear p v k => execPortFaultClear_keep p v k s hs rfl
  | .carrierInstant p => execCarrierInstant_keep p s hs rfl
  | .regulatorUpdate p m => execRegulatorUpdate_keep p m s hs rfl
  | .inputUpdate p mean instant => execInputUpdate_keep p mean instant s hs rfl
  | .tachEdge p instant => execTachEdge_keep p instant s hs rfl
  | .tachStale p => execTachStale_keep p s hs rfl
  | .digitalOutputDurEnd p => execDigitalOutputDurEnd_keep p s hs rfl
  | .shortDetect p toSupply i' => execShortDetect_keep p toSupply i' s hs rfl
  | .overcurrentDetect p i' => execOvercurrentDetect_keep p i' s hs rfl
  | .timeOverLimit p i' => execTimeOverLimit_keep p i' s hs rfl
  | .overtempDetect p tj => execOvertempDetect_keep p tj s hs rfl
  | .openLoadDetect p i' => execOpenLoadDetect_keep p i' s hs rfl
  | .shareImbalance p i' => execShareImbalance_keep p i' s hs rfl
  | .inputFaultDetect p b => execInputFaultDetect_keep p b s hs rfl
  | .inputFaultEnd p b => execInputFaultEnd_keep p b s hs rfl
  | .burdenReconnect p => execBurdenReconnect_keep p s hs rfl
  | .bankOverload b load => execBankOverload_keep b load s hs rfl
  | .bankTrip b load => execBankTrip_keep b load s hs rfl
  | .bankOverloadEnd b load => execBankOverloadEnd_keep b load s hs rfl
  | .portRetry p => execPortRetry_keep p s hs rfl
  | .retryCountReset p => execRetryCountReset_keep p s hs rfl
  | .endOfStroke p delay vbank => execEndOfStroke_keep p delay vbank s hs rfl
  | .hitEnd p => execHitEnd_keep p s hs rfl
  | .bridgeEnd p => execBridgeEnd_keep p s hs rfl
  | .holdEnd p => execHoldEnd_keep p s hs rfl
  | .endOfTravel p delay vbank => execEndOfTravel_keep p delay vbank s hs rfl
  | .releaseEnd p i' => execReleaseEnd_keep p i' s hs rfl
  | .releaseTimeout p i' => execReleaseTimeout_keep p i' s hs rfl
  | .deferredHitStart g => execDeferredHitStart_keep g s hs rfl
  | .hitDeferredTimeout g => execHitDeferredTimeout_keep g s hs rfl
  | .coilModelUpdate p irmsSq housing => execCoilModelUpdate_keep p irmsSq housing s hs rfl
  | .windingResistanceWindow p v i' least steady => execWindingResistanceWindow_keep p v i' least steady s hs rfl
  | .delayTableSave => execDelayTableSave_keep s hs rfl
  | .solDselWrite v k => execSolDselWrite_keep v k s hs rfl
  | .solDclr v k => execSolDclr_keep v k s hs rfl
  | .fanEvaluation f => execFanEvaluation_keep f s hs rfl
  | .fanKickTimeout f mean => execFanKickTimeout_keep f mean s hs rfl
  | .fanPauseEnd f => execFanPauseEnd_keep f s hs rfl
  | .fanStall f => execFanStall_keep f s hs rfl
  | .tachJudgement f mean => execTachJudgement_keep f mean s hs rfl
  | .fanTachRestored f => execFanTachRestored_keep f s hs rfl
  | .fanTempFault f => execFanTempFault_keep f s hs rfl
  | .enable f k => execEnable_keep f k s hs rfl
  | .disable f k => execDisable_keep f k s hs rfl
  | .test f k => execTest_keep f k s hs rfl
  | .restart f k => execRestart_keep f k s hs rfl
  | .fanMdutyWrite f v k => execFanMdutyWrite_keep f v k s hs rfl
  | .fanHtempWrite f v k => execFanHtempWrite_keep f v k s hs rfl
  | .ageingSample f vbank freq steady => execAgeingSample_keep f vbank freq steady s hs rfl
  | .fanAgeSave => execFanAgeSave_keep s hs rfl
  | .fanAgeclr f v k => execFanAgeclr_keep f v k s hs rfl
  | .thermTrip low sfault sensor => execThermTrip_keep low sfault sensor s hs rfl
  | .slotTrigger n instant latency clean xs => execSlotTrigger_keep n instant latency clean xs s hs rfl
  | .followingError n => execFollowingError_keep n s hs rfl
  | .feedbackLost n => execFeedbackLost_keep n s hs rfl
  | .setpointLost n => execSetpointLost_keep n s hs rfl
  | .swap n k => execSwap_keep n k s hs rfl
  | .clrflt n k => execClrflt_keep n k s hs rfl
  | .rstats n k => execRstats_keep n k s hs rfl
  | .slotModeRequest n v k => execSlotModeRequest_keep n v k s hs rfl
  | .slotSpWrite n v k => execSlotSpWrite_keep n v k s hs rfl
  | .slotManoutWrite n v k => execSlotManoutWrite_keep n v k s hs rfl
  | .slotBankWordWrite n b i' v k => execSlotBankWordWrite_keep n b i' v k s hs rfl
  | .takeStart k => execTakeStart_keep k s hs rfl
  | .takeAbort k => execTakeAbort_keep k s hs rfl
  | .ratemUpdate milliC ok => execRatemUpdate_keep milliC ok s hs rfl
  | .offsetMeasurement bias ok => execOffsetMeasurement_keep bias ok s hs rfl
  | .judgement mean ok => execJudgement_keep mean ok s hs rfl
  | .judgementAfresh mean ok => execJudgementAfresh_keep mean ok s hs rfl
  | .timeStep => execTimeStep_keep s hs rfl
  | .timeLocked => execTimeLocked_keep s hs rfl
  | .lockLost => execLockLost_keep s hs rfl
  | .timeHoldover => execTimeHoldover_keep s hs rfl
  | .timeHoldoverExpired => execTimeHoldoverExpired_keep s hs rfl
  | .gnssSolutionTimeout => execGnssSolutionTimeout_keep s hs rfl
  | .rtcLoad secs => execRtcLoad_keep secs s hs rfl
  | .rtcSave => execRtcSave_keep s hs rfl
  | .tpPulse => execTpPulse_keep s hs rfl
  | .tmbFracRead k => execTmbFracRead_keep k s hs rfl
  | .tmbRatelRead k => execTmbRatelRead_keep k s hs rfl
  | .set k => execSet_keep k s hs rfl
  | .resteer ok k => execResteer_keep ok k s hs rfl
  | .oscillatorModelSave => execOscillatorModelSave_keep s hs rfl
  | .gnssRestart above k => execGnssRestart_keep above k s hs rfl
  | .gnssCold k => execGnssCold_keep k s hs rfl
  | .gnssRateWrite v k => execGnssRateWrite_keep v k s hs rfl
  | .channelAssign c prn => execChannelAssign_keep c prn s hs rfl
  | .searchEnd c found => execSearchEnd_keep c found s hs rfl
  | .pullinEnd c locked => execPullinEnd_keep c locked s hs rfl
  | .bitSync c => execBitSync_keep c s hs rfl
  | .preambleConfirmed c inverted => execPreambleConfirmed_keep c inverted s hs rfl
  | .reacqEntry c => execReacqEntry_keep c s hs rfl
  | .reacqEnd c found => execReacqEnd_keep c found s hs rfl
  | .gnssChannelFault c => execGnssChannelFault_keep c s hs rfl
  | .gnssAntFault short i' v => execGnssAntFault_keep short i' v s hs rfl
  | .antBiasRetry i' v => execAntBiasRetry_keep i' v s hs rfl
  | .dutyWindow opens => execDutyWindow_keep opens s hs rfl
  | .measurementEpoch ms => execMeasurementEpoch_keep ms s hs rfl
  | .navWord c w => execNavWord_keep c w s hs rfl
  | .pvtSolution v => execPvtSolution_keep v s hs rfl
  | .gnssFixLost => execGnssFixLost_keep s hs rfl
  | .sectionEvaluation clean => execSectionEvaluation_keep clean s hs rfl
  | .sectRefusePauseEnd i' => execSectRefusePauseEnd_keep i' s hs rfl
  | .engage k => execEngage_keep k s hs rfl
  | .engageExt k => execEngageExt_keep k s hs rfl
  | .disengage k => execDisengage_keep k s hs rfl
  | .setOn k => execSetOn_keep k s hs rfl
  | .setOff k => execSetOff_keep k s hs rfl
  | .bcheck k => execBcheck_keep k s hs rfl
  | .sectionClrflt k => execSectionClrflt_keep k s hs rfl
  | .boundaryWrite a v k => execBoundaryWrite_keep a v k s hs rfl
  | .extPositionFrame f name => execExtPositionFrame_keep f name s hs rfl
  | .sectPosLost => execSectPosLost_keep s hs rfl
  | .speedDisagree => execSpeedDisagree_keep s hs rfl
  | .speedDisagreeEnd => execSpeedDisagreeEnd_keep s hs rfl
  | .tcSetpoint d v => execTcSetpoint_keep d v s hs rfl
  | .tcLost => execTcLost_keep s hs rfl
  | .strapChange addr => execStrapChange_keep addr s hs rfl
  | .bmark edge => execBmark_keep edge s hs rfl
  | .beacon hop cum ms sec q ok n ann crc => execBeacon_keep hop cum ms sec q ok n ann crc s hs rfl
  | .beaconSend => execBeaconSend_keep s hs rfl
  | .ereq => execEreq_keep s hs rfl
  | .echoRequest edge => execEchoRequest_keep edge s hs rfl
  | .ersp tat crc edge => execErsp_keep tat crc edge s hs rfl
  | .echoFail => execEchoFail_keep s hs rfl
  | .linkDown down => execLinkDown_keep down s hs rfl
  | .linkUp down => execLinkUp_keep down s hs rfl
  | .flag from_ orig idx val crc => execFlag_keep from_ orig idx val crc s hs rfl
  | .flagSend k => execFlagSend_keep k s hs rfl
  | .xflagFailed k => execXflagFailed_keep k s hs rfl
  | .hopfail from_ rep down crc => execHopfail_keep from_ rep down crc s hs rfl
  | .data from_ dst som eom payload crc => execData_keep from_ dst som eom payload crc s hs rfl
  | .can3Segment sender data => execCan3Segment_keep sender data s hs rfl
  | .heartbeatSend => execHeartbeatSend_keep s hs rfl
  | .heartbeat sender b => execHeartbeat_keep sender b s hs rfl
  | .timedCmd sender b => execTimedCmd_keep sender b s hs rfl
  | .cmdDone sender b => execCmdDone_keep sender b s hs rfl
  | .reserve sender b => execReserve_keep sender b s hs rfl
  | .lgDesc sender b => execLgDesc_keep sender b s hs rfl
  | .lgStop sender b => execLgStop_keep sender b s hs rfl
  | .delayTab sender b => execDelayTab_keep sender b s hs rfl
  | .release sender b => execRelease_keep sender b s hs rfl
  | .workerLost a => execWorkerLost_keep a s hs rfl
  | .managerLost => execManagerLost_keep s hs rfl
  | .workerRelease a => execWorkerRelease_keep a s hs rfl
  | .hieRelease a k => execHieRelease_keep a k s hs rfl
  | .orphanRampStep => execOrphanRampStep_keep s hs rfl
  | .lgStart g src => execLgStart_keep g src s hs rfl
  | .lgStopCmd g src => execLgStopCmd_keep g src s hs rfl
  | .lgStarted g => execLgStarted_keep g s hs rfl
  | .lgStopped g => execLgStopped_keep g s hs rfl
  | .lgMemberPlace g m => execLgMemberPlace_keep g m s hs rfl
  | .lgMemberJoined g m => execLgMemberJoined_keep g m s hs rfl
  | .canIntegrated c => execCanIntegrated_keep c s hs rfl
  | .enqueue c k => execEnqueue_keep c k s hs rfl
  | .abort c h k => execAbort_keep c h k s hs rfl
  | .abortAll c k => execAbortAll_keep c k s hs rfl
  | .abortEnq c k => execAbortEnq_keep c k s hs rfl
  | .txAttempt c => execTxAttempt_keep c s hs rfl
  | .txAttemptEnd c r tdcv => execTxAttemptEnd_keep c r tdcv s hs rfl
  | .canFrameRx c x sof => execCanFrameRx_keep c x sof s hs rfl
  | .canError c e r => execCanError_keep c e r s hs rfl
  | .canBusOffRecovered c => execCanBusOffRecovered_keep c s hs rfl
  | .recover c k => execRecover_keep c k s hs rfl
  | .clrcnt c k => execClrcnt_keep c k s hs rfl
  | .opmodeWrite c m busy k => execOpmodeWrite_keep c m busy k s hs rfl
  | .canEwlWrite c v k => execCanEwlWrite_keep c v k s hs rfl
  | .canMsgrel c v k => execCanMsgrel_keep c v k s hs rfl
  | .isoAddrClaim c ev => execIsoAddrClaim_keep c ev s hs rfl
  | .isoTpPacket c src dst f => execIsoTpPacket_keep c src dst f s hs rfl
  | .isoTpTimeout c i' => execIsoTpTimeout_keep c i' s hs rfl
  | .canWake high => execCanWake_keep high s hs rfl
  | .write x k => execWrite_keep x k s hs rfl
  | .recipeWritten bad => execRecipeWritten_keep bad s hs rfl
  | .discard k => execDiscard_keep k s hs rfl
  | .recipeRestart k => execRecipeRestart_keep k s hs rfl
  | .reload k => execReload_keep k s hs rfl
  | .reloadCommit => execReloadCommit_keep s hs rfl
  | .reloadDone => execReloadDone_keep s hs rfl
  | .reloadAborted => execReloadAborted_keep s hs rfl
  | .hello p body => execHello_keep p body s hs rfl
  | .finish k frame => execFinish_keep k frame s hs rfl
  | .handshakeTimeout k => execHandshakeTimeout_keep k s hs rfl
  | .read k fence tag addr count => execRead_keep k fence tag addr count s hs rfl
  | .hostWrite k fence tag addr ws => execHostWrite_keep k fence tag addr ws s hs rfl
  | .ping k fence tag addr => execPing_keep k fence tag addr s hs rfl
  | .close k => execClose_keep k s hs rfl
  | .sessionLifetimeEnd k => execSessionLifetimeEnd_keep k s hs rfl
  | .sessionIdleEnd k => execSessionIdleEnd_keep k s hs rfl
  | .fuse i' k => execFuse_keep i' k s hs rfl
  | .revoke i' k => execRevoke_keep i' k s hs rfl
  | .hkeyInstall k => execHkeyInstall_keep k s hs rfl
  | .rotate k => execRotate_keep k s hs rfl
  | .epochRotationDue => execEpochRotationDue_keep s hs rfl
  | .keyRotate sender b => execKeyRotate_keep sender b s hs rfl
  | .epochActivation => execEpochActivation_keep s hs rfl
  | .keyStale => execKeyStale_keep s hs rfl
  | .counterFloorWrite => execCounterFloorWrite_keep s hs rfl
  | .attest k => execAttest_keep k s hs rfl
  | .dbgChallenge k => execDbgChallenge_keep k s hs rfl
  | .dbgUnlock k => execDbgUnlock_keep k s hs rfl
  | .dbgLock k => execDbgLock_keep k s hs rfl
  | .debugDurationEnd => execDebugDurationEnd_keep s hs rfl
  | .challengeExpiry => execChallengeExpiry_keep s hs rfl
  | .tamperAck k => execTamperAck_keep k s hs rfl
  | .rtWrite i' k => execRtWrite_keep i' k s hs rfl
  | .secClose k => execSecClose_keep k s hs rfl
  | .tamperDetected short => execTamperDetected_keep short s hs rfl
  | .rollbackFloorRaise => execRollbackFloorRaise_keep s hs rfl
  | .ethernetFrameRx b => execEthernetFrameRx_keep b s hs rfl
  | .hostLinkDown up => execHostLinkDown_keep up s hs rfl
  | .save k => execSave_keep k s hs rfl
  | .can0Segment h data => execCan0Segment_keep h data s hs rfl
  | .grant k => execGrant_keep k s hs rfl
  | .free i' k => execFree_keep i' k s hs rfl
  | .freeall k => execFreeall_keep k s hs rfl
  | .claim n k => execClaim_keep n k s hs rfl
  | .dmaRelease n k => execDmaRelease_keep n k s hs rfl
  | .dmaStart n k => execDmaStart_keep n k s hs rfl
  | .dmaAbort n k => execDmaAbort_keep n k s hs rfl
  | .resume n k => execResume_keep n k s hs rfl
  | .rdptrWrite n v k => execRdptrWrite_keep n v k s hs rfl
  | .dmaBurst => execDmaBurst_keep s hs rfl
  | .descriptorDone n => execDescriptorDone_keep n s hs rfl
  | .dmaFault n k ecc => execDmaFault_keep n k ecc s hs rfl
  | .faultRecordQueued n => execFaultRecordQueued_keep n s hs rfl
  | .seqEvaluation q => execSeqEvaluation_keep q s hs rfl
  | .seqStart q k => execSeqStart_keep q k s hs rfl
  | .seqStop q k => execSeqStop_keep q k s hs rfl
  | .seqPause q k => execSeqPause_keep q k s hs rfl
  | .seqResume q k => execSeqResume_keep q k s hs rfl
  | .seqHcmdWrite q v k => execSeqHcmdWrite_keep q v k s hs rfl
  | .recordCommit => execRecordCommit_keep s hs rfl
  | .lostEvents => execLostEvents_keep s hs rfl
  | .recorderStart torn => execRecorderStart_keep torn s hs rfl
  | .recWindowRead w k => execRecWindowRead_keep w k s hs rfl
  | .recWinseqRead k => execRecWinseqRead_keep k s hs rfl
  | .periodBoundary sec step beacon => execPeriodBoundary_keep sec step beacon s hs rfl
  | .monCounterSat n => execMonCounterSat_keep n s hs rfl
  | .latch k => execLatch_keep k s hs rfl
  | .monPcfgWrite second v k => execMonPcfgWrite_keep second v k s hs rfl
  | .monLivelRead n k => execMonLivelRead_keep n k s hs rfl
  | .calUserSet i' c v k => execCalUserSet_keep i' c v k s hs rfl
  | .calUserStore => execCalUserStore_keep s hs rfl
  | .calClr v k => execCalClr_keep v k s hs rfl
  | .pllLoss => execPllLoss_keep s hs rfl
  | .tcxoCount n => execTcxoCount_keep n s hs rfl
  | .aonEdgeMissing => execAonEdgeMissing_keep s hs rfl
  | .xclr k => execXclr_keep k s hs rfl
  | .snapshotFallback p => execSnapshotFallback_keep p s hs rfl
  | .domainReset d => execDomainReset_keep d s hs rfl
  | .supplyWarning mv => execSupplyWarning_keep mv s hs rfl
  | .orderlyPowerDown => execOrderlyPowerDown_keep s hs rfl
  | .supplyWarningEnd least => execSupplyWarningEnd_keep least s hs rfl
  | .deferredOnRelease => execDeferredOnRelease_keep s hs rfl
  | .brownout => execBrownout_keep s hs rfl
  | .lockstepMismatch pair => execLockstepMismatch_keep pair s hs rfl
  | .watchdog pair => execWatchdog_keep pair s hs rfl
  | .domainPowerFail d mv => execDomainPowerFail_keep d mv s hs rfl
  | .start addr rom page housing down above => execStart_keep addr rom page housing down above s hs rfl
  | .bankSupplyFault b above mv => execBankSupplyFault_keep b above mv s hs rfl
  | .bankSupplyOk b c mv => execBankSupplyOk_keep b c mv s hs rfl
  | .standby k => execStandby_keep k s hs rfl
  | .sleep k => execSleep_keep k s hs rfl
  | .wakePin high => execWakePin_keep high s hs rfl
  | .rtcAlarm high => execRtcAlarm_keep high s hs rfl
  | .logicWake => execLogicWake_keep s hs rfl
  | .pwrRtclRead k => execPwrRtclRead_keep k s hs rfl
  | .pwrCfgWrite v k => execPwrCfgWrite_keep v k s hs rfl
  | .gnssPositionSave => execGnssPositionSave_keep s hs rfl
  | .opsSSave => execOpsSSave_keep s hs rfl
  | .delayTabPeriodicSend => execDelayTabPeriodicSend_keep s hs rfl
  | .gnssAntFaultEnded i' v => execGnssAntFaultEnded_keep i' v s hs rfl
  | .d0SupplyLost => execD0SupplyLost_keep s hs rfl
  | .slotErased => execSlotErased_keep s hs rfl
  | .wakeDetectorResume => execWakeDetectorResume_keep s hs rfl

/-- A command leaves the commands that wait as they are. -/
theorem exec_pending {c : Instr} {s t : State} (h : exec c s = .next t) : t.pending = s.pending := by
  obtain ⟨u, hu, hk⟩ := exec_keep c s
  obtain rfl : u = t := by simpa [hu] using h
  exact hk.pend

theorem step_of_cons {c : Instr} {rest : List Instr} {s : State} (h : s.pending = c :: rest) :
    step s = exec c { s with pending := rest } := by
  simp only [step, h]

theorem step_of_nil {s : State} (h : s.pending = []) : step s = .next s.idle := by
  simp only [step, h]

theorem fabricTick_pending (s : State) : s.fabricTick.pending = s.pending :=
  (fabricTick_keep s (.refl s) rfl : Keep allParts s _).pend

theorem idle_pending (s : State) : s.idle.pending = s.pending :=
  (idle_keep s (.refl s) rfl : Keep allParts s _).pend

/-- Settles O6: the meaning of every command ends in a next state. -/
theorem everyCommandCompletes : Obligations.EveryCommandCompletes := by
  intro c s
  obtain ⟨t, ht, -⟩ := exec_keep c s
  exact ⟨t, ht⟩

/-- Settles O7: no command's meaning writes the queue, and a step hands it the queue without its front. -/
theorem commandsLeaveTheQueue : Obligations.CommandsLeaveTheQueue := by
  refine ⟨fun c s t h => exec_pending h, fun s t h => ?_⟩
  cases hp : s.pending with
  | nil =>
    obtain rfl : s.idle = t := by simpa [step_of_nil hp] using h
    rw [idle_pending, hp, List.tail_nil]
  | cons c rest =>
    rw [step_of_cons hp] at h
    rw [exec_pending h, List.tail_cons]

/-- Settles O1: `step` branches on the queue alone. -/
theorem stepRunsTheFrontCommand : Obligations.StepRunsTheFrontCommand :=
  fun _ _ _ h => step_of_cons h

/-- Settles O2: what an empty queue leaves to a step is `State.idle`, which asks for the phase alone. -/
theorem stepWithoutACommandIsATickOrNothing : Obligations.StepWithoutACommandIsATickOrNothing := by
  refine ⟨fun s hp hr => ?_, fun s hp hr => ⟨s.fabricTick, ?_, rfl, (fabricTick_pending s).trans hp⟩⟩
  · rw [step_of_nil hp, State.idle, if_neg hr]
  · rw [step_of_nil hp, State.idle, if_pos hr]

end Sys2Proof.Machine
end

section
/-! SUPPORT. Commands that the addresses, the rights and the roles turn away. -/

namespace Sys2Proof.Machine

open Sys2Proof

/-! ### Accesses to no register (R5) -/

/-- A status other than INTERLOCK given to a session is one more answer, and nothing else. -/
theorem answer_me (s : State) (k : SessId) (st : Status) (h : st ≠ .interlock) :
    s.answer (s.me k) st = { s with sys := { s.sys with answers := ⟨s.me k, st⟩ :: s.sys.answers } } := by
  simp only [State.answer, State.me, if_neg h]

/-- An access to `a` is unaligned, or `a` lies outside the SRAM windows and names no register. -/
def State.NoWordAt (s : State) (a : Nat) : Prop := a % 4 ≠ 0 ∨ isSram a = false ∧ s.regAt a = none

theorem readWord_of_noWordAt {s : State} {a : Nat} (k : SessId) (h : s.NoWordAt a) :
    s.readWord k a = (s, .error .badAddr) := by
  unfold State.readWord
  split
  · rfl
  · next ha =>
    obtain ⟨hm, hr⟩ := h.resolve_left ha
    simp only [hm, hr, Bool.false_eq_true, if_false]

theorem writeWord_of_noWordAt {s : State} {a : Nat} (k : SessId) (v : Word) (h : s.NoWordAt a) :
    s.writeWord k a v = s.answer (s.me k) .badAddr := by
  unfold State.writeWord
  split
  · rfl
  · next ha =>
    obtain ⟨hm, hr⟩ := h.resolve_left ha
    simp only [hm, hr, Bool.false_eq_true, if_false]

/-- Settles O11: both accesses ask for the alignment, the windows and the register before anything else. -/
theorem addressesWithoutARegisterAreRefused : Obligations.AddressesWithoutARegisterAreRefused := fun k _ w s h =>
  ⟨readWord_of_noWordAt k h, (writeWord_of_noWordAt k w h).trans (answer_me s k .badAddr (by decide))⟩

/-! ### The gate of a command (R7, R307, R308, R337) -/

section
variable {s : State} {k : SessId} {r : Nat}

theorem gate_of_lowPower (h : s.lowPower = true) : s.gate k r = .notReady := by
  simp only [State.gate, h, Bool.true_or, if_true]

theorem gate_of_served (hl : s.lowPower = false) (hr : s.rtOnly = false) : s.gate k r = s.gateRight k r := by
  simp only [State.gate, hl, hr, Bool.or_self, Bool.false_eq_true, if_false]

theorem gateRight_of_closed (h : s.sec.sessions[k].isOpen = false) : s.gateRight k r = .authFail := by
  simp only [State.gateRight, h, Bool.not_false, if_true]

theorem gateRight_of_open (h : s.sec.sessions[k].isOpen = true) :
    s.gateRight k r = if s.hasRight k r then .ok else .denied := by
  simp only [State.gateRight, h, Bool.not_true, Bool.false_eq_true, if_false]

/-- The role is asked for where the right has let the command pass. -/
theorem gateRws_of_ok (h : s.gate k r = .ok) : s.gateRws k r = if s.privileged k then .ok else .denied := by
  simp only [State.gateRws, h]

/-- What the right turns away is turned away with the status of the right. -/
theorem gateRws_of_refused {st : Status} (h : s.gate k r = st) (hst : st ≠ .ok) : s.gateRws k r = st := by
  unfold State.gateRws
  split
  · next hok => exact absurd (h.symm.trans hok) hst
  · exact h

/-- A command that its gate turns away is the answer of the gate, and nothing else. -/
theorem next_gated_refused {g : Status} {go : State → State × Status} (h : g ≠ .ok) :
    (Host.Outcome.next (s.gated k g go) : Out) = .next (s.answer (s.me k) g) :=
  congrArg _ (gated_refused s k g go h)

end

/-- Settles O13: the meaning of each command named is `State.gated` on its gate. -/
theorem commandsWithoutTheirRightAreTurnedAway : Obligations.CommandsWithoutTheirRightAreTurnedAway := by
  refine ⟨fun k r s hl hr ho => ?closed, fun k r s hl hr ho hn => ?noRight, fun k r s hl hr ho hh => ?right,
    fun k r s h => ?lowPower, fun k s h => ?param, fun k s h => ?command, fun k s h => ?service, fun k s h => ?take,
    fun k s h => ?read, fun k s h => ?canTx, fun k s h => ?dma, fun k s h => ?record⟩
  case closed =>
    have hg : s.gate k r = .authFail := (gate_of_served hl hr).trans (gateRight_of_closed ho)
    exact ⟨hg, gateRws_of_refused hg (by decide)⟩
  case noRight =>
    have hg : s.gate k r = .denied := by simp [gate_of_served hl hr, gateRight_of_open ho, hn]
    exact ⟨hg, gateRws_of_refused hg (by decide)⟩
  case right =>
    have hg : s.gate k r = .ok := by simp [gate_of_served hl hr, gateRight_of_open ho, hh]
    exact ⟨hg, gateRws_of_ok hg⟩
  case lowPower =>
    exact ⟨gate_of_lowPower h, gateRws_of_refused (gate_of_lowPower h) (by decide)⟩
  case param | command | service | take | read | canTx | dma | record =>
    (repeat' apply And.intro) <;> intros <;> exact next_gated_refused h

end Sys2Proof.Machine
end

section
/-! SUPPORT. What the commands and register writes of a slot do. -/

namespace Sys2Proof.Machine

open Sys2Proof

@[simp] theorem setSlot_same (s : State) (n : SlotId) (f : Slot → Slot) :
    (s.setSlot n f).eng.slots[n] = f s.eng.slots[n] := upd_same _ _ _

theorem setSlot_other (s : State) {n m : SlotId} (f : Slot → Slot) (h : m ≠ n) :
    (s.setSlot n f).eng.slots[m] = s.eng.slots[m] := upd_other _ _ _ _ h.symm

/-- A write that reaches a used slot of no tracking law is judged by its gate alone (R121, R133, R482). -/
theorem slotCmd_gated {s : State} {n : SlotId} (k : SessId) (right : Nat) (go : State → State × Status)
    (hu : s.slotUsed n = true) (ht : s.isTracking n = false) :
    s.slotCmd n k right go = s.gated k (s.gate k right) go := by
  simp only [State.slotCmd, hu, ht, Bool.not_true, Bool.false_eq_true, if_false]

/-- The parts of the state that a slot command in effect can change. -/
abbrev slotParts : List Part := [.sys, .log, .mon, .eng]

/-- From `s` to `t` a command of session `k` has made slot `n` what `f` makes of it and was answered OK; the other slots
are as they were, and nothing but `slotParts` has changed. -/
structure SlotWritten (n : SlotId) (k : SessId) (f : Slot → Slot) (s t : State) : Prop where
  slot    : t.eng.slots[n] = f s.eng.slots[n]
  others  : ∀ m, m ≠ n → t.eng.slots[m] = s.eng.slots[m]
  answers : t.sys.answers = ⟨s.me k, .ok⟩ :: s.sys.answers
  only    : State.Only slotParts s t

/-- A slot command that passes its gate and acts as `s.setSlot n f`, with an event or without, is answered OK. -/
theorem slotCmd_acts {s u : State} {n : SlotId} {k : SessId} {right : Nat} {f : Slot → Slot}
    {go : State → State × Status} (hu : s.slotUsed n = true) (ht : s.isTracking n = false) (hg : s.gate k right = .ok)
    (hgo : go s = (u, .ok)) (he : u.eng = (s.setSlot n f).eng) (ha : u.sys.answers = s.sys.answers)
    (hk : Keep slotParts s (go s).1) : SlotWritten n k f s (s.slotCmd n k right go) := by
  rw [hgo] at hk
  obtain ⟨hc, ho⟩ := gated_acts (k := k) hg hgo hk (by decide)
  rw [slotCmd_gated k right go hu ht, hc]
  exact {
    slot := (congrArg (·.slots[n]) he).trans (setSlot_same s n f)
    others := fun m hm => (congrArg (·.slots[m]) he).trans (setSlot_other s f hm)
    answers := congrArg _ ha
    only := ho }

/-! ### SWAP (R33, R136) -/

/-- The checks of a SWAP: none waits, the bank not in use is admitted, its load is, and no mode change holds it off. -/
structure State.SwapOk (s : State) (n : SlotId) : Prop where
  free  : s.eng.slots[n].swpend = false
  bank  : s.bankOk n s.sys.current s.eng.slots[n].other = true
  load  : s.loadOk s.sys.current (some (n, s.eng.slots[n].other[46].toNat)) = true
  modes : (s.sys.switching && s.trig n == 0 && decide (s.eng.slots[n].other[46].toNat < modeMinTper s.lowerMode)) = false

/-- A slot with its banks exchanged. -/
def Slot.swapped (x : Slot) : Slot := { x with bankB := !x.bankB }

/-- The event of a SWAP done, at the state that holds the banks exchanged. -/
def State.swapEv (s : State) (n : SlotId) : Ev :=
  s.engEv 0x0802 n (if s.eng.slots[n].bankB then 1 else 0) s.eng.slots[n].out

theorem swap_at_once {s : State} {n : SlotId} (h : s.SwapOk n)
    (hm : s.eng.slots[n].mode = .off ∨ s.eng.slots[n].mode = .fault) :
    s.swap n = ((s.setSlot n .swapped).emit ((s.setSlot n .swapped).swapEv n), .ok) := by
  obtain ⟨hf, hb, hl, hs⟩ := h
  simp only [State.swap, hf, hb, hl, hs, hm, Bool.not_true, Bool.or_self, Bool.false_eq_true, if_false, if_true]
  rfl

theorem swap_waits {s : State} {n : SlotId} (h : s.SwapOk n)
    (ho : s.eng.slots[n].mode ≠ .off) (hF : s.eng.slots[n].mode ≠ .fault) :
    s.swap n = (s.setSlot n fun x => { x with swpend := true }, .ok) := by
  obtain ⟨hf, hb, hl, hs⟩ := h
  simp only [State.swap, hf, hb, hl, hs, ho, hF, Bool.not_true, Bool.or_self, Bool.false_eq_true, if_false, or_self]

/-! ### CLRFLT (R157) -/

/-- The cause of a slot's fault still lasts. -/
def State.causeLasts (s : State) (n : SlotId) : Bool :=
  (s.eng.slots[n].fcause = .feedback && s.fbLostNow n) ||
    (s.eng.slots[n].fcause = .following && decide (s.emax n < (s.setpoint n - s.feedback n).natAbs))

/-- The output that slot `n` last applied to its sink, or the one it presents where it has applied none. -/
def State.lastOut (s : State) (n : SlotId) : Int := s.eng.slots[n].applied.getD s.eng.slots[n].out

/-- A slot out of FAULT: in MANUAL at the output `o`; `lost` says that its feedback is lost now. -/
def Slot.cleared (lost : Bool) (o : Int) (x : Slot) : Slot :=
  { x with mode := .manual, req := .manual, fcause := .none, manout := evWord o, resrun := 0, fbLost := x.fbLost && lost,
           ramp := false }

theorem clrflt_clears {s : State} {n : SlotId} (hm : s.eng.slots[n].mode = .fault) (hc : s.causeLasts n = false) :
    s.clrflt n = ((s.setSlot n (.cleared (s.fbLostNow n) (s.lastOut n))).emit
      ((s.setSlot n (.cleared (s.fbLostNow n) (s.lastOut n))).engEv 0x080A n s.eng.slots[n].fcause.code (s.lastOut n)), .ok) := by
  unfold State.causeLasts at hc
  simp only [State.clrflt, hm, hc, ne_eq, not_true_eq_false, Bool.false_eq_true, if_false]
  rfl

/-! ### Mode requests (R149) -/

/-- No encoding of REQ asks for FAULT. -/
theorem ofReq_ne_fault {v : Nat} {m : SlotMode} (h : SlotMode.ofReq v = some m) : m ≠ .fault := by
  rintro rfl
  unfold SlotMode.ofReq at h
  split at h <;> cases h

/-- The request that waited for the trigger of slot `n`, if one did, answered SUPERSEDED. -/
def State.supersede (s : State) (n : SlotId) : State :=
  match s.eng.slots[n].modePend with
  | some (_, old) => s.answer old .superseded
  | none => s

@[simp] theorem supersede_eng (s : State) (n : SlotId) : (s.supersede n).eng = s.eng := by
  unfold State.supersede
  split
  · exact answer_eng _ _ _
  · rfl

theorem modeRequest_waits {s : State} {n : SlotId} {m : SlotMode} (src : Src) (hF : m ≠ .fault)
    (hh : ¬ (m = .standby ∧ s.hset n = 0)) (hm : s.eng.slots[n].mode ≠ .fault) (hl : (m = .auto && s.fbLostNow n) = false) :
    s.modeRequest n m src = ((s.supersede n).setSlot n fun x => { x with modePend := some (m, src), req := m }, none) := by
  simp only [State.modeRequest, hF, hh, hm, hl, or_self, Bool.false_eq_true, if_false]
  rfl

theorem writeMode_requests {s : State} {n : SlotId} {v : Word} {k : SessId} {m : SlotMode} (hu : s.slotUsed n = true)
    (ht : s.isTracking n = false) (hg : s.gate k rightCOMMAND = .ok) (hv : SlotMode.ofReq (bits v 0 3) = some m)
    (hh : ¬ (m = .standby ∧ s.hset n = 0)) (hm : s.eng.slots[n].mode ≠ .fault) (hl : (m = .auto && s.fbLostNow n) = false) :
    s.writeMode n v k = (s.supersede n).setSlot n fun x => { x with modePend := some (m, s.me k), req := m } := by
  simp only [State.writeMode, hu, ht, hg, hv, modeRequest_waits (s.me k) (ofReq_ne_fault hv) hh hm hl, Bool.not_true,
    Bool.false_eq_true, if_false]

/-! ### Register writes (R135, R144, R151) -/

theorem writeSp_stores {s : State} {n : SlotId} {v : Word} (hs : s.spsrc n = 0) (hl : s.spInLimits n (ev v) = true) :
    s.writeSp n v = (s.setSlot n fun x => { x with sp := v }, .ok) := by
  simp only [State.writeSp, hs, hl, ne_eq, not_true_eq_false, Bool.not_true, Bool.false_eq_true, if_false]

theorem writeManout_stores {s : State} {n : SlotId} {v : Word} (hc : s.clampOut n (ev v) = ev v) :
    s.writeManout n v =
      (s.setSlot n fun x => { x with manout := v, ramp := x.ramp || (x.mode == .manual && x.manout != v) }, .ok) := by
  simp only [State.writeManout, hc, ne_eq, not_true_eq_false, if_false]

/-- A slot with word `i` of bank B or A set. -/
def Slot.setBankWord (b : Bool) (i : Fin 48) (v : Word) (x : Slot) : Slot :=
  if b then { x with wordsB := x.wordsB.set i v } else { x with wordsA := x.wordsA.set i v }

theorem writeBank_stores {s : State} {n : SlotId} {b : Bool} {i : Fin 48} {v : Word} (hb : b ≠ s.eng.slots[n].bankB)
    (hp : s.eng.slots[n].swpend = false) (hl : s.wordInLimits n i.val v = true) :
    s.writeBank n b i v = (s.setSlot n (.setBankWord b i v), .ok) := by
  simp only [State.writeBank, hb, hp, hl, decide_false, Bool.or_self, Bool.not_true, Bool.false_eq_true, if_false]
  cases b <;> rfl

/-- Settles O31: each command named passes its checks and then is one `State.setSlot`, followed by an event or not. -/
theorem slotCommandsTakeEffect : Obligations.SlotCommandsTakeEffect := by
  refine ⟨fun n k s hu ht hg hf hb hl hs hm => ?swapNow, fun n k s hu ht hg hf hb hl hs ho hF => ?swapLater,
    fun n k s hu ht hg hm hc => ?clrflt, fun n k s hu ht hg => ?rstats,
    fun n v k m s hu ht hg hv hh hm hl => ?mode, fun n v k s hu ht hg hs hl => ?sp,
    fun n v k s hu ht hg hc => ?manout, fun n b i v k s hu ht hg hb hp hl => ?bankWord⟩
  case swapNow =>
    have h : SlotWritten n k .swapped s (s.slotCmd n k rightCOMMAND fun s => s.swap n) :=
      slotCmd_acts hu ht hg (swap_at_once ⟨hf, hb, hl, hs⟩ hm) (emit_eng _ _) (emit_answers _ _)
        (swap_keep s n (.refl s) rfl)
    exact ⟨_, rfl, h.slot, h.others, h.answers, h.only⟩
  case swapLater =>
    have h : SlotWritten n k _ s (s.slotCmd n k rightCOMMAND fun s => s.swap n) :=
      slotCmd_acts hu ht hg (swap_waits ⟨hf, hb, hl, hs⟩ ho hF) rfl rfl (swap_keep s n (.refl s) rfl)
    exact ⟨_, rfl, h.slot, h.others, h.only⟩
  case clrflt =>
    have h : SlotWritten n k (.cleared (s.fbLostNow n) (s.lastOut n)) s
        (s.slotCmd n k rightCOMMAND fun s => s.clrflt n) :=
      slotCmd_acts hu ht hg (clrflt_clears hm hc) (emit_eng _ _) (emit_answers _ _) (clrflt_keep s n (.refl s) rfl)
    exact ⟨_, rfl, congrArg Slot.mode h.slot, congrArg Slot.fcause h.slot, congrArg Slot.manout h.slot, h.others, h.only⟩
  case rstats =>
    have h : SlotWritten n k _ s (s.slotCmd n k rightCOMMAND fun s => s.rstats n) :=
      slotCmd_acts hu ht hg rfl rfl rfl (rstats_keep s n (.refl s) rfl)
    exact ⟨_, rfl, h.slot, h.others, h.only⟩
  case mode =>
    have hw := writeMode_requests hu ht hg hv hh hm hl
    refine ⟨s.writeMode n v k, rfl, ?_, fun i hi => ?_, (writeMode_keep s n v k (.refl s) rfl).toOnly⟩
    · rw [hw, setSlot_same, supersede_eng]
    · rw [hw, setSlot_other _ _ hi, supersede_eng]
  case sp =>
    have h : SlotWritten n k _ s (s.slotCmd n k rightCOMMAND fun s => s.writeSp n v) :=
      slotCmd_acts hu ht hg (writeSp_stores hs hl) rfl rfl (writeSp_keep s n v (.refl s) rfl)
    exact ⟨_, rfl, h.slot, h.others, h.only⟩
  case manout =>
    have h : SlotWritten n k _ s (s.slotCmd n k rightCOMMAND fun s => s.writeManout n v) :=
      slotCmd_acts hu ht hg (writeManout_stores hc) rfl rfl (writeManout_keep s n v (.refl s) rfl)
    exact ⟨_, rfl, congrArg Slot.manout h.slot, (congrArg Slot.mode h.slot :), h.others, h.only⟩
  case bankWord =>
    have h : SlotWritten n k _ s (s.slotCmd n k rightPARAM fun s => s.writeBank n b i v) :=
      slotCmd_acts hu ht hg (writeBank_stores hb hp hl) rfl rfl (writeBank_keep s n b i v (.refl s) rfl)
    exact ⟨_, rfl, h.slot, h.others, h.only⟩

end Sys2Proof.Machine
end

section
/-! SUPPORT. The invariant at reset and along every step. -/

namespace Sys2Proof.Machine

open Sys2Proof

/-- The invariant says nothing of the commands that wait. -/
theorem State.Inv.withPending {s : State} (h : s.Inv) (rest : List Instr) : State.Inv { s with pending := rest } :=
  ⟨h.mem, h.q8, h.q9, h.q13, h.q14, h.q15⟩

theorem exec_inv {c : Instr} {s t : State} (hs : s.Inv) (h : exec c s = .next t) : t.Inv := by
  obtain ⟨u, hu, hk⟩ := exec_keep c s
  obtain rfl : u = t := by simpa [hu] using h
  exact hk.inv hs

theorem idle_inv {s : State} (hs : s.Inv) : s.idle.Inv :=
  (idle_keep s (.refl s) rfl : Keep allParts s _).inv hs

/-- Settles O4: at reset the storage and the queues are empty. -/
theorem invariantHoldsAtReset : Obligations.InvariantHoldsAtReset :=
  ⟨rfl, Nat.zero_le _, Nat.zero_le _, Nat.zero_le _, Nat.zero_le _, Nat.zero_le _⟩

/-- Settles O5: with a command in front the step is its meaning, with none it is `State.idle`, and both keep the
invariant. -/
theorem everyStepKeepsTheInvariant : Obligations.EveryStepKeepsTheInvariant := by
  intro s t hs h
  cases hp : s.pending with
  | nil =>
    obtain rfl : s.idle = t := by simpa [step_of_nil hp] using h
    exact idle_inv hs
  | cons c rest =>
    rw [step_of_cons hp] at h
    exact exec_inv (hs.withPending rest) h

end Sys2Proof.Machine
end

section
/-! SUPPORT. ON and OFF on the output and motor ports. -/

namespace Sys2Proof.Machine

open Sys2Proof

/-! ### A paralleled group switched -/

/-- Every member of the paralleled group of `p` takes `f`, and STATE follows what the group drives (R53). -/
def State.switchGroup (s : State) (p : PortId) (f : Port → Port) : State := (s.setPorts (s.members p) f).settle p

/-- What `f` makes true of a port, whatever its STATE, holds of every member of a switched group. -/
theorem switchGroup_member {s : State} {p q : PortId} {f : Port → Port} {P : Port → Prop}
    (hP : ∀ x st, P { f x with status := st }) (hq : q ∈ s.members p) : P (s.switchGroup p f).ports[q] := by
  obtain ⟨st, h⟩ := settle_setPorts_get s p q f
  have h' : (s.switchGroup p f).ports[q] = { f s.ports[q] with status := st } := h.trans (if_pos hq)
  exact h' ▸ hP _ _

theorem switchGroup_other {s : State} {p q : PortId} (f : Port → Port) (hq : q ∉ s.members p) :
    (s.switchGroup p f).ports[q] = s.ports[q] := by
  obtain ⟨st, h⟩ := settle_setPorts_get s p q f
  exact h.trans (if_neg hq)

theorem switchGroup_keep {fr : List Part} {s0 : State} (s : State) (p : PortId) (f : Port → Port) (hs : Keep fr s0 s)
    (hp : sub [.ports] fr = true) : Keep fr s0 (s.switchGroup p f) :=
  settle_keep _ p (setPorts_keep s _ f hs)

@[simp] theorem switchGroup_sys (s : State) (p : PortId) (f : Port → Port) : (s.switchGroup p f).sys = s.sys := by
  simp only [State.switchGroup, settle_sys, setPorts_sys]

@[simp] theorem switchGroup_hie (s : State) (p : PortId) (f : Port → Port) : (s.switchGroup p f).hie = s.hie := by
  simp only [State.switchGroup, settle_hie, setPorts_hie]

/-- A digital output on, with the tick at which its DUR timer ends (R41). -/
def Port.turnOn (e : Option Nat) (x : Port) : Port := { x with outOn := true, durEnd := e }
/-- A digital output off, its DUR timer cancelled (R41). -/
def Port.turnOff (x : Port) : Port := { x with outOn := false, durEnd := none }
/-- A motor port enabled; one that was not waits for its carrier (R40). -/
def Port.enable (x : Port) : Port := { x with enabled := true, awaitCarrier := x.awaitCarrier || !x.enabled }
/-- A motor port disabled (R40). -/
def Port.disable (x : Port) : Port := { x with enabled := false, awaitCarrier := false }

/-- The tick at which the DUR timer of an ON presented now ends; DUR = 0 sets none (R41). -/
def State.durEndOf (s : State) (dur : Nat) : Option Nat := if dur = 0 then none else some (s.tick + 1 + dur * 120000)

/-! ### What an accepted ON or OFF does, by function -/

theorem isSolFunc_of_isOutFunc {f : Nat} (h : isOutFunc f = true) : isSolFunc f = false ∧ f ≠ 4 := by
  simp only [isOutFunc, isSolFunc, Bool.or_eq_true, decide_eq_true_eq, Bool.or_eq_false_iff, decide_eq_false_iff_not] at *
  omega

section
variable {s : State} {p : PortId} {src : Src} {dur : Nat}

theorem actOn_of_output (h : isOutFunc (s.func p) = true) :
    s.actOn p src dur = (s.switchGroup p (.turnOn (s.durEndOf dur)), .ok, true) := by
  obtain ⟨hs, hm⟩ := isSolFunc_of_isOutFunc h
  unfold State.actOn
  simp only [hs, hm, Bool.false_eq_true, if_false]
  rfl

theorem actOff_of_output (h : isOutFunc (s.func p) = true) :
    s.actOff p src = (s.switchGroup p .turnOff, .ok, true) := by
  obtain ⟨hs, hm⟩ := isSolFunc_of_isOutFunc h
  unfold State.actOff
  simp only [hs, hm, Bool.false_eq_true, if_false]
  rfl

theorem actOn_of_motor (h : s.func p = 4) : s.actOn p src dur = (s.switchGroup p .enable, .ok, true) := by
  unfold State.actOn
  simp only [h]
  rfl

theorem actOff_of_motor (h : s.func p = 4) : s.actOff p src = (s.switchGroup p .disable, .ok, true) := by
  unfold State.actOff
  simp only [h]
  rfl

/-! ### The commands -/

/-- An ON that passes the right, the group, the function and R18, and completes with OK, is its effect and the answer. -/
theorem exec_portCmdOn {t : State} (hg : s.srcGate src = .ok) (hc : s.cmdGate p = .ok) (hk : s.checkOn src p dur = .ok)
    (ha : s.actOn p src dur = (t, .ok, true)) : exec (.portCmdOn p dur src) s = .next (t.answer src .ok) := by
  have hp : s.presentOn p src dur = (t, .ok, true) := by simp only [State.presentOn, hc, hk, ha]
  change execPortCmdOn p dur src s = _
  simp only [execPortCmdOn, hg, hp, State.presented, if_true]

theorem exec_portCmdOff {t : State} (hg : s.srcGate src = .ok) (hc : s.cmdGate p = .ok) (hk : s.checkOff src p = .ok)
    (ha : s.actOff p src = (t, .ok, true)) : exec (.portCmdOff p src) s = .next (t.answer src .ok) := by
  have hp : s.presentOff p src = (t, .ok, true) := by simp only [State.presentOff, hc, hk, ha]
  change execPortCmdOff p src s = _
  simp only [execPortCmdOff, hg, hp, State.presented, if_true]

theorem exec_digitalOutputDurEnd (h : s.ports[p].durEnd.isSome = true) :
    exec (.digitalOutputDurEnd p) s = .next (s.switchGroup p .turnOff) := by
  change execDigitalOutputDurEnd p s = _
  simp only [execDigitalOutputDurEnd, h, if_true]
  rfl

/-- A command that switches the group of `p` by `f` and completes with OK. -/
theorem switchGroup_answered {f : Port → Port} {P : Port → Prop} (hP : ∀ x st, P { f x with status := st }) :
    (∀ q, q ∈ s.members p → P ((s.switchGroup p f).answer src .ok).ports[q]) ∧
    (∀ q, q ∉ s.members p → ((s.switchGroup p f).answer src .ok).ports[q] = s.ports[q]) ∧
    ((s.switchGroup p f).answer src .ok).sys.answers = ⟨src, .ok⟩ :: s.sys.answers ∧
    State.Only [.ports, .sys, .hie, .mon] s ((s.switchGroup p f).answer src .ok) := by
  refine ⟨fun q hq => ?_, fun q hq => ?_, ?_, ?_⟩
  · rw [answer_ports]; exact switchGroup_member hP hq
  · rw [answer_ports]; exact switchGroup_other f hq
  · rw [answer_answers, switchGroup_sys]
  · exact (answer_keep _ src .ok (switchGroup_keep s p f (.refl s) rfl) rfl).toOnly

end

/-- Settles O14: each command named is one `State.switchGroup`, answered or not. -/
theorem portCommandsActUnderTheirFunction : Obligations.PortCommandsActUnderTheirFunction := by
  refine ⟨fun p dur src s hg hc hk hf => ?outputOn, fun p dur src s hg hc hk hf => ?motorOn,
    fun p src s hg hc hk hf => ?outputOff, fun p src s hg hc hk hf => ?motorOff, fun p s h => ?durEnd⟩
  case outputOn =>
    exact ⟨_, exec_portCmdOn hg hc hk (actOn_of_output hf),
      switchGroup_answered (P := fun x => x.outOn = true ∧ x.durEnd = s.durEndOf dur) fun _ _ => ⟨rfl, rfl⟩⟩
  case motorOn =>
    exact ⟨_, exec_portCmdOn hg hc hk (actOn_of_motor hf),
      switchGroup_answered (P := (·.enabled = true)) fun _ _ => rfl⟩
  case outputOff =>
    exact ⟨_, exec_portCmdOff hg hc hk (actOff_of_output hf),
      switchGroup_answered (P := fun x => x.outOn = false ∧ x.durEnd = none) fun _ _ => ⟨rfl, rfl⟩⟩
  case motorOff =>
    exact ⟨_, exec_portCmdOff hg hc hk (actOff_of_motor hf),
      switchGroup_answered (P := (·.enabled = false)) fun _ _ => rfl⟩
  case durEnd =>
    exact ⟨_, exec_digitalOutputDurEnd h,
      fun q => switchGroup_member (P := fun x => x.outOn = false ∧ x.durEnd = none) fun _ _ => ⟨rfl, rfl⟩,
      fun q => switchGroup_other _, (switchGroup_keep s p _ (.refl s) rfl).toOnly⟩

end Sys2Proof.Machine
end

section
/-! SUPPORT. Queue marks and performance modes. -/

namespace Sys2Proof.Machine

open Sys2Proof

/-! ### A gated command that is refused after its gate -/

/-- A command that passes its gate and then changes nothing but is given a status other than INTERLOCK. -/
theorem gated_refuses {s : State} {k : SessId} {g st : Status} {go : State → State × Status} (hg : g = .ok)
    (hr : go s = (s, st)) (hst : st ≠ .interlock) :
    s.gated k g go = { s with sys := { s.sys with answers := ⟨s.me k, st⟩ :: s.sys.answers } } := by
  rw [gated_ok s k g go hg, hr]
  exact answer_me s k st hst

/-- With other system registers a state differs in them alone. -/
theorem only_sys (s : State) (x : SysState) : State.Only [.sys] s { s with sys := x } :=
  (mk_sys_keep s x (.refl s) rfl : Keep [.sys] s _).toOnly

/-! ### Queue marks (R28) -/

section
variable (s : State) (q : Fin 16)

theorem hwmRst_mark : (s.hwmRst q).sys.qstat[q] = { s.sys.qstat[q] with hwm := s.qFill q } := upd_same _ _ _

theorem hwmRst_other {r : Fin 16} (h : r ≠ q) : (s.hwmRst q).sys.qstat[r] = s.sys.qstat[r] := upd_other _ _ _ _ h.symm

theorem ovfClr_mark : (s.ovfClr q).sys.qstat[q] = { s.sys.qstat[q] with ovf := 0 } := upd_same _ _ _

theorem ovfClr_other {r : Fin 16} (h : r ≠ q) : (s.ovfClr q).sys.qstat[r] = s.sys.qstat[r] := upd_other _ _ _ _ h.symm

end

/-! ### Mode requests (R32, R436) -/

section
variable {s : State} {v : Word} {m : Mode} {k : SessId}

/-- A switch to mode `m` begins at the request of session `k` (R32). -/
def State.requestMode (s : State) (m : Mode) (k : SessId) : State :=
  s.onSys fun x => { x with request := m, switching := true, reqAt := s.tick, reqBy := some k }

/-- Another mode than the one requested is judged by the supply, the switch in progress, and the limits, in this order. -/
theorem writeReqMode_other (hm : Mode.ofCode (bits v 0 2) = some m) (hn : m ≠ s.sys.request) :
    s.writeReqMode v k =
      if s.pwr.warning then (s, .notReady)
      else if s.sys.switching then (s, .busy)
      else if !s.allowsMode m || !s.ceilingsOk m then (s, .limit)
      else (s.requestMode m k, .ok) := by
  simp only [State.writeReqMode, hm, hn, if_false]
  rfl

/-- A mode request that passes its gate and is refused with `st`. -/
theorem modeRequest_refused {st : Status} (hg : s.gate k rightCOMMAND = .ok) (hr : s.writeReqMode v k = (s, st))
    (hst : st ≠ .interlock) : ∃ t, exec (.modeRequest v k) s = .next t ∧
      t.sys = { s.sys with answers := ⟨s.me k, st⟩ :: s.sys.answers } ∧ State.Only [.sys] s t :=
  ⟨_, congrArg Host.Outcome.next (gated_refuses (go := fun s => s.writeReqMode v k) hg hr hst), rfl, only_sys s _⟩

end

/-! ### The edge of a mode switch (R34) -/

/-- D4 losing its power changes no mode. -/
theorem settlePipeB_sys (s : State) : ∃ b, s.settlePipeB.sys = { s.sys with pipeB := b } := by
  unfold State.settlePipeB
  split
  · exact ⟨_, rfl⟩
  · exact ⟨_, rfl⟩

/-- The requested mode in force, the switch ended, and pipeline B off where no slot needs it (R34 steps 3 and 4). -/
def State.switched (s : State) : State :=
  (s.onSys fun x => { x with current := x.request, switching := false }).settlePipeB

/-- MODE_CHANGE of a switch from `s` to the mode in force in `t` (R34 step 5). -/
def State.modeChangeEv (s t : State) : Ev :=
  { t.pwrEv 0x0105 s.sys.current.code t.sys.current.code (ownerByte t.sys.reqBy) 0 (ticksUs (t.tick - t.sys.reqAt)) 0
    with session := t.sys.reqBy }

theorem exec_modeSwitchEdge {s : State} (hs : s.sys.switching = true) (hb : s.sys.request = .sear → s.sys.pipeB = true) :
    exec .modeSwitchEdge s = .next (s.switched.emit (s.modeChangeEv s.switched)) := by
  have hc : (!s.sys.switching || (s.sys.request == .sear && !s.sys.pipeB)) = false := by
    by_cases hr : s.sys.request = .sear
    · simp only [hs, hb hr, Bool.not_true, Bool.and_false, Bool.or_self]
    · have hne : (s.sys.request == Mode.sear) = false := beq_eq_false_iff_ne.mpr hr
      simp only [hs, hne, Bool.not_true, Bool.false_and, Bool.or_self]
  change execModeSwitchEdge s = _
  simp only [execModeSwitchEdge, hc, Bool.false_eq_true, if_false]
  rfl

theorem switched_sys (s : State) :
    ∃ b, s.switched.sys = { s.sys with current := s.sys.request, switching := false, pipeB := b } :=
  settlePipeB_sys _

theorem switched_keep (s : State) : Keep [.sys, .log, .mon] s s.switched :=
  settlePipeB_keep _ (onSys_keep s _ (.refl s) rfl) rfl

/-- Settles O44: a mark is one entry of `qstat`, a request is judged by `writeReqMode_other`, and the edge changes the
mode before it records it. -/
theorem queueMarksAndModesAreSet : Obligations.QueueMarksAndModesAreSet := by
  refine ⟨fun q k s hg => ?hwm, fun q k s hg => ?ovf, fun v m k s hg hm hn hw hs ha hc => ?request,
    fun v m k s hg hm hn hw => ?warned, fun v m k s hg hm hn hw hs => ?busy, fun v m k s hg hm hn hw hs ha => ?limit,
    fun s hs hr => ?pipeB, fun s hs hb => ?edge⟩
  case hwm =>
    obtain ⟨he, ho⟩ := gated_acts (go := fun s => (s.hwmRst q, .ok)) hg rfl
      (hwmRst_keep s q (.refl s) rfl : Keep [.sys] s _) (by decide)
    exact ⟨_, congrArg Host.Outcome.next he, hwmRst_mark s q, fun r => hwmRst_other s q, rfl, ho⟩
  case ovf =>
    obtain ⟨he, ho⟩ := gated_acts (go := fun s => (s.ovfClr q, .ok)) hg rfl
      (ovfClr_keep s q (.refl s) rfl : Keep [.sys] s _) (by decide)
    exact ⟨_, congrArg Host.Outcome.next he, ovfClr_mark s q, fun r => ovfClr_other s q, rfl, ho⟩
  case request =>
    have hr : s.writeReqMode v k = (s.requestMode m k, .ok) := by
      rw [writeReqMode_other hm hn]
      simp only [hw, hs, ha, hc, Bool.not_true, Bool.or_self, Bool.false_eq_true, if_false]
    obtain ⟨he, ho⟩ := gated_acts (go := fun s => s.writeReqMode v k) hg hr
      (onSys_keep s _ (.refl s) rfl : Keep [.sys] s _) (by decide)
    exact ⟨_, congrArg Host.Outcome.next he, rfl, ho⟩
  case warned =>
    exact modeRequest_refused hg (by rw [writeReqMode_other hm hn]; simp only [hw, if_true]) (by decide)
  case busy =>
    exact modeRequest_refused hg
      (by rw [writeReqMode_other hm hn]; simp only [hw, hs, Bool.false_eq_true, if_true, if_false]) (by decide)
  case limit =>
    exact modeRequest_refused hg
      (by rw [writeReqMode_other hm hn]
          simp only [hw, hs, ha, Bool.not_false, Bool.true_or, Bool.false_eq_true, if_true, if_false]) (by decide)
  case pipeB =>
    have he : execPipelineBUp s = .next (s.onSys fun x => { x with pipeB := true }) := by
      simp only [execPipelineBUp, hs, hr, beq_self_eq_true, Bool.and_self, if_true]
    exact ⟨_, he, rfl, only_sys s _⟩
  case edge =>
    obtain ⟨b, hb'⟩ := switched_sys s
    obtain ⟨q, hq⟩ := emit_sys s.switched (s.modeChangeEv s.switched)
    rw [hb'] at hq
    exact ⟨_, exec_modeSwitchEdge hs hb, by rw [hq], by rw [hq], by rw [hq],
      (emit_keep _ _ (switched_keep s) rfl).toOnly⟩

end Sys2Proof.Machine
end

section
/-! SUPPORT. Resets of the device, and the rows of its start. -/

namespace Sys2Proof.Machine

open Sys2Proof

/-! ### Resets (R432, R433) -/

/-- What a reset of the running device leaves: it is off with PILOT low and the cause latched, its ports, sessions, SRAM
and Recipe are as at reset, and fused keys, the Reel and the commands that wait stay (R432, R433). -/
structure ResetFrom (s t : State) (latch : ResetKind × Nat × Nat) : Prop where
  phase    : t.pwr.phase = .off
  latched  : t.pwr.latched = some latch
  pilot    : t.pwr.pilot = false
  ports    : t.ports = State.reset.ports
  sessions : t.sec.sessions = State.reset.sec.sessions
  applied  : t.rcp.applied = false
  mem      : t.mem = []
  slots    : t.sec.slots = s.sec.slots
  reel     : t.log.reel = s.log.reel
  pending  : t.pending = s.pending

theorem ResetFrom.clauses {s t : State} {l : ResetKind × Nat × Nat} (h : ResetFrom s t l) :
    t.pwr.phase = .off ∧ t.pwr.latched = some l ∧ t.pwr.pilot = false ∧ t.ports = State.reset.ports ∧
      t.sec.sessions = State.reset.sec.sessions ∧ t.rcp.applied = false ∧ t.mem = [] ∧ t.sec.slots = s.sec.slots ∧
      t.log.reel = s.log.reel ∧ t.pending = s.pending :=
  ⟨h.phase, h.latched, h.pilot, h.ports, h.sessions, h.applied, h.mem, h.slots, h.reel, h.pending⟩

/-- An answer given before a reset is no part of what the reset takes or leaves. -/
theorem ResetFrom.of_answered {s t : State} {src : Src} {st : Status} {l : ResetKind × Nat × Nat}
    (h : ResetFrom (s.answer src st) t l) : ResetFrom s t l :=
  have hk : Keep [.sys, .hie, .mon] s (s.answer src st) := answer_keep s src st (.refl s) rfl
  { h with slots := h.slots.trans (by rw [answer_sec]), reel := h.reel.trans (by rw [answer_log]),
           pending := h.pending.trans hk.pend }

/-- Counting a reset kind changes neither the phase nor PILOT. -/
theorem tally_keeps (x : PwrState) (kind : ResetKind) :
    (x.tally kind).phase = x.phase ∧ (x.tally kind).pilot = x.pilot := by
  cases kind <;> exact ⟨rfl, rfl⟩

theorem chipReset_resets (s : State) (kind : ResetKind) (detail : Nat) :
    ResetFrom s (s.chipReset kind detail) (kind, 0, detail) := by
  obtain ⟨hph, hpi⟩ := tally_keeps s.pwr.kept kind
  exact ⟨hph, rfl, hpi, rfl, rfl, rfl, rfl, rfl, rfl, rfl⟩

theorem tripOff_resets {s t : State} {l : ResetKind × Nat × Nat} (h : ResetFrom s t l) : ResetFrom s t.tripOff l :=
  ⟨h.phase, h.latched, h.pilot, h.ports, h.sessions, h.applied, h.mem, h.slots, h.reel, h.pending⟩

section
variable {s : State}

theorem exec_pllLoss_run (h : s.pwr.phase = .run) : exec .pllLoss s = .next (s.chipReset .pllLoss 0) :=
  congrArg Host.Outcome.next (if_pos h)

theorem exec_lockstepMismatch_run (p : Nat) (h : s.pwr.phase = .run) :
    exec (.lockstepMismatch p) s = .next (s.chipReset .lockstep (p % 16)) :=
  congrArg Host.Outcome.next (if_pos h)

theorem exec_watchdog_run (p : Nat) (h : s.pwr.phase = .run) :
    exec (.watchdog p) s = .next (s.chipReset .watchdog (p % 16)) :=
  congrArg Host.Outcome.next (if_pos h)

theorem exec_brownout_run (h : s.pwr.phase = .run) : exec .brownout s = .next (s.chipReset .brownout 0).tripOff := by
  change execBrownout s = _
  simp only [execBrownout, h]

theorem exec_brownout_sleep (h : s.pwr.phase = .sleep) :
    exec .brownout s = .next (s.onPwr fun x => { x with detectorOff := true }) := by
  change execBrownout s = _
  simp only [execBrownout, h]

theorem cmdRestart_of_ok {k : SessId} (h : s.rcpGate k false = .ok) :
    s.cmdRestart k = (s.answer (s.me k) .ok).chipReset .commanded 0 := by
  simp only [State.cmdRestart, h]

theorem cmdRestart_of_refused {k : SessId} (h : s.rcpGate k false ≠ .ok) :
    s.cmdRestart k = s.answer (s.me k) (s.rcpGate k false) := by
  unfold State.cmdRestart
  split
  · next hok => exact absurd hok h
  · rfl

end

/-! ### The start, row by row (R434) -/

/-- Rows 1 and 2: the reset is shown and recorded. -/
def State.started (s : State) (addr : Nat) (housing : Int) (down : Nat) : State :=
  (s.startKindRow addr housing).resetCause down

/-- Row 4 for a wake by CAN0: its event (R446). -/
def State.wakeShown (s : State) : State :=
  if s.pwr.kind = ResetKind.wake.code && s.pwr.wsrc = 3 then s.canEmit 0 0x0B0C 0 0 else s

/-- FACTORY_FAIL: which check of the factory page has failed. -/
def State.factoryEv (s : State) (page : Nat) : Ev :=
  { code := 0x0F04, origin := .runtime, payload := s.monPayload 0xFF 0xFF 0xFF page s.cal.fver }

/-- Rows 5 to 8 of a start whose runtime runs. -/
def State.startPage (s : State) (page : Nat) (above : List Nat) : State :=
  if page ≠ 0 then (s.wakeShown.emit (s.wakeShown.factoryEv page)).stopAt 5
  else (s.wakeShown.onCal fun x => { x with factOk := true }).startRecipe above

/-- Rows 3 to 8. -/
def State.startRest (s : State) (rom : Bool) (page : Nat) (above : List Nat) : State :=
  if !rom then s.stopAt 3
  else if !s.startCores.pwr.runtime then s.startCores.stopAt 4
  else s.startCores.startPage page above

section
variable {s : State} {addr : Nat} {rom : Bool} {page : Nat} {housing : Int} {down : Nat} {above : List Nat}

theorem exec_start_run (h : s.pwr.phase = .run) : exec (.start addr rom page housing down above) s = .next s := by
  change execStart addr rom page housing down above s = _
  simp only [execStart, h, decide_true, Bool.true_or, if_true]

theorem exec_start_off (h : s.pwr.phase = .off) : exec (.start addr rom page housing down above) s =
    .next ((s.started addr housing down).startRest rom page above) := by
  have hl : s.lowPower = false := by simp only [State.lowPower, h]; rfl
  change execStart addr rom page housing down above s = _
  simp only [execStart, h, hl, Bool.false_and, Bool.or_false, reduceCtorEq, decide_false, Bool.false_eq_true, if_false]
  rfl

/-! ### Row 1 -/

/-- What a start shows of a reset that D0 has latched, when D0 has kept its supply and no wake source waits. -/
theorem started_latched {l : ResetKind × Nat × Nat} (hd : s.pwr.d0Lost = false) (hw : s.pwr.wakePend = none)
    (hl : s.pwr.latched = some l) : (s.started addr housing down).pwr.kind = l.1.code ∧
      (s.started addr housing down).pwr.wsrc = l.2.1 ∧ (s.started addr housing down).pwr.detail = l.2.2 ∧
      (s.started addr housing down).pwr.prev = s.pwr.kind := by
  simp [State.started, State.resetCause, State.startKindRow, hd, hw, hl]

/-- A start after D0 has been without supply is a power-on (R484). -/
theorem started_fresh (hd : s.pwr.d0Lost = true) :
    (s.started addr housing down).pwr.kind = 1 ∧ (s.started addr housing down).pwr.prev = 0 := by
  simp [State.started, State.resetCause, State.startKindRow, hd, ResetKind.code]

theorem started_sec (s : State) (addr : Nat) (housing : Int) (down : Nat) : (s.started addr housing down).sec =
    { s.sec with aonLost := s.sec.aonLost || s.pwr.d0Lost, hctr := s.sec.hfloor, hfloor := s.sec.hfloor + 2 ^ 24 } := by
  simp only [State.started, State.resetCause, emit_sec]
  rfl

theorem started_pwr (s : State) (addr : Nat) (housing : Int) (down : Nat) :
    let t := s.started addr housing down
    t.pwr.phase = .run ∧ t.pwr.latched = none ∧ t.pwr.d0Lost = false ∧ t.pwr.stoppedAt = 0 ∧
      t.pwr.runtime = s.pwr.runtime ∧ t.pwr.pilot = s.pwr.pilot := by
  simp only [State.started, State.resetCause, emit_pwr]
  exact ⟨rfl, rfl, rfl, rfl, rfl, rfl⟩

theorem started_straps (s : State) (addr : Nat) (housing : Int) (down : Nat) :
    (s.started addr housing down).sys.addr = addr % 64 ∧ (s.started addr housing down).sys.housing = housing := by
  obtain ⟨q, hq⟩ := emit_sys (s.startKindRow addr housing) _
  rw [State.started, State.resetCause, hq]
  exact ⟨rfl, rfl⟩

/-- Presenting an event leaves CYCLE as it is. -/
theorem emit_cycle (s : State) (e : Ev) : (s.emit e).log.cycle = s.log.cycle := by
  have hlost : ∀ (t : State) e k b, (t.loseEvent e k b).log.cycle = t.log.cycle := fun t e k b => by
    change (State.count _ _ _).log.cycle = _
    rw [State.count_log]; rfl
  have hsupp : ∀ (t : State) k b, (t.suppress k b).log.cycle = t.log.cycle := fun t k b => by
    change (State.count _ _ _).log.cycle = _
    rw [State.count_log]; rfl
  unfold State.emit
  dsimp only
  split
  · split
    · rfl
    · exact hlost _ _ _ _
  · split
    · exact hsupp _ _ _
    · split
      · rfl
      · exact hlost _ _ _ _

theorem started_cycle (s : State) (addr : Nat) (housing : Int) (down : Nat) :
    (s.started addr housing down).log.cycle = satNat 0xFFFFFF (s.log.cycle + 1) :=
  emit_cycle _ _

theorem started_keep {fr : List Part} (s : State) (addr : Nat) (housing : Int) (down : Nat)
    (hp : sub [.sys, .log, .sec, .pwr, .mon] fr = true) : Keep fr s (s.started addr housing down) :=
  resetCause_keep _ down (startKindRow_keep s addr housing (.refl s))

/-! ### Rows 3 and 4 (R305, R321) -/

theorem pickImage_isSome {i : Fin 2} (h : s.imageGood i = true) : ∃ j, s.pickImage = some j := by
  unfold State.pickImage
  generalize (if s.sec.images[(0 : Fin 2)].version < s.sec.images[(1 : Fin 2)].version then 1 else 0 : Fin 2) = f
  obtain rfl | rfl := (by decide : ∀ i f : Fin 2, i = f ∨ i = 1 - f) i f
  · exact ⟨_, if_pos h⟩
  · by_cases hf : s.imageGood f = true
    · exact ⟨_, if_pos hf⟩
    · exact ⟨_, (if_neg hf).trans (if_pos h)⟩

theorem pickImage_eq_none (h : ∀ i, s.imageGood i = false) : s.pickImage = none := by
  simp only [State.pickImage, h, Bool.false_eq_true, if_false]

/-- Without a detection that waits, an image that is good starts the runtime. -/
theorem startCores_of_image {i : Fin 2} (ht : s.sec.tampPend = none) (hi : s.pickImage = some i) :
    s.startCores = (s.onSec fun x => { x with running := i, rtAt := s.tick }).onPwr fun x => { x with runtime := true } := by
  simp only [State.startCores, ht, hi]

theorem startCores_of_no_image (ht : s.sec.tampPend = none) (hi : s.pickImage = none) : s.startCores = s := by
  simp only [State.startCores, ht, hi]

/-- A detection that waits takes the root and what hangs on it before an image starts (R321). -/
theorem startCores_of_tamper {c : Nat} (ht : s.sec.tampPend = some c) :
    s.startCores.sec.root = none ∧ s.startCores.sec.oldEpoch = none ∧ s.startCores.sec.rotation = none ∧
      s.startCores.sec.tampPend = none := by
  have hsec : (s.tamperActs c).sec = { (s.endAll 8).sec with
      root := none, oldEpoch := none, rotation := none, rerooted := false, tampPend := none } :=
    (secEmit_keep _ _ _ _ (.refl _) rfl : Keep [.sys, .log, .mon] _ _).only .sec (by decide)
  simp only [State.startCores, ht]
  split <;> simp [hsec]

/-- Rows 3 and 4 change of the supplies' state only whether the runtime runs. -/
theorem startCores_pwr (s : State) : ∃ r, s.startCores.pwr = { s.pwr with runtime := r } := by
  have htamper : ∀ c, (s.tamperActs c).pwr = s.pwr := fun c =>
    (tamperActs_keep s c (.refl s) rfl : Keep [.sys, .log, .sec, .mon, .can, .hl, .apu, .dma] s _).only .pwr (by decide)
  cases ht : s.sec.tampPend with
  | none =>
    simp only [State.startCores, ht]
    split
    · exact ⟨true, rfl⟩
    · exact ⟨s.pwr.runtime, rfl⟩
  | some c =>
    simp only [State.startCores, ht]
    split
    · exact ⟨true, by rw [State.onPwr_pwr, State.onSec_pwr, htamper]⟩
    · exact ⟨s.pwr.runtime, by rw [htamper]⟩

/-! ### Rows 6 to 8 -/

/-- The part of `State.applyRecipe` that comes before a Recipe counts as applied (R290 steps 3 and 4). -/
def State.applyModels (s : State) : State :=
  let m := (Mode.ofCode s.rcp.head.dflt).getD .boil
  let s := s.onSys fun x => { x with request := m, current := m, pipeB := m == .sear }
  let s := (idx 32).foldl State.coilStart s
  let s := (idx 32).foldl State.restoreDelays s
  let s := (idx 8).foldl State.restoreAge s
  { s with can := updAll s.can fun c x => if bit (s.canCfg c) 31 then { x with st := .integrating } else x }

/-- The part that comes after it (R290 steps 5 and 6). -/
def State.applyUnits (s : State) (above : List Nat) : State :=
  let s := s.onMon fun x => { x with running := true }
  let s := s.onEng fun z => { z with slots := updAll z.slots fun n x => if s.slotUsed n then s.freshSlot n else x }
  let s := (idx 4).foldl State.bankUp s
  let s := (idx 8).foldl State.fanAuto s
  let s := if s.gnssOn then s.gnssStart above false else s
  s.seqFresh

theorem applyRecipe_eq (s : State) (above : List Nat) :
    s.applyRecipe above = (s.applyModels.onRcp fun x => { x with applied := true }).applyUnits above := rfl

theorem applyUnits_rcp (s : State) (above : List Nat) : (s.applyUnits above).rcp = s.rcp := by
  have hunits : ∀ f, Keep [.sys, .ports, .sol, .log, .gns, .hie, .mon, .fan, .eng, .seq] s ((idx 8).foldl State.fanAuto
      ((idx 4).foldl State.bankUp ((s.onMon fun x => { x with running := true }).onEng f))) := fun f =>
    foldl_keep (foldl_keep (onEng_keep _ _ (onMon_keep _ _ (.refl s) rfl) rfl) fun t b h => bankUp_keep t b h rfl)
      fun t f h => fanAuto_keep t f h rfl
  refine Keep.only (fr := [.sys, .ports, .sol, .log, .gns, .hie, .mon, .fan, .eng, .seq]) ?_ .rcp (by decide)
  unfold State.applyUnits
  dsimp only
  refine seqFresh_keep _ ?_ rfl
  split
  · exact gnssStart_keep _ _ _ (hunits _) rfl
  · exact hunits _

theorem applyRecipe_applied (s : State) (above : List Nat) : (s.applyRecipe above).rcp.applied = true := by
  rw [applyRecipe_eq, applyUnits_rcp]
  rfl

/-- Rows 6 to 8 stop at the selection or at the role, or PILOT toggles with a Recipe applied. -/
theorem startRecipe_cases (s : State) (above : List Nat) :
    (∃ row, (row = 6 ∨ row = 7) ∧ (s.startRecipe above).pwr = { s.pwr with stoppedAt := row }) ∨
    (s.startRecipe above).pwr = { s.pwr with pilot := true } ∧ (s.startRecipe above).rcp.applied = true := by
  have hselect : s.selectRecipe.1.pwr = s.pwr :=
    (selectRecipe_keep s (.refl s) rfl : Keep [.sys, .log, .rcp, .mon] s _).only .pwr (by decide)
  have hchoose : ∀ (t : State) x h rs, (t.chooseRecipe x h rs).pwr = t.pwr := fun t x h rs =>
    (chooseRecipe_keep t x h rs (.refl t) rfl : Keep [.ports, .rcp, .tmb, .mon, .sct] t _).only .pwr (by decide)
  have happly : ∀ t : State, (t.applyRecipe above).pwr = t.pwr := fun t =>
    (applyRecipe_keep t above (.refl t) rfl :
      Keep [.sys, .ports, .sol, .log, .rcp, .gns, .hie, .mon, .fan, .eng, .can, .seq] t _).only .pwr (by decide)
  unfold State.startRecipe
  split
  · next t ht =>
    rw [ht] at hselect
    exact .inl ⟨6, .inl rfl, congrArg (fun x : PwrState => { x with stoppedAt := 6 }) hselect⟩
  · next t x h rs ht =>
    rw [ht] at hselect
    dsimp only
    split
    · have hpwr : ∀ c, ((t.chooseRecipe x h rs).hieEmit 0x0A07 0 c
          (t.chooseRecipe x h rs).sys.addr (t.chooseRecipe x h rs).raddr).pwr = s.pwr := fun c => by
        rw [State.hieEmit, emit_pwr, hchoose]; exact hselect
      exact .inl ⟨7, .inr rfl, congrArg (fun x : PwrState => { x with stoppedAt := 7 }) (hpwr _)⟩
    · have hpwr : ∀ e, (((t.chooseRecipe x h rs).applyRecipe above).emit e).pwr = s.pwr := fun e => by
        rw [emit_pwr, happly, hchoose]; exact hselect
      refine .inr ⟨congrArg (fun x : PwrState => { x with pilot := true }) (hpwr _), ?_⟩
      simp only [State.onPwr_rcp, emit_rcp, applyRecipe_applied]

/-! ### Rows 5 to 8, and the whole start -/

theorem wakeShown_keep {fr : List Part} {s0 : State} (s : State) (hs : Keep fr s0 s)
    (hp : sub [.sys, .log, .mon] fr = true) : Keep fr s0 s.wakeShown := by
  unfold State.wakeShown
  split
  · exact canEmit_keep _ _ _ _ _ hs hp
  · exact hs

theorem wakeShown_pwr (s : State) : s.wakeShown.pwr = s.pwr :=
  (wakeShown_keep s (.refl s) rfl : Keep [.sys, .log, .mon] s _).only .pwr (by decide)

theorem wakeShown_cal (s : State) : s.wakeShown.cal = s.cal :=
  (wakeShown_keep s (.refl s) rfl : Keep [.sys, .log, .mon] s _).only .cal (by decide)

/-- A failed check of the factory page stops the start at row 5. -/
theorem startPage_of_failed (hp : page ≠ 0) :
    s.startPage page above = (s.wakeShown.emit (s.wakeShown.factoryEv page)).stopAt 5 :=
  if_pos hp

theorem startPage_pwr_of_failed (hp : page ≠ 0) : (s.startPage page above).pwr = { s.pwr with stoppedAt := 5 } := by
  rw [startPage_of_failed hp, State.stopAt, State.onPwr_pwr, emit_pwr, wakeShown_pwr]

theorem startPage_keep_of_failed {fr : List Part} {s0 : State} (hp : page ≠ 0) (hs : Keep fr s0 s)
    (hf : sub [.sys, .log, .pwr, .mon] fr = true) : Keep fr s0 (s.startPage page above) := by
  rw [startPage_of_failed hp]
  exact stopAt_keep _ 5 (emit_keep _ _ (wakeShown_keep s hs (sub_of hf rfl)))

theorem startPage_of_passed (hp : page = 0) :
    s.startPage page above = (s.wakeShown.onCal fun x => { x with factOk := true }).startRecipe above :=
  if_neg (not_not_intro hp)

/-- Rows 5 to 8 change the supplies' state in PILOT and in the row at which the start stops. -/
theorem startPage_pwr (s : State) (page : Nat) (above : List Nat) :
    ∃ p n, (s.startPage page above).pwr = { s.pwr with pilot := p, stoppedAt := n } := by
  by_cases hp : page = 0
  · rw [startPage_of_passed hp]
    rcases startRecipe_cases (s.wakeShown.onCal fun x => { x with factOk := true }) above with
      ⟨row, -, h⟩ | ⟨h, -⟩ <;> rw [h, State.onCal_pwr, wakeShown_pwr]
    · exact ⟨s.pwr.pilot, row, rfl⟩
    · exact ⟨true, s.pwr.stoppedAt, rfl⟩
  · exact ⟨s.pwr.pilot, 5, startPage_pwr_of_failed hp⟩

theorem startPage_sec (s : State) (page : Nat) (above : List Nat) : (s.startPage page above).sec = s.sec := by
  refine Keep.only (fr := [.sys, .ports, .sol, .log, .rcp, .pwr, .tmb, .gns, .hie, .mon, .cal, .fan, .eng, .sct, .can,
    .seq]) ?_ .sec (by decide)
  by_cases hp : page = 0
  · rw [startPage_of_passed hp]
    exact startRecipe_keep _ above (onCal_keep _ _ (wakeShown_keep s (.refl s) rfl) rfl) rfl
  · exact startPage_keep_of_failed hp (.refl s) rfl

/-- Where the factory page passes, rows 5 to 8 change the calibration in that alone. -/
theorem startPage_cal (above : List Nat) (hp : page = 0) :
    (s.startPage page above).cal = { s.cal with factOk := true } := by
  have hcal : (s.startPage page above).cal = { s.wakeShown.cal with factOk := true } := by
    rw [startPage_of_passed hp]
    exact (startRecipe_keep _ above (.refl _) rfl : Keep [.sys, .ports, .sol, .log, .rcp, .pwr, .tmb, .gns, .hie, .mon,
      .fan, .eng, .sct, .can, .seq] _ _).only .cal (by decide)
  rw [hcal, wakeShown_cal]

/-- Where the factory page passes and PILOT does not yet toggle, it toggles with a Recipe applied or the start stops at
row 6 or 7. -/
theorem startPage_pilot (above : List Nat) (hp : page = 0) (hpi : s.pwr.pilot = false) (h0 : s.pwr.stoppedAt = 0) :
    let t := s.startPage page above
    (t.pwr.pilot = true → t.rcp.applied = true) ∧ (t.pwr.pilot = true ↔ t.pwr.stoppedAt = 0) ∧
      (t.pwr.pilot = false → t.pwr.stoppedAt = 6 ∨ t.pwr.stoppedAt = 7) := by
  dsimp only
  rw [startPage_of_passed hp]
  rcases startRecipe_cases (s.wakeShown.onCal fun x => { x with factOk := true }) above with
    ⟨row, hrow, h⟩ | ⟨h, happ⟩
  · rw [h, State.onCal_pwr, wakeShown_pwr, hpi]
    simp only [Bool.false_eq_true, false_implies, false_iff, true_implies, true_and]
    omega
  · rw [h, State.onCal_pwr, wakeShown_pwr, h0, happ]
    simp

theorem startRest_of_rom_failed : s.startRest false page above = s.stopAt 3 := rfl

theorem startRest_of_runtime (h : s.startCores.pwr.runtime = true) :
    s.startRest true page above = s.startCores.startPage page above := by
  simp only [State.startRest, h, Bool.not_true, Bool.false_eq_true, if_false]

theorem startRest_of_no_runtime (h : s.startCores.pwr.runtime = false) :
    s.startRest true page above = s.startCores.stopAt 4 := by
  simp only [State.startRest, h, Bool.not_true, Bool.not_false, Bool.false_eq_true, if_false, if_true]

/-- Rows 3 to 8 change the supplies' state in the runtime, PILOT and the row at which the start stops. -/
theorem startRest_pwr (s : State) (rom : Bool) (page : Nat) (above : List Nat) :
    ∃ r p n, (s.startRest rom page above).pwr = { s.pwr with runtime := r, pilot := p, stoppedAt := n } := by
  obtain ⟨r, hr⟩ := startCores_pwr s
  unfold State.startRest
  split
  · exact ⟨s.pwr.runtime, s.pwr.pilot, 3, rfl⟩
  split
  · exact ⟨r, s.pwr.pilot, 4, by rw [State.stopAt, State.onPwr_pwr, hr]⟩
  · obtain ⟨p, n, hp⟩ := startPage_pwr s.startCores page above
    exact ⟨r, p, n, by rw [hp, hr]⟩

/-- A start leaves what a detection has taken as it is after row 3. -/
theorem startRest_sec (s : State) (page : Nat) (above : List Nat) :
    (s.startRest true page above).sec = s.startCores.sec := by
  cases h : s.startCores.pwr.runtime with
  | false => rw [startRest_of_no_runtime h]; rfl
  | true => rw [startRest_of_runtime h, startPage_sec]

/-- The image that a start finds good in `s` is good after rows 1 and 2. -/
theorem started_imageGood (s : State) (addr : Nat) (housing : Int) (down : Nat) (i : Fin 2) :
    (s.started addr housing down).imageGood i = s.imageGood i := by
  simp only [State.imageGood, started_sec]

theorem imageGood_iff {i : Fin 2} :
    s.imageGood i = true ↔ s.sec.images[i].ok = true ∧ s.sec.rbFloor ≤ s.sec.images[i].version := by
  simp only [State.imageGood, Bool.and_eq_true, decide_eq_true_eq]

/-- With a good image and no detection that waits, rows 3 and 4 start the runtime and change nothing else of the supplies'
state. -/
theorem startCores_started {i : Fin 2} (ht : s.sec.tampPend = none)
    (hi : s.sec.images[i].ok = true ∧ s.sec.rbFloor ≤ s.sec.images[i].version) :
    let t := s.started addr housing down
    t.startCores.pwr = { t.pwr with runtime := true } ∧ Keep [.sys, .log, .sec, .pwr, .mon] s t.startCores := by
  have ht' : (s.started addr housing down).sec.tampPend = none := by rw [started_sec]; exact ht
  obtain ⟨j, hj⟩ := pickImage_isSome ((started_imageGood s addr housing down i).trans (imageGood_iff.mpr hi))
  dsimp only
  rw [startCores_of_image ht' hj]
  exact ⟨rfl, onPwr_keep _ _ (onSec_keep _ _ (started_keep s addr housing down rfl)
    (fun x => ⟨fun _ => Nat.le_refl _, Nat.le_refl _, Nat.le_refl _⟩) rfl) rfl⟩

end

/-- Every part that a start can change. -/
abbrev startParts : List Part :=
  [.sys, .ports, .sol, .log, .rcp, .sec, .pwr, .tmb, .gns, .hie, .mon, .cal, .fan, .eng, .sct, .can, .hl, .apu, .dma, .seq]

/-- Settles O49: each cause is one `State.chipReset`, and a start from off is `State.started` and `State.startRest`. -/
theorem resetsAndTheStart : Obligations.ResetsAndTheStart := by
  refine ⟨fun s h => ?pll, fun p s h => ?lockstep, fun p s h => ?watchdog, fun s h => ?brownout, fun p s h => ?notRunning,
    fun s h => ?sleeping, fun k s h => ?restart, fun k s h => ?restartRefused, fun s => ?d0Lost,
    fun a r pg h n w s hs => ?startRun, fun a r pg h n w s hs => ?startOff, fun a r pg h n w s hs hr => ?row3,
    fun a r pg h n w s hs hr ht hrt hi => ?row4, fun c a r pg h n w s hs hr ht => ?tamper,
    fun i a r pg h n w s hs hr ht hi hp => ?row5, fun i a r pg h n w s hs hr ht hi hp hpi => ?recipe⟩
  case pll =>
    exact ⟨_, exec_pllLoss_run h, rfl, (chipReset_resets s .pllLoss 0).clauses⟩
  case lockstep =>
    exact ⟨_, exec_lockstepMismatch_run p h, rfl, (chipReset_resets s .lockstep (p % 16)).clauses⟩
  case watchdog =>
    exact ⟨_, exec_watchdog_run p h, rfl, (chipReset_resets s .watchdog (p % 16)).clauses⟩
  case brownout =>
    exact ⟨_, exec_brownout_run h, rfl, rfl, rfl, (tripOff_resets (chipReset_resets s .brownout 0)).clauses⟩
  case notRunning =>
    have hif : ∀ t : State, (Host.Outcome.next (if s.pwr.phase = .run then t else s) : Out) = .next s :=
      fun t => congrArg Host.Outcome.next (if_neg h)
    exact ⟨s, s, s, hif _, hif _, hif _, rfl, rfl, rfl⟩
  case sleeping =>
    exact ⟨_, exec_brownout_sleep h, rfl, (onPwr_keep s _ (.refl s) rfl : Keep [.pwr] s _).toOnly⟩
  case restart =>
    exact ⟨_, congrArg Host.Outcome.next (cmdRestart_of_ok h), answer_answers s _ _,
      (chipReset_resets (s.answer (s.me k) .ok) .commanded 0).of_answered.clauses⟩
  case restartRefused =>
    exact ⟨_, congrArg Host.Outcome.next (cmdRestart_of_refused h), rfl, (answer_keep s _ _ (.refl s) rfl).toOnly⟩
  case d0Lost =>
    obtain ⟨t, ht, hk⟩ := execD0SupplyLost_keep s (.refl s : Keep [.sec, .pwr, .tmb] s s) rfl
    obtain rfl := Host.Outcome.next.inj ht
    exact ⟨_, rfl, rfl, rfl, rfl, rfl, rfl, rfl, rfl, rfl, rfl, rfl, rfl, hk.toOnly⟩
  case startRun =>
    exact ⟨s, exec_start_run hs, rfl⟩
  case startOff =>
    have he := exec_start_off (rom := r) (page := pg) (housing := h) (down := n) (above := w) (addr := a) hs
    have hk := next_only (execStart_keep a r pg h n w s (.refl s : Keep startParts s s) rfl) he
    obtain ⟨hph, hla, hd, -⟩ := started_pwr s a h n
    obtain ⟨rt, pi, row, hp⟩ := startRest_pwr (s.started a h n) r pg w
    refine ⟨_, he, ?_⟩
    rw [hp]
    exact ⟨hph, started_fresh, fun k v d hd0 hw hl => started_latched hd0 hw hl, hla, hd, hk⟩
  case row3 =>
    subst hr
    obtain ⟨-, -, -, -, hrt, hpi⟩ := started_pwr s a h n
    obtain ⟨haddr, hhous⟩ := started_straps s a h n
    exact ⟨_, exec_start_off hs, rfl, hrt, hpi, started_cycle s a h n, haddr, hhous,
      (stopAt_keep _ 3 (started_keep s a h n rfl) rfl).toOnly⟩
  case row4 =>
    subst hr
    obtain ⟨-, -, -, -, hrt', hpi⟩ := started_pwr s a h n
    have ht' : (s.started a h n).sec.tampPend = none := by rw [started_sec]; exact ht
    have hnone : (s.started a h n).pickImage = none := pickImage_eq_none fun i => by
      rw [started_imageGood, Bool.eq_false_iff]
      exact fun hg => hi i (imageGood_iff.mp hg)
    have hsame := startCores_of_no_image ht' hnone
    have hrest : (s.started a h n).startRest true pg w = (s.started a h n).stopAt 4 := by
      rw [startRest_of_no_runtime] <;> rw [hsame]
      exact hrt'.trans hrt
    refine ⟨_, exec_start_off hs, ?_⟩
    rw [hrest]
    exact ⟨rfl, hrt'.trans hrt, hpi, (stopAt_keep _ 4 (started_keep s a h n rfl) rfl).toOnly⟩
  case tamper =>
    subst hr
    have he := exec_start_off (rom := true) (page := pg) (housing := h) (down := n) (above := w) (addr := a) hs
    have hk := next_only (execStart_keep a true pg h n w s (.refl s : Keep startParts s s) rfl) he
    have ht' : (s.started a h n).sec.tampPend = some c := by rw [started_sec]; exact ht
    refine ⟨_, he, ?_⟩
    rw [startRest_sec]
    obtain ⟨hroot, hold, hrot, hpend⟩ := startCores_of_tamper ht'
    exact ⟨hroot, hold, hrot, hpend, hk⟩
  case row5 =>
    subst hr
    obtain ⟨-, -, -, -, -, hpi⟩ := started_pwr s a h n
    obtain ⟨hpwr, hkeep⟩ := startCores_started (addr := a) (housing := h) (down := n) ht hi
    refine ⟨_, exec_start_off hs, ?_⟩
    rw [startRest_of_runtime (by rw [hpwr]), startPage_pwr_of_failed hp, hpwr]
    exact ⟨rfl, rfl, hpi, (startPage_keep_of_failed hp hkeep rfl).toOnly⟩
  case recipe =>
    subst hr
    have he := exec_start_off (rom := true) (page := pg) (housing := h) (down := n) (above := w) (addr := a) hs
    have hk := next_only (execStart_keep a true pg h n w s (.refl s : Keep startParts s s) rfl) he
    obtain ⟨-, -, -, hstop, -, hpi'⟩ := started_pwr s a h n
    obtain ⟨hpwr, hkeep⟩ := startCores_started (addr := a) (housing := h) (down := n) ht hi
    obtain ⟨happ, hiff, hrow⟩ := startPage_pilot (s := (s.started a h n).startCores) w hp
      (by rw [hpwr]; exact hpi'.trans hpi) (by rw [hpwr]; exact hstop)
    obtain ⟨p, row, hpage⟩ := startPage_pwr (s.started a h n).startCores pg w
    have hcal : (s.started a h n).startCores.cal = s.cal := hkeep.only .cal (by decide)
    refine ⟨_, he, ?_⟩
    rw [startRest_of_runtime (by rw [hpwr])] at hk ⊢
    exact ⟨by rw [startPage_cal w hp, hcal], by rw [hpage, hpwr], happ, hiff, hrow, hk⟩

end Sys2Proof.Machine
end

section
/-! SUPPORT. What forced values and completions leave of the hierarchy's state: Q14 alone can change. -/

namespace Sys2Proof.Machine

open Sys2Proof

/-- From `s` to `t` nothing of the hierarchy's state has changed but the messages that wait in Q14. -/
def HieKept (s t : State) : Prop := ∃ q, t.hie = { s.hie with q14 := q }

theorem HieKept.refl (s : State) : HieKept s s := ⟨s.hie.q14, rfl⟩

theorem HieKept.congr {s t u : State} (h : HieKept s t) (e : u.hie = t.hie) : HieKept s u := by
  obtain ⟨q, h⟩ := h
  exact ⟨q, e.trans h⟩

theorem HieKept.trans {s t u : State} (h : HieKept s t) (h' : HieKept t u) : HieKept s u := by
  obtain ⟨q, h⟩ := h
  obtain ⟨q', h'⟩ := h'
  exact ⟨q', by rw [h', h]⟩

theorem HieKept.orph {s t : State} (h : HieKept s t) : t.hie.orph = s.hie.orph := by
  obtain ⟨q, h⟩ := h
  rw [h]

theorem HieKept.q10 {s t : State} (h : HieKept s t) : t.hie.q10 = s.hie.q10 := by
  obtain ⟨q, h⟩ := h
  rw [h]

theorem HieKept.ite {s t u : State} {c : Prop} [Decidable c] (h : HieKept s t) (h' : HieKept s u) :
    HieKept s (if c then t else u) := by
  split
  · exact h
  · exact h'

theorem HieKept.foldl {α : Type} {s t : State} {f : State → α → State} (l : List α) (h : HieKept s t)
    (hf : ∀ u a, HieKept u (f u a)) : HieKept s (l.foldl f t) := by
  induction l generalizing t with
  | nil => exact h
  | cons a l ih => exact ih (h.trans (hf t a))

/-! ### Answers -/

theorem send_hieKept (s : State) (c d : Nat) (b : List Byte) : HieKept s (s.send c d b).1 := by
  unfold State.send
  split
  · exact ⟨_, rfl⟩
  · exact .refl s

theorem answer_hieKept (s : State) (src : Src) (st : Status) : HieKept s (s.answer src st) := by
  have hcount : HieKept s (if st = .interlock then s.count 0x06 1 else s) :=
    .ite (.congr (.refl s) (State.count_hie s _ _)) (.refl s)
  unfold State.answer
  cases src with
  | hier l i p n a => exact hcount.trans (send_hieKept _ _ _ _)
  | _ => exact hcount

theorem complete_hieKept (s : State) (src : Option Src) (st : Status) : HieKept s (s.complete src st) := by
  unfold State.complete
  split
  · exact .refl s
  · exact .refl s
  · exact .refl s
  · exact answer_hieKept s _ st

theorem dropPend_hieKept (s : State) (p : PortId) (st : Status) : HieKept s (s.dropPend p st) := by
  unfold State.dropPend
  split
  · exact .refl s
  · exact (HieKept.congr (.refl s) (setSol_hie s p _)).trans (complete_hieKept _ _ st)

theorem endActive_hieKept (s : State) (p : PortId) (st : Status) : HieKept s (s.endActive p st) :=
  (HieKept.congr (.refl s) (setSol_hie s p _)).trans (complete_hieKept _ _ st)

/-! ### Profiles (R66 to R78) -/

theorem endProfile_hieKept (s : State) (p : PortId) (st : Status) : HieKept s (s.endProfile p st) := by
  have hfin : HieKept s ((s.finishOpen p none true).finishClose p none true) :=
    .congr (.refl s) (by rw [finishClose_hie, finishOpen_hie])
  have hend := (hfin.trans (endActive_hieKept _ p st)).trans (dropPend_hieKept _ p st)
  exact hend.congr (by rw [State.endProfile, enterPhase_hie, setSol_hie])

theorem freshHit_hieKept (s : State) (p : PortId) (src : Src) (dur : Nat) (keep : Option (Option Nat)) :
    HieKept s (s.freshHit p src dur keep).1 := by
  unfold State.freshHit
  dsimp only
  split
  · exact .refl s
  · have hshow : HieKept s (if s.sol.ports[p].hitref then
        s.solEmit 0x0603 p (shown 93 (s.sol.ports[p].tcu * 1000)) (shown 93 (s.sol.ports[p].th * 1000)) else s) :=
      .ite (.congr (.refl s) (emit_hie _ _)) (.refl s)
    generalize (if s.sol.ports[p].hitref = true then
        s.solEmit 0x0603 p (shown 93 (s.sol.ports[p].tcu * 1000)) (shown 93 (s.sol.ports[p].th * 1000)) else s) = u
      at hshow ⊢
    have hdrop := hshow.trans (dropPend_hieKept _ p .superseded)
    split
    · exact hdrop.congr ((State.onSol_hie _ _).trans (setSol_hie _ _ _))
    split
    · refine hdrop.congr ((onGroup_hie _ _ _).trans ((State.count_hie _ _ _).trans ?_))
      exact (State.onSol_hie _ _).trans (setSol_hie _ _ _)
    · exact hdrop.congr (startHit_hie _ _ _ _ _)

theorem solOn_hieKept (s : State) (p : PortId) (src : Src) (dur : Nat) (keep : Option (Option Nat)) :
    HieKept s (s.solOn p src dur keep).1 := by
  have hlater : HieKept s (if src == Src.forced then s else s.dropPend p .superseded) :=
    .ite (.refl s) (dropPend_hieKept s p _)
  have hclose : HieKept s ((s.finishClose p none true).dropPend p .superseded) :=
    (HieKept.congr (.refl s) (finishClose_hie _ _ _ _)).trans (dropPend_hieKept _ p _)
  unfold State.solOn
  dsimp only
  split
  · exact freshHit_hieKept s p src dur keep
  · exact hlater.congr (setSol_hie _ _ _)
  · exact hlater.congr (setSol_hie _ _ _)
  · exact hlater.congr (setSol_hie _ _ _)
  · split
    · exact hclose.congr ((toHold_hie _ _).trans (setSol_hie _ _ _))
    · exact freshHit_hieKept s p src dur keep

theorem solOff_hieKept (s : State) (p : PortId) (src : Src) : HieKept s (s.solOff p src).1 := by
  have hdrop := dropPend_hieKept s p .superseded
  unfold State.solOff
  dsimp only
  split
  · exact hdrop.congr (setSol_hie _ _ _)
  · exact hdrop.congr (setSol_hie _ _ _)
  · exact hdrop.congr ((setSol_hie _ _ _).trans (setSol_hie _ _ _))
  · exact hdrop.congr ((toRelease_hie _ _).trans (setSol_hie _ _ _))
  · exact hdrop.congr ((toRelease_hie _ _).trans (setSol_hie _ _ _))

/-! ### Forced values (R20, R77) -/

theorem solForceOff_hieKept (s : State) (p : PortId) : HieKept s (s.solForceOff p) := by
  have hend := ((HieKept.congr (.refl s) (finishOpen_hie s p none true)).trans (endActive_hieKept _ p .interlock)).trans
    (dropPend_hieKept _ p .interlock)
  unfold State.solForceOff
  dsimp only
  split
  · exact hend.congr (toRelease_hie _ _)
  · exact hend

theorem solForceOn_hieKept (s : State) (p : PortId) : HieKept s (s.solForceOn p) := by
  unfold State.solForceOn
  split
  · split
    · exact solOn_hieKept s p _ _ _
    · exact .congr (.refl s) (setSol_hie _ _ _)
  · exact solOn_hieKept s p _ _ _

theorem solForceRelease_hieKept (s : State) (p : PortId) : HieKept s (s.solForceRelease p) := by
  cases hd : s.sol.ports[p].pend with
  | none =>
    simp only [State.solForceRelease, hd]
    split
    · exact .refl s
    · exact .ite (solOn_hieKept s p _ _ _) (solOff_hieKept s p _)
    · exact solOff_hieKept s p _
  | some d =>
    have hset : ∀ f, HieKept s (s.setSol p f) := fun f => .congr (.refl s) (setSol_hie _ _ _)
    simp only [State.solForceRelease, hd]
    split
    · exact hset _
    · exact .ite ((hset _).trans (solOn_hieKept _ p _ _ _)) ((hset _).trans (solOff_hieKept _ p _))
    · exact (hset _).trans (solOff_hieKept _ p _)

theorem forceSol_hieKept (s : State) (p : PortId) (o : Option Forced) : HieKept s (s.forceSol p o) := by
  unfold State.forceSol
  split
  · exact solForceOff_hieKept s p
  · exact solForceOn_hieKept s p
  · exact solForceRelease_hieKept s p

theorem headForceOff_hieKept (s : State) (p : PortId) : HieKept s (s.headForceOff p) :=
  (HieKept.foldl _ (.refl s) fun u q => endProfile_hieKept u q .interlock).congr
    ((settle_hie _ _).trans (setSol_hie _ _ _))

theorem forceHead_hieKept (s : State) (p : PortId) (o : Option Forced) : HieKept s (s.forceHead p o) := by
  unfold State.forceHead
  split
  · exact headForceOff_hieKept s p
  · exact .congr (.refl s) ((settle_hie _ _).trans (setSol_hie _ _ _))
  · exact .congr (.refl s) ((settle_hie _ _).trans (setSol_hie _ _ _))

theorem applyForced_hieKept (s : State) (p : PortId) : HieKept s (s.applyForced p) := by
  have hset : ∀ f, HieKept s (s.setPorts (s.members p) f) := fun f => .congr (.refl s) (setPorts_hie _ _ _)
  unfold State.applyForced
  dsimp only
  split
  · exact .refl s
  split
  · exact ((hset _).trans (forceSol_hieKept _ p _)).congr (settle_hie _ _)
  split
  · exact (hset _).trans (forceHead_hieKept _ p _)
  · exact (hset _).congr (settle_hie _ _)

theorem applyAllForced_hieKept (s : State) : HieKept s s.applyAllForced :=
  HieKept.foldl _ (.refl s) applyForced_hieKept

end Sys2Proof.Machine
end

section
/-! SUPPORT. The interlock matrix, flags, orphan ramps and timed commands. -/

namespace Sys2Proof.Machine

open Sys2Proof

/-! ### An input change that moves no forced value (R20, R22, R286) -/

theorem applyForced_of_same {s : State} {p : PortId} (h : s.ports[p].forced = s.forcedAt p) : s.applyForced p = s :=
  if_pos h

/-- A fold whose every step leaves the state as it is. -/
theorem foldl_of_fixed {α : Type} {f : State → α → State} {s : State} (h : ∀ a, f s a = s) (l : List α) :
    l.foldl f s = s := by
  induction l with
  | nil => rfl
  | cons a l ih => rw [List.foldl_cons, h a, ih]

theorem applyAllForced_of_same {s : State} (h : ∀ p : PortId, s.ports[p].forced = s.forcedAt p) : s.applyAllForced = s :=
  foldl_of_fixed (fun p => applyForced_of_same (h p)) _

theorem orphPresent_of_not_orphan {s : State} (h : s.hie.orphan = false) : s.orphPresent = s := by
  simp only [State.orphPresent, h, Bool.not_false, if_true]

theorem interlock_of_same {s : State} (ho : s.hie.orphan = false)
    (h : ∀ p : PortId, s.ports[p].forced = s.matrix.forcedAt p) : s.interlock = s.matrix := by
  rw [State.interlock, applyAllForced_of_same (s := s.matrix) h]
  exact orphPresent_of_not_orphan ho

/-! ### Flags (R237) -/

/-- The state with other frames sent. -/
def State.withSent (s : State) (l : List (Side × Frame)) : State := s.onHie fun h => { h with sent := l }

/-- What a frame put on a link changes is the list of frames sent. -/
theorem transmit_eq (s : State) (d : Side) (f : Frame) : ∃ l, s.transmit d f = s.withSent l := by
  unfold State.transmit
  split
  · exact ⟨_, rfl⟩
  · exact ⟨s.hie.sent, rfl⟩

theorem transmit_sent {s : State} {d : Side} {f : Frame} (hu : s.linkUsed d = true) (hf : (s.link d).failed = false) :
    (s.transmit d f).hie.sent = (d, f) :: s.hie.sent := by
  simp only [State.transmit, hu, hf, Bool.not_false, Bool.or_true, Bool.and_self, if_true, State.onHie_hie]

/-- The value of a flag that this device originates, from its source. -/
def State.flagValue (s : State) (k : FlagId) : Bool := s.boolSrc (bits (s.xfWord k) 0 11)

/-- The flag takes its value. -/
def State.flagTaken (s : State) (k : FlagId) : State := s.setFlag k fun x => { x with val := s.flagValue k }

/-- The FLAG frame of a flag. -/
def State.flagFrame (s : State) (k : FlagId) : Frame := .flag s.sys.addr k.val (s.flagValue k)

theorem exec_flagSend {s : State} {k : FlagId} (hu : s.xfUsed k = true) (ho : s.xfOrig k = s.sys.addr) :
    exec (.flagSend k) s =
      .next (((s.flagTaken k).transmit false (s.flagFrame k)).transmit true (s.flagFrame k)) := by
  change execFlagSend k s = _
  simp only [execFlagSend, hu, ho, beq_self_eq_true, Bool.and_self, if_true]
  rfl

/-! ### Orphan ramps (R246) -/

theorem foldl_upd_get {α : Type} {n : Nat} (g : Fin n → α → α) {l : List (Fin n)} (hl : l.Nodup) (v : Vector α n)
    (q : Fin n) : (l.foldl (fun v p => upd v p (g p)) v)[q] = if q ∈ l then g q v[q] else v[q] := by
  induction l generalizing v with
  | nil => rfl
  | cons p l ih =>
    obtain ⟨hp, hl⟩ := List.nodup_cons.mp hl
    rw [List.foldl_cons, ih hl, upd_get]
    by_cases hq : p = q
    · subst hq
      simp [hp]
    · simp [hq, Ne.symm hq]

/-- Each of the entries of a vector replaced once. -/
theorem foldl_upd_idx {α : Type} {n : Nat} (g : Fin n → α → α) (v : Vector α n) (q : Fin n) :
    ((idx n).foldl (fun v p => upd v p (g p)) v)[q] = g q v[q] :=
  (foldl_upd_get g (List.nodup_finRange n) v q).trans (if_pos (List.mem_finRange q))

/-- A duty one step nearer to `v`, by `r` (R246). -/
def stepTowards (v r d : Nat) : Nat := if d ≤ v then min v (d + r) else max v (d - r)

/-- One ramp step of the orphan action of port `p`. -/
def State.rampOf (s : State) (p : PortId) (o : Orphaned) : Orphaned :=
  if o.acts && s.orphAct p == 3 then { o with duty := stepTowards (s.rampV p) (s.rampR p) o.duty } else o

/-- Port `p` takes its ramp step. -/
def State.rampPort (s : State) (p : PortId) : State :=
  if s.hie.orph[p].acts && s.orphAct p == 3 then
    s.onHie fun h => { h with orph := upd h.orph p fun o =>
      { o with duty := stepTowards (s.rampV p) (s.rampR p) s.hie.orph[p].duty } }
  else s

/-- The state with other orphan actions. -/
def State.withOrph (s : State) (v : Vector Orphaned 32) : State := s.onHie fun h => { h with orph := v }

theorem rampPort_withOrph (s : State) (v : Vector Orphaned 32) (p : PortId) :
    (s.withOrph v).rampPort p = s.withOrph (upd v p (s.rampOf p)) := by
  cases hc : v[p].acts && s.orphAct p == 3 with
  | true =>
    have hramp : s.rampOf p v[p] = { v[p] with duty := stepTowards (s.rampV p) (s.rampR p) v[p].duty } := if_pos hc
    refine (if_pos hc).trans (congrArg s.withOrph ?_)
    rw [upd, upd, hramp]
    rfl
  | false =>
    have hramp : s.rampOf p v[p] = v[p] := if_neg (Bool.eq_false_iff.mp hc)
    refine (if_neg (Bool.eq_false_iff.mp hc)).trans (congrArg s.withOrph ?_)
    rw [upd, hramp]
    simp

theorem foldl_rampPort_withOrph (s : State) (l : List PortId) (v : Vector Orphaned 32) :
    l.foldl State.rampPort (s.withOrph v) = s.withOrph (l.foldl (fun v p => upd v p (s.rampOf p)) v) := by
  induction l generalizing v with
  | nil => rfl
  | cons p l ih => rw [List.foldl_cons, List.foldl_cons, rampPort_withOrph, ih]

/-- Every port's ramp step. -/
def State.rampAll (s : State) : State :=
  s.withOrph ((idx 32).foldl (fun v p => upd v p (s.rampOf p)) s.hie.orph)

theorem rampAll_orph (s : State) (p : PortId) : s.rampAll.hie.orph[p] = s.rampOf p s.hie.orph[p] :=
  foldl_upd_idx s.rampOf s.hie.orph p

theorem withOrph_q10 (s : State) (v : Vector Orphaned 32) : (s.withOrph v).hie.q10 = s.hie.q10 := rfl

theorem exec_orphanRampStep {s : State} (h : s.hie.orphan = true) :
    exec .orphanRampStep s = .next s.rampAll.applyAllForced := by
  have hfold : (idx 32).foldl State.rampPort s = s.rampAll := foldl_rampPort_withOrph s (idx 32) s.hie.orph
  rw [← hfold]
  change execOrphanRampStep s = _
  simp only [execOrphanRampStep, h, Bool.not_true, Bool.false_eq_true, if_false]
  rfl

/-! ### Timed commands (R19) -/

/-- Entry `i` of Q10 without its command. -/
def State.dropEntry (s : State) (i : EntryId) : State := s.setEntry i fun e => { e with cmd := none }

theorem dropEntry_same (s : State) (i : EntryId) :
    (s.dropEntry i).hie.q10[i] = { s.hie.q10[i] with cmd := none } := upd_same _ _ _

theorem dropEntry_other (s : State) {i j : EntryId} (h : j ≠ i) : (s.dropEntry i).hie.q10[j] = s.hie.q10[j] :=
  upd_other _ _ _ _ h.symm

/-- Checks 2 and 4 of a timed command at its execution instant. -/
def State.recheck (s : State) (c : Timed) : Status := if c.on then s.recheckOn c.port else s.recheckOff c.port

theorem dropEntry_recheck (s : State) (i : EntryId) (c : Timed) : (s.dropEntry i).recheck c = s.recheck c := rfl

section
variable {s : State} {i : EntryId} {c : Timed}

theorem exec_timed_runs (hc : s.hie.q10[i].cmd = some c) (hr : s.recheck c = .ok) :
    exec (.timedCommandExecute i) s = .next ((s.dropEntry i).timedRun c) := by
  have hr' : (if c.on then (s.dropEntry i).recheckOn c.port else (s.dropEntry i).recheckOff c.port) = .ok := hr
  change execTimedCommandExecute i s = _
  simp only [execTimedCommandExecute, hc]
  rw [State.dropEntry] at hr'
  simp only [hr']
  rfl

theorem exec_timed_refused (hc : s.hie.q10[i].cmd = some c) (hr : s.recheck c ≠ .ok) :
    exec (.timedCommandExecute i) s = .next (((s.dropEntry i).count 0x05 1).timedDone c (s.recheck c) false false) := by
  change execTimedCommandExecute i s = _
  simp only [execTimedCommandExecute, hc]
  split
  · next h => exact absurd h hr
  · rfl

/-- A timed ON of a digital output that runs switches the group and completes. -/
theorem timedRun_of_output (hon : c.on = true) (hf : isOutFunc (s.func c.port) = true) :
    (s.timedRun c).ports = (s.switchGroup c.port (.turnOn (s.durEndOf c.dur))).ports ∧ HieKept s (s.timedRun c) := by
  have hact : (if c.on then s.actOn c.port c.ranSrc c.dur else s.actOff c.port c.ranSrc) =
      (s.switchGroup c.port (.turnOn (s.durEndOf c.dur)), .ok, true) := by rw [if_pos hon, actOn_of_output hf]
  have hswitch : HieKept s ((s.switchGroup c.port (.turnOn (s.durEndOf c.dur))).count 0x04 1) :=
    .congr (.refl s) ((State.count_hie _ _ _).trans (switchGroup_hie _ _ _))
  unfold State.timedRun
  rw [hact]
  dsimp only
  rw [if_pos rfl]
  refine ⟨(answer_ports _ _ _).trans ?_, .trans ?_ (answer_hieKept _ _ _)⟩
  · split
    · exact State.count_ports _ _ _
    · exact (State.count_ports _ _ _).trans (State.count_ports _ _ _)
    · exact State.count_ports _ _ _
  · split
    · exact hswitch.congr rfl
    · exact hswitch.congr (State.count_hie _ _ _)
    · exact hswitch

theorem sectRefused_hie (s : State) (j : SectId) (on : Bool) (st : Status) : (s.sectRefused j on st).hie = s.hie :=
  emit_hie _ _

/-- The completion of a timed command that was not accepted touches no port, and of the hierarchy Q14 alone. -/
theorem timedDone_refused (s : State) (c : Timed) (st : Status) :
    (s.timedDone c st false false).ports = s.ports ∧ HieKept s (s.timedDone c st false false) := by
  refine ⟨(timedDone_keep s c st false false (.refl s) rfl : Keep [.sys, .log, .hie, .mon, .sct] s _).only .ports
    (by decide), ?_⟩
  unfold State.timedDone
  split
  · exact (HieKept.congr (.refl s) (sectRefused_hie s _ _ _)).trans (answer_hieKept _ _ _)
  · exact answer_hieKept _ _ _

/-- What keeps all but Q14 after an entry of Q10 has lost its command leaves Q10 so. -/
theorem HieKept.dropped {t : State} (h : HieKept (s.dropEntry i) t) :
    t.hie.q10[i] = { s.hie.q10[i] with cmd := none } ∧ ∀ j, j ≠ i → t.hie.q10[j] = s.hie.q10[j] := by
  rw [h.q10]
  exact ⟨dropEntry_same s i, fun j hj => dropEntry_other s hj⟩

end

/-- The parts that a timed command can change. -/
abbrev timedParts : List Part := [.sys, .ports, .sol, .log, .hie, .mon, .sct]

/-- Settles O45: forced values and completions change of the hierarchy's state Q14 alone (`HieKept`), so flags, orphan
actions and Q10 are what the command itself makes of them. -/
theorem rulesFlagsAndTimedCommandsAct : Obligations.RulesFlagsAndTimedCommandsAct := by
  refine ⟨fun s ho hf => ?inputChange, fun k s hu ho => ?flag, fun s ho => ?ramp, fun i c s hc hon hr hf => ?runs,
    fun i c s hc hr => ?refused⟩
  case inputChange =>
    exact ⟨_, congrArg Host.Outcome.next (interlock_of_same ho hf), rfl, (matrix_keep s (.refl s) rfl).toOnly⟩
  case flag =>
    have he := exec_flagSend hu ho
    have hk := next_only (execFlagSend_keep k s (.refl s : Keep [.hie] s s) rfl) he
    obtain ⟨l, hup⟩ := transmit_eq (s.flagTaken k) false (s.flagFrame k)
    obtain ⟨l', hdown⟩ := transmit_eq ((s.flagTaken k).withSent l) true (s.flagFrame k)
    refine ⟨_, he, ?_, fun j hj => ?_, fun hl hd => ?_, hk⟩ <;> rw [hup]
    · rw [hdown]
      exact upd_same _ _ _
    · rw [hdown]
      exact upd_other _ _ _ _ hj.symm
    · have hl' : ((s.flagTaken k).withSent l).linkUsed true = true := hl
      have hd' : (((s.flagTaken k).withSent l).link true).failed = false := hd
      rw [transmit_sent hl' hd']
      rfl
  case ramp =>
    have he := exec_orphanRampStep ho
    have hk := next_only (execOrphanRampStep_keep s (.refl s : Keep [.sys, .ports, .sol, .log, .hie, .mon] s s) rfl) he
    have hkept := applyAllForced_hieKept s.rampAll
    refine ⟨_, he, fun p => ?_, hkept.q10.trans (withOrph_q10 s _), hk⟩
    rw [hkept.orph]
    exact rampAll_orph s p
  case runs =>
    have he := exec_timed_runs hc ((if_pos hon).trans hr)
    have hk := next_only (execTimedCommandExecute_keep i s (.refl s : Keep timedParts s s) rfl) he
    obtain ⟨hports, hkept⟩ := timedRun_of_output (s := s.dropEntry i) hon hf
    refine ⟨_, he, fun q hq => ?_, fun q hq => ?_, hkept.dropped.1, hkept.dropped.2, hk⟩
    · rw [hports]
      exact switchGroup_member (s := s.dropEntry i) (P := fun x => x.outOn = true ∧ x.durEnd = s.durEndOf c.dur)
        (fun _ _ => ⟨rfl, rfl⟩) hq
    · rw [hports]
      exact switchGroup_other (s := s.dropEntry i) _ hq
  case refused =>
    have he := exec_timed_refused hc hr
    have hk := next_only (execTimedCommandExecute_keep i s (.refl s : Keep timedParts s s) rfl) he
    obtain ⟨hports, hkept⟩ := timedDone_refused ((s.dropEntry i).count 0x05 1) c (s.recheck c)
    have hall := (HieKept.congr (.refl _) (State.count_hie (s.dropEntry i) 0x05 1)).trans hkept
    exact ⟨_, he, hports.trans (State.count_ports _ _ _), hall.dropped.1, hall.dropped.2, hk⟩

end Sys2Proof.Machine
end

section
/-! SUPPORT. The protection of the drive ports. -/

namespace Sys2Proof.Machine

open Sys2Proof

/-! ### What the end of a profile leaves of the ports -/

/-- From `s` to `t` no port has changed but in STATE. -/
def StatusOnly (s t : State) : Prop := ∀ q : PortId, ∃ st, t.ports[q] = { s.ports[q] with status := st }

theorem StatusOnly.refl (s : State) : StatusOnly s s := fun q => ⟨s.ports[q].status, rfl⟩

theorem StatusOnly.trans {s t u : State} (h : StatusOnly s t) (h' : StatusOnly t u) : StatusOnly s u := fun q => by
  obtain ⟨st, hst⟩ := h q
  obtain ⟨st', hst'⟩ := h' q
  exact ⟨st', by rw [hst', hst]⟩

theorem StatusOnly.congr {s t u : State} (h : StatusOnly s t) (e : u.ports = t.ports) : StatusOnly s u := fun q => by
  rw [e]
  exact h q

theorem StatusOnly.ite {s t u : State} {c : Prop} [Decidable c] (h : StatusOnly s t) (h' : StatusOnly s u) :
    StatusOnly s (if c then t else u) := by
  split
  · exact h
  · exact h'

theorem StatusOnly.foldl {α : Type} {s t : State} {f : State → α → State} (l : List α) (h : StatusOnly s t)
    (hf : ∀ u a, StatusOnly u (f u a)) : StatusOnly s (l.foldl f t) := by
  induction l generalizing t with
  | nil => exact h
  | cons a l ih => exact ih (h.trans (hf t a))

theorem settle_statusOnly (s : State) (p : PortId) : StatusOnly s (s.settle p) := fun q => by
  obtain ⟨st, hst, -⟩ := settle_get s p q
  exact ⟨st, hst⟩

theorem headFollows_statusOnly (s : State) (p : PortId) : StatusOnly s (s.headFollows p) :=
  .ite ((StatusOnly.congr (.refl s) (setSol_ports s _ _)).trans (settle_statusOnly _ _)) (.refl s)

theorem enterPhase_statusOnly (s : State) (p : PortId) (ph : Phase) (tick : Nat) :
    StatusOnly s (s.enterPhase p ph tick) := by
  have hphase : StatusOnly s ((s.setSol p fun x =>
      { x with phase := ph, since := tick, windowDirty := ph != .hold }).dirtyMates p) :=
    .congr (.refl s) ((dirtyMates_ports _ _).trans (setSol_ports s _ _))
  exact (hphase.trans (settle_statusOnly _ p)).trans (headFollows_statusOnly _ p)

theorem endProfile_statusOnly (s : State) (p : PortId) (st : Status) : StatusOnly s (s.endProfile p st) := by
  unfold State.endProfile
  dsimp only
  refine .trans (.congr (.refl s) ?_) (enterPhase_statusOnly _ p .idle _)
  simp only [setSol_ports, dropPend_ports, endActive_ports, finishClose_ports, finishOpen_ports]

/-! ### A group that enters its fault state (R59) -/

/-- A port with its output off and a duty of 0. -/
def Port.stop (x : Port) : Port := { x with outOn := false, durEnd := none, duty := 0 }

/-- A port in FAULT_RETRY, or in FAULT_LATCHED and disabled when no retry is left. -/
def Port.toFault (retry : Bool) (x : Port) : Port :=
  { x with status := if retry then .retry else .latched, retryWatch := false,
           enabled := if retry then x.enabled else false, awaitCarrier := false }

/-- A retry is left to the group of lead `l`; `latch` leaves none. -/
def State.retryLeft (s : State) (l : PortId) (latch : Bool) : Bool :=
  !latch && s.retries l != 0 && decide (s.ports[l].retryCnt < s.retries l)

/-- Stopping a group ends its profiles, which change STATE alone, and then switches every member off. -/
theorem faultStop_eq (s : State) (p : PortId) :
    ∃ u, s.faultStop p = u.setPorts (s.members p) .stop ∧ StatusOnly s u := by
  have hstop : ∃ u, s.faultStop p = u.setPorts (u.members p) .stop ∧ StatusOnly s u := by
    refine ⟨_, rfl, ?_⟩
    have hsol : StatusOnly s (if isSolFunc (s.func p) then s.endProfile p .faulted else s) :=
      .ite (endProfile_statusOnly s p .faulted) (.refl s)
    refine .ite (.congr ?_ (setSol_ports _ _ _)) hsol
    exact .foldl _ hsol fun u q => endProfile_statusOnly u q .faulted
  obtain ⟨u, hu, hs⟩ := hstop
  have hrcp : u.rcp = s.rcp := by
    have h := faultStop_rcp s p
    rwa [hu, setPorts_rcp] at h
  exact ⟨u, by rw [hu, members_of hrcp], hs⟩

theorem faultStop_member {s : State} {p q : PortId} (hq : q ∈ s.members p) :
    ∃ st, (s.faultStop p).ports[q] = { s.ports[q].stop with status := st } := by
  obtain ⟨u, hu, hs⟩ := faultStop_eq s p
  obtain ⟨st, hst⟩ := hs q
  refine ⟨st, ?_⟩
  rw [hu, setPorts_get, if_pos (List.contains_iff_mem.mpr hq), hst]
  rfl

theorem faultEnter_ports (s : State) (p : PortId) (latch : Bool) :
    (s.faultEnter p latch).ports =
      ((s.faultStop (s.lead p)).setPorts (s.members (s.lead p)) (.toFault (s.retryLeft (s.lead p) latch))).ports := by
  have hm := members_of (faultStop_rcp s (s.lead p)) (s.lead p)
  rw [← hm]
  unfold State.faultEnter
  dsimp only
  split
  · exact State.count_ports _ _ _
  · rfl

theorem faultEnter_member {s : State} {p q : PortId} (latch : Bool) (hq : q ∈ s.members (s.lead p)) :
    (s.faultEnter p latch).ports[q] = s.ports[q].stop.toFault (s.retryLeft (s.lead p) latch) := by
  obtain ⟨st, hst⟩ := faultStop_member hq
  rw [faultEnter_ports, setPorts_get, if_pos (List.contains_iff_mem.mpr hq), hst]
  rfl

/-! ### The bits of a condition (R55, R57) -/

theorem hasBit_setBit (v : BitVec 10) (b : FaultBit) : hasBit (setBit v b) b = true := by
  have hpos : b.pos < 10 := by cases b <;> decide
  simp only [hasBit, setBit, BitVec.getLsbD_or, BitVec.getLsbD_ofNat, Nat.testBit_two_pow_self, hpos, decide_true,
    Bool.and_true, Bool.or_true]

/-- What a function leaves of a port, a port set by it keeps, and so does every other. -/
theorem setPort_proj {β : Type} (g : Port → β) {f : Port → Port} (hg : ∀ x, g (f x) = g x) (s : State)
    (p q : PortId) : g (s.setPort p f).ports[q] = g s.ports[q] := by
  rw [setPort_get]
  split
  · next h => exact h ▸ hg _
  · rfl

/-- A port with a fault bit set. -/
def Port.addFault (b : FaultBit) (x : Port) : Port := { x with fault := setBit x.fault b }

/-- A port with a condition that stands. -/
def Port.addPresent (b : FaultBit) (x : Port) : Port := { x with present := setBit x.present b }

/-- The condition `b` noted: its bit in port `p` and in the lead, and for OT that it stands. -/
def State.markFault (s : State) (p : PortId) (b : FaultBit) : State :=
  let t := (s.setPort p (.addFault b)).setPort (s.lead p) (.addFault b)
  if b = .ot then t.setPort p (.addPresent .ot) else t

section
variable (s : State) (p : PortId) (b : FaultBit)

theorem markFault_rcp : (s.markFault p b).rcp = s.rcp := by
  unfold State.markFault
  dsimp only
  split <;> rfl

/-- A noted condition keeps what setting its bits leaves of a port. -/
theorem markFault_proj {β : Type} (g : Port → β) (hf : ∀ x, g (x.addFault b) = g x)
    (hc : ∀ x, g (x.addPresent .ot) = g x) (q : PortId) : g (s.markFault p b).ports[q] = g s.ports[q] := by
  have hfault : g ((s.setPort p (.addFault b)).setPort (s.lead p) (.addFault b)).ports[q] = g s.ports[q] := by
    rw [setPort_proj g hf, setPort_proj g hf]
  unfold State.markFault
  dsimp only
  split
  · rw [setPort_proj g hc, hfault]
  · exact hfault

theorem markFault_status (q : PortId) : (s.markFault p b).ports[q].status = s.ports[q].status :=
  markFault_proj s p b Port.status (fun _ => rfl) (fun _ => rfl) q

theorem markFault_retryCnt (q : PortId) : (s.markFault p b).ports[q].retryCnt = s.ports[q].retryCnt :=
  markFault_proj s p b Port.retryCnt (fun _ => rfl) (fun _ => rfl) q

theorem markFault_fault : hasBit (s.markFault p b).ports[p].fault b = true := by
  have hfault : hasBit ((s.setPort p (.addFault b)).setPort (s.lead p) (.addFault b)).ports[p].fault b = true := by
    rw [setPort_get]
    split
    · exact hasBit_setBit _ b
    · rw [setPort_get, if_pos rfl]
      exact hasBit_setBit _ b
  unfold State.markFault
  dsimp only
  split
  · rw [setPort_get, if_pos rfl]
    exact hfault
  · exact hfault

theorem markFault_present : hasBit (s.markFault p .ot).ports[p].present .ot = true := by
  have h : (s.markFault p .ot).ports[p] = _ := setPort_get _ p (.addPresent .ot) p
  rw [h, if_pos rfl]
  exact hasBit_setBit _ .ot

end

/-! ### A condition detected (R55, R57, R59) -/

/-- The fault state that the group of lead `l` enters: FAULT_RETRY where it is not latched and a retry is left. -/
def State.faultStatus (s : State) (l : PortId) : PortStatus :=
  if s.ports[l].status ≠ .latched ∧ s.retries l ≠ 0 ∧ s.ports[l].retryCnt < s.retries l then .retry else .latched

theorem retryLeft_iff (s : State) (l : PortId) :
    s.retryLeft l (s.ports[l].status == .latched) = true ↔
      s.ports[l].status ≠ .latched ∧ s.retries l ≠ 0 ∧ s.ports[l].retryCnt < s.retries l := by
  simp [State.retryLeft, and_assoc]

theorem retries_of {s t : State} (h : t.rcp = s.rcp) (p : PortId) : t.retries p = s.retries p := by
  simp only [State.retries, State.portCfg, rw_of h]

/-- Noting a condition leaves the retries that the group has. -/
theorem markFault_retryLeft (s : State) (p l : PortId) (b : FaultBit) (latch : Bool) :
    (s.markFault p b).retryLeft l latch = s.retryLeft l latch := by
  have hr := retries_of (markFault_rcp s p b) l
  unfold State.retryLeft
  rw [hr, markFault_retryCnt]

section
variable {s : State} {p : PortId} {b : FaultBit} {code : Nat} {v : Int}

theorem faultAt_ports (hd : isDriveFunc (s.func p) = true) (hp : s.ports[p].status ≠ .passive) :
    (s.faultAt p b code v).ports =
      ((s.markFault p b).faultEnter (s.lead p) ((s.markFault p b).ports[s.lead p].status == .latched)).ports := by
  have hc : ¬ ((s.ports[p].status = .passive || !isDriveFunc (s.func p)) = true) := by simpa [hd] using hp
  unfold State.faultAt
  rw [if_neg hc]
  exact emit_ports _ _

/-- Every member of the group is stopped and takes its fault state, its bits as noted. -/
theorem faultAt_member {q : PortId} (hd : isDriveFunc (s.func p) = true) (hl : s.lead (s.lead p) = s.lead p)
    (hp : s.ports[p].status ≠ .passive) (hq : q ∈ s.members (s.lead p)) :
    (s.faultAt p b code v).ports[q] =
      (s.markFault p b).ports[q].stop.toFault (s.retryLeft (s.lead p) (s.ports[s.lead p].status == .latched)) := by
  have hrcp := markFault_rcp s p b
  have hlead : (s.markFault p b).lead (s.lead p) = s.lead p := (lead_of hrcp _).trans hl
  have hmem : q ∈ (s.markFault p b).members ((s.markFault p b).lead (s.lead p)) := by
    rw [hlead, members_of hrcp]
    exact hq
  rw [faultAt_ports hd hp, faultEnter_member _ hmem, hlead, markFault_retryLeft, markFault_status]

theorem mem_members_lead (hl : s.lead (s.lead p) = s.lead p) : p ∈ s.members (s.lead p) := by
  simp [State.members, idx, hl]

/-- The parts that a fault of a drive port can change. -/
abbrev faultParts : List Part := [.sys, .ports, .sol, .log, .hie, .mon]

/-- From `s` to `t` the bit of condition `b` is set in port `p`, every member of its group is off and in the fault state
that the group's retries leave, and nothing but `faultParts` has changed. -/
structure GroupFaults (s t : State) (p : PortId) (b : FaultBit) : Prop where
  bit     : hasBit t.ports[p].fault b = true
  members : ∀ q, q ∈ s.members (s.lead p) → t.ports[q].duty = 0 ∧ t.ports[q].outOn = false ∧
    t.ports[q].durEnd = none ∧ t.ports[q].status = s.faultStatus (s.lead p)
  only    : State.Only faultParts s t

theorem GroupFaults.clauses {t : State} (h : GroupFaults s t p b) :
    hasBit t.ports[p].fault b = true ∧
    (∀ q, q ∈ s.members (s.lead p) → t.ports[q].duty = 0 ∧ t.ports[q].outOn = false ∧ t.ports[q].durEnd = none ∧
      t.ports[q].status = s.faultStatus (s.lead p)) ∧ State.Only faultParts s t :=
  ⟨h.bit, h.members, h.only⟩

theorem faultAt_groupFaults (hd : isDriveFunc (s.func p) = true) (hl : s.lead (s.lead p) = s.lead p)
    (hp : s.ports[p].status ≠ .passive) : GroupFaults s (s.faultAt p b code v) p b where
  bit := by
    rw [faultAt_member hd hl hp (mem_members_lead hl)]
    exact markFault_fault s p b
  members q hq := by
    rw [faultAt_member hd hl hp hq]
    exact ⟨rfl, rfl, rfl, ite_congr (propext (retryLeft_iff s (s.lead p))) (fun _ => rfl) fun _ => rfl⟩
  only := (faultAt_keep s p b code v (.refl s) rfl : Keep faultParts s _).toOnly

theorem faultAt_present (hd : isDriveFunc (s.func p) = true) (hl : s.lead (s.lead p) = s.lead p)
    (hp : s.ports[p].status ≠ .passive) : hasBit (s.faultAt p .ot code v).ports[p].present .ot = true := by
  rw [faultAt_member hd hl hp (mem_members_lead hl)]
  exact markFault_present s p

/-- A reading that touches neither STATE nor the retries, taken before the condition, leaves what the condition does. -/
theorem GroupFaults.of_setPort {r : PortId} {f : Port → Port} (hs : ∀ x, (f x).status = x.status)
    (hc : ∀ x, (f x).retryCnt = x.retryCnt) (hd : isDriveFunc (s.func p) = true) (hl : s.lead (s.lead p) = s.lead p)
    (hp : s.ports[p].status ≠ .passive) : GroupFaults s ((s.setPort r f).faultAt p b code v) p b := by
  have hstatus : ∀ q : PortId, (s.setPort r f).ports[q].status = s.ports[q].status := setPort_proj Port.status hs s r
  have hcnt : ∀ q : PortId, (s.setPort r f).ports[q].retryCnt = s.ports[q].retryCnt := setPort_proj Port.retryCnt hc s r
  have hfault : (s.setPort r f).faultStatus (s.lead p) = s.faultStatus (s.lead p) := by
    unfold State.faultStatus
    rw [hstatus, hcnt]
    rfl
  have h : GroupFaults (s.setPort r f) ((s.setPort r f).faultAt p b code v) p b :=
    faultAt_groupFaults hd hl fun e => hp ((hstatus p).symm.trans e)
  refine ⟨h.bit, fun q hq => ?_, (faultAt_keep _ p b code v (setPort_keep s r f (.refl s) rfl) rfl :
    Keep faultParts s _).toOnly⟩
  rw [← hfault]
  exact h.members q hq

end

/-- The time-over count of a port at its limit (R58). -/
def Port.overLimit (x : Port) : Port := { x with timeOver := 200000 }

/-- A port with the junction temperature `tj` read (R57). -/
def Port.heat (tj : Nat) (x : Port) : Port := { x with tj := tj % 256 }

/-! ### A port set, and no other -/

/-- From `s` to `t` port `p` has become what `f` makes of it, and no other port has changed. -/
def PortSet (s t : State) (p : PortId) (f : Port → Port) : Prop :=
  t.ports[p] = f s.ports[p] ∧ ∀ q, q ≠ p → t.ports[q] = s.ports[q]

theorem PortSet.of_ports {s t : State} {p : PortId} {f : Port → Port} (h : t.ports = (s.setPort p f).ports) :
    PortSet s t p f := by
  refine ⟨?_, fun q hq => ?_⟩
  · rw [h, setPort_get, if_pos rfl]
  · rw [h, setPort_get, if_neg hq.symm]

/-- OPEN detected: its bit is set and its condition stands (R57). -/
def Port.seenOpen (x : Port) : Port := { x with fault := setBit x.fault .open, present := setBit x.present .open }

theorem exec_openLoadDetect {s : State} {p : PortId} (i : Int) (hd : isDriveFunc (s.func p) = true)
    (ho : s.ports[p].status = .drive ∧ s.openOn p = true ∨ s.ports[p].status = .off ∧ s.openOff p = true) :
    ∃ t, exec (.openLoadDetect p i) s = .next t ∧ PortSet s t p .seenOpen := by
  have hc : (isDriveFunc (s.func p) && ((s.ports[p].status == .drive && s.openOn p) ||
      (s.ports[p].status == .off && s.openOff p))) = true := by
    simpa [hd] using ho
  exact ⟨_, congrArg Host.Outcome.next (if_pos hc), .of_ports (emit_ports _ _)⟩

/-- Settles O15: each condition named is one `State.faultAt`, after the reading it brings. -/
theorem portProtectionSwitchesOff : Obligations.PortProtectionSwitchesOff := by
  refine ⟨⟨fun p i s hd hl hp => ?supply, fun p i s hd hl hp => ?ground, fun p i s hd hl hp => ?overcurrent,
    fun p i s hd hl hp => ?timeOver, fun p tj s hd hl hp => ?overtemp, fun p i s hd hl hp hg => ?share⟩,
    fun p i s hd ho => ?openLoad⟩
  case supply => exact ⟨_, rfl, (faultAt_groupFaults hd hl hp).clauses⟩
  case ground => exact ⟨_, rfl, (faultAt_groupFaults hd hl hp).clauses⟩
  case overcurrent => exact ⟨_, rfl, (faultAt_groupFaults hd hl hp).clauses⟩
  case timeOver =>
    have h : GroupFaults s ((s.setPort (s.lead p) .overLimit).faultAt p .oc 0x0504 i) p .oc :=
      .of_setPort (fun _ => rfl) (fun _ => rfl) hd hl hp
    exact ⟨_, rfl, h.clauses⟩
  case overtemp =>
    have h : ∀ i, GroupFaults s ((s.setPort p (.heat tj)).faultAt p .ot 0x0505 i) p .ot := fun i =>
      .of_setPort (fun _ => rfl) (fun _ => rfl) hd hl hp
    have hp' : (s.setPort p (.heat tj)).ports[p].status ≠ .passive := by
      rw [setPort_proj Port.status (f := .heat tj) (fun _ => rfl)]
      exact hp
    exact ⟨_, rfl, (h _).clauses, faultAt_present hd hl hp'⟩
  case share => exact ⟨_, congrArg Host.Outcome.next (if_neg hg), (faultAt_groupFaults hd hl hp).clauses⟩
  case openLoad =>
    obtain ⟨t, he, hset, hother⟩ := exec_openLoadDetect i hd ho
    exact ⟨t, he, hset, hother,
      next_only (execOpenLoadDetect_keep p i s (.refl s : Keep [.sys, .ports, .log, .mon] s s) rfl) he⟩

end Sys2Proof.Machine
end

section
/-! SUPPORT. The values and the conditions of the input ports. -/

namespace Sys2Proof.Machine

open Sys2Proof

/-! ### Values (R43, R45) -/

/-- An input with the value `v` of the samples at `instant`; a burden that is back has been judged by it (R43, R483). -/
def Port.takeInput (v : Int) (instant : Nat) (x : Port) : Port :=
  { x with inval := BitVec.ofInt 32 v, invalAt := instant, srcLost := false,
           burdenBack := x.burdenBack && !(decide (v ≤ 30000000)),
           present := if x.burdenBack && decide (v ≤ 30000000) then clearBit x.present .sensShort else x.present }

/-- A tachometer with one more edge (R45). -/
def Port.takeEdge (instant : Nat) (x : Port) : Port :=
  { x with inval := x.inval + 1, edges := keepEdges (instant :: x.edges),
           stale := decide ((keepEdges (instant :: x.edges)).length < 2), srcLost := false }

/-- A tachometer without an edge for TMO (R45). -/
def Port.goStale (x : Port) : Port := { x with stale := true, srcLost := x.srcLost && x.status == .passive }

section
variable {s : State} {p : PortId}

theorem exec_inputUpdate (mean : Int) (instant : Nat) (hu : isUpdateFunc (s.func p) = true)
    (hp : s.ports[p].status ≠ .passive) :
    ∃ t, exec (.inputUpdate p mean instant) s = .next t ∧ PortSet s t p (.takeInput (s.inputValue p mean) instant) := by
  have hc : (isUpdateFunc (s.func p) && s.ports[p].status != .passive) = true := by simpa [hu] using hp
  refine ⟨_, congrArg Host.Outcome.next (if_pos hc), .of_ports ?_⟩
  dsimp only
  split
  · rw [State.count_ports, present_ports, draw_ports]
    rfl
  · rw [present_ports, draw_ports]
    rfl

theorem exec_tachEdge (instant : Nat) (hf : s.func p = 5) (hp : s.ports[p].status ≠ .passive) :
    ∃ t, exec (.tachEdge p instant) s = .next t ∧ PortSet s t p (.takeEdge instant) := by
  have hc : (s.func p = 0x05 && s.ports[p].status != .passive) = true := by simpa [hf] using hp
  refine ⟨_, congrArg Host.Outcome.next (if_pos hc), .of_ports ?_⟩
  dsimp only
  rw [present_ports, present_ports, State.count_ports, countEdge_ports]
  rfl

theorem exec_tachStale (hf : s.func p = 5) :
    ∃ t, exec (.tachStale p) s = .next t ∧ PortSet s t p .goStale :=
  ⟨_, congrArg Host.Outcome.next (if_pos hf), .of_ports (present_ports _ _ _)⟩

theorem freq_of_stale (h : s.ports[p].stale = true) : s.freq p = 0 := by
  simp only [State.freq, h, if_true]

end

/-! ### Conditions (R57, R483) -/

/-- An input with condition `b` detected; `cut` disconnects its burden. -/
def Port.inputFault (b : FaultBit) (cut : Bool) (x : Port) : Port :=
  { x with fault := setBit x.fault b, present := setBit x.present b, burdenOff := x.burdenOff || cut,
           burdenBack := x.burdenBack && !cut }

section
variable {s : State} {p : PortId} {b : FaultBit}

theorem exec_inputFaultDetect (hb : detects (s.func p) b = true) (hp : s.ports[p].status ≠ .passive) :
    ∃ t, exec (.inputFaultDetect p b) s = .next t ∧
      PortSet s t p (.inputFault b (s.func p = 0x07 && b = .sensShort)) := by
  have hc : (detects (s.func p) b && s.ports[p].status != .passive) = true := by simpa [hb] using hp
  exact ⟨_, congrArg Host.Outcome.next (if_pos hc), .of_ports (emit_ports _ _)⟩

theorem exec_inputFaultEnd (hb : detects (s.func p) b = true) (hn : ¬ (s.func p = 7 ∧ b = .sensShort)) :
    exec (.inputFaultEnd p b) s = .next (s.setPort p fun x => { x with present := clearBit x.present b }) := by
  have hcut : (s.func p = 0x07 && b = .sensShort) = false := Bool.eq_false_iff.mpr fun h => hn (by
    simpa only [Bool.and_eq_true, decide_eq_true_eq] using h)
  have hc : (detects (s.func p) b && !(s.func p = 0x07 && b = .sensShort)) = true := by
    rw [hb, hcut]
    rfl
  exact congrArg Host.Outcome.next (if_pos hc)

theorem exec_burdenReconnect (h : s.ports[p].burdenOff = true) :
    exec (.burdenReconnect p) s = .next (s.setPort p fun x => { x with burdenOff := false, burdenBack := true }) :=
  congrArg Host.Outcome.next (if_pos h)

end

/-- A port set changes the ports alone. -/
theorem setPort_only (s : State) (p : PortId) (f : Port → Port) : State.Only [.ports] s (s.setPort p f) :=
  (setPort_keep s p f (.refl s) rfl : Keep [.ports] s _).toOnly

/-- Settles O17: each command named sets the one port it names. -/
theorem portInputsTakeTheirValues : Obligations.PortInputsTakeTheirValues := by
  refine ⟨fun p mean instant s hu hp => ?update, fun p instant s hf hp => ?edge, fun p s hf => ?stale,
    fun p b s hb hp => ?detect, fun p b s hb hn => ?ends, fun p s h => ?burden⟩
  case update =>
    obtain ⟨t, he, hset, hother⟩ := exec_inputUpdate mean instant hu hp
    have hk := next_only (execInputUpdate_keep p mean instant s (.refl s : Keep [.sys, .ports, .mon] s s) rfl) he
    refine ⟨t, he, ?_, ?_, ?_, hother, hk⟩ <;> rw [hset] <;> rfl
  case edge =>
    obtain ⟨t, he, hset, hother⟩ := exec_tachEdge instant hf hp
    have hk := next_only (execTachEdge_keep p instant s (.refl s : Keep [.ports, .mon, .sct] s s) rfl) he
    have hnow : t.now = s.now := congrArg (·.t / 2 ^ 40) (hk.same .tmb (by decide))
    refine ⟨t, he, ?_, ?_, ?_, hother, hk⟩
    · rw [hset]; rfl
    · rw [hset]; rfl
    · simp only [State.freq, hset, hnow, Port.takeEdge, decide_eq_true_eq]
  case stale =>
    obtain ⟨t, he, hset, hother⟩ := exec_tachStale hf
    have hk := next_only (execTachStale_keep p s (.refl s : Keep [.ports, .mon] s s) rfl) he
    have hstale : t.ports[p].stale = true := by rw [hset]; rfl
    exact ⟨t, he, freq_of_stale hstale, hstale, by rw [hset]; rfl, hother, hk⟩
  case detect =>
    obtain ⟨t, he, hset, hother⟩ := exec_inputFaultDetect hb hp
    have hk := next_only (execInputFaultDetect_keep p b s (.refl s : Keep [.sys, .ports, .log, .mon] s s) rfl) he
    refine ⟨t, he, ?_, ?_, ?_, hother, hk⟩ <;> rw [hset] <;> rfl
  case ends =>
    obtain ⟨hset, hother⟩ := PortSet.of_ports (s := s) (p := p) rfl
    exact ⟨_, exec_inputFaultEnd hb hn, hset, hother, setPort_only s p _⟩
  case burden =>
    obtain ⟨hset, hother⟩ := PortSet.of_ports (s := s) (p := p) rfl
    exact ⟨_, exec_burdenReconnect h, hset, hother, setPort_only s p _⟩

end Sys2Proof.Machine
end

section
/-! SUPPORT. The solenoid ports, one at a time: what the operations on a profile make of them. -/

namespace Sys2Proof.Machine

open Sys2Proof

/-! ### A solenoid port set, and no other -/

theorem setSol_get (s : State) (p : PortId) (f : SolPort → SolPort) (q : PortId) :
    (s.setSol p f).sol.ports[q] = if p = q then f s.sol.ports[p] else s.sol.ports[q] := upd_get _ _ _ _

theorem mapSols_get (s : State) (f : PortId → SolPort → SolPort) (q : PortId) :
    (s.mapSols f).sol.ports[q] = f q s.sol.ports[q] := updAll_get _ _ _

/-- From `s` to `t` solenoid port `p` has become `x`, and no other has changed. -/
def SolSet (s t : State) (p : PortId) (x : SolPort) : Prop :=
  t.sol.ports[p] = x ∧ ∀ q, q ≠ p → t.sol.ports[q] = s.sol.ports[q]

theorem SolSet.refl (s : State) (p : PortId) : SolSet s s p s.sol.ports[p] := ⟨rfl, fun _ _ => rfl⟩

theorem SolSet.trans {s t u : State} {p : PortId} {x y : SolPort} (h : SolSet s t p x) (h' : SolSet t u p y) :
    SolSet s u p y :=
  ⟨h'.1, fun q hq => (h'.2 q hq).trans (h.2 q hq)⟩

theorem SolSet.congr {s t u : State} {p : PortId} {x : SolPort} (h : SolSet s t p x) (e : u.sol.ports = t.sol.ports) :
    SolSet s u p x := by
  simpa only [SolSet, e] using h

theorem setSol_solSet (s : State) (p : PortId) (f : SolPort → SolPort) : SolSet s (s.setSol p f) p (f s.sol.ports[p]) :=
  ⟨(setSol_get s p f p).trans (if_pos rfl), fun q hq => (setSol_get s p f q).trans (if_neg hq.symm)⟩

theorem endActive_solSet (s : State) (p : PortId) (st : Status) :
    SolSet s (s.endActive p st) p { s.sol.ports[p] with active := none } :=
  (setSol_solSet s p _).congr (congrArg SolState.ports (complete_sol _ _ _))

/-! ### A measurement given its result (R82 to R84) -/

/-- An opening measurement done, with what its register shows and the tables after it. -/
def SolPort.giveOpen (m : MeasReg) (tab : Vector DelayTab 10) (x : SolPort) : SolPort :=
  { x with openCtx := { x.openCtx with done := true }, mopen := m, tabOpen := tab }

/-- A release measurement done, with what its register shows and the tables after it. -/
def SolPort.giveClose (m : MeasReg) (tab : Vector DelayTab 10) (x : SolPort) : SolPort :=
  { x with closeCtx := { x.closeCtx with done := true }, mclose := m, tabClose := tab }

section
variable (s : State) (p : PortId) (seen : Option Nat) (cut : Bool)

/-- A measurement that waits for its result shows the delay seen. -/
theorem finishOpen_of_waiting (h : s.sol.ports[p].openCtx.done = false) : ∃ m tab,
    SolSet s (s.finishOpen p seen cut) p (s.sol.ports[p].giveOpen m tab) ∧ m.delay = s.measDelay m.res seen := by
  suffices hf : ∃ f m tab, (s.finishOpen p seen cut).sol.ports = (s.setSol p f).sol.ports ∧
      f s.sol.ports[p] = s.sol.ports[p].giveOpen m tab ∧ m.delay = s.measDelay m.res seen by
    obtain ⟨f, m, tab, hports, hval, hdelay⟩ := hf
    exact ⟨m, tab, hval ▸ (setSol_solSet s p f).congr hports, hdelay⟩
  refine ⟨?f, ?m, ?tab, ?ports, ?value, ?delay⟩
  case ports =>
    rw [State.finishOpen, if_neg (Bool.eq_false_iff.mp h)]
    dsimp only
    rw [emitAll_sol, State.draw_sol]
    split
    · rw [State.count_sol]
    · rfl
  case value => rfl
  case delay => rfl

theorem finishClose_of_waiting (h : s.sol.ports[p].closeCtx.done = false) : ∃ m tab,
    SolSet s (s.finishClose p seen cut) p (s.sol.ports[p].giveClose m tab) ∧ m.delay = s.measDelay m.res seen := by
  suffices hf : ∃ f m tab, (s.finishClose p seen cut).sol.ports = (s.setSol p f).sol.ports ∧
      f s.sol.ports[p] = s.sol.ports[p].giveClose m tab ∧ m.delay = s.measDelay m.res seen by
    obtain ⟨f, m, tab, hports, hval, hdelay⟩ := hf
    exact ⟨m, tab, hval ▸ (setSol_solSet s p f).congr hports, hdelay⟩
  refine ⟨?f, ?m, ?tab, ?ports, ?value, ?delay⟩
  case ports =>
    rw [State.finishClose, if_neg (Bool.eq_false_iff.mp h)]
    dsimp only
    rw [emitAll_sol, State.draw_sol]
  case value => rfl
  case delay => rfl

/-- A measurement that has its result keeps it. -/
theorem finishOpen_solSet : ∃ m tab, SolSet s (s.finishOpen p seen cut) p (s.sol.ports[p].giveOpen m tab) := by
  cases h : s.sol.ports[p].openCtx.done with
  | false =>
    obtain ⟨m, tab, hset, -⟩ := finishOpen_of_waiting s p seen cut h
    exact ⟨m, tab, hset⟩
  | true =>
    have hsame : s.sol.ports[p].giveOpen s.sol.ports[p].mopen s.sol.ports[p].tabOpen = s.sol.ports[p] := by
      rw [SolPort.giveOpen, ← h]
    refine ⟨s.sol.ports[p].mopen, s.sol.ports[p].tabOpen, ?_⟩
    rw [State.finishOpen, if_pos h, hsame]
    exact .refl s p

theorem finishClose_solSet : ∃ m tab, SolSet s (s.finishClose p seen cut) p (s.sol.ports[p].giveClose m tab) := by
  cases h : s.sol.ports[p].closeCtx.done with
  | false =>
    obtain ⟨m, tab, hset, -⟩ := finishClose_of_waiting s p seen cut h
    exact ⟨m, tab, hset⟩
  | true =>
    have hsame : s.sol.ports[p].giveClose s.sol.ports[p].mclose s.sol.ports[p].tabClose = s.sol.ports[p] := by
      rw [SolPort.giveClose, ← h]
    refine ⟨s.sol.ports[p].mclose, s.sol.ports[p].tabClose, ?_⟩
    rw [State.finishClose, if_pos h, hsame]
    exact .refl s p

theorem finishOpen_tick : (s.finishOpen p seen cut).tick = s.tick := by
  unfold State.finishOpen
  dsimp only
  split
  · rfl
  · refine (emitAll_ticks _ _).trans ?_
    split
    · exact count_ticks _ _ _
    · rfl

end

theorem endActive_tick (s : State) (p : PortId) (st : Status) : (s.endActive p st).tick = s.tick :=
  complete_ticks _ _ _

/-! ### A port takes a phase (R66) -/

section
variable (s : State) (p q : PortId) (ph : Phase) (tick : Nat)

theorem dirtyMates_get : ∃ w, (s.dirtyMates p).sol.ports[q] = { s.sol.ports[q] with windowDirty := w } := by
  unfold State.dirtyMates
  dsimp only
  rw [mapSols_get]
  split
  · exact ⟨true, rfl⟩
  · exact ⟨s.sol.ports[q].windowDirty, rfl⟩

theorem headFollows_get : ∃ o, (s.headFollows p).sol.ports[q] = { s.sol.ports[q] with headOn := o } := by
  by_cases h : s.inGroup p = true
  · rw [State.headFollows, if_pos h]
    dsimp only
    rw [settle_sol, setSol_get]
    split
    · next hq =>
      subst hq
      exact ⟨_, rfl⟩
    · exact ⟨s.sol.ports[q].headOn, rfl⟩
  · rw [State.headFollows, if_neg h]
    exact ⟨s.sol.ports[q].headOn, rfl⟩

/-- A port takes a phase: beside the phase and its start, resistance windows and head switches alone can change. -/
theorem enterPhase_get : ∃ w o, (s.enterPhase p ph tick).sol.ports[q] =
    { (if p = q then { s.sol.ports[p] with phase := ph, since := tick } else s.sol.ports[q]) with
      windowDirty := w, headOn := o } := by
  unfold State.enterPhase
  dsimp only
  obtain ⟨o, ho⟩ := headFollows_get (((s.setSol p fun x =>
    { x with phase := ph, since := tick, windowDirty := ph != .hold }).dirtyMates p).settle p) p q
  obtain ⟨w, hw⟩ := dirtyMates_get (s.setSol p fun x =>
    { x with phase := ph, since := tick, windowDirty := ph != .hold }) p q
  refine ⟨w, o, ?_⟩
  rw [ho, settle_sol, hw, setSol_get]
  split <;> rfl

end

/-- From `s` to `t` port `p` has taken phase `ph`, and no other port's phase has changed. -/
def Enters (s t : State) (p : PortId) (ph : Phase) : Prop :=
  t.sol.ports[p].phase = ph ∧ ∀ q, q ≠ p → t.sol.ports[q].phase = s.sol.ports[q].phase

theorem Enters.after {s t u : State} {p : PortId} {x : SolPort} {ph : Phase} (h : SolSet s t p x)
    (h' : Enters t u p ph) : Enters s u p ph :=
  ⟨h'.1, fun q hq => (h'.2 q hq).trans (congrArg SolPort.phase (h.2 q hq))⟩

theorem Enters.of_kept {s t u : State} {p : PortId} {ph : Phase}
    (h : ∀ q : PortId, t.sol.ports[q].phase = s.sol.ports[q].phase) (h' : Enters t u p ph) : Enters s u p ph :=
  ⟨h'.1, fun q hq => (h'.2 q hq).trans (h q)⟩

theorem Enters.trans {s t u : State} {p : PortId} {ph ph' : Phase} (h : Enters s t p ph) (h' : Enters t u p ph') :
    Enters s u p ph' :=
  ⟨h'.1, fun q hq => (h'.2 q hq).trans (h.2 q hq)⟩

theorem enterPhase_enters (s : State) (p : PortId) (ph : Phase) (tick : Nat) :
    Enters s (s.enterPhase p ph tick) p ph := by
  refine ⟨?_, fun q hq => ?_⟩
  · obtain ⟨w, o, h⟩ := enterPhase_get s p p ph tick
    rw [h, if_pos rfl]
  · obtain ⟨w, o, h⟩ := enterPhase_get s p q ph tick
    rw [h, if_neg hq.symm]

/-- What shows neither a phase nor its start, a window or a head switch stays as it is when a port takes a phase. -/
theorem enterPhase_proj {β : Type} (g : SolPort → β)
    (hg : ∀ x ph t w o, g { x with phase := ph, since := t, windowDirty := w, headOn := o } = g x)
    (s : State) (p q : PortId) (ph : Phase) (tick : Nat) :
    g (s.enterPhase p ph tick).sol.ports[q] = g s.sol.ports[q] := by
  obtain ⟨w, o, h⟩ := enterPhase_get s p q ph tick
  rw [h]
  split
  · next hq =>
    subst hq
    exact hg s.sol.ports[p] ph tick w o
  · exact hg s.sol.ports[q] _ _ w o

end Sys2Proof.Machine
end

section
/-! SUPPORT. The phases of a solenoid profile, and the ends at which one follows another. -/

namespace Sys2Proof.Machine

open Sys2Proof

/-! ### The phases that follow (R66, R71) -/

section
variable (s : State) (p : PortId)

theorem toRelease_enters : Enters s (s.toRelease p) p .release :=
  .after (setSol_solSet s p _) (enterPhase_enters _ p .release _)

theorem toHold_enters : Enters s (s.toHold p) p .hold :=
  .after (setSol_solSet s p _) (enterPhase_enters _ p .hold _)

theorem toIdle_enters : Enters s (s.toIdle p) p .idle := by
  obtain ⟨m, tab, hclose⟩ := finishClose_solSet s p none false
  exact .after (hclose.trans (setSol_solSet _ p _)) (enterPhase_enters _ p .idle _)

theorem toRelease_holdEnd : (s.toRelease p).sol.ports[p].holdEnd = none := by
  rw [State.toRelease, enterPhase_proj SolPort.holdEnd fun _ _ _ _ _ => rfl, (setSol_solSet s p _).1]

theorem toRelease_active : (s.toRelease p).sol.ports[p].active = s.sol.ports[p].active := by
  rw [State.toRelease, enterPhase_proj SolPort.active fun _ _ _ _ _ => rfl, (setSol_solSet s p _).1]

theorem toHold_holdCur : (s.toHold p).sol.ports[p].holdCur = s.holdTarget p := by
  rw [State.toHold, enterPhase_proj SolPort.holdCur fun _ _ _ _ _ => rfl, (setSol_solSet s p _).1]

theorem toHold_active : (s.toHold p).sol.ports[p].active = s.sol.ports[p].active := by
  rw [State.toHold, enterPhase_proj SolPort.active fun _ _ _ _ _ => rfl, (setSol_solSet s p _).1]

end

theorem tbr_of {s t : State} (h : t.rcp = s.rcp) (p : PortId) : t.tbr p = s.tbr p := by
  simp only [State.tbr, State.pf, State.template, State.portCfg, rw_of h]

/-- The phase after a HIT that no pending command ends. -/
def State.afterHit (s : State) (p : PortId) : Phase :=
  if s.sol.ports[p].holdPassed s.tick then .release else if s.tbr p = 0 then .hold else .bridge

section
variable {s : State} {p : PortId}

theorem leaveHit_of_pend_none (h : s.sol.ports[p].pend = none) :
    s.leaveHit p = if s.sol.ports[p].holdPassed s.tick then s.toRelease p
      else if s.tbr p = 0 then (s.enterPhase p .bridge s.tick).toHold p else s.enterPhase p .bridge s.tick := by
  simp only [State.leaveHit, h, tbr_of (enterPhase_rcp s p .bridge s.tick)]

theorem leaveHit_enters (h : s.sol.ports[p].pend = none) : Enters s (s.leaveHit p) p (s.afterHit p) := by
  rw [leaveHit_of_pend_none h, State.afterHit]
  split
  · exact toRelease_enters s p
  split
  · exact (enterPhase_enters s p .bridge _).trans (toHold_enters _ p)
  · exact enterPhase_enters s p .bridge _

theorem leaveHit_active (h : s.sol.ports[p].pend = none) :
    (s.leaveHit p).sol.ports[p].active = s.sol.ports[p].active := by
  have hbridge := enterPhase_proj SolPort.active (fun _ _ _ _ _ => rfl) s p p .bridge s.tick
  rw [leaveHit_of_pend_none h]
  split
  · exact toRelease_active s p
  split
  · exact (toHold_active _ p).trans hbridge
  · exact hbridge

/-! ### The ends of the phases (R66, R69, R71, R79, R80) -/

theorem exec_bridgeEnd (h : s.sol.ports[p].phase = .bridge) : exec (.bridgeEnd p) s = .next (s.toHold p) :=
  congrArg Host.Outcome.next (if_pos h)

theorem exec_holdEnd_release {e : Nat} (he : s.sol.ports[p].holdEnd = some e)
    (h : s.sol.ports[p].phase = .hold ∨ s.sol.ports[p].phase = .bridge) : exec (.holdEnd p) s = .next (s.toRelease p) := by
  change execHoldEnd p s = _
  rcases h with h | h <;> simp only [execHoldEnd, he, h, Option.isNone_some, Bool.false_eq_true, if_false]

theorem exec_holdEnd_hit {e : Nat} (he : s.sol.ports[p].holdEnd = some e) (h : s.sol.ports[p].phase = .hit) :
    exec (.holdEnd p) s = .next (s.setSol p fun y => { y with holdEnd := some s.tick }) := by
  change execHoldEnd p s = _
  simp only [execHoldEnd, he, h, Option.isNone_some, Bool.false_eq_true, if_false]

theorem exec_hitEnd (h : s.sol.ports[p].phase = .hit) :
    exec (.hitEnd p) s = .next (((s.finishOpen p none false).endActive p .ok).leaveHit p) :=
  congrArg Host.Outcome.next (if_pos h)

theorem exec_releaseEnd {i : Int} (h : s.sol.ports[p].phase = .release) :
    exec (.releaseEnd p i) s = .next ((s.setPort p fun x => { x with iNow := i }).toIdle p) :=
  congrArg Host.Outcome.next (if_pos h)

theorem exec_releaseTimeout {i : Int} (h : s.sol.ports[p].phase = .release) :
    ∃ e, exec (.releaseTimeout p i) s = .next (((s.setPort p fun x => { x with iNow := i }).emit e).toIdle p) :=
  ⟨_, congrArg Host.Outcome.next (if_pos h)⟩

/-- A HIT without a pending command ends: its measurement and its command are done, and the phase is the one after. -/
theorem hitEnd_enters (hp : s.sol.ports[p].pend = none) :
    Enters s (((s.finishOpen p none false).endActive p .ok).leaveHit p) p (s.afterHit p) ∧
    (((s.finishOpen p none false).endActive p .ok).leaveHit p).sol.ports[p].active = none := by
  obtain ⟨m, tab, hopen⟩ := finishOpen_solSet s p none false
  have hend := hopen.trans (endActive_solSet _ p .ok)
  have htick : ((s.finishOpen p none false).endActive p .ok).tick = s.tick :=
    (endActive_tick _ p .ok).trans (finishOpen_tick s p none false)
  have htbr : ((s.finishOpen p none false).endActive p .ok).tbr p = s.tbr p :=
    tbr_of ((endActive_rcp _ p .ok).trans (finishOpen_rcp s p none false)) p
  rw [hopen.1] at hend
  generalize (s.finishOpen p none false).endActive p .ok = u at hend htick htbr ⊢
  have hport := hend.1
  have hpend : u.sol.ports[p].pend = none := by rw [hport]; exact hp
  have hpassed : u.sol.ports[p].holdPassed u.tick = s.sol.ports[p].holdPassed s.tick := by rw [hport, htick]; rfl
  have hafter : u.afterHit p = s.afterHit p := by simp only [State.afterHit, hpassed, htbr]
  refine ⟨hafter ▸ .after hend (leaveHit_enters hpend), ?_⟩
  rw [leaveHit_active hpend, hport]

/-- A confirmed end of stroke: the bank voltage is read, and the opening measurement shows the delay, a half microsecond
rounded up (R79, R81, R82). -/
theorem exec_endOfStroke {delay vbank : Nat} (h : s.sol.ports[p].phase = .hit) (hr : s.sol.ports[p].reached = false)
    (hs : s.sol.ports[p].stroke = false) (hd : s.sol.ports[p].openCtx.done = false) :
    ∃ t m tab, exec (.endOfStroke p delay vbank) s = .next t ∧ t.ports[p].vbank = vbank ∧
      SolSet s t p ({ s.sol.ports[p] with stroke := true }.giveOpen m tab) ∧ m.delay = (delay + 1) / 2 % 2 ^ 24 := by
  have hc : (decide (s.sol.ports[p].phase = .hit) && !s.sol.ports[p].reached && !s.sol.ports[p].stroke) = true := by
    simp only [h, hr, hs, decide_true, Bool.not_false, Bool.and_self]
  have hstroke := setSol_solSet (s.setPort p fun x => { x with vbank := vbank }) p fun y => { y with stroke := true }
  obtain ⟨m, tab, hopen, hdelay⟩ := finishOpen_of_waiting _ p (some (halfUsToUs delay)) false
    ((congrArg (fun y => y.openCtx.done) hstroke.1).trans hd)
  refine ⟨_, m, tab, congrArg Host.Outcome.next (if_pos hc), ?_, ?_, hdelay⟩
  · dsimp only
    rw [delayNews_ports, finishOpen_ports, setSol_ports, setPort_get, if_pos rfl]
  · rw [hstroke.1] at hopen
    exact (hstroke.trans hopen).congr (congrArg SolState.ports (delayNews_sol _ _ _))

/-- A confirmed end of travel: the bank voltage is read, and the release measurement shows the delay (R80 to R82). -/
theorem exec_endOfTravel {delay vbank : Nat} (h : s.sol.ports[p].phase = .release) (hr : s.rdet p = true)
    (hd : s.sol.ports[p].closeCtx.done = false) :
    ∃ t m tab, exec (.endOfTravel p delay vbank) s = .next t ∧ t.ports[p].vbank = vbank ∧
      SolSet s t p (s.sol.ports[p].giveClose m tab) ∧ m.delay = (delay + 1) / 2 % 2 ^ 24 := by
  have hc : (decide (s.sol.ports[p].phase = .release) && s.rdet p) = true := by
    simp only [h, hr, decide_true, Bool.and_self]
  obtain ⟨m, tab, hclose, hdelay⟩ := finishClose_of_waiting (s.setPort p fun x => { x with vbank := vbank }) p
    (some (halfUsToUs delay)) false hd
  refine ⟨_, m, tab, congrArg Host.Outcome.next (if_pos hc), ?_, ?_, hdelay⟩
  · rw [delayNews_ports, finishClose_ports, setPort_get, if_pos rfl]
  · exact SolSet.congr (s := s) hclose (congrArg SolState.ports (delayNews_sol _ _ _))

end

/-- Settles O26: each end named is one entry into the phase that follows, or one measurement given its result. -/
theorem solenoidPhasesFollowOneAnother : Obligations.SolenoidPhasesFollowOneAnother := by
  refine ⟨fun p s h => ?bridge, fun p e s he h => ?holdEnd, fun p e s he h => ?holdEndInHit, fun p s h hp => ?hit,
    fun p i s h => ?release, fun p i s h => ?timeout, fun p delay vbank s h hr hs hd => ?stroke,
    fun p delay vbank s h hr hd => ?travel⟩
  case bridge =>
    obtain ⟨hphase, hother⟩ := toHold_enters s p
    exact ⟨_, exec_bridgeEnd h, hphase, toHold_holdCur s p, hother, (toHold_keep s p (.refl s) rfl).toOnly⟩
  case holdEnd =>
    obtain ⟨hphase, hother⟩ := toRelease_enters s p
    exact ⟨_, exec_holdEnd_release he h, hphase, toRelease_holdEnd s p, hother, (toRelease_keep s p (.refl s) rfl).toOnly⟩
  case holdEndInHit =>
    obtain ⟨hport, hother⟩ := setSol_solSet s p fun y => { y with holdEnd := some s.tick }
    exact ⟨_, exec_holdEnd_hit he h, hport, hother, (setSol_keep s p _ (.refl s) rfl).toOnly⟩
  case hit =>
    obtain ⟨⟨hphase, hother⟩, hactive⟩ := hitEnd_enters hp
    exact ⟨_, exec_hitEnd h, hphase, hactive, hother, next_only
      (execHitEnd_keep p s (.refl s : Keep [.sys, .ports, .sol, .log, .hie, .mon] s s) rfl) (exec_hitEnd h)⟩
  case release =>
    obtain ⟨hphase, hother⟩ := toIdle_enters (s.setPort p fun x => { x with iNow := i }) p
    exact ⟨_, exec_releaseEnd h, hphase, hother, next_only
      (execReleaseEnd_keep p i s (.refl s : Keep [.sys, .ports, .sol, .log, .mon] s s) rfl) (exec_releaseEnd h)⟩
  case timeout =>
    obtain ⟨e, he⟩ := exec_releaseTimeout (i := i) h
    obtain ⟨hphase, hother⟩ := toIdle_enters ((s.setPort p fun x => { x with iNow := i }).emit e) p
    rw [emit_sol] at hother
    exact ⟨_, he, hphase, hother, next_only
      (execReleaseTimeout_keep p i s (.refl s : Keep [.sys, .ports, .sol, .log, .mon] s s) rfl) he⟩
  case stroke =>
    obtain ⟨t, m, tab, he, hbank, ⟨hport, hother⟩, hdelay⟩ := exec_endOfStroke h hr hs hd
    refine ⟨t, he, ?_, ?_, hbank, ?_, hother, next_only
      (execEndOfStroke_keep p delay vbank s (.refl s : Keep [.sys, .ports, .sol, .log, .hie, .mon] s s) rfl) he⟩
    · rw [hport]; rfl
    · rw [hport]; exact hdelay
    · rw [hport]; exact h
  case travel =>
    obtain ⟨t, m, tab, he, hbank, ⟨hport, hother⟩, hdelay⟩ := exec_endOfTravel h hr hd
    refine ⟨t, he, ?_, hbank, ?_, hother, next_only
      (execEndOfTravel_keep p delay vbank s (.refl s : Keep [.sys, .ports, .sol, .log, .hie, .mon] s s) rfl) he⟩
    · rw [hport]; exact hdelay
    · rw [hport]; exact h

end Sys2Proof.Machine
end

section
/-! SUPPORT. The first waiting member of a shared group. -/

namespace Sys2Proof.Machine

open Sys2Proof

/-! ### A HIT starts (R67) -/

theorem finishClose_phase (s : State) (p q : PortId) (seen : Option Nat) (cut : Bool) :
    (s.finishClose p seen cut).sol.ports[q].phase = s.sol.ports[q].phase := by
  obtain ⟨m, tab, hport, hother⟩ := finishClose_solSet s p seen cut
  by_cases h : q = p
  · rw [h, hport]
    rfl
  · rw [hother q h]

/-- Before a port enters HIT, no port changes its phase (R67). -/
theorem startHit_enters (s : State) (p : PortId) (src : Option Src) (dur : Nat) (keep : Option (Option Nat)) :
    Enters s (s.startHit p src dur keep) p .hit := by
  unfold State.startHit
  dsimp only
  refine .of_kept (t := (s.finishClose p none true).mapSols _) (fun q => ?_) (.after
    ((setSol_solSet _ p _).congr (congrArg SolState.ports (State.count_sol _ _ _))) (enterPhase_enters _ p .hit _))
  rw [mapSols_get, ← finishClose_phase s p q none true]
  split <;> rfl

/-! ### The wait of the first member ends (R75, R90, R91) -/

theorem onGroup_solPorts (s : State) (g : GroupId) (f : Group → Group) : (s.onGroup g f).sol.ports = s.sol.ports := rfl

theorem onGroup_groups (s : State) (g : GroupId) (f : Group → Group) :
    (s.onGroup g f).sol.groups[g] = f s.sol.groups[g] := upd_same _ _ _

theorem dropPend_of_some {s : State} {p : PortId} {st : Status} {d : Pend} (h : s.sol.ports[p].pend = some d) :
    s.dropPend p st = (s.setSol p fun x => { x with pend := none }).complete (some d.src) st := by
  simp only [State.dropPend, h]

section
variable {s : State} {g : GroupId} {p : PortId} {d : Pend}

theorem exec_deferredHitStart (hq : s.queueHead g = some p) (hw : s.pwr.warning = false) (hf : s.fits g p = true)
    (hd : s.sol.ports[p].pend = some d) (hr : d.src = .forced ∨ s.recheckOn p = .ok) :
    exec (.deferredHitStart g) s = .next (s.startHit p (some d.src) d.dur d.keepEnd) := by
  have hst : (if d.src == Src.forced then .ok else s.recheckOn p) = Status.ok := by
    rcases hr with hr | hr
    · rw [hr]; rfl
    · rw [hr, ite_self]
  change execDeferredHitStart g s = _
  simp only [execDeferredHitStart, hq, hw, hf, Bool.not_true, Bool.or_self, Bool.false_eq_true, if_false,
    State.startWaiting, hd, hst, if_true]

/-- An ON of a host that no longer waits: it is answered, the timeout is counted, and an event is presented. -/
theorem exec_hitDeferredTimeout {k : SessId} {r : Nat} (hq : s.queueHead g = some p) (hw : s.pwr.warning = false)
    (hf : s.fits g p = false) (hd : s.sol.ports[p].pend = some d) (hsrc : d.src = .host k r) (hn : d.forced = false) :
    exec (.hitDeferredTimeout g) s =
      .next ((((s.setSol p fun x => { x with pend := none }).answer (.host k r) .stale).onGroup g
        fun x => { x with timeouts := satNat 65535 (x.timeouts + 1) }).emit
        (s.solEv 0x0601 p (s.evGroup p) (ticksUs (s.tick - d.since)) (s.groupPlanned g))) := by
  have hdrop : s.dropPend p .stale = (s.setSol p fun x => { x with pend := none }).answer (.host k r) .stale := by
    rw [dropPend_of_some hd, hsrc]
    rfl
  have hforced : (d.src == Src.forced) = false := by rw [hsrc]; rfl
  change execHitDeferredTimeout g s = _
  simp only [execHitDeferredTimeout, hq, hd, hw, hforced, hf, hn, hdrop, Bool.or_self, Bool.false_eq_true, if_false]

end

end Sys2Proof.Machine
end

section
/-! SUPPORT. Coil temperatures, and the registers and the storage of the delay tables. -/

namespace Sys2Proof.Machine

open Sys2Proof

/-! ### Coil temperatures (R93 to R95) -/

theorem emitAll_housing (s : State) (es : List Ev) : (s.emitAll es).sys.housing = s.sys.housing := by
  obtain ⟨q, h⟩ := emitAll_sys s es
  rw [h]

theorem send_housing (s : State) (c d : Nat) (b : List Byte) : (s.send c d b).1.sys.housing = s.sys.housing := by
  obtain ⟨q, h⟩ := send_sys s c d b
  rw [h]

theorem sendDelay_housing (s : State) (p : PortId) (b : Fin 10) (close : Bool) :
    (s.sendDelay p b close).sys.housing = s.sys.housing :=
  send_housing s _ _ _

theorem sendBands_housing (s : State) (p : PortId) (bs : List (Fin 10)) :
    (s.sendBands p bs).sys.housing = s.sys.housing := by
  induction bs generalizing s with
  | nil => rfl
  | cons b bs ih => exact (ih _).trans ((sendDelay_housing _ p b true).trans (sendDelay_housing s p b false))

theorem delayNews_housing (old s : State) (p : PortId) : (old.delayNews s p).sys.housing = s.sys.housing := by
  unfold State.delayNews
  split
  · exact sendBands_housing s p _
  · rfl

/-- The judgement of a coil changes its two limits alone. -/
theorem judgeCoil_solSet (s : State) (p : PortId) :
    ∃ hot ref, SolSet s (s.judgeCoil p) p { s.sol.ports[p] with hot := hot, hitref := ref } :=
  ⟨_, _, (setSol_solSet s p _).congr (congrArg SolState.ports (emitAll_sol _ _))⟩

/-- The coil of a port moved by `f`, its limits judged, and its tables sent on where the manager needs them. -/
def State.moveCoil (s : State) (p : PortId) (f : SolPort → SolPort) : State :=
  s.delayNews ((s.setSol p f).judgeCoil p) p

theorem moveCoil_solSet (s : State) (p : PortId) (f : SolPort → SolPort) :
    ∃ hot ref, SolSet s (s.moveCoil p f) p { f s.sol.ports[p] with hot := hot, hitref := ref } := by
  obtain ⟨hot, ref, h⟩ := judgeCoil_solSet (s.setSol p f) p
  rw [(setSol_solSet s p f).1] at h
  exact ⟨hot, ref, ((setSol_solSet s p f).trans h).congr (congrArg SolState.ports (delayNews_sol _ _ _))⟩

theorem moveCoil_housing (s : State) (p : PortId) (f : SolPort → SolPort) :
    (s.moveCoil p f).sys.housing = s.sys.housing :=
  (delayNews_housing _ _ p).trans (emitAll_housing _ _)

/-- A coil that the model moves is moved at the housing temperature just taken. -/
theorem exec_coilModelUpdate (s : State) (p : PortId) (i : Nat) (housing : Int) :
    ∃ f, exec (.coilModelUpdate p i housing) s = .next (
      if isSolFunc (s.func p) && s.rcp.applied then (s.onSys fun x => { x with housing := housing }).moveCoil p f
      else s.onSys fun x => { x with housing := housing }) :=
  ⟨_, rfl⟩

theorem coilModelUpdate_clauses (s : State) (p : PortId) (i : Nat) (housing : Int) :
    ∃ t, exec (.coilModelUpdate p i housing) s = .next t ∧ t.sys.housing = housing ∧
      ∀ q, q ≠ p → t.sol.ports[q] = s.sol.ports[q] := by
  obtain ⟨f, hf⟩ := exec_coilModelUpdate s p i housing
  refine ⟨_, hf, ?_⟩
  split
  · obtain ⟨hot, ref, hset⟩ := moveCoil_solSet (s.onSys fun x => { x with housing := housing }) p f
    exact ⟨moveCoil_housing _ p f, hset.2⟩
  · exact ⟨rfl, fun _ _ => rfl⟩

section
variable {s : State} {p : PortId} {v i least : Nat}

/-- A port whose resistance window begins afresh (R94). -/
def SolPort.freshWindow (x : SolPort) : SolPort := { x with windowDirty := false }

/-- The coil temperature that the mean voltage `v` and the mean current `i` of a window give, °C (R94). -/
def State.measuredTemp (s : State) (p : PortId) (v i : Nat) : Rat :=
  20 + (((4 * v : Nat) : Rat) / (i : Nat) / ((s.rref p : Nat) / 100) - 1) / (393 / 100000)

/-- A coil whose temperature moves a quarter of the way to `tm` (R94). -/
def SolPort.quarterTo (tm : Rat) (x : SolPort) : SolPort := { x with tcu := x.tcu + (tm - x.tcu) / 4 }

theorem exec_window_valid (h : s.sol.ports[p].phase = .hold) (hw : s.sol.ports[p].windowDirty = false)
    (hl : 100 * 256 ≤ 1000 * least) (hi : 0 < i) :
    exec (.windingResistanceWindow p v i least true) s =
      .next ((s.setSol p .freshWindow).moveCoil p (.quarterTo (s.measuredTemp p v i))) := by
  have hvalid : (!s.sol.ports[p].windowDirty && decide (100 * 256 ≤ 1000 * least) && true && decide (0 < i)) = true := by
    simp only [hw, hl, hi, Bool.not_false, decide_true, Bool.and_self]
  exact congrArg Host.Outcome.next ((if_pos h).trans (if_pos hvalid))

theorem exec_window_invalid (h : s.sol.ports[p].phase = .hold) :
    exec (.windingResistanceWindow p v i least false) s = .next (s.setSol p .freshWindow) := by
  have hvalid : ¬ (!s.sol.ports[p].windowDirty && decide (100 * 256 ≤ 1000 * least) && false && decide (0 < i)) = true :=
    by simp only [Bool.and_false, Bool.false_and, Bool.false_eq_true, not_false_iff]
  exact congrArg Host.Outcome.next ((if_pos h).trans (if_neg hvalid))

end

/-! ### Delay tables (R85, R98) -/

section
variable {s : State} {v : Word}

theorem saveDelays_saved (s : State) (p : PortId) : s.saveDelays.sol.saved[p] = s.savedDelays p :=
  Vector.getElem_ofFn (f := s.savedDelays) p.isLt

theorem saveDelays_ports (s : State) : s.saveDelays.sol.ports = s.sol.ports := by
  rw [State.saveDelays, State.onSol_sol]

theorem writeDsel_of_band (hb : bits v 0 4 < 10) : ∃ w, s.writeDsel v = (s.onSol fun x =>
    { x with
      selPort := Fin.ofNat 32 (bits v 8 5)
      selBand := bits v 0 4
      dopen := (s.sol.ports[(Fin.ofNat 32 (bits v 8 5) : PortId)].tabOpen[(Fin.ofNat 10 (bits v 0 4) : Fin 10)]).reg
      dclose := (s.sol.ports[(Fin.ofNat 32 (bits v 8 5) : PortId)].tabClose[(Fin.ofNat 10 (bits v 0 4) : Fin 10)]).reg
      dspread := w }, .ok) :=
  ⟨_, if_neg (Nat.not_le.mpr hb)⟩

/-- The bands that SOL_DCLR selects: all, or the one of SOL_DSEL (R98). -/
def State.dclrBands (s : State) (v : Word) : Nat := if bit v 16 then 1023 else 2 ^ s.sol.selBand

/-- The tables with the bands of a mask emptied. -/
def clearBands (bands : Nat) (t : Vector DelayTab 10) : Vector DelayTab 10 :=
  updAll t fun b x => if (bands / 2 ^ b.val) % 2 = 1 then {} else x

theorem clearBands_get (bands : Nat) (t : Vector DelayTab 10) (b : Fin 10) :
    (clearBands bands t)[b] = if (bands / 2 ^ b.val) % 2 = 1 then {} else t[b] := updAll_get _ _ _

/-- A port with the bands of a mask emptied in its tables of both directions. -/
def SolPort.clearTables (bands : Nat) (x : SolPort) : SolPort :=
  { x with tabOpen := clearBands bands x.tabOpen, tabClose := clearBands bands x.tabClose }

theorem clearDelays_sol (s : State) (p : PortId) (bands cause : Nat) :
    (s.clearDelays p bands cause).sol = (s.setSol p (.clearTables bands)).sol :=
  emit_sol _ _

theorem writeDclr_clears (h : bit v 0 = true) : ∃ u, s.writeDclr v = (u, .ok) ∧
    u.sol = ((s.onSol fun x => { x with allBands := bit v 16 }).setSol s.sol.selPort
      (.clearTables (s.dclrBands v))).sol :=
  ⟨_, if_pos h, (delayNews_sol _ _ _).trans (clearDelays_sol _ _ _ _)⟩

theorem writeDclr_without (h : bit v 0 = false) :
    s.writeDclr v = (s.onSol fun x => { x with allBands := bit v 16 }, .ok) :=
  if_neg (Bool.eq_false_iff.mp h)

end

/-- Settles O27: each clause is one shared operation on the ports, or a write of the registers that select and clear the
tables. -/
theorem solenoidBudgetCoilsAndTables : Obligations.SolenoidBudgetCoilsAndTables := by
  refine ⟨fun g p d s hq hw hf hd hr => ?start, fun g p k r d s hq hw hf hd hsrc hn => ?stale,
    fun p i housing s => ?coil, fun p v i least s h hw hl hi => ?valid, fun p v i least s h => ?invalid,
    fun s => ?save, fun v k s hg hb => ?select, fun v k s hg hb => ?clear, fun v k s hg hb => ?keep⟩
  case start =>
    obtain ⟨hphase, hother⟩ := startHit_enters s p (some d.src) d.dur d.keepEnd
    have he := exec_deferredHitStart hq hw hf hd hr
    exact ⟨_, he, hphase, hother, next_only
      (execDeferredHitStart_keep g s (.refl s : Keep [.sys, .ports, .sol, .log, .hie, .mon] s s) rfl) he⟩
  case stale =>
    have he := exec_hitDeferredTimeout hq hw hf hd hsrc hn
    obtain ⟨hport, hother⟩ := setSol_solSet s p fun x => { x with pend := none }
    refine ⟨_, he, ?_, fun q hne => ?_, ?_, ?_, next_only
      (execHitDeferredTimeout_keep g s (.refl s : Keep [.sys, .ports, .sol, .log, .hie, .mon] s s) rfl) he⟩
    · simpa only [emit_sol, onGroup_solPorts, answer_sol] using hport
    · simpa only [emit_sol, onGroup_solPorts, answer_sol] using hother q hne
    · simp only [emit_sol, onGroup_groups, answer_sol]
      rfl
    · rw [emit_answers, onGroup_sys, answer_answers, setSol_sys]
  case coil =>
    obtain ⟨t, he, hhousing, hother⟩ := coilModelUpdate_clauses s p i housing
    exact ⟨t, he, hhousing, hother, next_only
      (execCoilModelUpdate_keep p i housing s (.refl s : Keep [.sys, .sol, .log, .hie, .mon] s s) rfl) he⟩
  case valid =>
    have he := exec_window_valid (v := v) h hw hl hi
    have hfresh := setSol_solSet s p .freshWindow
    obtain ⟨hot, ref, hmove⟩ := moveCoil_solSet (s.setSol p .freshWindow) p (.quarterTo (s.measuredTemp p v i))
    rw [hfresh.1] at hmove
    obtain ⟨hport, hother⟩ := hfresh.trans hmove
    refine ⟨_, he, ?_, hother, next_only
      (execWindingResistanceWindow_keep p v i least true s (.refl s : Keep [.sys, .sol, .log, .hie, .mon] s s) rfl) he⟩
    rw [hport]
    rfl
  case invalid =>
    obtain ⟨hport, hother⟩ := setSol_solSet s p .freshWindow
    exact ⟨_, exec_window_invalid h, hport, hother, (setSol_keep s p _ (.refl s) rfl).toOnly⟩
  case save =>
    exact ⟨s.saveDelays, rfl, saveDelays_saved s, rfl, rfl, saveDelays_ports s, (saveDelays_keep s (.refl s) rfl).toOnly⟩
  case select =>
    obtain ⟨w, hsel⟩ := writeDsel_of_band (s := s) hb
    obtain ⟨he, honly⟩ := gated_acts (go := (·.writeDsel v)) hg hsel
      (onSol_keep s _ (.refl s) rfl : Keep [.sys, .sol] s _) (by decide)
    exact ⟨_, congrArg Host.Outcome.next he, rfl, rfl, rfl, rfl, rfl, rfl, honly⟩
  case clear =>
    obtain ⟨u, hclr, hsol⟩ := writeDclr_clears (s := s) hb
    have hk : Keep [.sys, .sol, .log, .hie, .mon] s u := by
      have h := writeDclr_keep s v (.refl s : Keep [.sys, .sol, .log, .hie, .mon] s s) rfl
      rwa [hclr] at h
    obtain ⟨he, honly⟩ := gated_acts (go := (·.writeDclr v)) hg hclr hk (by decide)
    obtain ⟨hport, hother⟩ := setSol_solSet (s.onSol fun x => { x with allBands := bit v 16 }) s.sol.selPort
      (.clearTables (s.dclrBands v))
    rw [← hsol] at hport hother
    refine ⟨_, congrArg Host.Outcome.next he, congrArg SolState.allBands hsol, fun b => ?_, hother, honly⟩
    dsimp only
    rw [hport]
    exact clearBands_get _ _ b
  case keep =>
    obtain ⟨he, honly⟩ := gated_acts (go := (·.writeDclr v)) hg (writeDclr_without hb)
      (onSol_keep s _ (.refl s) rfl : Keep [.sys, .sol] s _) (by decide)
    exact ⟨_, congrArg Host.Outcome.next he, rfl, honly⟩

end Sys2Proof.Machine
end

section
/-! SUPPORT. A fan controller set, its states, its commands and its registers. -/

namespace Sys2Proof.Machine

open Sys2Proof

/-- The parts that the events and commands of a controller can change. -/
abbrev fanParts : List Part := [.sys, .ports, .sol, .log, .hie, .mon, .fan]

/-! ### One controller set -/

/-- From `s` to `t` controller `f` has become `g` of itself, and no other has changed. -/
def FanSet (s t : State) (f : FanId) (g : Fan → Fan) : Prop :=
  t.fan.fans[f] = g s.fan.fans[f] ∧ ∀ h, h ≠ f → t.fan.fans[h] = s.fan.fans[h]

section
variable {s t u : State} {f : FanId} {g g' : Fan → Fan}

theorem FanSet.congr (h : FanSet s t f g) (e : u.fan = t.fan) : FanSet s u f g := by
  simpa only [FanSet, e] using h

theorem FanSet.after (e : t.fan = s.fan) (h : FanSet t u f g) : FanSet s u f g := by
  simpa only [FanSet, e] using h

theorem FanSet.trans (h : FanSet s t f g) (h' : FanSet t u f g') : FanSet s u f fun x => g' (g x) :=
  ⟨by rw [h'.1, h.1], fun i hi => (h'.2 i hi).trans (h.2 i hi)⟩

@[simp] theorem setFan_get (s : State) (f : FanId) (g : Fan → Fan) :
    (s.setFan f g).fan.fans[f] = g s.fan.fans[f] := upd_same _ _ _

theorem setFan_fanSet (s : State) (f : FanId) (g : Fan → Fan) : FanSet s (s.setFan f g) f g :=
  ⟨upd_same _ _ _, fun _ hi => upd_other _ _ _ _ hi.symm⟩

end

/-! ### Entering a state (R102) -/

/-- A controller in a state with duty 0; a pause keeps ATTEMPT. -/
def Fan.quiet (st : FanStatus) (x : Fan) : Fan :=
  { x with status := st, duty := 0, attempt := if st == .pause then x.attempt else 0 }

/-- A controller in KICK with an attempt number, begun at a tick (R108). -/
def Fan.kick (attempt tick : Nat) (x : Fan) : Fan :=
  { x with status := .kick, attempt := attempt, duty := 0xFFFF, kickAt := tick }

theorem enterQuiet_fanSet (s : State) (f : FanId) (st : FanStatus) : FanSet s (s.enterQuiet f st) f (.quiet st) :=
  (setFan_fanSet s f _).congr (fanDrive_fan _ f)

theorem enterKick_fanSet (s : State) (f : FanId) (n : Nat) : FanSet s (s.enterKick f n) f (.kick n s.tick) :=
  (setFan_fanSet s f _).congr ((fanDrive_fan _ f).trans (State.count_fan _ _ _))

/-- A controller that gives up: it enters a state with duty 0, issues OFF, sets its flag and records why
(R109, R111). -/
theorem giveUp_fanSet (s : State) (f : FanId) (st : FanStatus) (g : Fan → Fan) (e : Ev) :
    FanSet s ((((s.enterQuiet f st).fanIssueOff f).setFan f g).emit e) f fun x => g (x.quiet st) :=
  (((enterQuiet_fanSet s f st).congr (fanIssueOff_fan _ f)).trans (setFan_fanSet _ f g)).congr (emit_fan _ e)

theorem fanMotorOpen_fanSet (s : State) (f : FanId) (i : Int) :
    FanSet s (s.fanMotorOpen f i) f fun x => { x with status := .motorOpen, duty := 0, attempt := 0, moto := true } :=
  giveUp_fanSet s f .motorOpen _ _

/-- A start enters KICK with the first attempt, or STOPPED (R103, R104). -/
theorem fanStart_fanSet (s : State) (f : FanId) (target : Nat) :
    ∃ g : Fan → Fan, FanSet s (s.fanStart f target) f g ∧
      ∀ x, (g x).status = .kick ∧ (g x).attempt = 1 ∨ (g x).status = .stopped := by
  unfold State.fanStart
  split
  · exact ⟨_, enterQuiet_fanSet s f .stopped, fun _ => .inr rfl⟩
  · exact ⟨_, enterKick_fanSet s f 1, fun _ => .inl ⟨rfl, rfl⟩⟩

/-! ### The temperature source (R107) -/

theorem noteTempFault_fanSet (s : State) (f : FanId) :
    FanSet s (s.noteTempFault f) f fun x => { x with tempf := true } := by
  unfold State.noteTempFault
  split
  · next h => exact ⟨by rw [← h], fun _ _ => rfl⟩
  · exact (setFan_fanSet s f _).congr (emit_fan _ _)

/-! ### What the motor does (R109 to R112) -/

section
variable {s : State} {f : FanId} {m : Int}

theorem exec_fanKickTimeout_pause (hst : s.fan.fans[f].status = .kick) (hm : (s.fanImot f : Int) ≤ m)
    (ht : s.fan.fans[f].tacho = false) (ha : s.fan.fans[f].attempt < 4) :
    exec (.fanKickTimeout f m) s = .next (s.enterQuiet f .pause) := by
  change execFanKickTimeout f m s = _
  simp only [execFanKickTimeout, hst, decide_eq_true hm, Bool.not_true, Bool.false_eq_true, if_false, ht, if_pos ha]

/-- FAN_BLOCKED of a controller after its last kick (R109, R120). -/
def State.blockedEv (s : State) (f : FanId) (mean : Int) : Ev :=
  (s.setFan f fun x => { x with blk := true, duty := 0 }).fanEv 0x0701 f .kick mean

theorem exec_fanKickTimeout_blocked (hst : s.fan.fans[f].status = .kick) (hm : (s.fanImot f : Int) ≤ m)
    (ht : s.fan.fans[f].tacho = false) (ha : 4 ≤ s.fan.fans[f].attempt) :
    exec (.fanKickTimeout f m) s = .next
      ((((s.enterQuiet f .blocked).fanIssueOff f).setFan f fun x => { x with blk := true }).emit (s.blockedEv f m)) := by
  change execFanKickTimeout f m s = _
  simp only [execFanKickTimeout, hst, decide_eq_true hm, Bool.not_true, Bool.false_eq_true, if_false, ht,
    if_neg (Nat.not_lt.mpr ha)]
  rfl

theorem exec_fanKickTimeout_open (hst : s.fan.fans[f].status = .kick) (hm : m < (s.fanImot f : Int)) :
    exec (.fanKickTimeout f m) s = .next (s.fanMotorOpen f m) := by
  change execFanKickTimeout f m s = _
  simp only [execFanKickTimeout, hst, decide_eq_false (Int.not_le.mpr hm), Bool.not_false, if_true]

theorem exec_fanPauseEnd (hst : s.fan.fans[f].status = .pause) :
    exec (.fanPauseEnd f) s = .next (s.enterKick f (s.fan.fans[f].attempt + 1)) :=
  congrArg Host.Outcome.next (if_pos hst)

theorem exec_fanStall (hst : s.fan.fans[f].status = .run) (ht : s.fan.fans[f].tacho = false)
    (hs : s.ports[s.fanTach f].stale = false) (hf : s.freq (s.fanTach f) < s.fanFmin f)
    (hd : s.fanDmin f ≤ s.fan.fans[f].duty) : ∃ e, exec (.fanStall f) s = .next ((s.enterKick f 1).emit e) :=
  ⟨_, congrArg Host.Outcome.next (if_pos (by simp only [hst, ht, hs, hf, hd, decide_true, Bool.not_false, Bool.and_self]))⟩

theorem exec_tachJudgement_load (hst : s.fan.fans[f].status = .run) (ht : s.fan.fans[f].tacho = false)
    (hs : s.ports[s.fanTach f].stale = true) (hd : s.fanDmin f ≤ s.fan.fans[f].duty) (hm : (s.fanImot f : Int) ≤ m) :
    ∃ e, exec (.tachJudgement f m) s = .next ((s.setFan f fun x => { x with tacho := true }).emit e) :=
  ⟨_, congrArg Host.Outcome.next ((if_pos (by
    simp only [hst, ht, hs, hd, decide_true, Bool.not_false, Bool.and_self])).trans (if_pos hm))⟩

theorem exec_tachJudgement_open (hst : s.fan.fans[f].status = .run) (ht : s.fan.fans[f].tacho = false)
    (hs : s.ports[s.fanTach f].stale = true) (hd : s.fanDmin f ≤ s.fan.fans[f].duty) (hm : ¬ (s.fanImot f : Int) ≤ m) :
    exec (.tachJudgement f m) s = .next (s.fanMotorOpen f m) :=
  congrArg Host.Outcome.next ((if_pos (by
    simp only [hst, ht, hs, hd, decide_true, Bool.not_false, Bool.and_self])).trans (if_neg hm))

theorem exec_fanTachRestored (ht : s.fan.fans[f].tacho = true) (hs : s.ports[s.fanTach f].stale = false) :
    ∃ e, exec (.fanTachRestored f) s = .next ((s.setFan f fun x => { x with tacho := false }).emit e) :=
  ⟨_, congrArg Host.Outcome.next (if_pos (by simp only [ht, hs, Bool.not_false, Bool.and_self]))⟩

end

/-! ### Commands (R114) -/

section
variable {s u : State} {f : FanId} {k : SessId}

/-- A gated command that succeeds leaves the controllers as its effect does and answers OK. -/
theorem gated_fan {fr : List Part} {st : Status} {g : Fan → Fan} (go : State → State × Status) (hg : st = .ok)
    (hr : go s = (u, .ok)) (hf : FanSet s u f g) (hk : Keep fr s (go s).1) (hp : Part.sys ∈ fr) :
    FanSet s (s.gated k st go) f g ∧ (s.gated k st go).sys.answers = ⟨s.me k, .ok⟩ :: u.sys.answers ∧
      State.Only fr s (s.gated k st go) := by
  rw [hr] at hk
  obtain ⟨he, honly⟩ := gated_acts hg hr hk hp
  rw [he]
  exact ⟨hf, rfl, honly⟩

theorem fanCmd_of_used (go : State → State × Status) (hu : s.fanUsed f = true) :
    s.fanCmd f k go = s.gated k (s.gate k rightCOMMAND) go := by
  simp only [State.fanCmd, hu, Bool.not_true, Bool.false_eq_true, if_false]

/-- A command of a session to a used controller that succeeds, as `gated_fan` says. -/
theorem fanCmd_fan {fr : List Part} {g : Fan → Fan} (go : State → State × Status) (hu : s.fanUsed f = true)
    (hg : s.gate k rightCOMMAND = .ok) (hr : go s = (u, .ok)) (hf : FanSet s u f g) (hk : Keep fr s (go s).1)
    (hp : Part.sys ∈ fr) :
    FanSet s (s.fanCmd f k go) f g ∧ (s.fanCmd f k go).sys.answers = ⟨s.me k, .ok⟩ :: u.sys.answers ∧
      State.Only fr s (s.fanCmd f k go) := by
  rw [fanCmd_of_used go hu]
  exact gated_fan go hg hr hf hk hp

theorem fanOn_of_ok (h : (s.fanOn f).2 = .ok) : s.fanOn f = ((s.fanOn f).1, .ok) := Prod.ext rfl h

theorem fanDisable_of_accepted (h : (s.presentOff (s.fanDrv f) (.fan f)).2.1 = .ok) :
    ∃ u, s.fanDisable f = (u, .ok) ∧
      FanSet s u f fun x => { x with status := .off, duty := 0, attempt := 0, blk := false, moto := false } :=
  ⟨_, if_pos h, .after (presentOff_fan s _ _) ((setFan_fanSet _ f _).trans (enterQuiet_fanSet _ f .off))⟩

theorem fanTarget_fanSet (s : State) (f : FanId) : ∃ g, FanSet s (s.fanTarget f).1 f g := by
  unfold State.fanTarget
  dsimp only
  split
  · exact ⟨_, noteTempFault_fanSet s f⟩
  · exact ⟨_, setFan_fanSet s f _⟩

theorem fanEnable_of_off (hst : s.fan.fans[f].status = .off) (h : (s.fanOn f).2 = .ok) :
    ∃ u g, s.fanEnable f = (u, .ok) ∧ FanSet s u f g ∧
      ∀ x, (g x).status = .kick ∧ (g x).attempt = 1 ∨ (g x).status = .stopped := by
  obtain ⟨g₁, hafresh⟩ := fanTarget_fanSet ((s.fanOn f).1.setFan f fun x => { x with afresh := true }) f
  obtain ⟨g₂, hstart, hg⟩ := fanStart_fanSet _ f _
  refine ⟨_, _, ?_, .after (fanOn_fan s f) (((setFan_fanSet _ f _).trans hafresh).trans hstart), fun _ => hg _⟩
  simp only [State.fanEnable, hst, decide_true, Bool.true_or, if_true]
  rw [fanOn_of_ok h]

theorem fanTest_of_off (hst : s.fan.fans[f].status = .off) (h : (s.fanOn f).2 = .ok) :
    ∃ u t, s.fanTest f = (u, .ok) ∧
      FanSet s u f fun x => { x with status := .test, duty := 0xFFFF, kickAt := t, attempt := 0 } := by
  refine ⟨_, (s.fanOn f).1.tick, ?_, .after (fanOn_fan s f) ((setFan_fanSet _ f _).congr (fanDrive_fan _ f))⟩
  simp only [State.fanTest, hst, if_true]
  rw [fanOn_of_ok h]

theorem fanRestart_of_open (hst : s.fan.fans[f].status = .blocked ∨ s.fan.fans[f].status = .motorOpen)
    (h : (s.fanOn f).2 = .ok) :
    ∃ u t, s.fanRestart f = (u, .ok) ∧ FanSet s u f fun x => Fan.kick 1 t { x with blk := false, moto := false } := by
  refine ⟨_, _, ?_, .after (fanOn_fan s f) ((setFan_fanSet _ f _).trans (enterKick_fanSet _ f 1))⟩
  have hc : (s.fan.fans[f].status = .blocked || s.fan.fans[f].status = .motorOpen) = true := by simpa using hst
  simp only [State.fanRestart, hc, if_true]
  rw [fanOn_of_ok h]

end

/-- Settles O28: each event named is one `FanSet` of its controller, and so is the effect of each accepted command. -/
theorem fanStatesFollowMotorAndCommands : Obligations.FanStatesFollowMotorAndCommands := by
  refine ⟨fun f m s hst hm ht ha => ?pause, fun f m s hst hm ht ha => ?blocked, fun f m s hst hm => ?isOpen,
    fun f s hst => ?pauseEnd, fun f s hst ht hs hf hd => ?stall, fun f m s hst ht hs hd => ?judgement,
    fun f s ht hs => ?restored, fun f k s hu hg ho => ?disable, fun f k s hu hg hst ho => ?enable,
    fun f k s hu hg hst ho => ?test, fun f k s hu hg hst ho => ?restart⟩
  case pause =>
    have he := exec_fanKickTimeout_pause hst hm ht ha
    obtain ⟨hfan, hother⟩ := enterQuiet_fanSet s f .pause
    exact ⟨_, he, hfan, hother, next_only (execFanKickTimeout_keep f m s (.refl s : Keep fanParts s s) rfl) he⟩
  case blocked =>
    have he := exec_fanKickTimeout_blocked hst hm ht ha
    obtain ⟨hfan, hother⟩ := giveUp_fanSet s f .blocked (fun x => { x with blk := true }) (s.blockedEv f m)
    refine ⟨_, he, ?_, ?_, ?_, hother, next_only (execFanKickTimeout_keep f m s
      (.refl s : Keep fanParts s s) rfl) he⟩ <;> rw [hfan] <;> rfl
  case isOpen =>
    have he := exec_fanKickTimeout_open hst hm
    obtain ⟨hfan, hother⟩ := fanMotorOpen_fanSet s f m
    exact ⟨_, he, hfan, hother, next_only (execFanKickTimeout_keep f m s (.refl s : Keep fanParts s s) rfl) he⟩
  case pauseEnd =>
    have he := exec_fanPauseEnd hst
    obtain ⟨hfan, hother⟩ := enterKick_fanSet s f (s.fan.fans[f].attempt + 1)
    refine ⟨_, he, ?_, ?_, ?_, hother, next_only (execFanPauseEnd_keep f s
      (.refl s : Keep [.ports, .mon, .fan] s s) rfl) he⟩ <;> rw [hfan] <;> rfl
  case stall =>
    obtain ⟨e, he⟩ := exec_fanStall hst ht hs hf hd
    obtain ⟨hfan, hother⟩ := (enterKick_fanSet s f 1).congr (emit_fan _ e)
    refine ⟨_, he, ?_, ?_, hother, next_only (execFanStall_keep f s
      (.refl s : Keep [.sys, .ports, .log, .mon, .fan] s s) rfl) he⟩ <;> rw [hfan] <;> rfl
  case judgement =>
    by_cases hm : (s.fanImot f : Int) ≤ m
    · rw [if_pos hm]
      obtain ⟨e, he⟩ := exec_tachJudgement_load hst ht hs hd hm
      obtain ⟨hfan, hother⟩ := (setFan_fanSet s f fun x => { x with tacho := true }).congr (emit_fan _ e)
      exact ⟨_, he, hfan, hother, next_only (execTachJudgement_keep f m s (.refl s : Keep fanParts s s) rfl) he⟩
    · rw [if_neg hm]
      have he := exec_tachJudgement_open hst ht hs hd hm
      obtain ⟨hfan, hother⟩ := fanMotorOpen_fanSet s f m
      exact ⟨_, he, hfan, hother, next_only (execTachJudgement_keep f m s (.refl s : Keep fanParts s s) rfl) he⟩
  case restored =>
    obtain ⟨e, he⟩ := exec_fanTachRestored ht hs
    obtain ⟨hfan, hother⟩ := (setFan_fanSet s f fun x => { x with tacho := false }).congr (emit_fan _ e)
    exact ⟨_, he, hfan, hother, next_only (execFanTachRestored_keep f s
      (.refl s : Keep [.sys, .log, .mon, .fan] s s) rfl) he⟩
  case disable =>
    obtain ⟨u, hr, hset⟩ := fanDisable_of_accepted ho
    obtain ⟨⟨hfan, hother⟩, -, honly⟩ := fanCmd_fan (·.fanDisable f) hu hg hr hset
      (fanDisable_keep s f (.refl s : Keep [.sys, .ports, .sol, .hie, .mon, .fan] s s) rfl) (by decide)
    exact ⟨_, rfl, hfan, hother, honly⟩
  case enable =>
    obtain ⟨u, g, hr, hset, hg'⟩ := fanEnable_of_off hst ho
    obtain ⟨⟨hfan, hother⟩, -, honly⟩ := fanCmd_fan (·.fanEnable f) hu hg hr hset
      (fanEnable_keep s f (.refl s : Keep fanParts s s) rfl) (by decide)
    exact ⟨_, rfl, hfan ▸ hg' _, hother, honly⟩
  case test =>
    obtain ⟨u, n, hr, hset⟩ := fanTest_of_off hst ho
    obtain ⟨⟨hfan, hother⟩, -, honly⟩ := fanCmd_fan (·.fanTest f) hu hg hr hset
      (fanTest_keep s f (.refl s : Keep fanParts s s) rfl) (by decide)
    refine ⟨_, rfl, ?_, ?_, hother, honly⟩ <;> rw [hfan]
  case restart =>
    obtain ⟨u, n, hr, hset⟩ := fanRestart_of_open hst ho
    obtain ⟨⟨hfan, hother⟩, -, honly⟩ := fanCmd_fan (·.fanRestart f) hu hg hr hset
      (fanRestart_keep s f (.refl s : Keep fanParts s s) rfl) (by decide)
    refine ⟨_, rfl, ?_, ?_, ?_, ?_, hother, honly⟩ <;> rw [hfan] <;> rfl

end Sys2Proof.Machine
end

section
/-! SUPPORT. The evaluation of a fan controller, its registers, its ageing data and THERM_TRIP_N. -/

namespace Sys2Proof.Machine

open Sys2Proof

/-! ### An evaluation in RUN (R104 to R106) -/

/-- The step that the temperature selects from the step in force (R104). -/
def State.fanNextStep (s : State) (f : FanId) : Nat :=
  s.stepDown f (s.fanTemp f) 16 (s.stepUp f (s.fanTemp f) 16 s.fan.fans[f].step)

/-- The duty of that step, out of the skip bands (R105). -/
def State.fanNextTarget (s : State) (f : FanId) : Nat :=
  edgeOf (s.fanSkips f) s.fan.fans[f].duty (s.fanD f (s.fanNextStep f))

/-- The duty in force slewed towards it (R105). -/
def State.fanNextDuty (s : State) (f : FanId) : Nat :=
  slewStep (s.fanSkips f) (s.fanSlew f) s.fan.fans[f].duty (s.fanNextTarget f)

/-- A controller that has taken a temperature and a step (R104). -/
def Fan.sampled (temp : Int) (step : Nat) (x : Fan) : Fan :=
  { x with temp := temp, step := step, tempf := false, afresh := false }

section
variable {s : State} {f : FanId}

theorem fanTarget_of_valid (hf : s.fanSrcFaulted f = false) (ha : s.fan.fans[f].afresh = false)
    (ht : s.fan.fans[f].tempf = false) (hm : s.fan.fans[f].man = false) :
    s.fanTarget f = (s.setFan f (.sampled (s.fanTemp f) (s.fanNextStep f)), s.fanD f (s.fanNextStep f)) := by
  simp only [State.fanTarget, hf, ha, ht, hm, Bool.or_self, Bool.false_eq_true, if_false]
  rfl

theorem fanAim_of_run (raw : Nat) (hst : s.fan.fans[f].status = .run) :
    s.fanAim f raw = edgeOf (s.fanSkips f) s.fan.fans[f].duty raw := by
  simp only [State.fanAim, hst]
  rfl

@[simp] theorem fanHeld_setFan (s : State) (f i : FanId) (g : Fan → Fan) : (s.setFan f g).fanHeld i = s.fanHeld i := rfl

@[simp] theorem fanSkips_setFan (s : State) (f i : FanId) (g : Fan → Fan) :
    (s.setFan f g).fanSkips i = s.fanSkips i := rfl

@[simp] theorem fanSlew_setFan (s : State) (f i : FanId) (g : Fan → Fan) :
    (s.setFan f g).fanSlew i = s.fanSlew i := rfl

/-- The state after an evaluation in RUN with a valid source that leaves the duty above 0. -/
def State.fanRan (s : State) (f : FanId) : State :=
  (((s.setFan f (.sampled (s.fanTemp f) (s.fanNextStep f))).setFan f fun x =>
    { x with target := s.fanNextTarget f }).setFan f fun x => { x with duty := s.fanNextDuty f }).fanDrive f

theorem fanRan_fanSet (s : State) (f : FanId) : FanSet s (s.fanRan f) f fun x =>
    { x.sampled (s.fanTemp f) (s.fanNextStep f) with target := s.fanNextTarget f, duty := s.fanNextDuty f } :=
  (((setFan_fanSet s f _).trans (setFan_fanSet _ f _)).trans (setFan_fanSet _ f _)).congr (fanDrive_fan _ f)

theorem exec_fanEvaluation_run (hu : s.fanUsed f = true) (hr : s.rcp.applied = true) (hf : s.fanSrcFaulted f = false)
    (hh : s.fanHeld f = false) (hst : s.fan.fans[f].status = .run) (ha : s.fan.fans[f].afresh = false)
    (ht : s.fan.fans[f].tempf = false) (hm : s.fan.fans[f].man = false) (hd : s.fanNextDuty f ≠ 0) :
    exec (.fanEvaluation f) s = .next (s.fanRan f) := by
  have hst' : (s.setFan f (.sampled (s.fanTemp f) (s.fanNextStep f))).fan.fans[f].status = .run := by
    rw [setFan_get]
    exact hst
  have hduty : (s.setFan f (.sampled (s.fanTemp f) (s.fanNextStep f))).fan.fans[f].duty = s.fan.fans[f].duty := by
    rw [setFan_get]
    rfl
  change execFanEvaluation f s = _
  simp only [execFanEvaluation, fanTarget_of_valid hf ha ht hm, fanAim_of_run _ hst', hu, hr, hst', hh, fanHeld_setFan,
    hduty, fanSkips_setFan, fanSlew_setFan, Bool.not_true, Bool.or_self, Bool.false_eq_true, if_false]
  exact congrArg Host.Outcome.next ((if_neg (by decide)).trans (if_neg fun h => hd h.1))

/-! ### The temperature source (R107) -/

theorem fanW_of {s t : State} (h : t.rcp = s.rcp) (f : FanId) (k : Nat) : t.fanW f k = s.fanW f k := rw_of h _ _ _ _

/-- A target depends on the Recipe, the state of the controller and its duty. -/
theorem fanAim_of {s t : State} {f : FanId} (h : t.rcp = s.rcp) (hst : t.fan.fans[f].status = s.fan.fans[f].status)
    (hd : t.fan.fans[f].duty = s.fan.fans[f].duty) (raw : Nat) : t.fanAim f raw = s.fanAim f raw := by
  simp only [State.fanAim, State.fanSkips, fanW_of h, hst, hd]

/-- The target of controller `f` under a faulted source: its manual duty or FAILDUTY, out of the skip bands
(R105, R107). -/
def State.faultTarget (s : State) (f : FanId) (x : Fan) : Nat :=
  s.fanAim f (if x.man then x.mduty * 257 else s.fanFail f)

theorem faultTarget_noteTempFault (s : State) (f : FanId) (x : Fan) :
    (s.noteTempFault f).faultTarget f x = s.faultTarget f x := by
  have hr : (s.noteTempFault f).rcp = s.rcp :=
    (noteTempFault_keep s f (.refl s) rfl : Keep [.sys, .log, .mon, .fan] s _).only .rcp (by decide)
  have hfan := (noteTempFault_fanSet s f).1
  have haim := fanAim_of (f := f) hr (by rw [hfan]) (by rw [hfan])
  simp only [State.faultTarget, haim, State.fanFail, fanW_of hr]

theorem exec_fanTempFault (hu : s.fanUsed f = true) (hf : s.fanSrcFaulted f = true) : exec (.fanTempFault f) s =
    .next ((s.noteTempFault f).setFan f fun x => { x with target := s.faultTarget f x }) := by
  have he : exec (.fanTempFault f) s = .next ((s.noteTempFault f).setFan f fun x =>
      { x with target := (s.noteTempFault f).faultTarget f x }) :=
    congrArg Host.Outcome.next (if_pos (by rw [hu, hf]; rfl))
  simpa only [faultTarget_noteTempFault] using he

end

/-! ### Registers (R107, R116) -/

section
variable {s : State} {f : FanId} {v : Word} {k : SessId}

theorem writeMduty_of_free (ha : s.admits (s.fanDrv f) (s.me k) = true) (hr : s.rulesAt (s.fanDrv f) = [])
    (hmin : s.dutyMin (s.fanDrv f) ≤ bits v 0 8 * 257) (hmax : bits v 0 8 * 257 ≤ s.dutyMax (s.fanDrv f))
    (hc : s.check4 (s.fanDrv f) false = .ok) :
    s.writeMduty f v k = (s.setFan f fun x => { x with man := bit v 31, mduty := bits v 0 8 }, .ok) := by
  simp only [State.writeMduty, ha, hr, List.any_nil, Bool.and_false, Bool.not_false, decide_eq_true hmin,
    decide_eq_true hmax, Bool.and_self, Bool.or_true, firstFail, if_true, hc]

end

/-! ### Ageing (R115, R116) -/

theorem sample_count (a : FanAge) (n : Rat) : (a.sample n).1.count = a.count + 1 := by
  unfold FanAge.sample
  split
  · rfl
  · dsimp only
    split <;> rfl

theorem exec_ageingSample {s : State} {f : FanId} {vbank freq : Nat} (hst : s.fan.fans[f].status = .run)
    (ht : s.fan.fans[f].tacho = false) (hr : s.fanReff f ≠ 0) (hf : freq ≠ 0)
    (hlo : 95 * s.fanReff f * 256 ≤ 100 * freq) (hhi : 100 * freq ≤ 105 * s.fanReff f * 256) :
    ∃ n noted es, exec (.ageingSample f vbank freq true) s = .next ((s.setFan f fun x =>
      { x with age := { (s.fan.fans[f].age.sample n).1 with noted := noted } }).emitAll es) :=
  ⟨_, _, _, congrArg Host.Outcome.next (if_pos (by
    simp only [hst, ht, bne_iff_ne.mpr hr, bne_iff_ne.mpr hf, decide_eq_true hlo, decide_eq_true hhi, decide_true,
      Bool.not_false, Bool.and_self]))⟩

theorem saveAge_saved (s : State) (f : FanId) :
    s.saveAge.fan.saved[f] = ⟨s.fan.fans[f].age, (s.fanDrv f).val, (s.fanTach f).val, s.fanReff f⟩ :=
  Vector.getElem_ofFn (f := fun i : FanId =>
    (⟨s.fan.fans[i].age, (s.fanDrv i).val, (s.fanTach i).val, s.fanReff i⟩ : FanSaved)) f.isLt

theorem clearAge_fanSet (s : State) (f : FanId) : FanSet s (s.clearAge f) f fun x => { x with age := {} } :=
  (setFan_fanSet s f _).congr (emit_fan _ _)

/-! ### THERM_TRIP_N (R117, R119) -/

theorem exec_thermTrip {s : State} (low sfault : Bool) (sensor : Int) (hc : s.pwr.comparator = true) :
    ∃ t, exec (.thermTrip low sfault sensor) s = .next t ∧
      t.fan = { s.fan with trip := low, sfault := sfault, sensor := sensor } := by
  refine ⟨_, congrArg Host.Outcome.next (if_pos hc), ?_⟩
  dsimp only
  split
  · exact emit_fan _ _
  · rfl

/-- Settles O29: the evaluation, the registers and the ageing each are one `FanSet` of their controller; saving and the
comparator touch none. -/
theorem fanEvaluationRegistersAndAgeing : Obligations.FanEvaluationRegistersAndAgeing := by
  refine ⟨fun f s hu hr hf hh hst ha ht hm hd => ?evaluation, fun f s hu hf => ?fault,
    fun f v k s hu hg ha hr hmin hmax hc => ?mduty, fun f v k s hu hg => ?htemp,
    fun f vbank freq s hst ht hr hf hlo hhi => ?sample, fun s => ?save, fun f v k s hu hg hb => ?clear,
    fun low sfault sensor s hc => ?trip⟩
  case evaluation =>
    have he := exec_fanEvaluation_run hu hr hf hh hst ha ht hm hd
    obtain ⟨hfan, hother⟩ := fanRan_fanSet s f
    have hk := next_only (execFanEvaluation_keep f s (.refl s : Keep fanParts s s) rfl) he
    refine ⟨_, he, ?_, ?_, ?_, ?_, hother, hk⟩ <;> rw [hfan]
    · rfl
    · rfl
    · rfl
    · exact hst
  case fault =>
    have he := exec_fanTempFault hu hf
    obtain ⟨hfan, hother⟩ := (noteTempFault_fanSet s f).trans (setFan_fanSet _ f fun x =>
      { x with target := s.faultTarget f x })
    exact ⟨_, he, hfan, hother, next_only (execFanTempFault_keep f s
      (.refl s : Keep [.sys, .log, .mon, .fan] s s) rfl) he⟩
  case mduty =>
    obtain ⟨⟨hfan, hother⟩, hans, honly⟩ := fanCmd_fan (·.writeMduty f v k) hu hg (writeMduty_of_free ha hr hmin hmax hc)
      (setFan_fanSet s f _) (writeMduty_keep s f v k (.refl s : Keep [.sys, .hie, .mon, .fan] s s) rfl) (by decide)
    exact ⟨_, rfl, hfan, hans, hother, honly⟩
  case htemp =>
    obtain ⟨⟨hfan, hother⟩, hans, honly⟩ := gated_fan (·.writeHtemp f v) hg (if_pos hu)
      (setFan_fanSet s f _) (writeHtemp_keep s f v (.refl s : Keep [.sys, .fan] s s) rfl) (by decide)
    exact ⟨_, congrArg Host.Outcome.next (if_pos hu), hfan, hans, hother, honly⟩
  case sample =>
    obtain ⟨n, noted, es, he⟩ := exec_ageingSample (vbank := vbank) hst ht hr hf hlo hhi
    obtain ⟨hfan, hother⟩ := (setFan_fanSet s f fun x =>
      { x with age := { (s.fan.fans[f].age.sample n).1 with noted := noted } }).congr (emitAll_fan _ es)
    refine ⟨_, he, ?_, ?_, hother, (emitAll_keep _ es (setFan_keep s f _ (.refl s) rfl) rfl :
      Keep [.sys, .log, .mon, .fan] s _).toOnly⟩ <;> rw [hfan]
    exact sample_count _ n
  case save =>
    exact ⟨s.saveAge, rfl, saveAge_saved s, rfl, rfl, (saveAge_keep s (.refl s) rfl).toOnly⟩
  case clear =>
    obtain ⟨⟨hfan, hother⟩, -, honly⟩ := gated_fan (·.writeAgeclr f v) hg ((if_pos hu).trans (if_pos hb))
      (clearAge_fanSet s f) (writeAgeclr_keep s f v (.refl s : Keep [.sys, .log, .mon, .fan] s s) rfl) (by decide)
    exact ⟨_, congrArg Host.Outcome.next (if_pos hu), hfan, hother, honly⟩
  case trip =>
    obtain ⟨t, he, hfan⟩ := exec_thermTrip low sfault sensor hc
    exact ⟨t, he, hfan, next_only (execThermTrip_keep low sfault sensor s
      (.refl s : Keep [.sys, .log, .mon, .fan] s s) rfl) he⟩

end Sys2Proof.Machine
end

section
/-! SUPPORT. The trigger of a slot, the supervision of its sources, and the commands of a Take. -/

namespace Sys2Proof.Machine

open Sys2Proof

/-! ### What presenting an output leaves of a slot (R141, R156) -/

/-- The slot `y` is the slot `x` but for what presenting an output writes (R141, R154). -/
def SameButOut (x y : Slot) : Prop := ∃ o a f, y = { x with out := o, applied := a, firstUse := f }

theorem SameButOut.proj {β : Type} {x y : Slot} (h : SameButOut x y) (g : Slot → β)
    (hg : ∀ o a f, g { x with out := o, applied := a, firstUse := f } = g x) : g y = g x := by
  obtain ⟨o, a, f, rfl⟩ := h
  exact hg o a f

theorem presented_eng (r : State × Status × Bool) (src : Src) : (State.presented r src).eng = r.1.eng := by
  unfold State.presented
  split
  · exact answer_eng _ _ _
  · rfl

theorem setSlot_get (s : State) (n m : SlotId) (f : Slot → Slot) :
    (s.setSlot n f).eng.slots[m] = if n = m then f s.eng.slots[n] else s.eng.slots[m] := upd_get _ _ _ _

section
variable (s : State) (n : SlotId)

theorem toSinks_eng (o : Int) : (s.toSinks n o).eng = s.eng :=
  (toSinks_keep s n o (.refl s) rfl : Keep [.ports] s _).only .eng (by decide)

theorem applyOut_get (o : Int) (safe : Bool) (m : SlotId) : ∃ a f, (s.applyOut n o safe).eng.slots[m] =
    { s.eng.slots[m] with out := if n = m then s.clampOut n o else s.eng.slots[m].out, applied := a, firstUse := f } := by
  unfold State.applyOut
  simp only [present_eng, toSinks_eng, State.onEng_eng, updAll_get, setSlot_get]
  by_cases h : n = m
  · subst h
    simp only [if_true]
    split <;> exact ⟨_, _, rfl⟩
  · simp only [h, if_false]
    split <;> exact ⟨_, _, rfl⟩

theorem applyOut_sameButOut (o : Int) (safe : Bool) (m : SlotId) :
    SameButOut s.eng.slots[m] (s.applyOut n o safe).eng.slots[m] := by
  obtain ⟨a, f, h⟩ := applyOut_get s n o safe m
  exact ⟨_, a, f, h⟩

/-- The OFF that a safe output can give to the ports changes no slot. -/
theorem applySafe_eng : (s.applySafe n).eng = (s.applyOut n (s.safeValue n) true).eng := by
  unfold State.applySafe
  dsimp only
  split
  · generalize s.applyOut n (s.safeValue n) true = u
    induction s.portSinks n generalizing u with
    | nil => rfl
    | cons e l ih => rw [List.foldl_cons, ih, presented_eng, presentOff_eng]
  · rfl

theorem takeEarly_slots (reason : Nat) : (s.takeEarly reason).eng.slots = s.eng.slots := by
  unfold State.takeEarly
  dsimp only
  split
  · rw [emit_eng]
    rfl
  · rfl

/-- A slot in FAULT with cause `c`, as R146, R155 and R158 put it there. -/
def Slot.faulted (c : FCause) (x : Slot) : Slot :=
  { x with mode := .fault, fcause := c, modePend := none, ramp := false, track := false, feSince := none, vprev := none,
           df := 0, first := 0 }

/-- The mode request that waits for slot `n`, if there is one, answered FAULTED. -/
def State.faultRequest (s : State) (n : SlotId) : State :=
  match s.eng.slots[n].modePend with
  | some (_, src) => s.answer src .faulted
  | none => s

theorem faultRequest_eng : (s.faultRequest n).eng = s.eng := by
  unfold State.faultRequest
  split
  · exact answer_eng _ _ _
  · rfl

theorem slotFault_slots (c : FCause) (code : Nat) (a b : Int) : (s.slotFault n c code a b).eng.slots =
    (((s.faultRequest n).setSlot n (.faulted c)).applySafe n).eng.slots := by
  have hend (u : State) : (if u.eng.take.slot = n then u.takeEarly 3 else u).eng.slots = u.eng.slots := by
    split
    · exact takeEarly_slots u 3
    · rfl
  exact (hend _).trans (congrArg EngState.slots (emit_eng _ _))

/-- A fault puts its slot into FAULT and presents the safe output; the other slots at most see that output. -/
theorem slotFault_sameButOut (c : FCause) (code : Nat) (a b : Int) (m : SlotId) :
    SameButOut (if n = m then s.eng.slots[n].faulted c else s.eng.slots[m]) (s.slotFault n c code a b).eng.slots[m] := by
  have h := applyOut_sameButOut ((s.faultRequest n).setSlot n (.faulted c)) n
    (((s.faultRequest n).setSlot n (.faulted c)).safeValue n) true m
  rwa [setSlot_get, faultRequest_eng, ← applySafe_eng, ← slotFault_slots s n c code a b] at h

theorem slotFault_faults (c : FCause) (code : Nat) (a b : Int) :
    SameButOut (s.eng.slots[n].faulted c) (s.slotFault n c code a b).eng.slots[n] := by
  have h := slotFault_sameButOut s n c code a b n
  rwa [if_pos rfl] at h

theorem slotFault_mode_other (c : FCause) (code : Nat) (a b : Int) {m : SlotId} (hm : m ≠ n) :
    (s.slotFault n c code a b).eng.slots[m].mode = s.eng.slots[m].mode := by
  have h := slotFault_sameButOut s n c code a b m
  rw [if_neg hm.symm] at h
  exact h.proj Slot.mode fun _ _ _ => rfl

end

/-! ### Lost sources and following errors (R145, R146, R155) -/

section
variable {s : State} {n : SlotId}

theorem exec_followingError (hm : s.eng.slots[n].mode = .auto) (hf : s.eng.slots[n].feSince.isSome = true) :
    exec (.followingError n) s =
      .next (s.slotFault n .following 0x0805 (s.eng.slots[n].spv - s.eng.slots[n].fb) (s.emax n)) := by
  change execFollowingError n s = _
  simp only [execFollowingError, hm, hf, decide_true, Bool.and_self, if_true]

theorem exec_feedbackLost (hu : s.slotUsed n = true) (hl : s.fbLostNow n = true) :
    exec (.feedbackLost n) s = .next (s.feedbackLost n) := by
  change execFeedbackLost n s = _
  simp only [execFeedbackLost, hu, hl, Bool.and_self, if_true]

theorem exec_setpointLost (hu : s.slotUsed n = true) (hl : s.spLostNow n = true) :
    exec (.setpointLost n) s = .next (s.setpointLost n) := by
  change execSetpointLost n s = _
  simp only [execSetpointLost, hu, hl, Bool.and_self, if_true]

/-- A slot whose feedback is noted as lost. -/
def Slot.loseFb (x : Slot) : Slot := { x with fbLost := true }

theorem feedbackLost_of_auto (hl : s.eng.slots[n].fbLost = false) (hm : s.eng.slots[n].mode = .auto) :
    s.feedbackLost n = (s.setSlot n .loseFb).slotFault n .feedback 0x0808 (s.fbidx n) s.eng.slots[n].fb := by
  have hF : (SlotMode.auto == SlotMode.fault) = false := rfl
  simp only [State.feedbackLost, hl, hm, hF, Bool.or_self, Bool.false_eq_true, if_false, if_true]
  rfl

theorem feedbackLost_recorded (hl : s.eng.slots[n].fbLost = false) (hA : s.eng.slots[n].mode ≠ .auto)
    (hF : s.eng.slots[n].mode ≠ .fault) : (s.feedbackLost n).eng = (s.setSlot n .loseFb).eng := by
  have hF' : (s.eng.slots[n].mode == .fault) = false := beq_eq_false_iff_ne.mpr hF
  simp only [State.feedbackLost, hl, hF', hA, Bool.or_self, Bool.false_eq_true, if_false, emit_eng]
  rfl

/-- A slot that holds its set-point. -/
def Slot.holdSp (x : Slot) : Slot := { x with sphold := true }

theorem setSlot_of_fixed {f : Slot → Slot} (h : f s.eng.slots[n] = s.eng.slots[n]) : s.setSlot n f = s := by
  have hv : upd s.eng.slots n f = s.eng.slots := by
    rw [upd, h]
    exact Vector.set_getElem_self _
  exact congrArg (fun v => { s with eng := { s.eng with slots := v } }) hv

theorem holdSp_of_held {x : Slot} (h : x.sphold = true) : x.holdSp = x := by
  cases x
  cases h
  rfl

theorem setpointLost_eng (s : State) (n : SlotId) : (s.setpointLost n).eng = (s.setSlot n .holdSp).eng := by
  unfold State.setpointLost
  dsimp only
  split
  · next h => rw [setSlot_of_fixed (holdSp_of_held h)]
  · exact emit_eng _ _

end

/-! ### The trigger (R143, R148, R159) -/

section
variable {s : State} {n : SlotId}

/-- With both sources of a slot there, its trigger is an overrun or a sample. -/
theorem exec_slotTrigger (i l : Nat) (c : Bool) (xs : List (Nat × Int)) (hu : s.slotUsed n = true)
    (ha : s.rcp.applied = true) (hs : s.spLostNow n = false) (hf : s.fbLostNow n = false) :
    exec (.slotTrigger n i l c xs) s = .next (if s.overruns n then s.overrun n else s.sample n i l c xs) := by
  have hj : s.judgeSp n = s := by simp only [State.judgeSp, hs, Bool.false_eq_true, if_false]
  change execSlotTrigger n i l c xs s = _
  simp only [execSlotTrigger, hu, ha, hj, hf, Bool.not_true, Bool.or_self, Bool.false_and, Bool.false_eq_true, if_false]

/-- A slot whose trigger at tick `t` is dropped and counted. -/
def Slot.dropTrigger (t : Nat) (x : Slot) : Slot :=
  { x with ovr := true, ovrcnt := satNat 65535 (x.ovrcnt + 1), lastTrig := some t }

theorem overrun_slots (s : State) (n : SlotId) :
    (s.overrun n).eng.slots = (s.setSlot n (.dropTrigger s.tick)).eng.slots := by
  unfold State.overrun
  dsimp only
  rw [emit_eng, State.count_eng]
  split <;> rfl

/-- What the laws leave of a slot: its mode, and the set-point, the feedback and the tick of the sample. -/
structure SampleKept (x y : Slot) : Prop where
  mode     : y.mode = x.mode
  spv      : y.spv = x.spv
  fb       : y.fb = x.fb
  lastEval : y.lastEval = x.lastEval

theorem lawSample_kept (s : State) (n : SlotId) (x : Slot) (w : Vector Word 48) (r y : Int) (dt : Rat)
    (xs : List (Nat × Int)) : SampleKept x (s.lawSample n x w r y dt xs).1 := by
  unfold State.lawSample
  dsimp only
  split
  · exact ⟨rfl, rfl, rfl, rfl⟩
  split
  · exact ⟨rfl, rfl, rfl, rfl⟩
  split
  · exact ⟨rfl, rfl, rfl, rfl⟩
  split
  · split <;> exact ⟨rfl, rfl, rfl, rfl⟩
  · exact ⟨rfl, rfl, rfl, rfl⟩

theorem heldSample_kept (s : State) (n : SlotId) (x : Slot) (r y f : Int) (dt : Rat) (xs : List (Nat × Int)) :
    SampleKept x (s.heldSample n x r y f dt xs).1 := by
  unfold State.heldSample
  split
  · exact ⟨rfl, rfl, rfl, rfl⟩
  · exact lawSample_kept s n x _ r y dt xs

/-- The manual output of a slot within LIMITS (R20, R148). -/
def State.manualOut (s : State) (n : SlotId) : Int := s.clampOut n (satEv (ev s.eng.slots[n].manout))

theorem inject_of_no_take (out : Bool) (ht : s.takeOn n = false) : s.inject n out = 0 := by
  simp only [State.inject, ht, Bool.false_and, Bool.false_eq_true, if_false]

/-- A sample in MANUAL, without a ramp and without a Take, takes the set-point and the feedback and gives the manual
output. -/
theorem evaluate_manual (xs : List (Nat × Int)) (hm : s.eng.slots[n].mode = .manual)
    (hr : s.eng.slots[n].ramp = false) (ht : s.takeOn n = false) :
    ∃ x, s.evaluate n xs false none = (s.setSlot n fun _ => x, some (s.manualOut n)) ∧ x.mode = .manual ∧
      x.spv = s.clampSp n (satEv (s.setpoint n)) ∧ x.fb = s.feedback n ∧ x.lastEval = some s.tick := by
  have hk := heldSample_kept s n
  unfold State.evaluate
  simp only [hm, hr, inject_of_no_take _ ht, Int.add_zero, Bool.false_eq_true, if_false]
  exact ⟨_, rfl, (hk _ _ _ _ _ _).mode, (hk _ _ _ _ _ _).spv, (hk _ _ _ _ _ _).fb, (hk _ _ _ _ _ _).lastEval⟩

/-- The state once a trigger of slot `n` has been noted. -/
def State.triggered (s : State) (n : SlotId) : State := s.setSlot n fun x => { x with lastTrig := some s.tick }

theorem triggered_proj {β : Type} (g : Slot → β) (hg : ∀ x o, g { x with lastTrig := o } = g x) (s : State)
    (n m : SlotId) : g (s.triggered n).eng.slots[m] = g s.eng.slots[m] := by
  unfold State.triggered
  rw [setSlot_get]
  split
  · next h => rw [hg, h]
  · rfl

theorem triggered_slotOut (s : State) (n m : SlotId) : (s.triggered n).slotOut m = s.slotOut m :=
  triggered_proj Slot.out (fun _ _ => rfl) s n m

theorem triggered_slotFaulted (s : State) (n m : SlotId) : (s.triggered n).slotFaulted m = s.slotFaulted m :=
  triggered_proj (fun x => x.mode == .fault) (fun _ _ => rfl) s n m

theorem triggered_inputOf (s : State) (n : SlotId) (sink : Nat) : (s.triggered n).inputOf sink = s.inputOf sink := by
  have hsrc (src : Nat) : (s.triggered n).routeSource src = s.routeSource src := by
    simp only [State.routeSource, triggered_slotOut]
    rfl
  simp only [State.inputOf, hsrc]
  rfl

theorem triggered_spLostNow (s : State) (n m : SlotId) : (s.triggered n).spLostNow m = s.spLostNow m := by
  simp only [State.spLostNow, triggered_slotFaulted]
  rfl

theorem triggered_fbLostNow (s : State) (n m : SlotId) : (s.triggered n).fbLostNow m = s.fbLostNow m := by
  simp only [State.fbLostNow, triggered_slotFaulted]
  rfl

theorem triggered_setpoint (s : State) (n m : SlotId) : (s.triggered n).setpoint m = s.setpoint m := by
  have hsp := triggered_proj Slot.sp (fun _ _ => rfl) s n m
  have hstep := triggered_proj Slot.stepSp (fun _ _ => rfl) s n m
  have hspv := triggered_proj Slot.spv (fun _ _ => rfl) s n m
  simp only [State.setpoint, triggered_spLostNow, triggered_inputOf, hsp, hstep, hspv]
  rfl

theorem triggered_feedback (s : State) (n m : SlotId) : (s.triggered n).feedback m = s.feedback m := by
  have hfb := triggered_proj Slot.fb (fun _ _ => rfl) s n m
  simp only [State.feedback, triggered_fbLostNow, triggered_inputOf, hfb]

theorem triggered_manualOut (s : State) (n m : SlotId) : (s.triggered n).manualOut m = s.manualOut m := by
  have hout := triggered_proj Slot.manout (fun _ _ => rfl) s n m
  simp only [State.manualOut, hout]
  rfl

/-- A trigger in MANUAL with nothing pending, no ramp and no Take: the slot `x` that its evaluation leaves goes on to be
presented. -/
theorem sample_manual (i l : Nat) (xs : List (Nat × Int)) (hm : s.eng.slots[n].mode = .manual)
    (hp : s.eng.slots[n].modePend = none) (hw : s.eng.slots[n].swpend = false) (hr : s.eng.slots[n].ramp = false)
    (hu : s.unitDue n = false) (ht : s.takeOn n = false) :
    ∃ x dt, s.sample n i l true xs =
        ((s.triggered n).setSlot n fun _ => x).cleanSample n i l dt .manual none (some (s.manualOut n)) ∧
      x.mode = .manual ∧ x.spv = s.clampSp n (satEv (s.setpoint n)) ∧ x.fb = s.feedback n ∧ x.lastEval = some s.tick := by
  have hm' : (s.triggered n).eng.slots[n].mode = .manual := (triggered_proj Slot.mode (fun _ _ => rfl) s n n).trans hm
  have hp' : (s.triggered n).eng.slots[n].modePend = none :=
    (triggered_proj Slot.modePend (fun _ _ => rfl) s n n).trans hp
  have hw' : (s.triggered n).eng.slots[n].swpend = false :=
    (triggered_proj Slot.swpend (fun _ _ => rfl) s n n).trans hw
  have hr' : (s.triggered n).eng.slots[n].ramp = false := (triggered_proj Slot.ramp (fun _ _ => rfl) s n n).trans hr
  have hswap : (s.triggered n).takeSwap n = (s.triggered n, none) := by
    have hu' : (s.triggered n).unitDue n = false := hu
    simp only [State.takeSwap, hu', hw', Bool.false_and, Bool.false_eq_true, if_false]
  have hmode : (s.triggered n).takeMode n = (s.triggered n, false) := by
    simp only [State.takeMode, hp']
  obtain ⟨x, he, hxm, hsp, hfb, hat⟩ := evaluate_manual xs hm' hr' ht
  refine ⟨x, (s.triggered n).sampleDt n, ?_, hxm, ?_, ?_, hat⟩
  · have hstart : (s.setSlot n fun x => { x with lastTrig := some s.tick }) = s.triggered n := rfl
    simp only [State.sample, hstart, hswap, hmode, hm', he, triggered_manualOut, reduceCtorEq, or_self, if_false, if_true]
  · rw [hsp, triggered_setpoint]
    rfl
  · rw [hfb, triggered_feedback]

theorem applyOut_take (s : State) (n : SlotId) (o : Int) (safe : Bool) : (s.applyOut n o safe).eng.take = s.eng.take := by
  simp only [State.applyOut, present_eng, toSinks_eng, State.onEng_eng]
  rfl

theorem settlePipeB_eng (s : State) : s.settlePipeB.eng = s.eng :=
  (settlePipeB_keep s (.refl s) rfl : Keep [.sys] s _).only .eng (by decide)

/-- A slot whose sample met no residue mismatch. -/
def Slot.clean (x : Slot) : Slot := { x with resrun := 0 }

/-- Without a Take, a clean sample in MANUAL presents its output and notes its latency. -/
theorem cleanSample_manual (i l : Nat) (dt : Rat) (o : Int) (ht : s.takeOn n = false) :
    (s.cleanSample n i l dt .manual none (some o)).eng =
      (((s.setSlot n .clean).applyOut n o false).noteLatency n l).eng := by
  have hcapture (u : State) (r : Int) (hu : u.takeOn n = false) : u.capture n i l dt r false = u := by
    simp only [State.capture, hu, Bool.not_false, if_true]
  have htake : ((((s.setSlot n .clean).applyOut n o false).noteLatency n l).draw).takeOn n = false := by
    have h := applyOut_take (s.setSlot n .clean) n o false
    exact (congrArg (fun t : Take => t.status == .running && t.slot == n) h).trans ht
  unfold State.cleanSample State.presentSample State.noteSwap
  simp only [reduceCtorEq, decide_false, Bool.false_and, Bool.false_eq_true, if_false]
  rw [settlePipeB_eng]
  exact (congrArg State.eng (hcapture _ _ htake) :)

theorem SampleKept.trans {x y z : Slot} (h : SampleKept x y) (h' : SampleKept y z) : SampleKept x z :=
  ⟨h'.mode.trans h.mode, h'.spv.trans h.spv, h'.fb.trans h.fb, h'.lastEval.trans h.lastEval⟩

theorem SameButOut.kept {x y : Slot} (h : SameButOut x y) : SampleKept x y := by
  obtain ⟨o, a, f, rfl⟩ := h
  exact ⟨rfl, rfl, rfl, rfl⟩

theorem setSlot_kept {f : Slot → Slot} (hf : ∀ x, SampleKept x (f x)) (s : State) (n m : SlotId) :
    SampleKept s.eng.slots[m] (s.setSlot n f).eng.slots[m] := by
  rw [setSlot_get]
  split
  · next h => exact h ▸ hf _
  · exact ⟨rfl, rfl, rfl, rfl⟩

theorem noteLatency_kept (s : State) (n : SlotId) (l : Nat) (m : SlotId) :
    SampleKept s.eng.slots[m] (s.noteLatency n l).eng.slots[m] := by
  refine setSlot_kept (fun x => ?_) s n m
  exact ⟨rfl, rfl, rfl, rfl⟩

theorem cleanSample_kept (i l : Nat) (dt : Rat) (o : Int) (ht : s.takeOn n = false) (m : SlotId) :
    SampleKept s.eng.slots[m] (s.cleanSample n i l dt .manual none (some o)).eng.slots[m] := by
  rw [cleanSample_manual i l dt o ht]
  have hclean := setSlot_kept (f := Slot.clean) (fun _ => ⟨rfl, rfl, rfl, rfl⟩) s n m
  exact (hclean.trans (applyOut_sameButOut _ n o false m).kept).trans (noteLatency_kept _ n l m)

theorem cleanSample_out (i l : Nat) (dt : Rat) (o : Int) (ht : s.takeOn n = false) :
    (s.cleanSample n i l dt .manual none (some o)).eng.slots[n].out = s.clampOut n o := by
  obtain ⟨a, f, h⟩ := applyOut_get (s.setSlot n .clean) n o false n
  rw [cleanSample_manual i l dt o ht, State.noteLatency, setSlot_same, h, if_pos rfl]
  rfl

end

/-- The parts of the state that a trigger of a slot can change. -/
abbrev triggerParts : List Part := [.sys, .ports, .sol, .log, .rcp, .gns, .hie, .mon, .eng, .dma]

/-- Settles O30: a trigger is an overrun or a sample (`exec_slotTrigger`), a fault presents the safe output and changes
no other slot's mode (`slotFault_sameButOut`), and a loss that is only recorded is one `State.setSlot`. -/
theorem slotTriggersSampleAndSupervise : Obligations.SlotTriggersSampleAndSupervise := by
  refine ⟨fun n i l c xs s hu ha hs hf ho => ?overrun, fun n i l xs s hu ha hs hf ho hm hp hw hr hd ht => ?sample,
    fun n s hm hf => ?following, fun n s hu hl hf hm => ?feedback, fun n s hu hl hA hF hf => ?recorded,
    fun n s hu hl => ?setpoint⟩
  case overrun =>
    have he := (exec_slotTrigger i l c xs hu ha hs hf).trans (congrArg Host.Outcome.next (if_pos ho))
    have hk := next_only (execSlotTrigger_keep n i l c xs s (.refl s : Keep triggerParts s s) rfl) he
    refine ⟨_, he, ?_, fun m hm => ?_, hk⟩
    · rw [overrun_slots, setSlot_same]
      rfl
    · rw [overrun_slots, setSlot_other s _ hm]
  case sample =>
    obtain ⟨x, dt, hx, hxm, hsp, hfb, hat⟩ := sample_manual i l xs hm hp hw hr hd ht
    have he := (exec_slotTrigger i l true xs hu ha hs hf).trans
      (congrArg Host.Outcome.next ((if_neg (Bool.eq_false_iff.mp ho)).trans hx))
    have hk := next_only (execSlotTrigger_keep n i l true xs s (.refl s : Keep triggerParts s s) rfl) he
    have hkept := cleanSample_kept (s := (s.triggered n).setSlot n fun _ => x) (n := n) i l dt (s.manualOut n) ht
    have hn := hkept n
    rw [setSlot_same] at hn
    refine ⟨_, he, hn.mode.trans hxm, hn.spv.trans hsp, hn.fb.trans hfb, hn.lastEval.trans hat,
      cleanSample_out i l dt (s.manualOut n) ht, fun m hne => (hkept m).mode.trans ?_, hk⟩
    rw [setSlot_other _ _ hne]
    exact triggered_proj Slot.mode (fun _ _ => rfl) s n m
  case following =>
    have he := exec_followingError hm hf
    have hn := slotFault_faults s n .following 0x0805 (s.eng.slots[n].spv - s.eng.slots[n].fb) (s.emax n)
    exact ⟨_, he, hn.proj Slot.mode fun _ _ _ => rfl, hn.proj Slot.fcause fun _ _ _ => rfl,
      fun m hne => slotFault_mode_other s n _ _ _ _ hne, next_only (execFollowingError_keep n s (.refl s) rfl) he⟩
  case feedback =>
    have he := (exec_feedbackLost hu hl).trans (congrArg Host.Outcome.next (feedbackLost_of_auto hf hm))
    have hn := slotFault_faults (s.setSlot n .loseFb) n .feedback 0x0808 (s.fbidx n) s.eng.slots[n].fb
    rw [setSlot_same] at hn
    refine ⟨_, he, hn.proj Slot.mode fun _ _ _ => rfl, hn.proj Slot.fcause fun _ _ _ => rfl,
      hn.proj Slot.fbLost fun _ _ _ => rfl, fun m hne => ?_, next_only (execFeedbackLost_keep n s (.refl s) rfl) he⟩
    rw [slotFault_mode_other _ n _ _ _ _ hne, setSlot_other s _ hne]
  case recorded =>
    have he := exec_feedbackLost hu hl
    have heng := feedbackLost_recorded hf hA hF
    refine ⟨_, he, ?_, fun m hne => ?_, next_only (execFeedbackLost_keep n s (.refl s) rfl) he⟩
    · rw [heng, setSlot_same]
      rfl
    · rw [heng, setSlot_other s _ hne]
  case setpoint =>
    have he := exec_setpointLost hu hl
    refine ⟨_, he, ?_, fun m hne => ?_, next_only (execSetpointLost_keep n s (.refl s) rfl) he⟩
    · rw [setpointLost_eng, setSlot_same]
      rfl
    · rw [setpointLost_eng, setSlot_other s _ hne]

/-! ### Takes (R160, R162) -/

section
variable {s : State}

/-- A Take that has just started on slot `n`. -/
def Take.started (n : SlotId) (t : Take) : Take :=
  { t with status := .running, reason := 0, count := 0, slot := n, k := 0, turns := 0, lfsr := 0x7FFF, sawOvr := false,
           sawRes := false }

/-- The slot that CEN_TKCFG names. -/
def Take.target (t : Take) : SlotId := Fin.ofNat 128 (bits t.cfg 24 7)

/-- The chirp of the Take is one that slot `n` can follow (R160). -/
def State.chirpOk (s : State) (n : SlotId) : Bool :=
  s.trig n == 0 && s.law n != lawDEMOD && decide (1 ≤ bits s.eng.take.frq 0 16) &&
    decide (bits s.eng.take.frq 16 16 ≤ 5000) && decide (4 * bits s.eng.take.frq 16 16 * s.tper n ≤ 2 ^ 32) &&
    decide (bits s.eng.take.frq 0 16 < bits s.eng.take.frq 16 16)

theorem chirpOk_iff {n : SlotId} : s.chirpOk n = true ↔
    s.trig n = 0 ∧ s.law n ≠ lawDEMOD ∧ 1 ≤ bits s.eng.take.frq 0 16 ∧ bits s.eng.take.frq 16 16 ≤ 5000 ∧
      4 * bits s.eng.take.frq 16 16 * s.tper n ≤ 2 ^ 32 ∧ bits s.eng.take.frq 0 16 < bits s.eng.take.frq 16 16 := by
  simp only [State.chirpOk, Bool.and_eq_true, beq_iff_eq, bne_iff_ne, decide_eq_true_eq, and_assoc]

/-- Slot `n` is in a mode in which the Take can start (R160). -/
def State.takeReady (s : State) (n : SlotId) : Bool :=
  if s.eng.take.atOutput then s.eng.slots[n].mode == .auto || s.eng.slots[n].mode == .manual
  else s.eng.slots[n].mode == .auto

theorem takeReady_of_mode {n : SlotId}
    (h : s.eng.slots[n].mode = .auto ∨ (s.eng.take.atOutput = true ∧ s.eng.slots[n].mode = .manual)) :
    s.takeReady n = true := by
  unfold State.takeReady
  obtain h | ⟨ho, h⟩ := h
  · rw [h]
    split <;> rfl
  · rw [if_pos ho, h]
    rfl

theorem takeStart_starts (hr : s.eng.take.status ≠ .running) (hu : s.slotUsed s.eng.take.target = true)
    (hm : s.takeReady s.eng.take.target = true) (hc : s.eng.take.sig = 2 → s.chirpOk s.eng.take.target = true) :
    s.takeStart = (s.setTake (.started s.eng.take.target), .ok) := by
  have hused : ¬ (!s.slotUsed s.eng.take.target) = true := by rw [hu]; decide
  have hready : ¬ (!s.takeReady s.eng.take.target) = true := by rw [hm]; decide
  have hchirp : ¬ (decide (s.eng.take.sig = 2) && !s.chirpOk s.eng.take.target) = true := by
    rw [Bool.and_eq_true, decide_eq_true_eq]
    rintro ⟨h2, hn⟩
    rw [hc h2] at hn
    exact absurd hn (by decide)
  exact (if_neg hr).trans ((if_neg hused).trans ((if_neg hready).trans (if_neg hchirp)))

/-- The entry of Q12 with which a Take ends early (R162). -/
def Take.endEntry (t : Take) (reason : Nat) : List Byte :=
  fit 32 (le 2 t.count ++ le 1 t.slot.val ++ le 1 (2 + 32 * reason))

theorem takeEarly_of_running (reason : Nat) (hr : s.eng.take.status = .running) : (s.takeEarly reason).eng =
    { s.eng with take := { s.eng.take with status := .early, reason := reason },
                 q12 := s.eng.q12 ++ [s.eng.take.endEntry reason] } := by
  simp only [State.takeEarly, hr, if_true, emit_eng]
  rfl

end

/-- Settles O32: START passes its checks and then is one `State.setTake`; an abort of a running Take is `takeEarly`. -/
theorem takesStartAndAbort : Obligations.TakesStartAndAbort := by
  refine ⟨fun k s hg hr hu hm hc => ?start, fun k s hg hr => ?abort⟩
  case start =>
    have hstart := takeStart_starts hr hu (takeReady_of_mode hm) fun h => chirpOk_iff.mpr (hc h)
    obtain ⟨he, ho⟩ := gated_acts (go := fun s => s.takeStart) hg hstart
      (setTake_keep s _ (.refl s) rfl : Keep [.sys, .eng] s _) (by decide)
    exact ⟨_, congrArg Host.Outcome.next he, rfl, rfl, rfl, rfl, rfl, rfl, rfl, ho⟩
  case abort =>
    obtain ⟨he, ho⟩ := gated_acts (go := fun s => (s.takeEarly 4, .ok)) hg rfl
      (takeEarly_keep s 4 (.refl s) rfl : Keep [.sys, .log, .mon, .eng] s _) (by decide)
    have ht := takeEarly_of_running 4 hr
    exact ⟨_, congrArg Host.Outcome.next he, (congrArg EngState.take ht :),
      (congrArg EngState.slots ht :), (congrArg EngState.q12 ht :), ho⟩

end Sys2Proof.Machine
end

section
/-! SUPPORT. What the operations on the time base make of it. -/

namespace Sys2Proof.Machine

open Sys2Proof

/-! ### A time base retuned -/

/-- `y` is `x` but for RATE and OFS, their records, and whether TP emits: what steering and a change of quality touch
besides the fields they name (R165, R166, R175, R178). -/
def TmbState.Retuned (x y : TmbState) : Prop :=
  y = { x with ofs := y.ofs, rate := y.rate, range := y.range, resRun := y.resRun, ofsLog := y.ofsLog,
               ofsAt := y.ofsAt, tpOn := y.tpOn }

section
variable {x y z : TmbState}

theorem TmbState.Retuned.refl (x : TmbState) : x.Retuned x := rfl

theorem TmbState.Retuned.trans (h : x.Retuned y) (h' : y.Retuned z) : x.Retuned z :=
  Eq.trans h' (congrArg (fun w : TmbState =>
    { w with ofs := z.ofs, rate := z.rate, range := z.range, resRun := z.resRun, ofsLog := z.ofsLog,
             ofsAt := z.ofsAt, tpOn := z.tpOn }) h)

theorem TmbState.Retuned.congr (h : x.Retuned y) (e : z = y) : x.Retuned z := e ▸ h

theorem TmbState.Retuned.t (h : x.Retuned y) : y.t = x.t := (congrArg TmbState.t h :)
theorem TmbState.Retuned.qual (h : x.Retuned y) : y.qual = x.qual := (congrArg TmbState.qual h :)
theorem TmbState.Retuned.d (h : x.Retuned y) : y.d = x.d := (congrArg TmbState.d h :)
theorem TmbState.Retuned.pending (h : x.Retuned y) : y.pending = x.pending := (congrArg TmbState.pending h :)
theorem TmbState.Retuned.steps (h : x.Retuned y) : y.steps = x.steps := (congrArg TmbState.steps h :)
theorem TmbState.Retuned.holdAt (h : x.Retuned y) : y.holdAt = x.holdAt := (congrArg TmbState.holdAt h :)

end

/-! ### The rate and the offset (R165 to R167) -/

/-- RATE as RATEM and OFS give it, within its bound. -/
def TmbState.sumRate (x : TmbState) : Int := clampInt (-rateMax) rateMax (x.ratem + x.ofs)

theorem newRate_tmb (s : State) :
    ∃ out, s.newRate.tmb = { s.tmb with rate := s.tmb.sumRate, range := out, resRun := 0 } := by
  unfold State.newRate
  dsimp only
  split
  · exact ⟨_, timeEmit_tmb ..⟩
  · exact ⟨_, rfl⟩

theorem newRate_retuned (s : State) : s.tmb.Retuned s.newRate.tmb := by
  obtain ⟨out, h⟩ := newRate_tmb s
  rw [h]
  rfl

/-- Without a residue fault, a residue that agrees lets RATE follow. -/
theorem computeRate_agreeing {s : State} (h : s.tmb.resflt = false) : s.computeRate true = s.newRate := by
  simp only [State.computeRate, h, Bool.false_eq_true, if_false, if_true]

theorem setOfs_retuned (s : State) (v : Int) : s.tmb.Retuned (s.setOfs v true).tmb := by
  unfold State.setOfs
  split
  · exact .refl _
  · next h =>
    have hr : (s.creditOfs.onTmb fun x => { x with ofs := v }).tmb.resflt = false := Bool.eq_false_iff.mpr h
    rw [computeRate_agreeing hr]
    refine .trans ?_ (newRate_retuned _)
    rfl

theorem steer_retuned (s : State) (d : Rat) : s.tmb.Retuned (s.steer d true).tmb := setOfs_retuned s _

/-- RATEM as the model with the rate in force learnt predicts it at a TCXO temperature (R176). -/
def State.predict (s : State) (milliC : Int) : State :=
  let s := s.onTmb fun x =>
    { x with tcxo := milliC, model := if x.qual = .locked then x.model.learn milliC x.rate else x.model }
  s.onTmb fun x => { x with ratem := Config.oscRate s.tmb.model.means s.tmb.model.slope milliC s.tmb.model.learnt }

theorem exec_ratemUpdate {s : State} (m : Int) (h : s.tmb.resflt = false) :
    exec (.ratemUpdate m true) s = .next (s.predict m).newRate := by
  change execRatemUpdate m true s = _
  simp only [execRatemUpdate, State.onTmb_tmb, h, Bool.false_eq_true, if_false]
  exact congrArg Host.Outcome.next (computeRate_agreeing (s := s.predict m) h)

theorem cmdResteer_of_fault {s : State} (h : s.tmb.resflt = true) :
    s.cmdResteer true = ((s.onTmb fun x => { x with resflt := false, resRun := 0 }).newRate, .ok) := by
  rw [State.cmdResteer, if_pos h, computeRate_agreeing rfl]

theorem exec_offsetMeasurement {s : State} (bias : Int) (hsrc : s.timeSrc ≠ 0)
    (hds : s.isWorker = true → s.hie.ds ≠ []) : ∃ t, exec (.offsetMeasurement bias true) s = .next t ∧
      { s.tmb with d := s.dOf bias s.hie.ds }.Retuned t.tmb ∧ t.hie = { s.hie with ds := [] } := by
  have hc : ¬ (s.timeSrc = 0 || (s.isWorker && s.hie.ds.isEmpty)) = true := by
    simpa only [Bool.or_eq_true, decide_eq_true_eq, Bool.and_eq_true, List.isEmpty_iff, not_or, not_and] using
      And.intro hsrc hds
  refine ⟨_, congrArg Host.Outcome.next (if_neg hc), ?_⟩
  dsimp only
  split
  · exact ⟨steer_retuned _ _,
      (steer_keep _ _ true (.refl _) rfl : Keep [.sys, .log, .tmb, .mon] _ _).only .hie (by decide)⟩
  · exact ⟨.refl _, rfl⟩

/-! ### Quality (R168, R175, R178) -/

theorem tpSettle_retuned (s : State) (before : Qual) : s.tmb.Retuned (s.tpSettle before).tmb := by
  unfold State.tpSettle
  split
  · rw [timeEmit_tmb]
    rfl
  · exact .refl _

/-- A lost source leaves the time base in HOLDOVER from now on. -/
theorem loseSource_retuned {s : State} (h : s.tmb.qual.tracks = true) :
    { s.tmb with qual := .holdover, holdAt := some s.tick }.Retuned s.loseSource.tmb := by
  unfold State.loseSource
  rw [if_pos h]
  refine .trans ?_ (tpSettle_retuned _ _)
  rw [timeEmit_tmb]
  split
  · rfl
  · refine .trans ?_ (newRate_retuned _)
    rfl

/-! ### Judgement and settings (R170, R171, R174) -/

theorem dropSetting_tmb (s : State) : ∃ p, s.dropSetting.tmb = { s.tmb with pending := p } := by
  unfold State.dropSetting
  split
  · exact ⟨_, answer_tmb ..⟩
  · exact ⟨_, rfl⟩

/-- What a judgement leaves pending: nothing below 2 µs, else its step. -/
def judgedStep (dj : Rat) (afresh : Bool) : Option StepPend :=
  if ratAbs dj < 2 / 1000000 then none else some (.judged dj afresh)

theorem judge_retuned (s : State) (dj : Rat) (afresh : Bool) :
    { s.tmb with qual := .acq, d := dj, holdAt := none, pending := judgedStep dj afresh }.Retuned
      (s.judge dj afresh true).tmb := by
  obtain ⟨p, hp⟩ := dropSetting_tmb s
  have hx : ({ s.tmb with qual := .acq, d := dj, holdAt := none, pending := judgedStep dj afresh } : TmbState) =
      { s.dropSetting.tmb with qual := .acq, d := dj, holdAt := none, pending := judgedStep dj afresh } := by rw [hp]
  rw [hx]
  unfold State.judge judgedStep
  dsimp only
  split
  · rw [timeEmit_tmb]
    refine .trans ?_ (steer_retuned _ _)
    rfl
  · rfl

/-- A setting accepted waits for the next whole second; one that waited before is superseded. -/
theorem exec_set {s : State} {k : SessId} (hg : s.gateRws k rightSERVICE = .ok) (ha : s.tmb.qual ≠ .acq)
    (hl : s.tmb.qual ≠ .locked) (hh : s.tmb.qual ≠ .holdover) :
    exec (.set k) s = .next (s.dropSetting.onTmb fun x =>
      { x with pending := some (.host k s.sys.cur (s.tmb.setl.toNat + bits s.tmb.seth 0 16 * 2 ^ 32)) }) := by
  change execSet k s = _
  simp only [execSet, hg, State.cmdSet, ha, hl, hh, or_self, if_false]

theorem exec_judgement {s : State} (m : Int) (hsrc : s.timeSrc ≠ 0) (hr : s.tmb.resflt = false)
    (hq : s.tmb.qual.tracks = false) (hw : s.isWorker = false) :
    exec (.judgement m true) s = .next (s.judge (s.dOf m s.hie.firstDs) false true) :=
  congrArg Host.Outcome.next (if_neg (by simp [hsrc, hr, hq, hw]))

theorem exec_judgementAfresh {s : State} (m : Int) (hsrc : s.timeSrc ≠ 0) (hr : s.tmb.resflt = false)
    (hq : s.tmb.qual.tracks = true) (hds : s.hie.ds ≠ []) :
    exec (.judgementAfresh m true) s = .next (s.judge (s.dOf m s.hie.ds) true true) := by
  change execJudgementAfresh m true s = _
  have hc : ¬ (s.timeSrc = 0 || s.tmb.resflt || !s.tmb.qual.tracks) = true := by simp [hsrc, hr, hq]
  have he : ¬ s.hie.ds.isEmpty = true := by rwa [List.isEmpty_iff]
  rw [execJudgementAfresh, if_neg hc, if_neg he]

/-- Settles O19: a prediction and RESTEER are `State.newRate`, a measurement retunes the time base with the d it took, a
judgement is `State.judge`, and an accepted setting waits. -/
theorem timeBaseMeasuresAndJudges : Obligations.TimeBaseMeasuresAndJudges := by
  refine ⟨fun m s hr => ?prediction, fun bias s hsrc hds => ?measurement, fun m s hsrc hr hq hw => ?judgement,
    fun m s hsrc hr hq hw hds => ?afresh, fun k s hg ha hl hh => ?setting, fun k s hg hr => ?resteer⟩
  case prediction =>
    have he := exec_ratemUpdate m hr
    have hk := next_only (execRatemUpdate_keep m true s (.refl s : Keep [.sys, .log, .tmb, .mon] s s) rfl) he
    obtain ⟨out, htmb⟩ := newRate_tmb (s.predict m)
    refine ⟨_, he, ?_, ?_, ?_, ?_, hk⟩ <;> rw [htmb] <;> rfl
  case measurement =>
    obtain ⟨t, he, htmb, hhie⟩ := exec_offsetMeasurement bias hsrc hds
    exact ⟨t, he, htmb.d, congrArg HieState.ds hhie, htmb.qual, htmb.pending,
      next_only (execOffsetMeasurement_keep bias true s (.refl s : Keep [.sys, .log, .tmb, .hie, .mon] s s) rfl) he⟩
  case judgement =>
    have he := exec_judgement m hsrc hr hq hw
    have htmb := judge_retuned s (s.dOf m s.hie.firstDs) false
    exact ⟨_, he, htmb.qual, htmb.d, htmb.pending,
      next_only (execJudgement_keep m true s (.refl s : Keep [.sys, .log, .tmb, .hie, .mon] s s) rfl) he⟩
  case afresh =>
    have he := exec_judgementAfresh m hsrc hr hq hds
    have htmb := judge_retuned s (s.dOf m s.hie.ds) true
    exact ⟨_, he, htmb.qual, htmb.d, htmb.pending,
      next_only (execJudgementAfresh_keep m true s (.refl s : Keep [.sys, .log, .tmb, .hie, .mon] s s) rfl) he⟩
  case setting =>
    have he := exec_set hg ha hl hh
    obtain ⟨p, hp⟩ := dropSetting_tmb s
    exact ⟨_, he, rfl, (congrArg TmbState.t hp :),
      next_only (execSet_keep k s (.refl s : Keep [.sys, .tmb, .hie, .mon] s s) rfl) he⟩
  case resteer =>
    obtain ⟨he, ho⟩ := gated_acts (go := (·.cmdResteer true)) hg (cmdResteer_of_fault hr)
      (newRate_keep _ (onTmb_keep s _ (.refl s) rfl) rfl : Keep [.sys, .log, .tmb, .hie, .mon] s _) (by decide)
    obtain ⟨out, htmb⟩ := newRate_tmb (s.onTmb fun x => { x with resflt := false, resRun := 0 })
    exact ⟨_, congrArg Host.Outcome.next he, (congrArg TmbState.resflt htmb :), (congrArg TmbState.rate htmb :), ho⟩

/-! ### Steps (R171, R172, R174) -/

theorem stepTo_tmb (s : State) (v : Nat) : (s.stepTo v).tmb = { s.tmb with t := v % 2 ^ 120 } := by
  unfold State.stepTo
  dsimp only
  split
  · exact staleAll_tmb _
  · rfl

theorem countStep_tmb (s : State) :
    s.countStep.tmb = { s.tmb with steps := satNat 65535 (s.tmb.steps + 1), pending := none, d := 0 } := by
  unfold State.countStep
  dsimp only
  split <;> rfl

/-- T at `v`, a step counted and none pending. -/
def TmbState.stepped (v : Nat) (x : TmbState) : TmbState :=
  { x with t := v % 2 ^ 120, steps := satNat 65535 (x.steps + 1), pending := none, d := 0 }

theorem countStep_stepTo_tmb (s : State) (v : Nat) : (s.stepTo v).countStep.tmb = s.tmb.stepped v := by
  rw [countStep_tmb, stepTo_tmb]
  rfl

/-- T at the second of a setting, in quality HOST. -/
def State.setTo (s : State) (secs : Nat) : State :=
  ((s.stepTo (secs * 2 ^ 72)).countStep.setQual .host).onTmb fun x => { x with holdAt := none }

theorem setTo_retuned (s : State) (secs : Nat) :
    { s.tmb.stepped (secs * 2 ^ 72) with qual := .host, holdAt := none }.Retuned (s.setTo secs).tmb := by
  rw [← countStep_stepTo_tmb]
  rfl

/-- A pending setting takes effect, and its session is answered. -/
theorem exec_timeStep_host {s : State} {k : SessId} {ref secs : Nat} (h : s.tmb.pending = some (.host k ref secs)) :
    ∃ t, exec .timeStep s = .next t ∧
      { s.tmb.stepped (secs * 2 ^ 72) with qual := .host, holdAt := none }.Retuned t.tmb := by
  obtain ⟨e, he⟩ : ∃ e, execTimeStep s =
      .next (((((s.setTo secs).setOfs 0 true).emit e).tpSettle s.tmb.qual).answer (.host k ref) .ok) := by
    simp only [execTimeStep, h]
    exact ⟨_, rfl⟩
  have hset := (setTo_retuned s secs).trans (setOfs_retuned _ 0)
  exact ⟨_, he, ((hset.congr (emit_tmb _ e)).trans (tpSettle_retuned _ _)).congr (answer_tmb ..)⟩

/-- A pending judged step takes effect: T moves by it, and OFS returns to 0. -/
theorem exec_timeStep_judged {s : State} {dj : Rat} {a : Bool} (h : s.tmb.pending = some (.judged dj a)) :
    ∃ t v, exec .timeStep s = .next t ∧ (s.tmb.stepped v).Retuned t.tmb := by
  obtain ⟨v, c, he⟩ : ∃ v c, execTimeStep s =
      .next (((s.stepTo v).countStep.stepRecord s.tmb.qual c (-dj)).setOfs 0 true) := by
    simp only [execTimeStep, h]
    exact ⟨_, _, rfl⟩
  have hrec : ((s.stepTo v).countStep.stepRecord s.tmb.qual c (-dj)).tmb = s.tmb.stepped v :=
    (timeEmit_tmb ..).trans (countStep_stepTo_tmb s v)
  exact ⟨_, v, he, ((TmbState.Retuned.refl _).congr hrec).trans (setOfs_retuned _ 0)⟩

/-! ### The qualities follow one another (R168, R170, R175) -/

theorem exec_timeLocked {s : State} (hq : s.tmb.qual = .acq) (hp : s.tmb.pending = none) :
    ∃ t, exec .timeLocked s = .next t ∧ t.tmb = (s.setQual .locked).tmb := by
  have hc : (s.tmb.qual = .acq && s.tmb.pending.isNone) = true := by simp [hq, hp]
  refine ⟨_, congrArg Host.Outcome.next (if_pos hc), ?_⟩
  dsimp only
  split
  · rw [sendTables_tmb, timeEmit_tmb]
  · exact timeEmit_tmb ..

theorem exec_timeHoldoverExpired {s : State} (hq : s.tmb.qual = .holdover) :
    ∃ t, exec .timeHoldoverExpired s = .next t ∧ { s.tmb with qual := .expired }.Retuned t.tmb := by
  refine ⟨_, congrArg Host.Outcome.next (if_pos hq), .trans ?_ (tpSettle_retuned _ _)⟩
  rw [timeEmit_tmb]
  rfl

/-! ### The RTC (R169) -/

theorem exec_rtcLoad {s : State} (secs : Nat) (hq : s.tmb.qual = .none) (hv : s.tmb.rtcValid = true) :
    ∃ t, exec (.rtcLoad secs) s = .next t ∧
      { s.tmb with t := secs * 2 ^ 72 % 2 ^ 120, qual := .rtc, rtc := secs }.Retuned t.tmb := by
  have hc : (s.tmb.qual = .none && s.tmb.rtcValid) = true := by simp [hq, hv]
  refine ⟨_, congrArg Host.Outcome.next (if_pos hc), ?_⟩
  have hx : { s.tmb with t := secs * 2 ^ 72 % 2 ^ 120, qual := .rtc, rtc := secs } =
      { (s.stepTo (secs * 2 ^ 72)).tmb with qual := .rtc, rtc := secs } := by rw [stepTo_tmb]
  rw [hx]
  rfl

/-! ### TP (R177 to R179) -/

/-- A pulse begins at fabric tick `tick`, for the second `sec`. -/
def TmbState.pulse (sec tick width : Nat) (x : TmbState) : TmbState :=
  { x with tpOn := true, tpSec := sec, tpAt := some tick, tpEnd := tick + width }

theorem exec_tpPulse {s : State} (ha : s.tpAllowed = true) (hp : s.tmb.pending = none) (ht : s.tmb.tpAt = none)
    (hr : s.rcp.applied = true) :
    ∃ t, exec .tpPulse s = .next t ∧ t.tmb = s.tmb.pulse s.pulseSec s.tick s.tpWidth := by
  refine ⟨_, congrArg Host.Outcome.next (if_neg (by simp [ha, hp, ht, hr])), ?_⟩
  dsimp only
  split
  · exact timeEmit_tmb ..
  · rfl

/-- Settles O20: a step is `TmbState.stepped`, a change of quality `State.setQual` or `State.loseSource`, and besides
these only retune the time base; the other commands set the fields that they name. -/
theorem timeBaseQualityAndSteps : Obligations.TimeBaseQualityAndSteps := by
  refine ⟨fun k ref secs s h => ?host, fun dj a s h => ?judged, fun s hq hp => ?locked, fun s hq => ?lost,
    fun s hq => ?holdover, fun s hs hq => ?timeout, fun s hq => ?expired, fun s => ?model, fun secs s hq hv => ?load,
    fun s hq => ?save, fun s ha hp ht hr => ?pulse, fun k s hg => ?frac, fun k s hg => ?ratel⟩
  case host =>
    obtain ⟨t, he, htmb⟩ := exec_timeStep_host h
    exact ⟨t, he, htmb.qual, htmb.t, htmb.pending, htmb.steps, next_only (execTimeStep_keep s
      (.refl s : Keep [.sys, .ports, .log, .tmb, .hie, .mon, .sct] s s) rfl) he⟩
  case judged =>
    obtain ⟨t, v, he, htmb⟩ := exec_timeStep_judged h
    exact ⟨t, he, htmb.pending, htmb.qual, htmb.steps, next_only (execTimeStep_keep s
      (.refl s : Keep [.sys, .ports, .log, .tmb, .hie, .mon, .sct] s s) rfl) he⟩
  case locked =>
    obtain ⟨t, he, htmb⟩ := exec_timeLocked hq hp
    exact ⟨t, he, (congrArg TmbState.qual htmb :), (congrArg TmbState.t htmb :),
      next_only (execTimeLocked_keep s (.refl s : Keep [.sys, .log, .tmb, .hie, .mon] s s) rfl) he⟩
  case lost =>
    exact ⟨s.setQual .acq, congrArg Host.Outcome.next (if_pos hq), rfl, rfl,
      (setQual_keep s .acq (.refl s) rfl : Keep [.tmb] s _).toOnly⟩
  case holdover =>
    have htmb := loseSource_retuned hq
    exact ⟨s.loseSource, rfl, htmb.qual, htmb.holdAt, htmb.t,
      (loseSource_keep s (.refl s) rfl : Keep [.sys, .log, .tmb, .mon] s _).toOnly⟩
  case timeout =>
    have htmb := loseSource_retuned hq
    exact ⟨s.loseSource, congrArg Host.Outcome.next (if_pos hs), htmb.qual, htmb.holdAt,
      (loseSource_keep s (.refl s) rfl : Keep [.sys, .log, .tmb, .mon] s _).toOnly⟩
  case expired =>
    obtain ⟨t, he, htmb⟩ := exec_timeHoldoverExpired hq
    exact ⟨t, he, htmb.qual, htmb.t,
      next_only (execTimeHoldoverExpired_keep s (.refl s : Keep [.sys, .log, .tmb, .hie, .mon] s s) rfl) he⟩
  case model =>
    exact ⟨_, rfl, rfl, (onTmb_keep s _ (.refl s) rfl : Keep [.tmb] s _).toOnly⟩
  case load =>
    obtain ⟨t, he, htmb⟩ := exec_rtcLoad secs hq hv
    exact ⟨t, he, htmb.qual, htmb.t, htmb.steps, next_only (execRtcLoad_keep secs s
      (.refl s : Keep [.sys, .ports, .log, .tmb, .hie, .mon, .sct] s s) rfl) he⟩
  case save =>
    exact ⟨_, congrArg Host.Outcome.next (if_pos hq), rfl, (onTmb_keep s _ (.refl s) rfl : Keep [.tmb] s _).toOnly⟩
  case pulse =>
    obtain ⟨t, he, htmb⟩ := exec_tpPulse ha hp ht hr
    refine ⟨t, he, ?_, ?_, ?_, ?_,
      next_only (execTpPulse_keep s (.refl s : Keep [.sys, .log, .tmb, .mon] s s) rfl) he⟩ <;> rw [htmb] <;> rfl
  case frac =>
    obtain ⟨he, ho⟩ := gated_acts (go := fun s => (State.returns s.readFrac, .ok)) hg rfl
      (returns_keep _ (readFrac_keep s (.refl s) rfl) rfl : Keep [.sys, .tmb, .hie, .mon] s _) (by decide)
    exact ⟨_, congrArg Host.Outcome.next he, rfl, rfl, rfl, ho⟩
  case ratel =>
    obtain ⟨he, ho⟩ := gated_acts (go := fun s => (State.returns s.readRatel, .ok)) hg rfl
      (returns_keep _ (readRatel_keep s (.refl s) rfl) rfl : Keep [.sys, .tmb, .hie, .mon] s _) (by decide)
    exact ⟨_, congrArg Host.Outcome.next he, rfl, rfl, ho⟩

end Sys2Proof.Machine
end

section
/-! SUPPORT. What the commands of the GNSS receiver do. -/

namespace Sys2Proof.Machine

open Sys2Proof

theorem not_gnssOff {s : State} (h : s.gnssOn = true) : ¬ (!s.gnssOn) = true := by
  rw [h]
  decide

/-! ### One channel set (R182, R185) -/

section
variable {s : State} {c : GnsCh}

/-- A command that sets one channel: that channel takes its value, the others and all else stay. -/
theorem setChan_clauses {o : Out} {f : Chan → Chan} (h : o = .next (s.setChan c f)) :
    ∃ t, o = .next t ∧ t.gns.chans[c] = f s.gns.chans[c] ∧ (∀ d, d ≠ c → t.gns.chans[d] = s.gns.chans[d]) ∧
      State.Only [.gns] s t :=
  ⟨_, h, upd_same _ _ _, fun _ hd => upd_other _ _ _ _ hd.symm,
    (setChan_keep s c f (.refl s) rfl : Keep [.gns] s _).toOnly⟩

/-- A channel in one of the named states goes on. -/
theorem chanGoes_of_mem {froms : List ChanStatus} (st : ChanStatus) (h : s.gns.chans[c].st ∈ froms) :
    s.chanGoes c froms st = s.setChan c fun x => { x with st := st } :=
  if_pos (List.contains_iff_mem.mpr h)

theorem mem_of_tracks {x : Chan} (h : x.tracks = true) : x.st ∈ [ChanStatus.track, .bitsync, .nav] := by
  simpa [Chan.tracks, or_assoc] using h

/-- A channel that found a cell near its signal goes to PULLIN, one that found none to IDLE without a PRN. -/
def Chan.ended (found : Bool) (x : Chan) : Chan :=
  if found then { x with st := .pullin } else { x with st := .idle, prn := 0, pol := 0, cn0 := 0 }

theorem pullin_or_idle (st : ChanStatus) (found : Bool) (h : s.gns.chans[c].st = st) :
    (if found then s.chanGoes c [st] .pullin else s.chanIdle c) = s.setChan c (.ended found) := by
  cases found
  · rfl
  · exact chanGoes_of_mem .pullin (List.mem_singleton.mpr h)

theorem exec_channelAssign {prn : Nat} (hon : s.gnssOn = true) (hi : s.gns.chans[c].st = .idle)
    (hb : s.gns.chans[c].barred = false) (hf : ∀ a l, s.gns.chans[c].faults = a :: l → a + 120000000 ≤ s.tick)
    (h1 : 1 ≤ prn) (h32 : prn ≤ 32) :
    exec (.channelAssign c prn) s =
      .next (s.setChan c fun x => { x with st := .search, prn := prn, pol := 0, cn0 := 0 }) := by
  change execChannelAssign c prn s = _
  have hprn : decide (1 ≤ prn ∧ prn ≤ 32) = true := decide_eq_true ⟨h1, h32⟩
  cases hfs : s.gns.chans[c].faults with
  | nil => simp only [execChannelAssign, hon, hi, hb, hfs, hprn, decide_true, Bool.not_false, Bool.and_self, if_true]
  | cons a l =>
    have hrested : decide (a + 120000000 ≤ s.tick) = true := decide_eq_true (hf a l hfs)
    simp only [execChannelAssign, hon, hi, hb, hfs, hprn, hrested, decide_true, Bool.not_false, Bool.and_self, if_true]

end

/-! ### Slot faults (R182) -/

/-- The slot faults of a channel of the last 10 minutes, with one now. -/
def State.faultsNow (s : State) (c : GnsCh) : List Nat :=
  s.tick :: s.gns.chans[c].faults.filter fun a => decide (s.tick ≤ a + 600 * 120000000)

/-- A channel without a PRN that holds these faults. -/
def Chan.failed (fs : List Nat) (x : Chan) : Chan :=
  { x with st := .idle, prn := 0, pol := 0, cn0 := 0, faults := fs, barred := decide (3 ≤ fs.length) }

theorem carrierSlot_ne_codeSlot (c : GnsCh) : carrierSlot c ≠ codeSlot c := fun h => by
  simpa [codeSlot, carrierSlot] using congrArg Fin.val h

theorem slotRested_mode (s : State) (n : SlotId) : (s.slotRested n).eng.slots[n].mode = .off :=
  congrArg Slot.mode (upd_same _ _ _)

theorem slotRested_other (s : State) {n m : SlotId} (h : n ≠ m) : (s.slotRested n).eng.slots[m] = s.eng.slots[m] :=
  upd_other _ _ _ _ h

/-- A channel fails, and its two slots rest. -/
def State.failChan (s : State) (c : GnsCh) (fs : List Nat) : State :=
  (((s.chanIdle c).setChan c fun x => { x with faults := fs, barred := decide (3 ≤ fs.length) }).slotRested
    (codeSlot c)).slotRested (carrierSlot c)

section
variable (s : State) (c : GnsCh) (fs : List Nat)

theorem failChan_same : (s.failChan c fs).gns.chans[c] = s.gns.chans[c].failed fs :=
  (upd_same _ _ _).trans (congrArg (fun x : Chan => { x with faults := fs, barred := decide (3 ≤ fs.length) })
    (upd_same _ _ _))

theorem failChan_other {d : GnsCh} (h : d ≠ c) : (s.failChan c fs).gns.chans[d] = s.gns.chans[d] :=
  (upd_other _ _ _ _ h.symm).trans (upd_other _ _ _ _ h.symm)

theorem failChan_codeSlot : (s.failChan c fs).eng.slots[codeSlot c].mode = .off :=
  (congrArg Slot.mode (slotRested_other _ (carrierSlot_ne_codeSlot c))).trans (slotRested_mode _ _)

theorem failChan_carrierSlot : (s.failChan c fs).eng.slots[carrierSlot c].mode = .off := slotRested_mode _ _

end

theorem exec_gnssChannelFault {s : State} {c : GnsCh} (hon : s.gnssOn = true)
    (hf : (s.slotFaulted (codeSlot c) || s.slotFaulted (carrierSlot c)) = true) :
    ∃ e, exec (.gnssChannelFault c) s = .next ((s.emit e).failChan c (s.faultsNow c)) := by
  obtain ⟨n, hslot⟩ : ∃ n, (if s.slotFaulted (codeSlot c) then some (codeSlot c)
      else if s.slotFaulted (carrierSlot c) then some (carrierSlot c) else none) = some n := by
    cases hcode : s.slotFaulted (codeSlot c) with
    | true => exact ⟨_, if_pos rfl⟩
    | false =>
      rw [hcode, Bool.false_or] at hf
      exact ⟨_, if_pos hf⟩
  have htick (e : Ev) : (s.emit e).tick = s.tick := emit_ticks s e
  change ∃ e, execGnssChannelFault c s = _
  simp only [execGnssChannelFault, hslot, if_neg (not_gnssOff hon), State.timeEmit, htick, emit_gns]
  exact ⟨_, rfl⟩

/-- Settles O33: each command but the last is one `State.setChan`; a slot fault is one and rests the two slots. -/
theorem gnssChannelsFollowTheirSignals : Obligations.GnssChannelsFollowTheirSignals := by
  refine ⟨fun c prn s hon hi hb hf h1 h32 => setChan_clauses (exec_channelAssign hon hi hb hf h1 h32),
    fun c b s h => setChan_clauses (f := .ended b) ?search,
    fun c b s h => setChan_clauses (congrArg Host.Outcome.next (chanGoes_of_mem _ (List.mem_singleton.mpr h))),
    fun c s h => setChan_clauses (congrArg Host.Outcome.next (chanGoes_of_mem _ (List.mem_singleton.mpr h))),
    fun c b s h => setChan_clauses (congrArg Host.Outcome.next (if_pos h)),
    fun c s h => setChan_clauses (congrArg Host.Outcome.next (chanGoes_of_mem _ (mem_of_tracks h))),
    fun c b s h => setChan_clauses (f := .ended b) ?reacq, fun c s hon hf => ?fault⟩
  case search => exact congrArg Host.Outcome.next ((if_pos h).trans (pullin_or_idle .search b h))
  case reacq => exact congrArg Host.Outcome.next ((if_pos h).trans (pullin_or_idle .reacq b h))
  case fault =>
    obtain ⟨e, he⟩ := exec_gnssChannelFault hon hf
    have hk := next_only (execGnssChannelFault_keep c s (.refl s : Keep [.sys, .log, .gns, .mon, .eng] s s) rfl) he
    have hc := failChan_same (s.emit e) c (s.faultsNow c)
    have hd (d : GnsCh) (h : d ≠ c) : ((s.emit e).failChan c (s.faultsNow c)).gns.chans[d] = s.gns.chans[d] :=
      (failChan_other _ c _ h).trans (congrArg (fun g : GnsState => g.chans[d]) (emit_gns s e))
    refine ⟨_, he, ?_, ?_, ?_, ?_, failChan_codeSlot _ c _, failChan_carrierSlot _ c _, hd, hk⟩ <;> rw [hc] <;> rfl

/-! ### Starts and the rate (R190, R193) -/

section
variable {s : State}

theorem cmdGns_of_on (above : List Nat) (cold : Bool) (h : s.gnssOn = true) :
    s.cmdGns above cold = (s.gnssStart above cold, .ok) := if_pos h

theorem writeGnsCtrl_of_le {v : Word} (h : bits v 0 3 ≤ 4) :
    s.writeGnsCtrl v = (s.onGns fun g => { g with rateReq := bits v 0 3 }, .ok) := if_neg (Nat.not_lt.mpr h)

/-! ### The antenna (R184) -/

/-- The antenna as measured: its state, the bias current in 0.1 mA and the bias voltage in mV. -/
def GnsState.antenna (a : AntStatus) (i v : Nat) (g : GnsState) : GnsState :=
  { g with ant := a, ibias := satNat 65535 i, vbias := satNat 65535 v }

theorem timeSrc_gnss (hw : s.isWorker = false) (hon : s.gnssOn = true) : s.timeSrc = 1 := by
  simp only [State.timeSrc, hw, hon, Bool.false_eq_true, if_false, if_true]

theorem timeSrc_of {t : State} (h : t.rcp = s.rcp) : t.timeSrc = s.timeSrc := by
  have hw : t.isWorker = s.isWorker := congrArg (bit · 31) (rw_of h _ _ _ _)
  have hg : t.gnssOn = s.gnssOn := congrArg (bit · 31) (rw_of h _ _ _ _)
  rw [State.timeSrc, State.timeSrc, hw, hg]

theorem loseSource_gns (s : State) : s.loseSource.gns = s.gns :=
  (loseSource_keep s (.refl s) rfl : Keep [.sys, .log, .tmb, .mon] s _).only .gns (by decide)

/-- An antenna fault shown and recorded. -/
def State.antFaulted (s : State) (short : Bool) (i v : Nat) : State :=
  (s.onGns (.antenna (if short then .short else .open) i v)).timeEmit 0x090D s.tmb.qual (if short then 2 else 1) i 0

theorem antFaulted_gns (short : Bool) (i v : Nat) :
    (s.antFaulted short i v).gns = s.gns.antenna (if short then .short else .open) i v := timeEmit_gns ..

theorem antFaulted_tmb (short : Bool) (i v : Nat) : (s.antFaulted short i v).tmb = s.tmb := timeEmit_tmb ..

/-- An antenna fault ends the source of a time base that GNSS steers. -/
theorem exec_gnssAntFault (short : Bool) (i v : Nat) (hon : s.gnssOn = true) :
    exec (.gnssAntFault short i v) s =
      .next (if s.timeSrc = 1 then (s.antFaulted short i v).loseSource else s.antFaulted short i v) := by
  have hsrc : (s.antFaulted short i v).timeSrc = s.timeSrc := timeSrc_of (timeEmit_rcp ..)
  rw [← hsrc]
  exact congrArg Host.Outcome.next (if_neg (not_gnssOff hon))

theorem antEnds_gns (i v : Nat) : (s.antEnds i v).gns = s.gns.antenna .normal i v := timeEmit_gns ..

theorem exec_antBiasRetry (i v : Nat) (h : s.gns.ant = .short) :
    ∃ t, exec (.antBiasRetry i v) s = .next t ∧ t.gns = s.gns.antenna (if 800 < i then .short else .normal) i v := by
  refine ⟨_, congrArg Host.Outcome.next (if_pos h), ?_⟩
  split
  · rw [← h]
    rfl
  · exact antEnds_gns i v

end

/-- Settles O34: a start is `State.gnssStart`, an antenna's change `GnsState.antenna`, and the other commands set the
field that they name. -/
theorem gnssStartsAntennaAndRate : Obligations.GnssStartsAntennaAndRate := by
  refine ⟨fun l k s hg hon => ?restart, fun k s hg hon => ?cold, fun v k s hg hv => ?rate, fun b i v s hon => ?fault,
    fun i v s h => ?retry, fun i v s h => ?ended, fun b s => ?window, fun s => ?save⟩
  case restart =>
    obtain ⟨he, ho⟩ := gated_acts (go := (·.cmdGns l false)) hg (cmdGns_of_on l false hon)
      (gnssStart_keep s l false (.refl s) rfl : Keep [.sys, .gns] s _) (by decide)
    exact ⟨_, congrArg Host.Outcome.next he, rfl, rfl, rfl, rfl, rfl, rfl, rfl, rfl, rfl, rfl, ho⟩
  case cold =>
    obtain ⟨he, ho⟩ := gated_acts (go := (·.cmdGns [] true)) hg (cmdGns_of_on [] true hon)
      (gnssStart_keep s [] true (.refl s) rfl : Keep [.sys, .gns] s _) (by decide)
    exact ⟨_, congrArg Host.Outcome.next he, rfl, rfl, rfl, rfl, rfl, rfl, rfl, rfl, rfl, ho⟩
  case rate =>
    obtain ⟨he, ho⟩ := gated_acts (go := (·.writeGnsCtrl v)) hg (writeGnsCtrl_of_le hv)
      (onGns_keep s _ (.refl s) rfl : Keep [.sys, .gns] s _) (by decide)
    exact ⟨_, congrArg Host.Outcome.next he, rfl, ho⟩
  case fault =>
    have he := exec_gnssAntFault b i v hon
    refine ⟨_, he, ?_, fun hw hq => ?_,
      next_only (execGnssAntFault_keep b i v s (.refl s : Keep [.sys, .log, .tmb, .gns, .mon] s s) rfl) he⟩
    · split
      · exact (loseSource_gns _).trans (antFaulted_gns b i v)
      · exact antFaulted_gns b i v
    · rw [if_pos (timeSrc_gnss hw hon)]
      rw [← antFaulted_tmb b i v] at hq
      exact (loseSource_retuned hq).qual
  case retry =>
    obtain ⟨t, he, hgns⟩ := exec_antBiasRetry i v h
    exact ⟨t, he, hgns, next_only (execAntBiasRetry_keep i v s (.refl s : Keep [.sys, .log, .gns, .mon] s s) rfl) he⟩
  case ended =>
    exact ⟨_, congrArg Host.Outcome.next (if_pos h), antEnds_gns i v,
      (antEnds_keep s i v (.refl s) rfl : Keep [.sys, .log, .gns, .mon] s _).toOnly⟩
  case window => exact ⟨_, rfl, rfl, (onGns_keep s _ (.refl s) rfl : Keep [.gns] s _).toOnly⟩
  case save => exact ⟨_, rfl, rfl, (onGns_keep s _ (.refl s) rfl : Keep [.gns] s _).toOnly⟩

/-! ### Measurements (R187, R193) -/

section
variable {s : State}

/-- The tracking channels of an epoch latch: C/N0, and a slip makes the polarity unresolved. -/
def State.latch (s : State) (ms : List GnsMeas) : State :=
  ms.foldl (fun (s : State) (m : GnsMeas) => s.setChan m.chan fun x =>
    { x with cn0 := satNat 8191 m.cn0, pol := if m.slip then 0 else x.pol }) s

theorem latch_gns (s : State) (ms : List GnsMeas) : ∃ cs, (s.latch ms).gns = { s.gns with chans := cs } := by
  unfold State.latch
  induction ms generalizing s with
  | nil => exact ⟨_, rfl⟩
  | cons m ms ih => exact ih _

theorem latch_sys (s : State) (ms : List GnsMeas) : (s.latch ms).sys = s.sys :=
  (foldl_keep (.refl s) fun t m h => setChan_keep t m.chan _ h rfl : Keep [.gns] s (s.latch ms)).only .sys (by decide)

/-- The measurements of an epoch that tracking channels make while the front end is open. -/
def State.tracked (s : State) (ms : List GnsMeas) : List GnsMeas :=
  ms.filter fun m => s.gns.chans[m.chan].tracks && !s.gns.asleep

/-- The PVT rate that the mode allows is in force, and the tracking channels have latched. -/
def State.epoch (s : State) (ms : List GnsMeas) : State :=
  (s.onGns fun g => { g with rateF := min g.rateReq (modePvt s.sys.current) }).latch (s.tracked ms)

theorem epoch_gns (s : State) (ms : List GnsMeas) : ∃ cs, (s.epoch ms).gns =
    { s.gns with rateF := min s.gns.rateReq (modePvt s.sys.current), chans := cs } := latch_gns _ _

theorem epoch_sys (s : State) (ms : List GnsMeas) : (s.epoch ms).sys = s.sys := latch_sys _ _

/-- The entries of an epoch enter Q11 where they leave four free; else none does, and Q11 has overflowed. -/
theorem exec_measurementEpoch (ms : List GnsMeas) (hon : s.gnssOn = true) :
    exec (.measurementEpoch ms) s = .next (if s.gns.q11.length + (s.tracked ms).length + 4 ≤ 64 then
      (s.epoch ms).pushQ11 ((s.epoch ms).epochEntries (s.tracked ms)) else (s.epoch ms).noteOvf 11) := by
  have hq : (s.epoch ms).gns.q11 = s.gns.q11 := by
    obtain ⟨cs, h⟩ := epoch_gns s ms
    rw [h]
  rw [← hq]
  exact congrArg Host.Outcome.next (if_neg (not_gnssOff hon))

theorem exec_measurementEpoch_queued (ms : List GnsMeas) (hon : s.gnssOn = true)
    (hq : s.gns.q11.length + (s.tracked ms).length + 4 ≤ 64) :
    exec (.measurementEpoch ms) s = .next ((s.epoch ms).pushQ11 ((s.epoch ms).epochEntries (s.tracked ms))) := by
  rw [exec_measurementEpoch ms hon, if_pos hq]

theorem exec_measurementEpoch_overflow (ms : List GnsMeas) (hon : s.gnssOn = true)
    (hq : 64 < s.gns.q11.length + (s.tracked ms).length + 4) :
    exec (.measurementEpoch ms) s = .next ((s.epoch ms).noteOvf 11) := by
  rw [exec_measurementEpoch ms hon, if_neg (Nat.not_le.mpr hq)]

theorem epochEntries_length (s : State) (ms : List GnsMeas) : (s.epochEntries ms).length = ms.length := by
  induction ms with
  | nil => rfl
  | cons m ms ih =>
    cases ms with
    | nil => rfl
    | cons n ms => exact congrArg (· + 1) ih

theorem pushQ11_gns (s : State) (es : List (List Byte)) :
    (s.pushQ11 es).gns = { s.gns with q11 := s.gns.q11 ++ es } := rfl

theorem noteOvf_ovf (s : State) (q : Fin 16) :
    (s.noteOvf q).sys.qstat[q].ovf = satNat 255 (s.sys.qstat[q].ovf + 1) := congrArg QStat.ovf (upd_same _ _ _)

/-! ### Words (R187, R189) -/

/-- A word put into Q11, or lost where Q11 is full. -/
def State.queueWord (s : State) (c : GnsCh) (w : NavWord) : State :=
  if s.gns.q11.length < 64 then s.pushQ11 [s.wordEntry c w]
  else (s.noteOvf 11).onGns fun g => { g with navLost := satNat 255 (g.navLost + 1) }

theorem exec_navWord {c : GnsCh} (w : NavWord) (hon : s.gnssOn = true) (h : s.gns.chans[c].st = .nav) :
    exec (.navWord c w) s = .next ((s.queueWord c w).learnWord c w) := by
  have hn : ¬ (!s.gnssOn || s.gns.chans[c].st != .nav) = true := by
    rw [hon, h]
    decide
  exact congrArg Host.Outcome.next (if_neg hn)

/-! ### The solution (R192) -/

/-- A 3D fix as the registers show it, before it is recorded. -/
def State.fix3D (s : State) (v : Fix) : State :=
  s.onGns fun g =>
    { g with fix := 2, nsv := (s.usable v.svs).length, pvt := s.pvtOf v v.hgt,
             pos := some (v.instant / 2 ^ 32, v.lat, v.lon, v.hgt), fix3 := some (v.instant / 2 ^ 32, v.hgt) }

theorem fixMade_gns (s : State) (n : Nat) :
    ∃ t, (s.fixMade n).gns = { s.gns with firstFix := true, lost := false, ttff := t } := by
  unfold State.fixMade
  dsimp only
  split
  · exact ⟨_, timeEmit_gns ..⟩
  · exact ⟨_, rfl⟩

theorem exec_pvtSolution_3D (v : Fix) (hon : s.gnssOn = true) (h : 4 ≤ (s.usable v.svs).length) :
    ∃ t ttff, exec (.pvtSolution v) s = .next t ∧
      t.gns = { (s.fix3D v).gns with firstFix := true, lost := false, ttff := ttff } := by
  have h3 : ¬ (s.usable v.svs).length < 3 := by omega
  have h4 : ¬ (s.usable v.svs).length < 4 := by omega
  obtain ⟨ttff, hfix⟩ := fixMade_gns (s.fix3D v) (s.usable v.svs).length
  obtain ⟨t, he, ht⟩ : ∃ t, execPvtSolution v s = .next t ∧
      t.gns = ((s.fix3D v).fixMade (s.usable v.svs).length).gns := by
    simp only [execPvtSolution, if_neg (not_gnssOff hon), if_neg h3, if_neg h4, if_pos h]
    refine ⟨_, rfl, ?_⟩
    split
    · rfl
    · rfl
  exact ⟨t, ttff, he, ht.trans hfix⟩

/-- Without the SVs of a fix there is none, and no heading. -/
theorem exec_pvtSolution_none (v : Fix) (hon : s.gnssOn = true) (h : (s.usable v.svs).length < 3) :
    exec (.pvtSolution v) s = .next (s.onGns fun g =>
      { g with fix := 0, nsv := (s.usable v.svs).length, pvt := { g.pvt with hdg := 0xFFFF } }) :=
  congrArg Host.Outcome.next ((if_neg (not_gnssOff hon)).trans (if_pos h))

theorem exec_gnssFixLost (hon : s.gnssOn = true) (h : s.gns.lost = false) :
    ∃ t, exec .gnssFixLost s = .next t ∧
      t.gns = { s.gns with lost := true, fix := 0, pvt := { s.gns.pvt with hdg := 0xFFFF } } := by
  have hn : ¬ (!s.gnssOn || s.gns.lost) = true := by
    rw [hon, h]
    decide
  exact ⟨_, congrArg Host.Outcome.next (if_neg hn), timeEmit_gns ..⟩

end

/-- Settles O35: an epoch is `State.epoch` and then its entries in Q11 or an overflow, a word is `State.queueWord` and
what the runtime learns of it, a 3D fix is `State.fix3D`. -/
theorem gnssMeasurementsWordsAndFixes : Obligations.GnssMeasurementsWordsAndFixes := by
  refine ⟨fun ms s hon hq => ?queued, fun ms s hon hq => ?overflow, fun c w s hon hc hq => ?word,
    fun c w s hon hc hq => ?lostWord, fun v s hon h => ?fix, fun v s hon h => ?noFix, fun s hon h => ?fixLost⟩
  case queued =>
    have he := exec_measurementEpoch_queued ms hon hq
    obtain ⟨cs, hgns⟩ := epoch_gns s ms
    have hk := next_only (execMeasurementEpoch_keep ms s (.refl s : Keep [.sys, .gns] s s) rfl) he
    refine ⟨_, he, ?_, ?_, ?_, ?_, hk⟩ <;> rw [pushQ11_gns, hgns]
    · rw [List.length_append, epochEntries_length]
      rfl
    · exact List.take_left
  case overflow =>
    have he := exec_measurementEpoch_overflow ms hon hq
    obtain ⟨cs, hgns⟩ := epoch_gns s ms
    have hovf := noteOvf_ovf (s.epoch ms) 11
    rw [epoch_sys] at hovf
    exact ⟨_, he, (congrArg GnsState.rateF hgns :), (congrArg GnsState.q11 hgns :), hovf,
      next_only (execMeasurementEpoch_keep ms s (.refl s : Keep [.sys, .gns] s s) rfl) he⟩
  case word =>
    have he := exec_navWord w hon hc
    rw [State.queueWord, if_pos hq] at he
    exact ⟨_, he, rfl, rfl, rfl, next_only (execNavWord_keep c w s (.refl s : Keep [.sys, .gns] s s) rfl) he⟩
  case lostWord =>
    have he := exec_navWord w hon hc
    rw [State.queueWord, if_neg (Nat.not_lt.mpr hq)] at he
    exact ⟨_, he, rfl, rfl, rfl, next_only (execNavWord_keep c w s (.refl s : Keep [.sys, .gns] s s) rfl) he⟩
  case fix =>
    obtain ⟨t, ttff, he, hgns⟩ := exec_pvtSolution_3D v hon h
    have hk := next_only (execPvtSolution_keep v s (.refl s : Keep [.sys, .log, .gns, .mon, .sct] s s) rfl) he
    refine ⟨t, he, ?_, ?_, ?_, ?_, ?_, ?_, ?_, hk⟩ <;> rw [hgns] <;> rfl
  case noFix => exact ⟨_, exec_pvtSolution_none v hon h, rfl, (onGns_keep s _ (.refl s) rfl : Keep [.gns] s _).toOnly⟩
  case fixLost =>
    obtain ⟨t, he, hgns⟩ := exec_gnssFixLost hon h
    exact ⟨t, he, hgns, next_only (execGnssFixLost_keep s (.refl s : Keep [.sys, .log, .gns, .mon] s s) rfl) he⟩

end Sys2Proof.Machine
end

section
/-! SUPPORT. What the operations of section control leave of the unit and of its sections. -/

namespace Sys2Proof.Machine

open Sys2Proof

/-- From `s` to `t` no section has changed its mode or its commanded state, and of the unit only the sections, the counts
of lateness and refusal, UNL and the excursion off the map can have changed. -/
structure SctKept (s t : State) : Prop where
  mode : ∀ i : SectId, t.sct.sects[i].mode = s.sct.sects[i].mode
  cmd  : ∀ i : SectId, t.sct.sects[i].cmd = s.sct.sects[i].cmd
  unit : ∃ v late ref unl exc, t.sct =
    { s.sct with sects := v, cntLate := late, cntRef := ref, unl := unl, mapExc := exc }

section
variable {s t u : State}

theorem SctKept.refl (s : State) : SctKept s s := ⟨fun _ => rfl, fun _ => rfl, _, _, _, _, _, rfl⟩

theorem SctKept.congr (h : SctKept s t) (e : u.sct = t.sct) : SctKept s u := by
  obtain ⟨hm, hc, hu⟩ := h
  rw [← e] at hm hc hu
  exact ⟨hm, hc, hu⟩

theorem SctKept.of_eq (e : t.sct = s.sct) : SctKept s t := (SctKept.refl s).congr e

theorem SctKept.trans (h : SctKept s t) (h' : SctKept t u) : SctKept s u := by
  obtain ⟨_, _, _, _, _, hu⟩ := h.unit
  obtain ⟨_, _, _, _, _, hu'⟩ := h'.unit
  exact ⟨fun i => (h'.mode i).trans (h.mode i), fun i => (h'.cmd i).trans (h.cmd i), _, _, _, _, _, by rw [hu', hu]⟩

/-- What does not read the parts that can change is the same. -/
theorem SctKept.proj {β : Type} (h : SctKept s t) (g : SctState → β)
    (hg : ∀ x v late ref unl exc,
      g { x with sects := v, cntLate := late, cntRef := ref, unl := unl, mapExc := exc } = g x := by
        exact fun _ _ _ _ _ _ => rfl) : g t.sct = g s.sct := by
  obtain ⟨_, _, _, _, _, hu⟩ := h.unit
  rw [hu, hg]

theorem SctKept.ite {c : Prop} [Decidable c] (h : SctKept s t) (h' : SctKept s u) : SctKept s (if c then t else u) := by
  split
  · exact h
  · exact h'

theorem SctKept.foldl {α : Type} {f : State → α → State} (l : List α) (hf : ∀ u a, SctKept u (f u a))
    (h : SctKept s t) : SctKept s (l.foldl f t) := by
  induction l generalizing t with
  | nil => exact h
  | cons a l ih => exact ih (h.trans (hf t a))

end

/-! ### One section set -/

theorem setSect_same (s : State) (i : SectId) (f : Sect → Sect) :
    (s.setSect i f).sct.sects[i] = f s.sct.sects[i] := upd_same _ _ _

theorem setSect_other (s : State) {i j : SectId} (f : Sect → Sect) (h : j ≠ i) :
    (s.setSect i f).sct.sects[j] = s.sct.sects[j] := upd_other _ _ _ _ h.symm

/-- What `f` keeps of each section, a section set with `f` keeps. -/
theorem setSect_proj {β : Type} (g : Sect → β) (s : State) (i : SectId) {f : Sect → Sect} (hf : ∀ x, g (f x) = g x)
    (j : SectId) : g (s.setSect i f).sct.sects[j] = g s.sct.sects[j] := by
  by_cases h : j = i
  · subst h
    rw [setSect_same, hf]
  · rw [setSect_other s f h]

theorem SctKept.setSect {s t : State} (h : SctKept s t) (i : SectId) {f : Sect → Sect}
    (hm : ∀ x, (f x).mode = x.mode := by exact fun _ => rfl) (hc : ∀ x, (f x).cmd = x.cmd := by exact fun _ => rfl) :
    SctKept s (t.setSect i f) :=
  h.trans ⟨setSect_proj Sect.mode t i hm, setSect_proj Sect.cmd t i hc, _, _, _, _, _, rfl⟩

theorem SctKept.onSct {s t : State} (h : SctKept s t) {f : SctState → SctState}
    (hs : (f t.sct).sects = t.sct.sects := by exact rfl)
    (hu : ∃ v late ref unl exc, f t.sct =
      { t.sct with sects := v, cntLate := late, cntRef := ref, unl := unl, mapExc := exc } := by
        exact ⟨_, _, _, _, _, rfl⟩) : SctKept s (t.onSct f) :=
  h.trans ⟨fun i => congrArg (fun v => v[i].mode) hs, fun i => congrArg (fun v => v[i].cmd) hs, hu⟩

/-! ### Commands of sections (R196, R210 to R212) -/

section
variable (s : State) (i : SectId)

theorem send_sct (c d : Nat) (b : List Byte) : (s.send c d b).1.sct = s.sct :=
  (send_keep s c d b (.refl s) rfl : Keep [.sys, .hie] s _).only .sct (by decide)

theorem sctEmit_sct (code : Nat) (j : Option SectId) (a b : Int) : (s.sctEmit code j a b).sct = s.sct := emit_sct _ _

theorem emptyEntry_sct : (s.emptyEntry i).sct = s.sct := by
  unfold State.emptyEntry
  split
  · rfl
  · rfl

theorem sectRefused_kept (on : Bool) (st : Status) : SctKept s (s.sectRefused i on st) :=
  ((SctKept.refl s).setSect i).onSct.congr (sctEmit_sct ..)

theorem placeHere_kept (on : Bool) (at_ : Nat) (e : EntryId) : SctKept s (s.placeHere i on at_ e) := by
  unfold State.placeHere
  split
  · exact .of_eq rfl
  · exact (sectRefused_kept s i on _).congr (answer_sct _ _ _)

theorem withdraw_kept : SctKept s (s.withdraw i) := by
  unfold State.withdraw
  split
  · exact .ite (.refl s) ((SctKept.of_eq (emptyEntry_sct s i)).setSect i)
  · exact .refl s

theorem adopt_kept (t : Nat) (p : Plan) : SctKept s (s.adopt i t p) := by
  unfold State.adopt
  extract_lets near q u
  have hu : SctKept s u := (SctKept.refl s).setSect i
  split
  · split
    · exact hu.trans (placeHere_kept u i _ _ _)
    · exact hu
  · exact .ite (hu.congr (send_sct _ _ _ _)) hu

theorem placeSoon_kept (on : Bool) (t : Nat) : SctKept s (s.placeSoon i on t) :=
  (withdraw_kept s i).trans (adopt_kept _ i t _)

theorem releaseEntry_kept : SctKept s (s.releaseEntry i) := by
  unfold State.releaseEntry
  extract_lets u v
  have hu : SctKept s u := by
    unfold u
    split
    · exact .of_eq rfl
    · exact .refl s
  have hv : SctKept s v := by
    unfold v
    split
    · extract_lets r
      exact .ite (hu.congr (send_sct _ _ _ _)) (hu.congr (send_sct _ _ _ _))
    · exact hu
  exact hv.setSect i

theorem placeManual_kept (on : Bool) : SctKept s (s.placeManual i on).1 := by
  unfold State.placeManual
  extract_lets at_ u
  have hu : SctKept s u := (SctKept.refl s).setSect i
  split
  · split
    · exact hu.trans (placeHere_kept u i _ _ _)
    · exact hu.congr rfl
  · exact hu.congr (send_sct _ _ _ _)

/-- A section that comes to a mode as commanded: no setpoint and no pause stand. -/
def Sect.enter (m : SectMode) (x : Sect) : Sect := { x with mode := m, setpt := none, paused := false }

theorem leaveAuto_eq (m : SectMode) : ∃ u, SctKept s u ∧ s.leaveAuto i m = u.setSect i (.enter m) :=
  ⟨_, .ite ((withdraw_kept s i).trans (releaseEntry_kept _ i)) (.refl s), rfl⟩

theorem leaveAuto_mode (m : SectMode) (j : SectId) :
    (s.leaveAuto i m).sct.sects[j].mode = if j = i then m else s.sct.sects[j].mode := by
  obtain ⟨u, hu, he⟩ := leaveAuto_eq s i m
  rw [he]
  split
  · next h =>
    subst h
    rw [setSect_same]
    rfl
  · next h => rw [setSect_other u _ h, hu.mode]

theorem leaveAuto_cmd (m : SectMode) (j : SectId) : (s.leaveAuto i m).sct.sects[j].cmd = s.sct.sects[j].cmd := by
  obtain ⟨u, hu, he⟩ := leaveAuto_eq s i m
  rw [he, ← hu.cmd]
  exact setSect_proj Sect.cmd u i (f := .enter m) (fun _ => rfl) j

theorem leaveAuto_fault (m : SectMode) : (s.leaveAuto i m).sct.fault = s.sct.fault := by
  obtain ⟨u, hu, he⟩ := leaveAuto_eq s i m
  rw [he]
  exact hu.proj SctState.fault

end

/-- Sections of a list set one after the other, each to a value `m` of its own of what `g` reads: those of the list have it,
the others what they had. `P` is what the steps rely on and keep. -/
theorem foldl_sect {β : Type} (g : Sect → β) {f : State → SectId → State} {m : SectId → β} {P : State → Prop}
    (hP : ∀ s i, P s → P (f s i))
    (hf : ∀ s i j, P s → g (f s i).sct.sects[j] = if j = i then m j else g s.sct.sects[j]) (l : List SectId) {s : State}
    (hs : P s) (j : SectId) : g (l.foldl f s).sct.sects[j] = if j ∈ l then m j else g s.sct.sects[j] := by
  induction l generalizing s with
  | nil => simp
  | cons i l ih =>
    rw [List.foldl_cons, ih (hP s i hs), hf s i j hs]
    by_cases hl : j ∈ l
    · simp [hl]
    · simp [hl]

end Sys2Proof.Machine
end

section
/-! SUPPORT. The commands of section control, and its boundary table. -/

namespace Sys2Proof.Machine

open Sys2Proof

theorem fallDefault_kept (s : State) : SctKept s s.fallDefault := by
  unfold State.fallDefault
  extract_lets eng fresh u v
  clear_value fresh
  have hu : SctKept s u := by
    unfold u
    split
    · exact .of_eq (sctEmit_sct ..)
    · exact .refl s
  have hv : SctKept s v := .foldl _ (fun t i => (SctKept.refl t).setSect i) hu
  exact hv.onSct

/-! ### Commands that pass their gate (R195) -/

section
variable {s u : State} {k : SessId} {st : Status}

theorem sctGated_of_ok {go : State → State × Option Status} (hg : s.gate k rightCOMMAND = .ok) (hw : s.isWorker = false)
    (hr : go s = (u, some st)) : s.sctGated k go = u.answer (u.me k) st := by
  simp only [State.sctGated, hg, hw, Bool.false_eq_true, if_false, hr]

theorem sctGated_atOnce {go : State → State × Status} (hg : s.gate k rightCOMMAND = .ok) (hw : s.isWorker = false) :
    (s.sctGated k fun s => atOnce (go s)) = (go s).1.answer ((go s).1.me k) (go s).2 :=
  sctGated_of_ok hg hw rfl

end

/-! ### ENGAGE (R216) -/

theorem engageNow_mode (s : State) (is : List SectId) (m : SectMode) (j : SectId) :
    (s.engageNow is m).sct.sects[j].mode = if j ∈ is then m else s.sct.sects[j].mode := by
  unfold State.engageNow
  extract_lets u v
  have hu : u.sct.sects[j].mode = if j ∈ is then m else s.sct.sects[j].mode := by
    refine foldl_sect Sect.mode (P := fun _ => True) (m := fun _ => m) (fun _ _ _ => trivial)
      (fun s i j _ => ?_) is trivial j
    split
    · next hm =>
      split
      · next h => rw [h]; exact beq_iff_eq.mp hm
      · rfl
    · extract_lets e
      split
      · next h => rw [h, setSect_same]
      · next h => rw [setSect_other _ _ h, (withdraw_kept s i).mode]
  have hv : v.sct.sects = u.sct.sects := by
    unfold v
    rw [State.onSct_sct]
    split
    · rfl
    · rfl
  rw [(fallDefault_kept _).mode, sctEmit_sct, hv, hu]

theorem reserveHere_kept {is : List SectId} {s u : State} (h : s.reserveHere is = some u) : SctKept s u := by
  induction is generalizing s with
  | nil => exact Option.some.inj h ▸ .refl s
  | cons i is ih =>
    rw [State.reserveHere] at h
    split at h
    · exact ih h
    unfold State.reserve at h
    cases hf : s.freeEntry 255 with
    | none => simp only [hf, reduceCtorEq] at h
    | some e =>
      simp only [hf] at h
      refine SctKept.trans (SctKept.setSect (t := s.setEntry e _) ?_ i) (ih h)
      exact .of_eq rfl

/-- An ENGAGE that passes its checks, each section with its entry, engages the sections selected at once. -/
theorem cmdEngage_at_once {s u : State} (src : Src) {ext : Bool} (hc : s.engageCheck s.selected ext = .ok)
    (hn : s.sct.engaging = none) (hr : s.reserveHere (s.selected.filter s.sctHere) = some u)
    (hf : (s.selected.filter fun i => !s.sctHere i && s.sct.sects[i].slot.isNone) = []) :
    s.cmdEngage src ext = (u.engageNow s.selected (if ext then .ext else .auto), some .ok) := by
  simp only [State.cmdEngage, hc, hn, hr, hf, Option.isSome_none, Bool.false_eq_true, if_false, State.askAll,
    List.isEmpty_nil, if_true]

theorem sctGated_engage {s u : State} {k : SessId} {ext : Bool} (hg : s.gate k rightCOMMAND = .ok) (hw : s.isWorker = false)
    (hc : s.engageCheck s.selected ext = .ok) (hn : s.sct.engaging = none)
    (hr : s.reserveHere (s.selected.filter s.sctHere) = some u)
    (hf : (s.selected.filter fun i => !s.sctHere i && s.sct.sects[i].slot.isNone) = []) (i : SectId) :
    (s.sctGated k fun s => s.cmdEngage (s.me k) ext).sct.sects[i].mode =
      if i ∈ s.selected then (if ext then .ext else .auto) else s.sct.sects[i].mode := by
  rw [sctGated_of_ok hg hw (cmdEngage_at_once _ hc hn hr hf), answer_sct, engageNow_mode, (reserveHere_kept hr).mode]

/-! ### DISENGAGE, SET_ON and SET_OFF (R215) -/

theorem cmdDisengage_mode (s : State) (j : SectId) : s.cmdDisengage.1.sct.sects[j].mode =
    if j ∈ s.selected.filter (fun i => s.sct.sects[i].engaged) then (if s.sct.sects[j].cmd then .on else .off)
    else s.sct.sects[j].mode := by
  unfold State.cmdDisengage
  extract_lets is u
  have hu : u.sct.sects[j].mode = if j ∈ is then (if s.sct.sects[j].cmd then .on else .off) else s.sct.sects[j].mode := by
    refine foldl_sect Sect.mode (P := fun t => ∀ i : SectId, t.sct.sects[i].cmd = s.sct.sects[i].cmd)
      (m := fun i => if s.sct.sects[i].cmd then .on else .off) (fun t i h j => ?_) (fun t i j h => ?_) is (fun _ => rfl) j
    · rw [leaveAuto_cmd, h]
    · rw [leaveAuto_mode, h]
      split
      · next hj => rw [hj]
      · rfl
  dsimp only
  split
  · exact hu
  · exact (congrArg (fun c : SctState => c.sects[j].mode) (sctEmit_sct ..)).trans hu

/-- SET_ON and SET_OFF set one section after the other. -/
theorem setSections_mode (s : State) (is : List SectId) (on : Bool) (j : SectId) :
    (s.setSections is on).1.sct.sects[j].mode = if j ∈ is then (if on then .on else .off) else s.sct.sects[j].mode := by
  have hfst : (s.setSections is on).1 =
      is.foldl (fun s i => ((s.leaveAuto i (if on then .on else .off)).placeManual i on).1) s :=
    (List.foldl_hom Prod.fst fun _ _ => rfl).symm
  rw [hfst]
  refine foldl_sect Sect.mode (P := fun _ => True) (m := fun _ => if on then .on else .off) (fun _ _ _ => trivial)
    (fun s i j _ => ?_) is trivial j
  rw [(placeManual_kept _ i on).mode, leaveAuto_mode]

theorem cmdSet2_mode {s : State} {on : Bool} (h : (s.setSections s.selectedUsed on).2 = true) (j : SectId) :
    (s.cmdSet2 on).1.sct.sects[j].mode =
      if j ∈ s.selectedUsed then (if on then .on else .off) else s.sct.sects[j].mode := by
  unfold State.cmdSet2
  extract_lets left go
  rw [if_pos h]
  dsimp only
  split
  · exact setSections_mode s _ on j
  · exact (congrArg (fun c : SctState => c.sects[j].mode) (sctEmit_sct ..)).trans (setSections_mode s _ on j)

theorem sctGated_set {s : State} {k : SessId} {on : Bool} (hg : s.gate k rightCOMMAND = .ok) (hw : s.isWorker = false)
    (h : (s.setSections s.selectedUsed on).2 = true) (i : SectId) :
    (s.sctGated k fun s => atOnce (s.cmdSet2 on)).sct.sects[i].mode =
      if i ∈ s.selectedUsed then (if on then .on else .off) else s.sct.sects[i].mode := by
  rw [sctGated_atOnce hg hw, answer_sct, cmdSet2_mode h]

/-! ### The boundary table (R203) -/

/-- What BCHECK shows: the first error of the table, or that it is valid. -/
def SctState.checked (e : Option (Nat × Nat × Nat)) (x : SctState) : SctState :=
  match e with
  | some (p, e, v) => { x with bvalid := false, bres := 2, bpoly := p, berr := e, bvtx := v }
  | none => { x with bvalid := true, bres := 1, bpoly := 0, berr := 0, bvtx := 0 }

theorem cmdBcheck_sct {s : State} (h : s.sctEng = false) : s.cmdBcheck.1.sct = s.sct.checked s.tableError := by
  unfold State.cmdBcheck
  rw [h]
  cases s.tableError with
  | none => rfl
  | some e => rfl

theorem boundaryWrite_acts {a : Nat} {v : Word} {f : SctState → SctState} {k : SessId} {s : State}
    (hb : boundaryWord a v = some f) (hg : s.gate k rightPARAM = .ok) (hw : s.isWorker = false) (he : s.sctEng = false) :
    ∃ t, exec (.boundaryWrite a v k) s = .next t ∧ t.sct = f s.sct ∧
      t.sys.answers = ⟨s.me k, .ok⟩ :: s.sys.answers ∧ State.Only [.sys, .sct] s t := by
  have hset : s.setBoundary f = (s.onSct f, .ok) := by
    rw [State.setBoundary, hw, he]
    rfl
  have hr : s.writeBoundary a v = some (s.onSct f, .ok) := by
    rw [State.writeBoundary, hb, ← hset]
    rfl
  obtain ⟨hx, ho⟩ := gated_acts (go := fun _ => (s.onSct f, .ok)) hg rfl
    (onSct_keep s f (.refl s) rfl : Keep [.sys, .sct] s _) (by decide)
  refine ⟨_, ?_, rfl, rfl, ho⟩
  change execBoundaryWrite a v k s = _
  rw [execBoundaryWrite, hr, ← hx]

/-- What an engaging or manual command of a section may change. -/
abbrev sctParts : List Part := [.sys, .log, .hie, .mon, .sct]

/-- Settles O36: ENGAGE is `State.engageNow`, DISENGAGE and SET are folds of `State.leaveAuto` over the sections that they
name, and the other commands set fields of the unit. -/
theorem sectionsEngageLeaveAndSet : Obligations.SectionsEngageLeaveAndSet := by
  refine ⟨fun k u s hg hw hc hn hr hf => ?engage, fun k u s hg hw hc hn hr hf => ?engageExt, fun k s hg hw => ?disengage,
    fun k s hg hw hq => ?setOn, fun k s hg hw hq => ?setOff, fun k s hg hw he => ?bcheck, fun k s hg hw => ?clear,
    fun a v f k s hb hg hw he => boundaryWrite_acts hb hg hw he⟩
  case engage =>
    exact ⟨_, rfl, sctGated_engage hg hw hc hn hr hf,
      next_only (execEngage_keep k s (.refl s : Keep sctParts s s) rfl) rfl⟩
  case engageExt =>
    exact ⟨_, rfl, sctGated_engage hg hw hc hn hr hf,
      next_only (execEngageExt_keep k s (.refl s : Keep sctParts s s) rfl) rfl⟩
  case disengage =>
    refine ⟨_, rfl, fun i => ?_, next_only (execDisengage_keep k s (.refl s : Keep sctParts s s) rfl) rfl⟩
    rw [sctGated_atOnce hg hw, answer_sct, cmdDisengage_mode]
  case setOn =>
    exact ⟨_, rfl, sctGated_set hg hw hq, next_only (execSetOn_keep k s (.refl s : Keep sctParts s s) rfl) rfl⟩
  case setOff =>
    exact ⟨_, rfl, sctGated_set hg hw hq, next_only (execSetOff_keep k s (.refl s : Keep sctParts s s) rfl) rfl⟩
  case bcheck =>
    refine ⟨_, rfl, ?_, next_only (execBcheck_keep k s (.refl s : Keep [.sys, .hie, .mon, .sct] s s) rfl) rfl⟩
    rw [sctGated_atOnce hg hw, answer_sct]
    exact cmdBcheck_sct he
  case clear =>
    refine ⟨_, rfl, ?_, next_only (execSectionClrflt_keep k s (.refl s : Keep [.sys, .hie, .mon, .sct] s s) rfl) rfl⟩
    rw [sctGated_atOnce hg hw, answer_sct]
    rfl

end Sys2Proof.Machine
end

section
/-! SUPPORT. The evaluation of section control, its sources, and the Task Controller. -/

namespace Sys2Proof.Machine

open Sys2Proof

/-! ### The evaluation (R209) -/

section
variable (s : State) (i : SectId)

theorem noteLate_kept (us : Nat) : SctKept s (s.noteLate i us) :=
  (SctKept.refl s).onSct.congr (sctEmit_sct ..)

theorem evalAuto_kept (permit : Bool) (t : Nat) (p : Pose) : SctKept s (s.evalAuto i permit t p) := by
  unfold State.evalAuto
  extract_lets x frozen
  refine .ite (.refl s) ?_
  split
  · exact withdraw_kept s i
  · extract_lets q u
    have hu : SctKept s u := .ite (noteLate_kept s i _) (.refl s)
    exact hu.trans (adopt_kept u i t q)

theorem evalExt_kept (t : Nat) : SctKept s (s.evalExt i t) := by
  unfold State.evalExt
  extract_lets x u
  have hu : SctKept s u := (SctKept.refl s).setSect i
  split
  · exact .ite hu (hu.trans (placeSoon_kept u i true t))
  · exact .ite (hu.trans (placeSoon_kept u i false t)) hu
  · exact hu

theorem markCell_sct (n : Nat) : (s.markCell n).sct = s.sct := by
  unfold State.markCell
  split
  · rfl
  · rfl

theorem coverSect_kept (p : Pose) : SctKept s (s.coverSect i p) :=
  (SctKept.foldl _ (fun t n => .of_eq (markCell_sct t n)) (.refl s)).setSect i

theorem showSect_kept (permit : Bool) (p : Option Pose) : SctKept s (s.showSect i permit p) :=
  (SctKept.refl s).setSect i

theorem mapEdge_kept (p : Pose) : SctKept s (s.mapEdge p) := by
  unfold State.mapEdge
  extract_lets outs
  clear_value outs
  split
  · exact (SctKept.refl s).onSct
  · exact .ite (.refl s) ((SctKept.refl s).onSct.congr (sctEmit_sct ..))

end

/-- Position, speed and the permit as the registers show them after an evaluation without a residue mismatch. -/
def State.judged (s : State) : State :=
  (s.onSct fun c => { c with resRun := 0 }).showPos (s.onSct fun c => { c with resRun := 0 }).estimate s.permitNow

/-- The sections of an evaluation: the map, the plans, the setpoints, and what the registers show. -/
def State.evalSects (s : State) (permit : Bool) (pose : Option Pose) (t : Nat) : State :=
  let s := match pose with
    | some p =>
      let s := s.mapEdge p
      let s := s.nsectIds.foldl (fun (s : State) (i : SectId) => s.coverSect i p) s
      s.nsectIds.foldl (fun (s : State) (i : SectId) => match s.sct.sects[i].mode with
        | .auto => if s.sct.susp then s else s.evalAuto i permit t p
        | _ => s) s
    | none => s
  let s := s.nsectIds.foldl (fun (s : State) (i : SectId) => if s.sct.sects[i].mode == .ext then s.evalExt i t else s) s
  (s.nsectIds.foldl (fun (s : State) (i : SectId) => s.showSect i permit pose) s).fallDefault

theorem evalSects_kept (s : State) (permit : Bool) (pose : Option Pose) (t : Nat) :
    SctKept s (s.evalSects permit pose t) := by
  unfold State.evalSects
  extract_lets u v
  have hu : SctKept s u := by
    unfold u
    split
    · next p =>
      refine .foldl _ (fun t i => ?_) (.foldl _ (fun t i => coverSect_kept t i p) (mapEdge_kept s p))
      split
      · exact .ite (.refl t) (evalAuto_kept t i _ _ p)
      · exact .refl t
    · exact .refl s
  have hv : SctKept s v := .foldl _ (fun t i => .ite (evalExt_kept t i _) (.refl t)) hu
  exact (SctKept.foldl _ (fun t i => showSect_kept t i permit pose) hv).trans (fallDefault_kept _)

theorem unsuspend_sct (s : State) : ∃ b, s.unsuspend.sct = { s.sct with susp := b } := by
  unfold State.unsuspend
  split
  · exact ⟨_, sctEmit_sct ..⟩
  · exact ⟨s.sct.susp, rfl⟩

section
variable {s : State}

theorem evaluates (hw : s.isWorker = false) (ha : s.rcp.applied = true) (hf : s.sct.fault = false) :
    ¬ (s.isWorker || !s.rcp.applied || s.sct.fault) = true := by
  rw [hw, ha, hf]
  decide

theorem exec_sectionEvaluation_clean (hw : s.isWorker = false) (ha : s.rcp.applied = true) (hf : s.sct.fault = false) :
    ∃ pose t, exec (.sectionEvaluation true) s = .next (s.judged.unsuspend.evalSects s.permitNow pose t) :=
  ⟨_, _, congrArg Host.Outcome.next (if_neg (evaluates hw ha hf))⟩

theorem exec_sectionEvaluation_residue (hw : s.isWorker = false) (ha : s.rcp.applied = true) (hf : s.sct.fault = false) :
    exec (.sectionEvaluation false) s = .next s.sctResidue :=
  congrArg Host.Outcome.next (if_neg (evaluates hw ha hf))

theorem sectionEvaluation_only {clean : Bool} {t : State} (he : exec (.sectionEvaluation clean) s = .next t) :
    State.Only [.sys, .log, .hie, .mon, .sct, .mem] s t :=
  next_only (execSectionEvaluation_keep clean s (.refl s : Keep [.sys, .log, .hie, .mon, .sct, .mem] s s) rfl) he

end

/-! ### Residue mismatches (R218) -/

/-- A residue mismatch more. -/
def SctState.mismatch (c : SctState) : SctState :=
  { c with resRun := min 3 (c.resRun + 1), resCnt := satNat 65535 (c.resCnt + 1) }

theorem sctFault_fault (s : State) : s.sctFault.sct.fault = true := by
  unfold State.sctFault
  extract_lets eng u
  have hu : u.sct.fault = true := congrArg SctState.fault (sctEmit_sct ..)
  clear_value eng u
  induction eng generalizing u with
  | nil => exact hu
  | cons i eng ih =>
    refine ih _ ?_
    dsimp only
    split
    · rw [leaveAuto_fault, hu]
    · rw [(placeManual_kept _ i false).proj SctState.fault, leaveAuto_fault, hu]

/-- The mismatch noted, before its consequence. -/
theorem sctResidue_eq (s : State) :
    ∃ u, u.sct = s.sct.mismatch ∧ s.sctResidue = if 3 ≤ u.sct.resRun then u.sctFault else u :=
  ⟨_, (sctEmit_sct ..).trans (State.count_sct _ _ _), rfl⟩

/-! ### Sources (R198, R200, R217) -/

section
variable {s : State}

/-- What section control takes of a frame: from the receiver's NAME, where the receiver is the source (R198). -/
theorem exec_extPositionFrame (f : ExtFrame) (hw : s.isWorker = false) (ha : s.rcp.applied = true) (hp : s.posSrc = 1) :
    exec (.extPositionFrame f s.extName) s = .next (s.extFrame f) := by
  refine congrArg Host.Outcome.next (if_pos ?_)
  rw [hw, ha, hp]
  simp

theorem extFrame_position_waits (lat lon : Int) (h : s.sct.extCog = none) :
    s.extFrame (.position lat lon) = s.onSct fun c => { c with extPos := some (lat, lon, s.tick) } := by
  simp only [State.extFrame, State.onSct_sct, h]

/-- The second frame of a pair within 50 ms makes a solution. -/
theorem extFrame_course_pairs (h v : Nat) {lat lon : Int} {a : Nat} (hp : s.sct.extPos = some (lat, lon, a))
    (h1 : a ≤ s.tick + 6000000) (h2 : s.tick ≤ a + 6000000) : ∃ tick seen,
    s.extFrame (.course h v) = (s.onSct fun c => { c with extPos := none, extCog := none }).pushSolution
      { x := (s.plane lat lon).1, y := (s.plane lat lon).2, speed := v, hdg := if h < 36000 then some h else none,
        tick := tick, seen := seen, hacc := 0xFFFF, fix := 3 } := by
  simp only [State.extFrame, State.onSct_sct, hp]
  exact ⟨_, _, if_pos ⟨h1, h2⟩⟩

theorem exec_speedDisagree (hw : s.isWorker = false) (hp : s.spdSrc = 2) :
    ∃ t, exec .speedDisagree s = .next t ∧ t.sct = { s.sct with disagree := true } := by
  refine ⟨_, rfl, ?_⟩
  rw [hw, hp]
  cases hd : s.sct.disagree with
  | false => exact sctEmit_sct ..
  | true =>
    simp only [bne_self_eq_false, Bool.or_true, if_true]
    rw [← hd]

theorem lossAction_kept (s : State) (is : List SectId) : SctKept s (s.lossAction is) :=
  .foldl is (fun t i => .ite ((withdraw_kept t i).trans (placeSoon_kept _ i false _)) (withdraw_kept t i)) (.refl s)

/-- The unit suspended. -/
def State.suspended (s : State) : State :=
  s.onSct fun c => { c with susp := true, suspAt := s.tick, posOk := s.positionOk, spdOk := s.speedOk }

theorem exec_sectPosLost (hw : s.isWorker = false) (ha : (s.nsectIds.filter fun i => s.sct.sects[i].mode == .auto) ≠ [])
    (hs : s.sct.susp = false) (hv : (s.positionOk && s.speedOk) = false) :
    ∃ t, exec .sectPosLost s = .next t ∧ SctKept s.suspended t := by
  have hn : ¬ (s.isWorker || (s.nsectIds.filter fun i => s.sct.sects[i].mode == .auto).isEmpty || s.sct.susp ||
      (s.positionOk && s.speedOk)) = true := by
    rw [hw, hs, hv]
    simpa using ha
  refine ⟨_, congrArg Host.Outcome.next (if_neg hn), ?_⟩
  exact (SctKept.of_eq (sctEmit_sct ..)).trans (lossAction_kept _ _)

/-! ### The Task Controller (R222, R223) -/

theorem exec_tcLost (hw : s.isWorker = false) (he : (s.nsectIds.filter fun i => s.sct.sects[i].mode == .ext) ≠ [])
    (hc : s.sct.tcOk = true) :
    ∃ t, exec .tcLost s = .next t ∧ SctKept (s.onSct fun c => { c with tcOk := false }) t := by
  have hn : ¬ (s.isWorker || (s.nsectIds.filter fun i => s.sct.sects[i].mode == .ext).isEmpty || !s.sct.tcOk) = true := by
    rw [hw, hc]
    simpa using he
  refine ⟨_, congrArg Host.Outcome.next (if_neg hn), ?_⟩
  exact (SctKept.of_eq (sctEmit_sct ..)).trans (lossAction_kept _ _)

theorem exec_tcSetpoint (d : Nat) (v : Word) (hw : s.isWorker = false) (hc : s.sct.tcActive = true)
    (ha : s.rcp.applied = true) : exec (.tcSetpoint d v) s = .next (s.tcSetpoint d v) := by
  refine congrArg Host.Outcome.next (if_neg ?_)
  rw [hw, hc, ha]
  decide

/-- The Task Controller heard now. -/
def State.tcHeard (s : State) : State := s.onSct fun c => { c with tcOk := c.tcActive, tcAt := s.tick }

theorem tcSetpoint_kept (s : State) (d : Nat) (v : Word) : SctKept s.tcHeard (s.tcSetpoint d v) :=
  .foldl _ (fun t i => .ite ((SctKept.refl t).setSect i) (.refl t)) (.refl _)

/-- The setpoint that section `i` has after word `d`: what the word gives where it names the section and the section is in
EXT. -/
def Sect.told (d : Nat) (v : Word) (i : SectId) (x : Sect) : Option Nat :=
  if i.val / 16 = d ∧ x.mode = .ext then some (bits v (2 * (i.val % 16)) 2) else x.setpt

theorem tcSetpoint_setpt (s : State) (d : Nat) (v : Word) (j : SectId) : (s.tcSetpoint d v).sct.sects[j].setpt =
    if j ∈ s.nsectIds then s.sct.sects[j].told d v j else s.sct.sects[j].setpt := by
  refine foldl_sect Sect.setpt (s := s.tcHeard) (m := fun i => s.sct.sects[i].told d v i)
    (P := fun t => ∀ i : SectId, t.sct.sects[i].told d v i = s.sct.sects[i].told d v i) (fun t i h j => ?_)
    (fun t i j h => ?_) s.nsectIds (fun _ => rfl) j
  · rw [← h j]
    split
    · next hi =>
      by_cases hj : j = i
      · rw [hj, setSect_same, Sect.told, Sect.told, if_pos hi, if_pos hi]
      · rw [setSect_other t _ hj]
    · rfl
  · rw [← h j]
    split
    · next hi =>
      split
      · next hj => rw [hj, setSect_same, Sect.told, if_pos hi]
      · next hj => rw [setSect_other t _ hj]
    · next hi =>
      split
      · next hj =>
        rw [hj]
        exact (if_neg hi).symm
      · rfl

end

/-- Settles O37: after `State.judged` an evaluation keeps the unit and the modes, and each source sets its fields of the
unit before what it does to the sections. -/
theorem sectionEvaluationsAndSourcesAct : Obligations.SectionEvaluationsAndSourcesAct := by
  refine ⟨fun s hw ha hf => ?clean, fun s hw ha hf hr => ?mismatch, fun s hw ha hf hr => ?fault,
    fun i s => ?pause, fun lat lon s hw ha hp hc => ?position, fun h v lat lon a s hw ha hp he h1 h2 => ?pair,
    fun s hw ha hs hv => ?lost, fun s hw hp => ?disagree, fun s => ?agree, fun d v s hw hc ha => ?setpoint,
    fun s hw he hc => ?tcLost⟩
  case clean =>
    obtain ⟨pose, n, he⟩ := exec_sectionEvaluation_clean hw ha hf
    obtain ⟨b, hb⟩ := unsuspend_sct s.judged
    have hk := evalSects_kept s.judged.unsuspend s.permitNow pose n
    refine ⟨_, he, (hk.proj SctState.posOk).trans (congrArg SctState.posOk hb),
      (hk.proj SctState.spdOk).trans (congrArg SctState.spdOk hb),
      (hk.proj SctState.permit).trans (congrArg SctState.permit hb),
      (hk.proj SctState.resRun).trans (congrArg SctState.resRun hb),
      ((hk.proj SctState.fault).trans (congrArg SctState.fault hb)).trans hf, fun i => ?_, sectionEvaluation_only he⟩
    rw [hk.mode, hb]
    rfl
  case mismatch =>
    have he := exec_sectionEvaluation_residue hw ha hf
    obtain ⟨u, hu, hs⟩ := sctResidue_eq s
    have hrun : s.sct.mismatch = { s.sct with resRun := s.sct.resRun + 1, resCnt := satNat 65535 (s.sct.resCnt + 1) } := by
      rw [SctState.mismatch, Nat.min_eq_right (by omega)]
    have hlow : ¬ 3 ≤ u.sct.resRun := by
      rw [hu, hrun]
      exact Nat.not_le.mpr (show s.sct.resRun + 1 < 3 by omega)
    rw [hs, if_neg hlow] at he
    exact ⟨u, he, hu.trans hrun,
      sectionEvaluation_only he⟩
  case fault =>
    have he := exec_sectionEvaluation_residue hw ha hf
    obtain ⟨u, hu, hs⟩ := sctResidue_eq s
    have hthird : 3 ≤ u.sct.resRun := by
      rw [hu]
      exact Nat.le_min.mpr ⟨Nat.le_refl 3, by omega⟩
    rw [hs, if_pos hthird] at he
    exact ⟨_, he, sctFault_fault u,
      sectionEvaluation_only he⟩
  case pause =>
    exact ⟨_, rfl, setSect_same s i _, fun j hj => setSect_other s _ hj,
      next_only (execSectRefusePauseEnd_keep i s (.refl s : Keep [.sct] s s) rfl) rfl⟩
  case position =>
    have he := exec_extPositionFrame (.position lat lon) hw ha hp
    rw [extFrame_position_waits lat lon hc] at he
    exact ⟨_, he, rfl, next_only (execExtPositionFrame_keep _ _ s (.refl s : Keep [.sct] s s) rfl) he⟩
  case pair =>
    have hx := exec_extPositionFrame (.course h v) hw ha hp
    obtain ⟨tick, seen, hf⟩ := extFrame_course_pairs h v he h1 h2
    rw [hf] at hx
    exact ⟨_, hx, rfl, rfl, rfl, next_only (execExtPositionFrame_keep _ _ s (.refl s : Keep [.sct] s s) rfl) hx⟩
  case lost =>
    obtain ⟨t, he, hk⟩ := exec_sectPosLost hw ha hs hv
    exact ⟨t, he, hk.proj SctState.susp, hk.proj SctState.suspAt, hk.mode,
      next_only (execSectPosLost_keep s (.refl s : Keep sctParts s s) rfl) he⟩
  case disagree =>
    obtain ⟨t, he, ht⟩ := exec_speedDisagree hw hp
    exact ⟨t, he, ht, next_only (execSpeedDisagree_keep s (.refl s : Keep [.sys, .log, .mon, .sct] s s) rfl) he⟩
  case agree =>
    exact ⟨_, rfl, rfl, next_only (execSpeedDisagreeEnd_keep s (.refl s : Keep [.sct] s s) rfl) rfl⟩
  case setpoint =>
    have he := exec_tcSetpoint d v hw hc ha
    have hk := tcSetpoint_kept s d v
    refine ⟨_, he, (hk.proj SctState.tcOk).trans hc,
      hk.proj SctState.tcAt, fun i => ?_, next_only (execTcSetpoint_keep d v s (.refl s : Keep [.sct] s s) rfl) he⟩
    rw [tcSetpoint_setpt]
    by_cases hi : i ∈ s.nsectIds
    · by_cases hc : i.val / 16 = d ∧ s.sct.sects[i].mode = .ext
      · rw [if_pos hi, Sect.told, if_pos hc, if_pos ⟨hi, hc⟩]
      · rw [if_pos hi, Sect.told, if_neg hc, if_neg fun h => hc h.2]
    · rw [if_neg hi, if_neg fun h => hi h.1]
  case tcLost =>
    obtain ⟨t, hx, hk⟩ := exec_tcLost hw he hc
    exact ⟨t, hx, hk.proj SctState.tcOk, hk.mode,
      next_only (execTcLost_keep s (.refl s : Keep sctParts s s) rfl) hx⟩

end Sys2Proof.Machine
end

section
/-! SUPPORT. Messages of the hierarchy: the queue Q14, and the senders whose messages are taken. -/

namespace Sys2Proof.Machine

open Sys2Proof

/-! ### Q14 (R26, R240) -/

/-- A message put at the end of Q14. -/
def State.queued (s : State) (m : Msg) : State :=
  (s.onHie fun h => { h with q14 := h.q14 ++ [m] }).noteFill 14 (s.hie.q14 ++ [m]).length

/-- A message that this device sends. -/
def State.msg (s : State) (code dst : Nat) (body : List Byte) : Msg :=
  { code := code, dst := dst, body := body, sender := s.sys.addr }

@[simp] theorem queued_hie (s : State) (m : Msg) : (s.queued m).hie = { s.hie with q14 := s.hie.q14 ++ [m] } := rfl

section
variable {s : State}

theorem send_of_room (code dst : Nat) (body : List Byte) (h : s.hie.q14.length < 64) :
    s.send code dst body = (s.queued (s.msg code dst body), true) := if_pos h

theorem send_of_full (code dst : Nat) (body : List Byte) (h : ¬ s.hie.q14.length < 64) :
    s.send code dst body = (s.noteOvf 14, false) := if_neg h

theorem cmdDone_of_room (port slot : Nat) (st : Status) (at_ : Nat) (h : s.hie.q14.length < 64) :
    s.cmdDone port slot st at_ = s.queued
      (s.msg 0x82 0 (le 1 s.sys.addr ++ le 1 port ++ le 1 slot ++ le 1 st.code ++ stampOf at_)) :=
  congrArg Prod.fst (send_of_room _ _ _ h)

theorem cmdDone_hieKept (s : State) (port slot : Nat) (st : Status) (at_ : Nat) :
    HieKept s (s.cmdDone port slot st at_) := send_hieKept ..

/-! ### Senders (R226, R243) -/

/-- A message of a sender in the chain: an excursion of its ADDR has ended. -/
def State.accepted (s : State) (a : Nat) : State :=
  s.onHie fun h => { h with addrExc := h.addrExc.filter fun x => x != a }

@[simp] theorem accepted_rebuild (s : State) (a frac low : Nat) : (s.accepted a).rebuild frac low = s.rebuild frac low := rfl

theorem not_manager {s : State} (h : s.isWorker = true) : ¬ (!s.isWorker) = true := by
  rw [h]
  decide

theorem fromKnown_of_known {a : Nat} (go : State → State) (h : s.known a = true) :
    s.fromKnown a go = go (s.accepted a) := if_pos h

section
variable {a : Nat} {b : List Byte} (port : Nat) (go : State → State) (hw : s.isWorker = true) (hk : s.known a = true)
  (ha : byteAt b 0 = s.sys.addr)
include hw hk ha

theorem forMe_eq : s.forMe a b port go =
    if !s.hie.rel then (s.accepted a).cmdDone port 0xFF .notReady 0 else go (s.accepted a) :=
  (if_neg (not_manager hw)).trans ((fromKnown_of_known _ hk).trans (if_neg (not_not_intro ha)))

theorem forMe_of_released (hr : s.hie.rel = true) : s.forMe a b port go = go (s.accepted a) := by
  rw [forMe_eq port go hw hk ha, hr]
  rfl

theorem forMe_of_unreleased (hr : s.hie.rel = false) :
    s.forMe a b port go = (s.accepted a).cmdDone port 0xFF .notReady 0 := by
  rw [forMe_eq port go hw hk ha, hr]
  rfl

end

end

/-! ### Entries of Q10 (R19, R242) -/

theorem setEntry_same (s : State) (e : EntryId) (f : Q10Slot → Q10Slot) : (s.setEntry e f).hie.q10[e] = f s.hie.q10[e] :=
  upd_same _ _ _

theorem setEntry_other (s : State) {e j : EntryId} (f : Q10Slot → Q10Slot) (h : j ≠ e) :
    (s.setEntry e f).hie.q10[j] = s.hie.q10[j] := upd_other _ _ _ _ h.symm

theorem reserve_of_free {s : State} {e : EntryId} (h : Holder) (hf : s.freeEntry 255 = some e) :
    s.reserve h = (s.setEntry e fun x => { x with holder := h }, some e) := by
  simp only [State.reserve, hf]

end Sys2Proof.Machine
end

section
/-! SUPPORT. The manager's messages at a worker, its release, and its orphan state. -/

namespace Sys2Proof.Machine

open Sys2Proof

/-! ### TIMED_CMD (R243) -/

/-- A TIMED_CMD that passes the checks of Q10 stands in its entry; what it replaces is answered. -/
theorem queueTimed_of_ok {s : State} {c : Timed} (e : EntryId) (h : s.queueCheck c.src c.port c.on c.dur = .ok) :
    HieKept (s.putEntry e c) (s.queueTimed e c) ∧ (s.queueTimed e c).ports = s.ports := by
  unfold State.queueTimed
  rw [h]
  dsimp only
  split
  · exact ⟨answer_hieKept _ _ _, answer_ports _ _ _⟩
  · exact ⟨.refl _, rfl⟩

theorem putEntry_same (s : State) (e : EntryId) (c : Timed) :
    (s.putEntry e c).hie.q10[e] = { s.hie.q10[e] with cmd := some c } := setEntry_same s e _

theorem putEntry_other (s : State) {e j : EntryId} (c : Timed) (h : j ≠ e) :
    (s.putEntry e c).hie.q10[j] = s.hie.q10[j] := setEntry_other s _ h

/-- The command of a TIMED_CMD that names entry `slot`. -/
def State.timedOf (s : State) (b : List Byte) : Timed :=
  { port := Fin.ofNat 32 (byteAt b 1), on := byteAt b 2 == 1, dur := fieldAt b 6 2,
    src := .hier (byteAt b 3 == 2) (fieldAt b 4 2) (Fin.ofNat 32 (byteAt b 1) : PortId).val (byteAt b 16) 0,
    at_ := s.rebuild (fieldAt b 8 4) (fieldAt b 12 4) }

section
variable {s : State} {a : Nat} {b : List Byte} (hw : s.isWorker = true) (hk : s.known a = true)
  (ha : byteAt b 0 = s.sys.addr)
include hw hk ha

theorem rxTimed_of_future (hr : s.hie.rel = true) (h2 : byteAt b 2 ≤ 2) (h1 : 1 ≤ byteAt b 2)
    (hn : s.now < s.rebuild (fieldAt b 8 4) (fieldAt b 12 4)) (he : byteAt b 16 ≠ 0xFF)
    (hm : s.hie.q10[(Fin.ofNat 256 (byteAt b 16) : EntryId)].holder = .manager) :
    s.rxTimed a b = (s.accepted a).queueTimed (Fin.ofNat 256 (byteAt b 16)) (s.timedOf b) := by
  have hop : ¬ (byteAt b 2 ≠ 1 ∧ byteAt b 2 ≠ 2) := by omega
  refine (forMe_of_released _ _ hw hk ha hr).trans ((if_neg hop).trans ((if_pos hn).trans ((if_pos he).trans (if_pos ?_))))
  exact beq_iff_eq.mpr hm

/-! ### RESERVE (R242) -/

theorem rxReserve_reserves {e : EntryId} (hr : s.hie.rel = true) (h1 : byteAt b 2 = 1) (hf : s.freeEntry 255 = some e) :
    s.rxReserve a b = ((s.accepted a).setEntry e fun x => { x with holder := .manager }).cmdDone 0xFF e.val .ok 0 := by
  have hfree : (s.accepted a).freeEntry 255 = some e := hf
  refine (forMe_of_released _ _ hw hk ha hr).trans ((if_pos h1).trans ?_)
  rw [reserve_of_free _ hfree]

theorem rxReserve_frees (hr : s.hie.rel = true) (h2 : byteAt b 2 = 2)
    (hm : s.hie.q10[(Fin.ofNat 256 (byteAt b 1) : EntryId)].holder = .manager) :
    s.rxReserve a b = ((s.accepted a).setEntry (Fin.ofNat 256 (byteAt b 1)) fun x => { x with holder := .free }).cmdDone 0xFF
      (Fin.ofNat 256 (byteAt b 1) : EntryId).val .ok 0 := by
  have h1 : ¬ byteAt b 2 = 1 := by omega
  exact (forMe_of_released _ _ hw hk ha hr).trans ((if_neg h1).trans (if_pos (beq_iff_eq.mpr hm)))

end

/-! ### LG_DESC and LG_STOP (R240, R251) -/

/-- The one member of an LG_DESC that names one. -/
def State.descRun (s : State) (b : List Byte) : Running :=
  runOf (Fin.ofNat 16 (byteAt b 1)) 0 (word (fieldAt b 24 4)) (word (fieldAt b 28 4)) (fieldAt b 4 5) (fieldAt b 12 4 * 256)
    (s.rebuild (fieldAt b 16 4) (fieldAt b 20 4)) false

/-- A member of a descriptor is taken up, or refused with CMD_DONE. -/
def State.takeMember (s : State) (r : Running) : State :=
  match s.joinHere r with
  | (s, .ok) => s
  | (s, st) => s.cmdDone r.port.val 0xFF st 0

theorem takeMember_of_admitted {s : State} {r : Running} {e : EntryId} (hc : r.carrier = false)
    (hm : s.admitsMember r = true) (hf : s.freeEntry 255 = some e) : s.takeMember r =
      (s.setEntry e fun x => { x with holder := .member r.group r.idx }).onHie fun h =>
        { h with runs := h.runs ++ [{ r with slot := some e.val }] } := by
  simp only [State.takeMember, State.joinHere, hm, hc, reserve_of_free _ hf, Bool.not_true, Bool.false_eq_true, if_false]

section
variable {s : State} {a : Nat} {b : List Byte} (hw : s.isWorker = true) (hk : s.known a = true)
  (ha : byteAt b 0 = s.sys.addr)
include hw hk ha

theorem rxDesc_takes (hr : s.hie.rel = true) (h1 : byteAt b 2 = 1) :
    s.rxDesc a b = (s.accepted a).takeMember (s.descRun b) := by
  rw [State.rxDesc, forMe_of_released _ _ hw hk ha hr, h1]
  simp only [accepted_rebuild]
  rfl

theorem rxStop_stops : s.rxStop a b =
    (s.accepted a).stopHere (Fin.ofNat 16 (byteAt b 1)) (s.rebuild (fieldAt b 4 4) (fieldAt b 8 4)) :=
  (if_neg (not_manager hw)).trans ((fromKnown_of_known _ hk).trans (if_neg (not_not_intro ha)))

end

theorem stopHere_q10 (s : State) (g : LgId) (n : Nat) (e : EntryId) :
    (s.stopHere g n).hie.q10[e] = s.hie.q10[e].dropFrom g n := by
  unfold State.stopHere
  simp only [State.onHie_hie, updAll_get]

theorem dropFrom_of_later {x : Q10Slot} {g : LgId} {n : Nat} {m : Fin 32} {c : Timed} (hx : x.holder = .member g m)
    (hc : x.cmd = some c) (hn : n ≤ c.at_) : x.dropFrom g n = { x with cmd := none } := by
  simp only [Q10Slot.dropFrom, hx, hc, hn, and_self, if_true]

theorem dropFrom_of_earlier {x : Q10Slot} {g : LgId} {n : Nat}
    (h : ∀ (m : Fin 32) (c : Timed), x.holder = .member g m → x.cmd = some c → c.at_ < n) : x.dropFrom g n = x := by
  unfold Q10Slot.dropFrom
  split
  · next g' m c hx hc =>
    refine if_neg fun ⟨hg, hn⟩ => ?_
    subst hg
    exact Nat.not_lt.mpr hn (h m c hx hc)
  · rfl

/-! ### Delay tables (R208) -/

/-- From `s` to `t` a worker has sent `n` messages as far as Q14 had room, and done nothing else of the hierarchy. -/
structure Sends (n : Nat) (s t : State) : Prop where
  kept : HieKept s t
  rcp  : t.rcp = s.rcp
  len  : s.hie.q14.length ≤ 64 → t.hie.q14.length = min 64 (s.hie.q14.length + n)

theorem Sends.refl (s : State) : Sends 0 s s := ⟨.refl s, rfl, fun h => (Nat.min_eq_right h).symm⟩

theorem Sends.trans {m n : Nat} {s t u : State} (h : Sends m s t) (h' : Sends n t u) : Sends (m + n) s u := by
  refine ⟨h.kept.trans h'.kept, h'.rcp.trans h.rcp, fun hs => ?_⟩
  have ht := h.len hs
  have hu := h'.len (by omega)
  omega

theorem send_sends (s : State) (code dst : Nat) (body : List Byte) : Sends 1 s (s.send code dst body).1 := by
  have hrcp := (send_keep s code dst body (.refl s) rfl : Keep [.sys, .hie] s _).only .rcp (by decide)
  refine ⟨send_hieKept .., hrcp, fun hs => ?_⟩
  by_cases h : s.hie.q14.length < 64
  · rw [send_of_room _ _ _ h, queued_hie, List.length_append, List.length_singleton]
    omega
  · rw [send_of_full _ _ _ h, State.noteOvf_hie]
    omega

theorem sendBands_sends (s : State) (p : PortId) (bs : List (Fin 10)) : Sends (2 * bs.length) s (s.sendBands p bs) := by
  unfold State.sendBands
  induction bs generalizing s with
  | nil => exact .refl s
  | cons k bs ih =>
    have h : Sends 2 s ((s.sendDelay p k false).sendDelay p k true) := (send_sends s _ _ _).trans (send_sends _ _ _ _)
    have := h.trans (ih _)
    rwa [List.length_cons, Nat.mul_add, Nat.add_comm]

theorem servesSection_of {s t : State} (h : t.rcp = s.rcp) (p : PortId) : t.servesSection p = s.servesSection p := by
  have hw : t.isWorker = s.isWorker := congrArg (bit · 31) (rw_of h _ _ _ _)
  have ha : t.admitMask p = s.admitMask p := rw_of h _ _ _ _
  rw [State.servesSection, State.servesSection, hw, ha]

/-- The ports of a list that serve section control send 20 messages each. -/
theorem foldl_sendBands_sends (s : State) (l : List PortId) : Sends (20 * (l.filter s.servesSection).length) s
    (l.foldl (fun s p => if s.servesSection p then s.sendBands p (idx 10) else s) s) := by
  induction l generalizing s with
  | nil => exact .refl s
  | cons p l ih =>
    rw [List.foldl_cons]
    cases hp : s.servesSection p with
    | false =>
      rw [List.filter_cons_of_neg (by rw [hp]; decide)]
      exact ih s
    | true =>
      have h20 : Sends 20 s (s.sendBands p (idx 10)) := sendBands_sends s p (idx 10)
      have hl := ih (s.sendBands p (idx 10))
      have hsame : (s.sendBands p (idx 10)).servesSection = s.servesSection := funext (servesSection_of h20.rcp)
      rw [hsame] at hl
      have := h20.trans hl
      rw [List.filter_cons_of_pos hp, List.length_cons, Nat.mul_add, Nat.add_comm]
      exact this

/-! ### RELEASE (R247) -/

theorem presentCarriers_hie (s : State) (g : LgId) (on : Bool) : (s.presentCarriers g on).hie = s.hie :=
  (presentCarriers_keep s g on (.refl s) rfl : Keep [.ports] s _).only .hie (by decide)

theorem endHere_manager {s : State} {e : EntryId} (g : LgId) (h : s.hie.q10[e].holder = .manager) :
    (s.endHere g).hie.q10[e] = s.hie.q10[e] := by
  unfold State.endHere
  simp only [State.onHie_hie, updAll_get, presentCarriers_hie, h]

theorem dropHeld_manager {s : State} {e : EntryId} (h : s.hie.q10[e].holder = .manager) : s.dropHeld.hie.q10[e] = {} := by
  have hend : ((idx 16).foldl State.endHere s).hie.q10[e].holder = .manager := by
    refine List.foldlRecOn (motive := fun t : State => t.hie.q10[e].holder = .manager) (idx 16) State.endHere h
      fun t ht g _ => ?_
    rw [endHere_manager g ht, ht]
  unfold State.dropHeld
  simp only [State.onHie_hie, updAll_get, hend, beq_self_eq_true, if_true]

theorem orphRelease_hie (s : State) :
    ∃ q, s.orphRelease.hie = { s.hie with orphan := false, orph := Vector.replicate 32 {}, q14 := q } := by
  unfold State.orphRelease
  extract_lets u
  have hu : u.hie = s.hie := by
    refine List.foldlRecOn (motive := fun t : State => t.hie = s.hie) _ _ rfl fun t ht p _ => ?_
    split
    · exact (setPorts_hie ..).trans ((setSol_hie ..).trans ht)
    · exact ht
  obtain ⟨q, hq⟩ := applyAllForced_hieKept (u.onHie fun h => { h with orphan := false, orph := Vector.replicate 32 {} })
  exact ⟨q, by rw [hq, State.onHie_hie, hu]⟩

/-- The worker released. -/
def State.freed (s : State) : State := s.dropHeld.orphRelease.onHie fun h => { h with rel := true }

theorem freed_hie (s : State) : ∃ q, s.freed.hie =
    { s.dropHeld.hie with orphan := false, orph := Vector.replicate 32 {}, q14 := q, rel := true } := by
  obtain ⟨q, hq⟩ := orphRelease_hie s.dropHeld
  exact ⟨q, by rw [State.freed, State.onHie_hie, hq]⟩

theorem rxRelease_hie {s : State} {a : Nat} {b : List Byte} (hw : s.isWorker = true) (hk : s.known a = true)
    (ha : byteAt b 0 = s.sys.addr) (h1 : byteAt b 1 = 1) : (s.rxRelease a b).hie = (s.accepted a).freed.hie := by
  have hmine : ¬ (byteAt b 0 ≠ (s.accepted a).sys.addr ∨ byteAt b 1 ≠ 1) :=
    not_or.mpr ⟨not_not_intro ha, not_not_intro h1⟩
  rw [State.rxRelease, hw, fromKnown_of_known _ hk]
  simp only [Bool.not_true, Bool.false_eq_true, if_false, if_neg hmine]
  exact emit_hie _ _

/-! ### Orphans (R245) -/

/-- Orphan actions presented change of the hierarchy's state only themselves and Q14. -/
theorem orphPresent_hie (s : State) : ∃ o q, s.orphPresent.hie = { s.hie with orph := o, q14 := q } := by
  unfold State.orphPresent
  split
  · exact ⟨_, _, rfl⟩
  extract_lets u
  have hu : ∃ o, u.hie = { s.hie with orph := o } := by
    refine List.foldlRecOn (motive := fun t : State => ∃ o, t.hie = { s.hie with orph := o }) _ _ ⟨_, rfl⟩
      fun t ht p _ => ?_
    obtain ⟨o, ho⟩ := ht
    split
    · exact ⟨_, by rw [State.onHie_hie, ho]⟩
    · exact ⟨o, ho⟩
  obtain ⟨o, ho⟩ := hu
  obtain ⟨q, hq⟩ := applyAllForced_hieKept u
  exact ⟨o, q, by rw [hq, ho]⟩

theorem loseClapper_hie {s : State} (hw : s.isWorker = true) :
    s.loseClapper.hie = { s.hie with srcOk := false, beaconRun := 0, ds := [], firstDs := [] } := by
  refine (congrArg State.hie (if_neg (not_manager hw))).trans ?_
  exact (loseSource_keep _ (.refl _) rfl : Keep [.sys, .log, .tmb, .mon] _ _).only .hie (by decide)

theorem exec_managerLost {s : State} {n : Nat} (hw : s.isWorker = true) (ho : s.hie.orphan = false)
    (ha : s.rcp.applied = true) (hv : s.hie.validAt = some n) : ∃ t, exec .managerLost s = .next t ∧
      t.hie.orphan = true ∧ t.hie.rel = false ∧ t.hie.orphAt = s.tick := by
  obtain ⟨o, q, hq⟩ :=
    orphPresent_hie (s.onHie fun h => { h with orphan := true, rel := false, orphAt := s.tick }).loseClapper
  rw [loseClapper_hie (s := s.onHie fun h => { h with orphan := true, rel := false, orphAt := s.tick }) hw] at hq
  change ∃ t, execManagerLost s = .next t ∧ _
  simp only [execManagerLost, hw, ho, ha, hv, Bool.not_false, Bool.and_self]
  refine ⟨_, rfl, ?_⟩
  rw [State.hieEmit, emit_hie, hq]
  exact ⟨rfl, rfl, rfl⟩

/-- Settles O41: each message is one operation on the state in which its sender has been accepted; what follows of forced
values and completions leaves all of the hierarchy's state but Q14 (`HieKept`). -/
theorem managersMessagesReachWorkers : Obligations.ManagersMessagesReachWorkers := by
  refine ⟨fun s ha hq => ?heartbeat, fun a b s hw hk ha hr h2 h1 hn he hm hc => ?timed,
    fun a b s hw hk ha hr hq => ?notReady, fun a b e s hw hk ha hr h1 hf hq => ?reserve,
    fun a b s hw hk ha hr h2 hm => ?free, fun a b e r s hw hk ha hr h1 hrun hc hm hf => ?desc,
    fun a b s hw hk ha => ?stop, fun s hq => ?tables, fun a b s hw hk ha h1 => ?release,
    fun n s hw ho ha hv => ?lost⟩
  case heartbeat =>
    have he : exec .heartbeatSend s = .next (s.queued (s.msg 0x80 63 s.heartbeat)) :=
      congrArg Host.Outcome.next ((if_pos ha).trans (congrArg Prod.fst (send_of_room _ _ _ hq)))
    exact ⟨_, he, rfl, next_only (execHeartbeatSend_keep s (.refl s : Keep [.sys, .hie] s s) rfl) he⟩
  case timed =>
    have hx : exec (.timedCmd a b) s = .next _ := congrArg Host.Outcome.next (rxTimed_of_future hw hk ha hr h2 h1 hn he hm)
    obtain ⟨hkept, hports⟩ := queueTimed_of_ok (s := s.accepted a) (c := s.timedOf b) (Fin.ofNat 256 (byteAt b 16)) hc
    refine ⟨_, hx, ?_, fun j hj => ?_, hports, next_only (execTimedCmd_keep a b s
      (.refl s : Keep [.sys, .ports, .sol, .log, .hie, .mon] s s) rfl) hx⟩
    · rw [hkept.q10, putEntry_same, ← hm]
      rfl
    · rw [hkept.q10, putEntry_other _ _ hj]
      rfl
  case notReady =>
    have he : exec (.timedCmd a b) s = .next ((s.accepted a).cmdDone (byteAt b 1) 0xFF .notReady 0) :=
      congrArg Host.Outcome.next (forMe_of_unreleased _ _ hw hk ha hr)
    have hk := next_only (execTimedCmd_keep a b s (.refl s : Keep [.sys, .ports, .sol, .log, .hie, .mon] s s) rfl) he
    rw [cmdDone_of_room (s := s.accepted a) _ _ _ _ hq] at he hk
    exact ⟨_, he, rfl, rfl, rfl, hk⟩
  case reserve =>
    have he : exec (.reserve a b) s = .next _ := congrArg Host.Outcome.next (rxReserve_reserves hw hk ha hr h1 hf)
    have hk := next_only (execReserve_keep a b s (.refl s : Keep [.sys, .log, .hie, .mon] s s) rfl) he
    rw [cmdDone_of_room (s := (s.accepted a).setEntry e _) _ _ _ _ hq] at he hk
    exact ⟨_, he, setEntry_same (s.accepted a) e _, fun j hj => setEntry_other (s.accepted a) _ hj, rfl, hk⟩
  case free =>
    have he : exec (.reserve a b) s = .next _ := congrArg Host.Outcome.next (rxReserve_frees hw hk ha hr h2 hm)
    refine ⟨_, he, ?_, fun j hj => ?_,
      next_only (execReserve_keep a b s (.refl s : Keep [.sys, .log, .hie, .mon] s s) rfl) he⟩
    · rw [(cmdDone_hieKept ..).q10]
      exact setEntry_same (s.accepted a) _ _
    · rw [(cmdDone_hieKept ..).q10]
      exact setEntry_other (s.accepted a) _ hj
  case desc =>
    subst hrun
    have he : exec (.lgDesc a b) s = .next _ := congrArg Host.Outcome.next
      ((rxDesc_takes hw hk ha hr h1).trans (takeMember_of_admitted (s := s.accepted a) hc hm hf))
    exact ⟨_, he, rfl, setEntry_same (s.accepted a) e _, fun j hj => setEntry_other (s.accepted a) _ hj,
      next_only (execLgDesc_keep a b s (.refl s : Keep [.sys, .ports, .log, .hie, .mon] s s) rfl) he⟩
  case stop =>
    have he : exec (.lgStop a b) s = .next _ := congrArg Host.Outcome.next (rxStop_stops hw hk ha)
    exact ⟨_, he, rfl, fun e m c hh hc hn => (stopHere_q10 _ _ _ e).trans (dropFrom_of_later hh hc hn),
      fun e h => (stopHere_q10 _ _ _ e).trans (dropFrom_of_earlier h),
      next_only (execLgStop_keep a b s (.refl s : Keep [.sys, .log, .hie, .mon] s s) rfl) he⟩
  case tables =>
    have hs := foldl_sendBands_sends s (idx 32)
    obtain ⟨q, hkept⟩ := hs.kept
    refine ⟨_, rfl, ?_, hs.len hq,
      next_only (execDelayTabPeriodicSend_keep s (.refl s : Keep [.sys, .hie, .mon] s s) rfl) rfl⟩
    exact congrArg (fun h : HieState => { h with q14 := s.hie.q14 }) hkept
  case release =>
    have hhie := rxRelease_hie hw hk ha h1
    obtain ⟨q, hq⟩ := freed_hie (s.accepted a)
    rw [hq] at hhie
    exact ⟨_, rfl, congrArg HieState.rel hhie, congrArg HieState.orphan hhie,
      fun e he => (congrArg (fun h : HieState => h.q10[e]) hhie).trans (dropHeld_manager (s := s.accepted a) he),
      next_only (execRelease_keep a b s (.refl s : Keep [.sys, .ports, .sol, .log, .hie, .mon] s s) rfl) rfl⟩
  case lost =>
    obtain ⟨t, he, horph, hrel, hat⟩ := exec_managerLost hw ho ha hv
    exact ⟨t, he, horph, hrel, hat, next_only (execManagerLost_keep s
      (.refl s : Keep [.sys, .ports, .sol, .log, .tmb, .hie, .mon] s s) rfl) he⟩

end Sys2Proof.Machine
end

section
/-! SUPPORT. The workers' messages at the manager, and the loss and release of workers. -/

namespace Sys2Proof.Machine

open Sys2Proof

theorem setWorker_same (s : State) (a : Fin 64) (f : Worker → Worker) :
    (s.setWorker a f).hie.workers[a] = f s.hie.workers[a] := upd_same _ _ _

theorem setWorker_other (s : State) {a j : Fin 64} (f : Worker → Worker) (h : j ≠ a) :
    (s.setWorker a f).hie.workers[j] = s.hie.workers[j] := upd_other _ _ _ _ h.symm

/-! ### HEARTBEAT (R226, R244) -/

/-- A worker as its heartbeat shows it. -/
def Worker.shown (tick : Nat) (b : List Byte) (w : Worker) : Worker :=
  { w with qual := Qual.ofCode (byteAt b 1 % 8), orphan := (byteAt b 1).testBit 3, heard := some tick,
           upOk := (byteAt b 1).testBit 5, dnOk := (byteAt b 1).testBit 6,
           delay := if fieldAt b 2 2 = 0xFFFF then none else some (fieldAt b 2 2), faults := fieldAt b 8 4 }

/-- A partner whose heartbeats carry this HID. -/
def State.partner (s : State) (a : Nat) : State :=
  s.onHie fun h =>
    { h with hidExc := h.hidExc.filter (fun x => x != a), partners := a :: h.partners.filter fun x => x != a }

theorem heardFrom_only (s : State) (a : Fin 64) (f : Worker → Worker) :
    State.Only [.hie] s (((s.accepted a.val).partner a.val).setWorker a f) := by
  have hk : Keep [.hie] s (s.accepted a.val) := onHie_keep s _ (.refl s) (fun _ => id) (fun _ => id) rfl
  have hp : Keep [.hie] s ((s.accepted a.val).partner a.val) := onHie_keep _ _ hk (fun _ => id) (fun _ => id) rfl
  exact (setWorker_keep _ a f hp rfl).toOnly

theorem rxHeartbeat_of_worker {s : State} {a : Fin 64} {b : List Byte} (hw : s.isWorker = false)
    (hk : s.known a.val = true) (ha : a.val ≠ 0) (hid : fieldAt b 4 4 = s.hid.toNat) :
    s.rxHeartbeat a.val b = ((s.accepted a.val).partner a.val).setWorker a (.shown s.tick b) := by
  have hmanager : ((s.accepted a.val).partner a.val).isWorker = false := hw
  have hworker : ¬ (((s.accepted a.val).partner a.val).isWorker || decide (a.val = 0)) = true := by
    rw [hmanager]
    simpa using ha
  have hown : (Fin.ofNat 64 a.val : Fin 64) = a := Fin.ofNat_val_eq_self a
  refine (fromKnown_of_known _ hk).trans ((if_pos hid).trans ?_)
  exact (if_neg hworker).trans (congrArg (fun a' => ((s.accepted a.val).partner a.val).setWorker a' (.shown s.tick b)) hown)

/-- A HID that is not this device's, seen from a partner. -/
def State.stranger (s : State) (a : Nat) : State :=
  s.onHie fun h => { h with hidExc := a :: h.hidExc, partners := h.partners.filter fun x => x != a }

theorem rxHeartbeat_of_stranger {s : State} {a : Nat} {b : List Byte} (hk : s.known a = true)
    (hid : fieldAt b 4 4 ≠ s.hid.toNat) (hn : s.hie.hidExc.contains a = false) :
    (s.rxHeartbeat a b).hie = ((s.accepted a).stranger a).hie := by
  have hother : ¬ fieldAt b 4 4 = (s.accepted a).hid.toNat := hid
  have hseen : ¬ (s.accepted a).hie.hidExc.contains a = true := Bool.eq_false_iff.mp hn
  rw [State.rxHeartbeat, fromKnown_of_known _ hk, if_neg hother, if_neg hseen]
  exact emit_hie _ _

/-! ### CMD_DONE and DELAY_TAB (R208, R213, R240) -/

/-- The section whose port is port `port` of device `a`. -/
def State.sectAt (s : State) (a port : Nat) : Option SectId :=
  s.nsectIds.find? fun i => s.sctDev i == a && (s.sctPort i).val == port

/-- A refusal noted at a section: it pauses, and the refusals are counted (R213). -/
def State.refusedAt (s : State) (i : SectId) : State :=
  (s.setSect i fun x => { x with refd := true, paused := true, plan := none }).onSct fun x =>
    { x with cntRef := satNat 65535 (x.cntRef + 1) }

/-- The table that a DELAY_TAB carries. -/
def delayEntry (b : List Byte) : DelayCopy :=
  { learned := (byteAt b 3).testBit 1, mean := (fieldAt b 4 4 : Nat), spread := (fieldAt b 8 2 : Nat), count := byteAt b 10 }

/-- A band's table of one direction in the manager's copy (R208). -/
def Sect.copyBand (close : Bool) (band : Nat) (k : Fin 10) (e : DelayCopy) (x : Sect) : Sect :=
  if close then { x with band := band, copyOff := upd x.copyOff k fun _ => e }
  else { x with band := band, copyOn := upd x.copyOn k fun _ => e }

section
variable {s : State} {a : Nat} {b : List Byte} {i : SectId} (hw : s.isWorker = false) (hk : s.known a = true)
  (hi : s.sectAt a (byteAt b 1) = some i)
include hw hk hi

theorem rxDone_ok {p : Plan} (hp : byteAt b 1 ≠ 0xFF) (h0 : byteAt b 3 = 0) (hpl : s.sct.sects[i].plan = some p) :
    ∃ tick, s.rxDone a b = (s.accepted a).sectDone i p.on tick := by
  have hsect : (s.accepted a).sectAt a (byteAt b 1) = some i := hi
  have hplan : (s.accepted a).sct.sects[i].plan = some p := hpl
  rw [State.sectAt] at hsect
  rw [State.rxDone, hw, fromKnown_of_known _ hk]
  simp only [Bool.false_eq_true, if_false, if_neg hp, hsect, h0, if_true, hplan]
  exact ⟨_, rfl⟩

theorem rxDone_refused (hp : byteAt b 1 ≠ 0xFF) (h0 : byteAt b 3 ≠ 0) (h1 : byteAt b 3 ≠ Status.stale.code)
    (h2 : byteAt b 3 ≠ Status.superseded.code) : (s.rxDone a b).sct = ((s.accepted a).refusedAt i).sct := by
  have hsect : (s.accepted a).sectAt a (byteAt b 1) = some i := hi
  rw [State.sectAt] at hsect
  rw [State.rxDone, hw, fromKnown_of_known _ hk]
  simp only [Bool.false_eq_true, if_false, if_neg hp, hsect, if_neg h0, if_neg h1, if_neg h2]
  exact sctEmit_sct ..

theorem rxDelay_copies : s.rxDelay a b = (s.accepted a).setSect i
    (.copyBand ((byteAt b 3).testBit 0) (byteAt b 2 % 16) (Fin.ofNat 10 (byteAt b 2 / 16)) (delayEntry b)) := by
  have hsect : (s.accepted a).sectAt a (byteAt b 1) = some i := hi
  rw [State.sectAt] at hsect
  rw [State.rxDelay, hw, fromKnown_of_known _ hk]
  simp only [Bool.false_eq_true, if_false, hsect]
  rfl

end

section
variable (close : Bool) (band : Nat) (k : Fin 10) (e : DelayCopy) (x : Sect)

theorem copyBand_band : (x.copyBand close band k e).band = band := by
  cases close
  · rfl
  · rfl

theorem copyBand_same :
    (if close then (x.copyBand close band k e).copyOff else (x.copyBand close band k e).copyOn)[k] = e := by
  cases close
  · exact upd_same x.copyOn k fun _ => e
  · exact upd_same x.copyOff k fun _ => e

theorem copyBand_other : (if close then (x.copyBand close band k e).copyOn else (x.copyBand close band k e).copyOff) =
    if close then x.copyOn else x.copyOff := by
  cases close
  · rfl
  · rfl

end

/-! ### Workers lost (R244) -/

/-- From `s` to `t` nothing has changed of what the manager holds of its workers. -/
def WorkersKept (s t : State) : Prop := t.hie.workers = s.hie.workers

section
variable {s t u : State}

theorem WorkersKept.refl (s : State) : WorkersKept s s := rfl

theorem WorkersKept.trans (h : WorkersKept s t) (h' : WorkersKept t u) : WorkersKept s u := Eq.trans h' h

theorem WorkersKept.of_hie (h : t.hie = s.hie) : WorkersKept s t := congrArg HieState.workers h

theorem HieKept.workers (h : HieKept s t) : WorkersKept s t := by
  obtain ⟨q, h⟩ := h
  exact (congrArg HieState.workers h :)

theorem WorkersKept.ite {c : Prop} [Decidable c] (h : WorkersKept s t) (h' : WorkersKept s u) :
    WorkersKept s (if c then t else u) := by
  split
  · exact h
  · exact h'

theorem WorkersKept.foldl {α : Type} {f : State → α → State} (l : List α) (hf : ∀ u a, WorkersKept u (f u a))
    (h : WorkersKept s t) : WorkersKept s (l.foldl f t) := by
  induction l generalizing t with
  | nil => exact h
  | cons a l ih => exact ih (h.trans (hf t a))

end

section
variable (s : State) (i : SectId)

theorem emptyEntry_workers : WorkersKept s (s.emptyEntry i) := by
  unfold State.emptyEntry
  split
  · exact .refl s
  · exact .refl s

theorem withdraw_workers : WorkersKept s (s.withdraw i) := by
  unfold State.withdraw
  split
  · exact .ite (.refl s) (emptyEntry_workers s i)
  · exact .refl s

theorem releaseEntry_workers : WorkersKept s (s.releaseEntry i) := by
  unfold State.releaseEntry
  extract_lets u v
  have hu : WorkersKept s u := by
    unfold u
    split
    · exact .refl s
    · exact .refl s
  have hv : WorkersKept s v := by
    unfold v
    split
    · extract_lets r
      have hr : WorkersKept s r.1 := hu.trans (send_hieKept u _ _ _).workers
      exact .ite hr hr
    · exact hu
  exact hv

theorem leaveAuto_workers (m : SectMode) : WorkersKept s (s.leaveAuto i m) := by
  have hleft : WorkersKept s (if s.sct.sects[i].mode = .auto ∨ s.sct.sects[i].mode = .ext then
      (s.withdraw i).releaseEntry i else s) := .ite ((withdraw_workers s i).trans (releaseEntry_workers _ i)) (.refl s)
  exact hleft

theorem placeHere_workers (on : Bool) (at_ : Nat) (e : EntryId) : WorkersKept s (s.placeHere i on at_ e) := by
  unfold State.placeHere
  split
  · exact .refl s
  · exact (WorkersKept.of_hie (sectRefused_hie s i on _)).trans (answer_hieKept _ _ _).workers

theorem placeManual_workers (on : Bool) : WorkersKept s (s.placeManual i on).1 := by
  unfold State.placeManual
  extract_lets at_ u
  have hu : WorkersKept s u := .refl s
  split
  · split
    · exact hu.trans (placeHere_workers u i _ _ _)
    · exact hu
  · exact hu.trans (send_hieKept u _ _ _).workers

theorem sectsOff_workers (is : List SectId) (cause : Nat) : WorkersKept s (s.sectsOff is cause) := by
  unfold State.sectsOff
  refine .ite (.refl s) ?_
  have hoff := WorkersKept.foldl is (f := fun t i => ((t.leaveAuto i .off).placeManual i false).1)
    (fun t i => (leaveAuto_workers t i .off).trans (placeManual_workers _ i false)) (.refl s)
  exact hoff.trans (.of_hie (emit_hie _ _))

theorem fallDefault_workers : WorkersKept s s.fallDefault :=
  .of_hie ((fallDefault_keep s (.refl s) rfl : Keep [.sys, .log, .mon, .sct] s _).only .hie (by decide))

theorem engageNow_workers (is : List SectId) (m : SectMode) : WorkersKept s (s.engageNow is m) := by
  unfold State.engageNow
  extract_lets u v
  have hu : WorkersKept s u := .foldl is (fun t i => .ite (.refl t) (withdraw_workers t i)) (.refl s)
  have hv : WorkersKept s v := hu
  exact (hv.trans (.of_hie (emit_hie _ _))).trans (fallDefault_workers _)

theorem reserveAnswered_workers (slot : Option Nat) : WorkersKept s (s.reserveAnswered i slot) := by
  unfold State.reserveAnswered
  extract_lets u
  have hu : WorkersKept s u := .refl s
  split
  · exact hu
  · extract_lets left idle
    refine .ite hu (.ite (.trans ?full (answer_hieKept _ _ _).workers) (.trans ?done (answer_hieKept _ _ _).workers))
    case full => exact .foldl idle releaseEntry_workers hu
    case done =>
      refine .trans ?_ (engageNow_workers _ _ _)
      exact hu

theorem forgetReserves_workers (a : Nat) : WorkersKept s (s.forgetReserves a) := by
  unfold State.forgetReserves
  extract_lets mine u
  have hu : WorkersKept s u := .refl s
  refine .foldl mine (fun t r => ?_) hu
  split
  · exact reserveAnswered_workers t _ none
  · exact .refl t

theorem membersWait_workers (a : Nat) : WorkersKept s (s.membersWait a) :=
  .foldl (idx 16) (fun t g => .ite (.foldl (t.lgMems g) (fun u _ => .ite (.refl u) (.refl u)) (.refl t)) (.refl t)) (.refl s)

end

/-- A worker that is declared lost. -/
def Worker.asLost (tick : Nat) (w : Worker) : Worker := { w with lost := true, lostAt := tick, rel := false }

theorem loseWorker_workers {s : State} {a : Fin 64} (cause rep : Nat) (hw : s.isWorker = false) (ha : a.val ≠ 0)
    (hk : s.known a.val = true) (hl : s.hie.workers[a].lost = false) :
    WorkersKept (s.setWorker a (.asLost s.tick)) (s.loseWorker a cause rep) := by
  have hn : ¬ (s.isWorker || decide (a.val = 0) || (s.chainPos a.val).isNone || s.hie.workers[a].lost) = true := by
    have hpos : (s.chainPos a.val).isNone = false := by
      rw [← Option.not_isSome]
      exact congrArg (!·) hk
    rw [hw, hl, hpos]
    simpa using ha
  unfold State.loseWorker
  rw [if_neg hn]
  extract_lets age u v w x
  have hv : WorkersKept u v := .of_hie (emit_hie _ _)
  have hw : WorkersKept u w := hv.trans (sectsOff_workers v _ _)
  have hx : WorkersKept u x := .foldl _ (fun t i => .ite (.refl t) (.refl t)) hw
  exact (hx.trans (membersWait_workers x _)).trans (forgetReserves_workers _ _)

/-! ### Workers released (R247) -/

/-- The RELEASE of worker `a`. -/
def State.releaseMsg (s : State) (a : Fin 64) : Msg := s.msg 0x86 a.val (le 1 a.val ++ le 1 1)

/-- A worker that is released. -/
def Worker.asReleased (w : Worker) : Worker := { w with rel := true, lost := false }

/-- Worker `a` released by a RELEASE in Q14, before it is recorded. -/
def State.released (s : State) (a : Fin 64) : State := (s.queued (s.releaseMsg a)).setWorker a .asReleased

theorem release_of_room {s : State} (a : Fin 64) (h : s.hie.q14.length < 64) :
    ∃ e, s.release a = ((s.released a).emit e, true) := by
  unfold State.release
  rw [send_of_room _ _ _ h]
  exact ⟨_, rfl⟩

theorem released_clauses {s t : State} {a : Fin 64} (h : t.hie = (s.released a).hie) :
    t.hie.workers[a] = s.hie.workers[a].asReleased ∧ (∀ j, j ≠ a → t.hie.workers[j] = s.hie.workers[j]) ∧
      t.hie.q14 = s.hie.q14 ++ [s.releaseMsg a] ∧ t.hie.q10 = s.hie.q10 := by
  rw [h]
  exact ⟨setWorker_same (s.queued _) a _, fun j hj => setWorker_other (s.queued _) _ hj, rfl, rfl⟩

/-- Settles O42: a heartbeat, a loss and a release set one worker, CMD_DONE and DELAY_TAB one section, and what follows
of a loss keeps what the manager holds of its workers. -/
theorem workersMessagesReachTheManager : Obligations.WorkersMessagesReachTheManager := by
  refine ⟨fun a b s hw hk ha hid => ?heartbeat, fun a b s hk hid hn => ?stranger,
    fun a b i p s hw hk hp h0 hi hpl => ?done, fun a b i s hw hk hp h0 h1 h2 hi => ?refused,
    fun a b i s hw hk hi => ?delay, fun a s hw ha hk hl => ?lost, fun a s hw hr hn hrel hq => ?auto,
    fun a k s hg hw hrel hq => ?release, fun a k s hg hrel => ?notReady⟩
  case heartbeat =>
    have he : exec (.heartbeat a.val b) s = .next _ := congrArg Host.Outcome.next (rxHeartbeat_of_worker hw hk ha hid)
    exact ⟨_, he, setWorker_same ((s.accepted a.val).partner a.val) a _,
      fun j hj => setWorker_other ((s.accepted a.val).partner a.val) _ hj, rfl, heardFrom_only s a _⟩
  case stranger =>
    have hhie := rxHeartbeat_of_stranger hk hid hn
    exact ⟨_, rfl, (congrArg HieState.hidExc hhie :), (congrArg HieState.workers hhie :),
      next_only (execHeartbeat_keep a b s (.refl s : Keep [.sys, .log, .hie, .mon] s s) rfl) rfl⟩
  case done =>
    obtain ⟨tick, hd⟩ := rxDone_ok hw hk hi hp h0 hpl
    have he : exec (.cmdDone a b) s = .next _ := congrArg Host.Outcome.next hd
    have hsame := setSect_same (s.accepted a) i
    refine ⟨_, he, ?_, ?_, ?_, fun j hj => setSect_other (s.accepted a) _ hj,
      next_only (execCmdDone_keep a b s (.refl s : Keep sctParts s s) rfl) he⟩
    · rw [State.sectDone, hsame]
    · rw [State.sectDone, hsame]
    · rw [State.sectDone, hsame]
      exact congrArg (fun o : Option Plan => (o.map Plan.serves).getD _) hpl
  case refused =>
    have hs := rxDone_refused hw hk hi hp h0 h1 h2
    refine ⟨_, rfl, (congrArg (fun c : SctState => c.sects[i]) hs).trans (setSect_same (s.accepted a) i _),
      (congrArg SctState.cntRef hs :),
      fun j hj => (congrArg (fun c : SctState => c.sects[j]) hs).trans (setSect_other (s.accepted a) _ hj),
      next_only (execCmdDone_keep a b s (.refl s : Keep sctParts s s) rfl) rfl⟩
  case delay =>
    have he : exec (.delayTab a b) s = .next _ := congrArg Host.Outcome.next (rxDelay_copies hw hk hi)
    have hsame := setSect_same (s.accepted a) i
    refine ⟨_, he, ?_, ?_, ?_, fun j hj => setSect_other (s.accepted a) _ hj,
      next_only (execDelayTab_keep a b s (.refl s : Keep sctParts s s) rfl) he⟩
    · rw [hsame, copyBand_band]
    · rw [hsame]
      exact copyBand_same ..
    · rw [hsame]
      exact copyBand_other ..
  case lost =>
    have hk := loseWorker_workers 1 0 hw ha hk hl
    refine ⟨_, rfl, ?_, fun j hj => ?_, next_only (execWorkerLost_keep a s (.refl s : Keep sctParts s s) rfl) rfl⟩
    · exact (congrArg (fun v => v[a]) hk).trans (setWorker_same s a _)
    · exact (congrArg (fun v => v[j]) hk).trans (setWorker_other s _ hj)
  case auto =>
    have hgo : (!s.isWorker && s.autoRel && !s.hie.workers[a].rel && s.releasable a) = true := by
      rw [hw, hr, hn, hrel]
      rfl
    obtain ⟨e, hrelease⟩ := release_of_room a hq
    have he : exec (.workerRelease a) s = .next _ :=
      congrArg Host.Outcome.next ((if_pos hgo).trans (congrArg Prod.fst hrelease))
    obtain ⟨hsame, hother, hq14, hq10⟩ := released_clauses (emit_hie (s.released a) e)
    exact ⟨_, he, hsame, hother, hq14, hq10,
      next_only (execWorkerRelease_keep a s (.refl s : Keep [.sys, .log, .hie, .mon] s s) rfl) he⟩
  case release =>
    obtain ⟨e, hrelease⟩ := release_of_room a hq
    have hcmd : s.cmdRelease a = ((s.released a).emit e, .ok) := by
      simp only [State.cmdRelease, hw, hrel, hrelease, Bool.not_true, Bool.or_self, Bool.false_eq_true, if_false]
    have hk := release_keep s a (.refl s : Keep [.sys, .log, .hie, .mon] s s) rfl
    rw [hrelease] at hk
    obtain ⟨he, ho⟩ := gated_acts (go := (·.cmdRelease a)) hg hcmd hk (by decide)
    obtain ⟨hsame, hother, hq14, -⟩ := released_clauses (emit_hie (s.released a) e)
    exact ⟨_, congrArg Host.Outcome.next he, hsame, hother, hq14, rfl, ho⟩
  case notReady =>
    have hcmd : s.cmdRelease a = (s, .notReady) := if_pos (by rw [hrel]; simp)
    have he : exec (.hieRelease a k) s = .next _ := congrArg Host.Outcome.next
      (gated_refuses (go := (·.cmdRelease a)) hg hcmd (by decide))
    exact ⟨_, he, rfl, only_sys s _⟩

end Sys2Proof.Machine
end

section
/-! SUPPORT. What the loss of workers and failed flags leave of the hierarchy's links. -/

namespace Sys2Proof.Machine

open Sys2Proof

/-! ### A value that stays the same -/

/-- From `s` to `t` what `f` reads has not changed. -/
def SameAt {α : Type} (f : State → α) (s t : State) : Prop := f t = f s

section
variable {α β : Type} {f : State → α} {s t u : State}

theorem SameAt.refl (s : State) : SameAt f s s := rfl

theorem SameAt.eq (h : SameAt f s t) : f t = f s := h

theorem SameAt.trans (h : SameAt f s t) (h' : SameAt f t u) : SameAt f s u := Eq.trans h' h

theorem SameAt.ite {c : Prop} [Decidable c] (h : SameAt f s t) (h' : SameAt f s u) : SameAt f s (if c then t else u) := by
  split
  · exact h
  · exact h'

theorem SameAt.foldl {go : State → β → State} (l : List β) (hf : ∀ u a, SameAt f u (go u a)) (h : SameAt f s t) :
    SameAt f s (l.foldl go t) := by
  induction l generalizing t with
  | nil => exact h
  | cons a l ih => exact ih (h.trans (hf t a))

end

/-! ### What operations on sections leave of the hierarchy -/

/-- The hierarchy's state but for Q10, Q14 and the RESERVEs that wait for an answer. -/
def State.besideEntries (s : State) : HieState :=
  { s.hie with q10 := Vector.replicate 256 {}, q14 := [], resPend := [] }

/-- From `s` to `t` nothing of the hierarchy's state has changed but Q10, Q14 and the RESERVEs that wait for an answer. -/
abbrev EntriesOnly : State → State → Prop := SameAt State.besideEntries

theorem entries_of_hie {s t : State} (h : t.hie = s.hie) : EntriesOnly s t := by
  change t.besideEntries = s.besideEntries
  rw [State.besideEntries, h]
  rfl

theorem HieKept.entries {s t : State} (h : HieKept s t) : EntriesOnly s t := by
  obtain ⟨q, h⟩ := h
  change t.besideEntries = s.besideEntries
  rw [State.besideEntries, h]
  rfl

section
variable (s : State) (i : SectId)

theorem emptyEntry_entries : EntriesOnly s (s.emptyEntry i) := by
  unfold State.emptyEntry
  split
  · exact rfl
  · exact .refl s

theorem withdraw_entries : EntriesOnly s (s.withdraw i) := by
  unfold State.withdraw
  split
  · exact .ite (.refl s) (emptyEntry_entries s i)
  · exact .refl s

theorem releaseEntry_entries : EntriesOnly s (s.releaseEntry i) := by
  unfold State.releaseEntry
  extract_lets u v
  have hu : EntriesOnly s u := by
    unfold u
    split
    · exact rfl
    · exact .refl s
  have hv : EntriesOnly s v := by
    unfold v
    split
    · extract_lets r
      have hr : EntriesOnly s r.1 := hu.trans (send_hieKept u _ _ _).entries
      exact .ite (hr.trans rfl) hr
    · exact hu
  exact hv

theorem leaveAuto_entries (m : SectMode) : EntriesOnly s (s.leaveAuto i m) := by
  have hleft : EntriesOnly s (if s.sct.sects[i].mode = .auto ∨ s.sct.sects[i].mode = .ext then
      (s.withdraw i).releaseEntry i else s) := .ite ((withdraw_entries s i).trans (releaseEntry_entries _ i)) (.refl s)
  exact hleft

theorem placeHere_entries (on : Bool) (at_ : Nat) (e : EntryId) : EntriesOnly s (s.placeHere i on at_ e) := by
  unfold State.placeHere
  split
  · exact rfl
  · exact (entries_of_hie (sectRefused_hie s i on _)).trans (answer_hieKept _ _ _).entries

theorem placeManual_entries (on : Bool) : EntriesOnly s (s.placeManual i on).1 := by
  unfold State.placeManual
  extract_lets at_ u
  have hu : EntriesOnly s u := rfl
  split
  · split
    · exact hu.trans (placeHere_entries u i _ _ _)
    · exact hu
  · exact hu.trans (send_hieKept u _ _ _).entries

theorem sctEmit_entries (code : Nat) (o : Option SectId) (a b : Int) : EntriesOnly s (s.sctEmit code o a b) :=
  entries_of_hie (emit_hie _ _)

theorem sectsOff_entries (is : List SectId) (cause : Nat) : EntriesOnly s (s.sectsOff is cause) := by
  unfold State.sectsOff
  refine .ite (.refl s) (.trans (.foldl is (fun t i => ?_) (.refl s)) (sctEmit_entries _ _ _ _ _))
  exact (leaveAuto_entries t i .off).trans (placeManual_entries _ i false)

theorem fallDefault_entries : EntriesOnly s s.fallDefault :=
  entries_of_hie ((fallDefault_keep s (.refl s) rfl : Keep [.sys, .log, .mon, .sct] s _).only .hie (by decide))

theorem engageNow_entries (is : List SectId) (m : SectMode) : EntriesOnly s (s.engageNow is m) := by
  unfold State.engageNow
  extract_lets u v
  have hu : EntriesOnly s u := .foldl is (fun t i => .ite (.refl t) (withdraw_entries t i)) (.refl s)
  have hv : EntriesOnly s v := hu
  exact (hv.trans (sctEmit_entries v _ _ _ _)).trans (fallDefault_entries _)

theorem reserveAnswered_entries (slot : Option Nat) : EntriesOnly s (s.reserveAnswered i slot) := by
  unfold State.reserveAnswered
  extract_lets u
  have hu : EntriesOnly s u := rfl
  split
  · exact hu
  · extract_lets left idle
    refine .ite hu (.ite (.trans ?full (answer_hieKept _ _ _).entries) (.trans ?done (answer_hieKept _ _ _).entries))
    case full => exact .foldl idle releaseEntry_entries hu
    case done =>
      refine .trans ?_ (engageNow_entries _ _ _)
      exact hu

theorem forgetReserves_entries (a : Nat) : EntriesOnly s (s.forgetReserves a) := by
  unfold State.forgetReserves
  extract_lets mine u
  have hu : EntriesOnly s u := rfl
  refine .foldl mine (fun t r => ?_) hu
  split
  · exact reserveAnswered_entries t _ none
  · exact .refl t

end

/-! ### The links (R226, R230, R232) -/

/-- Neither link has changed from `s` to `t`. -/
abbrev LinksKept : State → State → Prop := SameAt State.link

theorem links_of_hie {s t : State} (h : t.hie = s.hie) : LinksKept s t :=
  funext fun d => by rw [State.link, State.link, h]

theorem links_of_entries {s t : State} (h : EntriesOnly s t) : LinksKept s t := by
  have hup : t.hie.up = s.hie.up := (congrArg HieState.up h.eq :)
  have hdn : t.hie.dn = s.hie.dn := (congrArg HieState.dn h.eq :)
  exact funext fun d => by rw [State.link, State.link, hup, hdn]

section
variable (s : State) (d : Side) (f : Link → Link)

theorem setLink_same : (s.setLink d f).link d = f (s.link d) := by
  cases d
  · rfl
  · rfl

theorem setLink_other : (s.setLink d f).link (!d) = s.link (!d) := by
  cases d
  · rfl
  · rfl

end

/-- A link set to what it is. -/
theorem setLink_of_fixed {s : State} {d : Side} {f : Link → Link} (h : f (s.link d) = s.link d) :
    LinksKept s (s.setLink d f) := by
  funext e
  by_cases he : e = d
  · rw [he, setLink_same, h]
  · rw [Bool.eq_not_of_ne he, setLink_other]

theorem hieEmit_hie (s : State) (code b2 b3 : Nat) (a b : Int) : (s.hieEmit code b2 b3 a b).hie = s.hie := emit_hie _ _

theorem transmit_links (s : State) (d : Side) (f : Frame) : LinksKept s (s.transmit d f) := .ite rfl rfl

theorem failFlag_links (s : State) (k : FlagId) (cond : Nat) : LinksKept s (s.failFlag k cond) := by
  unfold State.failFlag
  refine .ite (.refl s) ?_
  extract_lets was u
  have hu : LinksKept s u := rfl
  exact .ite hu (hu.trans (links_of_hie (hieEmit_hie ..)))

theorem failSide_links (s : State) (d : Side) : LinksKept s (s.failSide d) :=
  .foldl (idx 64) (fun t k => .ite (failFlag_links t k 1) (.refl t)) (.refl s)

theorem failBeyondHop_links (s : State) (a : Nat) : LinksKept s (s.failBeyondHop a) := by
  refine .foldl (idx 64) (fun t k => ?_) (.refl s)
  split
  · exact .ite (failFlag_links (t.setFlag k _) k 2) (.refl t)
  · exact .refl t

theorem loseClapper_links (s : State) : LinksKept s s.loseClapper := by
  cases hw : s.isWorker with
  | false =>
    rw [State.loseClapper, hw]
    rfl
  | true =>
    exact links_of_hie (s := s.onHie fun h => { h with srcOk := false, beaconRun := 0, ds := [], firstDs := [] })
      (loseClapper_hie hw)

theorem membersWait_links (s : State) (a : Nat) : LinksKept s (s.membersWait a) :=
  .foldl (idx 16) (fun t g => .ite (.foldl (t.lgMems g) (fun u _ => .ite rfl (.refl u)) (.refl t)) (.refl t)) (.refl s)

theorem loseWorker_links (s : State) (a : Fin 64) (cause rep : Nat) : LinksKept s (s.loseWorker a cause rep) := by
  unfold State.loseWorker
  refine .ite (.refl s) ?_
  extract_lets age u v w x
  have hv : LinksKept s v := links_of_hie (s := u) (emit_hie _ _)
  have hw : LinksKept s w := hv.trans (links_of_entries (sectsOff_entries v _ _))
  have hx : LinksKept s x := .foldl _ (fun t i => .ite rfl (.refl t)) hw
  exact (hx.trans (membersWait_links x _)).trans (links_of_entries (forgetReserves_entries _ _))

theorem loseBeyond_links (s : State) (pos rep : Nat) : LinksKept s (s.loseBeyond pos rep) :=
  .foldl _ (fun t _ => .ite (loseWorker_links t _ 2 rep) (.refl t)) (.refl s)

/-! ### Failed and restored hops (R232) -/

/-- The hop of link `d` failed. -/
def State.failedHop (s : State) (d : Side) : State := s.setLink d fun l => { l with failed := true }

theorem hopFails_links {s : State} {d : Side} (cause : Nat) (hu : s.linkUsed d = true) :
    LinksKept (s.failedHop d) (s.hopFails d cause) := by
  unfold State.hopFails
  rw [hu]
  cases hf : (s.link d).failed with
  | true =>
    have hsame : LinksKept s (s.failedHop d) := setLink_of_fixed (by rw [← hf])
    exact hsame.symm
  | false =>
    rw [if_neg (by decide)]
    extract_lets e u v w x y z
    have hv : LinksKept (s.failedHop d) v := .ite rfl rfl
    have hw : LinksKept v w := (links_of_hie (emit_hie v e)).trans (transmit_links _ _ _)
    have hx : LinksKept w x := .ite (.refl w) (transmit_links w _ _)
    have hy : LinksKept x y := failSide_links x d
    have hz : LinksKept y z := .ite (.refl y) (loseClapper_links y)
    exact (((hv.trans hw).trans hx).trans (hy.trans hz)).trans (.ite (.refl z) (loseBeyond_links z _ _))

end Sys2Proof.Machine
end

section
/-! SUPPORT. The Clapper links going down and up, hop echoes, and the marks and beacons sent. -/

namespace Sys2Proof.Machine

open Sys2Proof

/-- The parts that a failed hop can change. -/
abbrev hopParts : List Part := [.sys, .log, .tmb, .hie, .mon, .sct]

/-! ### Links down and up (R230, R232) -/

/-- Link `d` marked as down or not. -/
def State.lineDown (s : State) (d : Side) (b : Bool) : State := s.setLink d fun l => { l with down := b }

theorem exec_linkDown {s : State} {d : Side} (hu : s.linkUsed d = true) :
    ∃ t, exec (.linkDown d) s = .next t ∧ LinksKept ((s.lineDown d true).failedHop d) t := by
  refine ⟨_, congrArg Host.Outcome.next (if_neg (by rw [hu]; decide)), ?_⟩
  have hfail : LinksKept ((s.lineDown d true).failedHop d) ((s.lineDown d true).hopFails d 1) :=
    hopFails_links (s := s.lineDown d true) 1 hu
  have hside := hfail.trans (failSide_links _ d)
  exact .ite hside (hside.trans (loseClapper_links _))

theorem setLink_dlyOk (s : State) (d : Side) (f : Link → Link) : (s.setLink d f).hie.dlyOk = s.hie.dlyOk := by
  cases d
  · rfl
  · rfl

/-- A hop whose link is not down fails on only while its delay is to be measured. -/
theorem hopRestored_links {s : State} {d : Side} (hl : (s.link d).down = false) : LinksKept
    (s.setLink d fun l => { l with failed := l.failed && !(!d || s.hie.dlyOk) }) (s.hopRestored d) := by
  unfold State.hopRestored
  dsimp only
  rw [hl]
  cases hr : !d || s.hie.dlyOk with
  | false =>
    simp only [Bool.and_false, Bool.false_eq_true, if_false, Bool.not_false, Bool.and_true]
    exact (setLink_of_fixed rfl).symm
  | true =>
    simp only [Bool.not_false, Bool.and_true, Bool.not_true, Bool.and_false]
    cases hf : (s.link d).failed with
    | false => exact (setLink_of_fixed (s := s) (by rw [← hf])).symm
    | true => exact links_of_hie (hieEmit_hie ..)

theorem exec_linkUp {s : State} {d : Side} (hu : s.linkUsed d = true) :
    exec (.linkUp d) s = .next ((s.lineDown d false).hopRestored d) :=
  congrArg Host.Outcome.next (if_neg (by rw [hu]; decide))

/-! ### Straps (R225) -/

theorem hieEmit_addr (s : State) (code b2 b3 : Nat) (a b : Int) : (s.hieEmit code b2 b3 a b).sys.addr = s.sys.addr := by
  obtain ⟨q, hq⟩ := emit_sys s (s.hieEv code s.sys.addr b2 b3 a b)
  rw [State.hieEmit, hq]

/-! ### Frames put on a link in use (R229) -/

/-- A frame sent by link `d`. -/
def State.sends (s : State) (d : Side) (f : Frame) : State := s.withSent ((d, f) :: s.hie.sent)

/-- Frames but FLAG and DATA go out whether the hop has failed or not. -/
theorem transmit_of_used {s : State} {d : Side} {f : Frame} (hu : s.linkUsed d = true) (hf : f.crossesFailed = true) :
    s.transmit d f = s.sends d f := if_pos (by rw [hu, hf]; rfl)

theorem transmit_of_unused {s : State} {d : Side} (f : Frame) (hu : s.linkUsed d = false) : s.transmit d f = s :=
  if_neg (by rw [hu]; exact Bool.false_ne_true)

/-! ### Hop echoes (R231, R232) -/

/-- A failed echo counted. -/
def State.echoLost (s : State) : State :=
  s.onHie fun h => { h with ereqAt := none, echoFail := satNat 255 (h.echoFail + 1), echoRun := h.echoRun + 1 }

section
variable {s : State} (hu : s.linkUsed true = true)
include hu

theorem echoFails_eq : s.echoFails = if 2 ≤ s.echoLost.hie.echoRun then s.echoLost.hopFails true 2 else s.echoLost :=
  if_neg (by rw [hu]; decide)

theorem echoFails_of_first (h : s.hie.echoRun = 0) : s.echoFails = s.onHie fun h =>
    { h with ereqAt := none, echoFail := satNat 255 (h.echoFail + 1), echoRun := 1 } := by
  have hone : s.echoLost.hie.echoRun = 1 := congrArg (· + 1) h
  rw [echoFails_eq hu, hone, if_neg (by decide), State.echoLost, State.onHie, State.onHie, h]

theorem echoFails_of_second (h : 1 ≤ s.hie.echoRun) : LinksKept (s.failedHop true) s.echoFails := by
  have htwo : 2 ≤ s.echoLost.hie.echoRun := Nat.succ_le_succ h
  rw [echoFails_eq hu, if_pos htwo]
  exact hopFails_links (s := s.echoLost) 2 hu

end

/-- A sample taken while the delay is not yet known, and not the last that it needs. -/
theorem takeSample_of_unknown {s : State} (x : Int) (hd : s.hie.dlyOk = false) (hn : s.hie.samples.length < 15) :
    s.takeSample x = s.onHie fun h => { h with samples := (x :: h.samples).take 16, rejRun := 0 } := by
  have hlow : decide (15 ≤ s.hie.samples.length) = false := decide_eq_false (Nat.not_le.mpr hn)
  have hstill : (s.hie.dlyOk || decide (15 ≤ s.hie.samples.length)) = s.hie.dlyOk := by rw [hlow, Bool.or_false]
  unfold State.takeSample
  extract_lets n mean2 u
  have hu : u = s.onHie fun h => { h with samples := (x :: h.samples).take 16, rejRun := 0 } := by
    unfold u State.onHie
    dsimp only
    rw [hstill]
  rw [hd, Bool.false_and, if_neg Bool.false_ne_true, hu]
  exact if_neg (by simp [hd])

/-- The echo out has been answered. -/
def State.answered (s : State) (tat : Nat) : State :=
  s.onHie fun h => { h with tat := tat, ereqAt := none, echoRun := 0 }

/-- An answer with its CRC, in time. -/
theorem exec_ersp {s : State} {tat e0 e : Nat} (ha : s.hie.ereqAt = some e0) (ht : tat ≤ 4000) (he : e ≤ e0 + 12000) :
    exec (.ersp tat (Frame.ersp tat).crc e) s = .next ((s.answered tat).takeSample ((e : Int) - e0 - tat)) := by
  change execErsp tat _ e s = _
  unfold execErsp
  have hin : ¬ (4000 < tat || e0 + 12000 < e) = true := by
    simp only [Bool.or_eq_true, decide_eq_true_eq]
    omega
  simp only [ha, ne_eq, not_true_eq_false, if_false]
  rw [if_neg hin]
  rfl

theorem exec_ersp_bad {s : State} {tat c : Nat} (e : Nat) (ha : s.hie.ereqAt.isSome = true)
    (hc : c ≠ (Frame.ersp tat).crc) : exec (.ersp tat c e) s = .next s.badFrame.echoFails := by
  obtain ⟨e0, h0⟩ := Option.isSome_iff_exists.mp ha
  change execErsp tat c e s = _
  simp only [execErsp, h0, if_pos hc]

/-! ### Marks and beacons sent (R229, R233, R235) -/

theorem exec_bmark {s : State} (e : Nat) (hu : s.linkUsed false = true) (hm : s.hie.mark = none) :
    exec (.bmark e) s = .next ((s.onHie fun h => { h with mark := some e }).transmit true .bmark) := by
  change execBmark e s = _
  simp only [execBmark, hu, if_true, State.markMissed, hm]

/-- The beacon body that the manager sends at a whole millisecond. -/
def State.managerBeacon (s : State) : Frame :=
  .beacon 1 s.hopDelay ((s.now * 1000 + 2 ^ 31) / 2 ^ 32 % 1000) ((s.now * 1000 + 2 ^ 31) / 2 ^ 32 / 1000) s.tmb.qual.code
    s.hie.dlyOk s.hie.stepCnt s.announcement

/-- Counting changes the counters alone. -/
theorem count_eq (s : State) (src n : Nat) : ∃ m, s.count src n = { s with mon := m } := by
  unfold State.count
  split
  · exact ⟨_, rfl⟩
  · exact ⟨s.mon, rfl⟩

theorem exec_beaconSend {s : State} (hw : s.isWorker = false) (hu : s.linkUsed true = true) (ha : s.rcp.applied = true) :
    exec .beaconSend s = .next (((s.count 0x03 1).sends true .bmark).sends true s.managerBeacon) := by
  have hgo : ¬ (s.isWorker || !s.linkUsed true || !s.rcp.applied) = true := by
    rw [hw, hu, ha]
    decide
  refine congrArg Host.Outcome.next ((if_neg hgo).trans ?_)
  obtain ⟨m, hm⟩ := count_eq s 0x03 1
  have hmark : (s.count 0x03 1).transmit true .bmark = (s.count 0x03 1).sends true .bmark :=
    transmit_of_used (by rw [hm]; exact hu) rfl
  rw [hmark]
  exact transmit_of_used (by rw [hm]; exact hu) rfl

/-- Settles O38: what follows of a failed hop leaves both links (`LinksKept`), an echo or a mark sets its fields of the
hierarchy, and a frame sent is one more in `sent`. -/
theorem clapperLinksAndEchoes : Obligations.ClapperLinksAndEchoes := by
  refine ⟨fun d s hu => ?down, fun d s hu => ?up, fun a s ha => ?straps, fun s hu => ?ereq, fun e s hu => ?request,
    fun s hu h0 => ?first, fun s hu h1 => ?second, fun tat e0 e s ha ht he hd hn => ?answer,
    fun tat c e s ha hc hu h0 => ?bad, fun e s hu hd hm => ?mark, fun e s hu hd hm => ?forward,
    fun s hw hu ha => ?send⟩
  case down =>
    obtain ⟨t, he, hl⟩ := exec_linkDown hu
    have hlink : t.link d = { down := true, failed := true } := by
      rw [hl, State.failedHop, setLink_same, State.lineDown, setLink_same]
    refine ⟨t, he, congrArg Link.down hlink, congrArg Link.failed hlink, ?_,
      next_only (execLinkDown_keep d s (.refl s : Keep hopParts s s) rfl) he⟩
    rw [hl, State.failedHop, setLink_other, State.lineDown, setLink_other]
  case up =>
    have he := exec_linkUp hu
    have hl := hopRestored_links (s := s.lineDown d false) (d := d) (congrArg Link.down (setLink_same s d _))
    have hdly : (s.lineDown d false).hie.dlyOk = s.hie.dlyOk := setLink_dlyOk s d _
    refine ⟨_, he, ?_, ?_, next_only (execLinkUp_keep d s (.refl s : Keep [.sys, .log, .hie, .mon] s s) rfl) he⟩
    · rw [hl, setLink_same, hdly, State.lineDown, setLink_same]
    · rw [hl, setLink_other, State.lineDown, setLink_other]
  case straps =>
    have he : exec (.strapChange a) s = .next _ := congrArg Host.Outcome.next (if_neg ha)
    exact ⟨_, he, hieEmit_hie _ _ _ _ _ _, hieEmit_addr _ _ _ _ _ _,
      next_only (execStrapChange_keep a s (.refl s : Keep [.sys, .log, .mon, .hie] s s) rfl) he⟩
  case ereq =>
    have he : exec .ereq s = .next (s.sends false (.ersp 1600)) := congrArg Host.Outcome.next (transmit_of_used hu rfl)
    exact ⟨_, he, rfl, next_only (execEreq_keep s (.refl s : Keep [.hie] s s) rfl) he⟩
  case request =>
    have he : exec (.echoRequest e) s = .next ((s.onHie fun h => { h with ereqAt := some e }).sends true .ereq) :=
      congrArg Host.Outcome.next ((if_pos hu).trans (transmit_of_used hu rfl))
    exact ⟨_, he, rfl, next_only (execEchoRequest_keep e s (.refl s : Keep [.hie] s s) rfl) he⟩
  case first =>
    have he : exec .echoFail s = .next _ := congrArg Host.Outcome.next (echoFails_of_first hu h0)
    exact ⟨_, he, rfl, next_only (execEchoFail_keep s (.refl s : Keep hopParts s s) rfl) he⟩
  case second =>
    have hl := echoFails_of_second hu h1
    exact ⟨_, rfl, congrArg Link.failed (congrFun hl true), congrFun hl false,
      next_only (execEchoFail_keep s (.refl s : Keep hopParts s s) rfl) rfl⟩
  case answer =>
    have hx := exec_ersp ha ht he
    rw [takeSample_of_unknown (s := s.answered tat) _ hd hn] at hx
    exact ⟨_, hx, rfl, next_only (execErsp_keep _ _ e s (.refl s : Keep hopParts s s) rfl) hx⟩
  case bad =>
    have he := exec_ersp_bad e ha hc
    rw [echoFails_of_first (s := s.badFrame) hu h0] at he
    exact ⟨_, he, rfl, next_only (execErsp_keep _ _ e s (.refl s : Keep hopParts s s) rfl) he⟩
  case mark =>
    have he := exec_bmark e hu hm
    rw [transmit_of_unused (s := s.onHie _) _ hd] at he
    exact ⟨_, he, rfl, next_only (execBmark_keep e s (.refl s : Keep [.hie] s s) rfl) he⟩
  case forward =>
    have he := exec_bmark e hu hm
    rw [transmit_of_used (s := s.onHie _) hd rfl] at he
    exact ⟨_, he, rfl, next_only (execBmark_keep e s (.refl s : Keep [.hie] s s) rfl) he⟩
  case send =>
    have he := exec_beaconSend hw hu ha
    exact ⟨_, he, congrArg (fun h : HieState => { h with sent := (true, s.managerBeacon) :: (true, .bmark) :: h.sent })
      (State.count_hie s _ _), next_only (execBeaconSend_keep s (.refl s : Keep [.hie, .mon] s s) rfl) he⟩

end Sys2Proof.Machine
end

section
/-! SUPPORT. Beacons, flags and HOPFAILs received. -/

namespace Sys2Proof.Machine

open Sys2Proof

/-! ### Frames discarded for their CRC (R227) -/

theorem discarded_only (s : State) (d : Side) (f : Frame) : State.Only [.hie] s (s.transmit d f).badFrame :=
  (badFrame_keep _ (transmit_keep s d f (.refl s) rfl) rfl : Keep [.hie] s _).toOnly

/-! ### Beacons (R233 to R235) -/

/-- The Clapper source of a worker after a valid beacon at difference `d` (R234). -/
def HieState.sourced (d : Rat) (h : HieState) : HieState :=
  if h.srcOk then { h with firstDs := if h.firstDs.length < 100 then d :: h.firstDs else h.firstDs }
  else if 10 ≤ h.beaconRun then { h with srcOk := true, firstDs := [] } else h

theorem sourced_eq (d : Rat) (h : HieState) : h.sourced d =
    { h with srcOk := h.srcOk || decide (10 ≤ h.beaconRun), firstDs := (h.sourced d).firstDs } := by
  by_cases h1 : h.srcOk = true
  · simp only [HieState.sourced, if_pos h1]
    rw [h1]
    rfl
  · by_cases h10 : 10 ≤ h.beaconRun
    · simp only [HieState.sourced, if_neg h1, if_pos h10, decide_eq_true h10, Bool.or_true]
    · simp only [HieState.sourced, if_neg h1, if_neg h10, decide_eq_false h10, Bool.or_false]

/-- The hierarchy after a valid beacon, before its source is judged. -/
def HieState.beaconTaken (tick cum q n : Nat) (d : Rat) (h : HieState) : HieState :=
  { h with mark := none, validAt := some tick, cumdly := cum, mqual := Qual.ofCode q, stepCnt := n, hopExc := false,
           stepApplied := h.stepApplied && decide (n = h.stepCnt), beaconRun := h.beaconRun + 1, ds := d :: h.ds }

/-- Without a missed step a valid beacon is taken, its source judged, and its step announced. -/
theorem beaconValid_eq {s : State} {n : Nat} (m cum ms sec q : Nat) (a : Option (Nat × Nat × Nat))
    (hn : s.hie.validAt = none ∨ n = s.hie.stepCnt) : ∃ d, s.beaconValid m cum ms sec q n a =
      (((s.onHie (.beaconTaken s.tick cum q n d)).count 0x03 1).onHie (.sourced d)).announce a := by
  have hj : (s.hie.validAt.isSome && decide (n ≠ s.hie.stepCnt) && !s.hie.stepApplied) = false := by
    rcases hn with h | h
    · rw [h]
      rfl
    · rw [decide_eq_false (not_not_intro h), Bool.and_false, Bool.false_and]
  unfold State.beaconValid
  rw [hj]
  exact ⟨_, rfl⟩

/-- What is pending, after `p`, once `a` has been announced. -/
def pendingAfter (p : Option StepPend) (a : Option (Nat × Nat × Nat)) : Option StepPend :=
  match a with
  | some (_, ss, ff) => some (.manager (announced ss ff))
  | none => p

theorem dropSetting_hieKept (s : State) : HieKept s s.dropSetting := by
  unfold State.dropSetting
  split
  · exact answer_hieKept (s.onTmb _) _ _
  · exact .refl s

theorem announce_eq (s : State) (a : Option (Nat × Nat × Nat)) :
    HieKept s (s.announce a) ∧ (s.announce a).tmb = { s.tmb with pending := pendingAfter s.tmb.pending a } := by
  cases a with
  | none => exact ⟨.refl s, rfl⟩
  | some a =>
    obtain ⟨x, ss, ff⟩ := a
    obtain ⟨p, hp⟩ := dropSetting_tmb s
    refine ⟨dropSetting_hieKept s, ?_⟩
    rw [State.announce, State.onTmb_tmb, hp]
    rfl

/-- A beacon with its CRC, DLYOK, the HOP of this device and a mark is forwarded and is valid. -/
theorem exec_beacon {s : State} (cum ms sec q n : Nat) (a : Option (Nat × Nat × Nat)) {m : Nat}
    (hu : s.linkUsed false = true) (hm : s.hie.mark = some m) : ∃ l,
      exec (.beacon s.hop cum ms sec q true n a (Frame.beacon s.hop cum ms sec q true n a).crc) s =
        .next ((s.withSent l).beaconValid m cum ms sec q n a) := by
  obtain ⟨l, hl⟩ := transmit_eq s true
    (.beacon ((s.hop + 1) % 64) ((cum + 2560 + s.hopDelay) % 2 ^ 24) ms sec q (true && s.hie.dlyOk) n a)
  have hhop : (s.withSent l).hop = s.hop := rfl
  have hmark : (s.withSent l).hie.mark = some m := hm
  refine ⟨l, ?_⟩
  change execBeacon _ _ _ _ _ _ _ _ _ s = _
  unfold execBeacon State.forwardBeacon
  rw [hl]
  simp only [hu, hhop, hmark, Bool.not_true, Bool.false_eq_true, if_false, ne_eq, not_true_eq_false]

/-! ### Flags (R237, R238) -/

section
variable (s : State) {k : FlagId} (f : XFlag → XFlag)

theorem setFlag_same : (s.setFlag k f).hie.flags[k] = f s.hie.flags[k] := upd_same _ _ _

theorem setFlag_other {j : FlagId} (h : j ≠ k) : (s.setFlag k f).hie.flags[j] = s.hie.flags[j] := upd_other _ _ _ _ h.symm

end

/-- Flag `k` is `x` in `t`, and the others are as in `s`. -/
def FlagIs (k : FlagId) (x : XFlag) (s t : State) : Prop :=
  t.hie.flags[k] = x ∧ ∀ j, j ≠ k → t.hie.flags[j] = s.hie.flags[j]

section
variable {s t : State} {k : FlagId}

theorem FlagIs.set {x : XFlag} (h : FlagIs k x s t) (f : XFlag → XFlag) : FlagIs k (f x) s (t.setFlag k f) := by
  obtain ⟨hk, ho⟩ := h
  exact ⟨(setFlag_same t f).trans (congrArg f hk), fun j hj => (setFlag_other t f hj).trans (ho j hj)⟩

theorem FlagIs.refl (s : State) (k : FlagId) : FlagIs k s.hie.flags[k] s s := ⟨rfl, fun _ _ => rfl⟩

theorem FlagIs.congr {x : XFlag} {u : State} (h : FlagIs k x s t) (e : u.hie = t.hie) : FlagIs k x s u := by
  rw [FlagIs, e]
  exact h

variable (hu : s.xfUsed k = true) (ho : s.xfOrig k ≠ s.sys.addr)
include hu ho

/-- A valid frame of a flag clears its failure, but for the state of the link on its origin's side. -/
theorem takeFlag_takes (v : Bool) (hd : (s.link (s.sideOf (s.xfOrig k))).down = false)
    (hf : (s.link (s.sideOf (s.xfOrig k))).failed = false) :
    FlagIs k { val := v, failed := false, hopfail := false, silent := false } s (s.takeFlag (s.xfOrig k) k v) := by
  unfold State.takeFlag
  rw [if_neg (by rw [hu]; simpa using ho)]
  extract_lets t was u
  have ht : FlagIs k { s.hie.flags[k] with hopfail := false, silent := false } s t :=
    (FlagIs.refl s k).set fun x => { x with hopfail := false, silent := false }
  have hgood : t.flagFails k = false := by
    have hd' : (t.link (t.sideOf (t.xfOrig k))).down = false := hd
    have hf' : (t.link (t.sideOf (t.xfOrig k))).failed = false := hf
    rw [State.flagFails, ht.1, hd', hf']
    rfl
  have hu : FlagIs k { val := v, failed := false, hopfail := false, silent := false } s u :=
    ht.set fun x => { x with val := v, failed := false }
  rw [hgood, if_neg Bool.false_ne_true]
  split
  · exact hu.congr (hieEmit_hie ..)
  · exact hu

/-- A flag that takes FAILV. -/
def XFlag.fail (v : Bool) (x : XFlag) : XFlag := { x with val := v, failed := true }

theorem failFlag_fails (cond : Nat) :
    FlagIs k (s.hie.flags[k].fail (s.xfFailv k)) s (s.failFlag k cond) := by
  unfold State.failFlag
  rw [if_neg (by rw [hu]; simpa using ho)]
  extract_lets was u
  have hu : FlagIs k (s.hie.flags[k].fail (s.xfFailv k)) s u := (FlagIs.refl s k).set (XFlag.fail (s.xfFailv k))
  split
  · exact hu
  · exact hu.congr (hieEmit_hie ..)

end

theorem exec_flag {s : State} (d : Side) (o : Nat) (k : FlagId) (v : Bool) : ∃ l,
    exec (.flag d o k.val v (Frame.flag o k.val v).crc) s = .next ((s.withSent l).takeFlag o k v) := by
  obtain ⟨l, hl⟩ := transmit_eq s (!d) (.flag o k.val v)
  refine ⟨l, congrArg Host.Outcome.next ((if_neg (not_not_intro rfl)).trans ?_)⟩
  rw [hl, Fin.ofNat_val_eq_self]

theorem exec_flag_bad {s : State} (d : Side) (o i : Nat) (v : Bool) {c : Nat} (hc : c ≠ (Frame.flag o i v).crc) :
    exec (.flag d o i v c) s = .next (s.transmit (!d) (.flag o i v)).badFrame :=
  congrArg Host.Outcome.next (if_pos hc)

/-! ### HOPFAIL (R232) -/

/-- The hop of link `e` that a HOPFAIL names. -/
def State.isHop (s : State) (a : Nat) (e : Side) : Prop := if e then a = s.hop else a + 1 = s.hop

theorem SameAt.failedHop {s t : State} (h : LinksKept s t) (e : Side) : LinksKept (s.failedHop e) (t.failedHop e) := by
  refine funext fun d => ?_
  by_cases hd : d = e
  · rw [hd, State.failedHop, State.failedHop, setLink_same, setLink_same, h]
  · rw [Bool.eq_not_of_ne hd, State.failedHop, State.failedHop, setLink_other, setLink_other, h]

/-- A HOPFAIL with its CRC that names the hop of link `e` fails it, and what else it does leaves the links. -/
theorem exec_hopfail {s : State} (d : Side) {r a : Nat} {w e : Bool} (hn : s.hopNamed r w = some a)
    (he : s.isHop a e) (hu : s.linkUsed e = true) :
    ∃ t, exec (.hopfail d r w (Frame.hopfail r w).crc) s = .next t ∧ LinksKept (s.failedHop e) t := by
  obtain ⟨l, hl⟩ := transmit_eq s (!d) (.hopfail r w)
  have hname : (s.withSent l).hopNamed r w = some a := hn
  have hhop : (s.withSent l).hop = s.hop := rfl
  have hbranch : (if a = (s.withSent l).hop then (s.withSent l).hopFails true 3
      else if a + 1 = (s.withSent l).hop then (s.withSent l).hopFails false 3 else s.withSent l) =
      (s.withSent l).hopFails e 3 := by
    rw [hhop]
    cases e with
    | true => exact if_pos he
    | false =>
      have h1 : a + 1 = s.hop := he
      exact (if_neg (by omega)).trans (if_pos h1)
  refine ⟨_, rfl, ?_⟩
  dsimp only
  rw [if_neg (not_not_intro rfl), hl, hname]
  dsimp only
  rw [hbranch]
  have hsent : LinksKept s (s.withSent l) := rfl
  have hfails := (hsent.failedHop e).trans (hopFails_links (s := s.withSent l) (d := e) 3 hu)
  have hlinks := hfails.trans (failBeyondHop_links _ a)
  exact .ite hlinks (hlinks.trans (loseBeyond_links _ _ _))

theorem exec_hopfail_bad {s : State} (d : Side) (r : Nat) (w : Bool) {c : Nat} (hc : c ≠ (Frame.hopfail r w).crc) :
    exec (.hopfail d r w c) s = .next (s.transmit (!d) (.hopfail r w)).badFrame :=
  congrArg Host.Outcome.next (if_pos hc)

/-- Settles O39: a valid beacon is `HieState.beaconTaken` and then `HieState.sourced`, a flag frame or its silence sets one
flag (`FlagIs`), and what follows of a HOPFAIL leaves both links (`LinksKept`). -/
theorem beaconsFlagsAndFailedHops : Obligations.BeaconsFlagsAndFailedHops := by
  refine ⟨fun cum ms sec q n m a s hu hm hn => ?beacon, fun d k v s hu ho hd hf => ?flag, fun d o i v c s hc => ?flagBad,
    fun k s hu ho => ?silent, fun d r w s hn hu => ?dnHop, fun d r w a s hn ha hu => ?upHop,
    fun d r w c s hc => ?hopBad⟩
  case beacon =>
    obtain ⟨l, he⟩ := exec_beacon cum ms sec q n a hu hm
    obtain ⟨x, hv⟩ := beaconValid_eq (s := s.withSent l) m cum ms sec q a hn
    rw [hv] at he
    obtain ⟨⟨q14, hhie⟩, htmb⟩ := announce_eq
      ((((s.withSent l).onHie (.beaconTaken s.tick cum q n x)).count 0x03 1).onHie (.sourced x)) a
    rw [State.onHie_hie, State.count_hie, State.onHie_hie, sourced_eq] at hhie
    rw [State.onHie_tmb, State.count_tmb] at htmb
    refine ⟨_, he, (congrArg HieState.mark hhie :), (congrArg HieState.cumdly hhie :), (congrArg HieState.mqual hhie :),
      (congrArg HieState.stepCnt hhie :), (congrArg HieState.validAt hhie :), (congrArg HieState.beaconRun hhie :),
      (congrArg HieState.srcOk hhie :), (congrArg HieState.up hhie :), (congrArg HieState.dn hhie :), ?_,
      (congrArg TmbState.t htmb :), next_only (execBeacon_keep _ _ _ _ _ _ _ _ _ s
        (.refl s : Keep [.sys, .log, .tmb, .hie, .mon] s s) rfl) he⟩
    refine (congrArg TmbState.pending htmb :).trans ?_
    cases a with
    | none => rfl
    | some a => rfl
  case flag =>
    obtain ⟨l, he⟩ := exec_flag (s := s) d (s.xfOrig k) k v
    obtain ⟨hk, hj⟩ := takeFlag_takes (s := s.withSent l) hu ho v hd hf
    exact ⟨_, he, hk, hj, next_only (execFlag_keep _ _ _ _ _ s (.refl s : Keep [.sys, .log, .hie, .mon] s s) rfl) he⟩
  case flagBad =>
    have he := exec_flag_bad (s := s) d o i v hc
    obtain ⟨l, hl⟩ := transmit_eq s (!d) (.flag o i v)
    have ho := discarded_only s (!d) (.flag o i v)
    rw [hl] at he ho
    exact ⟨_, he, rfl, fun _ => rfl, ho⟩
  case silent =>
    have he : exec (.xflagFailed k) s = .next ((s.setFlag k fun x => { x with silent := true }).failFlag k 3) :=
      congrArg Host.Outcome.next (if_pos (by rw [hu]; simpa using ho))
    obtain ⟨hk, hj⟩ := failFlag_fails (s := s.setFlag k fun x => { x with silent := true }) hu ho 3
    rw [setFlag_same] at hk
    exact ⟨_, he, hk, fun j h => (hj j h).trans (setFlag_other s _ h),
      next_only (execXflagFailed_keep k s (.refl s : Keep [.sys, .log, .hie, .mon] s s) rfl) he⟩
  case dnHop =>
    obtain ⟨t, he, hl⟩ := exec_hopfail (e := true) d hn rfl hu
    exact ⟨t, he, congrFun hl true, congrFun hl false,
      next_only (execHopfail_keep d r w _ s (.refl s : Keep hopParts s s) rfl) he⟩
  case upHop =>
    obtain ⟨t, he, hl⟩ := exec_hopfail (e := false) d hn ha hu
    exact ⟨t, he, congrFun hl false, congrFun hl true,
      next_only (execHopfail_keep d r w _ s (.refl s : Keep hopParts s s) rfl) he⟩
  case hopBad =>
    have he := exec_hopfail_bad (s := s) d r w hc
    obtain ⟨l, hl⟩ := transmit_eq s (!d) (.hopfail r w)
    have ho := discarded_only s (!d) (.hopfail r w)
    rw [hl] at he ho
    exact ⟨_, he, rfl, rfl, rfl, ho⟩

end Sys2Proof.Machine
end

section
/-! SUPPORT. Lock groups: their stages, the members that run here, and the members that wait. -/

namespace Sys2Proof.Machine

open Sys2Proof

/-! ### Stages and boundaries (R251) -/

/-- The stage of a group and its boundaries. -/
def Lg.stage (x : Lg) : LgStatus × Nat × Nat := (x.st, x.startB, x.stopB)

/-- The stage of group `g` and its boundaries. -/
def State.stage (g : LgId) (s : State) : LgStatus × Nat × Nat := s.hie.lgs[g].stage

/-- From `s` to `t` group `g` has kept its stage and its boundaries. -/
abbrev StageKept (g : LgId) : State → State → Prop := SameAt (State.stage g)

theorem setLg_same (s : State) (g : LgId) (f : Lg → Lg) : (s.setLg g f).hie.lgs[g] = f s.hie.lgs[g] := upd_same _ _ _

theorem setLg_other (s : State) {g j : LgId} (f : Lg → Lg) (h : j ≠ g) : (s.setLg g f).hie.lgs[j] = s.hie.lgs[j] :=
  upd_other _ _ _ _ h.symm

section
variable {g : LgId}

theorem stage_of_lgs {s t : State} (h : t.hie.lgs = s.hie.lgs) : StageKept g s t :=
  congrArg (fun v : Vector Lg 16 => v[g].stage) h

theorem HieKept.lgs {s t : State} (h : HieKept s t) : t.hie.lgs = s.hie.lgs := by
  obtain ⟨q, h⟩ := h
  rw [h]

theorem setLg_stage (s : State) (j : LgId) {f : Lg → Lg} (hf : ∀ x, (f x).stage = x.stage := by exact fun _ => rfl) :
    StageKept g s (s.setLg j f) := by
  by_cases h : g = j
  · subst h
    exact (congrArg Lg.stage (setLg_same s g f)).trans (hf _)
  · exact congrArg Lg.stage (setLg_other s f h)

theorem setGrid_hie (s : State) (r : Running) : (s.setGrid r).hie = s.hie := setPorts_hie ..

theorem reserve_lgs (s : State) (h : Holder) : (s.reserve h).1.hie.lgs = s.hie.lgs := by
  unfold State.reserve
  split
  · rfl
  · rfl

theorem joinHere_lgs (s : State) (r : Running) : (s.joinHere r).1.hie.lgs = s.hie.lgs := by
  have hres := reserve_lgs s (.member r.group r.idx)
  unfold State.joinHere
  split
  · rfl
  split
  · rw [State.onHie_hie, setGrid_hie]
  split
  · next heq =>
    rw [heq] at hres
    exact hres
  · next heq =>
    rw [heq] at hres
    exact hres

theorem refuseMember_stage (s : State) (j : LgId) (m : Fin 32) (st : Status) : StageKept g s (s.refuseMember j m st) :=
  (setLg_stage s j).trans (stage_of_lgs (congrArg HieState.lgs (hieEmit_hie ..)))

theorem startHere_stage (s : State) (j : LgId) (b : Nat) : StageKept g s (s.startHere j b) := by
  refine .foldl _ (fun t m => ?_) (.refl s)
  have hjoin := joinHere_lgs t (runOf j m (t.memA j m) (t.memB j m) (t.lgPer j) (t.lgPh j) b (t.lgOneshot j))
  dsimp only
  split
  · next heq =>
    rw [heq] at hjoin
    exact stage_of_lgs hjoin
  · next heq =>
    rw [heq] at hjoin
    exact (stage_of_lgs hjoin).trans (refuseMember_stage _ j m _)

theorem sendDesc_hieKept (s : State) (j : LgId) (a b : Nat) (ms : List (Fin 32)) : HieKept s (s.sendDesc j a b ms).1 := by
  unfold State.sendDesc
  extract_lets r
  have hr : HieKept s r.1 := send_hieKept ..
  split
  · exact hr.trans (send_hieKept ..)
  · exact hr

theorem startFar_stage (s : State) (j : LgId) (b : Nat) : StageKept g s (s.startFar j b) :=
  .foldl _ (fun t a => .ite (stage_of_lgs (sendDesc_hieKept t j a b _).lgs) (setLg_stage t j)) (.refl s)

/-- A group that begins. -/
def Lg.begun (b : Nat) : Lg := { st := .starting, startB := b, stopB := 0, held := none, wait := 0, ref := 0 }

theorem lgBegin_stage (s : State) (b : Nat) : (s.lgBegin g b).stage g = (.starting, b, 0) := by
  have hset : (s.setLg g fun _ => .begun b).hie.lgs[g] = .begun b := setLg_same s g _
  have hkept := (startHere_stage (g := g) (s.setLg g fun _ => .begun b) g b).trans (startFar_stage _ g b)
  exact Eq.trans hkept (congrArg Lg.stage hset)

/-! ### START and STOP (R251) -/

/-- A command of a group that the Recipe defines, on the manager, from a source that may give it. -/
theorem lgGated_ok {s : State} {src : Src} (go : State → State × Status) (hw : s.isWorker = false)
    (hu : s.lgUsed g = true) (hg : s.srcGate src = .ok) : s.lgGated g src go = (go s).1.answer src (go s).2 := by
  simp only [State.lgGated, hw, hu, hg, Bool.not_true, Bool.not_false, Bool.and_false, Bool.false_eq_true, if_false]

theorem sendStop_fold_stage (s : State) (j : LgId) (b : Nat) (l : List Nat) :
    StageKept g s (l.foldl (fun s a => s.sendStop j a b) s) :=
  .foldl l (fun t _ => stage_of_lgs (send_hieKept t _ _ _).lgs) (.refl s)

/-- A group that holds a START accepted at `n`. -/
def Lg.holding (n : Nat) (x : Lg) : Lg := { x with held := some n }

/-- A group that stops at boundary `b`. -/
def Lg.stopping (b : Nat) (x : Lg) : Lg := { x with st := .stopping, stopB := b }

theorem stopHere_lgs (s : State) (j : LgId) (b : Nat) : (s.stopHere j b).hie.lgs = s.hie.lgs := by
  simp only [State.stopHere, State.onHie_hie]

theorem cmdLgStop_of_live {s : State} (h : s.hie.lgs[g].st = .starting ∨ s.hie.lgs[g].st = .running) :
    (s.cmdLgStop g).1.stage g = (s.hie.lgs[g].stopping (s.lgBoundary g)).stage := by
  have hset : ((s.setLg g (.stopping (s.lgBoundary g))).stopHere g (s.lgBoundary g)).hie.lgs[g] =
      s.hie.lgs[g].stopping (s.lgBoundary g) := by rw [stopHere_lgs, setLg_same]
  have hstop : ∃ l : List Nat, (s.cmdLgStop g).1 = l.foldl (fun t a => t.sendStop g a (s.lgBoundary g))
      ((s.setLg g (.stopping (s.lgBoundary g))).stopHere g (s.lgBoundary g)) := by
    unfold State.cmdLgStop Lg.stopping
    rcases h with h | h
    · simp only [h]
      exact ⟨_, rfl⟩
    · simp only [h]
      exact ⟨_, rfl⟩
  obtain ⟨l, hl⟩ := hstop
  rw [hl]
  exact (sendStop_fold_stage _ g _ l).eq.trans (congrArg Lg.stage hset)

/-! ### The boundaries reached (R250, R251) -/

theorem exec_lgStarted {s : State} (hw : s.isWorker = false) (hs : s.hie.lgs[g].st = .starting) :
    ∃ t, exec (.lgStarted g) s = .next t ∧ t.hie = (s.setLg g fun x => { x with st := .running }).hie := by
  refine ⟨_, congrArg Host.Outcome.next ((if_neg (by rw [hw]; exact Bool.false_ne_true)).trans (if_pos hs)), ?_⟩
  exact (hieEmit_hie ..).trans (presentCarriers_hie _ g true)

/-- An entry of Q10 that a member of `g` held is free. -/
def Q10Slot.without (g : LgId) (e : Q10Slot) : Q10Slot :=
  match e.holder with
  | .member g' _ => if g' = g then {} else e
  | _ => e

theorem endHere_hie (s : State) (g : LgId) : (s.endHere g).hie =
    { s.hie with runs := s.hie.runs.filter (fun r => decide (r.group ≠ g)),
                 q10 := updAll s.hie.q10 fun _ e => e.without g } := by
  unfold State.endHere
  rw [State.onHie_hie, presentCarriers_hie]
  rfl

theorem without_holder (g : LgId) (e : Q10Slot) (m : Fin 32) : (e.without g).holder ≠ .member g m := by
  unfold Q10Slot.without
  split
  · next g' m' h =>
    split
    · exact Holder.noConfusion
    · next hg =>
      rw [h]
      intro he
      exact hg (Holder.member.inj he).1
  · next h => exact h g m

theorem exec_lgStopped {s : State} (hw : s.isWorker = false) (hs : s.hie.lgs[g].st = .stopping)
    (hh : s.hie.lgs[g].held = none) : ∃ t, exec (.lgStopped g) s = .next t ∧ t.hie =
      ((s.endHere g).setLg g fun x => { x with st := .stopped, stopB := s.hie.lgs[g].stopB, wait := 0 }).hie := by
  change ∃ t, execLgStopped g s = .next t ∧ _
  unfold execLgStopped
  simp only [hw, hs, hh, Bool.false_eq_true, if_false]
  exact ⟨_, rfl, hieEmit_hie ..⟩

/-! ### Members (R251) -/

/-- A member whose instant `n` has been placed. -/
def State.placed (s : State) (g : LgId) (m : Fin 32) (n : Nat) : State :=
  s.onHie fun h => { h with runs := h.runs.map fun q => if q.group = g ∧ q.idx = m then { q with last := some n } else q }

theorem exec_lgMemberPlace {s : State} {m : Fin 32} {r : Running} {e : EntryId} {n : Nat}
    (hr : (s.hie.runs.find? fun r => decide (r.group = g) && decide (r.idx = m) && !r.carrier) = some r)
    (he : r.slot = some e.val) (hc : s.hie.q10[e].cmd = none) (hn : r.next s.now = some n)
    (hq : s.queueCheck (.lockGroup g) r.port true r.value = .ok) : exec (.lgMemberPlace g m) s = .next
      ((s.placed g m n).putEntry e { port := r.port, on := true, dur := r.value, src := .lockGroup g, at_ := n }) := by
  have hcheck : (s.placed g m n).queueCheck (.lockGroup g) r.port true r.value = .ok := hq
  change execLgMemberPlace g m s = _
  unfold execLgMemberPlace
  rw [hr]
  simp only [he, Option.getD_some, Fin.ofNat_val_eq_self, hc, Option.isSome_some, Option.isNone_none, Bool.and_self,
    if_true, hn]
  rw [State.placed] at hcheck
  rw [hcheck]
  rfl

theorem send_grows (s : State) (code dst : Nat) (body : List Byte) :
    s.hie.q14.length ≤ (s.send code dst body).1.hie.q14.length := by
  by_cases h : s.hie.q14.length < 64
  · rw [send_of_room _ _ _ h, queued_hie, List.length_append]
    exact Nat.le_add_right _ _
  · exact Nat.le_of_eq (by rw [send_of_full _ _ _ h, State.noteOvf_hie])

theorem sendDesc_of_room {s : State} (g : LgId) (a b : Nat) (ms : List (Fin 32)) (h : s.hie.q14.length < 64) :
    ∃ t, s.sendDesc g a b ms = (t, true) ∧ HieKept s t ∧ s.hie.q14.length < t.hie.q14.length := by
  have hkept := sendDesc_hieKept s g a b ms
  have hfirst : ∀ x, s.hie.q14.length < (s.queued x).hie.q14.length := fun x => by
    rw [queued_hie, List.length_append]
    exact Nat.lt_succ_self _
  unfold State.sendDesc at hkept ⊢
  rw [send_of_room _ _ _ h] at hkept ⊢
  dsimp only at hkept ⊢
  split at hkept
  · next ho => exact ⟨_, if_pos ho, hkept, Nat.lt_of_lt_of_le (hfirst _) (send_grows ..)⟩
  · next ho => exact ⟨_, if_neg ho, hkept, hfirst _⟩

/-- A member that no longer waits. -/
def Lg.joined (m : Fin 32) (x : Lg) : Lg := { x with wait := x.wait &&& ~~~(BitVec.ofNat 32 (2 ^ m.val)) }

theorem exec_lgMemberJoined {s : State} {m : Fin 32} (hw : s.isWorker = false)
    (hs : s.hie.lgs[g].st = .starting ∨ s.hie.lgs[g].st = .running) (hm : s.hie.lgs[g].wait.getLsbD m.val = true)
    (hr : s.workerReady (s.memDev g m) = true) (hq : s.hie.q14.length < 64) :
    ∃ t u, exec (.lgMemberJoined g m) s = .next t ∧ t.hie = (u.setLg g (.joined m)).hie ∧ HieKept s u ∧
      s.hie.q14.length < u.hie.q14.length := by
  have hgo : (s.isWorker || !(s.hie.lgs[g].st = .starting || s.hie.lgs[g].st = .running) ||
      !s.hie.lgs[g].wait.getLsbD m.val || !s.workerReady (s.memDev g m)) = false := by
    rw [hw, hm, hr]
    rcases hs with hs | hs
    · rw [hs]
      rfl
    · rw [hs]
      rfl
  obtain ⟨u, hd, hu, hlen⟩ := sendDesc_of_room g (s.memDev g m) (max s.hie.lgs[g].startB (s.lgBoundary g)) [m] hq
  change ∃ t u, execLgMemberJoined g m s = .next t ∧ _
  unfold execLgMemberJoined
  simp only [hgo, Bool.false_eq_true, if_false, hd]
  exact ⟨_, u, rfl, hieEmit_hie .., hu, hlen⟩

/-- Settles O40: what follows of START and STOP keeps the stage that the command gave the group (`StageKept`), a boundary
reached sets the group, and a member placed or joined is one entry of Q10 or one message more. -/
theorem lockGroupsStartRunAndStop : Obligations.LockGroupsStartRunAndStop := by
  refine ⟨fun g src s hw hu hg hs => ?start, fun g src s hw hu hg hs => ?held, fun g src s hw hu hg hs => ?stop,
    fun g s hw hs => ?started, fun g s hw hs hh => ?stopped, fun g m r e n s hr he hc hn hq => ?place,
    fun g m s hw hs hm hr hq => ?joined⟩
  case start =>
    have hgo : s.cmdLgStart g = (s.lgBegin g (s.lgBoundary g), .ok) := by simp only [State.cmdLgStart, hs]
    have he : exec (.lgStart g src) s = .next ((s.lgBegin g (s.lgBoundary g)).answer src .ok) :=
      congrArg Host.Outcome.next ((lgGated_ok (·.cmdLgStart g) hw hu hg).trans (by rw [hgo]))
    have hstage := (stage_of_lgs (g := g) (answer_hieKept (s.lgBegin g (s.lgBoundary g)) src .ok).lgs).eq.trans
      (lgBegin_stage s (s.lgBoundary g))
    exact ⟨_, he, congrArg Prod.fst hstage, congrArg (fun x => x.2.1) hstage,
      next_only (execLgStart_keep g src s (.refl s : Keep [.sys, .ports, .log, .hie, .mon] s s) rfl) he⟩
  case held =>
    have hgo : s.cmdLgStart g = (s.setLg g (.holding s.now), .ok) := by
      simp only [State.cmdLgStart, hs]
      rfl
    have he : exec (.lgStart g src) s = .next ((s.setLg g (.holding s.now)).answer src .ok) :=
      congrArg Host.Outcome.next ((lgGated_ok (·.cmdLgStart g) hw hu hg).trans (by rw [hgo]))
    have hstage := (setLg_stage s g (f := .holding s.now)).trans
      (stage_of_lgs (g := g) (answer_hieKept (s.setLg g (.holding s.now)) src .ok).lgs)
    exact ⟨_, he, Eq.trans (congrArg Prod.fst hstage) hs, congrArg (fun x => x.2.2) hstage,
      next_only (execLgStart_keep g src s (.refl s : Keep [.sys, .ports, .log, .hie, .mon] s s) rfl) he⟩
  case stop =>
    have he : exec (.lgStopCmd g src) s = .next _ :=
      congrArg Host.Outcome.next (lgGated_ok (·.cmdLgStop g) hw hu hg)
    have hstage := (stage_of_lgs (g := g) (answer_hieKept (s.cmdLgStop g).1 src (s.cmdLgStop g).2).lgs).eq.trans
      (cmdLgStop_of_live hs)
    exact ⟨_, he, congrArg Prod.fst hstage, congrArg (fun x => x.2.2) hstage,
      next_only (execLgStopCmd_keep g src s (.refl s : Keep [.sys, .hie, .mon] s s) rfl) he⟩
  case started =>
    obtain ⟨t, he, hh⟩ := exec_lgStarted hw hs
    refine ⟨t, he, ?_, fun j hj => ?_, by rw [hh]; rfl,
      next_only (execLgStarted_keep g s (.refl s : Keep [.sys, .ports, .log, .hie, .mon] s s) rfl) he⟩
    · rw [hh, setLg_same]
    · rw [hh, setLg_other _ _ hj]
  case stopped =>
    obtain ⟨t, he, ht⟩ := exec_lgStopped hw hs hh
    have hend := endHere_hie s g
    refine ⟨t, he, ?_, fun j hj => ?_, fun r hr => ?_, fun e m => ?_,
      next_only (execLgStopped_keep g s (.refl s : Keep [.sys, .ports, .log, .hie, .mon] s s) rfl) he⟩
    · rw [ht, setLg_same, hend]
    · rw [ht, setLg_other _ _ hj, hend]
    · have hrun : r ∈ (s.endHere g).hie.runs := by rwa [ht] at hr
      rw [hend] at hrun
      exact of_decide_eq_true (List.mem_filter.mp hrun).2
    · rw [ht, State.setLg, State.onHie_hie, hend, updAll_get]
      exact without_holder g _ m
  case place =>
    have hx := exec_lgMemberPlace hr he hc hn hq
    exact ⟨_, hx, putEntry_same (s.placed g m n) e _, fun j hj => putEntry_other (s.placed g m n) _ hj,
      next_only (execLgMemberPlace_keep g m s (.refl s : Keep [.sys, .hie, .mon] s s) rfl) hx⟩
  case joined =>
    obtain ⟨t, u, he, ht, hu, hlen⟩ := exec_lgMemberJoined hw hs hm hr hq
    have hlgs := hu.lgs
    refine ⟨t, he, ?_, ?_, ?_,
      next_only (execLgMemberJoined_keep g m s (.refl s : Keep [.sys, .log, .hie, .mon] s s) rfl) he⟩
    · rw [ht, setLg_same, hlgs]
      rfl
    · rw [ht, setLg_same, hlgs]
      rfl
    · rw [ht]
      exact hlen

end

end Sys2Proof.Machine
end

section
/-! SUPPORT. Segments, DATA frames and CAN frames received. -/

namespace Sys2Proof.Machine

open Sys2Proof

/-! ### Hierarchy segments on CAN3 (R241) -/

section
variable {s : State} {a : Nat} (bs : List Byte)

/-- The first segment of a sender that has none waiting. -/
theorem rxSeg3_of_first (ha : assoc a s.hie.asm = none) (hl : bs.length ≤ 2048) :
    s.rxSeg3 a (0x80 :: bs) = s.setAsm a (some { bytes := bs, seq := 0, tick := s.tick }) := by
  have hexp : s.expireAsm a = s := by
    unfold State.expireAsm
    rw [ha]
  have hfirst : ((0x80 :: bs).headD 0 : Byte).toNat = 128 := rfl
  unfold State.rxSeg3
  rw [hexp, hfirst]
  dsimp only
  rw [ha]
  exact if_neg (Nat.not_lt.mpr hl)

/-- The next segment in order of a frame that has not expired. -/
theorem rxSeg3_of_second {p : Partial} (ha : assoc a s.hie.asm = some p) (ht : s.tick ≤ p.tick + 10 * ticksPerMs)
    (h0 : p.seq = 0) (hl : p.bytes.length + bs.length ≤ 2048) :
    s.rxSeg3 a (0x01 :: bs) = s.setAsm a (some { bytes := p.bytes ++ bs, seq := 1, tick := s.tick }) := by
  have hexp : s.expireAsm a = s := by
    unfold State.expireAsm
    rw [ha]
    exact if_neg (Nat.not_lt.mpr ht)
  have hnext : ((0x01 :: bs).headD 0 : Byte).toNat = 1 := rfl
  unfold State.rxSeg3
  rw [hexp, hnext]
  dsimp only
  rw [ha]
  dsimp only
  rw [h0]
  refine if_neg (Nat.not_lt.mpr ?_)
  rwa [← List.length_append] at hl

end

/-! ### DATA frames (R229) -/

/-- A reassembly begun on link `d`. -/
def State.dataBegun (s : State) (d : Side) (pl : List Byte) : State := s.onHie fun h =>
  { h with clpAsm := (if d then 1 else 0, pl) :: h.clpAsm.filter (fun e => e.1 != if d then 1 else 0) }

theorem takeData_begins (s : State) (d : Side) {pl : List Byte} (hl : pl.length ≤ 2048) :
    s.takeData d true false pl = s.dataBegun d pl := if_neg (Nat.not_lt.mpr hl)

theorem dataBegun_only (s : State) (d : Side) (pl : List Byte) : State.Only [.hie] s (s.dataBegun d pl) :=
  have hk : Keep [.hie] s (s.dataBegun d pl) := onHie_keep s _ (.refl s) (fun _ => id) (fun _ => id) rfl
  hk.toOnly

theorem exec_data_here (s : State) (d : Side) (a b : Bool) (pl : List Byte) :
    exec (.data d s.sys.addr a b pl (Frame.data s.sys.addr a b pl).crc) s = .next (s.takeData d a b pl) := by
  change execData _ _ _ _ _ _ s = _
  simp only [execData, ne_eq, not_true_eq_false, if_false, if_true, true_or]

/-! ### What a received CAN frame leaves of the controllers (R254, R265, R267) -/

/-- What a controller has received: new data, overwritten buffers, the buffers, and the frames that no filter matched. -/
structure Received where
  nd    : BitVec 64
  ovw   : BitVec 64
  bufs  : Vector RxBuf 64
  noFlt : Nat

/-- What a controller has received. -/
def Can.received (x : Can) : Received := { nd := x.nd, ovw := x.ovw, bufs := x.bufs, noFlt := x.eNo }

/-- From `s` to `t` controller `c` has received nothing, and the others are as they were. -/
structure RxKept (c : CanId) (s t : State) : Prop where
  same  : t.can[c].received = s.can[c].received
  other : ∀ d, d ≠ c → t.can[d] = s.can[d]

section
variable {c : CanId} {s t u : State}

theorem RxKept.of_can (h : t.can = s.can) : RxKept c s t := by
  constructor
  · rw [h]
  · intro d _
    rw [h]

theorem RxKept.refl (s : State) : RxKept c s s := .of_can rfl

theorem RxKept.trans (h : RxKept c s t) (h' : RxKept c t u) : RxKept c s u :=
  ⟨h'.same.trans h.same, fun d hd => (h'.other d hd).trans (h.other d hd)⟩

theorem RxKept.ite {p : Prop} [Decidable p] (h : RxKept c s t) (h' : RxKept c s u) : RxKept c s (if p then t else u) := by
  split
  · exact h
  · exact h'

theorem setCan_same (s : State) (c : CanId) (f : Can → Can) : (s.setCan c f).can[c] = f s.can[c] := upd_same _ _ _

theorem setCan_other (s : State) {c d : CanId} (f : Can → Can) (h : d ≠ c) : (s.setCan c f).can[d] = s.can[d] :=
  upd_other _ _ _ _ h.symm

theorem setCan_kept (s : State) {f : Can → Can} (hf : ∀ x, (f x).received = x.received := by exact fun _ => rfl) :
    RxKept c s (s.setCan c f) :=
  ⟨by rw [setCan_same, hf], fun _ hd => setCan_other s f hd⟩

theorem setQueue_kept (s : State) (q : List TxEntry) : RxKept c s (s.setQueue c q) := setCan_kept s

theorem txDone_kept (s : State) (e : TxEntry) (r : TxRes) : RxKept c s (s.txDone c e r) := by
  unfold State.txDone
  extract_lets u v
  have hu : RxKept c s u := .ite (.of_can (State.count_can ..)) (.refl s)
  have hv : RxKept c s v := .ite (hu.trans (.of_can (canEmit_can ..))) hu
  split
  · exact hv
  · exact (hv.trans (setCan_kept v)).trans (.of_can (notify_can ..))

theorem freeze_kept (s : State) : RxKept c s (s.freeze c) := by
  unfold State.freeze
  split
  · extract_lets u
    have hu : RxKept c s u := setCan_kept s
    exact .ite (hu.trans ((setQueue_kept u _).trans (txDone_kept _ _ _))) (hu.trans (setQueue_kept u _))
  · exact .refl s

theorem judgeWarn_kept (s : State) : RxKept c s (s.judgeWarn c) := by
  unfold State.judgeWarn
  extract_lets x reached u v body
  refine .ite (.refl s) ?_
  have hu : RxKept c s u := setCan_kept s
  have hv : RxKept c s v := .ite (hu.trans (.of_can (canEmit_can ..))) (hu.trans (.of_can (canEmit_can ..)))
  refine List.foldlRecOn (motive := RxKept c s) (idx 4) _ hv fun t ht k _ => ?_
  exact .ite (ht.trans (.of_can (notify_can ..))) ht

theorem judgeState_kept (s : State) : RxKept c s (s.judgeState c) := by
  unfold State.judgeState
  extract_lets old new u x y v
  refine .ite (judgeWarn_kept s) (.trans ?_ (judgeWarn_kept v))
  have hu : RxKept c s u := setCan_kept s
  have hx : RxKept c s x := (hu.trans (freeze_kept u)).trans (.of_can (State.count_can ..))
  have hy : RxKept c s y := hx.trans (setCan_kept x)
  unfold v
  clear_value y x u new
  cases new with
  | active | passive => exact hu.trans (.of_can (emit_can ..))
  | off | integrating | busOff => exact hy.trans (.of_can (emit_can ..))

/-- The counters and the mode of a controller at the end of a frame received without error. -/
def State.heardFrame (s : State) (c : CanId) : State := (s.goodRx c).frameEnd c

theorem heardFrame_kept (s : State) : RxKept c s (s.heardFrame c) := by
  refine .trans ?_ (setCan_kept (s.goodRx c))
  unfold State.goodRx
  refine .ite (.refl s) (.ite ?_ ?_)
  · exact (RxKept.trans (.of_can (State.draw_can s)) (setCan_kept s.draw)).trans (judgeState_kept _)
  · exact (setCan_kept s).trans (judgeState_kept _)

end

/-! ### Received CAN frames (R254, R264, R265) -/

/-- The parts that a received frame can change that is not for the runtime. -/
abbrev rxParts : List Part := [.sys, .log, .mon, .can, .hl]

theorem heardFrame_keep (s : State) (c : CanId) : Keep rxParts s (s.heardFrame c) :=
  frameEnd_keep _ c (goodRx_keep s c (.refl s) rfl) rfl

/-- A frame in a receive buffer (R265). -/
def rxBuf (flt : Nat) (x : CanFrame) (sof : Nat) : RxBuf :=
  { id := word (canIdWord x),
    ctl := word (put flt 24 7 + flagAt x.fdf 15 + flagAt x.brs 14 + flagAt x.esi 13 + put x.dlc 0 4), tsf := word sof,
    tss := word (sof / 2 ^ 32), d := if x.rtr then [] else x.data.take (dlcLen x.fdf x.dlc) }

/-- A controller with a frame written into buffer `b`. -/
def Can.stored (had : Bool) (b : Fin 64) (e : RxBuf) (y : Can) : Can :=
  { y with nd := y.nd ||| BitVec.ofNat 64 (2 ^ b.val), bufs := y.bufs.set b e,
           ovw := if had then y.ovw ||| BitVec.ofNat 64 (2 ^ b.val) else y.ovw }

theorem toBuffer_can (s : State) (c : CanId) (b : Fin 64) (flt : Nat) (x : CanFrame) (sof : Nat) :
    (s.toBuffer c b flt x sof).can = (s.setCan c (.stored (s.can[c].nd.getLsbD b.val) b (rxBuf flt x sof))).can := by
  unfold State.toBuffer
  extract_lets had one ctl u v
  have hv : v.can = u.can := State.count_can ..
  split
  · exact (canEmit_can ..).trans hv
  · exact hv

/-- A frame goes where the filter that it passed first, if any, sends it (R265). -/
def State.filed (s : State) (c : CanId) (x : CanFrame) (sof : Nat) (f : Option Nat) : State :=
  match f with
  | none => s.setCan c fun y => { y with eNo := satNat 255 (y.eNo + 1) }
  | some f => match bits (s.flt c f 2) 30 2 with
    | 1 => s.toBuffer c (Fin.ofNat 64 (bits (s.flt c f 2) 0 6)) f x sof
    | 2 => s.toRuntime c x
    | _ => s

theorem filed_in_buffer {s : State} {c : CanId} {f : Nat} (x : CanFrame) (sof : Nat) (h : bits (s.flt c f 2) 30 2 = 1) :
    s.filed c x sof (some f) = s.toBuffer c (Fin.ofNat 64 (bits (s.flt c f 2) 0 6)) f x sof := by
  simp only [State.filed, h]

theorem heardFrame_flt (s : State) (c : CanId) : (s.heardFrame c).flt = s.flt :=
  funext fun d => funext fun f => funext fun w => rw_of ((heardFrame_keep s c).only .rcp (by decide)) _ _ _ _

theorem heardFrame_fltMatches (s : State) (c : CanId) : (s.heardFrame c).fltMatches = s.fltMatches := by
  refine funext fun d => funext fun f => funext fun x => ?_
  rw [State.fltMatches, State.fltMatches, heardFrame_flt]

section
variable {s : State} {c : CanId} {x : CanFrame} (sof : Nat) (hl : s.canLive c = true)
include hl

/-- What a controller that is live does with a frame that it can receive. -/
theorem exec_canFrameRx (hfd : x.fdf = false ∨ s.canFden c = true) : exec (.canFrameRx c x sof) s =
    .next ((s.heardFrame c).filed c x sof ((List.range 128).find? fun f => s.fltMatches c f x)) := by
  have hfd' : (x.fdf && !s.canFden c) = false := by
    rcases hfd with h | h
    · rw [h, Bool.false_and]
    · rw [h, Bool.not_true, Bool.and_false]
  change execCanFrameRx c x sof s = _
  rw [← heardFrame_fltMatches]
  simp only [execCanFrameRx, hl, hfd', Bool.not_true, Bool.false_eq_true, if_false]
  rfl

theorem exec_canFrameRx_exception (hfd : x.fdf = true) (hn : s.canFden c = false) :
    exec (.canFrameRx c x sof) s = .next (s.setCan c fun y => { y.tally .pxe with st := .integrating }) := by
  have hpx : (x.fdf && !s.canFden c) = true := by rw [hfd, hn]; rfl
  refine congrArg Host.Outcome.next ((if_neg ?_).trans (if_pos hpx))
  rw [hl]
  decide

end

/-- Settles O43: a segment or a payload sets one reassembly, and a CAN frame goes where its filter sends it
(`State.filed`) after an end of frame that leaves what the controllers have received (`RxKept`). -/
theorem segmentsDataAndFramesAreReceived : Obligations.SegmentsDataAndFramesAreReceived := by
  refine ⟨fun a bs s hc ha hl => ?first, fun a bs p s hc ha ht h0 hl => ?second, fun d pl s hl => ?data,
    fun d dst a b pl c s hc => ?bad, fun c x sof f b s hl hfd hf h1 hb => ?stored, fun c x sof s hl hfd hf => ?unmatched,
    fun c x sof s hl hfd hn => ?exception⟩
  case first =>
    have he : exec (.can3Segment a (0x80 :: bs)) s = .next _ :=
      congrArg Host.Outcome.next ((if_pos hc).trans (rxSeg3_of_first bs ha hl))
    exact ⟨_, he, rfl, (setAsm_keep s a _ (.refl s) rfl : Keep [.hie] s _).toOnly⟩
  case second =>
    have he : exec (.can3Segment a (0x01 :: bs)) s = .next _ :=
      congrArg Host.Outcome.next ((if_pos hc).trans (rxSeg3_of_second bs ha ht h0 hl))
    exact ⟨_, he, rfl, (setAsm_keep s a _ (.refl s) rfl : Keep [.hie] s _).toOnly⟩
  case data =>
    have he := exec_data_here s d true false pl
    rw [takeData_begins s d hl] at he
    exact ⟨_, he, rfl, dataBegun_only s d pl⟩
  case bad =>
    have he : exec (.data d dst a b pl c) s = .next s.badFrame := congrArg Host.Outcome.next (if_pos hc)
    exact ⟨_, he, rfl, (badFrame_keep s (.refl s) rfl : Keep [.hie] s _).toOnly⟩
  case stored =>
    have hflt : (s.heardFrame c).flt c f 2 = s.flt c f 2 := congrFun (congrFun (congrFun (heardFrame_flt s c) c) f) 2
    have he := exec_canFrameRx sof hl hfd
    rw [hf, filed_in_buffer x sof (by rw [hflt, h1]), hflt, hb] at he
    obtain ⟨hrx, hother⟩ := heardFrame_kept (c := c) s
    have hnd : (s.heardFrame c).can[c].nd = s.can[c].nd := congrArg Received.nd hrx
    have hovw : (s.heardFrame c).can[c].ovw = s.can[c].ovw := congrArg Received.ovw hrx
    have hbufs : (s.heardFrame c).can[c].bufs = s.can[c].bufs := congrArg Received.bufs hrx
    have hcan := toBuffer_can (s.heardFrame c) c b f x sof
    refine ⟨_, he, ?_, ?_, ?_, fun d hd => ?_, (toBuffer_keep _ c b f x sof (heardFrame_keep s c) rfl).toOnly⟩
    all_goals rw [hcan]
    · rw [setCan_same, Can.stored, hnd]
    · rw [setCan_same, Can.stored, hnd, hovw]
    · rw [setCan_same, Can.stored, hbufs]
      rfl
    · rw [setCan_other _ _ hd, hother d hd]
  case unmatched =>
    have he := exec_canFrameRx sof hl hfd
    rw [hf] at he
    obtain ⟨hrx, hother⟩ := heardFrame_kept (c := c) s
    refine ⟨_, he, ?_, ?_, ?_, fun d hd => ?_, (setCan_keep _ c _ (heardFrame_keep s c) rfl).toOnly⟩
    all_goals rw [State.filed]
    · rw [setCan_same]
      exact congrArg (fun y : Received => satNat 255 (y.noFlt + 1)) hrx
    · rw [setCan_same]
      exact congrArg Received.nd hrx
    · rw [setCan_same]
      exact congrArg Received.bufs hrx
    · rw [setCan_other _ _ hd, hother d hd]
  case exception =>
    exact ⟨_, exec_canFrameRx_exception sof hl hfd hn, setCan_same s c _, fun d hd => setCan_other s _ hd,
      (setCan_keep s c _ (.refl s) rfl : Keep [.can] s _).toOnly⟩

end Sys2Proof.Machine
end

section
/-! SUPPORT. What the operations on one CAN controller make of it. -/

namespace Sys2Proof.Machine

open Sys2Proof

/-! ### One controller set -/

/-- From `s` to `t` controller `c` has become `x`, and the others are as they were. -/
structure CanIs (c : CanId) (x : Can) (s t : State) : Prop where
  same  : t.can[c] = x
  other : ∀ d, d ≠ c → t.can[d] = s.can[d]

/-- A controller at the end of the attempt of an entry that completes with `r` (R260, R262). -/
def Can.completed (e : TxEntry) (r : TxRes) (x : Can) : Can :=
  match e.owner with
  | none => x
  | some k => { x with stages := upd x.stages k fun g =>
      { g with doneh := e.handle, sent := if r = .sent then (g.sent + 1) % 65536 else g.sent,
               notSent := if r = .sent then g.notSent else (g.notSent + 1) % 65536 } }

section
variable {e : TxEntry} (r : TxRes) (x : Can)

theorem completed_of_runtime (h : e.owner = none) : x.completed e r = x := by
  unfold Can.completed
  rw [h]

theorem completed_of_session {k : SessId} (h : e.owner = some k) :
    x.completed e r = { x with stages := upd x.stages k fun g =>
      { g with doneh := e.handle, sent := if r = .sent then (g.sent + 1) % 65536 else g.sent,
               notSent := if r = .sent then g.notSent else (g.notSent + 1) % 65536 } } := by
  unfold Can.completed
  rw [h]

end

section
variable {c : CanId} {x : Can} {s t u : State}

theorem CanIs.refl (s : State) : CanIs c s.can[c] s s := ⟨rfl, fun _ _ => rfl⟩

theorem CanIs.setCan {f : Can → Can} {y : Can} (h : CanIs c x s t) (hy : f x = y := by rfl) : CanIs c y s (t.setCan c f) :=
  ⟨by rw [setCan_same, h.same, hy], fun d hd => (setCan_other t f hd).trans (h.other d hd)⟩

theorem CanIs.of_can (h : CanIs c x s t) (e : u.can = t.can) : CanIs c x s u :=
  ⟨by rw [e, h.same], fun d hd => by rw [e, h.other d hd]⟩

theorem CanIs.ite {p : Prop} [Decidable p] (h : CanIs c x s t) (h' : CanIs c x s u) : CanIs c x s (if p then t else u) := by
  split
  · exact h
  · exact h'

theorem CanIs.setTp (h : CanIs c x s t) (i : CtxId) (f : TpCtx → TpCtx) :
    CanIs c { x with tp := upd x.tp i f } s (t.setTp c i f) := h.setCan

theorem CanIs.setQueue (h : CanIs c x s t) (q : List TxEntry) : CanIs c { x with queue := q } s (t.setQueue c q) :=
  h.setCan

theorem CanIs.frameEnd (h : CanIs c x s t) : CanIs c { x with op := x.opReq } s (t.frameEnd c) := h.setCan

theorem CanIs.txDone (h : CanIs c x s t) (e : TxEntry) (r : TxRes) : CanIs c (x.completed e r) s (t.txDone c e r) := by
  unfold State.txDone
  extract_lets u v
  have hu : CanIs c x s u := .ite (h.of_can (State.count_can ..)) h
  have hv : CanIs c x s v := .ite (hu.of_can (canEmit_can ..)) hu
  split
  · next ho => rwa [completed_of_runtime r x ho]
  · next k ho => exact CanIs.of_can (hv.setCan (completed_of_session r x ho).symm) (notify_can ..)

/-- A frame of the runtime takes a place of the queue, or finds none. -/
theorem CanIs.rtSend (h : CanIs c x s t) (f : CanFrame) (rlim age : Nat) :
    ∃ q n, CanIs c { x with queue := q, nextH := n } s (t.rtSend c f rlim age).1 := by
  unfold State.rtSend
  split
  · exact ⟨_, _, h.setCan⟩
  · exact ⟨x.queue, x.nextH, h⟩

end

/-! ### The error state (R267 to R269) -/

/-- What a detected error leaves beside the error state. -/
structure ErrTally where
  tec     : Nat
  rec_    : Nat
  eAck    : Nat
  lastErr : Option CanErr

/-- The counters of a controller, its acknowledgement errors and the kind of its last error. -/
def Can.errTally (x : Can) : ErrTally := { tec := x.tec, rec_ := x.rec_, eAck := x.eAck, lastErr := x.lastErr }

section
variable {c : CanId} {x : Can} {s t : State}

/-- The warning judged afresh. -/
theorem CanIs.judgeWarn (h : CanIs c x s t) : ∃ w, CanIs c { x with warn := w } s (t.judgeWarn c) := by
  unfold State.judgeWarn
  extract_lets y reached u v body
  split
  · exact ⟨x.warn, h⟩
  · have hu : CanIs c { x with warn := reached } s u := h.setCan
    have hv : CanIs c { x with warn := reached } s v := .ite (hu.of_can (canEmit_can ..)) (hu.of_can (canEmit_can ..))
    refine ⟨reached, List.foldlRecOn (motive := CanIs c { x with warn := reached } s) (idx 4) _ hv fun w hw k _ => ?_⟩
    exact .ite (hw.of_can (notify_can ..)) hw

theorem completed_st (e : TxEntry) (r : TxRes) (x : Can) : (x.completed e r).st = x.st := by
  unfold Can.completed
  split <;> rfl

theorem completed_errTally (e : TxEntry) (r : TxRes) (x : Can) : (x.completed e r).errTally = x.errTally := by
  unfold Can.completed
  split <;> rfl

theorem CanIs.freeze (h : CanIs c x s t) : ∃ y, CanIs c y s (t.freeze c) ∧ y.st = x.st ∧ y.errTally = x.errTally := by
  unfold State.freeze
  split
  · next e q _ _ =>
    extract_lets u
    have hu : CanIs c { x with inTx := false } s u := h.setCan
    split
    · exact ⟨_, (hu.setQueue q).txDone e .aborted, completed_st .., completed_errTally ..⟩
    · exact ⟨_, hu.setQueue _, rfl, rfl⟩
  · exact ⟨x, h, rfl, rfl⟩

/-- The state of a controller that takes part in the bus becomes the one that its counters give. -/
theorem CanIs.judgeState (h : CanIs c x s t) (hx : x.st = .active ∨ x.st = .passive) :
    ∃ y, CanIs c y s (t.judgeState c) ∧ y.st = canStateOf x.tec x.rec_ ∧ y.errTally = x.errTally := by
  unfold State.judgeState
  rw [h.same]
  extract_lets old new u v w z
  have hlive : ¬ (old ≠ .active ∧ old ≠ .passive) := fun hn => hx.elim hn.1 hn.2
  split
  · next hkept =>
    obtain ⟨w, hw⟩ := h.judgeWarn
    exact ⟨_, hw, (hkept.resolve_left hlive).symm, rfl⟩
  · have hu : CanIs c { x with st := new } s u := h.setCan
    have hz : ∃ y, CanIs c y s z ∧ y.st = new ∧ y.errTally = x.errTally := by
      obtain ⟨y, hy, hst, herr⟩ := hu.freeze
      have hw : CanIs c _ s w := (hy.of_can (State.count_can ..)).setCan
      unfold z
      clear_value w v u new
      cases new with
      | active | passive => exact ⟨_, hu.of_can (emit_can ..), rfl, rfl⟩
      | off | integrating | busOff => exact ⟨_, hw.of_can (emit_can ..), hst, herr⟩
    obtain ⟨y, hy, hst, herr⟩ := hz
    obtain ⟨_, hw⟩ := hy.judgeWarn
    exact ⟨_, hw, hst, herr⟩

end

/-! ### Commands of sessions -/

section
variable {o : Out} {s : State} {k : SessId} {g : Status} {go : State → State × Status}
  (he : o = .next (s.gated k g go)) (hg : g = .ok)
include he hg

/-- A command that passes its gate and sets one controller, and is answered with OK. -/
theorem gated_can {fr : List Part} {u : State} {c : CanId} {x : Can} (hr : go s = (u, .ok)) (hk : Keep fr s u)
    (hp : Part.sys ∈ fr) (hx : CanIs c x s u) :
    ∃ t, o = .next t ∧ CanIs c x s t ∧ t.sys.answers = ⟨s.me k, .ok⟩ :: u.sys.answers ∧ State.Only fr s t := by
  obtain ⟨ht, hf⟩ := gated_acts hg hr hk hp
  exact ⟨_, he.trans (congrArg _ ht), hx.of_can rfl, rfl, hf⟩

/-- A command that passes its gate and finds nothing to do is answered, and that is all. -/
theorem gated_answers {st : Status} (hr : go s = (s, st)) (hst : st ≠ .interlock) :
    ∃ t, o = .next t ∧ t.sys.answers = ⟨s.me k, st⟩ :: s.sys.answers ∧ State.Only [.sys] s t :=
  ⟨_, he.trans (congrArg _ (gated_refuses hg hr hst)), rfl, only_sys s _⟩

end

end Sys2Proof.Machine
end

section
/-! SUPPORT. What the commands on a transmit queue and the attempts of its head do. -/

namespace Sys2Proof.Machine

open Sys2Proof

/-! ### Enqueue (R257, R258) -/

/-- A controller with an entry at the end of its queue, whose handle session `k` reads in LASTH. -/
def Can.enqueued (k : SessId) (e : TxEntry) (x : Can) : Can :=
  { x with queue := x.queue ++ [e], nextH := nextHandle x.nextH,
           stages := upd x.stages k fun g => { g with lasth := x.nextH } }

section
variable {s : State} {c : CanId} {k : SessId}

theorem enqNow_is (s : State) (c : CanId) (k : SessId) :
    CanIs c (s.can[c].enqueued k (s.stagedEntry c k)) s (s.enqNow c k) := CanIs.setCan (CanIs.refl s).setCan

theorem enqueued_lasth (e : TxEntry) (x : Can) : (x.enqueued k e).stages[k].lasth = x.nextH :=
  congrArg Stage.lasth (upd_same _ _ _)

theorem cmdEnqueue_of_room (hc : s.enqChecks c k = .ok) (hf : s.hostFill c < 28) :
    s.cmdEnqueue c k = (s.enqNow c k, .ok) := by
  simp only [State.cmdEnqueue, hc, hf, if_true]

/-! ### Abort (R261) -/

/-- A session without entries has none aborted. -/
theorem abortAll_of_none (h : (s.can[c].queue.filter fun e => e.owner == some k) = []) : s.abortAll c k = s := by
  unfold State.abortAll
  rw [h, List.foldl_nil]

/-- The entries that ABORT_ENQ frees are none, so it is an ENQUEUE. -/
theorem cmdAbortEnq_of_none (h : (s.can[c].queue.filter fun e => e.owner == some k) = []) :
    s.cmdAbortEnq c k = s.cmdEnqueue c k := by
  unfold State.cmdAbortEnq State.cmdEnqueue
  rw [abortAll_of_none h, h]
  rfl

theorem cmdAbort_of_own {h : Nat} {e : TxEntry}
    (he : s.can[c].queue.find? (fun e => e.handle == h && e.owner == some k) = some e) :
    s.cmdAbort c h k = (s.abortEntry c e, .ok) := by
  simp only [State.cmdAbort, he]

theorem cmdAbort_of_none {h : Nat}
    (he : s.can[c].queue.find? (fun e => e.handle == h && e.owner == some k) = none) :
    s.cmdAbort c h k = (s, .badAddr) := by
  simp only [State.cmdAbort, he]

/-- The entry that an ABORT names is one of the session's own. -/
theorem owner_of_find {h : Nat} {e : TxEntry} {q : List TxEntry}
    (he : q.find? (fun e => e.handle == h && e.owner == some k) = some e) : e.owner = some k := by
  have hmatch := List.find?_some he
  simp only [Bool.and_eq_true, beq_iff_eq] at hmatch
  exact hmatch.2

/-- An entry that is not in an attempt leaves the queue at once. -/
theorem abortEntry_is {e : TxEntry} (h : s.inAttempt c e = false) :
    CanIs c ({ s.can[c] with queue := s.can[c].queue.filter fun y => y.handle != e.handle }.completed e .aborted)
      s (s.abortEntry c e) := by
  unfold State.abortEntry
  rw [if_neg (Bool.eq_false_iff.mp h)]
  exact ((CanIs.refl s).setQueue _).txDone e .aborted

end

/-! ### Attempts (R259, R260) -/

section
variable {s : State} {c : CanId} {e : TxEntry} {q : List TxEntry}

/-- An entry with one more attempt, which starts at `t`. -/
def TxEntry.tried (t : Nat) (e : TxEntry) : TxEntry := { e with tries := e.tries + 1, sof := some t }

theorem clearHead_of_ready (h : s.headEnds c e = none) : s.clearHead c (e :: q) = s.setQueue c (e :: q) := by
  simp only [State.clearHead, h]

/-- An attempt of a head that stays, on a controller without ISO 11783. -/
theorem exec_txAttempt (hm : s.maySend c = true) (hq : s.can[c].queue = e :: q) (hh : s.headEnds c e = none)
    (hi : s.canIso c = false) : exec (.txAttempt c) s =
      .next ((s.setQueue c (e :: q)).setCan c fun x => { x with inTx := true, queue := e.tried s.now :: q }) := by
  have hq' : (s.setQueue c (e :: q)).can[c].queue = e :: q := congrArg Can.queue (setCan_same s c _)
  have hi' : (s.setQueue c (e :: q)).canIso c = false := hi
  change execTxAttempt c s = _
  simp only [execTxAttempt, if_pos hm, hq, clearHead_of_ready hh, hq', hi', Bool.false_and, Bool.false_eq_true, if_false]
  rfl

/-- A lost attempt of a head without an attempt limit, which no ABORT waits for. -/
theorem exec_txAttemptEnd_lost (ht : s.can[c].inTx = true) (hq : s.can[c].queue = e :: q) (hl : e.rlim = 31)
    (ha : e.abort = false) : exec (.txAttemptEnd c .lost none) s =
      .next ((s.setCan c fun x => { x with inTx := false }).frameEnd c) := by
  have hr : ¬ (e.rlim ≠ 31 ∧ e.rlim < e.tries) := fun h => h.1 hl
  change execTxAttemptEnd c .lost none s = _
  simp only [execTxAttemptEnd, ht, hq, ha, if_neg hr, Bool.false_eq_true, if_false]
  rfl

end

/-- Settles O21: ENQUEUE is `Can.enqueued`, ABORT of a waiting entry is `Can.completed` on the queue without it, and an
attempt sets the head of the queue alone. -/
theorem canQueueCommands : Obligations.CanQueueCommands := by
  refine ⟨fun c k s hg hc hf => ?enqueue, fun c h k s e hg he hw => ?abort, fun c k s hg he => ?badAddr,
    fun c k s hg hn => ?abortAll, fun c k s hg hc hf hn => ?abortEnq, fun c s e q hm hq hh hi => ?attempt,
    fun c s e q ht hq hl ha => ?lost⟩
  case enqueue =>
    have he : exec (.enqueue c k) s = .next (s.gated k (s.gate k rightCANTX) fun s => s.cmdEnqueue c k) := rfl
    obtain ⟨t, he, hx, ha, ho⟩ := gated_can he hg (cmdEnqueue_of_room hc hf)
      (enqNow_keep s c k (.refl s) rfl : Keep [.sys, .can] s _) (by decide) (enqNow_is s c k)
    refine ⟨t, he, ?_, ?_, ?_, ha, hx.other, ho⟩
    all_goals rw [hx.same]
    · rfl
    · rfl
    · exact enqueued_lasth _ _
  case abort =>
    have he' : exec (.abort c h k) s = .next (s.gated k (s.gate k rightCANTX) fun s => s.cmdAbort c h k) := rfl
    obtain ⟨t, he', hx, -, ho⟩ := gated_can he' hg (cmdAbort_of_own he)
      (abortEntry_keep s c e (.refl s) rfl : Keep [.sys, .log, .mon, .can, .hl] s _) (by decide) (abortEntry_is hw)
    rw [completed_of_session _ _ (owner_of_find he)] at hx
    refine ⟨t, he', ?_, ?_, ?_, ho⟩
    all_goals rw [hx.same]
    · exact congrArg Stage.doneh (upd_same _ _ _)
    · exact congrArg Stage.notSent (upd_same _ _ _)
  case badAddr =>
    have he' : exec (.abort c 0 k) s = .next (s.gated k (s.gate k rightCANTX) fun s => s.cmdAbort c 0 k) := rfl
    exact gated_answers he' hg (cmdAbort_of_none he) (by decide)
  case abortAll =>
    have he : exec (.abortAll c k) s = .next (s.gated k (s.gate k rightCANTX) fun s => (s.abortAll c k, .ok)) := rfl
    exact gated_answers he hg (congrArg (·, Status.ok) (abortAll_of_none hn)) (by decide)
  case abortEnq =>
    have he : exec (.abortEnq c k) s = .next (s.gated k (s.gate k rightCANTX) fun s => s.cmdAbortEnq c k) := rfl
    obtain ⟨t, he, hx, -, ho⟩ := gated_can he hg ((cmdAbortEnq_of_none hn).trans (cmdEnqueue_of_room hc hf))
      (enqNow_keep s c k (.refl s) rfl : Keep [.sys, .can] s _) (by decide) (enqNow_is s c k)
    refine ⟨t, he, ?_, ?_, hx.other, ho⟩
    all_goals rw [hx.same]
    · rfl
    · exact enqueued_lasth _ _
  case attempt =>
    have hq0 := (CanIs.refl s).setQueue (c := c) (e :: q)
    have hk : Keep [.can] s (s.setQueue c (e :: q)) := setQueue_keep s c _ (.refl s) rfl
    have hx := hq0.setCan (f := fun x => { x with inTx := true, queue := e.tried s.now :: q })
    refine ⟨_, exec_txAttempt hm hq hh hi, ?_, ?_, hx.other, (setCan_keep _ c _ hk rfl).toOnly⟩
    all_goals rw [hx.same]
    · rfl
  case lost =>
    have hend : CanIs c { s.can[c] with inTx := false } s (s.setCan c fun x => { x with inTx := false }) :=
      (CanIs.refl s).setCan
    have hk : Keep [.can] s (s.setCan c fun x => { x with inTx := false }) := setCan_keep s c _ (.refl s) rfl
    refine ⟨_, exec_txAttemptEnd_lost ht hq hl ha, ?_, ?_, hend.frameEnd.other, (frameEnd_keep _ c hk rfl).toOnly⟩
    all_goals rw [hend.frameEnd.same]
    · exact hq

end Sys2Proof.Machine
end

section
/-! SUPPORT. What the error state, the counters and the registers of a CAN controller do. -/

namespace Sys2Proof.Machine

open Sys2Proof

/-! ### Detected errors (R254, R263, R267) -/

/-- A controller with what ISO 11898-1 adds to its counters. -/
def Can.raised (r : CanRise) (x : Can) : Can :=
  match r with
  | .none => x
  | .tec8 => { x with tec := x.tec + 8 }
  | .rec1 => { x with rec_ := x.rec_ + 1 }
  | .rec8 => { x with rec_ := x.rec_ + 8 }

section
variable (e : CanErr) (r : CanRise) (x : Can)

theorem tally_st : (x.tally e).st = x.st := by cases e <;> rfl

theorem tally_op : (x.tally e).op = x.op := by cases e <;> rfl

theorem tally_errTally (h : e ≠ .pxe) : (x.tally e).errTally =
    { x.errTally with lastErr := some e, eAck := if e = .ack then satNat 255 (x.eAck + 1) else x.eAck } := by
  cases e with
  | pxe => exact absurd rfl h
  | bit | stuff | form | ack | crc => rfl

theorem raised_st : (x.raised r).st = x.st := by cases r <;> rfl

theorem raised_errTally : (x.raised r).errTally =
    { x.errTally with tec := x.tec + (if r = .tec8 then 8 else 0),
                      rec_ := x.rec_ + (if r = .rec1 then 1 else if r = .rec8 then 8 else 0) } := by
  cases r <;> rfl

/-- What an error leaves in the counters. -/
theorem raised_tally_errTally (h : e ≠ .pxe) : ((x.tally e).raised r).errTally =
    { tec := x.tec + (if r = .tec8 then 8 else 0), rec_ := x.rec_ + (if r = .rec1 then 1 else if r = .rec8 then 8 else 0),
      eAck := if e = .ack then satNat 255 (x.eAck + 1) else x.eAck, lastErr := some e } := by
  have ht := tally_errTally e x h
  have htec : (x.tally e).tec = x.tec := congrArg ErrTally.tec ht
  have hrec : (x.tally e).rec_ = x.rec_ := congrArg ErrTally.rec_ ht
  rw [raised_errTally, ht, htec, hrec]

end

section
variable {c : CanId} {s : State} {e : CanErr} (r : CanRise)

/-- An error counted, and the counters raised by it. -/
def State.erred (s : State) (c : CanId) (e : CanErr) (r : CanRise) : State :=
  ((s.setCan c (·.tally e)).count (0x18 + c.val) 1).setCan c (.raised r)

theorem erred_is (s : State) (c : CanId) (e : CanErr) (r : CanRise) :
    CanIs c ((s.can[c].tally e).raised r) s (s.erred c e r) := by
  have ht : CanIs c (s.can[c].tally e) s (s.setCan c (·.tally e)) := (CanIs.refl s).setCan
  exact (ht.of_can (State.count_can ..)).setCan

/-- The state judged, and at the end of a frame that is not an attempt the mode asked for. -/
def State.judgedFrame (s : State) (c : CanId) : State :=
  if (s.judgeState c).can[c].inTx then s.judgeState c else (s.judgeState c).frameEnd c

theorem CanIs.judgedFrame {x : Can} {s t : State} (h : CanIs c x s t) (hx : x.st = .active ∨ x.st = .passive) :
    ∃ y, CanIs c y s (t.judgedFrame c) ∧ y.st = canStateOf x.tec x.rec_ ∧ y.errTally = x.errTally := by
  obtain ⟨y, hy, hst, herr⟩ := h.judgeState hx
  unfold State.judgedFrame
  split
  · exact ⟨y, hy, hst, herr⟩
  · exact ⟨_, hy.frameEnd, hst, herr⟩

theorem exec_canError (hs : s.can[c].st = .active ∨ s.can[c].st = .passive) (he : e ≠ .pxe) (ho : s.can[c].op = false) :
    exec (.canError c e r) s = .next ((s.erred c e r).judgedFrame c) := by
  have hop : ((s.setCan c (·.tally e)).count (0x18 + c.val) 1).can[c].op = false := by
    rw [State.count_can, setCan_same, tally_op, ho]
  change execCanError c e r s = _
  simp only [execCanError, if_pos hs, if_neg he, hop, Bool.false_eq_true, if_false]
  rfl

end

/-! ### Recovery, counts and mode (R263, R269, R418) -/

section
variable {s : State} {c : CanId}

theorem cmdRecover_of_busOff (hb : s.can[c].st = .busOff) (hp : s.can[c].recPend = false) :
    s.cmdRecover c = (s.setCan c fun x => { x with recPend := true, byHost := true }, .ok) := by
  simp only [State.cmdRecover, hb, hp, ne_eq, not_true_eq_false, Bool.false_eq_true, if_false]

theorem cmdOpmode_of_idle {m : Nat} (hm : m ≤ 1) (hh : s.inHier = false) (ht : s.can[c].inTx = false) :
    s.cmdOpmode c m false = ((s.setCan c fun x => { x with opReq := decide (m = 1) }).frameEnd c, .ok) := by
  have hin : (s.setCan c fun x => { x with opReq := decide (m = 1) }).can[c].inTx = false := by rw [setCan_same, ht]
  simp only [State.cmdOpmode, if_neg (Nat.not_lt.mpr hm), hh, hin, Bool.false_eq_true, and_false, Bool.or_self, if_false]

/-- A controller that has recovered from bus-off. -/
def Can.recovered (x : Can) : Can := { x with st := .active, tec := 0, rec_ := 0, recPend := false }

theorem exec_canBusOffRecovered (hb : s.can[c].st = .busOff) (hp : s.can[c].recPend = true) :
    ∃ e, exec (.canBusOffRecovered c) s = .next (((s.setCan c .recovered).emit e).judgeWarn c) :=
  ⟨_, congrArg Host.Outcome.next (if_pos ⟨hb, hp⟩)⟩

/-! ### Thresholds (R268) -/

/-- A controller with the warning thresholds that `v` names. -/
def Can.withEwl (v : Word) (x : Can) : Can := { x with ewlt := bits v 0 8, ewlr := bits v 8 8 }

theorem writeEwl_of_nonzero {v : Word} (ht : bits v 0 8 ≠ 0) (hr : bits v 8 8 ≠ 0) :
    s.writeEwl c v = ((s.setCan c (.withEwl v)).judgeWarn c, .ok) :=
  if_neg (not_or.mpr ⟨ht, hr⟩)

end

/-- Settles O22: a detected error is counted and judged (`CanIs.judgedFrame`), recovery and the thresholds end in a warning
judged afresh, which changes nothing else of a controller, and the other commands set the fields named. -/
theorem canErrorStateCommands : Obligations.CanErrorStateCommands := by
  refine ⟨fun c s hi => ?integrated, fun c e r s hs he ho => ?error, fun c s hb hp => ?recovered,
    fun c k s hg hb hp => ?recover, fun c k s hg => ?clrcnt, fun c m k s hg hm hh ht => ?opmode,
    fun v k s hg ht hr => ?thresholds, fun c v k s hc => ?noRegister⟩
  case integrated =>
    have he : exec (.canIntegrated c) s = .next (s.setCan c fun x => { x with st := canStateOf x.tec x.rec_ }) :=
      congrArg Host.Outcome.next (if_pos hi)
    exact ⟨_, he, setCan_same s c _, fun d hd => setCan_other s _ hd,
      (setCan_keep s c _ (.refl s) rfl : Keep [.can] s _).toOnly⟩
  case error =>
    have hx := erred_is s c e r
    have hst : ((s.can[c].tally e).raised r).st = s.can[c].st := (raised_st _ _).trans (tally_st _ _)
    obtain ⟨y, hy, hyst, hyx⟩ := hx.judgedFrame (by rwa [hst])
    have hnext := exec_canError r hs he ho
    have herr := hyx.trans (raised_tally_errTally e r s.can[c] he)
    refine ⟨_, hnext, ?_, ?_, ?_, ?_, ?_, hy.other, next_only (execCanError_keep c e r s (.refl s) rfl) hnext⟩
    all_goals rw [hy.same]
    · exact congrArg ErrTally.lastErr herr
    · exact congrArg ErrTally.tec herr
    · exact congrArg ErrTally.rec_ herr
    · exact hyst.trans (congrArg (fun z : ErrTally => canStateOf z.tec z.rec_) hyx).symm
    · exact congrArg ErrTally.eAck herr
  case recovered =>
    obtain ⟨ev, he⟩ := exec_canBusOffRecovered hb hp
    have hr : CanIs c s.can[c].recovered s (s.setCan c .recovered) := (CanIs.refl s).setCan
    obtain ⟨w, hw⟩ := CanIs.judgeWarn (hr.of_can (emit_can _ ev))
    refine ⟨_, he, ?_, ?_, ?_, ?_, ?_, hw.other, next_only (execCanBusOffRecovered_keep c s (.refl s) rfl) he⟩
    all_goals
      rw [hw.same]
      rfl
  case recover =>
    have he : exec (.recover c k) s = .next (s.gated k (s.gate k rightCOMMAND) fun s => s.cmdRecover c) := rfl
    obtain ⟨t, he, hx, ha, ho⟩ := gated_can he hg (cmdRecover_of_busOff hb hp)
      (setCan_keep s c _ (.refl s) rfl : Keep [.sys, .can] s _) (by decide) (CanIs.refl s).setCan
    exact ⟨t, he, hx.same, ha, hx.other, ho⟩
  case clrcnt =>
    have he : exec (.clrcnt c k) s = .next (s.gated k (s.gate k rightCOMMAND) fun s => (s.cmdClrcnt c, .ok)) := rfl
    obtain ⟨t, he, hx, ha, ho⟩ := gated_can he hg rfl
      (cmdClrcnt_keep s c (.refl s) rfl : Keep [.sys, .can] s _) (by decide) (CanIs.refl s).setCan
    exact ⟨t, he, hx.same, ha, hx.other, ho⟩
  case opmode =>
    have he : exec (.opmodeWrite c m false k) s =
      .next (s.gated k (s.gate k rightCOMMAND) fun s => s.cmdOpmode c m false) := rfl
    have hk : Keep [.sys, .can] s (s.setCan c fun x => { x with opReq := decide (m = 1) }) := setCan_keep s c _ (.refl s) rfl
    obtain ⟨t, he, hx, ha, ho⟩ := gated_can he hg (cmdOpmode_of_idle hm hh ht)
      (frameEnd_keep _ c hk rfl) (by decide) (CanIs.refl s).setCan.frameEnd
    exact ⟨t, he, hx.same, ha, hx.other, ho⟩
  case thresholds =>
    have he : exec (.canEwlWrite 3 v k) s = .next (s.gated k (s.gateRws k rightSERVICE) fun s => s.writeEwl 3 v) := rfl
    have hset : CanIs 3 (s.can[(3 : CanId)].withEwl v) s (s.setCan 3 (.withEwl v)) := (CanIs.refl s).setCan
    have hk : Keep [.sys, .log, .mon, .can, .hl] s (s.setCan 3 (.withEwl v)) := setCan_keep s 3 _ (.refl s) rfl
    obtain ⟨w, hw⟩ := hset.judgeWarn
    obtain ⟨t, he, hx, -, ho⟩ := gated_can he hg (writeEwl_of_nonzero ht hr) (judgeWarn_keep _ 3 hk rfl) (by decide) hw
    refine ⟨t, he, ?_, ?_, ?_, hx.other, ho⟩
    all_goals
      rw [hx.same]
      rfl
  case noRegister =>
    have he : exec (.canEwlWrite c v k) s = .next (s.answer (s.me k) .badAddr) := congrArg Host.Outcome.next (if_neg hc)
    rw [answer_me s k .badAddr (by decide)] at he
    exact ⟨_, he, rfl, only_sys s _⟩

end Sys2Proof.Machine
end

section
/-! SUPPORT. What the address claim and the transport contexts of an ISO 11783 controller do. -/

namespace Sys2Proof.Machine

open Sys2Proof

/-! ### The address claim (R272) -/

/-- A controller that claims address `a`. -/
def Can.claiming (a : Nat) (x : Can) : Can := { x with claim := some a }

section
variable {s : State} {c : CanId} (hi : s.canIso c = true) (hl : s.canLive c = true)
include hi hl

theorem not_isoIdle : ¬ (!s.canIso c || !s.canLive c) = true := by
  rw [hi, hl]
  decide

theorem exec_claim (ha : s.can[c].addr = none) (hc : s.can[c].claim = none) (hn : s.can[c].cannot = false) :
    exec (.isoAddrClaim c .claim) s =
      .next ((s.setCan c (.claiming (bits (s.canWord c 4) 24 8))).sendClaim c (bits (s.canWord c 4) 24 8)) := by
  have hfree : ¬ (s.can[c].ownAddr.isSome || s.can[c].cannot) = true := by
    simp only [Can.ownAddr, ha, hc, hn, Option.isSome_none, Bool.or_self, Bool.false_eq_true, not_false_eq_true]
  exact congrArg Host.Outcome.next ((if_neg (not_isoIdle hi hl)).trans (if_neg hfree))

theorem exec_claimed {a : Nat} (hc : s.can[c].claim = some a) : exec (.isoAddrClaim c .claimed) s =
    .next ((s.setCan c fun x => { x with addr := some a, claim := none }).canEmit c 0x0B09 a 0) := by
  change execIsoAddrClaim c .claimed s = _
  simp only [execIsoAddrClaim, if_neg (not_isoIdle hi hl), hc]

theorem exec_contend_of_other {a : Nat} (name : Nat) (ha : s.can[c].ownAddr ≠ some a) :
    exec (.isoAddrClaim c (.contend a name)) s =
      .next (s.setCan c fun x => { x with others := a :: x.others.filter fun b => b != a }) :=
  congrArg Host.Outcome.next ((if_neg (not_isoIdle hi hl)).trans (if_neg ha))

/-! ### Broadcast messages (R273) -/

/-- The context of a BAM as it opens, before the packets to come are counted. -/
def bamOpened (src pgn len : Nat) : TpCtx :=
  { busy := true, kind := .bam, src := src, dst := 255, pgn := pgn, len := len, most := 255 }

/-- A BAM while no reassembly runs takes the context that may take it. -/
theorem exec_bam {pgn len : Nat} (src : Nat) {i : CtxId} (hb : ∀ j : CtxId, s.can[c].tp[j].busy = false)
    (hf : s.freeCtx c .bam len = some i) : exec (.isoTpPacket c src 255 (.bam pgn len)) s =
      .next ((s.setTp c i fun _ => bamOpened src pgn len).setTp c i fun t => { t with upto := t.packets }) := by
  have hnone : ((idx 8).find? fun j => s.can[c].tp[j].busy && s.can[c].tp[j].src == src && s.can[c].tp[j].pgn == pgn &&
      s.can[c].tp[j].kind == .bam) = none := by
    simp only [List.find?_eq_none, hb, Bool.false_and, Bool.false_eq_true, not_false_eq_true, implies_true]
  change execIsoTpPacket c src 255 (.bam pgn len) s = _
  simp only [execIsoTpPacket, if_neg (not_isoIdle hi hl), if_true, State.tpOpen, hnone, hf]
  rfl

end

section
variable {s : State} {c : CanId} {i : CtxId}

/-- A BAM that times out is not answered with an Abort. -/
theorem exec_isoTpTimeout_bam (hb : s.can[c].tp[i].busy = true) (hk : s.can[c].tp[i].kind = .bam) :
    exec (.isoTpTimeout c i) s = .next (s.setTp c i fun _ => {}) := by
  change execIsoTpTimeout c i s = _
  simp only [execIsoTpTimeout, hb, hk, Bool.not_true, Bool.false_eq_true, if_false, if_true]

/-! ### Release (R273) -/

/-- A context released if it is completed and its bit is written as 1. -/
def TpCtx.released (v : Word) (i : CtxId) (t : TpCtx) : TpCtx := if bit v i.val && t.done then {} else t

/-- Context `i` of a controller released by a value of MSGREL. -/
def State.msgrelCtx (c : CanId) (v : Word) (s : State) (i : CtxId) : State :=
  if bit v i.val && s.can[c].tp[i].done then s.setTp c i fun _ => {} else s

section
variable {x : Can} {t : State} (v : Word)

theorem CanIs.msgrelCtx (h : CanIs c x s t) (i : CtxId) :
    CanIs c { x with tp := upd x.tp i (.released v i) } s (t.msgrelCtx c v i) := by
  unfold State.msgrelCtx
  rw [h.same]
  split
  · next hd =>
    have hr : x.tp[i].released v i = {} := if_pos hd
    rw [upd, hr]
    exact h.setTp i fun _ => {}
  · next hd =>
    have hr : x.tp[i].released v i = x.tp[i] := if_neg hd
    rw [upd, hr]
    simpa using h

theorem CanIs.foldl_msgrelCtx (h : CanIs c x s t) (l : List CtxId) :
    CanIs c { x with tp := l.foldl (fun tp i => upd tp i (.released v i)) x.tp } s (l.foldl (State.msgrelCtx c v) t) := by
  induction l generalizing x t with
  | nil => exact h
  | cons i l ih => exact ih (h.msgrelCtx v i)

end

theorem writeMsgrel_is (s : State) (c : CanId) (v : Word) :
    CanIs c { s.can[c] with tp := (idx 8).foldl (fun tp i => upd tp i (.released v i)) s.can[c].tp } s
      (s.writeMsgrel c v) := (CanIs.refl s).foldl_msgrelCtx v (idx 8)

end

/-- Settles O23: a claim, a contending address and a BAM set one controller (`CanIs`), and MSGREL is `TpCtx.released` in each
context. -/
theorem isoAddressAndTransport : Obligations.IsoAddressAndTransport := by
  refine ⟨fun c s hi hl ha hc hn => ?claim, fun c a s hi hl hc => ?claimed, fun c a name s hi hl ha => ?contend,
    fun c src pgn len i s hi hl hb hf => ?bam, fun c i s hb hk => ?timeout, fun c v k s hg => ?msgrel⟩
  case claim =>
    have hset : CanIs c (s.can[c].claiming (bits (s.canWord c 4) 24 8)) s
      (s.setCan c (.claiming (bits (s.canWord c 4) 24 8))) := (CanIs.refl s).setCan
    obtain ⟨q, n, hx⟩ := hset.rtSend _ _ _
    have hk : Keep [.can] s (s.setCan c (.claiming (bits (s.canWord c 4) 24 8))) := setCan_keep s c _ (.refl s) rfl
    refine ⟨_, exec_claim hi hl ha hc hn, ?_, ?_, hx.other, (sendClaim_keep _ c _ hk rfl).toOnly⟩
    · exact congrArg Can.claim hx.same
    · exact (congrArg Can.addr hx.same).trans ha
  case claimed =>
    have hset : CanIs c { s.can[c] with addr := some a, claim := none } s
      (s.setCan c fun x => { x with addr := some a, claim := none }) := (CanIs.refl s).setCan
    have hx := hset.of_can (canEmit_can _ c 0x0B09 a 0)
    have hk : Keep [.sys, .log, .mon, .can] s (s.setCan c fun x => { x with addr := some a, claim := none }) :=
      setCan_keep s c _ (.refl s) rfl
    exact ⟨_, exec_claimed hi hl hc, hx.same, hx.other, (canEmit_keep _ c _ _ _ hk rfl).toOnly⟩
  case contend =>
    exact ⟨_, exec_contend_of_other hi hl name ha, setCan_same s c _, fun d hd => setCan_other s _ hd,
      (setCan_keep s c _ (.refl s) rfl : Keep [.can] s _).toOnly⟩
  case bam =>
    have hopen := (CanIs.refl s).setTp (c := c) i fun _ => bamOpened src pgn len
    have hset := hopen.setTp i fun t => { t with upto := t.packets }
    have hk : Keep [.can] s (s.setTp c i fun _ => bamOpened src pgn len) := setTp_keep s c i _ (.refl s) rfl
    refine ⟨_, exec_bam hi hl src hb hf, ?_, fun j hj => ?_, hset.other, (setTp_keep _ c i _ hk rfl).toOnly⟩
    all_goals rw [hset.same]
    · rw [upd_same, upd_same]
      rfl
    · rw [upd_other _ _ _ _ hj.symm, upd_other _ _ _ _ hj.symm]
  case timeout =>
    have hset := (CanIs.refl s).setTp (c := c) i fun _ => {}
    refine ⟨_, exec_isoTpTimeout_bam hb hk, ?_, fun j hj => ?_, hset.other,
      (setTp_keep s c i _ (.refl s) rfl : Keep [.can] s _).toOnly⟩
    all_goals rw [hset.same]
    · rw [upd_same]
    · rw [upd_other _ _ _ _ hj.symm]
  case msgrel =>
    have he : exec (.canMsgrel c v k) s = .next (s.gated k (s.gate k rightPARAM) fun s => (s.writeMsgrel c v, .ok)) := rfl
    have hk : Keep [.can] s (s.writeMsgrel c v) := writeMsgrel_keep s c v (.refl s) rfl
    have hsys : (s.writeMsgrel c v).sys = s.sys := hk.only .sys (by decide)
    obtain ⟨t, he, hx, ha, ho⟩ := gated_can he hg rfl
      (writeMsgrel_keep s c v (.refl s) rfl : Keep [.sys, .can] s _) (by decide) (writeMsgrel_is s c v)
    refine ⟨t, he, fun i => ?_, by rw [ha, hsys], ho⟩
    rw [hx.same]
    refine (foldl_upd_idx (TpCtx.released v) s.can[c].tp i).trans ?_
    simp only [TpCtx.released, Bool.and_eq_true]

end Sys2Proof.Machine
end

section
/-! SUPPORT. The Recipe unit's slots, its gate, and the commands WRITE and DISCARD. -/

namespace Sys2Proof.Machine

open Sys2Proof

/-! ### The two slots (R289) -/

theorem otherSlot_ne (x : RcpSlot) : x.other ≠ x := by cases x <;> decide

/-- The two slots stand in two places. -/
theorem slotPlace_inj {x y : RcpSlot} (h : (Fin.ofNat 2 x.code : Fin 2) = Fin.ofNat 2 y.code) : x = y := by
  revert h
  cases x <;> cases y <;> decide

theorem slotOf_setSlotOf_same (s : State) (x : RcpSlot) (f : SlotState → SlotState) :
    (s.setSlotOf x f).slotOf x = f (s.slotOf x) := upd_same _ _ _

theorem slotOf_setSlotOf_other (s : State) {x y : RcpSlot} (f : SlotState → SlotState) (h : y ≠ x) :
    (s.setSlotOf x f).slotOf y = s.slotOf y := upd_other _ _ _ _ fun he => h (slotPlace_inj he).symm

/-- What stands in a slot is read from the slots alone. -/
theorem slotOf_congr {s t : State} (h : t.rcp.slots = s.rcp.slots) (x : RcpSlot) : t.slotOf x = s.slotOf x :=
  congrArg (·[(Fin.ofNat 2 x.code : Fin 2)]) h

/-! ### The gate of RCP_CMD (R291, R436) -/

section
variable {s u : State} {k : SessId} {warned : Bool} {go : State → State × Option Status}

/-- A command of RCP_CMD that passes its gate and completes at once changes what it changes, and is given its status. -/
theorem rcpGated_answers {st : Status} (hg : s.rcpGate k warned = .ok) (hgo : go s = (u, some st))
    (hst : st ≠ .interlock) :
    s.rcpGated k warned go = { u with sys := { u.sys with answers := ⟨u.me k, st⟩ :: u.sys.answers } } := by
  simp only [State.rcpGated, hg, hgo]
  exact answer_me u k st hst

/-- A command of RCP_CMD that passes its gate and begins an operation is not answered yet. -/
theorem rcpGated_begins (hg : s.rcpGate k warned = .ok) (hgo : go s = (u, none)) : s.rcpGated k warned go = u := by
  simp only [State.rcpGated, hg, hgo]

/-- A command of RCP_CMD that passes its gate and finds nothing to do is given its status, and nothing else changes. -/
theorem rcpGated_refuses {c : Instr} {st : Status} (he : exec c s = .next (s.rcpGated k warned go))
    (hg : s.rcpGate k warned = .ok) (hgo : go s = (s, some st)) (hst : st ≠ .interlock) :
    ∃ t, exec c s = .next t ∧ t.sys = { s.sys with answers := ⟨s.me k, st⟩ :: s.sys.answers } ∧ State.Only [.sys] s t :=
  ⟨_, he.trans (congrArg Host.Outcome.next (rcpGated_answers hg hgo hst)), rfl, only_sys s _⟩

/-- With other system registers a state differs from the one before in what differed, and in them. -/
theorem Keep.only_sys {fr : List Part} (h : Keep fr s u) (x : SysState) (hp : sub [.sys] fr = true) :
    State.Only fr s { u with sys := x } := (mk_sys_keep u x h hp).toOnly

end

/-! ### WRITE and DISCARD (R291, R292) -/

/-- The Recipe unit with other ERRC and SECT. -/
def State.withErrc (s : State) (e : Nat × Nat) : State := s.onRcp fun r => { r with errc := e.1, sect := e.2 }

/-- The status of a WRITE whose image fails a check: DENIED for its owner key or its signature, LIMIT else (R291). -/
def errcStatus (e : Nat × Nat) : Status := if e.1 = 7 ∨ e.1 = 8 then .denied else .limit

theorem errcStatus_ne_interlock (e : Nat × Nat) : errcStatus e ≠ .interlock := by
  unfold errcStatus
  split <;> decide

/-- Programming of the image `b` into slot `x` for session `k` has begun. -/
def State.writeBegun (s : State) (x : RcpSlot) (k : SessId) (b : List Byte) : State :=
  (s.setSlotOf x fun _ => { status := .writing }).onRcp fun r =>
    { r with op := .write, target := x, image := b, waiter := some (s.me k) }

/-- An erasure of the slot not in force for session `k` has begun. -/
def State.discardBegun (s : State) (k : SessId) : State :=
  s.onRcp fun r => { r with op := .discard, target := r.inForce.other, waiter := some (s.me k) }

section
variable {s : State} {x : RcpSlot} {k : SessId} {b : List Byte}

theorem cmdRcpWrite_of_busy (h : s.rcp.op ≠ .none) : s.cmdRcpWrite x k = (s, some .busy) := if_pos h

theorem cmdRcpWrite_of_inForce (h : s.rcp.op = .none) (hc : s.rcp.chosen = true) (hx : x = s.rcp.inForce) :
    s.cmdRcpWrite x k = (s, some .recipeLocked) := by
  simp only [State.cmdRcpWrite, h, hc, hx, ne_eq, not_true_eq_false, decide_true, Bool.and_self, if_false, if_true]

theorem not_slotInForce (hx : s.rcp.chosen = false ∨ x ≠ s.rcp.inForce) :
    ¬ (s.rcp.chosen && decide (x = s.rcp.inForce)) = true := by
  intro h
  obtain ⟨hchosen, hforce⟩ := Bool.and_eq_true_iff.mp h
  rcases hx with hc | hne
  · exact Bool.noConfusion (hc.symm.trans hchosen)
  · exact hne (of_decide_eq_true hforce)

section
variable (h : s.rcp.op = .none) (hx : s.rcp.chosen = false ∨ x ≠ s.rcp.inForce) (hb : s.staged k = some b)
include h hx hb

theorem cmdRcpWrite_of_error {e : Nat × Nat} (hv : s.verify b = .error e) :
    s.cmdRcpWrite x k = (s.withErrc e, some (errcStatus e)) := by
  simp only [State.cmdRcpWrite, h, hb, hv, ne_eq, not_true_eq_false, if_false, if_neg (not_slotInForce hx)]
  rfl

theorem cmdRcpWrite_of_verified {r : RcpHead × List Rec} (hv : s.verify b = .ok r) :
    s.cmdRcpWrite x k = (s.writeBegun x k b, none) := by
  simp only [State.cmdRcpWrite, h, hb, hv, ne_eq, not_true_eq_false, if_false, if_neg (not_slotInForce hx)]
  rfl

variable (hg : s.rcpGate k true = .ok)
include hg

theorem exec_write_of_error {e : Nat × Nat} (hv : s.verify b = .error e) :
    exec (.write x k) s = .next { s.withErrc e with
      sys := { s.sys with answers := ⟨s.me k, errcStatus e⟩ :: s.sys.answers } } :=
  congrArg Host.Outcome.next (rcpGated_answers (go := fun s => s.cmdRcpWrite x k) hg (cmdRcpWrite_of_error h hx hb hv)
    (errcStatus_ne_interlock e))

theorem exec_write_of_verified {r : RcpHead × List Rec} (hv : s.verify b = .ok r) :
    exec (.write x k) s = .next (s.writeBegun x k b) :=
  congrArg Host.Outcome.next
    (rcpGated_begins (go := fun s => s.cmdRcpWrite x k) hg (cmdRcpWrite_of_verified h hx hb hv))

end

theorem writeBegun_slotOf_same : (s.writeBegun x k b).slotOf x = { status := .writing } :=
  slotOf_setSlotOf_same s x _

theorem writeBegun_slotOf_other : (s.writeBegun x k b).slotOf x.other = s.slotOf x.other :=
  slotOf_setSlotOf_other s _ (otherSlot_ne x)

theorem cmdDiscard_of_busy (h : s.rcp.op ≠ .none) : s.cmdDiscard k = (s, some .busy) := if_pos h

theorem cmdDiscard_of_idle (h : s.rcp.op = .none) : s.cmdDiscard k = (s.discardBegun k, none) :=
  if_neg (not_not_intro h)

theorem exec_discard_of_idle (hg : s.rcpGate k true = .ok) (h : s.rcp.op = .none) :
    exec (.discard k) s = .next (s.discardBegun k) :=
  congrArg Host.Outcome.next (rcpGated_begins (go := fun s => s.cmdDiscard k) hg (cmdDiscard_of_idle h))

end

/-! ### Programming and erasing end (R291, R292) -/

theorem rcpDone_rcp (s : State) (st : Status) :
    (s.rcpDone st).rcp = { s.rcp with op := .none, image := [], waiter := none } := by
  unfold State.rcpDone
  dsimp only
  split
  · rw [answer_rcp, State.onRcp_rcp]
  · rfl

/-- What programming leaves in a slot: the image, VALID, or INVALID with the check that failed. -/
def programmed (image : List Byte) : Option (Nat × Nat) → SlotState
  | none => { bytes := image, status := .valid, rver := (parseHead image).rver, rid := (parseHead image).rid,
              digest := (parseHead image).digest }
  | some e => { bytes := image, status := .invalid, errc := e.1, sect := e.2, rver := (parseHead image).rver,
                rid := (parseHead image).rid }

/-- The target of the operation in progress holds `y`. -/
def State.setTarget (s : State) (y : SlotState) : State := s.setSlotOf s.rcp.target fun _ => y

section
variable {s t : State} {y : SlotState}

theorem exec_recipeWritten_ok (h : s.rcp.op = .write) : ∃ e, exec (.recipeWritten none) s =
    .next (((s.setTarget (programmed s.rcp.image none)).rcpDone .ok).emit e) :=
  ⟨_, congrArg Host.Outcome.next (if_neg (not_not_intro h))⟩

theorem exec_recipeWritten_failed (e : Nat × Nat) (h : s.rcp.op = .write) : exec (.recipeWritten (some e)) s =
    .next (((s.setTarget (programmed s.rcp.image (some e))).withErrc e).rcpDone .faulted) :=
  congrArg Host.Outcome.next (if_neg (not_not_intro h))

theorem exec_slotErased (h : s.rcp.op = .discard) : exec .slotErased s = .next ((s.setTarget {}).rcpDone .ok) :=
  congrArg Host.Outcome.next (if_neg (not_not_intro h))

/-- A state with the slots of `s.setTarget y` holds `y` in the target and the other slot as it was. -/
theorem slotOf_of_setTarget (h : t.rcp.slots = (s.setTarget y).rcp.slots) :
    t.slotOf s.rcp.target = y ∧ t.slotOf s.rcp.target.other = s.slotOf s.rcp.target.other :=
  ⟨(slotOf_congr h _).trans (slotOf_setSlotOf_same s _ _),
   (slotOf_congr h _).trans (slotOf_setSlotOf_other s _ (otherSlot_ne s.rcp.target))⟩

end

end Sys2Proof.Machine
end

section
/-! SUPPORT. RELOAD, its commit and its ends. -/

namespace Sys2Proof.Machine

open Sys2Proof

/-! ### RELOAD (R294) -/

/-- The checks of a RELOAD that come after the image verifies: its parent, its RVER, what it changes, the tracking
slots, and the ceilings of the mode in force. -/
def State.ReloadOk (s : State) (h : RcpHead) (rs : List Rec) : Prop :=
  h.parent = s.rcp.head.digest ∧ s.rcp.head.rver < h.rver ∧
    onlyMapped (s.slotOf s.rcp.inForce).bytes (s.slotOf s.rcp.inForce.other).bytes h s.rcp.recs rs = true ∧
    (s.gnssOn = true → h.mapSlots / 2 ^ 64 = 0) ∧ (s.asReloaded h rs).ceilingsOk s.sys.current = true

/-- A reload waits for the sequencers of its map, which are marked. -/
def State.reloadBegun (s : State) (h : RcpHead) (rs : List Rec) : State :=
  (s.onRcp fun r =>
    { r with op := .reload, phase := .wait, newHead := h, newRecs := rs, rldBanks := h.mapBanks, rldSeqs := h.mapSeqs,
             rldSlots := (List.range 128).filter fun n => (h.mapSlots / 2 ^ n) % 2 = 1 }).onSeq fun z =>
    { z with seqs := updAll z.seqs fun q y => { y with mark := (h.mapSeqs / 2 ^ q.val) % 2 = 1 } }

/-- The event of a reload begun, at the state in which it waits. -/
def State.reloadEv (s : State) (h : RcpHead) : Ev :=
  s.rcpEv 0x0205 s.rcp.inForce.other h.rver (h.mapBanks + h.mapSeqs * 256)

theorem reloadBegun_keep {fr : List Part} {s0 : State} (s : State) (h : RcpHead) (rs : List Rec) (hs : Keep fr s0 s)
    (hp : sub [.rcp, .seq] fr = true) : Keep fr s0 (s.reloadBegun h rs) :=
  onSeq_keep _ _ (onRcp_keep s _ hs (sub_of hp rfl)) (fun _ hq => hq) (sub_of hp rfl)

section
variable {s : State}

theorem cmdReload_of_busy (h : s.rcp.op ≠ .none ∨ s.sys.switching = true) : s.cmdReload = (s, .busy) :=
  if_pos (by simpa only [Bool.or_eq_true, decide_eq_true_eq] using h)

section
variable (hop : s.rcp.op = .none) (hsw : s.sys.switching = false)
include hop hsw

theorem cmdReload_of_notReady (h : s.rcp.applied = false ∨ (s.slotOf s.rcp.inForce.other).status ≠ .valid) :
    s.cmdReload = (s, .notReady) := by
  have hidle : ¬ (decide (s.rcp.op ≠ .none) || s.sys.switching) = true := by
    simp only [hop, hsw, ne_eq, not_true_eq_false, decide_false, Bool.or_self, Bool.false_eq_true, not_false_eq_true]
  exact (if_neg hidle).trans (if_pos (by simpa only [Bool.or_eq_true, Bool.not_eq_true', decide_eq_true_eq] using h))

section
variable (happ : s.rcp.applied = true) (hval : (s.slotOf s.rcp.inForce.other).status = .valid)
include happ hval

theorem cmdReload_of_error {e : Nat × Nat} (hv : s.verify (s.slotOf s.rcp.inForce.other).bytes = .error e) :
    s.cmdReload = (s.withErrc e, .notReady) := by
  simp only [State.cmdReload, hop, hsw, happ, hval, hv, ne_eq, not_true_eq_false, decide_false, Bool.or_self,
    Bool.not_true, Bool.false_eq_true, if_false]
  rfl

variable {h : RcpHead} {rs : List Rec} (hv : s.verify (s.slotOf s.rcp.inForce.other).bytes = .ok (h, rs))
include hv

theorem cmdReload_of_ok (hok : s.ReloadOk h rs) :
    s.cmdReload = ((s.reloadBegun h rs).emit ((s.reloadBegun h rs).reloadEv h), .ok) := by
  obtain ⟨hparent, hnewer, hmapped, htracking, hceil⟩ := hok
  have hslots : ¬ (s.gnssOn && decide (h.mapSlots / 2 ^ 64 ≠ 0)) = true := by
    simpa only [Bool.and_eq_true, decide_eq_true_eq, not_and, ne_eq, Decidable.not_not] using htracking
  simp only [State.cmdReload, hop, hsw, happ, hval, hv, hparent, hmapped, hceil, ne_eq, not_true_eq_false, decide_false,
    Bool.or_self, Bool.not_true, Bool.false_eq_true, if_false, Nat.not_le.mpr hnewer, if_neg hslots]
  rfl

theorem cmdReload_of_not_ok (hno : ¬ s.ReloadOk h rs) : s.cmdReload = (s, .limit) := by
  simp only [State.cmdReload, hop, hsw, happ, hval, hv, ne_eq, not_true_eq_false, decide_false, Bool.or_self,
    Bool.not_true, Bool.false_eq_true, if_false]
  split
  · rfl
  next hhead =>
  split
  · rfl
  next hmapped =>
  split
  · rfl
  next hslots =>
  split
  · rfl
  next hceil =>
  simp only [Bool.or_eq_true, decide_eq_true_eq, not_or, Decidable.not_not, Nat.not_le] at hhead
  obtain ⟨hparent, hnewer⟩ := hhead
  simp only [Bool.not_eq_true', Bool.not_eq_false] at hmapped hceil
  simp only [Bool.and_eq_true, decide_eq_true_eq, not_and, Decidable.not_not] at hslots
  exact absurd ⟨hparent, hnewer, hmapped, hslots, hceil⟩ hno

end
end
end

/-- The parts that a RELOAD changes. -/
abbrev reloadParts : List Part := [.sys, .log, .rcp, .mon, .seq]

/-- A RELOAD that passes the gate is answered at once. -/
theorem exec_reload_of {s u : State} {k : SessId} {st : Status} (hg : s.rcpGate k true = .ok)
    (h : s.cmdReload = (u, st)) (hst : st ≠ .interlock) :
    exec (.reload k) s = .next { u with sys := { u.sys with answers := ⟨u.me k, st⟩ :: u.sys.answers } } :=
  congrArg Host.Outcome.next (rcpGated_answers hg (congrArg atOnce h) hst)

/-- An event does not change which command is being carried out. -/
theorem emit_me (s : State) (e : Ev) (k : SessId) : (s.emit e).me k = s.me k := by
  obtain ⟨q, hq⟩ := emit_sys s e
  exact (congrArg (fun z : SysState => Src.host k z.cur) hq :)

/-! ### What the units of a reload leave of the Recipe unit (R295 to R297) -/

/-- The Recipe unit but for the records in force and the units that a reload has yet to take. -/
def State.besideUnits (s : State) : RcpState := { s.rcp with recs := [], rldBanks := 0, rldSlots := [], rldSeqs := 0 }

/-- From `s` to `t` nothing of the Recipe unit has changed but the records in force and the units yet to be taken. -/
abbrev UnitsOnly : State → State → Prop := SameAt State.besideUnits

theorem units_of_rcp {s t : State} (h : t.rcp = s.rcp) : UnitsOnly s t := by
  change t.besideUnits = s.besideUnits
  rw [State.besideUnits, h]
  rfl

theorem Keep.units {fr : List Part} {s t : State} (h : Keep fr s t) (hn : Part.rcp ∉ fr) : UnitsOnly s t :=
  units_of_rcp (h.only .rcp hn)

/-- Fields of the Recipe unit that neither the records in force nor the units yet to be taken are. -/
theorem UnitsOnly.fields {s t : State} (h : UnitsOnly s t) :
    t.rcp.phase = s.rcp.phase ∧ t.rcp.commitAt = s.rcp.commitAt ∧ t.rcp.inForce = s.rcp.inForce ∧ t.rcp.op = s.rcp.op ∧
      t.rcp.newHead = s.rcp.newHead ∧ t.rcp.newRecs = s.rcp.newRecs := by
  have he : t.besideUnits = s.besideUnits := h
  exact ⟨(congrArg RcpState.phase he :), (congrArg RcpState.commitAt he :), (congrArg RcpState.inForce he :),
    (congrArg RcpState.op he :), (congrArg RcpState.newHead he :), (congrArg RcpState.newRecs he :)⟩

/-- The parts that the reload of a bank changes besides the Recipe unit. -/
abbrev bankParts : List Part := [.sys, .ports, .banks, .sol, .log, .hie, .mon, .fan, .sct]

theorem reloadBank_units (s : State) (b : BankId) : UnitsOnly s (s.reloadBank b) := by
  unfold State.reloadBank
  extract_lets old faulty fans sects down recs loaded carried kept set cleared up us drawn
  have hdown : Keep bankParts s down := sectsOff_keep _ sects 2 (bankDown_keep s b (.refl s) rfl) rfl
  have hloaded : UnitsOnly down loaded := rfl
  have hset : Keep bankParts loaded set :=
    setPorts_keep _ _ _ (foldl_keep (foldl_keep (.refl loaded) fun t p h => loadCarrier_keep t p h rfl)
      fun t p h => keepPort_keep old t p h rfl) rfl
  have hup : Keep bankParts loaded up := bankUp_keep _ b (emitAll_keep set _ hset rfl) rfl
  have hdrawn : Keep bankParts loaded drawn :=
    foldl_keep (draw_keep up hup rfl) fun t f h => restartFan_keep old t f h rfl
  have hend : Keep bankParts loaded (drawn.emit (drawn.rcpEv 0x0206 drawn.rcp.inForce.other b.val us)) :=
    emit_keep drawn _ hdrawn rfl
  exact ((hdown.units (by decide)).trans hloaded).trans (hend.units (by decide))

theorem takeUnit_units (s : State) (n : SlotId) : UnitsOnly s (s.takeUnit n).1 := by
  unfold State.takeUnit
  extract_lets law w recs loaded answered f taken
  have hloaded : UnitsOnly s loaded := rfl
  have hanswered : UnitsOnly loaded answered := by
    unfold answered
    split
    · exact units_of_rcp (answer_rcp ..)
    · exact .refl loaded
  have htaken : UnitsOnly answered taken := .ite rfl rfl
  exact ((hloaded.trans hanswered).trans htaken).trans (units_of_rcp (emit_rcp taken _))

theorem reloadIdleSlots_units (s : State) : UnitsOnly s s.reloadIdleSlots :=
  .foldl _ (fun t n => .ite (takeUnit_units t n) (.refl t)) (.refl s)

theorem reloadSeq_units (s : State) (q : SeqId) : UnitsOnly s (s.reloadSeq q) := by
  unfold State.reloadSeq
  extract_lets recs released
  have hreleased : UnitsOnly s released :=
    .trans rfl ((seqRelease_keep _ q (.refl _) rfl : Keep [.sys, .seq] _ released).units (by decide))
  exact hreleased.trans (units_of_rcp (emit_rcp released _))

/-- The banks of the map are reloaded, and the slots in OFF or FAULT take their records (R295 steps 4 and 5). -/
def State.unitsTaken (s : State) : State :=
  (((idx 4).filter fun b => (s.rcp.rldBanks / 2 ^ b.val) % 2 == 1).foldl State.reloadBank s).reloadIdleSlots

theorem unitsTaken_units (s : State) : UnitsOnly s s.unitsTaken :=
  SameAt.trans (.foldl _ reloadBank_units (.refl s)) (reloadIdleSlots_units _)

/-! ### The commit and the ends (R295) -/

/-- A reload enters APPLY. -/
def State.committed (s : State) : State := s.onRcp fun x => { x with phase := .apply, commitAt := s.tick }

/-- The sequencers of the map take their records and are released. -/
def State.reloadSeqs (s : State) : State :=
  ((idx 4).filter fun q => (s.rcp.rldSeqs / 2 ^ q.val) % 2 == 1).foldl State.reloadSeq s

/-- The other slot is put in force with the new Recipe. -/
def State.putInForce (s : State) : State :=
  ((s.setSlotOf s.rcp.inForce fun y => { y with status := .valid }).setSlotOf s.rcp.inForce.other
    fun y => { y with status := .inForce }).onRcp fun r =>
      { r with inForce := s.rcp.inForce.other, head := r.newHead, recs := r.newRecs, newHead := {}, newRecs := [],
               op := .none, phase := .idle }

theorem putInForce_slotOf (s : State) :
    s.putInForce.slotOf s.rcp.inForce = { s.slotOf s.rcp.inForce with status := .valid } ∧
      s.putInForce.slotOf s.rcp.inForce.other = { s.slotOf s.rcp.inForce.other with status := .inForce } := by
  have hne := otherSlot_ne s.rcp.inForce
  constructor
  · refine (slotOf_setSlotOf_other _ _ hne.symm).trans ?_
    rw [slotOf_setSlotOf_same]
  · refine (slotOf_setSlotOf_same _ _ _).trans ?_
    rw [slotOf_setSlotOf_other _ _ hne]

/-- A marked sequencer is marked no more, and is released where it is held. -/
def State.unhold (s : State) (q : SeqId) : State :=
  if s.seq.seqs[q].mark then
    let u := s.setSeq q fun x => { x with mark := false }
    if s.seq.seqs[q].st = .held then u.seqState q s.seq.seqs[q].before else u
  else s

/-- The Recipe unit with no reload. -/
def State.noReload (s : State) : State := s.onRcp fun r =>
  { r with op := .none, phase := .idle, newHead := {}, newRecs := [], rldBanks := 0, rldSlots := [], rldSeqs := 0 }

section
variable {s : State}

theorem exec_reloadCommit_of_held (h : s.rcp.phase = .wait) (hh : s.seqsHeld = true) :
    exec .reloadCommit s = .next s.committed.unitsTaken := by
  change execReloadCommit s = _
  simp only [execReloadCommit, h, hh, ne_eq, not_true_eq_false, decide_false, Bool.not_true, Bool.or_self,
    Bool.false_eq_true, if_false]
  rfl

theorem exec_reloadCommit_of_not_held (h : s.rcp.phase ≠ .wait ∨ s.seqsHeld = false) : exec .reloadCommit s = .next s :=
  congrArg Host.Outcome.next
    (if_pos (by simpa only [Bool.or_eq_true, decide_eq_true_eq, Bool.not_eq_true'] using h))

theorem exec_reloadDone_of_taken (h : s.rcp.phase = .apply) (hb : s.rcp.rldBanks = 0) (hs : s.rcp.rldSlots = []) :
    ∃ e, exec .reloadDone s = .next (s.reloadSeqs.putInForce.emit e) := by
  change ∃ e, execReloadDone s = _
  simp only [execReloadDone, h, hb, hs, ne_eq, not_true_eq_false, decide_false, List.isEmpty_nil, Bool.not_true,
    Bool.or_self, Bool.false_eq_true, if_false]
  exact ⟨_, rfl⟩

theorem exec_reloadAborted_of_wait (h : s.rcp.phase = .wait) :
    ∃ e, exec .reloadAborted s = .next (((idx 4).foldl State.unhold s).noReload.emit e) :=
  ⟨_, congrArg Host.Outcome.next (if_neg (not_not_intro h))⟩

theorem unhold_keep {fr : List Part} {s0 : State} (s : State) (q : SeqId) (hs : Keep fr s0 s)
    (hp : sub [.sys, .seq] fr = true) : Keep fr s0 (s.unhold q) := by
  have hu : Keep fr s0 (s.setSeq q fun x => { x with mark := false }) := setSeq_keep s q _ hs (sub_of hp rfl)
  unfold State.unhold
  dsimp only
  split
  · split
    · exact seqState_keep _ q _ hu hp
    · exact hu
  · exact hs

end

/-- Settles O48: a command of RCP_CMD is its effect behind the gate of the Recipe unit, an operation ends in its target,
and the units of a reload change of the Recipe unit the records in force alone (`UnitsOnly`). -/
theorem recipeCommandsAndReloadsAct : Obligations.RecipeCommandsAndReloadsAct := by
  refine ⟨fun x k b s hg hop hx hb => ?write, fun x k s hg hop => ?writeBusy, fun x k s hg hop hc hx => ?writeLocked,
    fun s hop => ?written, fun e s hop => ?failed, fun k s hg hop => ?discard, fun k s hg hop => ?discardBusy,
    fun s hop => ?erased, fun k s hg hop hsw happ hval => ?reload, fun k s hg h => ?reloadBusy,
    fun k s hg hop hsw h => ?reloadNotReady, fun s hp hh => ?commit, fun s h => ?commitNot,
    fun s hp hb hs => ?done, fun s hp => ?aborted⟩
  case write =>
    cases hv : s.verify b with
    | error e =>
      have hk : Keep [.sys, .rcp] s (s.withErrc e) := onRcp_keep s _ (.refl s) rfl
      exact ⟨_, exec_write_of_error hop hx hb hg hv, ⟨rfl, rfl⟩, hk.only_sys _ rfl⟩
    | ok r =>
      have hk : Keep [.sys, .rcp] s (s.writeBegun x k b) := onRcp_keep _ _ (setSlotOf_keep s x _ (.refl s) rfl) rfl
      exact ⟨_, exec_write_of_verified hop hx hb hg hv,
        ⟨rfl, rfl, rfl, rfl, writeBegun_slotOf_same, writeBegun_slotOf_other, rfl⟩, hk.toOnly⟩
  case writeBusy => exact rcpGated_refuses rfl hg (cmdRcpWrite_of_busy hop) (by decide)
  case writeLocked => exact rcpGated_refuses rfl hg (cmdRcpWrite_of_inForce hop hc hx) (by decide)
  case written =>
    obtain ⟨ev, he⟩ := exec_recipeWritten_ok hop
    have hrcp := (emit_rcp _ ev).trans (rcpDone_rcp (s.setTarget (programmed s.rcp.image none)) .ok)
    obtain ⟨hslot, hother⟩ :=
      slotOf_of_setTarget (y := programmed s.rcp.image none) (congrArg RcpState.slots hrcp :)
    exact ⟨_, he, congrArg RcpState.op hrcp, congrArg RcpState.waiter hrcp, hslot, hother,
      next_only (execRecipeWritten_keep none s (.refl s) rfl) he⟩
  case failed =>
    have he := exec_recipeWritten_failed e hop
    have hrcp := rcpDone_rcp ((s.setTarget (programmed s.rcp.image (some e))).withErrc e) .faulted
    obtain ⟨hslot, hother⟩ :=
      slotOf_of_setTarget (y := programmed s.rcp.image (some e)) (congrArg RcpState.slots hrcp :)
    exact ⟨_, he, congrArg RcpState.op hrcp, congrArg RcpState.errc hrcp, congrArg RcpState.sect hrcp,
      congrArg SlotState.status hslot, hother, next_only (execRecipeWritten_keep (some e) s (.refl s) rfl) he⟩
  case discard =>
    have hk : Keep [.rcp] s (s.discardBegun k) := onRcp_keep s _ (.refl s) rfl
    exact ⟨_, exec_discard_of_idle hg hop, rfl, hk.toOnly⟩
  case discardBusy => exact rcpGated_refuses rfl hg (cmdDiscard_of_busy hop) (by decide)
  case erased =>
    have he := exec_slotErased hop
    have hrcp := rcpDone_rcp (s.setTarget {}) .ok
    obtain ⟨hslot, hother⟩ := slotOf_of_setTarget (y := {}) (congrArg RcpState.slots hrcp :)
    exact ⟨_, he, congrArg RcpState.op hrcp, hslot, hother, next_only (execSlotErased_keep s (.refl s) rfl) he⟩
  case reload =>
    cases hv : s.verify (s.slotOf s.rcp.inForce.other).bytes with
    | error e =>
      have he := exec_reload_of hg (cmdReload_of_error hop hsw happ hval hv) (by decide)
      have hk : Keep reloadParts s (s.withErrc e) := onRcp_keep s _ (.refl s) rfl
      exact ⟨_, he, ⟨rfl, rfl⟩, hk.only_sys _ rfl⟩
    | ok r =>
      obtain ⟨h, rs⟩ := r
      dsimp only
      split
      · next hok =>
        have he := exec_reload_of hg (cmdReload_of_ok hop hsw happ hval hv hok) (by decide)
        have hk : Keep reloadParts s ((s.reloadBegun h rs).emit ((s.reloadBegun h rs).reloadEv h)) :=
          emit_keep _ _ (reloadBegun_keep s h rs (.refl s) rfl) rfl
        refine ⟨_, he, ⟨emit_rcp _ _, fun q => ?_, ?_⟩, hk.only_sys _ rfl⟩
        · exact (congrArg (fun z : SeqState => z.seqs[q]) (emit_seq _ _)).trans (updAll_get _ _ q)
        · rw [emit_me]
          exact congrArg (List.cons _) (emit_answers _ _)
      · next hno =>
        have he := exec_reload_of hg (cmdReload_of_not_ok hop hsw happ hval hv hno) (by decide)
        exact ⟨_, he, ⟨rfl, rfl, rfl⟩, (Keep.refl s : Keep reloadParts s s).only_sys _ rfl⟩
  case reloadBusy => exact rcpGated_refuses rfl hg (congrArg atOnce (cmdReload_of_busy h)) (by decide)
  case reloadNotReady => exact rcpGated_refuses rfl hg (congrArg atOnce (cmdReload_of_notReady hop hsw h)) (by decide)
  case commit =>
    have he := exec_reloadCommit_of_held hp hh
    obtain ⟨hphase, hat, hforce, hop, hhead, -⟩ := (unitsTaken_units s.committed).fields
    exact ⟨_, he, hphase, hat, hforce, hop, hhead, next_only (execReloadCommit_keep s (.refl s) rfl) he⟩
  case commitNot => exact ⟨s, exec_reloadCommit_of_not_held h, rfl⟩
  case done =>
    obtain ⟨ev, he⟩ := exec_reloadDone_of_taken hp hb hs
    have hu : UnitsOnly s s.reloadSeqs := .foldl _ reloadSeq_units (.refl s)
    obtain ⟨-, -, hforce, -, hhead, hrecs⟩ := hu.fields
    have hrcp := emit_rcp s.reloadSeqs.putInForce ev
    obtain ⟨hold, hnew⟩ := putInForce_slotOf s.reloadSeqs
    rw [hforce] at hold hnew
    refine ⟨_, he, ?_, ?_, ?_, congrArg RcpState.op hrcp, congrArg RcpState.phase hrcp, ?_, ?_,
      next_only (execReloadDone_keep s (.refl s) rfl) he⟩
    · exact (congrArg RcpState.inForce hrcp).trans (congrArg RcpSlot.other hforce)
    · exact (congrArg RcpState.head hrcp).trans hhead
    · exact (congrArg RcpState.recs hrcp).trans hrecs
    · rw [slotOf_congr (congrArg RcpState.slots hrcp), hold]
    · rw [slotOf_congr (congrArg RcpState.slots hrcp), hnew]
  case aborted =>
    obtain ⟨ev, he⟩ := exec_reloadAborted_of_wait hp
    have hk : Keep [.sys, .seq] s ((idx 4).foldl State.unhold s) :=
      foldl_keep (.refl s) fun t q h => unhold_keep t q h rfl
    have hrcp : ((idx 4).foldl State.unhold s).rcp = s.rcp := hk.only .rcp (by decide)
    refine ⟨_, he, ?_, next_only (execReloadAborted_keep s (.refl s) rfl) he⟩
    rw [emit_rcp, State.noReload, State.onRcp_rcp, hrcp]

end Sys2Proof.Machine
end

section
/-! SUPPORT. What no step takes back: key slots, the floors, the Reel and the Keep. -/

namespace Sys2Proof.Machine

open Sys2Proof

/-- A step keeps what `Keep` names, but for the queue: a command is taken from it, and the tick takes none. -/
theorem step_advances {s t : State} (h : step s = .next t) : SecLe s.sec t.sec ∧ LogLe s.log t.log := by
  cases hp : s.pending with
  | nil =>
    have hk : Keep allParts s s.idle := idle_keep s (.refl s) rfl
    obtain rfl : s.idle = t := by simpa [step_of_nil hp] using h
    exact ⟨hk.sec, hk.log⟩
  | cons c rest =>
    obtain ⟨u, hu, hk⟩ := exec_keep c { s with pending := rest }
    obtain rfl : u = t := by simpa [step_of_cons hp, hu] using h
    exact ⟨hk.sec, hk.log⟩

theorem revoked_of_code_le {x : KeySt} (h : KeySt.revoked.code ≤ x.code) : x = .revoked := by
  cases x <;> simp_all [KeySt.code]

theorem ne_empty_of_code_le {x y : KeySt} (h : x.code ≤ y.code) (hx : x ≠ .empty) : y ≠ .empty := by
  rintro rfl
  cases x <;> simp_all [KeySt.code]

/-- Settles O8: no operation lowers the code of a key slot or a floor (`SecLe`). -/
theorem keySlotsAndFloorsOnlyAdvance : Obligations.KeySlotsAndFloorsOnlyAdvance := by
  intro s t h
  obtain ⟨hslot, hfloor, hrb⟩ := (step_advances h).1
  exact ⟨fun i hi => revoked_of_code_le (hi ▸ hslot i), fun i => ne_empty_of_code_le (hslot i), hfloor, hrb⟩

/-- Settles O9: every operation that commits puts its record before the Reel under the next SEQ (`LogLe.recs`). -/
theorem recordsAreOnlyAdded : Obligations.RecordsAreOnlyAdded := fun _ _ h => (step_advances h).2.recs

/-- Settles O10: every operation that keeps a record puts it behind the Keep while there is room (`LogLe.keep`). -/
theorem keepSlotsAreNeverOverwritten : Obligations.KeepSlotsAreNeverOverwritten := fun _ _ h => (step_advances h).2.keep

end Sys2Proof.Machine
end

section
/-! SUPPORT. Commands of sessions: an answer alone, or an effect and its answer. -/

namespace Sys2Proof.Machine

open Sys2Proof

/-- The state with one more status given to a source. -/
def State.told (s : State) (src : Src) (st : Status) : State :=
  { s with sys := { s.sys with answers := ⟨src, st⟩ :: s.sys.answers } }

theorem told_only {fr : List Part} {s u : State} (src : Src) (st : Status) (h : Keep fr s u) (hp : sub [.sys] fr = true) :
    State.Only fr s (u.told src st) := h.only_sys _ hp

section
variable {o : Out} {s u : State} {k : SessId} {g : Status} {go : State → State × Status}
  (he : o = .next (s.gated k g go)) (hg : g = .ok)
include he hg

theorem gated_acts_ok (hr : go s = (u, .ok)) : o = .next (u.told (s.me k) .ok) :=
  he.trans (congrArg _ (by rw [gated_ok s k g go hg, hr]; rfl))

/-- A command that passes its gate and is refused by its own conditions. -/
theorem gated_turned_away {st : Status} (hr : go s = (s, st)) (hst : st ≠ .interlock) : ∃ t, o = .next t ∧
    t.sys = { s.sys with answers := ⟨s.me k, st⟩ :: s.sys.answers } ∧ State.Only [.sys] s t :=
  ⟨_, he.trans (congrArg _ (gated_refuses hg hr hst)), rfl, only_sys s _⟩

end

end Sys2Proof.Machine
end

section
/-! SUPPORT. Clocks, crossings, wake sources and the entry into a low-power state. -/

namespace Sys2Proof.Machine

open Sys2Proof

section
variable {s : State} {k : SessId}

/-- A wake source at a VLOGIC of 8.0 V or more: kind WAKE is latched, under the source that came first (R432, R446). -/
def State.woken (s : State) (src : Nat) : State :=
  s.onPwr fun x => { x with phase := .off, latched := some (.wake, x.wakePend.getD src, 0), wakePend := none }

theorem wake_high (src : Nat) (h : s.lowPower = true) : s.wake src true = s.woken src := by
  simp only [State.wake, h, Bool.not_true, Bool.false_eq_true, if_false, if_true]
  rfl

theorem wake_low (src : Nat) (h : s.lowPower = true) :
    s.wake src false = s.onPwr fun x => { x with wakePend := some (x.wakePend.getD src) } := by
  simp only [State.wake, h, Bool.not_true, Bool.false_eq_true, if_false]

theorem wake_of_served (src : Nat) (high : Bool) (h : s.lowPower = false) : s.wake src high = s := by
  simp only [State.wake, h, Bool.not_false, if_true]

theorem lowPower_of_pwr {t : State} (h : t.pwr = s.pwr) : t.lowPower = s.lowPower := by
  unfold State.lowPower
  rw [h]

theorem lowPower_of_sleep (h : s.pwr.phase = .sleep) : s.lowPower = true := by
  simp only [State.lowPower, h]
  rfl

theorem woken_pwr (s : State) (src : Nat) : (s.woken src).pwr =
    { s.pwr with phase := .off, latched := some (.wake, s.pwr.wakePend.getD src, 0), wakePend := none } := rfl

theorem woken_tmb (s : State) (src : Nat) : (s.woken src).tmb = s.tmb := rfl

theorem woken_only (s : State) (src : Nat) : State.Only [.pwr] s (s.woken src) :=
  (onPwr_keep s _ (.refl s) rfl : Keep [.pwr] s _).toOnly

/-- The RTC at the alarm that it has reached: its low word is the alarm's, and its high word does not fall. -/
def rtcAtAlarm (rtc alarm : Nat) : Nat :=
  (if rtc / 2 ^ 32 * 2 ^ 32 + alarm < rtc then rtc / 2 ^ 32 * 2 ^ 32 + alarm + 2 ^ 32 else rtc / 2 ^ 32 * 2 ^ 32 + alarm) % 2 ^ 48

theorem rtcAtAlarm_low (rtc : Nat) {alarm : Nat} (h : alarm < 2 ^ 32) : rtcAtAlarm rtc alarm % 2 ^ 32 = alarm := by
  unfold rtcAtAlarm
  rw [Nat.mod_mod_of_dvd _ (by decide)]
  split <;> omega

/-- The state in which the RTC has reached its alarm. -/
def State.rtcAlarmed (s : State) : State := s.onTmb fun t => { t with rtc := rtcAtAlarm t.rtc s.pwr.alarm.toNat }

theorem rtcAlarmed_pwr (s : State) : s.rtcAlarmed.pwr = s.pwr := State.onTmb_pwr s _

theorem rtcAlarmed_tmb (s : State) : s.rtcAlarmed.tmb =
    { s.tmb with rtc := rtcAtAlarm s.tmb.rtc s.pwr.alarm.toNat } := State.onTmb_tmb s _

theorem execRtcAlarm_eq (s : State) (high : Bool) : execRtcAlarm high s =
    .next (if (s.tmb.rtcValid && s.pwr.alarm != 0 && s.lowPower) = true then s.rtcAlarmed.wake 2 high else s) := by
  simp only [execRtcAlarm, State.rtcAlarmed, rtcAtAlarm, State.onTmb]

theorem exec_rtcAlarm_high (hl : s.lowPower = true) (hv : s.tmb.rtcValid = true) (ha : s.pwr.alarm ≠ 0) :
    exec (.rtcAlarm true) s = .next (s.rtcAlarmed.woken 2) := by
  have hc : (s.tmb.rtcValid && s.pwr.alarm != 0 && s.lowPower) = true := by
    simp only [hv, hl, Bool.true_and, Bool.and_true, bne_iff_ne, ne_eq]
    exact ha
  have hl' : s.rtcAlarmed.lowPower = true := (lowPower_of_pwr (rtcAlarmed_pwr s)).trans hl
  exact (execRtcAlarm_eq s true).trans (by rw [if_pos hc, wake_high 2 hl'])

theorem exec_canWake_of_pattern (hp : s.pwr.phase = .sleep) (hc : s.pwr.canWake = true) (hd : s.pwr.detectorOff = false) :
    exec (.canWake true) s = .next (s.woken 3) := by
  change execCanWake true s = _
  simp only [execCanWake, hp, hc, hd, decide_true, Bool.not_false, Bool.and_self, if_true, wake_high 3 (lowPower_of_sleep hp)]

theorem exec_canWake_of_not_armed (high : Bool) (h : s.pwr.canWake = false ∨ s.pwr.phase = .standby) :
    exec (.canWake high) s = .next s := by
  refine congrArg Host.Outcome.next (if_neg ?_)
  rcases h with h | h <;> simp [h]

/-! ### Entry (R444, R445) -/

theorem cmdLow_of_gate {sleep : Bool} (hg : s.gate k rightPARAM = .ok) : s.cmdLow sleep k =
    if !bit s.pwr.cfg (if sleep then 30 else 31) then s.answer (s.me k) .limit
    else if !s.quiet then s.answer (s.me k) .notReady
    else s.enterLow sleep k := by
  simp only [State.cmdLow, hg]

theorem cmdLow_enters {sleep : Bool} (hg : s.gate k rightPARAM = .ok) (hb : bit s.pwr.cfg (if sleep then 30 else 31) = true)
    (hq : s.quiet = true) : s.cmdLow sleep k = s.enterLow sleep k := by
  simp only [cmdLow_of_gate hg, hb, hq, Bool.not_true, Bool.false_eq_true, if_false]

/-- What remains of the state that enters a low-power state with its last record written. -/
theorem enterLow_leaves (s : State) (sleep : Bool) (k : SessId) : ∃ (u : State) (wake : Bool), s.enterLow sleep k =
    u.powerOff.tripOff.onPwr fun x => { x with phase := if sleep then .sleep else .standby, canWake := sleep && wake } :=
  ⟨_, _, rfl⟩

/-- The power is off: the ports, the sessions, THERM_TRIP_N, the Recipe and the SRAM are as at reset, and the commands that
wait still wait. -/
theorem enterLow_clauses (s : State) (sleep : Bool) (k : SessId) :
    (s.enterLow sleep k).pwr.phase = (if sleep then .sleep else .standby) ∧ (sleep = false → (s.enterLow sleep k).pwr.canWake = false) ∧
      (s.enterLow sleep k).ports = State.reset.ports ∧ (s.enterLow sleep k).sec.sessions = State.reset.sec.sessions ∧
      (s.enterLow sleep k).fan.trip = false ∧ (s.enterLow sleep k).rcp.applied = false ∧ (s.enterLow sleep k).mem = [] ∧
      (s.enterLow sleep k).pending = s.pending := by
  have hk : Keep allParts s (s.enterLow sleep k) := enterLow_keep s sleep k (.refl s) rfl
  have hpend := hk.pend
  obtain ⟨u, wake, hu⟩ := enterLow_leaves s sleep k
  rw [hu] at hpend ⊢
  exact ⟨rfl, fun h => by rw [h]; rfl, rfl, rfl, rfl, rfl, rfl, hpend⟩

theorem cmdLow_refused {o : Out} {u : State} {st : Status} (he : o = .next u) (hu : u = s.answer (s.me k) st) (hst : st ≠ .interlock) :
    ∃ t, o = .next t ∧ t.sys = { s.sys with answers := ⟨s.me k, st⟩ :: s.sys.answers } ∧ State.Only [.sys] s t := by
  rw [hu, answer_me s k st hst] at he
  exact ⟨_, he, rfl, only_sys s _⟩

end

/-- Settles O46: a clock count, a crossing and a wake source set the power block alone, and an entry that is permitted is
`State.enterLow`. -/
theorem clocksLowPowerStatesAndWakes : Obligations.ClocksLowPowerStatesAndWakes := by
  refine ⟨fun n s => ?tcxo, fun s => ?aon, fun k s hg => ?xclr, fun p s => ?snapshot, fun s hl => ?pinHigh, fun s hl => ?pinLow,
    fun h s hl => ?pinServed, fun s hl hv ha => ?alarm, fun s hp hc hd => ?can, fun h s hn => ?canNot, fun s hl hb => ?logic,
    fun s hp => ?resume, fun k s hg => ?rtcl, fun v k s hg => ?cfg, fun k s hg hb hq => ?standby, fun k s hg hb hq => ?sleep,
    fun k s hg hb => ?limit, fun k s hg hb hq => ?notReady⟩
  case tcxo =>
    refine ⟨_, rfl, rfl, ?_, rfl, rfl, (onPwr_keep s _ (.refl s) rfl : Keep [.pwr] s _).toOnly⟩
    dsimp only [State.onPwr]
    split
    · next h => exact h
    · rfl
  case aon =>
    exact ⟨_, rfl, rfl, rfl, (onTmb_keep _ _ (onPwr_keep s _ (.refl s) rfl) rfl : Keep [.pwr, .tmb] s _).toOnly⟩
  case xclr =>
    have hk : Keep [.sys, .pwr] s s.clearCrossings := onPwr_keep s _ (.refl s) rfl
    exact ⟨_, gated_acts_ok rfl hg rfl, rfl, rfl, told_only _ .ok hk rfl⟩
  case snapshot =>
    exact ⟨_, rfl, upd_same _ _ _, fun q hq => upd_other _ _ _ _ hq.symm, rfl,
      (onPwr_keep s _ (.refl s) rfl : Keep [.pwr] s _).toOnly⟩
  case pinHigh => exact ⟨_, congrArg Host.Outcome.next (wake_high 1 hl), rfl, woken_only s 1⟩
  case pinLow =>
    exact ⟨_, congrArg Host.Outcome.next (wake_low 1 hl), rfl, (onPwr_keep s _ (.refl s) rfl : Keep [.pwr] s _).toOnly⟩
  case pinServed => exact ⟨s, congrArg Host.Outcome.next (wake_of_served 1 h hl), rfl⟩
  case alarm =>
    have hk : Keep [.pwr, .tmb] s (s.rtcAlarmed.woken 2) := onPwr_keep _ _ (onTmb_keep s _ (.refl s) rfl) rfl
    refine ⟨_, exec_rtcAlarm_high hl hv ha, ?_, ?_, ?_, hk.toOnly⟩
    · rw [woken_tmb, rtcAlarmed_tmb]
      exact rtcAtAlarm_low _ s.pwr.alarm.isLt
    · rw [woken_tmb, rtcAlarmed_tmb]
      exact hv
    · rw [woken_pwr, rtcAlarmed_pwr]
  case can => exact ⟨_, exec_canWake_of_pattern hp hc hd, rfl, woken_only s 3⟩
  case canNot => exact ⟨s, exec_canWake_of_not_armed h hn, rfl⟩
  case logic =>
    exact ⟨_, congrArg Host.Outcome.next ((if_pos hb).trans (wake_high 4 hl)), rfl, woken_only s 4⟩
  case resume =>
    exact ⟨_, congrArg Host.Outcome.next (if_pos hp), rfl, (onPwr_keep s _ (.refl s) rfl : Keep [.pwr] s _).toOnly⟩
  case rtcl =>
    have hk : Keep [.sys, .pwr] s (State.returns s.readRtcl) := onSys_keep _ _ (readRtcl_keep s (.refl s) rfl) rfl
    exact ⟨_, gated_acts_ok rfl hg rfl, rfl, rfl, told_only _ .ok hk rfl⟩
  case cfg =>
    have hk : Keep [.sys, .pwr] s (s.writePwrCfg v).1 := writePwrCfg_keep s v (.refl s) rfl
    exact ⟨_, gated_acts_ok rfl hg rfl, rfl, rfl, told_only _ .ok hk rfl⟩
  case standby =>
    obtain ⟨hphase, hwake, hrest⟩ := enterLow_clauses s false k
    exact ⟨_, congrArg Host.Outcome.next (cmdLow_enters hg hb hq), hphase, hwake rfl, hrest⟩
  case sleep =>
    obtain ⟨hphase, -, hrest⟩ := enterLow_clauses s true k
    exact ⟨_, congrArg Host.Outcome.next (cmdLow_enters hg hb hq), hphase, hrest⟩
  case limit =>
    refine cmdLow_refused (u := s.cmdLow false k) rfl ?_ (by decide)
    rw [cmdLow_of_gate hg]
    exact if_pos (by simp [hb])
  case notReady =>
    refine cmdLow_refused (u := s.cmdLow true k) rfl ?_ (by decide)
    rw [cmdLow_of_gate hg]
    simp [hb, hq]

end Sys2Proof.Machine
end

section
/-! SUPPORT. The supply warning and its releases, bank supplies and domains. -/

namespace Sys2Proof.Machine

open Sys2Proof

/-! ### The supply warning (R429, R436 to R439) -/

section
variable {s : State}

/-- Every delay being measured sees the warning (R82). -/
def State.delaysWarned (s : State) : State := s.mapSols fun _ x =>
  { x with openCtx := { x.openCtx with warned := true }, closeCtx := { x.closeCtx with warned := true } }

/-- The warning begins at `mv` (R436). -/
def State.warned (s : State) (mv : Nat) : State := s.delaysWarned.onPwr fun x =>
  { x with warning := true, warnAt := s.delaysWarned.tick, minV := mv, vlogic := mv, orderly := false }

theorem warned_pwr (s : State) (mv : Nat) : (s.warned mv).pwr =
    { s.pwr with warning := true, warnAt := s.tick, minV := mv, vlogic := mv, orderly := false } := by
  have hsys : s.delaysWarned.sys = s.sys := mapSols_sys s _
  have hpwr : s.delaysWarned.pwr = s.pwr := mapSols_pwr s _
  rw [State.warned, State.onPwr_pwr, hpwr, State.tick, hsys, State.tick]

theorem exec_supplyWarning_begins (mv : Nat) (hw : s.pwr.warning = false) (hr : s.pwr.releasing = false) :
    exec (.supplyWarning mv) s = .next (s.warned mv).interlock :=
  congrArg Host.Outcome.next ((if_neg (by simp [hw])).trans
    (by simp only [hr, Bool.false_eq_true, if_false, State.warned, State.delaysWarned]))

theorem interlock_pwr (s : State) : s.interlock.pwr = s.pwr :=
  (interlock_keep s (.refl s) rfl : Keep [.sys, .ports, .sol, .log, .hie, .mon] s _).only .pwr (by decide)

theorem interlock_banks (s : State) : s.interlock.banks = s.banks :=
  (interlock_keep s (.refl s) rfl : Keep [.sys, .ports, .sol, .log, .hie, .mon] s _).only .banks (by decide)

theorem supplyDip_pwr (s : State) : s.supplyDip.pwr = { s.pwr with releasing := false } := emit_pwr _ _

/-- The release goes on while an ON waits, and ends otherwise (R439). -/
def State.releaseOn (s : State) : State := if s.supplyHead.isNone then s.supplyDip else s

theorem releaseOn_pwr (s : State) : ∃ r, s.releaseOn.pwr = { s.pwr with releasing := r } := by
  unfold State.releaseOn
  split
  · exact ⟨false, supplyDip_pwr s⟩
  · exact ⟨s.pwr.releasing, rfl⟩

theorem releaseOn_waits (s : State) (h : s.releaseOn.pwr.releasing = true) : s.releaseOn.supplyHead.isSome = true := by
  unfold State.releaseOn at h ⊢
  split at h
  · rw [supplyDip_pwr] at h
    contradiction
  · next hs =>
    rw [if_neg hs]
    exact Option.isSome_iff_ne_none.mpr fun hn => hs (by rw [hn]; rfl)

/-- The warning has ended with VLOGIC no lower than `least` (R437, R439). -/
def State.warningOver (s : State) (least : Nat) : State := s.onPwr fun x =>
  { x with warning := false, minV := min x.minV least, dipMin := min x.minV least, dipUs := ticksUs (s.tick - s.pwr.warnAt),
           dipMs := satNat 65535 (ticksUs (s.tick - s.pwr.warnAt) / 1000), dipOrd := x.orderly, orderly := false,
           releasing := true, issued := 0, dropped := 0 }

theorem exec_supplyWarningEnd_of_warning (least : Nat) (h : s.pwr.warning = true) :
    exec (.supplyWarningEnd least) s = .next (s.warningOver least).interlock.releaseOn :=
  congrArg Host.Outcome.next (if_neg (by simp [h]))

theorem exec_orderlyPowerDown_once (hw : s.pwr.warning = true) (ho : s.pwr.orderly = false) :
    exec .orderlyPowerDown s = .next (s.orderlySaves.onPwr fun x => { x with orderly := true }) :=
  congrArg Host.Outcome.next (if_pos (by simp [hw, ho]))

theorem exec_orderlyPowerDown_of_done (h : s.pwr.warning = false ∨ s.pwr.orderly = true) :
    exec .orderlyPowerDown s = .next s :=
  congrArg Host.Outcome.next (if_neg (by rcases h with h | h <;> simp [h]))

theorem saveRtc_savedModel (s : State) : s.saveRtc.tmb.savedModel = s.tmb.savedModel := by
  unfold State.saveRtc
  split <;> rfl

theorem orderlySaves_savedModel (s : State) : s.orderlySaves.tmb.savedModel = s.tmb.model := saveRtc_savedModel _

theorem saveRtc_leaves (s : State) : s.saveRtc.gns = s.gns ∧ s.saveRtc.log = s.log :=
  have hk : Keep [.tmb] s s.saveRtc := saveRtc_keep s (.refl s) rfl
  ⟨hk.only .gns (by decide), hk.only .log (by decide)⟩

theorem orderlySaves_savedPos (s : State) : s.orderlySaves.gns.savedPos = s.gns.pos := by
  unfold State.orderlySaves State.saveOps
  rw [State.onLog_gns, (saveRtc_leaves _).1]
  rfl

theorem orderlySaves_opsSaved (s : State) : s.orderlySaves.log.opsSaved = s.log.ops := by
  unfold State.orderlySaves State.saveOps
  rw [State.onLog_log, (saveRtc_leaves _).2]
  rfl

/-! ### The release of a deferred ON (R437) -/

theorem exec_deferredOnRelease_none (hw : s.pwr.warning = false) (hr : s.pwr.releasing = true) (hh : s.supplyHead = none) :
    exec .deferredOnRelease s = .next s.supplyDip := by
  change execDeferredOnRelease s = _
  simp only [execDeferredOnRelease, hw, hr, hh, Bool.not_true, Bool.or_self, Bool.false_eq_true, if_false,
    Option.isNone_none, if_true]

theorem exec_deferredOnRelease_head {p : PortId} {d : Pend} (hw : s.pwr.warning = false) (hr : s.pwr.releasing = true)
    (hh : s.supplyHead = some p) (hd : s.sol.ports[p].pend = some d) :
    exec .deferredOnRelease s = .next (if s.tooLate d then s.dropLate p d else s.goOn p d).releaseOn := by
  change execDeferredOnRelease s = _
  simp only [execDeferredOnRelease, hw, hr, hh, hd, Bool.not_true, Bool.or_self, Bool.false_eq_true, if_false]
  rfl

theorem tooLate_iff {d : Pend} : s.tooLate d = true ↔
    d.src ≠ .forced ∧ d.forced = false ∧ (s.lateMax = 0 ∨ s.lateMax < s.tick - d.since) := by
  simp only [State.tooLate, Bool.and_eq_true, Bool.or_eq_true, bne_iff_ne, Bool.not_eq_true', beq_iff_eq, decide_eq_true_eq,
    and_assoc]

theorem dropLate_pwr (s : State) (p : PortId) (d : Pend) : (s.dropLate p d).pwr =
    { s.pwr with drop := s.pwr.drop ||| BitVec.ofNat 32 (2 ^ p.val), dropped := s.pwr.dropped + 1 } := by
  have hs : ∀ t : State, t.pwr = s.pwr → (t.onPwr fun x =>
      { x with drop := x.drop ||| BitVec.ofNat 32 (2 ^ p.val), dropped := x.dropped + 1 }).pwr =
      { s.pwr with drop := s.pwr.drop ||| BitVec.ofNat 32 (2 ^ p.val), dropped := s.pwr.dropped + 1 } := fun t h => by
    rw [State.onPwr_pwr, h]
  refine hs _ ?_
  split
  · exact ((sectRefused_keep _ _ _ _ (.refl _) rfl : Keep [.sys, .log, .mon, .sct] _ _).only .pwr (by decide)).trans
      (dropPend_pwr s p .stale)
  · exact dropPend_pwr s p .stale

theorem startWaiting_pwr (s : State) (p : PortId) : (s.startWaiting p).pwr = s.pwr :=
  (startWaiting_keep s p (.refl s) rfl : Keep [.sys, .ports, .sol, .log, .hie, .mon] s _).only .pwr (by decide)

theorem goOn_pwr (s : State) (p : PortId) (d : Pend) : (s.goOn p d).pwr =
    { s.pwr with late := s.pwr.late ||| BitVec.ofNat 32 (2 ^ p.val), issued := s.pwr.issued + 1 } := by
  unfold State.goOn
  dsimp only
  split
  · rw [onGroup_pwr, State.count_pwr, setSol_pwr, State.onPwr_pwr]
  · rw [startWaiting_pwr, State.onPwr_pwr]

end

/-! ### Banks (R431, R440 to R442) -/

section
variable {s : State} {b : BankId}

theorem finishClose_ticks (s : State) (p : PortId) (seen : Option Nat) (cut : Bool) :
    (s.finishClose p seen cut).sys.ticks = s.sys.ticks := by
  unfold State.finishClose
  dsimp only
  split
  · rfl
  · exact emitAll_ticks _ _

theorem dropPend_ticks (s : State) (p : PortId) (st : Status) : (s.dropPend p st).sys.ticks = s.sys.ticks := by
  unfold State.dropPend
  split
  · rfl
  · exact complete_ticks _ _ _

theorem endProfile_ticks (s : State) (p : PortId) (st : Status) : (s.endProfile p st).sys.ticks = s.sys.ticks := by
  have hopen : (s.finishOpen p none true).sys.ticks = s.sys.ticks := finishOpen_tick s p none true
  have hactive : ∀ t : State, (t.endActive p st).sys.ticks = t.sys.ticks := fun t => endActive_tick t p st
  unfold State.endProfile
  dsimp only
  rw [enterPhase_sys, setSol_sys, dropPend_ticks, hactive, finishClose_ticks, hopen]

theorem portDown_ticks (s : State) (p : PortId) : (s.portDown p).sys.ticks = s.sys.ticks := by
  unfold State.portDown
  dsimp only
  rw [setSol_sys]
  split
  · exact endProfile_ticks s p .notReady
  · rfl

/-- A bank whose ports have become passive, before the bank's own state is cleared. -/
def State.bankPassive (s : State) (b : BankId) : State :=
  (((bankPorts b).foldl State.portDown s).setPorts (bankPorts b) fun x =>
    { x with status := .passive, awaitCarrier := false, forced := none, outOn := false, durEnd := none, regDuty := 0, duty := 0,
             stale := true, edges := [], timeOver := 0, retryWatch := false, srcLost := true }).onHie fun h =>
      { h with orph := updAll h.orph fun p x => if (bankPorts b).contains p then {} else x }

theorem bankDown_eq (s : State) (b : BankId) :
    s.bankDown b = (s.bankPassive b).setBank b fun x => { x with load := 0, excursion := false, tripped := false } := rfl

theorem bankPassive_leaves (s : State) (b : BankId) :
    (s.bankPassive b).banks = s.banks ∧ (s.bankPassive b).sys.ticks = s.sys.ticks := by
  have hk : Keep [.sys, .ports, .sol, .log, .hie, .mon] s ((bankPorts b).foldl State.portDown s) :=
    foldl_keep (.refl s) fun t p h => portDown_keep t p h rfl
  have hticks : SameAt (fun u => u.sys.ticks) s ((bankPorts b).foldl State.portDown s) :=
    .foldl (bankPorts b) portDown_ticks (.refl s)
  unfold State.bankPassive
  rw [State.onHie_banks, State.onHie_sys, setPorts_banks, setPorts_sys]
  exact ⟨hk.only .banks (by decide), hticks⟩

theorem setBank_same (s : State) (b : BankId) (f : Bank → Bank) : (s.setBank b f).banks[b] = f s.banks[b] := upd_same _ _ _

theorem setBank_other (s : State) {b c : BankId} (f : Bank → Bank) (h : c ≠ b) : (s.setBank b f).banks[c] = s.banks[c] :=
  upd_other _ _ _ _ h.symm

/-- A bank as a fault leaves it: in reset, and cleared if it was not. -/
def Bank.heldDown (x : Bank) : Bank := if x.held then x else { load := 0, excursion := false, tripped := false, held := true }

theorem holdBank_acts (s : State) (b : BankId) : (s.holdBank b).banks[b] = s.banks[b].heldDown ∧
    (∀ c, c ≠ b → (s.holdBank b).banks[c] = s.banks[c]) ∧ (s.holdBank b).sys.ticks = s.sys.ticks := by
  unfold State.holdBank Bank.heldDown
  split
  · exact ⟨rfl, fun _ _ => rfl, rfl⟩
  · obtain ⟨hb, ht⟩ := bankPassive_leaves s b
    rw [bankDown_eq]
    refine ⟨?_, fun c hc => ?_, ht⟩
    · rw [setBank_same, setBank_same]
    · rw [setBank_other _ _ hc, setBank_other _ _ hc, hb]

theorem bankFault_of_standing {c : Fin 3} (mv : Nat) (h : s.pwr.bankf[b].since[c].isSome = true) : s.bankFault b c mv = s :=
  if_pos h

/-- The bank is held, and the cause stands from now. -/
def State.faultBegun (s : State) (b : BankId) (c : Fin 3) : State :=
  (s.holdBank b).onPwr fun x => { x with bankf := upd x.bankf b fun y => y.put c (some (s.holdBank b).tick) }

theorem bankFault_of_new {c : Fin 3} (mv : Nat) (h : s.pwr.bankf[b].since[c] = none) : ∃ e,
    s.bankFault b c mv = ((s.faultBegun b c).emit e).interlock :=
  ⟨_, if_neg (by rw [h]; exact Bool.false_ne_true)⟩

theorem bankFault_acts {c : Fin 3} (mv : Nat) (h : s.pwr.bankf[b].since[c] = none) :
    (s.bankFault b c mv).banks[b] = s.banks[b].heldDown ∧ (∀ d, d ≠ b → (s.bankFault b c mv).banks[d] = s.banks[d]) ∧
      (s.bankFault b c mv).pwr.bankf[b] = s.pwr.bankf[b].put c (some s.tick) := by
  obtain ⟨e, he⟩ := bankFault_of_new mv h
  obtain ⟨hsame, hother, hticks⟩ := holdBank_acts s b
  have hbanks : (s.bankFault b c mv).banks = (s.holdBank b).banks := by
    rw [he, interlock_banks, emit_banks]
    rfl
  have hpwr : (s.holdBank b).pwr = s.pwr :=
    (holdBank_keep s b (.refl s) rfl : Keep [.sys, .ports, .banks, .sol, .log, .hie, .mon] s _).only .pwr (by decide)
  have htick : (s.holdBank b).tick = s.tick := hticks
  refine ⟨by rw [hbanks, hsame], fun d hd => by rw [hbanks, hother d hd], ?_⟩
  rw [he, interlock_pwr, emit_pwr, State.faultBegun, State.onPwr_pwr, upd_same, hpwr, htick]

abbrev bankFaultParts : List Part := [.sys, .ports, .banks, .sol, .log, .pwr, .hie, .mon]

theorem bankFault_only (s : State) (b : BankId) (c : Fin 3) (mv : Nat) : State.Only bankFaultParts s (s.bankFault b c mv) :=
  (bankFault_keep s b c mv (.refl s) rfl : Keep bankFaultParts s _).toOnly

/-- A cause ends, and the bank leaves reset where no other stands. -/
def State.causeEnded (s : State) (b : BankId) (c : Fin 3) : State :=
  (s.onPwr fun x => { x with bankf := upd x.bankf b fun y => y.put c none }).setBank b fun x =>
    { x with held := !(upd s.pwr.bankf b fun y => y.put c none)[b].clear }

theorem exec_bankSupplyOk_of_standing {c : Fin 3} {since : Nat} (mv : Nat) (h : s.pwr.bankf[b].since[c] = some since) : ∃ e,
    exec (.bankSupplyOk b c mv) s =
      .next ((if s.rcp.applied then (s.causeEnded b c).bankUp b else s.causeEnded b c).emit e) := by
  change ∃ e, execBankSupplyOk b c mv s = _
  simp only [execBankSupplyOk, h]
  exact ⟨_, rfl⟩

theorem bankUp_leaves (s : State) (b : BankId) : (s.bankUp b).banks = s.banks ∧ (s.bankUp b).pwr = s.pwr :=
  have hk : Keep [.sys, .ports, .sol, .log, .hie, .mon] s (s.bankUp b) := bankUp_keep s b (.refl s) rfl
  ⟨hk.only .banks (by decide), hk.only .pwr (by decide)⟩

theorem exec_bankSupplyOk_of_none {c : Fin 3} (mv : Nat) (h : s.pwr.bankf[b].since[c] = none) :
    exec (.bankSupplyOk b c mv) s = .next s := by
  change execBankSupplyOk b c mv s = _
  simp only [execBankSupplyOk, h]

end

/-! ### Domains (R424, R431, R432) -/

section
variable {s : State} {d : Fin 12}

theorem exec_domainPowerFail_reset (mv : Nat) (h1 : 1 ≤ d.val) (h8 : d.val < 8) (hr : s.pwr.phase = .run) :
    exec (.domainPowerFail d mv) s = .next (s.chipReset .domain d.val) :=
  congrArg Host.Outcome.next ((if_neg (by omega)).trans ((if_pos h8).trans (if_pos hr)))

theorem exec_domainPowerFail_bank (mv : Nat) (h8 : 8 ≤ d.val) :
    exec (.domainPowerFail d mv) s = .next (s.bankFault (Fin.ofNat 4 (d.val - 8)) 2 mv) :=
  congrArg Host.Outcome.next ((if_neg (by omega)).trans (if_neg (by omega)))

/-- The value sources of a domain are marked invalid (R424). -/
def State.invalidated (s : State) (d : Fin 12) : State :=
  s.onPwr fun x => { x with invalid := x.invalid ||| BitVec.ofNat 12 (2 ^ d.val) }

/-- An input whose bank has been reset: no value counts until a new one comes (R422). -/
def Port.lostSource (x : Port) : Port := { x with srcLost := true, stale := true, edges := [] }

theorem exec_domainReset_inner (h : d.val < 8) : exec (.domainReset d) s = .next (s.invalidated d) :=
  congrArg Host.Outcome.next (if_pos h)

theorem exec_domainReset_bank (h : 8 ≤ d.val) : exec (.domainReset d) s =
    .next ((s.invalidated d).setPorts (bankPorts (Fin.ofNat 4 (d.val - 8))) .lostSource) :=
  congrArg Host.Outcome.next (if_neg (by omega))

end

/-- Settles O47: the warning, a release and a cause of a bank each set the power block by an equation of their own, and
what follows them (`State.interlock`, `State.bankUp`) leaves it. -/
theorem supplyWarningsBanksAndDomains : Obligations.SupplyWarningsBanksAndDomains := by
  refine ⟨fun mv s hw hr => ?warning, fun mv s hw => ?again, fun s hw ho => ?orderly, fun s h => ?orderlyDone,
    fun v s hw => ?ended, fun s hw hr hh => ?noneWaits, fun p d s hw hr hh hd hsrc hf hl => ?late,
    fun p d s hw hr hh hd hl => ?goesOn, fun b o mv s hn => ?fault, fun b o mv s hs => ?standing, fun b c mv s hs => ?ends,
    fun b c mv s hn => ?noCause, fun d mv s h1 h8 hr => ?reset, fun d mv s h8 hn => ?bank, fun d s h8 => ?inner,
    fun d s h8 => ?outer⟩
  case warning =>
    have he := exec_supplyWarning_begins mv hw hr
    exact ⟨_, he, by rw [interlock_pwr, warned_pwr], next_only (execSupplyWarning_keep mv s (.refl s) rfl) he⟩
  case again =>
    exact ⟨_, congrArg Host.Outcome.next (if_pos hw), rfl, (onPwr_keep s _ (.refl s) rfl : Keep [.pwr] s _).toOnly⟩
  case orderly =>
    have hk : Keep [.sol, .log, .pwr, .tmb, .gns, .fan] s (s.orderlySaves.onPwr fun x => { x with orderly := true }) :=
      onPwr_keep _ _ (orderlySaves_keep s (.refl s) rfl) rfl
    have hpwr : s.orderlySaves.pwr = s.pwr :=
      (orderlySaves_keep s (.refl s) rfl : Keep [.sol, .log, .tmb, .gns, .fan] s _).only .pwr (by decide)
    exact ⟨_, exec_orderlyPowerDown_once hw ho, by rw [State.onPwr_pwr, hpwr], orderlySaves_savedModel s,
      orderlySaves_savedPos s, orderlySaves_opsSaved s, hk.toOnly⟩
  case orderlyDone => exact ⟨s, exec_orderlyPowerDown_of_done h, rfl⟩
  case ended =>
    have he := exec_supplyWarningEnd_of_warning v hw
    obtain ⟨r, hr⟩ := releaseOn_pwr (s.warningOver v).interlock
    rw [interlock_pwr] at hr
    exact ⟨_, he, by rw [hr]; rfl, by rw [hr]; rfl, by rw [hr]; rfl, by rw [hr]; rfl, releaseOn_waits _,
      next_only (execSupplyWarningEnd_keep v s (.refl s) rfl) he⟩
  case noneWaits =>
    exact ⟨_, exec_deferredOnRelease_none hw hr hh, supplyDip_pwr s,
      (supplyDip_keep s (.refl s) rfl : Keep [.sys, .log, .pwr, .mon] s _).toOnly⟩
  case late =>
    have he := exec_deferredOnRelease_head hw hr hh hd
    obtain ⟨r, hr⟩ := releaseOn_pwr (s.dropLate p d)
    rw [if_pos (tooLate_iff.mpr ⟨hsrc, hf, hl⟩)] at he
    rw [dropLate_pwr] at hr
    exact ⟨_, he, by rw [hr], by rw [hr], by rw [hr], next_only (execDeferredOnRelease_keep s (.refl s) rfl) he⟩
  case goesOn =>
    have he := exec_deferredOnRelease_head hw hr hh hd
    obtain ⟨r, hr⟩ := releaseOn_pwr (s.goOn p d)
    have hnot : ¬ s.tooLate d = true := fun h => by
      obtain ⟨hsrc, hf, hlate⟩ := tooLate_iff.mp h
      rcases hl with hl | hl | ⟨hmax, hin⟩
      · exact hsrc hl
      · rw [hf] at hl
        contradiction
      · exact hlate.elim hmax (by omega)
    rw [if_neg hnot] at he
    rw [goOn_pwr] at hr
    exact ⟨_, he, by rw [hr], by rw [hr], by rw [hr], next_only (execDeferredOnRelease_keep s (.refl s) rfl) he⟩
  case fault =>
    obtain ⟨hsame, hother, hcause⟩ := bankFault_acts mv hn
    exact ⟨_, rfl, hsame, hother, hcause, bankFault_only s b _ mv⟩
  case standing => exact ⟨s, congrArg Host.Outcome.next (bankFault_of_standing mv hs), rfl⟩
  case ends =>
    obtain ⟨since, hsince⟩ := Option.isSome_iff_exists.mp hs
    obtain ⟨e, he⟩ := exec_bankSupplyOk_of_standing mv hsince
    have hup : ∀ t, t = (if s.rcp.applied then (s.causeEnded b c).bankUp b else s.causeEnded b c) →
        t.banks = (s.causeEnded b c).banks ∧ t.pwr = (s.causeEnded b c).pwr := by
      rintro t rfl
      split
      · exact bankUp_leaves _ b
      · exact ⟨rfl, rfl⟩
    obtain ⟨hbanks, hpwr⟩ := hup _ rfl
    refine ⟨_, he, ?_, fun d hd => ?_, ?_, next_only (execBankSupplyOk_keep b c mv s (.refl s) rfl) he⟩
    · rw [emit_banks, hbanks, State.causeEnded, setBank_same, upd_same]
      rfl
    · rw [emit_banks, hbanks, State.causeEnded, setBank_other _ _ hd]
      rfl
    · rw [emit_pwr, hpwr]
      exact upd_same _ _ _
  case noCause => exact ⟨s, exec_bankSupplyOk_of_none mv hn, rfl⟩
  case reset =>
    have hr := chipReset_resets s .domain d.val
    exact ⟨_, exec_domainPowerFail_reset mv h1 h8 ‹_›, hr.phase, hr.latched, rfl, hr.ports, hr.sessions, hr.mem, hr.applied,
      hr.pending⟩
  case bank =>
    obtain ⟨hsame, -, hcause⟩ := bankFault_acts mv hn
    refine ⟨_, exec_domainPowerFail_bank mv h8, ?_, hcause, bankFault_only s _ 2 mv⟩
    rw [hsame, Bank.heldDown]
    split
    · assumption
    · rfl
  case inner =>
    exact ⟨_, exec_domainReset_inner h8, rfl, (onPwr_keep s _ (.refl s) rfl : Keep [.pwr] s _).toOnly⟩
  case outer =>
    have hget := setPorts_get (s.invalidated d) (bankPorts (Fin.ofNat 4 (d.val - 8))) .lostSource
    have hk : Keep [.ports, .pwr] s
      ((s.invalidated d).setPorts (bankPorts (Fin.ofNat 4 (d.val - 8))) .lostSource) :=
      setPorts_keep _ _ _ (onPwr_keep s _ (.refl s) rfl) rfl
    refine ⟨_, exec_domainReset_bank h8, rfl, fun p hp => ?_, fun p hp => ?_, hk.toOnly⟩
    · rw [hget, if_pos (by simpa using hp)]
      rfl
    · rw [hget, if_neg (by simpa using hp)]
      rfl

end Sys2Proof.Machine
end

section
/-! SUPPORT. What ends a session, and the gate of the security core's commands. -/

namespace Sys2Proof.Machine

open Sys2Proof

/-! ### Vectors -/

theorem upd_upd {α : Type} {n : Nat} (v : Vector α n) (i : Fin n) (f g : α → α) :
    upd (upd v i f) i g = upd v i fun x => g (f x) := by
  have hset : (v.set i (f v[i])).set i (g (v.set i (f v[i]))[i]) = v.set i (g (v.set i (f v[i]))[i]) :=
    Vector.set_set _ _
  exact hset.trans (congrArg (fun x => v.set i (g x)) (upd_same v i f))

theorem upd_of_fixed {α : Type} {n : Nat} {v : Vector α n} {i : Fin n} {f : α → α} (h : f v[i] = v[i]) : upd v i f = v := by
  unfold upd
  rw [h]
  exact Vector.set_getElem_self _

/-! ### The end of a session (R315) -/

/-- A session number after the session has ended. -/
def Session.ended (x : Session) : Session := if x.isOpen then {} else x

theorem ended_of_open {x : Session} (h : x.isOpen = true) : x.ended = {} := if_pos h

theorem ended_of_closed {x : Session} (h : x.isOpen = false) : x.ended = x := if_neg (by rw [h]; exact Bool.false_ne_true)

/-- The failures of a session are counted on its own number alone. -/
theorem flushFails_sec (s : State) (k : SessId) : ∃ f, (s.flushFails k).sec = { s.sec with sessions := upd s.sec.sessions k f } := by
  unfold State.flushFails
  dsimp only
  split
  · exact ⟨id, by rw [upd_of_fixed rfl]⟩
  · refine ⟨fun x => { x with fails := 0, failAns := 0 }, ?_⟩
    rw [State.setSess, sessEmit_sec]

theorem abortAll_sec (s : State) (c : CanId) (k : SessId) : (s.abortAll c k).sec = s.sec :=
  (abortAll_keep s c k (.refl s) rfl : Keep [.sys, .log, .mon, .can, .hl] s _).only .sec (by decide)

theorem dropOwner_sec (s : State) (k : SessId) : (s.dropOwner k).sec = s.sec :=
  (dropOwner_keep s k (.refl s) rfl : Keep [.sys, .log, .mon, .apu, .dma] s _).only .sec (by decide)

theorem endSession_sec (s : State) (k : SessId) (cause : Nat) :
    (s.endSession k cause).sec = { s.sec with sessions := upd s.sec.sessions k .ended } := by
  unfold State.endSession
  dsimp only
  split
  · next h =>
    have hx : s.sec.sessions[k].isOpen = false := by simpa only [Bool.not_eq_true'] using h
    rw [upd_of_fixed (ended_of_closed hx)]
  · next h =>
    have hx : s.sec.sessions[k].isOpen = true := by simpa only [Bool.not_eq_true', Bool.not_eq_false] using h
    have hfold : ∀ t : State, ((idx 4).foldl (fun (s : State) (c : CanId) => s.abortAll c k) t).sec = t.sec := fun t =>
      SameAt.foldl (f := State.sec) (idx 4) (fun u c => abortAll_sec u c k) (.refl t)
    obtain ⟨f, hf⟩ := flushFails_sec s k
    rw [hfold, dropOwner_sec, dropEntries_sec, State.onHl_sec, State.setSess, sessEmit_sec, hf, upd_upd]
    refine congrArg (fun v => { s.sec with sessions := v }) ?_
    unfold upd
    rw [ended_of_open hx]

theorem endSessions_sec (l : List SessId) (s : State) (cause : Nat) :
    (l.foldl (fun (s : State) (j : SessId) => s.endSession j cause) s).sec =
      { s.sec with sessions := l.foldl (fun v j => upd v j .ended) s.sec.sessions } := by
  induction l generalizing s with
  | nil => rfl
  | cons j l ih => rw [List.foldl_cons, ih, endSession_sec, List.foldl_cons]

/-- Every session that is open has ended, and nothing else of the security core has changed. -/
theorem endAll_sec (s : State) (cause : Nat) : ∃ v, (s.endAll cause).sec = { s.sec with sessions := v } ∧
    ∀ j : SessId, v[j] = s.sec.sessions[j].ended :=
  ⟨_, endSessions_sec (idx 4) s cause, fun j => foldl_upd_idx (fun _ => Session.ended) s.sec.sessions j⟩

/-! ### The gate of SEC_CMD (R316) -/

theorem answer_eq_told (s u : State) (k : SessId) {st : Status} (h : st ≠ .interlock) :
    u.answer (s.me k) st = u.told (s.me k) st := by
  simp only [State.answer, State.me, if_neg h]
  rfl

/-- SEC_KEYIN of a session cleared. -/
def Session.wiped (x : Session) : Session := { x with keyin := Vector.replicate 9 0 }

theorem clearKeyin_sec (s : State) (k : SessId) :
    (s.clearKeyin k).sec = { s.sec with sessions := upd s.sec.sessions k .wiped } := rfl

theorem clearKeyin_leaves (s : State) (k : SessId) : (s.clearKeyin k).sys = s.sys ∧ (s.clearKeyin k).rcp = s.rcp ∧
    (s.clearKeyin k).mem = s.mem := ⟨rfl, rfl, rfl⟩

/-- A security command that has come from `s` to `u`: its key inputs are cleared and its status is given. -/
def State.secDone (s u : State) (k : SessId) (st : Status) : State := (u.clearKeyin k).told (s.me k) st

section
variable {o : Out} {s u : State} {k : SessId} {g st : Status} {go : State → State × Status}

theorem secDone_sec (s u : State) (k : SessId) (st : Status) :
    (s.secDone u k st).sec = { u.sec with sessions := upd u.sec.sessions k .wiped } := rfl

theorem secDone_sys (s u : State) (k : SessId) (st : Status) :
    (s.secDone u k st).sys = { u.sys with answers := ⟨s.me k, st⟩ :: u.sys.answers } := rfl

theorem secDone_rcp (s u : State) (k : SessId) (st : Status) : (s.secDone u k st).rcp = u.rcp := rfl

theorem secDone_mem (s u : State) (k : SessId) (st : Status) : (s.secDone u k st).mem = u.mem := rfl

theorem secDone_head (s u : State) (k : SessId) (st : Status) : (s.secDone u k st).sys.answers.head? = some ⟨s.me k, st⟩ := rfl

theorem secDone_only {fr : List Part} (h : Keep fr s u) (hp : sub [.sys, .sec] fr = true) :
    State.Only fr s (s.secDone u k st) :=
  told_only (s.me k) st (clearKeyin_keep u k h (sub_of hp rfl)) (sub_of hp rfl)

theorem secGated_of_ok (he : o = .next (s.secGated k g go)) (hg : g = .ok) (hr : go s = (u, st)) (hst : st ≠ .interlock) :
    o = .next (s.secDone u k st) := by
  subst hg he
  exact congrArg _ ((congrArg (fun r : State × Status => (r.1.clearKeyin k).answer (s.me k) r.2) hr).trans (answer_eq_told s _ k hst))

/-- What a refusal leaves: the key inputs are cleared and the status is given. -/
theorem secDone_refused (he : o = .next (s.secDone s k st)) : ∃ t, o = .next t ∧
    t.sec = { s.sec with sessions := upd s.sec.sessions k fun x => { x with keyin := Vector.replicate 9 0 } } ∧
    t.sys = { s.sys with answers := ⟨s.me k, st⟩ :: s.sys.answers } ∧ State.Only [.sys, .sec] s t :=
  ⟨_, he, rfl, rfl, secDone_only (.refl s) rfl⟩

theorem secGated_refuses (he : o = .next (s.secGated k g go)) (hg : g = .ok) (hr : go s = (s, st)) (hst : st ≠ .interlock) :
    ∃ t, o = .next t ∧
      t.sec = { s.sec with sessions := upd s.sec.sessions k fun x => { x with keyin := Vector.replicate 9 0 } } ∧
      t.sys = { s.sys with answers := ⟨s.me k, st⟩ :: s.sys.answers } ∧ State.Only [.sys, .sec] s t :=
  secDone_refused (secGated_of_ok he hg hr hst)

theorem secGated_denies (he : o = .next (s.secGated k g go)) (hg : g = .denied) : ∃ t, o = .next t ∧
    t.sec = { s.sec with sessions := upd s.sec.sessions k fun x => { x with keyin := Vector.replicate 9 0 } } ∧
    t.sys = { s.sys with answers := ⟨s.me k, .denied⟩ :: s.sys.answers } ∧ State.Only [.sys, .sec] s t := by
  subst hg he
  exact secDone_refused (congrArg _ (answer_eq_told s (s.clearKeyin k) k (st := .denied) (by decide)))

end

end Sys2Proof.Machine
end

section
/-! SUPPORT. Owner key slots, the hierarchy root and its epochs, and the runtime images. -/

namespace Sys2Proof.Machine

open Sys2Proof

/-- A command passes its gate in a session that is open alone (R308). -/
theorem open_of_gate {s : State} {k : SessId} {r : Nat} (h : s.gate k r = .ok) : s.sec.sessions[k].isOpen = true := by
  unfold State.gate State.gateRight at h
  split at h
  · contradiction
  · split at h
    · contradiction
    · next hx => rwa [Bool.not_eq_true', Bool.not_eq_false] at hx

/-- A session that ends under its own command leaves no key inputs to clear. -/
theorem wiped_of_ended {v : Vector Session 4} {k : SessId} (h : v[k].isOpen = true) :
    upd (upd v k .ended) k .wiped = upd v k fun _ => {} := by
  have he : v[k].ended.wiped = ({} : Session) := congrArg Session.wiped (ended_of_open h)
  rw [upd_upd]
  exact congrArg (fun x => v.set k x) he

/-! ### FUSE (R314, R316) -/

section
variable {s : State} {i : Fin 4} {k : SessId}

/-- The slot enabled with the key hash of SEC_KEYIN. -/
def State.fused (s : State) (i : Fin 4) (k : SessId) : State := s.setKeySlot i fun _ => { st := .enabled, hash := s.keyin k 8 }

theorem fused_sec (s : State) (i : Fin 4) (k : SessId) :
    (s.fused i k).sec = { s.sec with slots := upd s.sec.slots i fun _ => { st := .enabled, hash := s.keyin k 8 } } := rfl

theorem fused_keep (h : s.sec.slots[i].st = .empty) : Keep [.sys, .log, .sec, .mon] s (s.fused i k) :=
  setKeySlot_keep s i _ (.refl s) (by rw [h]; exact Nat.zero_le _) rfl

theorem cmdFuse_of_used (h : s.sec.slots[i].st ≠ .empty) : s.cmdFuse i k = (s, .limit) := if_pos h

theorem cmdFuse_of_empty (h : s.sec.slots[i].st = .empty) (hc : s.sec.sessions[k].st ≠ .claim) : ∃ n,
    s.cmdFuse i k = ((s.fused i k).sessEmit 0x0306 k i.val n, .ok) := by
  refine ⟨_, (if_neg (not_not_intro h)).trans (if_neg ?_)⟩
  rw [sessEmit_sec]
  exact hc

/-- A claim session ends after the FUSE, of whatever events it has recorded. -/
theorem cmdFuse_of_claim (h : s.sec.slots[i].st = .empty) (hc : s.sec.sessions[k].st = .claim) : ∃ (u : State) (n : Nat),
    s.cmdFuse i k = (u.endSession k n, .ok) ∧ u.sec = (s.fused i k).sec := by
  refine ⟨_, _, (if_neg (not_not_intro h)).trans (if_pos ?_), ?_⟩
  · rw [sessEmit_sec]
    exact hc
  · rw [draw_sec, sessEmit_sec, sessEmit_sec]
    rfl

theorem open_of_claim (h : s.sec.sessions[k].st = .claim) : s.sec.sessions[k].isOpen = true := by
  rw [Session.isOpen, h]
  rfl

/-! ### REVOKE (R316) -/

/-- The conditions of REVOKE in their order. -/
def State.revokeChecks (s : State) (i : Fin 4) (k : SessId) : Status :=
  firstFail [(s.sec.slots[i].st == .enabled && (idx 4).any fun j => j != i && s.sec.slots[j].st == .enabled, .limit),
    (s.sec.sessions[k].kslot != i.val, .denied),
    (!(s.rcp.applied && recipeKslot (s.slotOf s.rcp.inForce).bytes == i.val), .recipeLocked)]

/-- The sessions under a slot. -/
def State.under (s : State) (i : Fin 4) : List SessId :=
  (idx 4).filter fun j => s.sec.sessions[j].isOpen && s.sec.sessions[j].kslot == i.val

/-- The slot revoked and the sessions under it ended. -/
def State.keyRevoked (s : State) (i : Fin 4) : State :=
  (s.under i).foldl (fun (s : State) (j : SessId) => s.endSession j 6) (s.setKeySlot i fun x => { x with st := .revoked })

/-- The other Recipe slot is VALID under an owner slot. -/
def State.otherUnder (s : State) (i : Fin 4) : Bool :=
  (s.slotOf s.rcp.inForce.other).status == .valid && recipeKslot (s.slotOf s.rcp.inForce.other).bytes == i.val

/-- A Recipe of the other slot under the revoked one becomes INVALID. -/
def State.otherJudged (s : State) (i : Fin 4) : State :=
  if s.otherUnder i then
    s.setSlotOf s.rcp.inForce.other fun x => { x with status := .invalid, errc := 7, sect := 0, digest := [] }
  else s

theorem cmdRevoke_of_ok (h : s.revokeChecks i k = .ok) :
    s.cmdRevoke i k = (((s.keyRevoked i).otherJudged i).sessEmit 0x0307 k i.val (s.under i).length, .ok) := by
  unfold State.cmdRevoke
  dsimp only
  split
  · rfl
  · next hne => exact absurd h hne

theorem cmdRevoke_of_refused {st : Status} (h : s.revokeChecks i k = st) (hst : st ≠ .ok) : s.cmdRevoke i k = (s, st) := by
  unfold State.cmdRevoke
  dsimp only
  split
  · next hok => exact absurd (h.symm.trans hok) hst
  · exact congrArg (Prod.mk s) h

/-- REVOKE keeps one slot enabled (R316). -/
theorem revocable_iff : (s.sec.slots[i].st == .enabled && (idx 4).any fun j => j != i && s.sec.slots[j].st == .enabled) = true ↔
    s.sec.slots[i].st = .enabled ∧ ∃ j : Fin 4, j ≠ i ∧ s.sec.slots[j].st = .enabled := by
  simp only [Bool.and_eq_true, beq_iff_eq, List.any_eq_true, bne_iff_ne, idx, List.mem_finRange, true_and]

theorem revokeChecks_limit (h : s.sec.slots[i].st ≠ .enabled ∨ ¬ ∃ j : Fin 4, j ≠ i ∧ s.sec.slots[j].st = .enabled) :
    s.revokeChecks i k = .limit :=
  if_neg fun hok => (revocable_iff.mp hok).elim fun he ho => h.elim (fun hn => hn he) fun hn => hn ho

section
variable (he : s.sec.slots[i].st = .enabled) (ho : ∃ j : Fin 4, j ≠ i ∧ s.sec.slots[j].st = .enabled)
include he ho

theorem revokeChecks_denied (hk : s.sec.sessions[k].kslot = i.val) : s.revokeChecks i k = .denied :=
  (if_pos (revocable_iff.mpr ⟨he, ho⟩)).trans (if_neg (by rw [hk, bne_self_eq_false]; exact Bool.false_ne_true))

theorem revokeChecks_others (hk : s.sec.sessions[k].kslot ≠ i.val) : s.revokeChecks i k =
    if !(s.rcp.applied && recipeKslot (s.slotOf s.rcp.inForce).bytes == i.val) then .ok else .recipeLocked :=
  (if_pos (revocable_iff.mpr ⟨he, ho⟩)).trans (if_pos (bne_iff_ne.mpr hk))

theorem revokeChecks_ok (hk : s.sec.sessions[k].kslot ≠ i.val)
    (hr : ¬ (s.rcp.applied = true ∧ recipeKslot (s.slotOf s.rcp.inForce).bytes = i.val)) : s.revokeChecks i k = .ok :=
  (revokeChecks_others he ho hk).trans (if_pos (by
    rw [Bool.not_eq_true', Bool.and_eq_false_iff, beq_eq_false_iff_ne, ← Bool.not_eq_true]
    exact not_and_or.mp hr))

theorem revokeChecks_locked (hk : s.sec.sessions[k].kslot ≠ i.val) (ha : s.rcp.applied = true)
    (hr : recipeKslot (s.slotOf s.rcp.inForce).bytes = i.val) : s.revokeChecks i k = .recipeLocked :=
  (revokeChecks_others he ho hk).trans (if_neg (by simp [ha, hr]))

end

theorem mem_under {j : SessId} : j ∈ s.under i ↔ s.sec.sessions[j].isOpen = true ∧ s.sec.sessions[j].kslot = i.val := by
  simp only [State.under, List.mem_filter, idx, List.mem_finRange, true_and, Bool.and_eq_true, beq_iff_eq]

theorem keyRevoked_slots (s : State) (i : Fin 4) :
    (s.keyRevoked i).sec.slots = upd s.sec.slots i fun x => { x with st := .revoked } :=
  congrArg SecState.slots (endSessions_sec _ _ 6)

theorem keyRevoked_session (s : State) (i : Fin 4) (j : SessId) : (s.keyRevoked i).sec.sessions[j] =
    if j ∈ s.under i then s.sec.sessions[j].ended else s.sec.sessions[j] := by
  have hv := congrArg SecState.sessions (endSessions_sec (s.under i) (s.setKeySlot i fun x => { x with st := .revoked }) 6)
  exact (congrArg (fun v : Vector Session 4 => v[j]) hv).trans
    (foldl_upd_get (fun _ => Session.ended) ((List.nodup_finRange 4).filter _) s.sec.sessions j)

theorem keyRevoked_rcp (s : State) (i : Fin 4) : (s.keyRevoked i).rcp = s.rcp :=
  SameAt.foldl (f := State.rcp) (s.under i) (fun u j =>
    (endSession_keep u j 6 (.refl u) rfl : Keep [.sys, .log, .sec, .mon, .can, .hl, .apu, .dma] u _).only .rcp (by decide))
    (show SameAt State.rcp s (s.setKeySlot i fun x => { x with st := .revoked }) from rfl)

theorem otherJudged_sec (s : State) (i : Fin 4) : (s.otherJudged i).sec = s.sec := by
  unfold State.otherJudged
  split <;> rfl

theorem otherJudged_other (h : s.otherUnder i = true) :
    ((s.otherJudged i).slotOf s.rcp.inForce.other).status = .invalid ∧
      ((s.otherJudged i).slotOf s.rcp.inForce.other).errc = 7 := by
  rw [State.otherJudged, if_pos h, slotOf_setSlotOf_same]
  exact ⟨rfl, rfl⟩

theorem otherJudged_inForce (s : State) (i : Fin 4) : (s.otherJudged i).slotOf s.rcp.inForce = s.slotOf s.rcp.inForce := by
  unfold State.otherJudged
  split
  · exact slotOf_setSlotOf_other s _ (otherSlot_ne _).symm
  · rfl

theorem slotOf_of_rcp {s t : State} (h : t.rcp = s.rcp) (x : RcpSlot) : t.slotOf x = s.slotOf x :=
  slotOf_congr (congrArg RcpState.slots h) x

theorem otherUnder_of_rcp {s t : State} (h : t.rcp = s.rcp) (i : Fin 4) : t.otherUnder i = s.otherUnder i := by
  unfold State.otherUnder
  rw [h, slotOf_of_rcp h]

end

/-! ### The hierarchy root and its epochs (R317 to R319) -/

section
variable {s : State} {k : SessId}

/-- The root of SEC_KEYIN installed, with its epoch and no rotation. -/
def State.rooted (s : State) (k : SessId) : State := s.onSec fun x =>
  { x with root := some (s.keyin k 8), epoch := (s.sec.sessions[k].keyin[8]).toNat, oldEpoch := none, rotation := none,
           rerooted := true, staleAt := none, staleRec := false }

theorem cmdHkey_eq (s : State) (k : SessId) : ∃ n, s.cmdHkey k = ((s.rooted k).sessEmit 0x0308 k n 0, .ok) := ⟨_, rfl⟩

/-- A rotation to the next epoch announced. -/
def State.rotating (s : State) : State :=
  s.onSec fun x => { x with rotation := some (s.sec.epoch + 1, s.secs + 4), announce := 3 }

theorem startRotation_of_none (h : s.sec.rotation = none) : s.startRotation = s.rotating := by
  unfold State.startRotation
  rw [h]
  rfl

theorem startRotation_of_some {r : Nat × Nat} (h : s.sec.rotation = some r) : s.startRotation = s := by
  unfold State.startRotation
  rw [h]

theorem startRotation_keeps (s : State) : Keep [.sys, .sec] s s.startRotation := startRotation_keep s (.refl s) rfl

theorem cmdRotate_of_manager (h : s.isWorker = false) : s.cmdRotate = (s.startRotation, .ok) :=
  if_neg (by rw [h]; exact Bool.false_ne_true)

theorem cmdRotate_of_worker (h : s.isWorker = true) : s.cmdRotate = (s, .limit) := if_pos h

theorem exec_epochRotationDue {r : List Byte} (hw : s.isWorker = false) (hr : s.sec.root = some r) :
    exec .epochRotationDue s = .next s.startRotation :=
  congrArg Host.Outcome.next (if_neg (by rw [hw, hr]; exact Bool.false_ne_true))

theorem exec_epochRotationDue_none (h : s.isWorker = true ∨ s.sec.root = none ∨ s.sec.rotation.isSome = true) :
    exec .epochRotationDue s = .next s := by
  by_cases hc : (s.isWorker || s.sec.root.isNone) = true
  · exact congrArg Host.Outcome.next (if_pos hc)
  · refine (congrArg Host.Outcome.next (if_neg hc)).trans ?_
    simp only [Bool.or_eq_true, Option.isNone_iff_eq_none, not_or] at hc
    obtain ⟨r, hr⟩ := Option.isSome_iff_exists.mp ((h.resolve_left hc.1).resolve_left hc.2)
    rw [startRotation_of_some hr]

/-- The rotation that a KEY_ROTATE of the manager names. -/
def State.rotationTold (s : State) (b : List Byte) : State :=
  s.onSec fun x => { x with rotation := some (fieldAt b 4 4, s.rebuild 0 (fieldAt b 8 4) / 2 ^ 32) }

theorem exec_keyRotate_of_known {n : Nat} (b : List Byte) (h : s.known n = true) :
    exec (.keyRotate n b) s = .next ((s.accepted n).rxRotate n b) :=
  congrArg Host.Outcome.next (fromKnown_of_known (fun s => s.rxRotate n b) h)

theorem rxRotate_of_manager {b : List Byte} (hw : s.isWorker = true) : s.rxRotate 0 b = s.rotationTold b :=
  if_neg (by simp [hw])

theorem rxRotate_of_other {n : Nat} {b : List Byte} (h : n ≠ 0 ∨ s.isWorker = false) : s.rxRotate n b = s :=
  if_pos (h.imp id fun h => by rw [h]; rfl)

theorem exec_epochActivation_of_some {e n : Nat} (h : s.sec.rotation = some (e, n)) : exec .epochActivation s =
    .next ((s.onSec fun x => { x with oldEpoch := some (x.epoch, n + 2), epoch := e, rotation := none, rotOps := s.log.ops }).secEmit
      0x0309 e 1) := by
  change execEpochActivation s = _
  unfold execEpochActivation
  rw [h]

theorem exec_epochActivation_of_none (h : s.sec.rotation = none) : exec .epochActivation s = .next s := by
  change execEpochActivation s = _
  unfold execEpochActivation
  rw [h]

theorem exec_keyStale_of_new {x : Nat × Nat × Nat} (h : s.sec.staleAt = some x) (hr : s.sec.staleRec = false) :
    exec .keyStale s = .next ((s.onSec fun y => { y with staleRec := true }).secEmit 0x030E x.2.1 x.2.2) := by
  change execKeyStale s = _
  unfold execKeyStale
  rw [h, hr]

theorem exec_keyStale_of_done (h : s.sec.staleAt = none ∨ s.sec.staleRec = true) : exec .keyStale s = .next s := by
  change execKeyStale s = _
  unfold execKeyStale
  split
  · next hsome hfalse =>
    rcases h with h | h
    · rw [h] at hsome
      contradiction
    · rw [h] at hfalse
      contradiction
  · rfl

theorem secEmit_sec (s : State) (code a b : Nat) : (s.secEmit code a b).sec = s.sec := emit_sec _ _

theorem exec_counterFloorWrite (s : State) : ∃ t, exec .counterFloorWrite s = .next t ∧
    t.sec = { s.sec with hfloor := if s.sec.hfloor ≤ s.sec.hctr + 2 ^ 23 then s.sec.hfloor + 2 ^ 24 else s.sec.hfloor } ∧
    State.Only [.sec] s t := by
  by_cases h : s.sec.hfloor ≤ s.sec.hctr + 2 ^ 23
  · have he : exec .counterFloorWrite s = .next (s.onSec fun x => { x with hfloor := x.hfloor + 2 ^ 24 }) :=
      congrArg Host.Outcome.next (if_pos h)
    refine ⟨_, he, ?_, next_only (execCounterFloorWrite_keep s (.refl s) rfl) he⟩
    rw [if_pos h, State.onSec_sec]
  · have he : exec .counterFloorWrite s = .next s := congrArg Host.Outcome.next (if_neg h)
    refine ⟨_, he, ?_, next_only (execCounterFloorWrite_keep s (.refl s) rfl) he⟩
    rw [if_neg h]

/-! ### Runtime images (R305) -/

/-- A staged image in the place of image `i`. -/
def State.imageSet (s : State) (i : Fin 2) (b : List Byte) : State := s.onSec fun x =>
  { x with images := upd x.images i fun _ =>
      { version := (Config.runtimeImage b).getD 0, bytes := b, ok := (Config.runtimeImage b).isSome } }

variable {i : Fin 2}

theorem cmdRtWrite_of_staged {b : List Byte} (hr : ¬ (s.pwr.runtime = true ∧ i = s.sec.running))
    (ha : s.sec.arg0.toNat % 16 = 0) (hb : s.sessRead k s.sec.arg0.toNat s.sec.arg1.toNat = some b) : ∃ n,
    s.cmdRtWrite i k = ((s.imageSet i b).sessEmit 0x030D k n i.val, .ok) := by
  unfold State.cmdRtWrite
  rw [if_neg hr, if_neg (not_not_intro ha), hb]
  exact ⟨_, rfl⟩

theorem cmdRtWrite_of_running (hr : s.pwr.runtime = true) (hi : i = s.sec.running) : s.cmdRtWrite i k = (s, .limit) :=
  if_pos ⟨hr, hi⟩

theorem cmdRtWrite_of_unread (hr : ¬ (s.pwr.runtime = true ∧ i = s.sec.running))
    (h : s.sec.arg0.toNat % 16 ≠ 0 ∨ s.sessRead k s.sec.arg0.toNat s.sec.arg1.toNat = none) :
    s.cmdRtWrite i k = (s, .badAddr) := by
  unfold State.cmdRtWrite
  rw [if_neg hr]
  split
  · rfl
  · next ha => rw [h.resolve_left ha]

end

/-- Settles O51: a key command is its effect behind `State.secGated`, whose sessions end by `endSessions_sec`. -/
theorem keyCommandsAct : Obligations.KeyCommandsAct := by
  refine ⟨fun i k s hg he hc => ?fuse, fun i k s hg he hc => ?claim, fun i k s hg he => ?fuseLimit,
    fun i k s hg he ho hk hr => ?revoke, fun i k s hg h => ?revokeLimit, fun i k s hg he ho hk => ?revokeDenied,
    fun i k s hg he ho hk ha hr => ?revokeLocked, fun k s hg => ?hkey, fun k s hg hw => ?rotate, fun k s hg hw => ?rotateLimit,
    fun r s hw hr hn => ?due, fun s h => ?dueNot, fun b s hk hw => ?told, fun n b s h => ?toldNot, fun e n s h => ?activation,
    fun s h => ?activationNot, fun x s h hr => ?stale, fun s h => ?staleNot, fun s => exec_counterFloorWrite s,
    fun i k b s hg hr ha hb => ?rtWrite, fun i k s hg hr hi => ?rtLimit, fun i k s hg hr h => ?rtBad,
    fun c i k s hc hg => ?denied, fun s hr => ?floor⟩
  case fuse =>
    obtain ⟨n, hn⟩ := cmdFuse_of_empty he hc
    have hx := secGated_of_ok (o := exec (.fuse i k) s) (go := fun s => s.cmdFuse i k) rfl hg hn (by decide)
    exact ⟨_, hx, by rw [secDone_sec, sessEmit_sec]; rfl, rfl,
      secDone_only (sessEmit_keep _ _ _ _ _ (fused_keep he) rfl) rfl⟩
  case claim =>
    obtain ⟨u, n, hn, hu⟩ := cmdFuse_of_claim he hc
    have hx := secGated_of_ok (o := exec (.fuse i k) s) (go := fun s => s.cmdFuse i k) rfl hg hn (by decide)
    have hk := cmdFuse_keep s i k (.refl s) (rfl : sub _ [.sys, .log, .sec, .mon, .can, .hl, .apu, .dma] = true)
    rw [hn] at hk
    refine ⟨_, hx, ?_, rfl, secDone_only hk rfl⟩
    rw [secDone_sec, endSession_sec, hu, fused_sec]
    exact congrArg (fun v => { (s.fused i k).sec with sessions := v }) (wiped_of_ended (open_of_claim hc))
  case fuseLimit =>
    exact secGated_refuses (go := fun s => s.cmdFuse i k) rfl hg (cmdFuse_of_used he) (by decide)
  case revoke =>
    have hn := cmdRevoke_of_ok (revokeChecks_ok he ho hk hr)
    have hx := secGated_of_ok (o := exec (.revoke i k) s) (go := fun s => s.cmdRevoke i k) rfl hg hn (by decide)
    have hkeep := cmdRevoke_keep s i k (.refl s)
      (rfl : sub _ [.sys, .log, .rcp, .sec, .mon, .can, .hl, .apu, .dma] = true)
    rw [hn] at hkeep
    have hrcp := keyRevoked_rcp s i
    refine ⟨_, hx, ?_, rfl, fun j hj hjk => ?_, fun j hj hjn => ?_, fun hv hb => ?_, ?_, secDone_only hkeep rfl⟩
    · rw [secDone_sec, sessEmit_sec, otherJudged_sec]
      exact keyRevoked_slots s i
    · have hne : k ≠ j := fun h => hk (h ▸ hjk)
      rw [secDone_sec, sessEmit_sec, otherJudged_sec]
      refine (upd_other _ _ _ _ hne).trans ?_
      rw [keyRevoked_session, if_pos (mem_under.mpr ⟨hj, hjk⟩), ended_of_open hj]
    · rw [secDone_sec, sessEmit_sec, otherJudged_sec]
      refine (upd_other _ _ _ _ hj.symm).trans ?_
      rw [keyRevoked_session, if_neg fun h => hjn (mem_under.mp h)]
    · have hu : (s.keyRevoked i).otherUnder i = true := by
        rw [otherUnder_of_rcp hrcp, State.otherUnder, hv, hb, beq_self_eq_true, beq_self_eq_true]
        rfl
      have hj := otherJudged_other hu
      rw [hrcp] at hj
      rwa [slotOf_of_rcp (secDone_rcp _ _ _ _), slotOf_of_rcp (sessEmit_rcp _ _ _ _ _)]
    · have hf := otherJudged_inForce (s.keyRevoked i) i
      rw [hrcp] at hf
      rw [slotOf_of_rcp (secDone_rcp _ _ _ _), slotOf_of_rcp (sessEmit_rcp _ _ _ _ _), hf, slotOf_of_rcp hrcp]
  case revokeLimit =>
    exact secGated_refuses (go := fun s => s.cmdRevoke i k) rfl hg
      (cmdRevoke_of_refused (revokeChecks_limit h) (by decide)) (by decide)
  case revokeDenied =>
    exact secGated_refuses (go := fun s => s.cmdRevoke i k) rfl hg
      (cmdRevoke_of_refused (revokeChecks_denied he ho hk) (by decide)) (by decide)
  case revokeLocked =>
    exact secGated_refuses (go := fun s => s.cmdRevoke i k) rfl hg
      (cmdRevoke_of_refused (revokeChecks_locked he ho hk ha hr) (by decide)) (by decide)
  case hkey =>
    obtain ⟨n, hn⟩ := cmdHkey_eq s k
    have hx := secGated_of_ok (o := exec (.hkeyInstall k) s) (go := fun s => s.cmdHkey k) rfl hg hn (by decide)
    have hk := cmdHkey_keep s k (.refl s) (rfl : sub _ [.sys, .log, .sec, .mon] = true)
    rw [hn] at hk
    exact ⟨_, hx, by rw [secDone_sec, sessEmit_sec]; rfl, rfl, secDone_only hk rfl⟩
  case rotate =>
    have hx := secGated_of_ok (o := exec (.rotate k) s) (go := fun s => s.cmdRotate) rfl hg (cmdRotate_of_manager hw) (by decide)
    have hsys : s.startRotation.sys = s.sys :=
      (startRotation_keep s (.refl s) rfl : Keep [.sec] s _).only .sys (by decide)
    refine ⟨_, hx, by rw [secDone_sys, hsys], ?_, secDone_only (startRotation_keeps s) rfl⟩
    rw [secDone_sec]
    cases hr : s.sec.rotation with
    | none => rw [startRotation_of_none hr]; rfl
    | some r => rw [startRotation_of_some hr]; rfl
  case rotateLimit =>
    exact secGated_refuses (go := fun s => s.cmdRotate) rfl hg (cmdRotate_of_worker hw) (by decide)
  case due =>
    have he := exec_epochRotationDue hw hr
    rw [startRotation_of_none hn] at he
    exact ⟨_, he, rfl, next_only (execEpochRotationDue_keep s (.refl s) rfl) he⟩
  case dueNot => exact ⟨s, exec_epochRotationDue_none h, rfl⟩
  case told =>
    have he := exec_keyRotate_of_known b hk
    rw [rxRotate_of_manager (s := s.accepted 0) hw] at he
    have hkeep : Keep [.sec, .hie] s (s.accepted 0) := onHie_keep s _ (.refl s) (fun _ => id) (fun _ => id) rfl
    refine ⟨_, he, ?_, ?_⟩
    · rw [State.rotationTold, accepted_rebuild]
      rfl
    · have hr := rxRotate_keep (s.accepted 0) 0 b hkeep rfl
      rw [rxRotate_of_manager (s := s.accepted 0) hw] at hr
      exact hr.toOnly
  case toldNot =>
    by_cases hk : s.known n = true
    · have hother : n ≠ 0 ∨ s.isWorker = false := by
        rcases h with h | h | h
        · exact .inl h
        · exact .inl fun h0 => absurd (h0 ▸ hk) (by rw [h]; exact Bool.false_ne_true)
        · exact .inr h
      have he := exec_keyRotate_of_known b hk
      rw [rxRotate_of_other (s := s.accepted n) hother] at he
      have hkeep : Keep [.sys, .log, .hie, .mon] s (s.accepted n) :=
        onHie_keep s _ (.refl s) (fun _ => id) (fun _ => id) rfl
      exact ⟨_, he, rfl, hkeep.toOnly⟩
    · have he : exec (.keyRotate n b) s = .next (s.unknownSender n) := congrArg Host.Outcome.next (if_neg hk)
      have hkeep : Keep [.sys, .log, .hie, .mon] s (s.unknownSender n) := unknownSender_keep s n (.refl s) rfl
      exact ⟨_, he, hkeep.only .sec (by decide), hkeep.toOnly⟩
  case activation =>
    have he := exec_epochActivation_of_some h
    exact ⟨_, he, secEmit_sec _ _ _ _, next_only (execEpochActivation_keep s (.refl s) rfl) he⟩
  case activationNot => exact ⟨s, exec_epochActivation_of_none h, rfl⟩
  case stale =>
    have he := exec_keyStale_of_new h hr
    exact ⟨_, he, secEmit_sec _ _ _ _, next_only (execKeyStale_keep s (.refl s) rfl) he⟩
  case staleNot => exact ⟨s, exec_keyStale_of_done h, rfl⟩
  case rtWrite =>
    obtain ⟨n, hn⟩ := cmdRtWrite_of_staged hr ha hb
    have hx := secGated_of_ok (o := exec (.rtWrite i k) s) (go := fun s => s.cmdRtWrite i k) rfl hg hn (by decide)
    have hk := cmdRtWrite_keep s i k (.refl s) (rfl : sub _ [.sys, .log, .sec, .mon] = true)
    rw [hn] at hk
    exact ⟨_, hx, by rw [secDone_sec, sessEmit_sec]; rfl, rfl, secDone_only hk rfl⟩
  case rtLimit =>
    exact secGated_refuses (go := fun s => s.cmdRtWrite i k) rfl hg (cmdRtWrite_of_running hr hi) (by decide)
  case rtBad =>
    exact secGated_refuses (go := fun s => s.cmdRtWrite i k) rfl hg (cmdRtWrite_of_unread hr h) (by decide)
  case denied =>
    rcases hc with rfl | rfl | rfl | rfl
    · exact secGated_denies (go := fun s => s.cmdFuse i k) rfl hg
    · exact secGated_denies (go := fun s => s.cmdRevoke i k) rfl hg
    · exact secGated_denies (go := fun s => s.cmdHkey k) rfl hg
    · exact secGated_denies (go := fun s => s.cmdRotate) rfl hg
  case floor =>
    have he : exec .rollbackFloorRaise s = .next (s.onSec fun x =>
        { x with rbFloor := max x.rbFloor x.images[x.running].version }) := congrArg Host.Outcome.next (if_pos hr)
    exact ⟨_, he, rfl, next_only (execRollbackFloorRaise_keep s (.refl s) rfl) he⟩

end Sys2Proof.Machine
end

section
/-! SUPPORT. The attestation report, debug, and tamper. -/

namespace Sys2Proof.Machine

open Sys2Proof

section
variable {s : State} {k : SessId}

/-! ### ATTEST (R322) -/

/-- The report over a nonce, with its signature. -/
def State.signedReport (s : State) (n : List Byte) : List Byte :=
  s.report n ++ fit 64 (Config.deviceSign (Config.sha256 (s.report n)))

/-- The report over the nonce of SEC_KEYIN in SRAM at ARG1. -/
def State.attested (s : State) (k : SessId) : State :=
  { s with mem := s.mem.writeN s.sec.arg1.toNat (s.signedReport (s.keyin k 4)) }

theorem attested_mem (s : State) (k : SessId) :
    (s.attested k).mem = s.mem.writeN s.sec.arg1.toNat (s.signedReport (s.keyin k 4)) := by
  simp only [State.attested]

theorem cmdAttest_of_ok (ha : s.sec.arg1.toNat % 16 = 0) (hm : s.mayWrite k s.sec.arg1.toNat 256 = true) :
    s.cmdAttest k = (s.attested k, .ok) :=
  if_neg (by simp [ha, hm])

theorem cmdAttest_of_bad (h : s.sec.arg1.toNat % 16 ≠ 0 ∨ s.mayWrite k s.sec.arg1.toNat 256 = false) :
    s.cmdAttest k = (s, .badAddr) :=
  if_pos (h.imp id fun h => by rw [h]; rfl)

/-! ### Debug (R320) -/

/-- The challenge is used up or has expired; without one, debug is LOCKED. -/
def State.unchallenged (s : State) : State :=
  s.onSec fun x => { x with challenge := [], dbg := if x.dbg = .challenge then .locked else x.dbg }

/-- The conditions of DBG_UNLOCK on the response `r`, in their order. -/
def State.unlockChecks (s : State) (r : List Byte) : Status :=
  firstFail [(!s.sec.challenge.isEmpty, .notReady),
    (s.keyEnabled (ofLe ((r.drop 32).take 1)) ((r.drop 40).take 64), .denied),
    (r.take 32 == s.sec.challenge &&
      Config.ecdsaVerify ((r.drop 40).take 64) (Config.sha256 (r.take 104)) (r.drop 104), .authFail),
    ((ofLe ((r.drop 33).take 1) == 1 || ofLe ((r.drop 33).take 1) == 2) && decide (1 ≤ ofLe ((r.drop 36).take 4)) &&
      decide (ofLe ((r.drop 36).take 4) ≤ 1440), .limit)]

/-- The first check of a list that fails answers one of its statuses. -/
theorem firstFail_cases (l : List (Bool × Status)) : firstFail l = .ok ∨ firstFail l ∈ l.map Prod.snd := by
  induction l with
  | nil => exact .inl rfl
  | cons x l ih =>
    obtain ⟨good, st⟩ := x
    cases good with
    | true => exact ih.imp id (List.mem_cons_of_mem _)
    | false => exact .inr List.mem_cons_self

theorem unlockChecks_ne_interlock (s : State) (r : List Byte) : s.unlockChecks r ≠ .interlock := by
  intro h
  rcases firstFail_cases _ with hf | hf
  · exact absurd (h.symm.trans hf) (by decide)
  · rw [show firstFail _ = .interlock from h] at hf
    simp at hf

/-- Debug unlocked with SCOPE and DURATION of the response. -/
def State.unlockedBy (s : State) (r : List Byte) : State := s.unchallenged.onSec fun x =>
  { x with dbg := .unlocked, scope := ofLe ((r.drop 33).take 1), duration := ofLe ((r.drop 36).take 4), dbgAt := s.tick,
           unlocks := x.unlocks + 1 }

theorem cmdUnlock_of_unread (h : s.sessRead k s.sec.arg0.toNat 168 = none) : s.cmdUnlock k = (s, .badAddr) := by
  unfold State.cmdUnlock
  rw [h]

theorem cmdUnlock_of_ok {r : List Byte} (h : s.sessRead k s.sec.arg0.toNat 168 = some r) (hc : s.unlockChecks r = .ok) :
    ∃ a b, s.cmdUnlock k = (((s.unlockedBy r).sessEmit 0x030A k a b).endAll 7, .ok) := by
  unfold State.cmdUnlock
  rw [h]
  dsimp only
  split
  · exact ⟨_, _, rfl⟩
  · next hne => exact absurd hc hne

theorem cmdUnlock_of_refused {r : List Byte} (h : s.sessRead k s.sec.arg0.toNat 168 = some r) (hc : s.unlockChecks r ≠ .ok) :
    s.cmdUnlock k = (s.unchallenged, s.unlockChecks r) := by
  unfold State.cmdUnlock
  rw [h]
  dsimp only
  split
  · next hok => exact absurd hok hc
  · rfl

/-- Debug is no longer UNLOCKED; a challenge given since waits. -/
def State.debugLocked (s : State) : State :=
  s.onSec fun x => { x with dbg := if x.challenge.isEmpty then .locked else .challenge, scope := 0, duration := 0 }

theorem lockDebug_of_unlocked (cause : Nat) (h : s.sec.dbg = .unlocked) :
    s.lockDebug cause = s.debugLocked.secEmit 0x030B cause 0 := if_pos h

theorem lockDebug_of_locked (cause : Nat) (h : s.sec.dbg ≠ .unlocked) : s.lockDebug cause = s := if_neg h

theorem unlockedBy_keep (s : State) (r : List Byte) : Keep [.sys, .sec] s (s.unlockedBy r) :=
  onSec_keep _ _ (onSec_keep s _ (.refl s) (fun _ => ⟨fun _ => le_rfl, le_rfl, le_rfl⟩) rfl)
    (fun _ => ⟨fun _ => le_rfl, le_rfl, le_rfl⟩) rfl

/-! ### Tamper (R321) -/

theorem cmdTamperAck_of_rooted (h : s.sec.tamper = false ∨ s.sec.root.isSome = true ∧ s.sec.rerooted = true) :
    s.cmdTamperAck = (s.onSec fun x => { x with tamper := false }, .ok) :=
  if_neg (by rcases h with h | ⟨h, h'⟩ <;> simp [*])

theorem cmdTamperAck_of_unrooted (ht : s.sec.tamper = true) (h : s.sec.root = none ∨ s.sec.rerooted = false) :
    s.cmdTamperAck = (s, .notReady) :=
  if_pos (by rcases h with h | h <;> simp [*])

/-- D0 latches a detection and counts it. -/
def State.tampered (s : State) : State := s.onSec fun x => { x with tamper := true, tcount := x.tcount + 1 }

/-- The effects of a detection wait for the next start. -/
def State.tamperWaits (s : State) (b : Bool) : State := s.tampered.onSec fun x => { x with tampPend := some (if b then 2 else 1) }

theorem tamperWaits_keep (s : State) (b : Bool) : Keep [.sec] s (s.tamperWaits b) :=
  onSec_keep _ _ (onSec_keep s _ (.refl s) (fun _ => ⟨fun _ => le_rfl, le_rfl, le_rfl⟩) rfl)
    (fun _ => ⟨fun _ => le_rfl, le_rfl, le_rfl⟩) rfl

theorem exec_tamperDetected_run (b : Bool) (h : s.pwr.phase = .run) :
    exec (.tamperDetected b) s = .next (s.tampered.tamperActs (if b then 2 else 1)) :=
  congrArg Host.Outcome.next ((if_neg (by simp [h])).trans (if_pos h))

theorem exec_tamperDetected_off (b : Bool) (h : s.pwr.phase ≠ .run) (hd : s.pwr.d0Lost = false) :
    exec (.tamperDetected b) s = .next (s.tamperWaits b) :=
  congrArg Host.Outcome.next ((if_neg (by simp [hd])).trans (if_neg h))

theorem exec_tamperDetected_unseen (b : Bool) (h : s.pwr.phase ≠ .run) (hd : s.pwr.d0Lost = true) :
    exec (.tamperDetected b) s = .next s :=
  congrArg Host.Outcome.next (if_pos (by simp [h, hd]))

/-- The security core on a detection: no session is open, and no root of the hierarchy is left. -/
theorem tamperActs_sec (s : State) (cause : Nat) : ∃ v : Vector Session 4, (s.tamperActs cause).sec =
    { s.sec with sessions := v, root := none, oldEpoch := none, rotation := none, rerooted := false, tampPend := none } ∧
    ∀ j : SessId, v[j] = s.sec.sessions[j].ended := by
  obtain ⟨v, hv, hj⟩ := endAll_sec s 8
  refine ⟨v, ?_, hj⟩
  unfold State.tamperActs
  dsimp only
  rw [secEmit_sec, State.onSec_sec, hv]

end

/-- Settles O52: ATTEST and debug are their effects behind `State.secGated`, and every session ends by `endAll_sec`. -/
theorem attestDebugAndTamperAct : Obligations.AttestDebugAndTamperAct := by
  refine ⟨fun k s hg ha hm => ?attest, fun k s hg h => ?attestBad, fun k s hg => ?challenge, fun k s hg h => ?unlockBad,
    fun k r s hg hr => ?unlock, fun k s hg hd => ?lock, fun k s hg hd => ?lockNot, fun s hd => ?duration,
    fun s hd => ?durationNot, fun s => ?expiry, fun k s hg h => ?ack, fun k s hg ht h => ?ackNot, fun b s hr => ?tamper,
    fun b s hr hd => ?latched, fun b s hr hd => ?unseen, fun c n k s hc hg => ?denied⟩
  case attest =>
    have hr := cmdAttest_of_ok ha hm
    have hx := secGated_of_ok (o := exec (.attest k) s) (go := fun s => s.cmdAttest k) rfl hg hr (by decide)
    have hk := cmdAttest_keep s k (.refl s) (rfl : sub _ [.sys, .sec, .mem] = true)
    rw [hr] at hk
    exact ⟨_, hx, by rw [secDone_mem, attested_mem, State.signedReport], rfl, rfl, secDone_only hk rfl⟩
  case attestBad =>
    exact secGated_refuses (go := fun s => s.cmdAttest k) rfl hg (cmdAttest_of_bad h) (by decide)
  case challenge =>
    have hx := secGated_of_ok (o := exec (.dbgChallenge k) s) (go := fun s => s.cmdChallenge) (u := s.cmdChallenge.1)
      rfl hg rfl (by decide)
    exact ⟨_, hx, rfl, rfl, secDone_only (cmdChallenge_keep s (.refl s) rfl) rfl⟩
  case unlockBad =>
    exact secGated_refuses (go := fun s => s.cmdUnlock k) rfl hg (cmdUnlock_of_unread h) (by decide)
  case unlock =>
    have hkeep := cmdUnlock_keep s k (.refl s) (rfl : sub _ [.sys, .log, .sec, .mon, .can, .hl, .apu, .dma] = true)
    by_cases hc : s.unlockChecks r = .ok
    · obtain ⟨a, b, hu⟩ := cmdUnlock_of_ok hr hc
      have hx := secGated_of_ok (o := exec (.dbgUnlock k) s) (go := fun s => s.cmdUnlock k) rfl hg hu (by decide)
      obtain ⟨v, hv, hj⟩ := endAll_sec ((s.unlockedBy r).sessEmit 0x030A k a b) 7
      rw [sessEmit_sec] at hv hj
      simp only [hu] at hkeep
      refine ⟨_, hx, ?_, secDone_only hkeep rfl⟩
      split
      · rw [secDone_sec, hv]
        refine ⟨rfl, rfl, rfl, rfl, rfl, rfl, fun j => ?_, rfl⟩
        have hopen := open_of_gate hg
        by_cases hjk : k = j
        · subst hjk
          refine (upd_same _ _ _).trans ?_
          rw [hj, if_pos hopen]
          exact congrArg Session.wiped (ended_of_open hopen)
        · exact (upd_other _ _ _ _ hjk).trans (hj j)
      · next hn => exact absurd hc hn
    · have hu := cmdUnlock_of_refused hr hc
      have hx := secGated_of_ok (o := exec (.dbgUnlock k) s) (go := fun s => s.cmdUnlock k) rfl hg hu
        (unlockChecks_ne_interlock s r)
      simp only [hu] at hkeep
      refine ⟨_, hx, ?_, secDone_only hkeep rfl⟩
      split
      · next hok => exact absurd hok hc
      · exact ⟨rfl, rfl⟩
  case lock =>
    have hl := lockDebug_of_unlocked 1 hd
    have hx := secGated_of_ok (o := exec (.dbgLock k) s) (go := fun s => (s.lockDebug 1, .ok)) rfl hg rfl (by decide)
    refine ⟨_, hx, ?_, rfl, secDone_only (lockDebug_keep s 1 (.refl s) rfl) rfl⟩
    rw [secDone_sec, hl, secEmit_sec]
    rfl
  case lockNot =>
    exact secGated_refuses (go := fun s => (s.lockDebug 1, .ok)) rfl hg
      (congrArg (·, Status.ok) (lockDebug_of_locked 1 hd)) (by decide)
  case duration =>
    have he : exec .debugDurationEnd s = .next (s.debugLocked.secEmit 0x030B 2 0) :=
      congrArg Host.Outcome.next (lockDebug_of_unlocked 2 hd)
    exact ⟨_, he, secEmit_sec _ _ _ _, next_only (execDebugDurationEnd_keep s (.refl s) rfl) he⟩
  case durationNot => exact ⟨s, congrArg Host.Outcome.next (lockDebug_of_locked 2 hd), rfl⟩
  case expiry => exact ⟨_, rfl, rfl, next_only (execChallengeExpiry_keep s (.refl s) rfl) rfl⟩
  case ack =>
    have hr := cmdTamperAck_of_rooted h
    have hx := secGated_of_ok (o := exec (.tamperAck k) s) (go := fun s => s.cmdTamperAck) rfl hg hr (by decide)
    have hk := cmdTamperAck_keep s (.refl s) (rfl : sub _ [.sys, .sec] = true)
    rw [hr] at hk
    exact ⟨_, hx, rfl, rfl, secDone_only hk rfl⟩
  case ackNot =>
    exact secGated_refuses (go := fun s => s.cmdTamperAck) rfl hg (cmdTamperAck_of_unrooted ht h) (by decide)
  case tamper =>
    have he := exec_tamperDetected_run b hr
    obtain ⟨v, hv, hj⟩ := tamperActs_sec s.tampered (if b then 2 else 1)
    refine ⟨_, he, ?_, ?_, ?_, ?_, ?_, ?_, ?_, fun j => ?_, next_only (execTamperDetected_keep b s (.refl s) rfl) he⟩
    all_goals rw [hv]
    · rfl
    · rfl
    · rfl
    · exact hj j
  case latched => exact ⟨_, exec_tamperDetected_off b hr hd, rfl, (tamperWaits_keep s b).toOnly⟩
  case unseen => exact ⟨s, exec_tamperDetected_unseen b hr hd, rfl⟩
  case denied =>
    rcases hc with ⟨rfl, rfl⟩ | ⟨rfl, rfl⟩ | ⟨rfl, rfl⟩ | ⟨rfl, rfl⟩ | ⟨rfl, rfl⟩
    · exact secGated_denies (go := fun s => s.cmdAttest k) rfl hg
    · exact secGated_denies (go := fun s => s.cmdChallenge) rfl hg
    · exact secGated_denies (go := fun s => s.cmdUnlock k) rfl hg
    · exact secGated_denies (go := fun s => (s.lockDebug 1, .ok)) rfl hg
    · exact secGated_denies (go := fun s => s.cmdTamperAck) rfl hg

end Sys2Proof.Machine
end

section
/-! SUPPORT. The aperture's requests and the commands of a DMA channel. -/

namespace Sys2Proof.Machine

open Sys2Proof

section
variable {s t : State} {k : SessId} {n : ChId}

/-! ### One channel changed -/

@[simp] theorem setCh_same (s : State) (n : ChId) (f : DmaCh → DmaCh) : (s.setCh n f).dma.ch[n] = f s.dma.ch[n] :=
  upd_same _ n f

theorem setCh_other (s : State) {n m : ChId} (f : DmaCh → DmaCh) (h : m ≠ n) : (s.setCh n f).dma.ch[m] = s.dma.ch[m] :=
  upd_other _ n m f h.symm

@[simp] theorem dmaEmit_dma (s : State) (code : Nat) (n : ChId) (c a b : Nat) : (s.dmaEmit code n c a b).dma = s.dma :=
  emit_dma s _

/-! ### What a descriptor is read through (R335, R341) -/

/-- Two states read the same words through each context. -/
structure SameReads (s t : State) : Prop where
  apu : t.apu = s.apu
  rcp : t.rcp = s.rcp
  sct : t.sct = s.sct
  mem : t.mem = s.mem
  bad : t.dma.bad = s.dma.bad

theorem translate_congr (ha : t.apu = s.apu) (hr : t.rcp = s.rcp) (hs : t.sct = s.sct) (ctx a : Nat) (w : Bool) :
    t.translate ctx a w = s.translate ctx a w := by
  have hentry : t.apuEntry ctx a = s.apuEntry ctx a := by unfold State.apuEntry; rw [ha]
  have hword : t.sctWord 3 = s.sctWord 3 := by unfold State.sctWord State.rw; rw [hr]
  have heng : t.sctEng = s.sctEng := by unfold State.sctEng; rw [hs]
  unfold State.translate State.writeBlocked
  rw [hentry, hword, heng, hr]

theorem SameReads.dmaRead (h : SameReads s t) (n : ChId) (a : Nat) : t.dmaRead n a = s.dmaRead n a := by
  simp only [State.dmaRead, translate_congr h.apu h.rcp h.sct, h.mem, h.bad]

theorem SameReads.readDesc (h : SameReads s t) (n : ChId) (m : Nat) :
    ∀ a ws, t.readDesc n a m ws = s.readDesc n a m ws := by
  induction m with
  | zero => exact fun _ _ => rfl
  | succ m ih => intro a ws; simp only [State.readDesc, h.dmaRead, ih]

theorem setCh_reads (s : State) (n : ChId) (f : DmaCh → DmaCh) : SameReads s (s.setCh n f) := ⟨rfl, rfl, rfl, rfl, rfl⟩

theorem dmaEmit_reads (s : State) (code : Nat) (n : ChId) (c a b : Nat) : SameReads s (s.dmaEmit code n c a b) :=
  ⟨emit_apu s _, emit_rcp s _, emit_sct s _, emit_mem s _, congrArg DmaState.bad (dmaEmit_dma s code n c a b)⟩

/-- What makes a descriptor of channel `n` faulty does not rest on the channel itself (R341). -/
theorem descBad_congr (h : ∀ m, m ≠ n → t.dma.ch[m] = s.dma.ch[m]) (d : Desc) : t.descBad n d = s.descBad n d := by
  have hq : t.drainedBy d.src (some n) = s.drainedBy d.src (some n) := by
    unfold State.drainedBy
    refine congrArg (List.any (idx 8)) (funext fun m => ?_)
    by_cases hm : m = n
    · subst hm; simp
    · rw [h m hm]
  simp only [State.descBad, hq]

/-- A channel that a valid descriptor sets running, `prog` of its words already committed. -/
def DmaCh.running (d : Desc) (prog : Nat) (c : DmaCh) : DmaCh :=
  { c with st := .run, cause := none, faddr := 0, recQ := false, desc := d, prog := prog, burst := if prog = 0 then 0 else c.burst,
           fin := false }

theorem fetchDesc_of_valid {ws : List Word} (prog : Nat) (hr : s.readDesc n s.dma.ch[n].cur 8 [] = .ok ws)
    (hv : bit (ws.getD 0 0) 31 = true) (hb : s.descBad n (descOf ws) = false) :
    s.fetchDesc n prog = s.setCh n (DmaCh.running (descOf ws) prog) := by
  have hv' : bit (descOf ws).ctrl 31 = true := hv
  unfold State.fetchDesc
  simp only [hr, hv', hb]
  rfl

/-! ### The commands on their conditions (R339, R345, R350) -/

/-- The channel that START prepares at the descriptor address. -/
def DmaCh.atDesc (c : DmaCh) : DmaCh := { c with cur := c.descA.toNat, rdptr := 0, wrptr := 0, burst := 0 }

/-- The channel out of its work, and its fault forgotten. -/
def DmaCh.stopped (c : DmaCh) : DmaCh := { c with st := .idle, cause := none, faddr := 0 }

theorem cmdGrant_of_free {i : EntId} (ho : s.ownsCh k s.apu.reqs[k].chan = true) (h1 : 1 ≤ s.apu.reqs[k].entry.pages)
    (h2 : s.apu.reqs[k].entry.pages ≤ 4096) (hw : inSram s.apu.reqs[k].entry.win s.apu.reqs[k].entry.pages = true)
    (ht : inSram s.apu.reqs[k].entry.tgt s.apu.reqs[k].entry.pages = true)
    (hh : s.sessionHolds k s.apu.reqs[k].entry.tgt s.apu.reqs[k].entry.r s.apu.reqs[k].entry.w s.apu.reqs[k].entry.pages = true)
    (hm : ((s.apu.ents.toList.filterMap id).any fun x => x.meets s.apu.reqs[k].entry) = false)
    (hf : (idx 256).find? (fun i => s.apu.ents[i].isNone) = some i) :
    s.cmdGrant k = ((s.onApu fun x => { x with ents := upd x.ents i fun _ => some s.apu.reqs[k].entry }).setReq k
      fun q => { q with res := i.val }, .ok) := by
  unfold State.cmdGrant
  dsimp only
  rw [ho, decide_eq_true h1, decide_eq_true h2, hw, ht, hh, hm]
  simp only [State.addEntry, hf]
  rfl

theorem cmdFree_of_owned {i : EntId} {e : ApuEntry} (hi : s.apu.ents[i] = some e) (h4 : 4 ≤ e.ctx)
    (ho : s.ownsCh k (e.ctx - 4) = true) :
    s.cmdFree i k = (s.onApu fun x => { x with ents := upd x.ents i fun _ => none }, .ok) := by
  unfold State.cmdFree
  rw [hi]
  exact if_pos ⟨h4, ho⟩

theorem cmdFreeall_of_owned (ho : s.ownsCh k s.apu.reqs[k].chan = true) :
    s.cmdFreeall k = (s.dropEntries (4 + s.apu.reqs[k].chan), .ok) := if_pos ho

theorem dropEntries_ents (s : State) (ctx : Nat) (i : EntId) :
    (s.dropEntries ctx).apu.ents[i] = match s.apu.ents[i] with
      | some e => if e.ctx = ctx then none else some e
      | none => none := by
  unfold State.dropEntries
  rw [State.onApu_apu, updAll_get]
  cases s.apu.ents[i] <;> rfl

theorem cmdClaim_of_free (hn : n.val < 6) (ho : s.dma.ch[n].owner = none) :
    s.cmdClaim n k = (s.setCh n fun c => { c with owner := some k }, .ok) := by
  unfold State.cmdClaim
  rw [if_neg (by omega), ho]
  rfl

theorem cmdDmaRelease_of_idle (ho : s.owns k n = true) (hi : s.dma.ch[n].st = .idle) :
    s.cmdDmaRelease n k = ((s.setCh n fun c => { c with owner := none }).dropEntries (ctxOfCh n), .ok) := by
  unfold State.cmdDmaRelease
  rw [ho, hi]
  rfl

theorem cmdDmaStart_of_valid {ws : List Word} (ho : s.owns k n = true) (hi : s.dma.ch[n].st = .idle)
    (ha : s.dma.ch[n].descA.toNat % 32 = 0) (hr : s.readDesc n s.dma.ch[n].descA.toNat 8 [] = .ok ws)
    (hv : bit (ws.getD 0 0) 31 = true) (hb : s.descBad n (descOf ws) = false) :
    s.cmdDmaStart n k = ((s.setCh n DmaCh.atDesc).setCh n (DmaCh.running (descOf ws) 0), .ok) := by
  have hgo : s.cmdDmaStart n k = ((s.setCh n DmaCh.atDesc).fetchDesc n 0, .ok) := by
    have hall : firstFail [(s.owns k n, .denied), (s.dma.ch[n].st == .idle, .notReady),
        (s.dma.ch[n].descA.toNat % 32 == 0, .limit)] = .ok := by
      rw [ho, beq_iff_eq.mpr hi, beq_iff_eq.mpr ha]; rfl
    unfold State.cmdDmaStart
    split
    · rfl
    · next hne => exact absurd hall hne
  have hcur : (s.setCh n DmaCh.atDesc).dma.ch[n].cur = s.dma.ch[n].descA.toNat := congrArg DmaCh.cur (setCh_same s n _)
  rw [hgo, fetchDesc_of_valid 0 (by rw [hcur, (setCh_reads s n _).readDesc]; exact hr) hv
    (by rw [descBad_congr fun m hm => setCh_other s _ hm]; exact hb)]

theorem cmdDmaAbort_of_busy (ho : s.owns k n = true) (hi : s.dma.ch[n].st ≠ .idle) : ∃ a b, s.cmdDmaAbort n k =
    ((s.setCh n DmaCh.stopped).dmaEmit 0x0403 n 0 a b, .ok) := by
  refine ⟨(s.setCh n DmaCh.stopped).dma.ch[n].prog, (s.setCh n DmaCh.stopped).dma.ch[n].cur, ?_⟩
  unfold State.cmdDmaAbort
  rw [ho, if_neg (by decide), if_neg hi]
  rfl

theorem cmdResume_of_valid {ws : List Word} (ho : s.owns k n = true) (hst : s.dma.ch[n].st = .fault)
    (hq : s.dma.ch[n].recQ = true) (hr : s.readDesc n s.dma.ch[n].cur 8 [] = .ok ws) (hv : bit (ws.getD 0 0) 31 = true)
    (hb : s.descBad n (descOf ws) = false) : ∃ a b, s.cmdResume n k =
    ((s.dmaEmit 0x0402 n 0 a b).setCh n (DmaCh.running (descOf ws) s.dma.ch[n].prog), .ok) := by
  refine ⟨s.dma.ch[n].prog, s.dma.ch[n].cur, ?_⟩
  have hd := dmaEmit_dma s 0x0402 n 0 s.dma.ch[n].prog s.dma.ch[n].cur
  have hgo : s.cmdResume n k = ((s.dmaEmit 0x0402 n 0 s.dma.ch[n].prog s.dma.ch[n].cur).fetchDesc n
      (s.dmaEmit 0x0402 n 0 s.dma.ch[n].prog s.dma.ch[n].cur).dma.ch[n].prog, .ok) := by
    unfold State.cmdResume
    rw [ho, hst, hq]
    rfl
  rw [hgo, hd, fetchDesc_of_valid _ (by rw [hd, (dmaEmit_reads s _ n _ _ _).readDesc]; exact hr) hv
    (by rw [descBad_congr (s := s) fun m _ => by rw [hd]]; exact hb)]

theorem writeRdptr_of_within {v : Word} (hn : n.val < 6) (hm : bits v 0 24 % 32 = 0)
    (hl : s.dma.ch[n].st = .run → bits v 0 24 < s.dma.ch[n].desc.len) :
    s.writeRdptr n v = (s.setCh n fun c => { c with rdptr := bits v 0 24 }, .ok) := by
  have hno : ¬ (bits v 0 24 % 32 ≠ 0 ∨ (s.dma.ch[n].st = .run ∧ s.dma.ch[n].desc.len ≤ bits v 0 24)) := by
    rintro (h | ⟨hrun, hle⟩)
    · exact h hm
    · exact absurd (hl hrun) (by omega)
  unfold State.writeRdptr
  dsimp only
  rw [if_neg (by omega), if_neg hno]

theorem queueRecord_of_room (r : List Byte) (h : s.dma.q15.length < 64) : s.queueRecord n r =
    ((s.onDma fun x => { x with q15 := x.q15 ++ [r] }).setCh n fun c => { c with recQ := true, held := none }).noteFill 15
      (s.dma.q15 ++ [r]).length := if_pos h

end

/-- Settles O24: each command, once its gate and its conditions hold, is one change of the table or of the one channel. -/
theorem apertureAndChannelCommands : Obligations.ApertureAndChannelCommands := by
  unfold Obligations.ApertureAndChannelCommands
  refine ⟨fun k i s hg ho h1 h2 hw ht hh hm hf => ?grant, fun i k e s hg hi h4 ho => ?free, fun k s hg ho => ?freeall,
    fun n k s hg hn ho => ?claim, fun n k s hg ho hi => ?release, fun n k ws s hg ho hi ha hr hv hb => ?start,
    fun n k s hg ho hi => ?abort, fun n k ws s hg ho hst hq hr hv hb => ?resume, fun n v k s hg hn hm hl => ?rdptr,
    fun n r s hr hq => ?record⟩
  case grant =>
    exact ⟨_, gated_acts_ok rfl hg (cmdGrant_of_free ho h1 h2 hw ht hh hm hf), upd_same _ _ _,
      congrArg ReqSet.res (upd_same _ k _), fun j hj => upd_other _ _ _ _ hj.symm,
      told_only _ _ (setReq_keep _ _ _ (onApu_keep s _ (.refl s) rfl) rfl) rfl⟩
  case free =>
    exact ⟨_, gated_acts_ok rfl hg (cmdFree_of_owned hi h4 ho), upd_same _ _ _, fun j hj => upd_other _ _ _ _ hj.symm, rfl,
      told_only _ _ (onApu_keep s _ (.refl s) rfl) rfl⟩
  case freeall =>
    exact ⟨_, gated_acts_ok rfl hg (cmdFreeall_of_owned ho), fun i => dropEntries_ents s _ i, rfl,
      told_only _ _ (dropEntries_keep s _ (.refl s) rfl) rfl⟩
  case claim =>
    exact ⟨_, gated_acts_ok rfl hg (cmdClaim_of_free hn ho), setCh_same s n _, fun m hm => setCh_other s _ hm, rfl,
      told_only _ _ (setCh_keep s n _ (.refl s) rfl) rfl⟩
  case release =>
    exact ⟨_, gated_acts_ok rfl hg (cmdDmaRelease_of_idle ho hi), setCh_same s n _, fun m hm => setCh_other s _ hm, rfl,
      told_only _ _ (dropEntries_keep _ _ (setCh_keep s n _ (.refl s) rfl) rfl) rfl⟩
  case start =>
    have hch : ((s.setCh n DmaCh.atDesc).setCh n (DmaCh.running (descOf ws) 0)).dma.ch[n] =
        DmaCh.running (descOf ws) 0 s.dma.ch[n].atDesc := by rw [setCh_same, setCh_same]
    exact ⟨_, gated_acts_ok rfl hg (cmdDmaStart_of_valid ho hi ha hr hv hb), congrArg DmaCh.st hch, congrArg DmaCh.prog hch,
      congrArg DmaCh.desc hch, congrArg DmaCh.cur hch, fun m hm => (setCh_other _ _ hm).trans (setCh_other s _ hm),
      told_only _ _ (setCh_keep _ n _ (setCh_keep s n _ (.refl s) rfl) rfl) rfl⟩
  case abort =>
    obtain ⟨a, b, hgo⟩ := cmdDmaAbort_of_busy ho hi
    have hd := dmaEmit_dma (s.setCh n DmaCh.stopped) 0x0403 n 0 a b
    exact ⟨_, gated_acts_ok rfl hg hgo, (congrArg (fun d => DmaState.ch d |>.get n) hd).trans (setCh_same s n _),
      fun m hm => (congrArg (fun d => DmaState.ch d |>.get m) hd).trans (setCh_other s _ hm),
      told_only _ _ (dmaEmit_keep _ _ n _ _ _ (setCh_keep s n _ (.refl s) rfl) rfl) rfl⟩
  case resume =>
    obtain ⟨a, b, hgo⟩ := cmdResume_of_valid ho hst hq hr hv hb
    have hch : ((s.dmaEmit 0x0402 n 0 a b).setCh n (DmaCh.running (descOf ws) s.dma.ch[n].prog)).dma.ch[n] =
        DmaCh.running (descOf ws) s.dma.ch[n].prog s.dma.ch[n] := by rw [setCh_same, dmaEmit_dma]
    exact ⟨_, gated_acts_ok rfl hg hgo, congrArg DmaCh.st hch, (congrArg DmaCh.prog hch :), (congrArg DmaCh.cur hch :),
      congrArg DmaCh.desc hch, fun m hm => (setCh_other _ _ hm).trans (by rw [dmaEmit_dma]),
      told_only _ _ (setCh_keep _ n _ (dmaEmit_keep s _ n _ _ _ (.refl s) rfl) rfl) rfl⟩
  case rdptr =>
    exact ⟨_, gated_acts_ok rfl hg (writeRdptr_of_within hn hm hl), setCh_same s n _, fun m hm => setCh_other s _ hm,
      told_only _ _ (setCh_keep s n _ (.refl s) rfl) rfl⟩
  case record =>
    have hgo : exec (.faultRecordQueued n) s = .next (s.queueRecord n r) := by
      change execFaultRecordQueued n s = _
      unfold execFaultRecordQueued
      rw [hr]
      exact congrArg _ (if_pos hq)
    have hkeep := queueRecord_keep s n r (.refl s) rfl (fr := [.sys, .dma])
    rw [queueRecord_of_room (n := n) r hq] at hgo hkeep
    exact ⟨_, hgo, rfl, setCh_same _ n _, fun m hm => setCh_other _ _ hm, hkeep.toOnly⟩

end Sys2Proof.Machine
end

section
/-! SUPPORT. Words stored by a DMA channel: bursts, faults and completion. -/

namespace Sys2Proof.Machine

open Sys2Proof

/-! ### Ranges of memory -/

theorem readN_congr {m m' : Memory} : ∀ {k b : Nat}, (∀ x, b ≤ x → x < b + k → m'.read x = m.read x) → m'.readN b k = m.readN b k
  | 0, _, _ => rfl
  | k + 1, b, h => by
    rw [Memory.readN, Memory.readN, h b (by omega) (by omega), readN_congr fun x h1 h2 => h x (by omega) (by omega)]

theorem readN_writeN_word (m : Memory) (a : Nat) (w : Word) (h : m.wf = true) :
    (m.writeN a (wordBytes w)).readN a 4 = wordBytes w := Memory.readN_writeN m a (wordBytes w) h

theorem readN_writeN_word_other (m : Memory) (a b : Nat) (w : Word) (h : m.wf = true) (hd : b + 4 ≤ a ∨ a + 4 ≤ b) :
    (m.writeN a (wordBytes w)).readN b 4 = m.readN b 4 :=
  readN_congr fun x h1 h2 => Memory.read_writeN_other m a x (wordBytes w) h (by
    rw [show (wordBytes w).length = 4 from rfl]; omega)

theorem read_writeN_word_other (m : Memory) (a x : Nat) (w : Word) (h : m.wf = true) (hd : x < a ∨ a + 4 ≤ x) :
    (m.writeN a (wordBytes w)).read x = m.read x := Memory.read_writeN_other m a x (wordBytes w) h hd

section
variable {s : State} {n : ChId}

theorem storeWord_mem (s : State) (x : Nat) (w : Word) : (s.storeWord x w).mem = s.mem.writeN x (wordBytes w) := by
  simp only [State.storeWord]

theorem storeWord_ch (s : State) (x : Nat) (w : Word) : (s.storeWord x w).dma.ch = s.dma.ch := by simp only [State.storeWord, State.onDma_dma]

theorem storeWord_translate (s : State) (x : Nat) (w : Word) (ctx a : Nat) (wr : Bool) :
    (s.storeWord x w).translate ctx a wr = s.translate ctx a wr :=
  have hk : Keep [.dma, .mem] s (s.storeWord x w) := storeWord_keep s x w (.refl s) rfl
  translate_congr (hk.only .apu (by decide)) (hk.only .rcp (by decide)) (hk.only .sct (by decide)) ctx a wr

theorem dmaWrite_of_translate {a x : Nat} (w : Word) (h : s.translate (ctxOfCh n) a true = .ok x) :
    s.dmaWrite n a w = .ok (s.storeWord x w) := by
  unfold State.dmaWrite
  rw [h]

/-! ### A FILL (R342, R343) -/

/-- A channel with a FILL that has still `m` words to commit. -/
structure DmaCh.Filling (c : DmaCh) (m : Nat) : Prop where
  op : c.desc.op = 2
  wrap : c.desc.wrap = false
  fin : c.fin = false
  room : 4 * (c.prog + m) ≤ c.desc.len

theorem DmaCh.Filling.drains {c : DmaCh} {m : Nat} (h : c.Filling m) : c.desc.drains = false := by
  unfold Desc.drains
  rw [h.op]
  rfl

theorem DmaCh.Filling.incomplete {c : DmaCh} {m : Nat} (h : c.Filling (m + 1)) : c.complete = false := by
  have hlt : ¬ c.desc.len ≤ 4 * c.prog := by have := h.room; omega
  simp [DmaCh.complete, h.fin, hlt]

theorem DmaCh.Filling.dest {c : DmaCh} {m : Nat} (h : c.Filling m) : c.dest = c.desc.dst + 4 * c.prog := by
  simp [DmaCh.dest, h.wrap]

/-- A channel with `m` words more committed. -/
def DmaCh.committed (m : Nat) (c : DmaCh) : DmaCh := { c with prog := c.prog + m }

theorem DmaCh.Filling.next {c : DmaCh} {m : Nat} (h : c.Filling (m + 1)) : (c.committed 1).Filling m :=
  ⟨h.op, h.wrap, h.fin, by have := h.room; change 4 * (c.prog + 1 + m) ≤ c.desc.len; omega⟩

/-- The fill word stored at `x`, and counted. -/
def State.filled (s : State) (n : ChId) (x : Nat) : State :=
  (s.storeWord x (word s.dma.ch[n].desc.src)).setCh n (DmaCh.committed 1)

theorem filled_ch (s : State) (n : ChId) (x : Nat) : (s.filled n x).dma.ch[n] = s.dma.ch[n].committed 1 := by
  unfold State.filled
  rw [setCh_same, storeWord_ch]

theorem filled_mem (s : State) (n : ChId) (x : Nat) :
    (s.filled n x).mem = s.mem.writeN x (wordBytes (word s.dma.ch[n].desc.src)) := by
  unfold State.filled State.setCh
  rw [State.onDma_mem, storeWord_mem]

theorem filled_keep {fr : List Part} {s0 : State} (s : State) (n : ChId) (x : Nat) (h : Keep fr s0 s) (hp : sub [.dma, .mem] fr = true) :
    Keep fr s0 (s.filled n x) := setCh_keep _ n _ (storeWord_keep s x _ h hp) (sub_of hp rfl)

theorem filled_translate (s : State) (n : ChId) (x ctx a : Nat) (wr : Bool) :
    (s.filled n x).translate ctx a wr = s.translate ctx a wr :=
  (translate_congr (s := s.storeWord x (word s.dma.ch[n].desc.src)) rfl rfl rfl ctx a wr).trans (storeWord_translate s x _ ctx a wr)

/-- A burst commits the next word of a FILL and goes on. -/
theorem burstWords_fill_word {m k x : Nat} (hf : s.dma.ch[n].Filling (m + 1))
    (hx : s.translate (ctxOfCh n) (s.dma.ch[n].desc.dst + 4 * s.dma.ch[n].prog) true = .ok x) :
    s.burstWords n (m + 1) k = (s.filled n x).burstWords n m (k + 1) := by
  have hgo : ¬ (s.dma.ch[n].complete = true ∨ (s.dma.ch[n].desc.drains = true ∧ s.dma.ch[n].prog % 8 = 0 ∧
      ((s.drainQueue s.dma.ch[n].desc.src).isEmpty = true ∨ s.dma.ch[n].ringFull = true))) := by
    rw [hf.incomplete, hf.drains]; simp
  have hsrc : s.source n = .ok (word s.dma.ch[n].desc.src) := by
    unfold State.source
    dsimp only
    rw [hf.op]
    rfl
  have hadv : ∀ w, (s.storeWord x w).advance n = (s.storeWord x w).setCh n (DmaCh.committed 1) := fun w => by
    unfold State.advance
    rw [storeWord_ch]
    refine (if_neg fun h => ?_).trans ?_
    · rw [hf.drains] at h; exact Bool.false_ne_true h.1
    · unfold State.setCh; rw [State.onDma]; rfl
  rw [State.burstWords]
  rw [if_neg hgo, hsrc]
  dsimp only
  rw [hf.dest, dmaWrite_of_translate _ hx]
  exact congrArg (fun t : State => t.burstWords n m (k + 1)) (hadv _)

/-- A burst of a FILL stores its words one behind the other, and no other byte. -/
theorem burstWords_fill (m : Nat) : ∀ (s : State) (k a : Nat), s.mem.wf = true → s.dma.ch[n].Filling m →
    (∀ j, j < m → s.translate (ctxOfCh n) (s.dma.ch[n].desc.dst + 4 * (s.dma.ch[n].prog + j)) true = .ok (a + 4 * j)) →
    (s.burstWords n m k).dma.ch[n] = s.dma.ch[n].committed m ∧
    (∀ j, j < m → (s.burstWords n m k).mem.readN (a + 4 * j) 4 = wordBytes (word s.dma.ch[n].desc.src)) ∧
    (∀ x, x < a ∨ a + 4 * m ≤ x → (s.burstWords n m k).mem.read x = s.mem.read x) ∧
    ∀ s0, Keep [.dma, .mem] s0 s → Keep [.dma, .mem] s0 (s.burstWords n m k) := by
  induction m with
  | zero => exact fun s k a _ _ _ => ⟨rfl, fun j hj => absurd hj (by omega), fun _ _ => rfl, fun _ h => h⟩
  | succ m ih =>
    intro s k a hwf hf ht
    have hch := filled_ch s n a
    have hmem := filled_mem s n a
    have hwf' : (s.filled n a).mem.wf = true := by rw [hmem]; exact Memory.writeN_wf _ _ _ hwf
    obtain ⟨hc, hw, ho, hk⟩ := ih (s.filled n a) (k + 1) (a + 4) hwf' (by rw [hch]; exact hf.next) fun j hj => by
      rw [filled_translate, hch]
      change s.translate _ (s.dma.ch[n].desc.dst + 4 * (s.dma.ch[n].prog + 1 + j)) true = _
      rw [Nat.add_assoc _ 1 j, Nat.add_comm 1 j, ht (j + 1) (by omega)]
      exact congrArg _ (by omega)
    rw [burstWords_fill_word (x := a) hf (ht 0 (by omega))]
    refine ⟨?_, fun j hj => ?_, fun x hx => ?_, ?_⟩
    · rw [hc, hch]
      unfold DmaCh.committed
      rw [Nat.add_assoc, Nat.add_comm 1 m]
    · cases j with
      | zero =>
        change ((s.filled n a).burstWords n m (k + 1)).mem.readN a 4 = _
        rw [readN_congr (m := (s.filled n a).mem) (b := a) (k := 4) fun x h1 h2 => ho x (by omega), hmem]
        exact readN_writeN_word _ a _ hwf
      | succ j =>
        rw [show a + 4 * (j + 1) = a + 4 + 4 * j by omega, hw j (by omega), hch]
        rfl
    · rw [ho x (by omega), hmem, read_writeN_word_other _ a x _ hwf (by omega)]
    · exact fun s0 h => hk s0 (filled_keep s n a h rfl)

/-- The turn of the bulk class given to channel `n` (R343). -/
def State.turned (s : State) (n : ChId) : State := s.onDma fun x => { x with lastBk := n.val }

theorem turned_keep (s : State) (n : ChId) : Keep [.dma, .mem] s (s.turned n) := onDma_keep s _ (.refl s) (fun _ h => h) rfl

theorem exec_dmaBurst_bulk (hr : s.nextCh true = none) (hb : s.nextCh false = some n)
    (hrun : ((s.turned n).burstWords n s.dma.ch[n].burstLen 0).dma.ch[n].st = .run) :
    exec .dmaBurst s = .next (((s.turned n).burstWords n s.dma.ch[n].burstLen 0).setCh n fun c => { c with burst := c.burst + 1 }) := by
  change execDmaBurst s = _
  unfold execDmaBurst
  rw [hr, hb]
  exact congrArg _ (if_pos hrun)

/-! ### A fault (R347, R348) -/

/-- A channel with a fault; where its record went is told by `q` and `h`. -/
def DmaCh.faulted (cause : DmaCause) (faddr : Nat) (q : Bool) (h : Option (List Byte)) (c : DmaCh) : DmaCh :=
  { c with st := .fault, cause := some cause, faddr := faddr, faults := satNat 65535 (c.faults + 1), recQ := q, held := h }

theorem queueRecord_ch (s : State) (n : ChId) (r : List Byte) :
    ∃ q h, (s.queueRecord n r).dma.ch[n] = { s.dma.ch[n] with recQ := q, held := h } := by
  unfold State.queueRecord
  split
  · exact ⟨true, none, setCh_same _ n _⟩
  · exact ⟨false, some r, setCh_same s n _⟩

theorem dmaFault_ch (s : State) (n : ChId) (cause : DmaCause) (side : Nat) (desc gone : Bool) (faddr k : Nat) :
    ∃ q h, (s.dmaFault n cause side desc gone faddr k).dma.ch[n] = s.dma.ch[n].faulted cause faddr q h := by
  unfold State.dmaFault
  dsimp only
  rw [apply_ite State.dma, State.eccEmit, emit_dma, dmaEmit_dma, ite_self]
  obtain ⟨q, h, hq⟩ := queueRecord_ch _ n _
  rw [hq, State.count_dma, setCh_same]
  exact ⟨q, h, rfl⟩

/-- The SRAM word at `a` has an uncorrectable error. -/
def State.badAt (s : State) (a : Nat) : State := s.onDma fun x => { x with bad := a / 4 :: x.bad.filter fun b => b != a / 4 }

theorem badAt_keep (s : State) (a : Nat) : Keep [.sys, .log, .mon, .dma] s (s.badAt a) :=
  onDma_keep s _ (.refl s) (fun _ h => h) rfl

theorem badAt_dmaRead {a x : Nat} (h : s.translate (ctxOfCh n) x false = .ok a) : (s.badAt a).dmaRead n x = .error .ecc := by
  unfold State.dmaRead
  rw [translate_congr (s := s) (t := s.badAt a) rfl rfl rfl, h]
  exact if_pos (List.elem_cons_self)

/-- The first word of a COPY fails at its source. -/
theorem burstWords_copy_error {e : DmaCause} (ho : s.dma.ch[n].desc.op = 1) (hc : s.dma.ch[n].complete = false)
    (hr : s.dmaRead n (s.dma.ch[n].desc.src + 4 * s.dma.ch[n].prog) = .error e) :
    s.burstWords n 1 0 = s.dmaFault n e 0 false false (s.dma.ch[n].desc.src + 4 * s.dma.ch[n].prog) 0 := by
  have hgo : ¬ (s.dma.ch[n].complete = true ∨ (s.dma.ch[n].desc.drains = true ∧ s.dma.ch[n].prog % 8 = 0 ∧
      ((s.drainQueue s.dma.ch[n].desc.src).isEmpty = true ∨ s.dma.ch[n].ringFull = true))) := by
    rw [hc, Desc.drains, ho]; simp
  have hsrc : s.source n = .error e := by
    unfold State.source
    dsimp only
    rw [ho]
    exact hr
  rw [State.burstWords, if_neg hgo, hsrc]

theorem exec_dmaFault_ecc {a : Nat} (ha : isSram a = true) (hst : s.dma.ch[n].st = .run) (ho : s.dma.ch[n].desc.op = 1)
    (hc : s.dma.ch[n].complete = false) (hb : 0 < s.dma.ch[n].burstLen)
    (ht : s.translate (ctxOfCh n) (s.dma.ch[n].desc.src + 4 * s.dma.ch[n].prog) false = .ok a) :
    exec (.dmaFault n 0 (some a)) s = .next ((s.badAt a).dmaFault n .ecc 0 false false
      (s.dma.ch[n].desc.src + 4 * s.dma.ch[n].prog) 0) := by
  have hburst : (s.badAt a).burstWords n (min (0 + 1) (s.badAt a).dma.ch[n].burstLen) 0 =
      (s.badAt a).dmaFault n .ecc 0 false false (s.dma.ch[n].desc.src + 4 * s.dma.ch[n].prog) 0 := by
    rw [show min (0 + 1) (s.badAt a).dma.ch[n].burstLen = 1 from Nat.min_eq_left hb]
    exact burstWords_copy_error (s := s.badAt a) ho hc (badAt_dmaRead ht)
  obtain ⟨q, h, hch⟩ := dmaFault_ch (s.badAt a) n .ecc 0 false false (s.dma.ch[n].desc.src + 4 * s.dma.ch[n].prog) 0
  have hfault : (if ((s.badAt a).burstWords n (min (0 + 1) (s.badAt a).dma.ch[n].burstLen) 0).dma.ch[n].st = .fault
      then (s.badAt a).burstWords n (min (0 + 1) (s.badAt a).dma.ch[n].burstLen) 0 else s.badAt a) =
      (s.badAt a).dmaFault n .ecc 0 false false (s.dma.ch[n].desc.src + 4 * s.dma.ch[n].prog) 0 := by
    rw [hburst]
    exact if_pos (congrArg DmaCh.st hch :)
  change execDmaFault n 0 (some a) s = _
  unfold execDmaFault
  dsimp only
  rw [if_pos ha]
  exact congrArg _ ((if_neg (not_not_intro hst)).trans hfault)

/-! ### Completion (R346) -/

theorem writeBack_cons_ok {a x : Nat} {w : Word} (ws : List (Nat × Word)) (h : s.translate (ctxOfCh n) a true = .ok x) :
    s.writeBack n ((a, w) :: ws) = (s.storeWord x w).writeBack n ws := by
  rw [State.writeBack, dmaWrite_of_translate w h]

/-- The words of a completed descriptor at `a` written back. -/
def State.writtenBack (s : State) (a : Nat) (c : DmaCh) : State :=
  (((s.storeWord (a + 20) (word c.prog)).storeWord (a + 24) (word Status.ok.code)).storeWord (a + 28)
    (word (s.now % 2 ^ 32))).storeWord a (c.desc.ctrl &&& 0x7FFFFFFF)

theorem writeBack_done {a : Nat} (c : DmaCh)
    (ht : ∀ j, j = 0 ∨ j = 20 ∨ j = 24 ∨ j = 28 → s.translate (ctxOfCh n) (c.cur + j) true = .ok (a + j)) :
    s.writeBack n [(c.cur + 20, word c.prog), (c.cur + 24, word Status.ok.code), (c.cur + 28, word (s.now % 2 ^ 32)),
      (c.cur, c.desc.ctrl &&& 0x7FFFFFFF)] = (s.writtenBack a c, true) := by
  have h0 : s.translate (ctxOfCh n) c.cur true = .ok a := ht 0 (.inl rfl)
  rw [writeBack_cons_ok _ (ht 20 (by simp)),
    writeBack_cons_ok _ ((storeWord_translate _ _ _ _ _ _).trans (ht 24 (by simp))),
    writeBack_cons_ok _ (((storeWord_translate _ _ _ _ _ _).trans (storeWord_translate _ _ _ _ _ _)).trans (ht 28 (by simp))),
    writeBack_cons_ok (x := a) _ (((storeWord_translate _ _ _ _ _ _).trans ((storeWord_translate _ _ _ _ _ _).trans
      (storeWord_translate _ _ _ _ _ _))).trans h0)]
  rfl

theorem writtenBack_ch (s : State) (a : Nat) (c : DmaCh) : (s.writtenBack a c).dma.ch = s.dma.ch := by
  simp only [State.writtenBack, storeWord_ch]

theorem writtenBack_keep {fr : List Part} {s0 : State} (s : State) (a : Nat) (c : DmaCh) (h : Keep fr s0 s) (hp : sub [.dma, .mem] fr = true) :
    Keep fr s0 (s.writtenBack a c) :=
  storeWord_keep _ _ _ (storeWord_keep _ _ _ (storeWord_keep _ _ _ (storeWord_keep s _ _ h hp) hp) hp) hp

/-- The words of a completed descriptor in a memory. -/
def doneMem (m : Memory) (a : Nat) (done st frac ctrl : Word) : Memory :=
  (((m.writeN (a + 20) (wordBytes done)).writeN (a + 24) (wordBytes st)).writeN (a + 28) (wordBytes frac)).writeN a (wordBytes ctrl)

theorem writtenBack_mem (s : State) (a : Nat) (c : DmaCh) : (s.writtenBack a c).mem =
    doneMem s.mem a (word c.prog) (word Status.ok.code) (word (s.now % 2 ^ 32)) (c.desc.ctrl &&& 0x7FFFFFFF) := by
  simp only [State.writtenBack, doneMem, storeWord_mem]

theorem doneMem_reads {m : Memory} (a : Nat) (done st frac ctrl : Word) (h : m.wf = true) :
    (doneMem m a done st frac ctrl).readN a 4 = wordBytes ctrl ∧ (doneMem m a done st frac ctrl).readN (a + 20) 4 = wordBytes done ∧
    (doneMem m a done st frac ctrl).readN (a + 24) 4 = wordBytes st ∧ (doneMem m a done st frac ctrl).readN (a + 28) 4 = wordBytes frac ∧
    ∀ x, x < a ∨ (a + 4 ≤ x ∧ x < a + 20) ∨ a + 32 ≤ x → (doneMem m a done st frac ctrl).read x = m.read x := by
  have h1 := Memory.writeN_wf m (a + 20) (wordBytes done) h
  have h2 := Memory.writeN_wf _ (a + 24) (wordBytes st) h1
  have h3 := Memory.writeN_wf _ (a + 28) (wordBytes frac) h2
  unfold doneMem
  refine ⟨readN_writeN_word _ a ctrl h3, ?_, ?_, ?_, fun x hx => ?_⟩
  · rw [readN_writeN_word_other _ _ _ _ h3 (by omega), readN_writeN_word_other _ _ _ _ h2 (by omega),
      readN_writeN_word_other _ _ _ _ h1 (by omega), readN_writeN_word _ _ _ h]
  · rw [readN_writeN_word_other _ _ _ _ h3 (by omega), readN_writeN_word_other _ _ _ _ h2 (by omega), readN_writeN_word _ _ _ h1]
  · rw [readN_writeN_word_other _ _ _ _ h3 (by omega), readN_writeN_word _ _ _ h2]
  · rw [read_writeN_word_other _ _ _ _ h3 (by omega), read_writeN_word_other _ _ _ _ h2 (by omega),
      read_writeN_word_other _ _ _ _ h1 (by omega), read_writeN_word_other _ _ _ _ h (by omega)]

/-- A completed descriptor counted. -/
def DmaCh.counted (c : DmaCh) : DmaCh := { c with descs := (c.descs + 1) % 65536, burst := 0 }

/-- A completed descriptor without NEXT: its words are written back, the owner may be told, and the channel is idle. -/
theorem exec_descriptorDone_last {a : Nat} (hst : s.dma.ch[n].st = .run) (hc : s.dma.ch[n].complete = true)
    (hn : s.dma.ch[n].desc.next = 0)
    (ht : ∀ j, j = 0 ∨ j = 20 ∨ j = 24 ∨ j = 28 → s.translate (ctxOfCh n) (s.dma.ch[n].cur + j) true = .ok (a + j)) :
    ∃ u, exec (.descriptorDone n) s = .next (u.setCh n fun c => { c with st := .idle }) ∧
      ∀ fr s0, sub [.sys, .hl] fr = true → Keep fr s0 ((s.writtenBack a s.dma.ch[n]).setCh n DmaCh.counted) → Keep fr s0 u := by
  have hgo : ¬ (s.dma.ch[n].st ≠ .run ∨ (!s.dma.ch[n].complete) = true) := by rw [hst, hc]; simp
  simp only [show exec (.descriptorDone n) s = execDescriptorDone n s from rfl, execDescriptorDone]
  rw [if_neg hgo, writeBack_done s.dma.ch[n] ht]
  dsimp only
  rw [if_pos hn]
  refine ⟨_, rfl, fun fr s0 hp hk => ?_⟩
  split
  · split
    · exact notify_keep _ _ _ _ hk hp
    · exact hk
  · exact hk

end

/-- Settles O25: a burst of a FILL by induction on its words; the fault and the completion by what they store. -/
theorem dmaMovesWordsAndCompletes : Obligations.DmaMovesWordsAndCompletes := by
  unfold Obligations.DmaMovesWordsAndCompletes
  refine ⟨fun n a s hinv hr hb hst ho hw hf hl ht => ?fill, fun n a s ha hst ho hc hb ht => ?ecc,
    fun n a s hinv hst hc hn ht => ?done⟩
  case fill =>
    obtain ⟨hch, hword, hother, hk⟩ := burstWords_fill (n := n) s.dma.ch[n].burstLen (s.turned n) 0 a hinv.mem ⟨ho, hw, hf, hl⟩ ht
    have hset := setCh_same ((s.turned n).burstWords n s.dma.ch[n].burstLen 0) n fun c => { c with burst := c.burst + 1 }
    rw [hch] at hset
    exact ⟨_, exec_dmaBurst_bulk hr hb ((congrArg DmaCh.st hch).trans hst), (congrArg DmaCh.prog hset :),
      (congrArg DmaCh.st hset).trans hst, (congrArg DmaCh.burst hset :), hword, hother,
      (setCh_keep _ n _ (hk s (turned_keep s n)) rfl).toOnly⟩
  case ecc =>
    obtain ⟨q, h, hch⟩ := dmaFault_ch (s.badAt a) n .ecc 0 false false (s.dma.ch[n].desc.src + 4 * s.dma.ch[n].prog) 0
    exact ⟨_, exec_dmaFault_ecc ha hst ho hc hb ht, congrArg DmaCh.st hch, congrArg DmaCh.cause hch, congrArg DmaCh.faddr hch,
      (congrArg DmaCh.prog hch :), congrArg DmaCh.faults hch, (dmaFault_keep _ n _ _ _ _ _ _ (badAt_keep s a) rfl).toOnly⟩
  case done =>
    obtain ⟨u, hu, hk⟩ := exec_descriptorDone_last hst hc hn ht
    have hku := hk [.sys, .hl] _ rfl (.refl _)
    have hch : u.dma.ch[n] = s.dma.ch[n].counted := by
      rw [show u.dma = _ from hku.only .dma (by decide), setCh_same, writtenBack_ch]
    have hset := setCh_same u n fun c => { c with st := .idle }
    rw [hch] at hset
    have hmem : u.mem = ((s.writtenBack a s.dma.ch[n]).setCh n DmaCh.counted).mem := hku.only .mem (by decide)
    rw [State.setCh, State.onDma_mem, writtenBack_mem] at hmem
    obtain ⟨hctrl, hdone, hstat, hfrac, hother⟩ := doneMem_reads a (word s.dma.ch[n].prog) (word Status.ok.code)
      (word (s.now % 2 ^ 32)) (s.dma.ch[n].desc.ctrl &&& 0x7FFFFFFF) hinv.mem
    rw [← hmem] at hctrl hdone hstat hfrac hother
    exact ⟨_, hu, congrArg DmaCh.st hset, congrArg DmaCh.descs hset, hctrl, hdone, hstat, hfrac, hother,
      (setCh_keep _ n _ (hk [.sys, .dma, .mem, .hl] s rfl
        (setCh_keep _ n _ (writtenBack_keep s a _ (.refl s) rfl) rfl)) rfl).toOnly⟩

end Sys2Proof.Machine
end

section
/-! SUPPORT. The link's frames: Ethernet, ARP, IPv4, ICMP, UDP, and the segments of CAN0. -/

namespace Sys2Proof.Machine

open Sys2Proof

section
variable {s : State} {b : List Byte} {k : SessId}

/-! ### Settings and the link's state (R325, R326) -/

theorem hlEmit_hl (s : State) (code : Nat) (k : Option SessId) (x y : Nat) : (s.hlEmit code k x y).hl = s.hl := emit_hl s _

/-- An event of the link after a change of the link's state. -/
theorem onHl_hlEmit_only (s : State) (f : HostState → HostState) (code : Nat) (k : Option SessId) (x y : Nat) :
    Keep [.sys, .log, .mon, .hl] s ((s.onHl f).hlEmit code k x y) :=
  hlEmit_keep _ code k x y (onHl_keep s f (.refl s) rfl) rfl

theorem exec_hostLinkDown_same {up : Bool} (h : up = s.hl.link) : exec (.hostLinkDown up) s = .next s := congrArg _ (if_pos h)

theorem exec_hostLinkDown_lost (h : s.hl.link = true) : ∃ x, exec (.hostLinkDown false) s =
    .next ((s.onHl fun y => { y with link := false }).hlEmit 0x0405 none x 0) := by
  refine ⟨(s.tick - s.hl.linkAt) / 120000000, congrArg Host.Outcome.next ?_⟩
  rw [h]
  rfl

theorem exec_hostLinkDown_back (h : s.hl.link = false) : ∃ x, exec (.hostLinkDown true) s =
    .next ((s.onHl fun y => { y with link := true, linkAt := s.tick }).hlEmit 0x0406 none x 0) := by
  refine ⟨if bit s.hl.act.cfg 31 then 1 else 0, congrArg Host.Outcome.next ?_⟩
  rw [h]
  rfl

/-! ### Ethernet (R324) -/

/-- A frame for the device's address or for all. -/
def ForUs (b : List Byte) : Prop := b.take 6 = fit 6 Config.mac ∨ beAt b 0 6 = 0xFFFFFFFFFFFF

theorem exec_ethernetFrameRx_down (h : s.hl.link = false ∨ s.linked = false) : exec (.ethernetFrameRx b) s = .next s :=
  congrArg Host.Outcome.next (if_pos (by rcases h with h | h <;> simp [h]))

/-- A frame that reaches a device whose link is up. -/
def State.frameIn (s : State) (b : List Byte) : State :=
  if b.length < 14 ∨ (b.take 6 ≠ fit 6 Config.mac ∧ beAt b 0 6 ≠ 0xFFFFFFFFFFFF) then s.discard
  else if beAt b 12 2 = 0x0806 then s.rxArp b
  else if beAt b 12 2 = 0x0800 then s.rxIp b
  else s.discard

theorem exec_ethernetFrameRx_up (hl : s.hl.link = true) (hr : s.linked = true) :
    exec (.ethernetFrameRx b) s = .next (s.frameIn b) :=
  congrArg Host.Outcome.next (if_neg (by simp [hl, hr]))

theorem forUs_kept (h14 : 14 ≤ b.length) (hu : ForUs b) :
    ¬ (b.length < 14 ∨ (b.take 6 ≠ fit 6 Config.mac ∧ beAt b 0 6 ≠ 0xFFFFFFFFFFFF)) := by
  rintro (h | ⟨h1, h2⟩)
  · omega
  · exact hu.elim h1 h2

theorem frameIn_arp (h14 : 14 ≤ b.length) (hu : ForUs b) (ht : beAt b 12 2 = 0x0806) : s.frameIn b = s.rxArp b :=
  (if_neg (forUs_kept h14 hu)).trans (if_pos ht)

theorem frameIn_ip (h14 : 14 ≤ b.length) (hu : ForUs b) (ht : beAt b 12 2 = 0x0800) : s.frameIn b = s.rxIp b :=
  (if_neg (forUs_kept h14 hu)).trans ((if_neg (by rw [ht]; decide)).trans (if_pos ht))

theorem frameIn_foreign (h : b.length < 14 ∨ ¬ ForUs b ∨ beAt b 12 2 ≠ 0x0806 ∧ beAt b 12 2 ≠ 0x0800) :
    s.frameIn b = s.discard := by
  unfold State.frameIn
  split
  · rfl
  · next hin =>
    have hsame : beAt b 12 2 ≠ 0x0806 ∧ beAt b 12 2 ≠ 0x0800 := by
      rcases h with h | h | h
      · exact absurd (.inl h) hin
      · exact absurd (.inr (not_or.1 h)) hin
      · exact h
    rw [if_neg hsame.1, if_neg hsame.2]

theorem discard_only (s : State) : State.Only [.hl] s s.discard := (discard_keep s (.refl s) rfl).toOnly

/-! ### ARP -/

/-- The reply to an ARP request. -/
def State.arpReply (s : State) (b : List Byte) : List Byte :=
  (b.drop 22).take 6 ++ fit 6 Config.mac ++ be 2 0x0806 ++ be 6 0x000108000604 ++ be 2 2 ++ fit 6 Config.mac ++ be 4 s.ipAct ++
    (b.drop 22).take 6 ++ (b.drop 28).take 4

theorem rxArp_ours (hl : 42 ≤ b.length) (hh : beAt b 14 6 = 0x000108000604) (ho : beAt b 20 2 = 1 ∨ beAt b 20 2 = 2)
    (ha : beAt b 38 4 = s.ipAct) : s.rxArp b =
    if beAt b 20 2 = 1 then (s.learnArp (beAt b 28 4) (beAt b 22 6)).onHl fun h => { h with sent := .ether (s.arpReply b) :: h.sent }
    else s.learnArp (beAt b 28 4) (beAt b 22 6) := by
  have hgo : ¬ (b.length < 42 ∨ beAt b 14 6 ≠ 0x000108000604 ∨ (beAt b 20 2 ≠ 1 ∧ beAt b 20 2 ≠ 2)) := by
    rintro (h | h | ⟨h1, h2⟩)
    · omega
    · exact h hh
    · exact ho.elim h1 h2
  unfold State.rxArp
  rw [if_neg hgo, if_neg (not_not_intro ha)]
  rfl

/-! ### IPv4 -/

/-- An IPv4 header that the device supports, for the address in force. -/
def State.IpSound (s : State) (b : List Byte) : Prop :=
  34 ≤ b.length ∧ beAt b 14 1 = 0x45 ∧ 20 ≤ beAt b 16 2 ∧ 14 + beAt b 16 2 ≤ b.length ∧ beAt b 20 2 % 0x4000 = 0 ∧
    beAt b 30 4 = s.ipAct ∧ onesSum ((b.drop 14).take 20) 0 = 0xFFFF

/-- What an IPv4 datagram carries. -/
def ipBody (b : List Byte) : List Byte := (b.drop 34).take (beAt b 16 2 - 20)

theorem ipSound_iff : s.IpSound b ↔ ¬ (b.length < 34 ∨ beAt b 14 1 ≠ 0x45 ∨ beAt b 16 2 < 20 ∨ b.length < 14 + beAt b 16 2 ∨
    beAt b 20 2 % 0x4000 ≠ 0 ∨ beAt b 30 4 ≠ s.ipAct ∨ onesSum ((b.drop 14).take 20) 0 ≠ 0xFFFF) := by
  simp only [State.IpSound, not_or, not_lt, ne_eq, not_not]

theorem rxIp_unsound (h : ¬ s.IpSound b) : s.rxIp b = s.discard := if_pos (not_not.1 (mt ipSound_iff.2 h))

theorem rxIp_echo (h : s.IpSound b) (hp : beAt b 23 1 = 1) : s.rxIp b = s.rxEcho b (beAt b 16 2) :=
  (if_neg (ipSound_iff.1 h)).trans (if_pos hp)

theorem rxIp_udp (h : s.IpSound b) (hp : beAt b 23 1 = 17) : s.rxIp b = s.rxUdp b (beAt b 16 2) :=
  (if_neg (ipSound_iff.1 h)).trans ((if_neg (by rw [hp]; decide)).trans (if_pos hp))

theorem rxIp_other (h : s.IpSound b) (h1 : beAt b 23 1 ≠ 1) (h2 : beAt b 23 1 ≠ 17) : s.rxIp b = s.discard :=
  (if_neg (ipSound_iff.1 h)).trans ((if_neg h1).trans (if_neg h2))

/-! ### ICMP -/

theorem echoes_full : 10 ≤ (if s.echoing then s.hl.echoes else 0) ↔ 10 ≤ s.hl.echoes ∧ s.tick < s.hl.echoAt + 120000000 := by
  unfold State.echoing
  split
  · next h => simp only [Bool.and_eq_true, decide_eq_true_eq] at h; exact ⟨fun h10 => ⟨h10, h.1⟩, fun h10 => h10.1⟩
  · next h => simp only [Bool.and_eq_true, decide_eq_true_eq, not_and] at h; exact ⟨fun h10 => absurd h10 (by omega), fun h10 => absurd (h h10.2) (by omega)⟩

theorem answerEcho_echoes (s : State) (n at_ : Nat) (f : List Byte) : (s.answerEcho n at_ f).hl.echoes = n := rfl

theorem answerEcho_sent (s : State) (n at_ : Nat) (f : List Byte) : (s.answerEcho n at_ f).hl.sent = .ether f :: s.hl.sent := rfl

theorem answerEcho_disc (s : State) (n at_ : Nat) (f : List Byte) : (s.answerEcho n at_ f).hl.disc = s.hl.disc := rfl

theorem echoSound_of {x : List Byte} (h8 : 8 ≤ x.length) (ht : beAt x 0 2 = 0x0800) (hs : onesSum x 0 = 0xFFFF) :
    echoSound x = true := by
  simp [echoSound, h8, ht, hs]

theorem rxEcho_silent (hs : echoSound (ipBody b) = true)
    (h : bit s.hl.act.cfg 30 = true ∨ 10 ≤ s.hl.echoes ∧ s.tick < s.hl.echoAt + 120000000) : s.rxEcho b (beAt b 16 2) = s := by
  have hs' : ¬ (!echoSound ((b.drop 34).take (beAt b 16 2 - 20))) = true := by rw [← ipBody, hs]; decide
  refine (if_neg hs').trans ?_
  rcases h with h | h
  · exact if_pos h
  · exact ite_eq_left_iff.2 fun _ => if_pos (echoes_full.2 h)

theorem rxEcho_answered (hs : echoSound (ipBody b) = true) (hn : bit s.hl.act.cfg 30 = false)
    (h : ¬ (10 ≤ s.hl.echoes ∧ s.tick < s.hl.echoAt + 120000000)) : s.rxEcho b (beAt b 16 2) =
    s.answerEcho ((if s.echoing then s.hl.echoes else 0) + 1) (if s.echoing then s.hl.echoAt else s.tick) (s.echoFrame b (ipBody b) (beAt b 16 2)) :=
  have hs' : ¬ (!echoSound ((b.drop 34).take (beAt b 16 2 - 20))) = true := by rw [← ipBody, hs]; decide
  (if_neg hs').trans ((if_neg (by rw [hn]; decide)).trans (if_neg (mt echoes_full.1 h)))

/-! ### UDP (R326) -/

/-- A UDP datagram of sound length and checksum for the port in force. -/
def State.UdpSound (s : State) (b x : List Byte) : Prop :=
  8 ≤ x.length ∧ beAt x 4 2 = x.length ∧ beAt x 2 2 = bits s.hl.act.cfg 0 16 ∧
    (beAt x 6 2 = 0 ∨ onesSum (((b.drop 26).take 8 ++ be 2 17 ++ be 2 x.length) ++ x) 0 = 0xFFFF)

theorem rxUdp_unsound (h : ¬ s.UdpSound b (ipBody b)) : s.rxUdp b (beAt b 16 2) = s.discard := by
  unfold State.rxUdp
  dsimp only
  rw [← ipBody]
  split
  · rfl
  · next hhead =>
    simp only [not_or, not_lt, ne_eq, not_not] at hhead
    obtain ⟨h8, hlen, hport⟩ := hhead
    exact if_pos (not_or.1 fun hsum => h ⟨h8, hlen, hport, hsum⟩)

theorem rxUdp_sound (h : s.UdpSound b (ipBody b)) : s.rxUdp b (beAt b 16 2) =
    s.rxRalar (.eth (beAt b 26 4) (beAt (ipBody b) 0 2)) ((ipBody b).drop 8) := by
  obtain ⟨h8, hlen, hport, hsum⟩ := h
  refine (if_neg ?_).trans (if_neg fun h => hsum.elim h.1 h.2)
  rintro (h | h | h)
  · exact absurd h8 (by unfold ipBody; omega)
  · exact h hlen
  · exact h hport

/-! ### Ralar frames too short (R312) -/

/-- A frame received and found malformed. -/
def State.rxMalformed (s : State) : State := (s.onHl fun h => { h with rxok := (h.rxok + 1) % 65536 }).malformed

theorem rxRalar_short (p : Peer) {frame : List Byte} (h : frame.length < 12) : s.rxRalar p frame = s.rxMalformed :=
  if_pos (.inl h)

theorem rxMalformed_only {s0 : State} (s : State) (h : Keep [.hl, .sec] s0 s) : State.Only [.hl, .sec] s0 s.rxMalformed :=
  (malformed_keep _ (onHl_keep s _ h rfl) rfl).toOnly

/-! ### CAN0 (R327, R328) -/

variable {h : Fin 4} {data : List Byte}

/-- The reassembly of host number `h`. -/
def State.setSeg (s : State) (h : Fin 4) (a : Option SegAsm) : State := s.onHl fun x => { x with asm := upd x.asm h fun _ => a }

theorem setSeg_same (s : State) (h : Fin 4) (a : Option SegAsm) : (s.setSeg h a).hl.asm[h] = a := upd_same _ h _

theorem setSeg_other (s : State) {h j : Fin 4} (a : Option SegAsm) (hj : j ≠ h) : (s.setSeg h a).hl.asm[j] = s.hl.asm[j] :=
  upd_other _ h j _ hj.symm

theorem setSeg_only (s : State) (h : Fin 4) (a : Option SegAsm) : State.Only [.hl] s (s.setSeg h a) :=
  (onHl_keep s _ (.refl s) rfl : Keep [.hl] s _).toOnly

/-- A reassembly dropped and counted. -/
def State.segLost (s : State) (h : Fin 4) : State := s.dropSeg.setSeg h none

theorem segLost_only (s : State) (h : Fin 4) : State.Only [.hl] s (s.segLost h) :=
  have hk : Keep [.hl] s (s.dropSeg.setSeg h none) := by
    unfold State.setSeg
    exact onHl_keep _ _ (dropSeg_keep s (.refl s) rfl) rfl
  hk.toOnly

theorem exec_can0Segment_off (hoff : s.ralar = false ∨ s.canLive 0 = false) : exec (.can0Segment h data) s = .next s :=
  congrArg Host.Outcome.next (if_neg (by rcases hoff with h | h <;> simp [h]))

theorem exec_can0Segment_on (hr : s.ralar = true) (hc : s.canLive 0 = true) :
    exec (.can0Segment h data) s = .next (s.rxSeg h data) :=
  congrArg Host.Outcome.next (if_pos (by simp [hr, hc]))

theorem expireSeg_of_none (ha : s.hl.asm[h] = none) : s.expireSeg h = s := by
  unfold State.expireSeg
  rw [ha]

theorem expireSeg_of_young {a : SegAsm} (ha : s.hl.asm[h] = some a) (ht : s.tick ≤ a.tick + 50 * ticksPerMs) :
    s.expireSeg h = s := by
  unfold State.expireSeg
  rw [ha]
  exact if_neg (Nat.not_lt.2 ht)

theorem expireSeg_of_old {a : SegAsm} (ha : s.hl.asm[h] = some a) (ht : a.tick + 50 * ticksPerMs < s.tick) :
    s.expireSeg h = s.segLost h := by
  unfold State.expireSeg
  rw [ha]
  exact if_pos ht

theorem rxSeg_first (ha : s.hl.asm[h] = none) (h0 : (data.headD 0).toNat = 128) (hl : data.length ≤ 64) :
    s.rxSeg h data = s.setSeg h (some { bytes := data.drop 1, seq := 0, tick := s.tick }) := by
  have hlen : ¬ 2048 < (data.drop 1).length := by rw [List.length_drop]; omega
  unfold State.rxSeg
  simp only [expireSeg_of_none ha, h0, ha]
  exact if_neg hlen

theorem rxSeg_next {a : SegAsm} (ha : s.hl.asm[h] = some a) (ht : s.tick ≤ a.tick + 50 * ticksPerMs)
    (h0 : (data.headD 0).toNat = (a.seq + 1) % 64) (hl : a.bytes.length + data.length ≤ 2048) :
    s.rxSeg h data = s.setSeg h (some { bytes := a.bytes ++ data.drop 1, seq := a.seq + 1, tick := s.tick }) := by
  have hlen : ¬ 2048 < (a.bytes ++ data.drop 1).length := by rw [List.length_append, List.length_drop]; omega
  have hfirst : ¬ (a.seq + 1) % 64 / 128 = 1 := by omega
  have hlast : ¬ (a.seq + 1) % 64 / 64 % 2 = 1 := by omega
  unfold State.rxSeg
  simp only [expireSeg_of_young ha ht, h0, ha, if_neg hfirst, if_neg hlast, if_neg hlen, Nat.mod_mod, if_true]
  rfl

theorem rxSeg_of_none (ha : s.hl.asm[h] = none) (h0 : (data.headD 0).toNat < 128) : s.rxSeg h data = s := by
  have hfirst : ¬ (data.headD 0).toNat / 128 = 1 := by omega
  unfold State.rxSeg
  simp only [expireSeg_of_none ha, ha, if_neg hfirst]

theorem rxSeg_lost {a : SegAsm} (ha : s.hl.asm[h] = some a) (h0 : (data.headD 0).toNat < 128)
    (hbad : a.tick + 50 * ticksPerMs < s.tick ∨ (data.headD 0).toNat % 64 ≠ (a.seq + 1) % 64) :
    s.rxSeg h data = s.segLost h := by
  have hfirst : ¬ (data.headD 0).toNat / 128 = 1 := by omega
  have hnone : (s.segLost h).hl.asm[h] = none := setSeg_same _ h none
  by_cases ht : a.tick + 50 * ticksPerMs < s.tick
  · unfold State.rxSeg
    simp only [expireSeg_of_old ha ht, hnone, if_neg hfirst]
  · unfold State.rxSeg
    simp only [expireSeg_of_young ha (Nat.not_lt.1 ht), ha, if_neg hfirst, if_neg (hbad.resolve_left ht)]
    rfl

theorem rxSeg_whole_short (ha : s.hl.asm[h] = none) (h0 : (data.headD 0).toNat = 192) (hl : data.length ≤ 12) :
    s.rxSeg h data = (s.setSeg h none).rxMalformed := by
  have htrim : (trimFrame (data.drop 1)).length < 12 := by
    refine lt_of_le_of_lt (List.length_take_le' _ _) ?_
    rw [List.length_drop]; omega
  have hlen : ¬ 2048 < (trimFrame (data.drop 1)).length := by omega
  unfold State.rxSeg
  simp only [expireSeg_of_none ha, h0, ha]
  exact (if_neg hlen).trans (rxRalar_short _ htrim)

end

/-- Settles O58: each transport by the branch its frame, datagram or segment takes. -/
theorem hostLinkTransportsAct : Obligations.HostLinkTransportsAct := by
  unfold Obligations.HostLinkTransportsAct
  refine ⟨fun up s h => ?same, fun s h => ?lost, fun s h => ?back, fun k s hg => ?save, fun k s hg => ?saveRefused,
    fun b s h => ?down, fun b s hl hr h => ?foreign, fun b s hl hr hu ht h42 hh ho ha => ?arp,
    fun b s hl hr h14 hu ht h => ?ipUnsound, fun b s hl hr h14 hu ht h h1 h2 => ?ipOther,
    fun b s hl hr h14 hu ht h hp h8 he hsum hq => ?echoSilent, fun b s hl hr h14 hu ht h hp h8 he hsum hn hq => ?echo,
    fun b s hl hr h14 hu ht h hp hq => ?udpUnsound, fun b s hl hr h14 hu ht h hp hq h20 => ?udpShort,
    fun h data s hoff => ?canOff, fun h data s hr hc ha h0 hl => ?first, fun h data a s hr hc ha ht h0 hl => ?next,
    fun h data a s hr hc ha h0 hbad => ?dropped, fun h data s hr hc ha h0 => ?ignored,
    fun h data s hr hc ha h0 hl => ?whole⟩
  case same => exact ⟨s, exec_hostLinkDown_same h, rfl⟩
  case lost =>
    obtain ⟨x, hx⟩ := exec_hostLinkDown_lost h
    exact ⟨_, hx, hlEmit_hl _ _ _ _ _, (onHl_hlEmit_only s _ _ _ _ _).toOnly⟩
  case back =>
    obtain ⟨x, hx⟩ := exec_hostLinkDown_back h
    exact ⟨_, hx, hlEmit_hl _ _ _ _ _, (onHl_hlEmit_only s _ _ _ _ _).toOnly⟩
  case save =>
    exact ⟨_, gated_acts_ok rfl hg rfl, hlEmit_hl _ _ _ _ _, congrArg (List.cons _) (emit_answers _ _),
      told_only _ _ (onHl_hlEmit_only s _ _ _ _ _) rfl⟩
  case saveRefused =>
    exact ⟨_, next_gated_refused hg, rfl, (answer_keep s _ _ (.refl s) rfl : Keep [.sys, .hie, .mon] s _).only .hl (by decide)⟩
  case down => exact ⟨s, exec_ethernetFrameRx_down h, rfl⟩
  case foreign =>
    rw [exec_ethernetFrameRx_up hl hr, frameIn_foreign h]
    exact ⟨_, rfl, rfl, discard_only s⟩
  case arp =>
    rw [exec_ethernetFrameRx_up hl hr, frameIn_arp (by omega) hu ht, rxArp_ours h42 hh ho ha]
    have hk : Keep [.hl] s (s.learnArp (beAt b 28 4) (beAt b 22 6)) := learnArp_keep s _ _ (.refl s) rfl
    split
    · exact ⟨_, rfl, rfl, rfl, rfl, (onHl_keep _ _ hk rfl).toOnly⟩
    · exact ⟨_, rfl, rfl, rfl, rfl, hk.toOnly⟩
  case ipUnsound =>
    rw [exec_ethernetFrameRx_up hl hr, frameIn_ip h14 hu ht, rxIp_unsound h]
    exact ⟨_, rfl, rfl, discard_only s⟩
  case ipOther =>
    rw [exec_ethernetFrameRx_up hl hr, frameIn_ip h14 hu ht, rxIp_other h h1 h2]
    exact ⟨_, rfl, rfl, discard_only s⟩
  case echoSilent =>
    rw [exec_ethernetFrameRx_up hl hr, frameIn_ip h14 hu ht, rxIp_echo h hp, rxEcho_silent (echoSound_of h8 he hsum) hq]
    exact ⟨_, rfl, rfl⟩
  case echo =>
    rw [exec_ethernetFrameRx_up hl hr, frameIn_ip h14 hu ht, rxIp_echo h hp, rxEcho_answered (echoSound_of h8 he hsum) hn hq]
    exact ⟨_, rfl, answerEcho_sent s _ _ _, answerEcho_echoes s _ _ _, answerEcho_disc s _ _ _, (answerEcho_keep s _ _ _ (.refl s) rfl).toOnly⟩
  case udpUnsound =>
    rw [exec_ethernetFrameRx_up hl hr, frameIn_ip h14 hu ht, rxIp_udp h hp, rxUdp_unsound hq]
    exact ⟨_, rfl, rfl, discard_only s⟩
  case udpShort =>
    have hshort : ((ipBody b).drop 8).length < 12 := by
      rw [List.length_drop]
      exact Nat.sub_lt_right_of_lt_add hq.1 h20
    rw [exec_ethernetFrameRx_up hl hr, frameIn_ip h14 hu ht, rxIp_udp h hp, rxUdp_sound hq, rxRalar_short _ hshort]
    exact ⟨_, rfl, rfl, rfl, rxMalformed_only s (.refl s)⟩
  case canOff => exact ⟨s, exec_can0Segment_off hoff, rfl⟩
  case first =>
    rw [exec_can0Segment_on hr hc, rxSeg_first ha h0 hl]
    exact ⟨_, rfl, rfl, setSeg_only s h _⟩
  case next =>
    rw [exec_can0Segment_on hr hc, rxSeg_next ha ht h0 hl]
    exact ⟨_, rfl, rfl, setSeg_only s h _⟩
  case dropped =>
    rw [exec_can0Segment_on hr hc, rxSeg_lost ha h0 hbad]
    exact ⟨_, rfl, setSeg_same _ h none, fun j hj => setSeg_other s.dropSeg none hj, rfl, rfl,
      segLost_only s h⟩
  case ignored =>
    rw [exec_can0Segment_on hr hc, rxSeg_of_none ha h0]
    exact ⟨s, rfl, rfl⟩
  case whole =>
    rw [exec_can0Segment_on hr hc, rxSeg_whole_short ha h0 hl]
    exact ⟨_, rfl, setSeg_same s h none, rfl, rfl, rxMalformed_only _ (onHl_keep s _ (.refl s) rfl)⟩

end Sys2Proof.Machine
end

section
/-! SUPPORT. The recorder: commits, lost events, recovery and the window. -/

namespace Sys2Proof.Machine

open Sys2Proof

/-! ### Presenting an event touches Q8, the buckets and their counts alone (R379 to R381) -/

/-- The records, their chain and the recorder's own state are the same. -/
structure SameRecords (x y : RecState) : Prop where
  reel : y.reel = x.reel
  keep : y.keep = x.keep
  nextSeq : y.nextSeq = x.nextSeq
  nextPos : y.nextPos = x.nextPos
  chain : y.chain = x.chain
  ready : y.ready = x.ready
  keepFull : y.keepFull = x.keepFull
  ops : y.ops = x.ops
  opsTicks : y.opsTicks = x.opsTicks

section
variable {s : State} {k : SessId}

theorem loseEvent_records (s : State) (e : Ev) (k : Bool) (b : Bucket) : SameRecords s.log (s.loseEvent e k b).log := by
  unfold State.loseEvent
  dsimp only
  rw [State.count_log]
  exact ⟨rfl, rfl, rfl, rfl, rfl, rfl, rfl, rfl, rfl⟩

theorem suppress_records (s : State) (k : Nat) (b : Bucket) : SameRecords s.log (s.suppress k b).log := by
  unfold State.suppress
  dsimp only
  rw [State.count_log]
  exact ⟨rfl, rfl, rfl, rfl, rfl, rfl, rfl, rfl, rfl⟩

theorem pushQ8_records (s : State) (e : Q8Entry) : SameRecords s.log (s.pushQ8 e).log := ⟨rfl, rfl, rfl, rfl, rfl, rfl, rfl, rfl, rfl⟩

theorem pushQ8_setBucket_records (s : State) (n : Nat) (b : Bucket) (e : Q8Entry) :
    SameRecords s.log ((s.setBucket n b).pushQ8 e).log := ⟨rfl, rfl, rfl, rfl, rfl, rfl, rfl, rfl, rfl⟩

theorem emit_records (s : State) (e : Ev) : SameRecords s.log (s.emit e).log := by
  unfold State.emit
  dsimp only
  split
  · split
    · exact pushQ8_records s _
    · exact loseEvent_records s e _ _
  · split
    · exact suppress_records s _ _
    · split
      · exact pushQ8_setBucket_records s _ _ _
      · exact loseEvent_records s e _ _

/-! ### A record committed (R371, R378, R382) -/

/-- The body of the record of an entry taken now. -/
def State.bodyOf (s : State) (e : Q8Entry) : List Byte := s.recBody e (s.keeps e)

/-- CHAIN of the record of an entry taken now. -/
def State.hashOf (s : State) (e : Q8Entry) : List Byte := chainOf s.log.chainBefore (s.bodyOf e)

/-- The entry's record put into the Reel, and into the Keep where it is kept. -/
def State.stored (s : State) (e : Q8Entry) : State :=
  (s.putRecord (recBytes (s.bodyOf e) (s.hashOf e)) (s.hashOf e) (s.keeps e)).count 0x07 1

/-- The recorder after a record: before the Reel, behind the Keep where it is kept, and the chain's head. -/
def RecState.recordedWith (x : RecState) (bytes h : List Byte) (kept : Bool) : RecState :=
  { x with reel := ({ pos := x.nextPos, bytes := bytes } :: x.reel).take reelSize,
           keep := if kept then x.keep ++ [{ pos := x.keep.length, bytes := bytes }] else x.keep,
           nextSeq := (x.nextSeq + 1) % 2 ^ 32, nextPos := (x.nextPos + 1) % reelSize, any := true, chain := h }

theorem stored_log (s : State) (e : Q8Entry) :
    (s.stored e).log = s.log.recordedWith (recBytes (s.bodyOf e) (s.hashOf e)) (s.hashOf e) (s.keeps e) := by
  unfold State.stored State.putRecord
  rw [State.count_log, State.onLog_log]
  rfl

theorem record_eq (s : State) (e : Q8Entry) : s.record e =
    if (e.k && !s.keeps e && !(s.stored e).log.keepFull) = true then
      ((s.stored e).onLog fun x => { x with keepFull := true }).emit { code := 0x0E04, payload := le 4 s.log.nextSeq ++ zeros 20 }
    else s.stored e := rfl

theorem stored_keepFull (s : State) (e : Q8Entry) : (s.stored e).log.keepFull = s.log.keepFull :=
  (congrArg RecState.keepFull (stored_log s e) :)

/-- A record with K that finds the Keep full for the first time says so; any other is only stored. -/
theorem record_cases (s : State) (e : Q8Entry) :
    ((e.k = true ∧ s.keeps e = false ∧ s.log.keepFull = false) ∧
      SameRecords { (s.stored e).log with keepFull := true } (s.record e).log) ∨
    ((e.k = false ∨ s.keeps e = true ∨ s.log.keepFull = true) ∧ s.record e = s.stored e) := by
  rw [record_eq, stored_keepFull]
  split
  · next h =>
    simp only [Bool.and_eq_true, Bool.not_eq_true'] at h
    exact .inl ⟨⟨h.1.1, h.1.2, h.2⟩, emit_records ((s.stored e).onLog fun x => { x with keepFull := true }) _⟩
  · next h =>
    simp only [Bool.and_eq_true, Bool.not_eq_true', not_and_or, Bool.not_eq_true, Bool.not_eq_false] at h
    exact .inr ⟨or_assoc.1 h, rfl⟩

/-- What a record makes of the recorder, but for Q8 and the mark of a full Keep. -/
structure Recorded (s : State) (e : Q8Entry) (y : RecState) : Prop where
  reel : y.reel = ({ pos := s.log.nextPos, bytes := recBytes (s.bodyOf e) (s.hashOf e) } :: s.log.reel).take reelSize
  keep : y.keep = if s.keeps e then s.log.keep ++ [{ pos := s.log.keep.length, bytes := recBytes (s.bodyOf e) (s.hashOf e) }]
    else s.log.keep
  nextSeq : y.nextSeq = (s.log.nextSeq + 1) % 2 ^ 32
  nextPos : y.nextPos = (s.log.nextPos + 1) % reelSize
  chain : y.chain = s.hashOf e
  ready : y.ready = s.log.ready
  ops : y.ops = s.log.ops
  opsTicks : y.opsTicks = s.log.opsTicks

theorem stored_recorded (s : State) (e : Q8Entry) : Recorded s e (s.stored e).log := by
  rw [stored_log]
  exact ⟨rfl, rfl, rfl, rfl, rfl, rfl, rfl, rfl⟩

theorem SameRecords.recorded {e : Q8Entry} {y : RecState}
    (h : SameRecords { (s.stored e).log with keepFull := true } y) : Recorded s e y :=
  have hs := stored_recorded s e
  ⟨h.reel.trans hs.reel, h.keep.trans hs.keep, h.nextSeq.trans hs.nextSeq, h.nextPos.trans hs.nextPos, h.chain.trans hs.chain,
    h.ready.trans hs.ready, h.ops.trans hs.ops, h.opsTicks.trans hs.opsTicks⟩

theorem record_recorded (s : State) (e : Q8Entry) : Recorded s e (s.record e).log := by
  rcases record_cases s e with ⟨-, h⟩ | ⟨-, h⟩
  · exact h.recorded
  · rw [h]; exact stored_recorded s e

/-! ### The head of Q8 (R382) -/

/-- The head of Q8 has left it. -/
def State.popped (s : State) : State := s.onLog fun x => { x with q8 := x.q8.drop 1 }

theorem popped_keeps (s : State) (e : Q8Entry) : s.popped.keeps e = s.keeps e := rfl
theorem popped_bodyOf (s : State) (e : Q8Entry) : s.popped.bodyOf e = s.bodyOf e := rfl
theorem popped_hashOf (s : State) (e : Q8Entry) : s.popped.hashOf e = s.hashOf e := by
  unfold State.hashOf
  rw [popped_bodyOf]
  rfl

theorem exec_recordCommit_head {e : Q8Entry} {es : List Q8Entry} (hr : s.log.ready = true) (hq : s.log.q8 = e :: es) :
    exec .recordCommit s = .next (s.popped.record e) := by
  change execRecordCommit s = _
  unfold execRecordCommit
  rw [hq]
  exact congrArg _ (if_pos hr)

theorem exec_recordCommit_none (h : s.log.ready = false ∨ s.log.q8 = []) : exec .recordCommit s = .next s := by
  change execRecordCommit s = _
  unfold execRecordCommit
  split
  · next hq => exact congrArg _ (if_neg (by rw [h.resolve_right (by rw [hq]; exact List.cons_ne_nil _ _)]; exact Bool.false_ne_true))
  · rfl

theorem popped_record_q8 {e : Q8Entry} {es : List Q8Entry} (hq : s.log.q8 = e :: es)
    (h : e.k = false ∨ s.keeps e = true ∨ s.log.keepFull = true) : (s.popped.record e).log.q8 = es := by
  rcases record_cases s.popped e with ⟨⟨hk, hp, hf⟩, -⟩ | ⟨-, hrec⟩
  · rcases h with h | h | h
    · rw [hk] at h; exact absurd h.symm Bool.false_ne_true
    · rw [popped_keeps, h] at hp; exact absurd hp.symm Bool.false_ne_true
    · exact absurd (hf.symm.trans h) Bool.false_ne_true
  · rw [hrec, stored_log]
    change s.log.q8.drop 1 = es
    rw [hq]
    rfl

theorem popped_record_keepFull {e : Q8Entry} (hk : e.k = true) (hp : s.keeps e = false) : (s.popped.record e).log.keepFull = true := by
  rcases record_cases s.popped e with ⟨-, h⟩ | ⟨h, hrec⟩
  · exact h.keepFull
  · rw [hrec, stored_keepFull]
    rcases h with h | h | h
    · rw [hk] at h; exact absurd h.symm Bool.false_ne_true
    · rw [popped_keeps, hp] at h; exact absurd h Bool.false_ne_true
    · exact h

/-! ### Lost events (R381) -/

/-- LOST_EVENTS of a bucket. -/
def lostEv (n : Nat) (b : Bucket) : Ev :=
  { code := 0x0E01, payload := le 2 b.lostCode ++ le 2 n ++ le 4 b.lost ++ stampOf b.lostFirst ++ stampOf b.lostLast }

/-- A bucket whose lost data is cleared. -/
def Bucket.told (b : Bucket) : Bucket := { b with lost := 0, lostCode := 0, lostFirst := 0, lostLast := 0, lostK := false }

theorem exec_lostEvents_some {n : Nat} {b : Bucket} (hq : s.log.q8.length ≤ 48) (hb : s.lostBucket = some (n, b)) :
    exec .lostEvents s = .next ((s.setBucket n b.told).pushQ8 (s.entryOf (lostEv n b) (b.lostK || s.codeK 0x0E01) 0)) := by
  change execLostEvents s = _
  unfold execLostEvents
  rw [if_neg (Nat.not_lt.2 hq), hb]
  rfl

theorem exec_lostEvents_none (h : 48 < s.log.q8.length ∨ s.lostBucket = none) : exec .lostEvents s = .next s := by
  change execLostEvents s = _
  unfold execLostEvents
  split
  · rfl
  · next hq => rw [h.resolve_left hq]

/-! ### Recovery (R376, R384) -/

/-- The recorder ready again, its operating time resumed. -/
structure Resumed (s u : State) : Prop where
  ready : u.log.ready = true
  ops : u.log.ops = max s.log.opsSaved s.log.headOps
  opsTicks : u.log.opsTicks = 0
  nextSeq : u.log.nextSeq = s.log.nextSeq

theorem recover_sound (torn : Bool) (h : s.log.chainBreak = none) :
    ∃ u a, s.recover torn = u.record a ∧ Resumed s u := by
  unfold State.recover
  dsimp only
  rw [h]
  exact ⟨_, _, rfl, rfl, rfl, rfl, rfl⟩

theorem recover_broken (torn : Bool) {q : Nat} (h : s.log.chainBreak = some q) :
    ∃ u a b, s.recover torn = (u.record a).record b ∧ Resumed s u := by
  unfold State.recover
  dsimp only
  rw [h]
  exact ⟨_, _, _, rfl, rfl, rfl, rfl, rfl⟩

/-- The recorder after its recovery: ready, its operating time resumed, and one or two records more. -/
structure Recovered (s t : State) : Prop where
  ready : t.log.ready = true
  ops : t.log.ops = max s.log.opsSaved s.log.headOps
  opsTicks : t.log.opsTicks = 0
  nextSeq : t.log.nextSeq =
    if s.log.chainBreak.isSome then ((s.log.nextSeq + 1) % 2 ^ 32 + 1) % 2 ^ 32 else (s.log.nextSeq + 1) % 2 ^ 32

theorem recover_recovered (s : State) (torn : Bool) : Recovered s (s.recover torn) := by
  cases h : s.log.chainBreak with
  | none =>
    obtain ⟨u, a, hrec, hu⟩ := recover_sound torn h
    have ha := record_recorded u a
    rw [hrec]
    exact ⟨ha.ready.trans hu.ready, ha.ops.trans hu.ops, ha.opsTicks.trans hu.opsTicks, by rw [ha.nextSeq, hu.nextSeq, h]; rfl⟩
  | some q =>
    obtain ⟨u, a, b, hrec, hu⟩ := recover_broken torn h
    have ha := record_recorded u a
    have hb := record_recorded (u.record a) b
    rw [hrec]
    exact ⟨hb.ready.trans (ha.ready.trans hu.ready), hb.ops.trans (ha.ops.trans hu.ops),
      hb.opsTicks.trans (ha.opsTicks.trans hu.opsTicks), by rw [hb.nextSeq, ha.nextSeq, hu.nextSeq, h]; rfl⟩

theorem exec_recorderStart_first (torn : Bool) (h : s.log.ready = false) : exec (.recorderStart torn) s = .next (s.recover torn) :=
  congrArg Host.Outcome.next (if_neg (by rw [h]; exact Bool.false_ne_true))

theorem exec_recorderStart_again (torn : Bool) (h : s.log.ready = true) : exec (.recorderStart torn) s = .next s :=
  congrArg Host.Outcome.next (if_pos h)

/-! ### The window (R387 to R389) -/

/-- A word of the record that the window shows, returned. -/
def State.shown (s : State) (r : RecSlot) (w : Nat) : State := s.onSys fun x => { x with readData := word (r.num (4 * w) 4) }

theorem readWin_of_ok {r : RecSlot} (w : Fin 16) (h : s.log.window = .ok r) : s.readWin w = .ok (word (r.num (4 * w.val) 4)) := by
  unfold State.readWin
  rw [h]

theorem readWin_of_error {st : Status} (w : Fin 16) (h : s.log.window = .error st) : s.readWin w = .error st := by
  unfold State.readWin
  rw [h]

theorem window_error {st : Status} (h : s.log.window = .error st) : st = .notReady ∨ st = .gone := by
  unfold RecState.window at h
  split at h
  · split at h
    · cases h
    · cases h; exact .inl rfl
  · dsimp only at h
    split at h
    · cases h; exact .inl rfl
    · split at h
      · cases h
      · split at h
        · cases h
        · cases h; exact .inr rfl

theorem window_error_ne_interlock {st : Status} (h : s.log.window = .error st) : st ≠ .interlock := by
  rcases window_error h with rfl | rfl <;> decide

theorem readWinseq_of_ok {r : RecSlot} (h : s.log.window = .ok r) :
    s.readWinseq = (s.onLog RecState.advance, .ok (word (r.num 0 4))) := by
  unfold State.readWinseq
  rw [readWin_of_ok 0 h]
  rfl

theorem readWinseq_of_error {st : Status} (h : s.log.window = .error st) : s.readWinseq = (s, .error st) := by
  unfold State.readWinseq
  rw [readWin_of_error 0 h]

theorem cursor_eq (x : RecState) : x.advance = if x.auto = false then x else if x.area = true then
    { x with kidx := (x.kidx + 1) % keepSize } else { x with cur := x.cur + 1 } := by
  unfold RecState.advance
  cases x.auto <;> rfl

theorem cursor_keep {fr : List Part} (s : State) (hp : sub [.log] fr = true) : Keep fr s (s.onLog RecState.advance) := by
  have hsame : ∀ x : RecState, LogLe x x.advance ∧ x.advance.q8 = x.q8 := fun x => by
    rw [cursor_eq]
    split
    · exact ⟨.refl x, rfl⟩
    · split <;> exact ⟨LogLe.same rfl rfl rfl, rfl⟩
  exact onLog_keep s _ (.refl s) (fun x h => by rw [(hsame x).2]; exact h) (hsame s.log).1 hp

end

/-- Settles O53: a commit by what a record makes of the recorder (`Recorded`), a start by the one or two records of its
recovery, a read by the window. -/
theorem recordsAreCommittedAndRead : Obligations.RecordsAreCommittedAndRead := by
  unfold Obligations.RecordsAreCommittedAndRead
  refine ⟨fun e es s hr hq => ?commit, fun s h => ?idle, fun n b s hq hb => ?lost, fun s h => ?noneLost,
    fun b s h => ?start, fun b s h => ?again, fun s => ?save, fun w k r s hg h => ?read, fun w k st s hg h => ?readFails,
    fun k r s hg h => ?seq, fun k st s hg h => ?seqFails, fun w k s hg => ?readRefused, fun k s hg => ?seqRefused⟩
  case commit =>
    have h := record_recorded s.popped e
    have hkeep : Keep [.sys, .log, .mon] s (s.popped.record e) := commit_keep s e (.refl s) rfl
    exact ⟨_, exec_recordCommit_head hr hq, h.reel, h.keep, h.nextSeq, h.nextPos, h.chain, popped_record_q8 hq,
      popped_record_keepFull, hkeep.toOnly⟩
  case idle => exact ⟨s, exec_recordCommit_none h, rfl⟩
  case lost =>
    exact ⟨_, exec_lostEvents_some hq hb, rfl, next_only (execLostEvents_keep s (.refl s) rfl) (exec_lostEvents_some hq hb)⟩
  case noneLost => exact ⟨s, exec_lostEvents_none h, rfl⟩
  case start =>
    obtain ⟨hready, hops, hticks, hseq⟩ := recover_recovered s b
    exact ⟨_, exec_recorderStart_first b h, hready, hops, hticks, hseq, (recover_keep s b (.refl s) rfl : Keep [.sys, .log, .mon] s _).toOnly⟩
  case again => exact ⟨s, exec_recorderStart_again b h, rfl⟩
  case save => exact ⟨_, rfl, rfl, (saveOps_keep s (.refl s) rfl : Keep [.log] s _).toOnly⟩
  case read =>
    exact ⟨_, gated_acts_ok (u := s.shown r w.val) rfl hg (by rw [readWin_of_ok w h]; rfl), rfl,
      told_only _ _ (onSys_keep s _ (.refl s) rfl) rfl⟩
  case readFails =>
    obtain ⟨t, ht, hsys, honly⟩ := gated_turned_away (go := fun s => s.readResult (s.readWin w)) rfl hg
      (by rw [readWin_of_error w h]; rfl) (window_error_ne_interlock h)
    exact ⟨t, ht, hsys, window_error h, honly⟩
  case seq =>
    refine ⟨_, gated_acts_ok (u := (s.onLog RecState.advance).shown r 0) rfl hg (by rw [readWinseq_of_ok h]; rfl), rfl,
      cursor_eq s.log, told_only _ _ (onSys_keep _ _ (cursor_keep s rfl) rfl) rfl⟩
  case seqFails =>
    exact gated_turned_away (go := fun s => s.readWinseq.1.readResult s.readWinseq.2) rfl hg
      (by rw [readWinseq_of_error h]; rfl) (window_error_ne_interlock h)
  case readRefused =>
    exact ⟨_, next_gated_refused hg, rfl, (answer_keep s _ _ (.refl s) rfl : Keep [.sys, .hie, .mon] s _).toOnly⟩
  case seqRefused =>
    exact ⟨_, next_gated_refused hg, rfl, (answer_keep s _ _ (.refl s) rfl : Keep [.sys, .hie, .mon] s _).toOnly⟩

end Sys2Proof.Machine
end

section
/-! SUPPORT. Counters, the snapshot, live reads and the user calibration. -/

namespace Sys2Proof.Machine

open Sys2Proof

section
variable {s : State} {k : SessId} {v : Word}

/-! ### Counters keep SAT (R393) -/

theorem Counter.add_sat (c : Counter) (m : Nat) : (c.add m).sat = c.sat := by
  unfold Counter.add
  rfl

/-- Every counter whose source is `src` adds `m` (R392). -/
def State.counted (s : State) (src m : Nat) : State := s.onMon fun x =>
  { x with counters := updAll x.counters fun i c => if bits (s.monCfg i) 24 8 = src ∧ src ≠ 0 then c.add m else c }

theorem counted_sat (s : State) (src m : Nat) (n : MonId) : (s.counted src m).mon.counters[n].sat = s.mon.counters[n].sat := by
  unfold State.counted
  rw [State.onMon_mon]
  dsimp only
  rw [updAll_get, apply_ite Counter.sat, Counter.add_sat, ite_self]

theorem count_sat (s : State) (src m : Nat) (n : MonId) : (s.count src m).mon.counters[n].sat = s.mon.counters[n].sat := by
  have hcount : s.count src m = if s.mon.running = true then s.counted src m else s := rfl
  rw [hcount]
  split
  · exact counted_sat s src m n
  · rfl

theorem loseEvent_sat (s : State) (e : Ev) (kk : Bool) (b : Bucket) (n : MonId) :
    (s.loseEvent e kk b).mon.counters[n].sat = s.mon.counters[n].sat :=
  count_sat ((s.setBucket _ _).noteOvf 8) 0x09 1 n

theorem suppress_sat (s : State) (i : Nat) (b : Bucket) (n : MonId) : (s.suppress i b).mon.counters[n].sat = s.mon.counters[n].sat :=
  count_sat (s.setBucket i _) 0x08 1 n

theorem pushQ8_sat (s : State) (e : Q8Entry) (n : MonId) : (s.pushQ8 e).mon.counters[n].sat = s.mon.counters[n].sat := rfl

theorem emit_sat (s : State) (e : Ev) (n : MonId) : (s.emit e).mon.counters[n].sat = s.mon.counters[n].sat := by
  unfold State.emit
  dsimp only
  split
  · split
    · exact pushQ8_sat s _ n
    · exact loseEvent_sat s e _ _ n
  · split
    · exact suppress_sat s _ _ n
    · split
      · exact pushQ8_sat (s.setBucket _ _) _ n
      · exact loseEvent_sat s e _ _ n

/-- Counter `n` reads SAT. -/
def State.satSet (s : State) (n : MonId) : State := s.onMon fun m => { m with counters := upd m.counters n fun c => { c with sat := true } }

theorem exec_monCounterSat_end {n : MonId} (hc : s.mon.counters[n].cnt = 2 ^ 48 - 1) (hs : s.mon.counters[n].sat = false) :
    exec (.monCounterSat n) s = .next ((s.satSet n).emit
      { code := 0x0F01, payload := s.monPayload 0xFF 0xFF 0xFF n.val s.mon.snSeq }) :=
  congrArg Host.Outcome.next (if_pos (by rw [hs, decide_eq_true hc]; rfl))

theorem exec_monCounterSat_none {n : MonId} (h : s.mon.counters[n].cnt ≠ 2 ^ 48 - 1 ∨ s.mon.counters[n].sat = true) :
    exec (.monCounterSat n) s = .next s :=
  congrArg Host.Outcome.next (if_neg (by
    rcases h with h | h
    · rw [decide_eq_false h]; exact Bool.false_ne_true
    · rw [h, Bool.not_true, Bool.and_false]; exact Bool.false_ne_true))

/-! ### The period and its boundaries (R395 to R398) -/

theorem exec_periodBoundary_closes {sec step bcn : Bool} (hr : s.mon.running = true)
    (hc : s.enabledCauses sec (step || s.mon.stepDue) bcn ≠ 0) :
    exec (.periodBoundary sec step bcn) s = .next (s.closePeriod (s.enabledCauses sec (step || s.mon.stepDue) bcn)) :=
  congrArg Host.Outcome.next (if_pos (by rw [hr, bne_iff_ne.2 hc]; rfl))

theorem exec_periodBoundary_none {sec step bcn : Bool}
    (h : s.mon.running = false ∨ s.enabledCauses sec (step || s.mon.stepDue) bcn = 0) :
    exec (.periodBoundary sec step bcn) s = .next s :=
  congrArg Host.Outcome.next (if_neg (by
    rcases h with h | h
    · rw [h]; exact Bool.false_ne_true
    · rw [h, bne_self_eq_false, Bool.and_false]; exact Bool.false_ne_true))

theorem writePcfg_of_reserved (hm : (bit v 31 || bit v 29) = true) (hn : bits v 0 16 = 0) : s.writePcfg v = (s, .limit) :=
  if_pos (by rw [hm, hn]; rfl)

theorem writePcfg_of_allowed (h : (bit v 31 || bit v 29) = false ∨ bits v 0 16 ≠ 0) :
    s.writePcfg v = (s.onMon fun m => { m with pcfg := v &&& 0xE300FFFF }, .ok) :=
  if_neg (by
    rcases h with h | h
    · rw [h]; exact Bool.false_ne_true
    · rw [beq_eq_false_iff_ne.2 h, Bool.and_false]; exact Bool.false_ne_true)

/-- A live read: the high word and SAT latched, the low word returned. -/
def State.liveRead (s : State) (n : MonId) : State :=
  (s.onMon fun m => { m with liveH := upd m.liveH n fun _ => word (flagAt s.mon.counters[n].sat 31 + put (s.mon.counters[n].cnt / 2 ^ 32) 0 16) }).onSys
    fun x => { x with readData := word s.mon.counters[n].cnt }

/-! ### User calibration (R403, R404) -/

section
variable {i : Fin 33} {c : Fin 8}

/-- A user pair set, and waiting to be stored. -/
def State.userSet (s : State) (i : Fin 33) (c : Fin 8) (v : Word) : State := s.onCal fun x =>
  { x with chans := upd x.chans i fun y => upd y c fun z => { z with u := v },
           dirty := (i.val, c.val, v) :: x.dirty.filter fun e => !(e.1 == i.val && e.2.1 == c.val) }

theorem writeCalU_module (hi : i.val = 32) (hc : c ≠ 0) : s.writeCalU i c v k = (s, .badAddr) := if_pos ⟨hi, hc⟩

theorem writeCalU_reserved (hi : i.val ≠ 32) : s.writeCalU i 7 v k = (s, .ok) := (if_neg fun h => hi h.1).trans (if_pos rfl)

theorem writeCalU_out (hm : i.val = 32 → c = 0) (hc : c.val ≠ 7)
    (h : 20971 < (sbits v 16 16).natAbs ∨ 20971 < (sbits v 0 16).natAbs) : s.writeCalU i c v k = (s, .limit) :=
  (if_neg fun h => h.2 (hm h.1)).trans ((if_neg hc).trans (if_pos (by
    unfold calLimit; exact h.imp Int.ofNat_lt.2 Int.ofNat_lt.2)))

theorem writeCalU_in (hm : i.val = 32 → c = 0) (hc : c.val ≠ 7) (hg : (sbits v 16 16).natAbs ≤ 20971)
    (ho : (sbits v 0 16).natAbs ≤ 20971) : ∃ e, s.writeCalU i c v k = ((s.userSet i c v).emit e, .ok) := by
  have hlim : ¬ (calLimit < (sbits v 16 16).natAbs ∨ calLimit < (sbits v 0 16).natAbs) := by
    unfold calLimit
    rintro (h | h)
    · exact absurd (Int.ofNat_lt.1 h) (Nat.not_lt.2 hg)
    · exact absurd (Int.ofNat_lt.1 h) (Nat.not_lt.2 ho)
  unfold State.writeCalU
  dsimp only
  rw [if_neg fun h => h.2 (hm h.1), if_neg hc, if_neg hlim]
  exact ⟨_, rfl⟩

end

/-- CAL_CMD written. -/
def State.calCmdSet (s : State) (v : Word) : State := s.onCal fun x => { x with cmd := v &&& 0x00031FF0 }

/-- The user pairs that CAL_CMD names are cleared, set, stored or waiting. -/
def State.calCleared (s : State) (v : Word) : State := (s.calCmdSet v).onCal fun x =>
  { x with chans := updAll x.chans fun i y => updAll y fun c z => if (calNamed v).contains (i.val, c.val) then { z with u := 0 } else z,
           stored := x.stored.filter fun e => !(calNamed v).contains (e.1, e.2.1),
           dirty := x.dirty.filter fun e => !(calNamed v).contains (e.1, e.2.1) }

theorem writeCalCmd_reserved (h : bits v 4 3 = 7) : s.writeCalCmd v k = (s, .limit) := if_pos h

theorem writeCalCmd_idle (h : bits v 4 3 ≠ 7) (hb : bit v 0 = false) : s.writeCalCmd v k = (s.calCmdSet v, .ok) :=
  (if_neg h).trans (if_neg (by rw [hb]; exact Bool.false_ne_true))

theorem writeCalCmd_clear (h : bits v 4 3 ≠ 7) (hb : bit v 0 = true) :
    ∃ e, s.writeCalCmd v k = ((s.calCleared v).emit e, .ok) := by
  unfold State.writeCalCmd
  dsimp only
  rw [if_neg h, if_pos hb]
  exact ⟨_, rfl⟩

theorem calCleared_chans (s : State) (v : Word) (i : Fin 33) (c : Fin 8) : (s.calCleared v).cal.chans[i][c] =
    if (calNamed v).contains (i.val, c.val) = true then { s.cal.chans[i][c] with u := 0 } else s.cal.chans[i][c] := by
  unfold State.calCleared State.calCmdSet
  rw [State.onCal_cal, State.onCal_cal]
  dsimp only
  rw [updAll_get, updAll_get]

theorem calCleared_keep {fr : List Part} (s : State) (v : Word) (hp : sub [.cal] fr = true) : Keep fr s (s.calCleared v) :=
  onCal_keep _ _ (onCal_keep s _ (.refl s) hp) hp

end

/-- Settles O54: each command, once its gate and its conditions hold, is one change of counters, snapshot or calibration. -/
theorem countersGaugesAndCalibrationAct : Obligations.CountersGaugesAndCalibrationAct := by
  unfold Obligations.CountersGaugesAndCalibrationAct
  refine ⟨fun sec step bcn s hr hc => ?boundary, fun sec step bcn s h => ?noBoundary, fun n s hc hs => ?sat, fun n s h => ?noSat,
    fun k s hg => ?latch, fun v k s hg hm hn => ?reserved, fun v k s hg h => ?pcfg, fun v k s hg => ?pcfg2,
    fun n k s hg => ?live, fun i c v k s hg hi hc => ?module, fun i v k s hg hi => ?channel7,
    fun i c v k s hg hm hc h => ?outOfRange, fun i c v k s hg hm hc hgu hou => ?userSet, fun s => ?store,
    fun v k s hg h => ?clear7, fun v k s hg h hb => ?noClear, fun v k s hg h hb => ?clear,
    fun c g i j n b v k s hc hg => ?refused⟩
  case boundary => exact ⟨_, exec_periodBoundary_closes hr hc, rfl, (closePeriod_keep s _ (.refl s) rfl : Keep [.mon] s _).toOnly⟩
  case noBoundary => exact ⟨s, exec_periodBoundary_none h, rfl⟩
  case sat =>
    have hset : (s.satSet n).mon.counters[n].sat = true := congrArg Counter.sat (upd_same _ n _)
    exact ⟨_, exec_monCounterSat_end hc hs, (emit_sat _ _ n).trans hset,
      (emit_keep _ _ (onMon_keep s _ (.refl s) rfl) rfl : Keep [.sys, .log, .mon] s _).toOnly⟩
  case noSat => exact ⟨s, exec_monCounterSat_none h, rfl⟩
  case latch =>
    exact ⟨_, gated_acts_ok rfl hg rfl, rfl, rfl, told_only _ _ (closePeriod_keep s _ (.refl s) rfl) rfl⟩
  case reserved =>
    exact gated_turned_away rfl hg (writePcfg_of_reserved hm hn) (by decide)
  case pcfg =>
    exact ⟨_, gated_acts_ok rfl hg (writePcfg_of_allowed h), rfl, rfl, told_only _ _ (onMon_keep s _ (.refl s) rfl) rfl⟩
  case pcfg2 =>
    exact ⟨_, gated_acts_ok rfl hg rfl, rfl, rfl, told_only _ _ (onMon_keep s _ (.refl s) rfl) rfl⟩
  case live =>
    exact ⟨_, gated_acts_ok (u := s.liveRead n) rfl hg rfl, rfl, rfl,
      told_only _ _ (onSys_keep _ _ (onMon_keep s _ (.refl s) rfl) rfl) rfl⟩
  case module =>
    exact gated_turned_away rfl hg (writeCalU_module hi hc) (by decide)
  case channel7 =>
    exact ⟨_, gated_acts_ok rfl hg (writeCalU_reserved hi), rfl, told_only _ _ (.refl s) rfl⟩
  case outOfRange =>
    exact gated_turned_away rfl hg (writeCalU_out hm hc h) (by decide)
  case userSet =>
    obtain ⟨e, he⟩ := writeCalU_in (s := s) (k := k) hm hc hgu hou
    exact ⟨_, gated_acts_ok rfl hg he, emit_cal _ _, congrArg (List.cons _) (emit_answers _ _),
      told_only _ _ (emit_keep _ _ (onCal_keep s _ (.refl s) rfl) rfl) rfl⟩
  case store => exact ⟨_, rfl, rfl, (onCal_keep s _ (.refl s) rfl : Keep [.cal] s _).toOnly⟩
  case clear7 =>
    exact gated_turned_away rfl hg (writeCalCmd_reserved h) (by decide)
  case noClear =>
    exact ⟨_, gated_acts_ok rfl hg (writeCalCmd_idle h hb), rfl, rfl, told_only _ _ (onCal_keep s _ (.refl s) rfl) rfl⟩
  case clear =>
    obtain ⟨e, he⟩ := writeCalCmd_clear (s := s) (k := k) h hb
    have hcal := emit_cal (s.calCleared v) e
    exact ⟨_, gated_acts_ok rfl hg he, congrArg CalState.cmd hcal, congrArg (List.cons _) (emit_answers _ _),
      fun i c => (congrArg (fun x : CalState => x.chans[i][c]) hcal).trans (calCleared_chans s v i c), congrArg CalState.stored hcal,
      congrArg CalState.dirty hcal, told_only _ _ (emit_keep _ _ (calCleared_keep s v rfl) rfl) rfl⟩
  case refused =>
    have hanswer : State.Only [.sys, .hie, .mon] s (s.answer (s.me k) g) := (answer_keep s _ _ (.refl s) rfl : Keep _ s _).toOnly
    refine ⟨_, ?_, rfl, hanswer⟩
    rcases hc with ⟨rfl, rfl⟩ | ⟨rfl, rfl⟩ | ⟨rfl, rfl⟩ | ⟨rfl, rfl⟩ | ⟨rfl, rfl⟩ <;> exact next_gated_refused hg

end Sys2Proof.Machine
end
